-- ==== Sys2Proof/Word.lean ====
section
/-! DEFINITION. The byte type and its plainest arithmetic. -/

namespace Sys2Proof

/-- A byte. -/
abbrev Byte := BitVec 8

end Sys2Proof
end

