-- ==== Sys2Proof/Syntax.lean ====
section
/-! DEFINITION. The commands the block takes, and the data they carry: frames, strap codes, measured values. -/

namespace Sys2Proof

/-- Cable diagnostic results, R154. -/
inductive Diag where
  | none
  | good
  | unconnected
  | open
  | short
deriving DecidableEq, Repr

/-- The Fumarole paths of Table 4.3, R101. -/
inductive FPath where
  | stat
  | bpo0
  | bpo1
  | bpo2
  | bpo3
  | net
deriving DecidableEq, Repr

/-- The references of Table 6.1. -/
inductive Ref where
  | net
  | bpi0
  | bpi1
  | wclk
  | local
deriving DecidableEq, Repr

/-- An audio sample with its concealed mark, R198. -/
structure Sample where
  /-- Value, -2^23 to 2^23 - 1 (09_routing_profiles.md R198). -/
  v : Int := 0
  /-- Concealed (09_routing_profiles.md R198). -/
  c : Bool := false
deriving DecidableEq, Repr

/-- The SecTAG of Table 11.2 and the ICV of a protected frame. -/
structure SecTag where
  /-- TCI and AN byte (11_tenants_security.md R245). -/
  tci : BitVec 8 := 0x2C#8
  /-- Short length (11_tenants_security.md R245). -/
  sl : BitVec 8 := 0#8
  /-- Packet number (11_tenants_security.md R245). -/
  pn : Nat := 0
  /-- SCI, the sender's EUI-48 (11_tenants_security.md R244). -/
  sciEui : BitVec 48 := 0#48
  /-- SCI, the port identifier (11_tenants_security.md R244). -/
  sciPort : BitVec 16 := 0#16
  /-- ICV (11_tenants_security.md R245). -/
  icv : BitVec 128 := 0#128
deriving DecidableEq, Repr

/-- What a link partner's Clause 98 base page shows (R156, Table 7.1). -/
structure AnPage where
  /-- It advertises the port's own speed. -/
  same : Bool := true
  /-- It advertises EEE. -/
  eee : Bool := true
  /-- It seeks master. -/
  master : Bool := false
  /-- Its transmitted nonce is the higher, so that it becomes master where both sides seek the same role. -/
  wins : Bool := false
deriving DecidableEq, Repr

/-- The priority vector an Announce carries, Table 8.1. -/
structure GmVector where
  /-- Priority1 (08_time_streams.md R172). -/
  priority1 : Nat := 255
  /-- ClockClass (08_time_streams.md R171). -/
  clockClass : Nat := 248
  /-- ClockAccuracy (08_time_streams.md R171). -/
  accuracy : Nat := 254
  /-- OffsetScaledLogVariance (08_time_streams.md R171). -/
  variance : Nat := 65535
  /-- Priority2 (08_time_streams.md R171). -/
  priority2 : Nat := 0
  /-- Grandmaster clockIdentity (08_time_streams.md R171). -/
  identity : BitVec 64 := 0#64
  /-- StepsRemoved (08_time_streams.md R171). -/
  steps : Nat := 0
  /-- ClockIdentity of the sending port's device (08_time_streams.md R171). -/
  sender : BitVec 64 := 0#64
  /-- TimeSource of the grandmaster, which no comparison reads (08_time_streams.md R171). -/
  timeSource : Nat := 0xA0
deriving DecidableEq, Repr

/-- An AAF header and its samples, Table 8.5. -/
structure Aaf where
  /-- Subtype (08_time_streams.md R181). -/
  subtype : BitVec 8 := 0x02#8
  /-- Sv (08_time_streams.md R181). -/
  sv : Bool := true
  /-- Version (08_time_streams.md R181). -/
  version : Nat := 0
  /-- Mr (08_time_streams.md R181). -/
  mr : Bool := false
  /-- Tv (08_time_streams.md R181). -/
  tv : Bool := true
  /-- Sequence_num (08_time_streams.md R181). -/
  seqNum : BitVec 8 := 0#8
  /-- Tu (08_time_streams.md R181). -/
  tu : Bool := false
  /-- Stream ID, the talker's EUI-48 (08_time_streams.md R177). -/
  streamEui : BitVec 48 := 0#48
  /-- Stream ID, T, K and NN (08_time_streams.md R177). -/
  streamLow : BitVec 16 := 0#16
  /-- Avtp_timestamp (08_time_streams.md R181). -/
  ts : BitVec 32 := 0#32
  /-- Format (08_time_streams.md R181). -/
  format : Nat := 3
  /-- Nominal sample rate (08_time_streams.md R181). -/
  nsr : Nat := 5
  /-- Channels_per_frame (08_time_streams.md R181). -/
  channels : Nat := 1
  /-- Bit_depth (08_time_streams.md R181). -/
  bitDepth : Nat := 24
  /-- Stream_data_length (08_time_streams.md R181). -/
  dataLen : Nat := 0
  /-- Sp (08_time_streams.md R181). -/
  sp : Bool := false
  /-- Evt (08_time_streams.md R181). -/
  evt : Nat := 0
  /-- The samples in the frame's own format, sample by sample, each a list of channels (08_time_streams.md R184). -/
  samples : List (List Int) := []
deriving DecidableEq, Repr

/-- A CRF header and its timestamp, R182. -/
structure Crf where
  /-- Subtype (08_time_streams.md R182). -/
  subtype : BitVec 8 := 0x04#8
  /-- Sv (08_time_streams.md R182). -/
  sv : Bool := true
  /-- Version (08_time_streams.md R182). -/
  version : Nat := 0
  /-- Mr (08_time_streams.md R182). -/
  mr : Bool := false
  /-- Fs (08_time_streams.md R182). -/
  fs : Bool := false
  /-- Tu (08_time_streams.md R182). -/
  tu : Bool := false
  /-- Sequence_num (08_time_streams.md R190). -/
  seqNum : BitVec 8 := 0#8
  /-- Type (08_time_streams.md R182). -/
  type_ : Nat := 1
  /-- Stream ID, the talker's EUI-48 (08_time_streams.md R177). -/
  streamEui : BitVec 48 := 0#48
  /-- Stream ID, T, K and NN (08_time_streams.md R177). -/
  streamLow : BitVec 16 := 0#16
  /-- Pull (08_time_streams.md R182). -/
  pull : Nat := 0
  /-- Base_frequency (08_time_streams.md R182). -/
  base : Nat := 48000
  /-- Crf_data_length (08_time_streams.md R182). -/
  dataLen : Nat := 8
  /-- Timestamp_interval (08_time_streams.md R182). -/
  interval : Nat := 480
  /-- The timestamp (08_time_streams.md R182). -/
  stamp : Nat := 0
deriving DecidableEq, Repr

/-- gPTP messages, R171. -/
inductive GptpMsg where
  /-- Sync and its Follow_Up, with the precise origin time corrected to the receiving port. -/
  | sync (seq : BitVec 16) (origin : Nat)
  /-- Announce. -/
  | announce (seq : BitVec 16) (v : GmVector)
  /-- Pdelay request. -/
  | pdelayReq (seq : BitVec 16)
  /-- Pdelay response and its follow-up, with the responder's receive and transmit times. -/
  | pdelayResp (seq : BitVec 16) (rx : Nat) (tx : Nat)
deriving DecidableEq, Repr

/-- What a frame carries after its tags. -/
inductive FrameBody where
  /-- EtherType 0x88F7. -/
  | gptp (m : GptpMsg)
  /-- An AAF frame, with the R-TAG's sequence number where it has one. -/
  | aaf (rtag : Option (BitVec 16)) (a : Aaf)
  /-- A CRF frame. -/
  | crf (rtag : Option (BitVec 16)) (c : Crf)
  /-- Any other EtherType (0x88B5 Fumarole, 0x88B6 partner, 0x88B7 pairing and image frames) with its body. -/
  | bytes (etherType : BitVec 16) (body : List (BitVec 8))
deriving DecidableEq, Repr

/-- An Ethernet frame on a network port, R180. -/
structure NetFrame where
  /-- Destination address (08_time_streams.md R180). -/
  dst : BitVec 48 := 0#48
  /-- Source address (08_time_streams.md R180). -/
  src : BitVec 48 := 0#48
  /-- PCP and VLAN ID of the 802.1Q tag (08_time_streams.md R180). -/
  vlan : Option (Nat × Nat) := none
  /-- Protection (11_tenants_security.md R245). -/
  sec : Option SecTag := none
  /-- The rest, as it is in clear (08_time_streams.md R180). -/
  body : FrameBody := .bytes 0#16 []
  /-- Length from the destination address to the FCS (08_time_streams.md R180). -/
  octets : Nat := 64
deriving DecidableEq, Repr

/-- The voltage of one strap pin over a reading window, in microvolts against a strap reference of 1.2 V: what it is at the
window's start t_w, and its changes, each with its time after t_w in ns, oldest first (R36). -/
structure StrapPin where
  /-- At t_w. -/
  volts : Nat := 0
  /-- Changes within the window. -/
  later : List (Nat × Nat) := []
deriving DecidableEq, Repr

/-- A TIE frame as its bytes, from the type byte to the CRC (R223). -/
abbrev TieFrame := List (BitVec 8)

/-- A frame of the other device of a pair: on TIE, or as a partner frame on the network (R227). -/
inductive PairFrame where
  /-- On TIE. -/
  | tie (b : TieFrame)
  /-- A partner frame. -/
  | net (f : NetFrame)
deriving DecidableEq, Repr

/-- A USB setup packet. -/
structure UsbSetup where
  /-- bmRequestType. -/
  bmType : BitVec 8 := 0#8
  /-- bRequest. -/
  bRequest : BitVec 8 := 0#8
  /-- wValue. -/
  value : BitVec 16 := 0#16
  /-- wIndex. -/
  index : BitVec 16 := 0#16
  /-- wLength. -/
  length : BitVec 16 := 0#16
deriving DecidableEq, Repr

/-- A biphase preamble (Table 12.1). -/
inductive Preamble where
  /-- Block start, subframe 1. -/
  | b
  /-- Subframe 1. -/
  | m
  /-- Subframe 2. -/
  | w
deriving DecidableEq, Repr

/-- A biphase subframe (Table 12.1): its preamble, none where it is missing, and time slots 4 to 31 as bits 0 to 27. -/
structure Subframe where
  /-- Time slots 0 to 3. -/
  pre : Option Preamble := none
  /-- Time slots 4 to 31. -/
  bits : BitVec 28 := 0#28
deriving DecidableEq, Repr

/-- A biphase frame as the decoder takes it from a BPI land: its subframes and the frame rate measured against REF, in mHz. -/
structure BiphaseFrame where
  /-- Subframe 1. -/
  first : Subframe := {}
  /-- Subframe 2. -/
  second : Subframe := {}
  /-- Measured frame rate in mHz. -/
  rate : Nat := 0
deriving DecidableEq, Repr

/-- What one bring-up attempt of the flash meets (R403). -/
structure FlashTry where
  /-- The SFDP signature was returned in 1S-1S-1S mode. -/
  sfdp : Bool := true
  /-- Every required table is there. -/
  tables : Bool := true
  /-- Density in MiB. -/
  mib : Nat := 16
  /-- The octal DDR read of the SFDP agrees with the first. -/
  match8 : Bool := true
deriving DecidableEq, Repr
/-- What one bring-up attempt of the PSRAM meets (R408). -/
structure PsramTry where
  /-- Every read showed a data strobe. -/
  strobe : Bool := true
  /-- A pattern or the header read back other than the part's wrap makes it. -/
  mismatch : Bool := false
  /-- Address of the read that failed. -/
  addr : Nat := 0
  /-- Size of the part in MiB. -/
  mib : Nat := 8
deriving DecidableEq, Repr

/-- What Wellspring measured of a reference over one window (R130): the presence condition, the frame rate it counts as,
and the ten sub-window frequencies as offsets from nominal in ppb. -/
structure RefMeas where
  /-- The presence condition held throughout the window. -/
  present : Bool := false
  /-- Frame rate in Hz the input counts as, 0 outside every band. -/
  rate : Nat := 0
  /-- Ten sub-window offsets in ppb. -/
  sub : List Int := []
deriving DecidableEq, Repr

/-- How a flash program or erase failed (detail of F920). -/
inductive FlashCause where
  /-- Status showed an error bit. -/
  | status
  /-- The busy time exceeded its limit. -/
  | time
  /-- The read-back differed. -/
  | readBack
deriving DecidableEq, Repr

/-- The cause byte of F920. -/
def FlashCause.code : FlashCause → Nat
  | .status => 0 | .time => 1 | .readBack => 2

/-- What wakes a sleeping device (R89). -/
inductive WakeCause where
  /-- WAKE asserted. -/
  | wake
  /-- CUE0 to CUE3 changed away from code 0. -/
  | cue (code : Fin 16)
  /-- Frames on a linked port outside a window, a new link, or TIE activity. -/
  | link
  /-- VIN returned. -/
  | vin
deriving DecidableEq, Repr

/-- A request made on a memory bus (R411): the bus, its class of Table 19.3 or its place in the order of R413, and whether it
writes. -/
structure BusAsk where
  /-- Silo rather than flash. -/
  silo : Bool := true
  /-- Class or place. -/
  cls : Nat := 1
  /-- A write, program or erase. -/
  write : Bool := false
  /-- Requester. -/
  owner : Nat := 0
  /-- Address. -/
  addr : Nat := 0
  /-- Bytes. -/
  len : Nat := 0
deriving DecidableEq, Repr

/-- What the plant die senses of the pack over one millisecond (R465, R469, R477). -/
structure PackReading where
  /-- BAT_NTC over its reference, in parts per million. -/
  ntcPpm : Nat := 500000
  /-- VBAT_S in mV. -/
  vbatMv : Nat := 0
  /-- Pack current in mA, positive into the pack. -/
  packMa : Int := 0
  /-- The power stage has been out of regulation for 100 ms. -/
  stageBad : Bool := false
  /-- The pack current is not plausible with the charger's state. -/
  implausible : Bool := false
deriving DecidableEq, Repr

/-- What the plant die senses of one loudspeaker stage over a block (R481, R487). -/
structure SpkSense where
  /-- Mean electrical power in mW. -/
  mw : Nat := 0
  /-- Coil resistance in mΩ. -/
  mohm : Nat := 0
  /-- Signal power below f_s in mW. -/
  lowMw : Nat := 0
deriving DecidableEq, Repr

/-- Where an audio sample of a memory word stands in the present block (Table 23.4). -/
inductive SampleAt where
  /-- A slot of a frame read from a TDM port. -/
  | tdm (port : Fin 2) (i : Nat) (slot : Nat)
  /-- A microphone's sample. -/
  | mic (m : Nat) (i : Nat)
  /-- A channel of a USB OUT sample frame. -/
  | usb (i : Nat) (ch : Nat)
  /-- A sample of a local output block. -/
  | output (k : Nat) (i : Nat)
  /-- A channel of a received stream at a position. -/
  | playout (stream : Nat) (pos : Nat) (ch : Nat)
deriving DecidableEq, Repr

/-- What an uncorrectable word held, the rows of Table 23.4. -/
inductive SramContent where
  /-- Samples of an input, output or playout block. -/
  | samples (l : List SampleAt)
  /-- Samples of the clip voice buffer: block of the mix, sample, and side. -/
  | clip (l : List (Nat × Nat × Bool))
  /-- A talker frame. -/
  | talker (f : NetFrame)
  /-- A received frame. -/
  | received
  /-- The staging part, at a context's state. -/
  | staging (ctx : Fin 16)
  /-- A Fumarole buffer: the frame at a place of a path's queue. -/
  | fumarole (path : FPath) (k : Nat)
  /-- The TIE buffer. -/
  | tie
  /-- The loft; its row says whose. -/
  | loft
  /-- Control data of the control processor. -/
  | control
deriving DecidableEq, Repr

/-- What the device meets at a block boundary: its instant, the microphone bits and leader-port frames of the block that begins,
and what it samples there (R27, R290, R303, R444, R479, R481). -/
structure BoundaryIn where
  /-- The instant. -/
  t : Nat
  /-- Levels of PDM_D0 and PDM_D1 at the rising and the falling edge of each PDM clock period, media sample period by media sample
  period. -/
  pdm : List (List (List (Bool × Bool))) := []
  /-- The 32-bit words of the slots of TDM port 0 where it leads, first period first, one frame for each sample. -/
  tdm0 : List (List (BitVec 32)) := []
  /-- The same of TDM port 1 where it leads. -/
  tdm1 : List (List (BitVec 32)) := []
  /-- CUE3 to CUE0. -/
  cue : Fin 16 := 0
  /-- WAKE. -/
  wake : Bool := false
  /-- PVDD_A in mV. -/
  pvddMv : Nat := 0
  /-- What was sensed of SPK0 over the block that ends. -/
  spk0 : SpkSense := {}
  /-- What was sensed of SPK1. -/
  spk1 : SpkSense := {}
  /-- Core die temperature in °C. -/
  coreTemp : Int := 25
  /-- Plant die temperature in °C. -/
  plantTemp : Int := 25
deriving DecidableEq, Repr

/-- The commands: one constructor for each row of the opcode table. -/
inductive Instr where
  /-- POWER_ON_RESET (R69): VSYS rises through the plant die's start threshold and the device begins a new start, clearing the failed-start counter if the always-on domain had lost power. -/
  | powerOnReset (t : Nat) (aoLost : Bool) (tcxoIn : Bool)
  /-- RESET_N_ASSERT (R69): RESET_N is held low for at least its minimum width, ending any start or mode without counting a failed start. -/
  | resetNAssert (t : Nat) (lowNs : Nat)
  /-- RESET_RELEASE (R9): t_reset arrives at the later of the RESET_N rising edge and the end of internal power-on reset; the control processor runs from ROM, reads the counter and arms the watchdog. -/
  | resetRelease (resetNRise : Nat) (porEnd : Nat)
  /-- SUPPLY_SUPERVISOR_RESET (R464): VSYS falls below the brown-out threshold or an internal rail leaves regulation, and the device is reset without counting a failed start. -/
  | supplySupervisorReset (t : Nat)
  /-- WATCHDOG_EXPIRY (R70): The control-processor watchdog sees no service for 100 ms and resets the device with F002, F003 or F004 and the matching counter change. -/
  | watchdogExpiry (t : Nat)
  /-- START_DEADLINE (R76): t_reset + 30 s passes before running; the device records F001, increments the counter and resets. -/
  | startDeadline
  /-- PRE_START_PAIR (R593): With VIN valid before t_reset the plant die takes two SP_BATT readings 10 ms apart and derives a pre-start level that may start pre-conditioning. -/
  | preStartPair (t : Nat) (first second : StrapPin)
  /-- PRECONDITION_BEFORE_START (R473): The plant die pre-conditions a deeply discharged pack and releases power-on reset when VBAT_S reaches its threshold or 10 min pass. -/
  | preconditionBeforeStart (t : Nat) (vbatMv : Nat)
  /-- STRAP_READING (R42): At t_reset + 10 ms and + 20 ms the strap front end takes a reading window of five conversions per pin in index order. -/
  | strapReading (pins : Vector StrapPin 13)
  /-- STRAP_LATCH (R43): At t_latch the two readings are compared, levels latched, validity and counter checks run, pull-ups disconnected and plant ceilings applied, or SAFE is entered. -/
  | strapLatch
  /-- STRAP_REREAD (R47): Every 60 s the straps are re-read twice and a strap found changed raises F14S once per reset without changing behaviour. -/
  | strapReread (a b : Vector StrapPin 13)
  /-- PAIR_DEBOUNCED_CHANGE (R550): Twenty consecutive 1 ms samples of PAIR agree and the debounced level changes. -/
  | pairDebouncedChange (t : Nat) (samples : List Bool)
  /-- PAIR_HOLD_CLEAR (R80): PAIR held from t_latch to t_reset + 5 s clears the failed-start counter, records F011 and lets the start continue. -/
  | pairHoldClear
  /-- PAIR_RELEASE_EARLY (R80): With the counter at 3, PAIR released before t_reset + 5 s sends the device to SAFE with F010. -/
  | pairReleaseEarly (t : Nat)
  /-- FLASH_BRINGUP (R403): At t_latch the flash is reset, its SFDP read in 1S and 8D modes, and it is found present or absent after up to three attempts. -/
  | flashBringup (t : Nat) (tries : List FlashTry)
  /-- IMAGE_VERIFY (R441): Both slots are checked in candidate order and the first that verifies becomes the active slot, raising F200 or F201 as needed. -/
  | imageVerify (t : Nat) (spoil : Bool × Bool)
  /-- LOFT_LOAD (R374): The selected model set's weight section is copied into the loft and each context's CRC is checked, with one reload before failure. -/
  | loftLoad (t : Nat) (good : Bool × Bool)
  /-- THRESHER_SELF_CHECK (R363): Golden vectors run through all 66 columns at start and failing columns are retired into spares or the start fails. -/
  | thresherSelfCheck (t : Nat) (failing : List (Fin 66))
  /-- PSRAM_BRINGUP (R408): At step 5 the PSRAM is reset, sized by pattern writes and given the Silo header, in up to three attempts. -/
  | psramBringup (t : Nat) (tries : List PsramTry)
  /-- DATA_PATH_SETUP (R25): The control processor computes the schedule, fills DMA register sets, builds switch tables and programs the ASRC bank and framers. -/
  | dataPathSetup (t : Nat) (entropyOk : Bool)
  /-- START_REFERENCE_DEADLINE (R73): At t_latch + 10 s Wellspring selects the highest-ordered qualified reference and raises F020 if it is not the first. -/
  | startReferenceDeadline
  /-- RUNNING_ENTRY (R72): Once set-up, self-check, lock and gPTP conditions hold, the device enters its mode and sends the mode change, start report and first heartbeat. -/
  | runningEntry (t : Nat)
  /-- FAILED_START_COUNTER_CLEAR (R77): At t_run + 60 s without a counted reset, the failed-start counter is cleared to 0 and logged. -/
  | failedStartCounterClear
  /-- BLOCK_BOUNDARY (R29): At each 1 ms block boundary pending interventions are applied in their fixed order and the data path advances one block. -/
  | blockBoundary (x : BoundaryIn)
  /-- FAULT_FOLD_EXPIRY (R98): At the end of a fault code's one-second fold, a folded event carrying the count is sent to the open paths. -/
  | faultFoldExpiry (code : BitVec 16)
  /-- LEADER_ABSENT_TIMEOUT (R591): A tenant leader not heard for 3 s becomes absent; a member or partner raises F410 and followers switch to the other leader. -/
  | leaderAbsentTimeout (n : Option (BitVec 8))
  /-- DIE_LINK_LOSS (R23): The die-to-die link loses clock or framing for 100 µs; the plant die turns stages off and floats the motor while the core tries to restore it. -/
  | dieLinkLoss (t : Nat)
  /-- DIE_LINK_RESTORED (R23): The die-to-die link is restored within 10 ms and FF01 is recorded. -/
  | dieLinkRestored (t : Nat)
  /-- DIE_LINK_RESTORE_TIMEOUT (R76): The die-to-die link is not restored within 10 ms; FF00 is recorded and the device resets as a watchdog reset. -/
  | dieLinkRestoreTimeout
  /-- CLOCK_MONITOR_LOSS (R122): A clock monitor declares an internal clock lost and writes FF20 and its detail into the always-on fault store. -/
  | clockMonitorLoss (t : Nat) (domains : BitVec 18)
  /-- CLOCK_LOSS_RESET (R123): The always-on domain acknowledges the FF20 writes and the held clock-monitor reset takes place. -/
  | clockLossReset (t : Nat)
  /-- SLUMBER_CONDITIONS_HELD (R83): The SLUMBER conditions have held continuously for 60 s and entry is decided for the next free block boundary. -/
  | slumberConditionsHeld (since : Nat)
  /-- SLUMBER_POWER_DOWN (R84): Once the STAT and network queues have drained, the core die powers down except the always-on domain and low-power receiver. -/
  | slumberPowerDown (t : Nat)
  /-- BEACON_WINDOW_OPEN (R86): A sleeping member or partner wakes at an expected beacon instant and listens in its window. -/
  | beaconWindowOpen
  /-- BEACON_RECEIVE (R86): A leader beacon received in the window realigns the schedule and wakes the device if it carries the stay-awake flag. -/
  | beaconReceive (t : Nat) (from_ : BitVec 8) (stamp : Nat) (stayAwake : Bool)
  /-- BEACON_WINDOW_CLOSE (R87): A window closes without a beacon and the device sleeps or advances its beacon search. -/
  | beaconWindowClose
  /-- BEACON_SEARCH_FAILED (R87): The 2 s continuous listen ends without a beacon; the device leaves SLUMBER, raises F470 and reacquires. -/
  | beaconSearchFailed
  /-- PARTNER_WAKE_ANSWER_TIMEOUT (R88): 30 ms after a partner's wake request the partner's loss-detection timers start against an unanswering leader. -/
  | partnerWakeAnswerTimeout
  /-- WAKE_EVENT (R89): WAKE, a cue change, link activity, VIN return or a stay-awake beacon wakes the device, which reloads the loft and leaves self-refresh. -/
  | wakeEvent (t : Nat) (cause : WakeCause)
  /-- SLUMBER_RESUME (R89): At the first block boundary after t_wake + 30 ms the data path resumes on holdover and the device re-enters its mode. -/
  | slumberResume (x : BoundaryIn)
  /-- HEARTBEAT_SEND (R96): At the device's scheduled instant each second a heartbeat is generated for every open path, dropped on a full path. -/
  | heartbeatSend
  /-- TELEMETRY_SEND (R93): 500 ms after each heartbeat, while the plant is active, a plant telemetry frame is generated. -/
  | telemetrySend
  /-- REPLAY_SEND (R97): After the first heartbeat following running or SAFE entry and flash bring-up, the ash-log replay is sent in parts. -/
  | replaySend (t : Nat)
  /-- FUMAROLE_QUEUE_ROOM (R100): A path has sent enough to take a waiting frame, which enters its queue with the frames waiting behind it. -/
  | fumaroleQueueRoom (t : Nat) (path : FPath)
  /-- FUMAROLE_FRAME_RECEIVE (R103): A kind 4 frame of the device's tenant is offered to the endpoint, which reads its type, mode and header to learn the leader address. -/
  | fumaroleFrameReceive (t : Nat) (f : NetFrame)
  /-- ASH_LOG_ENTRY_WRITE (R109): An ash-log entry is programmed, read back and committed by its marker, or written once more after a failure with F920. -/
  | ashLogEntryWrite (t : Nat) (failed : Option FlashCause)
  /-- ASH_LOG_FOLD_EXPIRY (R111): A code's 60 s log fold window ends and one entry records the folded occurrences. -/
  | ashLogFoldExpiry (code : BitVec 16)
  /-- ASH_LOG_HOUR_RESUME (R111): The rolling hour allows writing again and one FD10 entry records how many entries were dropped. -/
  | ashLogHourResume
  /-- QUALIFICATION_WINDOW_END (R130): At the end of each 1 s window every reference is judged and qualifies if every condition held. -/
  | qualificationWindowEnd (net bpi0 bpi1 wclk : RefMeas)
  /-- REFERENCE_LOSS (R131): A qualified reference meets a loss condition; it is disqualified and, if selected, holdover begins with F301 or F311. -/
  | referenceLoss (t : Nat) (r : Ref) (crf : Bool)
  /-- REFERENCE_BAR_EXPIRY (R132): 60 s after its last loss a barred reference may qualify again. -/
  | referenceBarExpiry (r : Ref)
  /-- HOLDOVER_LIMIT_EXPIRY (R147): The holdover limit passes with no reference qualified and LOCAL is selected if it is in the order. -/
  | holdoverLimitExpiry
  /-- HARDWARE_LOOP_UPDATE (R137): Once per reference frame the hardware phase detector compares the target with the divided media clock and drives the DCO. -/
  | hardwareLoopUpdate (t : Nat) (err : Int)
  /-- BANDWIDTH_STEP (R140): Every 2 s from lock the loop bandwidth halves until it reaches the target. -/
  | bandwidthStep
  /-- SWITCH_FREQUENCY_STAGE_END (R142): The slewing output reaches the new reference's frequency within 0.01 ppm and the phase stage begins, or a LOCAL switch ends. -/
  | switchFrequencyStageEnd (t : Nat) (err : Int)
  /-- SWITCH_PHASE_STAGE_END (R142): The phase error and frequency offset reach zero together and the loop closes at acquisition bandwidth. -/
  | switchPhaseStageEnd (t : Nat)
  /-- HISTORY_WINDOW_COMPLETE (R145): Every 64 s while locked at target a frequency history window is stored in retention RAM and added to the aging accumulator. -/
  | historyWindowComplete
  /-- CABLE_DIAGNOSTIC (R154): At t_latch each enabled port's pair is classified and an open or short raises F402. -/
  | cableDiagnostic (a b : Diag × Nat)
  /-- LINK_MODE_ALTERNATE (R156): After 2 s without link a port alternates between auto-negotiation and forced operation. -/
  | linkModeAlternate (u : Fin 2) (page : Option AnPage)
  /-- PHY_LINK_CHANGE (R158): The PHY link status changes; while false the port transmits nothing and discards its egress. -/
  | phyLinkChange (t : Nat) (u : Fin 2) (up : Bool) (page : Option AnPage)
  /-- LINK_DECLARE (R157): The PHY link status holds its new value for 200 ms and the port's declared state changes, raising F400 or F401 as due. -/
  | linkDeclare (u : Fin 2)
  /-- LINK_UP_DEADLINE (R159): At t_latch + 10 s a good port not yet up raises F400 with reason 1 or 2. -/
  | linkUpDeadline (u : Fin 2)
  /-- LINK_CHANGE_QUIET (R159): 60 s without a declared change clears F401. -/
  | linkChangeQuiet (u : Fin 2)
  /-- PODL_CLASSIFICATION (R160): The PSE's SCCP classification read is answered with the accepted unregulated classes. -/
  | podlClassification (t : Nat)
  /-- PODL_POWER_APPLIED (R160): The PSE applies power and the front end drives PODL_EN high. -/
  | podlPowerApplied (t : Nat) (volts24 : Bool) (pairMv : Nat)
  /-- PODL_POWER_TIMEOUT (R161): Power is not applied within 2 s of a classification exchange while running and FA40 is raised. -/
  | podlPowerTimeout
  /-- FRAME_INGRESS (R162): A received frame is sent to gPTP, dropped, offered to the endpoint and forwarded under the switch rules. -/
  | frameIngress (t : Nat) (u : Fin 2) (f : NetFrame)
  /-- FLOW_IDLE_EXPIRY (R163): A forwarding flow idle for 20 ms is removed from the flow table. -/
  | flowIdleExpiry (src dst : BitVec 48)
  /-- PARTNER_ASLEEP (R168): A link partner holds low-power idle for over 100 ms and is treated as asleep, limiting egress to kind 4 frames near beacon instants. -/
  | partnerAsleep (t : Nat) (u : Fin 2)
  /-- SYNC_RECEIVE (R174): A Sync and Follow_Up accepted on the slave port update the servo and may make the device synchronised. -/
  | syncReceive (t : Nat) (u : Fin 2) (gm : Nat)
  /-- SYNC_SEND (R171): Every 125 ms a grandmaster or master port sends Sync and Follow_Up. -/
  | syncSend (u : Fin 2)
  /-- ANNOUNCE_RECEIVE (R172): An Announce message is received and the best master clock algorithm reruns. -/
  | announceReceive (t : Nat) (u : Fin 2) (v : GmVector)
  /-- ANNOUNCE_SEND (R171): Every 1 s the port sends an Announce carrying the device's priority1 and priority2. -/
  | announceSend (u : Fin 2)
  /-- ANNOUNCE_RECEIPT_TIMEOUT (R172): Two announce intervals pass without Announce and the best-master exchange settles on a new grandmaster. -/
  | announceReceiptTimeout (u : Fin 2)
  /-- SYNC_RECEIPT_TIMEOUT (R171): Three sync intervals pass without Sync and the best master clock algorithm restarts. -/
  | syncReceiptTimeout
  /-- PDELAY_REQUEST_SEND (R171): A port sends a Pdelay request at its current interval. -/
  | pdelayRequestSend (u : Fin 2)
  /-- PDELAY_RESPONSE_RECEIVE (R171): A Pdelay exchange completes, updating link delay and asCapable. -/
  | pdelayResponseReceive (t : Nat) (u : Fin 2) (seq : BitVec 16) (rx tx : Nat)
  /-- PDELAY_REQUEST_RECEIVE (R171): A neighbour's Pdelay request is answered with a response. -/
  | pdelayRequestReceive (t : Nat) (u : Fin 2) (seq : BitVec 16)
  /-- PRIORITY_HOLD_EXPIRY (R172): 2 s after the first port is up or a wake, priority1 leaves 255 for its role value. -/
  | priorityHoldExpiry
  /-- GPTP_SYNC_HOLD_EXPIRY (R174): 3 s pass without an accepted Sync while not grandmaster; synchronisation is lost with F310. -/
  | gptpSyncHoldExpiry
  /-- AAF_FRAME_SEND (R184): Every 125 µs a talker sends an AAF frame of each stream on every linked port. -/
  | aafFrameSend (k : Fin 3)
  /-- CRF_FRAME_SEND (R182): Every 10 ms a leader sends a CRF frame carrying the stamp of every tenth block. -/
  | crfFrameSend
  /-- AAF_FRAME_RECEIVE (R188): An AAF frame is verified, checked, recovered and judged as late, too early or accepted. -/
  | aafFrameReceive (t : Nat) (f : NetFrame)
  /-- CRF_FRAME_RECEIVE (R182): A CRF frame from the accepted leader is checked and feeds NET qualification, the servo and the leader address. -/
  | crfFrameReceive (t : Nat) (f : NetFrame)
  /-- STREAM_SOURCE_TIMEOUT (R179): 20 ms without a frame from the followed EUI-48 lets the listener accept another source for the stream. -/
  | streamSourceTimeout (kind : Nat) (n : BitVec 8)
  /-- RECOVERY_RESET_TIMEOUT (R210): 20 ms after the last passed frame a stream's recovery resets. -/
  | recoveryResetTimeout (kind : Nat) (n : BitVec 8)
  /-- ADMISSION_EVALUATION (R194): Once per second return streams are admitted by weight in node order, raising F420 as due. -/
  | admissionEvaluation
  /-- TIE_SLOT_START (R225): At each 250 µs slot start the slot owner sends its block frame or heartbeat. -/
  | tieSlotStart (t : Nat)
  /-- TIE_HEARTBEAT (R224): A TIE heartbeat is received, carrying the step held and leader-only samples. -/
  | tieHeartbeat (t : Nat) (x : PairFrame)
  /-- TIE_BLOCK (R217): A block frame is received; the partner starts step n and compares digests, leaving step on a mismatch. -/
  | tieBlock (t : Nat) (b : TieFrame)
  /-- TIE_CHECKPOINT_CHUNK (R229): A checkpoint chunk is received and written into the checkpoint buffer. -/
  | tieCheckpointChunk (t : Nat) (x : PairFrame)
  /-- RESYNC_REQUEST (R221): Request code 1: the leader takes a checkpoint at its next sheaf boundary and sends it in chunks. -/
  | resyncRequest (t : Nat) (x : PairFrame)
  /-- TAKE_BACK_REQUEST (R238): Request code 2: the acting leader answers a take-back for step b with code 3. -/
  | takeBackRequest (t : Nat) (x : PairFrame)
  /-- TAKE_BACK_ACCEPTED (R238): Request code 3: the strapped leader sends the commit at least 500 µs before step b. -/
  | takeBackAccepted (t : Nat) (x : PairFrame)
  /-- TAKE_BACK_COMMIT (R238): Request code 4: the acting leader prepares to enter PARTNER at the boundary of step b. -/
  | takeBackCommit (t : Nat) (x : PairFrame)
  /-- SLUMBER_PROPOSAL (R83): Request code 5: a partner agrees or refuses to slumber with its leader at a stated boundary. -/
  | slumberProposal (t : Nat) (x : PairFrame)
  /-- SLUMBER_ANSWER (R83): Request code 6: the leader learns whether its partner agrees to slumber. -/
  | slumberAnswer (t : Nat) (x : PairFrame)
  /-- WAKE_REQUEST (R88): Request code 7: a partner's wake request wakes its leader. -/
  | wakeRequest (t : Nat) (x : PairFrame)
  /-- BLOCK_FRAME_TIMEOUT (R217): No block frame is held 500 µs after a close and the partner leaves step with F520. -/
  | blockFrameTimeout
  /-- TIE_DOWN (R225): Four consecutive missed slots declare TIE down, raising F521. -/
  | tieDown
  /-- TIE_COLLISION (R226): A line mismatch within the first 8 bits stops both drivers, and they resume in flag and node order. -/
  | tieCollision (t : Nat)
  /-- RESYNC_REPLAY_COMPLETE (R221): Replay reaches the present step and the partner becomes in step at the next boundary. -/
  | resyncReplayComplete (t : Nat)
  /-- RESYNC_TIMEOUT (R221): A resync not in step 10 s after its request restarts with F520 cause 3. -/
  | resyncTimeout
  /-- PARTNER_HEARTBEAT_SEND (R228): Every 10 ms each device of a cold pair sends a partner heartbeat. -/
  | partnerHeartbeatSend
  /-- PARTNER_CONTACT_TIMEOUT (R228): 50 ms without a partner heartbeat ends contact in a cold pair. -/
  | partnerContactTimeout
  /-- CHECKPOINT_TAKE (R229): Once per second a leader in contact with its cold partner takes a checkpoint and sends it in chunks. -/
  | checkpointTake (t : Nat)
  /-- CHECKPOINT_COMPLETE (R229): All chunks arrive, the CRC checks and the write completes, and the checkpoint becomes current or is refused with F520. -/
  | checkpointComplete (t : Nat)
  /-- CHECKPOINT_STALE_TIMEOUT (R229): 3 s without a complete checkpoint raises F530. -/
  | checkpointStaleTimeout
  /-- PARTNER_CONTACT_DEADLINE (R242): A leader without partner contact at t_run + 10 s raises F510. -/
  | partnerContactDeadline
  /-- LEADER_LOST (R232): A strapped partner hears nothing from its leader for 1 ms hot or 50 ms cold and declares it lost. -/
  | leaderLost
  /-- CHECKPOINT_RESTORE_COMPLETE (R233): A cold takeover's checkpoint restore completes and the data path starts at the next boundary. -/
  | checkpointRestoreComplete (t : Nat)
  /-- TAKE_BACK_ELIGIBLE (R237): 5 s after t_run with step or checkpoint held, the strapped leader sends a take-back request. -/
  | takeBackEligible
  /-- TAKE_BACK_RETRY (R238): No code 3 arrived 2 ms before the boundary, so the request is repeated 1 s later. -/
  | takeBackRetry
  /-- TAKE_BACK_RELEASE (R239): 20 ms after step b of a cold take-back the acting leader stops its streams and enters PARTNER. -/
  | takeBackRelease
  /-- RESERVATION_COMMIT (R248): A reservation record for the next PN block is written and committed in the key-state region. -/
  | reservationCommit (t : Nat) (ann : Bool) (fails : List FlashCause)
  /-- KEY_CREATE (R256): A strapped leader without a key at t_run + 60 s draws a new TK and programs it into the lowest blank slot. -/
  | keyCreate (spoil : Bool × Bool)
  /-- KEY_RENEW (R257): PAIR held 10 s on a keyed leader creates a new TK in the next blank slot. -/
  | keyRenew (spoil : Bool × Bool)
  /-- AK_DISTRIBUTION_SEND (R258): Each second a leader of a non-zero tenant holding AK sends an AK distribution frame. -/
  | akDistributionSend
  /-- AK_DISTRIBUTION_RECEIVE (R258): A member or partner receives AK and brings it into force at the next block boundary. -/
  | akDistributionReceive (t : Nat) (f : NetFrame)
  /-- PAIR_PRESS (R259): A 50 ms to 5 s PAIR press while running starts a 2 s listen for window frames, or closes the own window. -/
  | pairPress (t : Nat) (heldNs : Nat)
  /-- PAIR_LISTEN_EXPIRY (R259): After the 2 s listen the device becomes a taker, opens its own window as giver, or raises F601. -/
  | pairListenExpiry
  /-- WINDOW_FRAME_SEND (R260): Every 250 ms an open giver window sends a window frame. -/
  | windowFrameSend
  /-- WINDOW_FRAME_RECEIVE (R262): A listening taker receives a window frame, draws an ephemeral key and sends a join. -/
  | windowFrameReceive (t : Nat) (f : NetFrame)
  /-- JOIN_RECEIVE (R262): A giver checks a join's signature, derives KEK and MAC key, and sends the key frame. -/
  | joinReceive (t : Nat) (f : NetFrame)
  /-- JOIN_RESEND (R262): Without a key frame the taker resends its join every 500 ms, up to four times. -/
  | joinResend
  /-- KEY_FRAME_RECEIVE (R262): A taker checks the giver's signature, unwraps the key, programs a slot and sends the done frame. -/
  | keyFrameReceive (t : Nat) (f : NetFrame) (spoil : Bool × Bool) (fails : List FlashCause)
  /-- KEY_FRAME_TIMEOUT (R262): No key frame by t_k + 2.5 s raises F601 cause 2. -/
  | keyFrameTimeout
  /-- DONE_RECEIVE (R262): A giver checks the done frame's MAC, completes the exchange and extends its window. -/
  | doneReceive (t : Nat) (f : NetFrame) (fails : List FlashCause)
  /-- DONE_TIMEOUT (R262): No done frame 2 s after the key frame raises F601 cause 5 at the giver. -/
  | doneTimeout (eui : BitVec 48)
  /-- PAIRING_WINDOW_EXPIRY (R260): A giver's window closes 60 s after opening or after its last exchange, raising F601 if unused. -/
  | pairingWindowExpiry
  /-- BIPHASE_FRAME_RECEIVE (R272): A biphase frame is checked for preamble and parity errors, concealed if bad and tested for non-audio payload and release. -/
  | biphaseFrameReceive (t : Nat) (n : Fin 4) (f : BiphaseFrame)
  /-- BIPHASE_INPUT_LOSS (R276): Three frame periods without a preamble or a rate outside every band loses the input, mutes the pair and raises F700. -/
  | biphaseInputLoss (t : Nat) (n : Fin 4) (rateOut : Bool)
  /-- TDM_FRAME_JUDGED (R293): An FS detection or an excess edge count judges a follower frame good or bad, with concealment and loss or release. -/
  | tdmFrameJudged (t : Nat) (p : Fin 2) (c : Nat) (fs : Bool) (data : List (BitVec 32))
  /-- TDM_FRAME_TIMER_EXPIRY (R294): A follower port's frame timer expires and counts a bad frame of cause 3. -/
  | tdmFrameTimerExpiry (p : Fin 2)
  /-- TDM_RATE_WINDOW (R296): At the end of each 1 ms window a follower port whose FS count is off by over 1000 ppm is lost with cause 5. -/
  | tdmRateWindow (t : Nat) (p : Fin 2)
  /-- TDM_QUALIFY_DEADLINE (R298): A follower port with no good frame by t_run + 10 s raises F711 cause 6. -/
  | tdmQualifyDeadline (p : Fin 2)
  /-- MIC_EN_FALL (R305): A low on MIC_EN closes the gate, stops the PDM clocks and forces microphone channels to zero. -/
  | micEnFall (t : Nat) (lowNs : Option Nat)
  /-- MIC_EN_OPEN (R305): MIC_EN has been high for 10 ms and the gate opens, letting the allowed PDM clocks start. -/
  | micEnOpen (since : Nat)
  /-- PDM_SETTLE_EXPIRY (R304): 20 ms after a PDM clock starts its microphone channels pass decimated samples. -/
  | pdmSettleExpiry (line : Fin 2)
  /-- USB_VBUS_CHANGE (R307): USB_VBUS crosses its threshold; the function attaches or detaches, raising FE02 if streaming. -/
  | usbVbusChange (t : Nat) (high : Bool)
  /-- USB_BUS_RESET (R317): A bus reset returns the function to the default state and abandons any unfinished transfer with FE01. -/
  | usbBusReset (t : Nat) (full dataDone : Bool)
  /-- STANDARD_DEVICE_REQUEST (R315): A standard chapter 9 request not listed otherwise is answered as USB 2.0 specifies. -/
  | standardDeviceRequest (t : Nat) (p : UsbSetup)
  /-- SET_FEATURE_REMOTE_WAKEUP (R315): SET_FEATURE DEVICE_REMOTE_WAKEUP is stalled. -/
  | setFeatureRemoteWakeup (t : Nat)
  /-- SET_FEATURE_TEST_MODE (R315): SET_FEATURE TEST_MODE is handled as USB 2.0 specifies. -/
  | setFeatureTestMode (t : Nat) (index : BitVec 16)
  /-- SET_CONFIGURATION (R315): SET_CONFIGURATION 0 or 1 is accepted and both streaming interfaces go to alternate 0. -/
  | setConfiguration (t : Nat) (value : BitVec 16)
  /-- SET_INTERFACE (R315): SET_INTERFACE selects an alternate of interface 1 or 2, restarting that direction, or is stalled. -/
  | setInterface (t : Nat) (itf alt : BitVec 16)
  /-- GET_CUR_FREQUENCY (R315): A clock frequency GET CUR returns the media rate. -/
  | getCurFrequency (t : Nat)
  /-- GET_RANGE_FREQUENCY (R315): A clock frequency GET RANGE returns one subrange at the media rate. -/
  | getRangeFrequency (t : Nat)
  /-- SET_CUR_FREQUENCY (R315): A clock frequency SET CUR is accepted at the media rate or stalled with FE00. -/
  | setCurFrequency (t : Nat) (hz : BitVec 32)
  /-- GET_CUR_VALIDITY (R315): A clock validity GET CUR returns 1. -/
  | getCurValidity (t : Nat)
  /-- UNSUPPORTED_USB_REQUEST (R315): A request not in the table, to a terminal, vendor or streaming interface class request, is stalled. -/
  | unsupportedUsbRequest (t : Nat) (p : UsbSetup)
  /-- CONTROL_STATUS_COMPLETE (R316): A control transfer's status stage completes and what it requested takes effect. -/
  | controlStatusComplete (t : Nat)
  /-- USB_SUSPEND (R318): 3 ms without bus activity suspends the function, silencing OUT and IN. -/
  | usbSuspend (t : Nat)
  /-- USB_RESUME (R318): Resume signalling ends suspend and streaming restarts with a refilled buffer. -/
  | usbResume (t : Nat)
  /-- USB_OUT_PACKET (R312): An isochronous OUT packet enters the elastic buffer, dropping old frames on overrun or being discarded if oversized. -/
  | usbOutPacket (t : Nat) (b : List (BitVec 8))
  /-- USB_SOF (R313): At each microframe's SOF the device sends an IN packet of the sample frames ready. -/
  | usbSof (t : Nat)
  /-- FEEDBACK_UPDATE (R314): At every eighth SOF the feedback value is recomputed from the media count and buffer fill. -/
  | feedbackUpdate (t : Nat)
  /-- ASRC_TRACKING_START (R322): A pair's input becomes valid and its ratio tracking loop starts. -/
  | asrcTrackingStart (t : Nat) (u : Nat)
  /-- ASRC_LOCK (R322): The tracking error stays within 1/8 sample for 50 ms and the pair locks and passes samples. -/
  | asrcLock (t : Nat) (u : Nat)
  /-- ASRC_UNLOCK (R322): The tracking error exceeds one sample or the ratio leaves range and the pair outputs unmarked zeros. -/
  | asrcUnlock (t : Nat) (u : Nat)
  /-- ASRC_LOCK_TIMEOUT (R322): A pair not locked 200 ms after tracking starts raises F740. -/
  | asrcLockTimeout (u : Nat) (ratioOut : Bool)
  /-- ASRC_FIXED_RATIO_ENTRY (R326): A ratio within 1 ppm of a power of two for 1 s enters fixed-ratio mode at the next boundary. -/
  | asrcFixedRatioEntry (t : Nat) (u : Nat) (k : Int)
  /-- START_DETECT (R331): START is found high after release and the start boundary is set to the next block boundary, raising F730 if near a boundary. -/
  | startDetect (t : Nat)
  /-- START_TIMEOUT (R333): START still low 2 s after release; t_e is taken and F730 cause 1 is raised. -/
  | startTimeout
  /-- MUTE_N_CHANGE (R337): A MUTE_N level change mutes or releases the audio outputs from the next media sample after 250 ns. -/
  | muteNChange (t : Nat) (low : Bool)
  /-- JOB_COMPLETE (R383): A Thresher job ends within its budget and its state write-behind and commit begin. -/
  | jobComplete (t : Nat) (ctx : Fin 16) (rerun : Bool)
  /-- JOB_DEADLINE_EXPIRY (R385): A job unfinished at its deadline is stopped, its outputs concealed, nothing committed and F800 raised. -/
  | jobDeadlineExpiry
  /-- STATE_COMMIT (R383): The state write completes under the DMA rule, the commit entry is written and the bank flips. -/
  | stateCommit (t : Nat) (ctx : Fin 16)
  /-- STATE_PREFETCH (R414): A context's committed state is read from the Silo into its staging part before its window. -/
  | statePrefetch (t : Nat) (ctx : Fin 16)
  /-- VISIBILITY_INSTANT (R393): 250 µs before a block a speculative output is promoted to concealment, the motor lane or a held target. -/
  | visibilityInstant
  /-- LANE_DRIVE_TIMEOUT (R398): A speculative lane drive unconfirmed after 8 ms is withdrawn with FB20. -/
  | laneDriveTimeout
  /-- PLAYOUT_DEADLINE (R394): A sample not accepted by its playout deadline is presented as concealment, or zeros with F811 after 40 ms. -/
  | playoutDeadline (t : Nat) (kind : Nat) (n : BitVec 8)
  /-- SELF_CHECK_PASS (R363): Every 10 min an in-service self-check pass tests columns in idle gaps and retires a failing one. -/
  | selfCheckPass (failing : List (Fin 66))
  /-- FLASH_READ_TIMEOUT (R405): A flash read without data strobe after 100 µs is retried, and after three retries the flash is absent with F202. -/
  | flashReadTimeout (t : Nat) (addr : Nat)
  /-- FLASH_OPERATION_COMPLETE (R405): A program or erase completes or fails by status, time or read-back, raising or clearing F920. -/
  | flashOperationComplete (t : Nat) (failed : Option FlashCause)
  /-- FLASH_SUSPEND_READ (R404): A pending read during a program or erase is served by suspend, read and resume. -/
  | flashSuspendRead (t : Nat)
  /-- SILO_TRANSACTION_TIMEOUT (R409): A Silo transaction without data strobe after 2 µs is retried, and a second timeout raises F910 and resets. -/
  | siloTransactionTimeout (t : Nat) (addr : Nat)
  /-- BUS_TRANSACTION_COMPLETE (R411): A Silo or flash transaction returns its response and releases its tag to a stalled requester. -/
  | busTransactionComplete (t : Nat) (silo : Bool) (asked : List BusAsk)
  /-- DMA_REGISTER_SET_COMPLETE (R421): A register set completes and the channel re-arms, loads its next table entry or swaps in its shadow set. -/
  | dmaRegisterSetComplete (t : Nat) (ch : Fin 16)
  /-- DMA_PACE_MARK (R420): A paced queue's fill reaches a start or stop mark and its channel starts or stops. -/
  | dmaPaceMark (t : Nat) (ch : Fin 16) (fill : Nat)
  /-- DMA_SHADOW_WRITE (R419): The control processor writes a shadow register set, stalling while the set is still valid. -/
  | dmaShadowWrite (t : Nat) (ch : Fin 16) (set : List (BitVec 8)) (forBoundary : Bool)
  /-- POWERED_HOUR (R429): Each powered hour the count advances, with a service record and an aging day point every 24th hour. -/
  | poweredHour (fails : List FlashCause)
  /-- SLOT_WRITE_START (R449): A due slot write starts in priority order with a repair event and erases of its sectors. -/
  | slotWriteStart (t : Nat)
  /-- SLOT_WRITE_COMPLETE (R448): The written slot passes read-back, its commit marker is programmed and FD02 or FD03 is raised. -/
  | slotWriteComplete (t : Nat) (marker : Option FlashCause) (fails : List FlashCause) (spoil : Bool × Bool)
  /-- IMAGE_ADVERT_SEND (R452): Each second a keyed leader sends an image advert of its active slot. -/
  | imageAdvertSend
  /-- IMAGE_ADVERT_RECEIVE (R453): A member receives an advert and starts a fetch if it has no valid slot or the edition is newer, or raises F230. -/
  | imageAdvertReceive (t : Nat) (f : NetFrame)
  /-- IMAGE_REQUEST_RECEIVE (R455): A leader holds or merges a chunk request and serves it in arrival order. -/
  | imageRequestReceive (t : Nat) (f : NetFrame)
  /-- IMAGE_CHUNK_SEND (R455): A leader sends a chunk of a served request, at most 2000 per second. -/
  | imageChunkSend (t : Nat)
  /-- IMAGE_CHUNK_RECEIVE (R454): A fetching device programs a chunk of its present window and requests the next window when complete. -/
  | imageChunkReceive (t : Nat) (f : NetFrame)
  /-- IMAGE_REQUEST_RETRY (R454): 500 ms after its last progress a fetch requests a window's missing chunks again. -/
  | imageRequestRetry
  /-- IMAGE_FETCH_ABANDON (R454): 60 s without progress abandons the fetch with repair outcome 2. -/
  | imageFetchAbandon
  /-- VIN_VALID (R461): VIN held in range for 10 ms becomes valid, the battery switch turns off and the VIN path carries VSYS. -/
  | vinValid (t : Nat) (vinMv : Nat)
  /-- VIN_LOST (R460): VIN is lost, the VIN path blocks, the battery switch turns on within 50 µs and FA00 is raised at the next boundary. -/
  | vinLost (t : Nat) (vinMv : Nat) (meanMv : Nat)
  /-- VIN_RANGE_TIMEOUT (R459): VIN above 2 V but not valid for 1 s raises FA01. -/
  | vinRangeTimeout (t : Nat) (vinMv : Nat)
  /-- INPUT_BUDGET_LOOP (R462): Every 1 ms input power is held within budget by lowering charge current and then plant power. -/
  | inputBudgetLoop (t : Nat) (vinMv : Nat) (vinMa : Nat) (vsysMv : Nat)
  /-- BATTERY_ABSENT_TIMEOUT (R465): A strapped pack absent for 1 s raises FA10. -/
  | batteryAbsentTimeout
  /-- REQUESTED_LIMITS (R468): Every 1 ms the core die sends charge and discharge limits that the plant die applies under its ceilings. -/
  | requestedLimits (t : Nat)
  /-- FIXED_THRESHOLD_ENTRY (R468): 10 ms without requested limits puts the plant die in fixed-threshold mode. -/
  | fixedThresholdEntry
  /-- FIXED_THRESHOLD_EXIT (R468): Requests arriving for 100 ms return normal limits. -/
  | fixedThresholdExit
  /-- CHARGE_COMPLETE_TIMER (R467): In constant voltage, current below a tenth for 60 s moves the charger to complete. -/
  | chargeCompleteTimer
  /-- CHARGE_TIMER_EXPIRY (R467): The charge timer exceeds its limit and the charger suspends with FA20 cause 3. -/
  | chargeTimerExpiry
  /-- PRECONDITION_TIMEOUT (R467): A pack still below its threshold 30 min after pre-conditioning began suspends with FA12. -/
  | preconditionTimeout
  /-- BATTERY_THERMAL_UPDATE (R470): Each ms the battery thermal model predicts temperature and the charge zone limits current or suspends with FA11. -/
  | batteryThermalUpdate (t : Nat) (x : PackReading)
  /-- DISCHARGE_CUTOFF (R471): VBAT_S below cutoff or T_pred at the discharge maximum raises FA13 or FA11 and schedules the switch opening. -/
  | dischargeCutoff (t : Nat) (vbatMv : Nat)
  /-- BATTERY_SWITCH_OPEN (R471): 20 ms after a discharge limit the battery switch opens and the device browns out. -/
  | batterySwitchOpen
  /-- PACK_OVERVOLTAGE (R471): VBAT_S above the over-voltage threshold for 10 ms raises FA13 cause 0 and suspends charging. -/
  | packOvervoltage (t : Nat) (vbatMv : Nat)
  /-- SOC_REST_RECALIBRATE (R472): After 30 min at rest the state of charge is reset from VBAT_S. -/
  | socRestRecalibrate
  /-- THERMAL_MODEL_RELEASE (R489): The allowance above 10 % of the ceiling for 1 s releases the model and clears FB00. -/
  | thermalModelRelease (ch : Fin 2)
  /-- SPEAKER_GUARD (R484): A stage above 1.2 times its strap ceiling over 1 s is attenuated 6 dB for the next second. -/
  | speakerGuard (t : Nat) (ch : Fin 2)
  /-- SPEAKER_OVERCURRENT (R490): Over-current, a short or PVDD_A above 30 V turns both stages off within 1 µs with FB01. -/
  | speakerOvercurrent (t : Nat) (stage : Fin 2) (short : Bool)
  /-- OPEN_LOAD_DETECT (R491): Impedance above four times nominal for 1 s raises FB02, which clears on return. -/
  | openLoadDetect (t : Nat) (ch : Fin 2) (cent : Nat)
  /-- MOTOR_COMMAND (R495): Every 125 µs the plant die forms the motor voltage command from target and position. -/
  | motorCommand (t : Nat) (posMv : Nat) (pvddMv : Nat) (ma : Int)
  /-- BACK_EMF_WINDOW (R495): Every 10 ms in open loop the bridge floats 100 µs to read back-EMF. -/
  | backEmfWindow (t : Nat) (bemfMv : Int)
  /-- MOTOR_PEAK_CURRENT (R493): Bridge current reaches 2.5 A, is chopped and FB11 is raised. -/
  | motorPeakCurrent (t : Nat) (ma : Int)
  /-- MOT_POS_OUT_OF_RANGE (R496): MOT_POS out of range for 10 ms in closed loop floats the bridge with FB12 until reset. -/
  | motPosOutOfRange
  /-- MOTOR_STALL (R498): Stalling for the stall time floats the bridge for 2 s and raises FB10, or holds it off after a fourth stall. -/
  | motorStall
  /-- STALL_HOLD_EXPIRY (R498): 2 s after a stall the motor drive resumes. -/
  | stallHoldExpiry
  /-- PLANT_DIE_TEMPERATURE (R500): The plant die crosses 135, 150 or 130 °C and derates, shuts down or recovers with FC01 or FC00. -/
  | plantDieTemperature (t : Nat) (deg : Int)
  /-- CORE_DIE_OVERTEMP (R503): The core die crosses 125 °C and raises FC10, which clears below 120 °C. -/
  | coreDieOvertemp (t : Nat) (deg : Int)
  /-- SRAM_CORRECTED_ERROR (R505): A read corrects a single-bit error, writes it back, counts it and may decide a remap with F900. -/
  | sramCorrectedError (t : Nat) (loft : Bool) (bank : Fin 16) (row : Fin 256)
  /-- SRAM_UNCORRECTABLE_ERROR (R508): A two-bit error affects its content per its kind, raises F901 and decides a remap. -/
  | sramUncorrectableError (t : Nat) (loft : Bool) (bank : Fin 16) (row : Fin 256) (word : Fin 128) (what : SramContent)
  /-- SCRUB_PASS (R506): Once per hour the scrubber reads every row of the buffer SRAM and the loft. -/
  | scrubPass
  /-- ROW_COPY_COMPLETE (R509): A buffer SRAM row copy into a spare completes and the remap waits for the next boundary. -/
  | rowCopyComplete (t : Nat) (bank : Fin 16) (row : Fin 256)
  /-- LOFT_ROW_FILL_COMPLETE (R510): A loft spare row is filled from flash or ROM and the remap waits for the next boundary. -/
  | loftRowFillComplete (t : Nat) (bank : Fin 16) (row : Fin 256)
  /-- EXTEST (R588): The EXTEST instruction holds the device in reset and drives covered lands from the boundary register. -/
  | extest (t : Nat)
  /-- IDCODE (R585): The IDCODE instruction selects the 32-bit identification register 0x1644_05A7. -/
  | idcode (t : Nat)
  /-- SAMPLE_PRELOAD (R584): The SAMPLE/PRELOAD instruction captures and loads the boundary register without disturbing the device. -/
  | samplePreload (t : Nat)
  /-- HIGHZ (R588): The HIGHZ instruction holds the device in reset and puts covered outputs at high impedance. -/
  | highz (t : Nat)
  /-- CLAMP (R588): The CLAMP instruction holds the device in reset and drives lands from the boundary register with bypass selected. -/
  | clamp (t : Nat)
  /-- BYPASS (R584): BYPASS or any unassigned opcode selects the 1-bit bypass register. -/
  | bypass (t : Nat) (op : BitVec 5)
  /-- TAP_RESET (R589): TRST_N low or Test-Logic-Reset puts the TAP in reset with IDCODE and ends any reset hold. -/
  | tapReset (t : Nat)
  /-- SHARED_NODE_ADDRESS_QUIET (R592): 60 s pass without frames of the device's own tenant, kind and node carrying another EUI-48, and F411 clears. -/
  | sharedNodeAddressQuiet
  /-- CHARGER_VOLTAGE_THRESHOLD (R467): VBAT_S crosses the pre-conditioning threshold, the charge voltage or the recharge threshold, and the charger moves between states 1, 2, 3 and 4. -/
  | chargerVoltageThreshold (t : Nat) (vbatMv : Nat)
  /-- PACK_CONNECTED (R465): A pack is connected, so that BAT_NTC and VBAT_S no longer read absent; FA10 clears and the charger may leave state 0. -/
  | packConnected (t : Nat) (x : PackReading)
  /-- HOLDOVER_AGING_CORRECTION (R517): Once per second in holdover with a valid aging model, the device re-evaluates the correction and moves the DCO toward the corrected value. -/
  | holdoverAgingCorrection
  /-- DATA_REGISTER_SCAN (R586): A Capture-DR, Shift-DR and Update-DR pass of the selected data register captures land values and, under EXTEST or CLAMP, drives the covered lands. -/
  | dataRegisterScan (t : Nat) (pins : BitVec 62) (tdi : List Bool)
deriving DecidableEq, Repr

end Sys2Proof
end

