-- ==== Sys2Proof/Decode.lean ====
section
/-! DEFINITION. The decoder over the rows of the opcode table that give bits: there are none, so no word spells a command. -/

namespace Sys2Proof

/-- The command a word of `nbits` bits spells by the opcode table. Every row's command reaches the block as an event on its lands
or inside it, with no word of its own, and the table gives none a mask, a pattern or a field. -/
def decodeTableWord (_nbits _w : Nat) : Option Instr := none

end Sys2Proof
end

