-- ==== Sys2Proof/Machine/Bytes.lean ====
section
/-! DEFINITION. Byte strings, the two CRCs, and a memory as cells in one canonical form. -/

namespace Sys2Proof.Machine

open Sys2Proof

/-- `f` applied `n` times. -/
def iter {α : Type} (f : α → α) : Nat → α → α
  | 0, x => x
  | n + 1, x => iter f n (f x)

/-- A number as `n` bytes, most significant first (R8). -/
def be : Nat → Nat → List Byte
  | 0, _ => []
  | n + 1, v => BitVec.ofNat 8 (v / 256 ^ n) :: be n v

/-- A number as `n` bytes, least significant first (R8). -/
def le : Nat → Nat → List Byte
  | 0, _ => []
  | n + 1, v => BitVec.ofNat 8 v :: le n (v / 256)

/-- A signed number as `n` bytes, most significant first, in two's complement. -/
def beInt (n : Nat) (v : Int) : List Byte := be n (v % (256 ^ n : Nat)).toNat

/-- A signed number as `n` bytes, least significant first, in two's complement. -/
def leInt (n : Nat) (v : Int) : List Byte := le n (v % (256 ^ n : Nat)).toNat

/-- The number a byte string spells, most significant first. -/
def ofBe (l : List Byte) : Nat := l.foldl (fun a b => a * 256 + b.toNat) 0

/-- The number a byte string spells, least significant first. -/
def ofLe (l : List Byte) : Nat := ofBe l.reverse

/-- An `n`-bit number read as two's complement. -/
def signed (bits v : Nat) : Int :=
  if v < 2 ^ (bits - 1) then (v : Int) else (v : Int) - (2 ^ bits : Nat)

/-- `n` bytes from offset `off`; what lies beyond the end reads as nothing. -/
def slice (off n : Nat) (l : List Byte) : List Byte := (l.drop off).take n

/-- The byte at offset `off`, zero beyond the end. -/
def at8 (l : List Byte) (off : Nat) : Byte := (l[off]?).getD 0#8

/-- A list cut or filled with `x` to `n` entries. -/
def padTo {α : Type} (n : Nat) (x : α) (l : List α) : List α := (l ++ List.replicate (n - l.length) x).take n

/-- One bit of CRC-16 with polynomial 0x1021, most significant bit first (R92). -/
def crc16Bit (c : BitVec 16) : BitVec 16 :=
  if c.getLsbD 15 then (c <<< 1) ^^^ 0x1021#16 else c <<< 1

/-- CRC-16 with polynomial 0x1021 and initial value 0xFFFF, not reflected and not inverted (R92). -/
def crc16 (l : List Byte) : BitVec 16 :=
  l.foldl (fun c b => iter crc16Bit 8 (c ^^^ ((BitVec.ofNat 16 b.toNat : BitVec 16) <<< (8 : Nat)))) 0xFFFF#16

/-- One bit of the reflected CRC-32 with polynomial 0x04C1_1DB7 (R219). -/
def crc32Bit (c : BitVec 32) : BitVec 32 :=
  if c.getLsbD 0 then (c >>> 1) ^^^ 0xEDB88320#32 else c >>> 1

/-- CRC-32 of IEEE 802.3: reflected, initial value and final exclusive-or of all ones (R219). -/
def crc32 (l : List Byte) : BitVec 32 :=
  (l.foldl (fun c b => iter crc32Bit 8 (c ^^^ (BitVec.ofNat 32 b.toNat : BitVec 32))) 0xFFFFFFFF#32) ^^^ 0xFFFFFFFF#32

/-- The byte at an address of a memory whose unlisted bytes read as `dflt`. -/
def peek (dflt : Byte) : List Host.Cell → Nat → Byte
  | [], _ => dflt
  | (a, b) :: m, x => if x = a then b else peek dflt m x

/-- One byte written, in canonical form: writing `dflt` removes the entry. -/
def poke (dflt : Byte) : List Host.Cell → Nat → Byte → List Host.Cell
  | [], x, v => if v = dflt then [] else [(x, v)]
  | (a, b) :: m, x, v =>
    if x < a then (if v = dflt then (a, b) :: m else (x, v) :: (a, b) :: m)
    else if x = a then (if v = dflt then m else (x, v) :: m)
    else (a, b) :: poke dflt m x v

/-- Addresses strictly rise from `lo` on, and no entry equals what an unlisted address reads as. -/
def cellsFrom (dflt : Byte) : Nat → List Host.Cell → Bool
  | _, [] => true
  | lo, (a, b) :: m => decide (lo ≤ a) && decide (b ≠ dflt) && cellsFrom dflt (a + 1) m

/-- The canonical form of a memory. -/
def Memory.wf (dflt : Byte) (m : List Host.Cell) : Bool := cellsFrom dflt 0 m

/-- `n` bytes from an address on. -/
def peeks (dflt : Byte) (m : List Host.Cell) (a : Nat) : Nat → List Byte
  | 0 => []
  | n + 1 => peek dflt m a :: peeks dflt m (a + 1) n

/-- Bytes written from an address on. -/
def pokes (dflt : Byte) (m : List Host.Cell) (a : Nat) : List Byte → List Host.Cell
  | [] => m
  | b :: l => pokes dflt (poke dflt m a b) (a + 1) l

/-- Bytes of a flash program operation: programming only clears bits (R404). -/
def programs (m : List Host.Cell) (a : Nat) : List Byte → List Host.Cell
  | [] => m
  | b :: l => programs (poke 0xFF#8 m a (peek 0xFF#8 m a &&& b)) (a + 1) l

/-- The bytes from `a` to `a + n - 1` erased: they read as `dflt` again. -/
def wipe (m : List Host.Cell) (a n : Nat) : List Host.Cell :=
  m.filter (fun c => decide (c.1 < a) || decide (a + n ≤ c.1))

end Sys2Proof.Machine
end

