-- ==== Sys2Proof/Machine/StateCore.lean ====
section
/-! DEFINITION. Start, straps, what the device tells, and the ash log (chapters 2 to 4), as plain data. -/

namespace Sys2Proof.Machine

/-- A local output channel (Tables 9.2 and 9.3). -/
inductive Out where
  /-- Channel of a TDM port's output. -/
  | tdm (port : Fin 2) (ch : Nat)
  /-- Subframe of a biphase output. -/
  | bpo (n : Fin 4) (right : Bool)
  /-- Device-to-host channel, from 1. -/
  | usbIn (k : Nat)
  /-- Side of the loudspeaker pair. -/
  | spk (right : Bool)
  /-- Input of the lip-sync point. -/
  | lip
deriving DecidableEq, Repr

/-- The samples of one local output channel in the present block. -/
structure OutBlock where
  /-- The output channel (09_routing_profiles.md R200). -/
  out : Out := .lip
  /-- Samples (09_routing_profiles.md R198). -/
  samples : List Sample := []
deriving DecidableEq, Repr

/-- A program or erase in progress, R404. -/
structure FlashOp where
  /-- An erase rather than a program (19_memory_dma.md R404). -/
  erase : Bool := false
  /-- Its place in the order of R404 (19_memory_dma.md R404). -/
  kind : Nat := 0
  /-- Flash address (19_memory_dma.md R404). -/
  addr : Nat := 0
  /-- Bytes to be programmed (19_memory_dma.md R404). -/
  data : List (BitVec 8) := []
  /-- Already tried once (19_memory_dma.md R405). -/
  tried : Bool := false
deriving DecidableEq, Repr

/-- What a control transfer takes effect as when its status stage completes, R316. -/
inductive UsbEffect where
  /-- It changes nothing. -/
  | nothing
  /-- SET_ADDRESS. -/
  | address (a : Nat)
  /-- SET_CONFIGURATION. -/
  | config (c : Nat)
  /-- SET_INTERFACE. -/
  | alt (itf : Nat) (a : Nat)
  /-- SET_FEATURE TEST_MODE. -/
  | test (n : Nat)
  /-- SET_FEATURE or CLEAR_FEATURE ENDPOINT_HALT. -/
  | halt (ep : Nat) (on : Bool)
deriving DecidableEq, Repr

/-- What the control processor applies at a block boundary, R28. -/
inductive Intervention where
  /-- Entry into SAFE. -/
  | safe (code : BitVec 16)
  /-- Redundancy role change, R233. -/
  | takeover
  /-- Redundancy role change, R240. -/
  | yield_ (node : BitVec 8)
  /-- Device-time step, R175. -/
  | timeStep (e : Int)
  /-- Repair: switch to a spare row. -/
  | rowSwitch (loft : Bool) (bank : Nat) (row : Nat)
  /-- Repair: a Thresher column left out. -/
  | column (c : Fin 66)
  /-- Repair: the contexts whose weights touch a loft row that cannot be filled go idle, R510. -/
  | idle (bank : Nat) (row : Nat)
  /-- Repair: a healed slot's content is loaded, R450. -/
  | slotLoad
deriving DecidableEq, Repr

/-- An intervention with the instant at which its decision and new set-up were both ready. -/
structure Due where
  /-- The intervention (01_system_picture.md R29). -/
  what : Intervention := .takeover
  /-- The instant it became ready (01_system_picture.md R29). -/
  at_ : Nat := 0
deriving DecidableEq, Repr

/-- The six modes, R19, R67. -/
inductive Mode where
  | solo
  | member
  | leader
  | partner
  | slumber
  | safe
deriving DecidableEq, Repr

/-- Table 3.3 and start report byte 4, R69, R105. -/
inductive ResetCause where
  | powerOn
  | supplySupervisor
  | resetN
  | watchdog
  | dieLink
  | startDeadline
  | startStepFailure
  | clockMonitor
deriving DecidableEq, Repr

/-- Whether the device is held in reset, or out of reset (a start or a mode), R69. -/
inductive Phase where
  | held
  | active
deriving DecidableEq, Repr

/-- The start sequence of chapter 3. -/
structure StartUnit where
  /-- Held in reset until RESET_RELEASE (03_modes_startup.md R69). -/
  phase : Phase := .held
  /-- Mode in force; none during a start (01_system_picture.md R19). -/
  mode : Option Mode := none
  /-- The mode SLUMBER was entered from (03_modes_startup.md R89). -/
  left : Option Mode := none
  /-- Cause of the last reset (03_modes_startup.md R69, 04_status.md R105). -/
  cause : ResetCause := .powerOn
  /-- t_reset on the model's time base (00_scope.md R9). -/
  tReset : Nat := 0
  /-- t_latch once latched (02_straps.md R42). -/
  tLatch : Option Nat := none
  /-- Instant the start counts from (t_latch, or t_reset + 5 s after a PAIR wait) (03_modes_startup.md R74, R80). -/
  base : Option Nat := none
  /-- A start with counter 3 waiting at t_latch for PAIR (03_modes_startup.md R80). -/
  waitPair : Bool := false
  /-- PAIR asserted at t_latch and continuously since (03_modes_startup.md R80). -/
  pairAtLatch : Bool := false
  /-- Start report flag [1] (03_modes_startup.md R80, 04_status.md R105). -/
  clearedByPair : Bool := false
  /-- Step 2 of the set-up order complete (01_system_picture.md R25). -/
  imageDone : Bool := false
  /-- Step 3 complete (01_system_picture.md R25). -/
  loftDone : Bool := false
  /-- Instant at which it was (19_memory_dma.md R408). -/
  loftAt : Nat := 0
  /-- Thresher self-check passed (03_modes_startup.md R72). -/
  checkDone : Bool := false
  /-- PSRAM up (with step 5) (19_memory_dma.md R408). -/
  psramDone : Bool := false
  /-- Steps 4 to 7 complete (01_system_picture.md R25). -/
  setupDone : Bool := false
  /-- t_run once running (03_modes_startup.md R72). -/
  tRun : Option Nat := none
  /-- The clear at t_run + 60 s is still to come (03_modes_startup.md R77). -/
  counterPending : Bool := false
  /-- Clamped-limit flag (01_system_picture.md R32). -/
  clampSeen : Bool := false
  /-- Start report fault field: the first strap fault, or the fault that caused SAFE (04_status.md R105). -/
  fault : BitVec 16 := 0#16
  /-- The code SAFE shows (03_modes_startup.md R79). -/
  safeCode : BitVec 16 := 0#16
  /-- The biphase user-bit paths open at the next boundary (04_status.md R101). -/
  bpoNext : Bool := false
  /-- Thresher columns remapped at this start (04_status.md R105). -/
  columnsNow : Nat := 0
  /-- Instant the control-processor watchdog was armed: t_reset, or a wake; none while it is held stopped
  (03_modes_startup.md R70). -/
  armedAt : Option Nat := none
deriving DecidableEq, Repr

/-- The always-on domain, kept across resets. -/
structure AlwaysOn where
  /-- Failed-start counter (03_modes_startup.md R77). -/
  failed : Fin 4 := 0
  /-- Fault codes of the last three failed attempts, most recent first (03_modes_startup.md R77). -/
  last3 : Vector (BitVec 16) 3 := Vector.replicate 3 0#16
  /-- FF20 fault store: the detail of a clock loss (05_clock_domains.md R123). -/
  clockFault : Option (List (BitVec 8)) := none
  /-- A clock-monitor reset waits for the acknowledgement of the writes (05_clock_domains.md R123). -/
  clockReset : Bool := false
  /-- The domains that clock loss names (05_clock_domains.md R123). -/
  lost : BitVec 18 := 0#18
deriving DecidableEq, Repr

/-- Strap readings, latched levels and re-reads. -/
structure Straps where
  /-- First start reading (02_straps.md R42). -/
  first : Option (Vector (Fin 1024) 13) := none
  /-- Second start reading (02_straps.md R42). -/
  second : Option (Vector (Fin 1024) 13) := none
  /-- Latched levels (02_straps.md R43). -/
  level : Vector (Option (Fin 16)) 13 := Vector.replicate 13 none
  /-- The plant die's own latched SP_BATT (01_system_picture.md R24). -/
  plantBatt : Option (Fin 16) := none
  /-- The plant die's own latched SP_AMP (01_system_picture.md R24). -/
  plantAmp : Option (Fin 16) := none
  /-- The plant die's own latched SP_MOTOR (01_system_picture.md R24). -/
  plantMotor : Option (Fin 16) := none
  /-- Latest pre-start SP_BATT pair (02_straps.md R593). -/
  pre : Option (Fin 1024 × Fin 1024) := none
  /-- F14S raised in this reset (02_straps.md R48). -/
  reported : Vector Bool 13 := Vector.replicate 13 false
  /-- Re-reads done since t_latch (02_straps.md R47). -/
  rereads : Nat := 0
deriving DecidableEq, Repr

/-- A queue that words cross from a domain clocked from outside the device into SYS. -/
structure Crossing where
  /-- Words it holds (05_clock_domains.md R115). -/
  words : Nat := 0
  /-- Words dropped because it was full (05_clock_domains.md R120). -/
  drops : Nat := 0
deriving DecidableEq, Repr

/-- One generated Fumarole frame waiting on a path. -/
structure QFrame where
  /-- Frame type (04_status.md R93). -/
  kind : Nat := 0
  /-- The frame from its first sync byte to its CRC (04_status.md R92). -/
  bytes : List (BitVec 8) := []
deriving DecidableEq, Repr

/-- One path of Table 4.3. -/
structure FuPath where
  /-- Queued frames, oldest first (04_status.md R100). -/
  queue : List QFrame := []
  /-- Frames waiting for room, oldest first (04_status.md R100). -/
  waiting : List QFrame := []
  /-- Of the oldest queued frame: on STAT the line time already spent, on a biphase path the bytes begun (04_status.md R99, R102). -/
  spent : Nat := 0
deriving DecidableEq, Repr

/-- What a biphase output has sent of its frames and of its user-bit stream. -/
structure BpoLine where
  /-- Place in the biphase block of the first frame of the present data-path block (12_biphase_ports.md R269). -/
  start : Nat := 0
  /-- Frames sent in the present data-path block (12_biphase_ports.md R280). -/
  sent : Nat := 0
  /-- Progress of the frame under way, in 10^-9 of a frame (12_biphase_ports.md R280). -/
  phase : Nat := 0
  /-- Bytes of the user-bit slots begun in the present data-path block, the one under way at its start first (04_status.md R102). -/
  slots : List (BitVec 8) := []
deriving DecidableEq, Repr

/-- A fault code's one-second fold. -/
structure Fold where
  /-- The fault code (04_status.md R98). -/
  code : BitVec 16 := 0#16
  /-- End of the second (04_status.md R98). -/
  until_ : Nat := 0
  /-- Occurrences counted since the last event (04_status.md R98). -/
  count : Nat := 0
  /-- Event time of the first of them (04_status.md R98). -/
  time : Nat := 0
  /-- Detail of the first of them (04_status.md R98). -/
  detail : List (BitVec 8) := []
deriving DecidableEq, Repr

/-- A raised and not yet cleared fault. -/
structure ActiveFault where
  /-- The fault code (04_status.md R107). -/
  code : BitVec 16 := 0#16
  /-- Its effect code (04_status.md R107). -/
  effect : Nat := 0
  /-- The port, input, channel, unit or stream it names (0 where none) (04_status.md R112). -/
  unit : Nat := 0
deriving DecidableEq, Repr

/-- The heartbeat's per-second counters. -/
structure Seconds where
  /-- Concealed blocks, all outputs (04_status.md R104). -/
  concealed : Nat := 0
  /-- Network frames lost after recovery (04_status.md R104). -/
  lost : Nat := 0
  /-- Network frames after their playout deadline (04_status.md R104). -/
  late : Nat := 0
  /-- Sheaves that missed their deadline (04_status.md R104). -/
  missed : Nat := 0
  /-- Speculative rollbacks (04_status.md R104). -/
  rollbacks : Nat := 0
  /-- SRAM corrected errors (04_status.md R104). -/
  sram : Nat := 0
deriving DecidableEq, Repr

/-- LED_LINK patterns of Table 4.7. -/
inductive LinkPat where
  | dark
  | slow
  | lit
  | fast
deriving DecidableEq, Repr

/-- LED_ROLE patterns of Table 4.7. -/
inductive RolePat where
  | dark
  | lit
  | one
  | two
  | three
  | fast
deriving DecidableEq, Repr

/-- The three status LEDs. -/
structure Leds where
  /-- LED_LINK pattern (04_status.md R107). -/
  link : LinkPat := .dark
  /-- Instant that pattern's cycle began (04_status.md R107). -/
  linkAt : Nat := 0
  /-- LED_ROLE pattern (04_status.md R107). -/
  role : RolePat := .dark
  /-- Instant that pattern's cycle began (04_status.md R107). -/
  roleAt : Nat := 0
  /-- LED_FAULT class shown, none when dark (04_status.md R107). -/
  fault : Option (Fin 16) := none
  /-- Instant that pattern's cycle began (04_status.md R107). -/
  faultAt : Nat := 0
deriving DecidableEq, Repr

/-- What the device tells. -/
structure Status where
  /-- Frame counter of the next frame (04_status.md R94). -/
  counter : BitVec 16 := 0#16
  /-- STAT (04_status.md R101). -/
  stat : FuPath := {}
  /-- Biphase user bits of BPO0 to BPO3 (04_status.md R101, R102). -/
  bpo : Vector FuPath 4 := Vector.replicate 4 {}
  /-- Frames and user-bit slots of BPO0 to BPO3 (04_status.md R102). -/
  lines : Vector BpoLine 4 := Vector.replicate 4 {}
  /-- Network (04_status.md R101, R103). -/
  net : FuPath := {}
  /-- Biphase user-bit paths open (from the first boundary after t_run or SAFE entry) (04_status.md R101). -/
  bpoOpen : Bool := false
  /-- One-second folds under way (04_status.md R98). -/
  folds : List Fold := []
  /-- Active faults, most recently raised first (04_status.md R107). -/
  active : List ActiveFault := []
  /-- Counters of the present second (04_status.md R104). -/
  sec : Seconds := {}
  /-- Device time of the next scheduled heartbeat instant (04_status.md R96). -/
  heartbeatAt : Nat := 0
  /-- Heartbeats sent since t_run or SAFE entry (04_status.md R97). -/
  heartbeats : Nat := 0
  /-- Device times of the telemetry frames due, soonest first (04_status.md R93). -/
  telemetryAt : List Nat := []
  /-- The ash-log replay is still to be sent (04_status.md R97). -/
  replayDue : Bool := false
  /-- The last 16 entries committed before t_reset, as stored (04_status.md R97). -/
  replay : List (List (BitVec 8)) := []
  /-- LED_LINK, LED_ROLE, LED_FAULT (04_status.md R107). -/
  leds : Leds := {}
  /-- LL, the followed leader's node (04_status.md R103). -/
  leaderNode : Option (BitVec 8) := none
  /-- Leaders heard and when last (01_system_picture.md R591). -/
  heard : List (BitVec 8 × Nat) := []
  /-- t_run or the instant the last heard leader fell silent (01_system_picture.md R591). -/
  silentFrom : Nat := 0
  /-- A wake beacon has been received since F470 was raised (03_modes_startup.md R90). -/
  beaconBack : Bool := false
  /-- Last frame of the own address with another EUI-48 (01_system_picture.md R592). -/
  sharedSeen : Option Nat := none
  /-- Last F411 (01_system_picture.md R592). -/
  sharedRaised : Option Nat := none
deriving DecidableEq, Repr

/-- An ash-log entry of Table 4.8 before it is numbered. -/
structure LogEntry where
  /-- Event time (04_status.md R108). -/
  time : Nat := 0
  /-- Fault code or causing code (04_status.md R108). -/
  code : BitVec 16 := 0#16
  /-- 1 fault, 2 mode change, 3 repair, 4 counter change, 5 start (04_status.md R108). -/
  kind : Nat := 0
  /-- Mode in force just before (04_status.md R108). -/
  mode : Nat := 0
  /-- Occurrences represented (04_status.md R108). -/
  occurrences : Nat := 1
  /-- Detail byte string (04_status.md R108). -/
  detail : List (BitVec 8) := []
deriving DecidableEq, Repr

/-- A code's 60 s log fold. -/
structure LogFold where
  /-- The fault code (04_status.md R111). -/
  code : BitVec 16 := 0#16
  /-- End of the 60 s (04_status.md R111). -/
  until_ : Nat := 0
  /-- Occurrences counted (04_status.md R111). -/
  count : Nat := 0
  /-- Event time of the first of them (04_status.md R111). -/
  time : Nat := 0
  /-- Detail of the first of them (04_status.md R111). -/
  detail : List (BitVec 8) := []
  /-- Mode in force just before the first of them (04_status.md R108). -/
  mode : Nat := 0
deriving DecidableEq, Repr

/-- The ash log's volatile side; the entries are bytes of the flash. -/
structure AshLog where
  /-- The flash has come up and the log was scanned (04_status.md R110). -/
  present : Bool := false
  /-- Next sequence number (04_status.md R108). -/
  nextSeq : Nat := 1
  /-- Slot written next (04_status.md R110). -/
  nextSlot : Nat := 0
  /-- Torn slots found at this start (04_status.md R110). -/
  torn : Nat := 0
  /-- Entries waiting to be written, oldest first (04_status.md R109). -/
  waiting : List LogEntry := []
  /-- The first waiting entry is in its second attempt (04_status.md R109). -/
  retry : Bool := false
  /-- 60 s folds under way (04_status.md R111). -/
  folds : List LogFold := []
  /-- Instants of the entries of the rolling hour, newest first (04_status.md R111). -/
  hour : List Nat := []
  /-- Entries dropped under the hourly limit (04_status.md R111). -/
  dropped : Nat := 0
deriving DecidableEq, Repr

end Sys2Proof.Machine
end

