-- ==== Sys2Proof/Machine/StateAudio.lean ====
section
/-! DEFINITION. Biphase, TDM, PDM, USB, rate conversion and the block clock (chapters 12 to 15), as plain data. -/

namespace Sys2Proof.Machine

/-- A biphase frame in the one-frame hold, or released. -/
structure BpiFrame where
  /-- Device time at which it arrived (05_clock_domains.md R118). -/
  at_ : Nat := 0
  /-- Subframe 1 (12_biphase_ports.md R272). -/
  left : Sample := {}
  /-- Subframe 2 (12_biphase_ports.md R272). -/
  right : Sample := {}
deriving DecidableEq, Repr

/-- One biphase input. -/
structure Bpi where
  /-- Preambles arrive (12_biphase_ports.md R276). -/
  present : Bool := false
  /-- Measured frame rate, as the nominal rate it counts as (0 outside every band) (12_biphase_ports.md R270). -/
  rate : Nat := 0
  /-- Consecutive frames with valid preambles, saturating at 64 (12_biphase_ports.md R276). -/
  run : Nat := 0
  /-- Audio-qualified (12_biphase_ports.md R276). -/
  qualified : Bool := false
  /-- The frame in the hold (12_biphase_ports.md R272). -/
  held : Option BpiFrame := none
  /-- Last good sample of subframe 1 since release (12_biphase_ports.md R272). -/
  goodL : Option Int := none
  /-- Last good sample of subframe 2 since release (12_biphase_ports.md R272). -/
  goodR : Option Int := none
  /-- The previous subframe carried Pa (12_biphase_ports.md R277). -/
  paSeen : Bool := false
  /-- Channel-status bits of the present block, first first (12_biphase_ports.md R273). -/
  cs : List Bool := []
  /-- A bad subframe carried a C bit of this block (12_biphase_ports.md R273). -/
  csBad : Bool := false
  /-- A B preamble has begun a block (12_biphase_ports.md R273). -/
  inBlock : Bool := false
  /-- Muted for clock loss (or since t_run) (12_biphase_ports.md R276). -/
  muteClock : Bool := true
  /-- Muted for non-audio payload (12_biphase_ports.md R277). -/
  muteAudio : Bool := false
  /-- Clean count (12_biphase_ports.md R278). -/
  clean : Nat := 0
  /-- Preamble errors in the present second (12_biphase_ports.md R279). -/
  preambles : Nat := 0
  /-- Parity errors in the present second (12_biphase_ports.md R279). -/
  parities : Nat := 0
  /-- Block-length errors in the present second (12_biphase_ports.md R279). -/
  lengths : Nat := 0
  /-- F700 raised (12_biphase_ports.md R276). -/
  lost : Bool := false
deriving DecidableEq, Repr

/-- One biphase output. -/
structure Bpo where
  /-- Transitions on the land (12_biphase_ports.md R285). -/
  running : Bool := false
  /-- Runs in its input's receive domain (12_biphase_ports.md R281). -/
  follow : Bool := false
  /-- Frame rate (12_biphase_ports.md R282). -/
  rate : Nat := 0
  /-- Begins a new biphase block at this boundary (12_biphase_ports.md R281). -/
  fresh : Bool := true
  /-- Channel status sent (12_biphase_ports.md R282). -/
  cs : List (BitVec 8) := []
  /-- The frames sent over the block last completed, subframe 1 and subframe 2 of each (12_biphase_ports.md R269, R283). -/
  frames : List (Subframe × Subframe) := []
deriving DecidableEq, Repr

/-- One TDM port. -/
structure TdmPort where
  /-- Slot count in force S (0 when off) (13_tdm_pdm.md R288). -/
  slots : Nat := 0
  /-- Leader port (02_straps.md R58). -/
  leader : Bool := false
  /-- Not unused (13_tdm_pdm.md R289). -/
  used : Bool := false
  /-- Leader lands run in the present block (13_tdm_pdm.md R300). -/
  drives : Bool := false
  /-- They began to run with the present block (13_tdm_pdm.md R300). -/
  fresh : Bool := false
  /-- Released (13_tdm_pdm.md R296). -/
  qualified : Bool := false
  /-- A window within 1000 ppm is needed before release (13_tdm_pdm.md R297). -/
  needRate : Bool := false
  /-- The last completed 1 ms window was within 1000 ppm (13_tdm_pdm.md R297). -/
  rateOk : Bool := false
  /-- Frame timer expiry (13_tdm_pdm.md R294). -/
  timer : Option Nat := none
  /-- After cause 1, until the next FS detection (13_tdm_pdm.md R293). -/
  waitFs : Bool := false
  /-- Consecutive bad frames (13_tdm_pdm.md R296). -/
  bad : Nat := 0
  /-- A good frame since t_run (13_tdm_pdm.md R298). -/
  anyGood : Bool := false
  /-- Input elastic buffer, oldest first (13_tdm_pdm.md R292). -/
  inBuf : List (List Sample) := []
  /-- Frames read in the present block, oldest first (13_tdm_pdm.md R292). -/
  got : List (List Sample) := []
  /-- MEDIA reads the input buffer (13_tdm_pdm.md R292). -/
  reading : Bool := false
  /-- Output elastic buffer, oldest first (13_tdm_pdm.md R292). -/
  outBuf : List (List Int) := []
  /-- The output frame the follower framer sends; none while DO is low (13_tdm_pdm.md R292, R295). -/
  sending : Option (List Int) := none
  /-- Last good sample of each slot since release (13_tdm_pdm.md R295). -/
  lastGood : List Int := []
  /-- FS detections in the present 1 ms window (13_tdm_pdm.md R296). -/
  fsCount : Nat := 0
  /-- Bad frames in the present second (13_tdm_pdm.md R299). -/
  badSec : Nat := 0
  /-- Slips in the present second (13_tdm_pdm.md R299). -/
  slipSec : Nat := 0
  /-- Cause of the first event in the present second (13_tdm_pdm.md R299). -/
  causeSec : Option Nat := none
  /-- F711 active (13_tdm_pdm.md R296). -/
  lost : Bool := false
  /-- t_run + 10 s (13_tdm_pdm.md R298). -/
  deadline : Option Nat := none
deriving DecidableEq, Repr

/-- The MIC_EN gate and the PDM clocks. -/
structure MicGate where
  /-- MIC_EN level (13_tdm_pdm.md R305). -/
  en : Bool := false
  /-- The gate is open (13_tdm_pdm.md R305). -/
  open_ : Bool := false
  /-- MIC_EN high continuously since (13_tdm_pdm.md R305). -/
  highSince : Option Nat := none
  /-- PDM_CLK0 running (13_tdm_pdm.md R302). -/
  clk0 : Bool := false
  /-- PDM_CLK1 running (13_tdm_pdm.md R302). -/
  clk1 : Bool := false
  /-- End of the 20 ms of PDM_CLK0 (13_tdm_pdm.md R304). -/
  settle0 : Option Nat := none
  /-- State of the four decimators (13_tdm_pdm.md R303). -/
  filt : Vector Int 4 := Vector.replicate 4 0
  /-- Samples of the present block that line 0 passes, from the first to before the second (13_tdm_pdm.md R304). -/
  pass0 : Nat × Nat := (0, 0)
  /-- Samples of the present block that line 1 passes (13_tdm_pdm.md R304). -/
  pass1 : Nat × Nat := (0, 0)
  /-- End of the 20 ms of PDM_CLK1 (13_tdm_pdm.md R304). -/
  settle1 : Option Nat := none
deriving DecidableEq, Repr

/-- An unfinished control transfer. -/
structure CtrlXfer where
  /-- BmRequestType (14_usb_audio.md R320). -/
  bmType : BitVec 8 := 0#8
  /-- bRequest (14_usb_audio.md R320). -/
  bRequest : BitVec 8 := 0#8
  /-- Awaiting its status stage (14_usb_audio.md R316). -/
  status : Bool := false
  /-- What takes effect at its completion (14_usb_audio.md R316). -/
  effect : UsbEffect := .nothing
deriving DecidableEq, Repr

/-- The USB audio function. -/
structure Usb where
  /-- USB_VBUS above its threshold (14_usb_audio.md R307). -/
  vbus : Bool := false
  /-- Attached (14_usb_audio.md R307). -/
  attached : Bool := false
  /-- Enumerated at full speed (14_usb_audio.md R310). -/
  full : Bool := false
  /-- Address (14_usb_audio.md R317). -/
  address : Nat := 0
  /-- Configuration (14_usb_audio.md R315). -/
  config : Nat := 0
  /-- Alternate of interface 1 (14_usb_audio.md R315). -/
  alt1 : Nat := 0
  /-- Alternate of interface 2 (14_usb_audio.md R315). -/
  alt2 : Nat := 0
  /-- Test mode selector, 0 none (14_usb_audio.md R315). -/
  test : Nat := 0
  /-- Halted endpoints (14_usb_audio.md R315). -/
  halted : List Nat := []
  /-- Suspended (14_usb_audio.md R318). -/
  suspended : Bool := false
  /-- Unfinished control transfer (14_usb_audio.md R316). -/
  xfer : Option CtrlXfer := none
  /-- Data of the last control read; none after a stall (14_usb_audio.md R315). -/
  reply : Option (List (BitVec 8)) := none
  /-- OUT elastic buffer, oldest first (14_usb_audio.md R312). -/
  buf : List (List Int) := []
  /-- Waiting for L_t (14_usb_audio.md R312). -/
  filling : Bool := true
  /-- Last sample of each OUT channel (14_usb_audio.md R312). -/
  lastOut : List Int := []
  /-- OUT sample frames read in the present block, oldest first (14_usb_audio.md R312). -/
  got : List (List Sample) := []
  /-- IN sample frames of the present block not yet completed or sent (14_usb_audio.md R313). -/
  inQ : List (List Int) := []
  /-- Completed IN sample frames not yet sent (14_usb_audio.md R313). -/
  ready : Nat := 0
  /-- Last IN packet (14_usb_audio.md R313). -/
  inPacket : List (List Int) := []
  /-- Media instants of the last SOF intervals, newest first (14_usb_audio.md R314). -/
  counts : List Nat := []
  /-- Media sample instants since the last SOF (14_usb_audio.md R314). -/
  media : Nat := 0
  /-- SOFs since the last feedback value (14_usb_audio.md R314). -/
  sofs : Nat := 0
  /-- SOF intervals since interface 1 took a non-zero alternate (14_usb_audio.md R314). -/
  sinceAlt : Nat := 0
  /-- F (14_usb_audio.md R314). -/
  feedback : Nat := 0
  /-- Underruns in the present second (14_usb_audio.md R320). -/
  under : Nat := 0
  /-- Overruns in the present second (14_usb_audio.md R320). -/
  over_ : Nat := 0
  /-- Packets discarded in the present second (14_usb_audio.md R320). -/
  thrown : Nat := 0
deriving DecidableEq, Repr

/-- One assigned ASRC pair. -/
structure AsrcPair where
  /-- 0 to 3 BPI n, 4 to 7 BPO n - 4, 8 announcement (15_asrc_alignment.md R321). -/
  use_ : Nat := 0
  /-- Tracking (15_asrc_alignment.md R322). -/
  tracking : Bool := false
  /-- Start of the present 200 ms count (15_asrc_alignment.md R322). -/
  since : Nat := 0
  /-- The 200 ms count runs (15_asrc_alignment.md R322). -/
  counting : Bool := false
  /-- Locked (15_asrc_alignment.md R322). -/
  locked : Bool := false
  /-- Media position the loop predicts for the next frame, in 2^-32 of a media sample; none before the first (15_asrc_alignment.md R322). -/
  next : Option Int := none
  /-- Media samples a frame, in units of 2^-32, as the loop has them (15_asrc_alignment.md R322). -/
  step : Int := 0
  /-- The tracking error at the last frame, in 2^-32 of a media sample (15_asrc_alignment.md R322). -/
  error : Int := 0
  /-- Start of the span in which the tracking error has stayed within an eighth of an input sample (15_asrc_alignment.md R322). -/
  within : Option Nat := none
  /-- The power k with r within 1 ppm of 2^k, and since when (15_asrc_alignment.md R326). -/
  near : Option (Int × Nat) := none
  /-- Fixed-ratio mode at 2^k (15_asrc_alignment.md R326). -/
  fixed : Option Int := none
  /-- Fixed-ratio mode from the next boundary (15_asrc_alignment.md R326). -/
  fixedNext : Option Int := none
  /-- Input samples within the filter span of coming outputs, with their instants, oldest first (15_asrc_alignment.md R323). -/
  tail : List (Nat × Sample × Sample) := []
  /-- Output samples of the present block so far (15_asrc_alignment.md R323). -/
  got : List (Sample × Sample) := []
deriving DecidableEq, Repr

/-- The data path, block numbers and START. -/
structure Blocks where
  /-- The data path runs (01_system_picture.md R27). -/
  running : Bool := false
  /-- Block number B of the present block (15_asrc_alignment.md R328). -/
  number : Nat := 0
  /-- Block stamp of the present block (15_asrc_alignment.md R329). -/
  stamp : Nat := 0
  /-- Group position of the present block (15_asrc_alignment.md R328). -/
  group : Nat := 0
  /-- Media samples before the present block, counted on the media grid (15_asrc_alignment.md R322). -/
  base : Nat := 0
  /-- Device time of the last boundary (15_asrc_alignment.md R332). -/
  lastAt : Nat := 0
  /-- Boundaries exist (from the first lock) (15_asrc_alignment.md R328). -/
  exists_ : Bool := false
  /-- The first boundary after the lock or resumption has been placed (15_asrc_alignment.md R327). -/
  placed : Bool := false
  /-- Assigned ASRC pairs, pair 0 first (15_asrc_alignment.md R321). -/
  pairs : List AsrcPair := []
  /-- START driven low (15_asrc_alignment.md R330). -/
  startLow : Bool := true
  /-- Own release of START (15_asrc_alignment.md R331). -/
  releasedAt : Option Nat := none
  /-- t_e (device time) (15_asrc_alignment.md R331). -/
  te : Option Nat := none
  /-- The start boundary has passed (15_asrc_alignment.md R331). -/
  started : Bool := false
  /-- Interventions waiting for a block boundary (01_system_picture.md R29). -/
  due : List Due := []
  /-- Samples of the four microphones in the present block (13_tdm_pdm.md R306). -/
  mic : List (List Sample) := []
  /-- Sample instants of the present block that have passed in MEDIA (15_asrc_alignment.md R327). -/
  done : Nat := 0
  /-- Changes of the MUTE_N level in the present block, by sample index, newest first (15_asrc_alignment.md R337). -/
  muteEdges : List (Nat × Bool) := []
  /-- MUTE_N low (15_asrc_alignment.md R337). -/
  muteLow : Bool := false
  /-- MUTE_N's levels over the last 125 µs of the block before, sample by sample (15_asrc_alignment.md R337). -/
  mutePrev : List Bool := []
deriving DecidableEq, Repr

end Sys2Proof.Machine
end

