-- ==== Sys2Proof/Machine/StateNet.lean ====
section
/-! DEFINITION. Wellspring, ports, switch, gPTP, streams, routing, the pair and security (chapters 6 to 11), as plain data. -/

namespace Sys2Proof.Machine

/-- Stages of a reference switch, R142. -/
inductive SwitchStage where
  | idle
  | frequency
  | phase
  | close
deriving DecidableEq, Repr

/-- What Wellspring keeps of one measured reference. -/
structure RefState where
  /-- Qualified (06_wellspring.md R130). -/
  qualified : Bool := false
  /-- Continuously qualified since (06_wellspring.md R133). -/
  since : Nat := 0
  /-- Instants of its losses within the last 60 s (06_wellspring.md R132). -/
  losses : List Nat := []
  /-- Barred until (06_wellspring.md R132). -/
  barred : Option Nat := none
  /-- Mean frequency offset of its qualifying window, in ppb of nominal (06_wellspring.md R130). -/
  ppb : Int := 0
  /-- Mean frequency offset of the last window measured, in ppb of nominal (06_wellspring.md R142). -/
  mean : Int := 0
  /-- Frame rate it qualified at, in Hz (06_wellspring.md R127). -/
  rate : Nat := 0
deriving DecidableEq, Repr

/-- One frequency-history window. -/
structure HistWindow where
  /-- Mean DCO ratio as an offset from nominal in units of 2^-32 (06_wellspring.md R145). -/
  dco : Int := 0
  /-- Reference code (06_wellspring.md R145). -/
  ref : Ref := .net
  /-- The REF source was the TCXO (06_wellspring.md R145). -/
  tcxo : Bool := false
  /-- Mean core die temperature (06_wellspring.md R145). -/
  temp : Int := 0
  /-- Powered day it was completed on (23_endurance.md R517). -/
  day : Nat := 0
deriving DecidableEq, Repr

/-- Reference selection, loops, switches and holdover. -/
structure Wellspring where
  /-- NET, BPI0, BPI1 and WCLK in that order (06_wellspring.md R130). -/
  refs : Vector RefState 4 := Vector.replicate 4 {}
  /-- End of the present 1 s window (06_wellspring.md R130). -/
  windowEnd : Option Nat := none
  /-- Reference last selected (06_wellspring.md R133). -/
  selected : Option Ref := none
  /-- Waiting for the start reference (06_wellspring.md R73). -/
  atStart : Bool := false
  /-- Start reference deadline (03_modes_startup.md R73). -/
  refDeadline : Option Nat := none
  /-- In holdover (06_wellspring.md R146). -/
  holdover : Bool := false
  /-- Holdover entry (06_wellspring.md R147). -/
  holdoverFrom : Nat := 0
  /-- Holdover entered on a loss (F301 raised) (06_wellspring.md R135). -/
  holdoverLoss : Bool := false
  /-- The holdover limit has passed (06_wellspring.md R147). -/
  limitPassed : Bool := false
  /-- The instant it passed (01_system_picture.md R29). -/
  limitAt : Nat := 0
  /-- The reference lost at holdover entry (06_wellspring.md R135). -/
  lostRef : Option Ref := none
  /-- Stage of a switch in progress (06_wellspring.md R142). -/
  stage : SwitchStage := .idle
  /-- Phase error still to be pulled, in 2^-64 of a ms (06_wellspring.md R142). -/
  phaseLeft : Int := 0
  /-- Frequency offset of the phase stage in units of 2^-64 (06_wellspring.md R142). -/
  phaseOff : Int := 0
  /-- A bandwidth step waits for the next boundary (06_wellspring.md R140). -/
  halve : Bool := false
  /-- The loop is locked (06_wellspring.md R139). -/
  locked : Bool := false
  /-- Locked once in this start (06_wellspring.md R141). -/
  everLocked : Bool := false
  /-- Consecutive updates within the threshold (06_wellspring.md R139). -/
  inCount : Nat := 0
  /-- Consecutive updates beyond four times the threshold (06_wellspring.md R139). -/
  outCount : Nat := 0
  /-- Bandwidth in force (06_wellspring.md R140). -/
  bandwidth : Nat := 0
  /-- Instant of the next bandwidth step (06_wellspring.md R140). -/
  nextHalf : Option Nat := none
  /-- DCO ratio as an offset from nominal in units of 2^-64 (06_wellspring.md R138). -/
  dco : Int := 0
  /-- Value the output slews to (holdover value or the new reference's frequency) (06_wellspring.md R146). -/
  dcoGoal : Int := 0
  /-- The loop filter's integrator in units of 2^-64 (06_wellspring.md R137). -/
  integ : Int := 0
  /-- DCO ratios of the last 10 s, one at each block boundary, newest first (06_wellspring.md R146). -/
  last10 : List Int := []
  /-- Instant the present history window completes (06_wellspring.md R145). -/
  histAt : Option Nat := none
  /-- Sum of the DCO ratio over the present history window (06_wellspring.md R145). -/
  histSum : Int := 0
  /-- Samples in that sum (06_wellspring.md R145). -/
  histCount : Nat := 0
  /-- Sum of the core die temperature over that window (06_wellspring.md R145). -/
  tempSum : Int := 0
  /-- Instant of the last valid CRF frame of the accepted leader (06_wellspring.md R131). -/
  crfLast : Option Nat := none
  /-- A 20 ms gap without a CRF frame within the present window (06_wellspring.md R130). -/
  crfGap : Bool := false
  /-- The latest CRF timestamps, newest first (06_wellspring.md R138). -/
  crfStamps : List Nat := []
  /-- Base_frequency of the CRF by which NET last qualified (08_time_streams.md R183). -/
  crfQualRate : Nat := 0
  /-- Device time of the phase target with which the divider chain was aligned at the last seeding; none where the target
  is an input's own frame (06_wellspring.md R144). -/
  dividerAt : Option Nat := none
  /-- Base_frequency of the accepted CRF (08_time_streams.md R183). -/
  crfRate : Nat := 0
  /-- 44.1 kHz family (02_straps.md R56). -/
  family44 : Bool := false
  /-- Media rate in Hz, fixed at t_run (08_time_streams.md R183). -/
  rate : Nat := 48000
  /-- TCXO_IN found at power-on (05_clock_domains.md R125). -/
  tcxo : Bool := false
  /-- MCLK_OUT and WCLK_OUT running (06_wellspring.md R149). -/
  mclk : Bool := false
deriving DecidableEq, Repr

/-- One of network ports A and B. -/
structure Port where
  /-- SP_LINK enables the port (02_straps.md R55). -/
  enabled : Bool := false
  /-- 1000BASE-T1 rather than 100BASE-T1 (02_straps.md R55). -/
  gigabit : Bool := true
  /-- Diagnostic result of this start (07_network_ports.md R154). -/
  diag : Diag := .none
  /-- Forced operation rather than auto-negotiation (07_network_ports.md R156). -/
  forced : Bool := false
  /-- The base page last received in auto-negotiation (07_network_ports.md R156, R159). -/
  page : Option AnPage := none
  /-- PHY master rather than slave over the link (07_network_ports.md R152, R156). -/
  master : Bool := false
  /-- Next alternation (07_network_ports.md R156). -/
  altAt : Option Nat := none
  /-- PHY link status (07_network_ports.md R157). -/
  phy : Bool := false
  /-- Instant the PHY link status last changed (07_network_ports.md R157). -/
  phySince : Nat := 0
  /-- Declared state (07_network_ports.md R157). -/
  up : Bool := false
  /-- Instants of the declared changes of the last 60 s (07_network_ports.md R159). -/
  changes : List Nat := []
  /-- The partner holds low-power idle (07_network_ports.md R168). -/
  asleep : Bool := false
  /-- EEE agreed in auto-negotiation (07_network_ports.md R167). -/
  eee : Bool := false
  /-- Egress queue, gPTP (07_network_ports.md R164). -/
  gptpQ : List NetFrame := []
  /-- Egress queue, class A (07_network_ports.md R164). -/
  classA : List NetFrame := []
  /-- Egress queue, best effort (07_network_ports.md R164). -/
  best : List NetFrame := []
  /-- Class A shaper credit in thousandths of a bit (08_time_streams.md R191). -/
  credit : Int := 0
  /-- The frame on the wire is a class A frame (08_time_streams.md R191). -/
  busyA : Bool := false
  /-- Time left of the frame on the wire (07_network_ports.md R158). -/
  busy : Nat := 0
  /-- The frame put on the wire last, with its transmit stamps; none where it was discarded (05_clock_domains.md R119). -/
  wire : Option NetFrame := none
  /-- Own frames of this port alone that wait for room in the gPTP class (07_network_ports.md R164). -/
  wait : List NetFrame := []
  /-- AsCapable (08_time_streams.md R171). -/
  asCapable : Bool := false
  /-- Consecutive successful Pdelay exchanges (08_time_streams.md R171). -/
  pdelayOk : Nat := 0
  /-- Exchanges since the port was declared up (08_time_streams.md R171). -/
  pdelayDone : Nat := 0
  /-- Sequence number of the last Pdelay request (08_time_streams.md R171). -/
  pdelaySeq : BitVec 16 := 0#16
  /-- Device time of that request while its response is awaited (08_time_streams.md R171). -/
  pdelaySent : Option Nat := none
  /-- Consecutive requests without a response (08_time_streams.md R171). -/
  pdelayLost : Nat := 0
  /-- Next Pdelay request (08_time_streams.md R171). -/
  pdelayAt : Option Nat := none
  /-- Neighbour propagation delay (08_time_streams.md R171). -/
  delay : Nat := 0
  /-- Next Announce sent (08_time_streams.md R171). -/
  announceAt : Option Nat := none
  /-- Next Sync sent (08_time_streams.md R171). -/
  syncAt : Option Nat := none
  /-- Best master heard on the port (08_time_streams.md R172). -/
  best1 : Option GmVector := none
  /-- Announce receipt timeout (08_time_streams.md R171). -/
  annDeadline : Option Nat := none
deriving DecidableEq, Repr

/-- The powered-device front end on port A. -/
structure Podl where
  /-- Presents a valid detection signature (07_network_ports.md R160). -/
  signature : Bool := true
  /-- Instant of the last classification exchange (07_network_ports.md R160). -/
  classifiedAt : Option Nat := none
  /-- The PSE supplies 24 V (else 12 V) (07_network_ports.md R160). -/
  volts24 : Bool := false
  /-- PODL_EN (07_network_ports.md R160). -/
  enable : Bool := false
  /-- The classes the last answer to a classification read declared (07_network_ports.md R160). -/
  answer : List Nat := []
deriving DecidableEq, Repr

/-- One forwarding flow. -/
structure Flow where
  /-- Source address (07_network_ports.md R163). -/
  src : BitVec 48 := 0#48
  /-- Destination address (07_network_ports.md R163). -/
  dst : BitVec 48 := 0#48
  /-- Last 32 packet numbers forwarded, newest first (07_network_ports.md R163). -/
  seen : List Nat := []
  /-- Last frame (07_network_ports.md R163). -/
  last : Nat := 0
deriving DecidableEq, Repr

/-- The three-port switch. -/
structure Switch where
  /-- Flow table (07_network_ports.md R163). -/
  flows : List Flow := []
  /-- Step 6 of R25 complete (07_network_ports.md R162). -/
  tables : Bool := false
  /-- The frame last offered to the internal endpoint (07_network_ports.md R162). -/
  offered : Option NetFrame := none
deriving DecidableEq, Repr

/-- gPTP and device time. -/
structure Gptp where
  /-- Device time in ns (00_scope.md R9). -/
  time : Nat := 0
  /-- Device time below a nanosecond, in units of 10^-15 ns (08_time_streams.md R175). -/
  frac : Nat := 0
  /-- Device-time rate correction in force, in units of 10^-15 (08_time_streams.md R175). -/
  rate : Int := 0
  /-- Rate correction toward which it moves at 2 ppm/s, in the same units (08_time_streams.md R175). -/
  rateGoal : Int := 0
  /-- Slave port (08_time_streams.md R174). -/
  slavePort : Option (Fin 2) := none
  /-- This device is grandmaster (08_time_streams.md R174). -/
  grandmaster : Bool := false
  /-- gPTP synchronised (08_time_streams.md R174). -/
  synced : Bool := false
  /-- Instant from which the device has been synchronised or grandmaster without a break (06_wellspring.md R130). -/
  okSince : Option Nat := none
  /-- Rate of device time against REF while the core die is powered down, in ppb: the always-on oscillator's
  (03_modes_startup.md R84). -/
  aoPpb : Option Int := none
  /-- Consecutive accepted Syncs within 1 us (08_time_streams.md R174). -/
  good : Nat := 0
  /-- Last accepted Sync (08_time_streams.md R174). -/
  lastSync : Option Nat := none
  /-- The instant the 3 s of held synchronisation count from: the last accepted Sync, or the end of the time as grandmaster
  (08_time_streams.md R174). -/
  holdFrom : Option Nat := none
  /-- The instant the slave port became so (08_time_streams.md R171). -/
  slaveFrom : Nat := 0
  /-- End of the 2 s with priority1 255 (08_time_streams.md R172). -/
  priority255 : Option Nat := none
  /-- Priority1 is held at 255 (08_time_streams.md R172). -/
  prioHeld : Bool := true
  /-- gPTP has set device time once (08_time_streams.md R173). -/
  firstSet : Bool := false
  /-- Sequence number of the next Sync (08_time_streams.md R171). -/
  syncSeq : BitVec 16 := 0#16
  /-- Sequence number of the next Announce (08_time_streams.md R171). -/
  annSeq : BitVec 16 := 0#16
deriving DecidableEq, Repr

/-- Vector recovery of one received stream. -/
structure Recovery where
  /-- Followed talker EUI-48 (08_time_streams.md R179). -/
  follow : Option (BitVec 48) := none
  /-- Last frame of the followed EUI-48 (08_time_streams.md R179). -/
  followAt : Nat := 0
  /-- A frame has passed since the last reset (10_redundancy.md R210). -/
  active : Bool := false
  /-- Highest sequence number passed (10_redundancy.md R210). -/
  seq : BitVec 16 := 0#16
  /-- History of the 32 numbers up to it (10_redundancy.md R210). -/
  seen : BitVec 32 := 0#32
  /-- Last passed frame (10_redundancy.md R210). -/
  passedAt : Nat := 0
deriving DecidableEq, Repr

/-- An accepted AAF frame waiting for presentation. -/
structure PlayFrame where
  /-- Rebuilt presentation time P of its first sample (08_time_streams.md R187). -/
  time : Nat := 0
  /-- Sample rate of the frame in Hz (08_time_streams.md R181). -/
  rate : Nat := 48000
  /-- Its samples, each a list of channels, in the internal 24-bit form (08_time_streams.md R185). -/
  samples : List (List Int) := []
deriving DecidableEq, Repr

/-- What concealment keeps of one received channel. -/
structure LastGood where
  /-- x_a (18_speculation.md R387). -/
  value : Int := 0
  /-- F811 active for this channel (18_speculation.md R394). -/
  zeros : Bool := false
  /-- Sample positions presented since x_a (18_speculation.md R387). -/
  gone : Nat := 0
deriving DecidableEq, Repr

/-- One stream listened to. -/
structure RxStream where
  /-- 0 program, 1 return, 2 announcement, 3 CRF (08_time_streams.md R177). -/
  kind : Nat := 0
  /-- NN (08_time_streams.md R177). -/
  node : BitVec 8 := 0#8
  /-- Its sequence recovery (10_redundancy.md R209). -/
  recov : Recovery := {}
  /-- Channels_per_frame last accepted (09_routing_profiles.md R197). -/
  channels : Nat := 0
  /-- The stream runs the double rate (08_time_streams.md R194). -/
  double : Bool := false
  /-- Last accepted frame (08_time_streams.md R194). -/
  lastAccepted : Option Nat := none
  /-- Frames lost in the present second (10_redundancy.md R211). -/
  lost : Nat := 0
  /-- Instant and weight of the last frame of this return stream that passed the switch (08_time_streams.md R195). -/
  passed : Option (Nat × Nat) := none
  /-- Accepted frames not yet presented (08_time_streams.md R189). -/
  play : List PlayFrame := []
  /-- Sample rate of the last accepted frame in Hz (08_time_streams.md R185). -/
  rate : Nat := 48000
  /-- Last accepted sample of each channel (18_speculation.md R387). -/
  good : List LastGood := []
  /-- What concealment kept at the present boundary (10_redundancy.md R216). -/
  good0 : List LastGood := []
  /-- Samples decided for the present block and beyond, position by position (18_speculation.md R394). -/
  ready : List (List Sample) := []
  /-- Of a converted announcement: presentation time its positions count from (15_asrc_alignment.md R325). -/
  anchor : Nat := 0
  /-- Its next position (15_asrc_alignment.md R325). -/
  pos : Nat := 0
deriving DecidableEq, Repr

/-- One talker stream. -/
structure TxStream where
  /-- Sequence number of the next frame (08_time_streams.md R190). -/
  seq : BitVec 16 := 0#16
  /-- Index of the next AAF frame of the block, 8 when the block is sent (08_time_streams.md R184). -/
  next : Nat := 8
  /-- Block stamp a CRF frame carries (08_time_streams.md R182). -/
  stamp : Nat := 0
deriving DecidableEq, Repr

/-- The streams talked and listened to. -/
structure Streams where
  /-- Streams listened to (08_time_streams.md R179). -/
  rx : List RxStream := []
  /-- Program bus talked (08_time_streams.md R190). -/
  program : TxStream := {}
  /-- Return stream talked (08_time_streams.md R190). -/
  ret : TxStream := {}
  /-- Announcement bus talked (08_time_streams.md R190). -/
  ann : TxStream := {}
  /-- CRF stream talked (08_time_streams.md R182). -/
  crf : TxStream := {}
  /-- Own frames waiting for room in an egress class queue, oldest first, with the instants they were written
  (07_network_ports.md R164, 19_memory_dma.md R423). -/
  stall : List (Nat × NetFrame) := []
  /-- Admitted return streams in ascending NN, in force (08_time_streams.md R194). -/
  admitted : List (BitVec 8) := []
  /-- The return list: the admitted streams in ascending NN, each with its channels at the boundary from which its admission governs
  (09_routing_profiles.md R201). -/
  returns : List (BitVec 8 × Nat) := []
  /-- Admission result awaiting the next block boundary (08_time_streams.md R194). -/
  nextAdmitted : Option (List (BitVec 8)) := none
  /-- Refused set of the last evaluation (08_time_streams.md R194). -/
  refused : List (BitVec 8) := []
  /-- The member's own stream is refused (08_time_streams.md R195). -/
  selfRefused : Bool := false
  /-- Device time of the next evaluation (08_time_streams.md R194). -/
  admitAt : Nat := 0
deriving DecidableEq, Repr

/-- Phases of the duck gain, R204. -/
inductive DuckPhase where
  | rest
  | attack
  | hold
  | release
deriving DecidableEq, Repr

/-- Routes and the duck gain. -/
structure Routing where
  /-- Profile in effect (09_routing_profiles.md R196). -/
  profile : Fin 16 := 0
  /-- Duck gain at the present boundary (09_routing_profiles.md R204). -/
  duck : Int := 0
  /-- Attack, hold or release (09_routing_profiles.md R204). -/
  duckPhase : DuckPhase := .rest
  /-- Blocks since the last announcing block, saturating (10_redundancy.md R230). -/
  quiet : Nat := 65535
  /-- Test-signal sample index modulo 256 (09_routing_profiles.md R202). -/
  testN : Nat := 0
  /-- Samples presented at the local outputs in the present block (09_routing_profiles.md R200). -/
  outputs : List OutBlock := []
deriving DecidableEq, Repr

/-- States of Table 10.2. -/
inductive PartnerState where
  | detached
  | joining
  | inStep
  | cold
deriving DecidableEq, Repr

/-- The pair record in force. -/
structure PairRec where
  /-- The other device's EUI-48 (11_tenants_security.md R263). -/
  eui : BitVec 48 := 0#48
  /-- Its node (11_tenants_security.md R263). -/
  node : BitVec 8 := 0#8
  /-- On the partner, the leader's SP_PROFILE (11_tenants_security.md R263). -/
  profile : Fin 16 := 0
deriving DecidableEq, Repr

/-- A block frame held, Table 10.4. -/
structure BlockInfo where
  /-- Step n (10_redundancy.md R217). -/
  step : Nat := 0
  /-- Block stamp (10_redundancy.md R218). -/
  stamp : Nat := 0
  /-- Tu (10_redundancy.md R218). -/
  tu : Bool := false
  /-- Announcement frames used (10_redundancy.md R216). -/
  annUsed : Bool := false
  /-- Next program, CRF and announcement sequence numbers (10_redundancy.md R218). -/
  seqs : BitVec 16 × BitVec 16 × BitVec 16 := (0#16, 0#16, 0#16)
  /-- Use mask (10_redundancy.md R216). -/
  mask : BitVec 64 := 0#64
  /-- Input digest of step n (10_redundancy.md R219). -/
  inDigest : BitVec 32 := 0#32
  /-- Output digest of step n - 1 (10_redundancy.md R219). -/
  outDigest : BitVec 32 := 0#32
  /-- Admitted NN list (10_redundancy.md R216). -/
  admitted : List (BitVec 8) := []
  /-- Leader-only samples of the last quarter of input block n (10_redundancy.md R224). -/
  quarter : List (List Int) := []
deriving DecidableEq, Repr

/-- The inputs of a step whose block frame a hot partner awaits. -/
structure Closed where
  /-- Its block number (10_redundancy.md R217). -/
  number : Nat := 0
  /-- Its block stamp (10_redundancy.md R217). -/
  stamp : Nat := 0
  /-- Its group position (15_asrc_alignment.md R328). -/
  group : Nat := 0
  /-- Frames read from TDM port 0 (10_redundancy.md R219). -/
  got0 : List (List Sample) := []
  /-- Frames read from TDM port 1 (10_redundancy.md R219). -/
  got1 : List (List Sample) := []
  /-- USB OUT sample frames (10_redundancy.md R219). -/
  usb : List (List Sample) := []
  /-- Microphone samples (10_redundancy.md R219). -/
  mic : List (List Sample) := []
  /-- Outputs of the ASRC pairs (10_redundancy.md R219). -/
  pairs : List (List (Sample × Sample)) := []
  /-- Samples of each received stream (10_redundancy.md R216). -/
  ready : List (List (List Sample)) := []
  /-- What concealment kept of each received stream at its start (10_redundancy.md R216). -/
  good : List (List LastGood) := []
  /-- Clip mix presented (20_granary_image.md R445). -/
  clip : List (List Int × List Int) := []
  /-- Duck gain at its start (09_routing_profiles.md R204). -/
  duck : Int := 0
  /-- Duck gain at its end (09_routing_profiles.md R204). -/
  duckNext : Int := 0
  /-- Test-signal sample index (09_routing_profiles.md R202). -/
  testN : Nat := 0
  /-- Leader-only samples received (10_redundancy.md R224). -/
  leaderOnly : List (List Int) := []
deriving DecidableEq, Repr

/-- The frame in the TIE transmitter. -/
structure TieTx where
  /-- Frames put on TIE in the present slot, in order (10_redundancy.md R225). -/
  frames : List TieFrame := []
  /-- Frame to be sent again after a collision (10_redundancy.md R226). -/
  retry : Option TieFrame := none
  /-- Idle line to wait before driving again after a collision (10_redundancy.md R226). -/
  resumeNs : Nat := 0
deriving DecidableEq, Repr

/-- A checkpoint image being received or held. -/
structure Checkpoint where
  /-- Total length (10_redundancy.md R229). -/
  total : Nat := 0
  /-- Offsets of the chunks received; their bytes lie in the checkpoint buffer (10_redundancy.md R229). -/
  got : List Nat := []
deriving DecidableEq, Repr

/-- Pairs, TIE, checkpoints, takeover and take-back. -/
structure Redundancy where
  /-- The newest committed pair record (10_redundancy.md R212). -/
  pair : Option PairRec := none
  /-- State of a device in PARTNER (10_redundancy.md R214). -/
  state : PartnerState := .detached
  /-- Partner in contact (10_redundancy.md R228). -/
  contact : Bool := false
  /-- Contact made in this start (10_redundancy.md R242). -/
  everContact : Bool := false
  /-- Last valid frame from the other device on TIE or as a partner frame (10_redundancy.md R232). -/
  lastFrame : Nat := 0
  /-- Last partner heartbeat received (10_redundancy.md R228). -/
  hbAt : Nat := 0
  /-- Last frame of the other device's EUI-48 seen by the switch (10_redundancy.md R232). -/
  lastSeen : Nat := 0
  /-- Flag [0] of the other side's last frame (10_redundancy.md R223). -/
  peerLeader : Bool := false
  /-- Flag [2] of the other side's last frame (10_redundancy.md R223). -/
  peerInStep : Bool := false
  /-- Flag [0] or program frames of the partner seen during the start (10_redundancy.md R236). -/
  sawActing : Bool := false
  /-- Slot counter (10_redundancy.md R223). -/
  slot : BitVec 16 := 0#16
  /-- Consecutive missed slots (10_redundancy.md R225). -/
  missed : Nat := 0
  /-- A valid frame arrived in the present slot (10_redundancy.md R225). -/
  heardSlot : Bool := false
  /-- TIE declared down (10_redundancy.md R225). -/
  tieDown : Bool := false
  /-- Last step the other side says it holds (10_redundancy.md R217). -/
  replyHeld : Nat := 0
  /-- Present step number (10_redundancy.md R216). -/
  step : Nat := 0
  /-- Newest block frame held (10_redundancy.md R217). -/
  held : Option BlockInfo := none
  /-- Bytes of recorded steps that the record ring of the Silo holds (10_redundancy.md R221). -/
  ringUsed : Nat := 0
  /-- Close of the step whose block frame is still awaited (10_redundancy.md R217). -/
  closeAt : Option Nat := none
  /-- Own input digest of the present step (10_redundancy.md R219). -/
  inDigest : BitVec 32 := 0#32
  /-- Own output digest of the step before (10_redundancy.md R219). -/
  outDigest : BitVec 32 := 0#32
  /-- Own output digest of the present step; none where the device has not computed that step (10_redundancy.md R219). -/
  outHere : Option (BitVec 32) := none
  /-- Inputs of the steps that have closed and not been computed, oldest first (10_redundancy.md R217). -/
  closed : List Closed := []
  /-- Program, CRF and announcement numbers at the start of the present block (10_redundancy.md R218). -/
  startSeqs : BitVec 16 × BitVec 16 × BitVec 16 := (0#16, 0#16, 0#16)
  /-- The device leaves step at the next boundary, with the F520 cause (10_redundancy.md R220). -/
  leaveStep : Option Nat := none
  /-- Replay has reached the present step (10_redundancy.md R221). -/
  replayed : Bool := false
  /-- Instant of the resync request in progress (10_redundancy.md R221). -/
  resyncAt : Option Nat := none
  /-- A checkpoint is to be taken at the next sheaf boundary (10_redundancy.md R221). -/
  ckptDue : Bool := false
  /-- The checkpoint being sent in chunks (10_redundancy.md R221). -/
  sending : Option (List (BitVec 8)) := none
  /-- Offset of the next chunk (10_redundancy.md R221). -/
  sendOff : Nat := 0
  /-- The checkpoint being received (10_redundancy.md R229). -/
  rxCkpt : Checkpoint := {}
  /-- Length of the newest complete checkpoint (10_redundancy.md R229). -/
  current : Option Nat := none
  /-- It lies in checkpoint buffer 1 (10_redundancy.md R229). -/
  currentB : Bool := false
  /-- Last complete checkpoint (or contact start) (10_redundancy.md R229). -/
  ckptAt : Nat := 0
  /-- Device time of the next cold checkpoint (10_redundancy.md R229). -/
  ckptNext : Nat := 0
  /-- Device time of the next partner heartbeat (10_redundancy.md R228). -/
  hbNext : Nat := 0
  /-- The leader is declared lost; takeover due (10_redundancy.md R232). -/
  leaderLost : Bool := false
  /-- A cold restore is in progress (10_redundancy.md R233). -/
  restoring : Bool := false
  /-- The restored data path starts at the next boundary (10_redundancy.md R233). -/
  startData : Bool := false
  /-- Sequence number of the last CRF frame accepted (10_redundancy.md R234). -/
  crfSeq : BitVec 16 := 0#16
  /-- Step b of a take-back in progress (10_redundancy.md R238). -/
  takeBackB : Option Nat := none
  /-- Code 3 received (10_redundancy.md R238). -/
  takeAccepted : Bool := false
  /-- Commit sent or received (10_redundancy.md R238). -/
  takeCommit : Bool := false
  /-- Instant the request is repeated (10_redundancy.md R238). -/
  takeRetry : Option Nat := none
  /-- Program and CRF numbers of code 3 (10_redundancy.md R239). -/
  takeNums : Option (BitVec 16 × BitVec 16) := none
  /-- Cold take-back: the acting leader's last instant as talker (10_redundancy.md R239). -/
  releaseAt : Option Nat := none
  /-- Leader-only samples held of the present step (10_redundancy.md R224). -/
  leaderOnly : List (List Int) := []
  /-- TIE transmitter (10_redundancy.md R225). -/
  tie : TieTx := {}
  /-- Request payloads waiting for room on TIE, oldest first (10_redundancy.md R224). -/
  requests : List (List (BitVec 8)) := []
  /-- Block boundary proposed to the partner for SLUMBER (03_modes_startup.md R83). -/
  proposed : Option Nat := none
  /-- Loss-detection timers start after this instant (03_modes_startup.md R88). -/
  wakeAnswer : Option Nat := none
deriving DecidableEq, Repr

/-- Origin of a key slot. -/
inductive KeyOrigin where
  | created
  | tkTaken
  | akTaken
deriving DecidableEq, Repr

/-- Contents of a valid key slot. -/
structure KeyData where
  /-- TK (11_tenants_security.md R251). -/
  tk : BitVec 128 := 0#128
  /-- AK or zero (11_tenants_security.md R251). -/
  ak : BitVec 128 := 0#128
  /-- Tenant (11_tenants_security.md R251). -/
  tenant : Fin 16 := 0
  /-- Origin (11_tenants_security.md R251). -/
  origin : KeyOrigin := .created
  /-- EUI-48 it was taken from (11_tenants_security.md R251). -/
  from_ : BitVec 48 := 0#48
deriving DecidableEq, Repr

/-- A write-once key slot, R251. -/
inductive KeySlot where
  /-- Every bit is zero. -/
  | blank
  /-- Neither blank nor with a CRC that checks. -/
  | spoiled
  /-- Its CRC checks. -/
  | valid (d : KeyData)
deriving DecidableEq, Repr

/-- A write-once signer record, R265. -/
inductive SignerRec where
  /-- Every bit is zero. -/
  | blank
  /-- Neither blank nor with a CRC that checks. -/
  | spoiled
  /-- A signer's key hash. -/
  | valid (hash : BitVec 256)
deriving DecidableEq, Repr

/-- One secure channel's packet numbers. -/
structure PnChannel where
  /-- The block in use has a committed reservation (11_tenants_security.md R248). -/
  ready : Bool := false
  /-- Epoch in use (11_tenants_security.md R248). -/
  epoch : Nat := 0
  /-- Block in use (11_tenants_security.md R248). -/
  block : Nat := 0
  /-- Next packet number (11_tenants_security.md R248). -/
  pn : Nat := 0
  /-- The next block's record is committed (11_tenants_security.md R248). -/
  nextReady : Bool := false
deriving DecidableEq, Repr

/-- What a listener keeps of one SCI. -/
structure SciState where
  /-- EUI-48 (11_tenants_security.md R246). -/
  eui : BitVec 48 := 0#48
  /-- Port identifier (11_tenants_security.md R246). -/
  port : BitVec 16 := 0#16
  /-- Slot of the key in force when its last frame was verified (11_tenants_security.md R246). -/
  key : Option (Fin 8) := none
  /-- Highest PN verified (11_tenants_security.md R246). -/
  highest : Nat := 0
  /-- Last frame verified (11_tenants_security.md R246). -/
  last : Nat := 0
deriving DecidableEq, Repr

/-- A window heard while listening, or the giver's window. -/
structure PairWin where
  /-- Giver's tenant (11_tenants_security.md R261). -/
  tenant : Fin 16 := 0
  /-- Giver's node (11_tenants_security.md R261). -/
  node : BitVec 8 := 0#8
  /-- Giver's EUI-48 (11_tenants_security.md R261). -/
  eui : BitVec 48 := 0#48
  /-- Window number (11_tenants_security.md R261). -/
  number : BitVec 16 := 0#16
  /-- Window body (11_tenants_security.md R261). -/
  body : List (BitVec 8) := []
deriving DecidableEq, Repr

/-- An exchange served by a giver. -/
structure Exchange where
  /-- The taker's node (11_tenants_security.md R262). -/
  node : BitVec 8 := 0#8
  /-- The taker's EUI-48 (11_tenants_security.md R262). -/
  eui : BitVec 48 := 0#48
  /-- The taker's SP_ROLE (11_tenants_security.md R263). -/
  role : Fin 16 := 0
  /-- Window body the taker joined (11_tenants_security.md R262). -/
  window : List (BitVec 8) := []
  /-- Join body (11_tenants_security.md R262). -/
  join : List (BitVec 8) := []
  /-- Key body sent (11_tenants_security.md R262). -/
  key : List (BitVec 8) := []
  /-- Key frame sent at (11_tenants_security.md R262). -/
  sentAt : Nat := 0
deriving DecidableEq, Repr

/-- Pairing at both ends. -/
structure Pairing where
  /-- End of the 2 s listen (11_tenants_security.md R259). -/
  listenUntil : Option Nat := none
  /-- Windows heard during the listen (11_tenants_security.md R259). -/
  heard : List PairWin := []
  /-- The window a taker joined (11_tenants_security.md R262). -/
  taking : Option PairWin := none
  /-- Taking AK rather than TK (11_tenants_security.md R262). -/
  takingAk : Bool := false
  /-- t_k (11_tenants_security.md R262). -/
  pressAt : Nat := 0
  /-- Join body sent (11_tenants_security.md R262). -/
  join : List (BitVec 8) := []
  /-- Number of the ephemeral key pair drawn for the join (11_tenants_security.md R262). -/
  takeEph : Nat := 0
  /-- Joins sent (11_tenants_security.md R262). -/
  joins : Nat := 0
  /-- Last join sent (11_tenants_security.md R262). -/
  joinAt : Nat := 0
  /-- The own window is open (11_tenants_security.md R260). -/
  open_ : Bool := false
  /-- Its end (11_tenants_security.md R260). -/
  windowEnd : Nat := 0
  /-- Window number (11_tenants_security.md R261). -/
  windowNo : BitVec 16 := 0#16
  /-- The own window's last body (11_tenants_security.md R261). -/
  windowBody : List (BitVec 8) := []
  /-- Number of the ephemeral key pair of the own window (11_tenants_security.md R261). -/
  giveEph : Nat := 0
  /-- Next window frame (11_tenants_security.md R260). -/
  windowNext : Nat := 0
  /-- An exchange was completed in this window (11_tenants_security.md R260). -/
  used : Bool := false
  /-- Exchanges being served (11_tenants_security.md R260). -/
  exchanges : List Exchange := []
deriving DecidableEq, Repr

/-- Keys, packet numbers, listeners' checks and image trust. -/
structure Security where
  /-- Key slots (11_tenants_security.md R251). -/
  slots : Vector KeySlot 8 := Vector.replicate 8 .blank
  /-- Retired slots (11_tenants_security.md R249). -/
  retired : Vector Bool 8 := Vector.replicate 8 false
  /-- Slot of the key in force (11_tenants_security.md R251). -/
  inForce : Option (Fin 8) := none
  /-- Slot coming into force at the next boundary (11_tenants_security.md R255). -/
  nextForce : Option (Fin 8) := none
  /-- AK in force (11_tenants_security.md R258). -/
  ak : Option (BitVec 128) := none
  /-- AK coming into force at the next boundary (11_tenants_security.md R258). -/
  nextAk : Option (BitVec 128) := none
  /-- Tenant-class channel (11_tenants_security.md R248). -/
  tenantChan : PnChannel := {}
  /-- Announcement-class channel (11_tenants_security.md R248). -/
  annChan : PnChannel := {}
  /-- Highest reservation record sequence number (11_tenants_security.md R249). -/
  recSeq : Nat := 0
  /-- Next free record place of the key-state region (11_tenants_security.md R249). -/
  recSlot : Nat := 0
  /-- SCI states (11_tenants_security.md R246). -/
  scis : List SciState := []
  /-- F630 raised (11_tenants_security.md R254). -/
  keyless : Bool := false
  /-- Instant the leader may create a key (11_tenants_security.md R256). -/
  createAt : Option Nat := none
  /-- Device time of the next AK distribution frame (11_tenants_security.md R258). -/
  akAt : Nat := 0
  /-- Pairing (11_tenants_security.md R259). -/
  pairing : Pairing := {}
  /-- Signer records (11_tenants_security.md R265). -/
  signers : Vector SignerRec 2 := Vector.replicate 2 .blank
deriving DecidableEq, Repr

end Sys2Proof.Machine
end

