-- ==== Sys2Proof/Machine/StateCompute.lean ====
section
/-! DEFINITION. Thresher, its contexts, memories, buses and DMA (chapters 16 to 19), as plain data. -/

namespace Sys2Proof.Machine

/-- A layer descriptor of Table 17.3. -/
structure LayerDesc where
  /-- 1 dense, 2 Mode S, 3 Mode S bidirectional, 4 Mode E (17_models_silo.md R369). -/
  type_ : Nat := 0
  /-- Input format (17_models_silo.md R369). -/
  fmt : Nat := 0
  /-- Gate function (17_models_silo.md R369). -/
  gate : Nat := 0
  /-- N, or the element count (17_models_silo.md R369). -/
  n : Nat := 0
  /-- Input width I (17_models_silo.md R369). -/
  inW : Nat := 0
  /-- Output width C (17_models_silo.md R369). -/
  outW : Nat := 0
  /-- Offset of its weight block within the weight section (17_models_silo.md R369). -/
  off : Nat := 0
  /-- Length of its weight block (17_models_silo.md R369). -/
  len : Nat := 0
  /-- Output factor (17_models_silo.md R369). -/
  k : BitVec 32 := 0#32
deriving DecidableEq, Repr

/-- A context descriptor of Table 17.2 with its layers and points. -/
structure CtxDesc where
  /-- Context number (17_models_silo.md R368). -/
  ctx : Nat := 0
  /-- Fed ahead (17_models_silo.md R368). -/
  ahead : Bool := false
  /-- Sheaf length L (17_models_silo.md R368). -/
  len : Nat := 8
  /-- Speculable (17_models_silo.md R368). -/
  speculable : Bool := false
  /-- Holds a bidirectional layer (17_models_silo.md R368). -/
  bidir : Bool := false
  /-- Input channels (17_models_silo.md R368). -/
  inCh : Nat := 0
  /-- Output channels (17_models_silo.md R368). -/
  outCh : Nat := 0
  /-- S_k (17_models_silo.md R368). -/
  stateBytes : Nat := 0
  /-- CRC-32 over its weight blocks (17_models_silo.md R368). -/
  crc : BitVec 32 := 0#32
  /-- Input factor (17_models_silo.md R368). -/
  kin : BitVec 32 := 0#32
  /-- Its layers (17_models_silo.md R369). -/
  layers : List LayerDesc := []
  /-- The processing points it serves, in point order (17_models_silo.md R371). -/
  points : List Nat := []
  /-- Row residue (17_models_silo.md R377). -/
  psi : Nat := 0
  /-- Sheaf phase (17_models_silo.md R346). -/
  phase : Nat := 0
  /-- Budget (17_models_silo.md R376). -/
  budget : Nat := 0
deriving DecidableEq, Repr

/-- Classes of an input sample, R386. -/
inductive InClass where
  | accepted
  | lost
  | missing
deriving DecidableEq, Repr

/-- Classes of an output, R388. -/
inductive OutClass where
  | committed
  | speculative
  | concealment
deriving DecidableEq, Repr

/-- One classified input sample of a job. -/
structure InSample where
  /-- Its value, where accepted (18_speculation.md R387). -/
  value : Int := 0
  /-- Its class (18_speculation.md R386). -/
  cls : InClass := .accepted
deriving DecidableEq, Repr

/-- A job of the present window. -/
structure Job where
  /-- Context (16_thresher.md R347). -/
  ctx : Nat := 0
  /-- It runs in the rerun slot (17_models_silo.md R378). -/
  rerun : Bool := false
  /-- It recomputes the outstanding sheaf (18_speculation.md R390). -/
  recompute : Bool := false
  /-- Its compute block (16_thresher.md R347). -/
  block : Nat := 0
  /-- S0, the first step of its sheaf (16_thresher.md R346). -/
  start : Nat := 0
  /-- Duck gain at its window's start (09_routing_profiles.md R204). -/
  gain : Int := 0
  /-- What concealment knew of each stream channel at the start of its inputs (18_speculation.md R387). -/
  base : List LastGood := []
  /-- Classified inputs; of a fed-ahead job the block before its first step comes first (18_speculation.md R386). -/
  inputs : List (List (List InSample)) := []
  /-- State it starts from, none while that is not there (19_memory_dma.md R414). -/
  h0 : Option (List (BitVec 8)) := none
  /-- At least one predicted input (18_speculation.md R388). -/
  predicted : Bool := false
  /-- A recompute with an input that was predicted and is settled as lost (18_speculation.md R398). -/
  lostInput : Bool := false
  /-- It has completed (16_thresher.md R347). -/
  done : Bool := false
deriving DecidableEq, Repr

/-- A context's output for one step. -/
structure StepOut where
  /-- Step number (16_thresher.md R348). -/
  step : Nat := 0
  /-- Block in which it is delivered (16_thresher.md R348). -/
  block : Nat := 0
  /-- First step of its sheaf (16_thresher.md R346). -/
  sheaf : Nat := 0
  /-- Class (18_speculation.md R388). -/
  cls : OutClass := .committed
  /-- Audio output samples (17_models_silo.md R372). -/
  audio : List (List Int) := []
  /-- Lip-sync output rounded to a target (22_speakers_motor.md R494). -/
  target : Int := 0
  /-- Its visibility instant has passed (18_speculation.md R393). -/
  shown : Bool := false
deriving DecidableEq, Repr

/-- One Thresher context. -/
structure Ctx where
  /-- Its descriptor, none when idle (17_models_silo.md R375). -/
  desc : Option CtxDesc := none
  /-- State prefetched into the staging part (19_memory_dma.md R414). -/
  h0 : Option (List (BitVec 8)) := none
  /-- Final state being written behind (19_memory_dma.md R414). -/
  final : Option (List (BitVec 8)) := none
  /-- A commit is under way (17_models_silo.md R383). -/
  commitDue : Bool := false
  /-- The block of the job window whose staging part it empties (19_memory_dma.md R414). -/
  commitBlock : Nat := 0
  /-- Final state of a rerun-slot job whose commit waits for the recompute's (18_speculation.md R392). -/
  waiting : Option (List (BitVec 8)) := none
  /-- The outstanding sheaf (18_speculation.md R390). -/
  outstanding : Option Job := none
  /-- Outputs not yet delivered (16_thresher.md R348). -/
  outs : List StepOut := []
  /-- Input blocks kept for a locally fed context, oldest first (16_thresher.md R348). -/
  history : List (List (List Int)) := []
  /-- Promotions in the second its F810 covers (18_speculation.md R399). -/
  promoSec : Nat := 0
  /-- Rollbacks in that second (18_speculation.md R399). -/
  rollSec : Nat := 0
deriving DecidableEq, Repr

/-- The speculative motor lane and the lip-sync target. -/
structure Lane where
  /-- Last committed target (18_speculation.md R393). -/
  committed : Int := 0
  /-- Beginning of the lane drive (18_speculation.md R398). -/
  driving : Option Nat := none
  /-- Blocks driven through the lane (18_speculation.md R399). -/
  blocks : Nat := 0
  /-- The lane drive is confirmed (18_speculation.md R398). -/
  confirmed : Bool := false
  /-- Target handed to the motor for the next block (18_speculation.md R397). -/
  target : Int := 0
  /-- Sheaf of the lane drive (18_speculation.md R398). -/
  sheaf : Nat := 0
  /-- Its drive was withdrawn (18_speculation.md R398). -/
  withdrawn : Bool := false
  /-- The lane drove in the present second (18_speculation.md R397). -/
  usedSec : Bool := false
deriving DecidableEq, Repr

/-- The sequence engine. -/
structure Thresher where
  /-- Retired physical columns (retention RAM) (16_thresher.md R364). -/
  retired : List (Fin 66) := []
  /-- Columns whose remap waits for the next boundary (16_thresher.md R365). -/
  remapNext : List (Fin 66) := []
  /-- Retired columns the map in force leaves out (16_thresher.md R365). -/
  columnMap : List (Fin 66) := []
  /-- Contexts (16_thresher.md R339). -/
  ctxs : Vector Ctx 16 := Vector.replicate 16 {}
  /-- Row loads in cycles (17_models_silo.md R377). -/
  load : List Nat := []
  /-- Jobs of the present window (19_memory_dma.md R422). -/
  jobs : List Job := []
  /-- Block number of the data path's first block (16_thresher.md R346). -/
  first : Nat := 0
  /-- Start of the present window (device time) (16_thresher.md R347). -/
  windowAt : Nat := 0
  /-- Next in-service self-check pass (16_thresher.md R363). -/
  checkAt : Option Nat := none
  /-- Sheaves missed in the second its F800 covers (16_thresher.md R366). -/
  missSec : Nat := 0
  /-- Context and kind of that second's first miss (16_thresher.md R366). -/
  missFirst : Nat × Nat := (0, 0)
  /-- Deadlines missed in a row by context 15 (22_speakers_motor.md R499). -/
  missRow : Nat := 0
  /-- Lip-sync target and lane (18_speculation.md R396). -/
  lane : Lane := {}
  /-- Jobs recorded for replay, oldest first (10_redundancy.md R221). -/
  replay : List Job := []
  /-- Samples settled as lost: context, channel, block and position (18_speculation.md R391). -/
  settled : List (Nat × Nat × Nat × Nat) := []
deriving DecidableEq, Repr

/-- A request on the Silo or flash bus. -/
structure BusReq where
  /-- Silo rather than flash (19_memory_dma.md R411). -/
  silo : Bool := true
  /-- Class of Table 19.3, or for the flash the order of R413 (19_memory_dma.md R412). -/
  cls : Nat := 1
  /-- A write, program or erase (19_memory_dma.md R411). -/
  write : Bool := false
  /-- Requester: a context, or a DMA channel (19_memory_dma.md R411). -/
  owner : Nat := 0
  /-- It holds a tag reserved for its kind of write (19_memory_dma.md R412). -/
  reserved : Bool := false
  /-- Address it begins at (19_memory_dma.md R407). -/
  addr : Nat := 0
  /-- Bytes it carries (19_memory_dma.md R407). -/
  len : Nat := 0
deriving DecidableEq, Repr

/-- A DMA register set, Table 19.6. -/
structure RegSet where
  /-- 0 single, 1 ring, 2 table (19_memory_dma.md R418). -/
  kind : Nat := 0
  /-- Paced (19_memory_dma.md R418). -/
  paced : Bool := false
  /-- Pace sense (19_memory_dma.md R418). -/
  fill : Bool := false
  /-- Tag class (19_memory_dma.md R418). -/
  tagClass : Nat := 0
  /-- Verify after program (19_memory_dma.md R418). -/
  verify : Bool := false
  /-- Valid (19_memory_dma.md R418). -/
  valid : Bool := false
  /-- Paced queue q (19_memory_dma.md R418). -/
  queue : Nat := 0
  /-- Start mark (19_memory_dma.md R418). -/
  startMark : Nat := 0
  /-- Stop mark (19_memory_dma.md R418). -/
  stopMark : Nat := 0
  /-- Source address (19_memory_dma.md R418). -/
  src : BitVec 32 := 0#32
  /-- Destination address (19_memory_dma.md R418). -/
  dst : BitVec 32 := 0#32
  /-- Row length (19_memory_dma.md R418). -/
  rowLen : Nat := 0
  /-- Source stride (19_memory_dma.md R418). -/
  srcStride : Nat := 0
  /-- Destination stride (19_memory_dma.md R418). -/
  dstStride : Nat := 0
  /-- Row count (19_memory_dma.md R418). -/
  rows : Nat := 0
  /-- Ring length in rows, or table entry count (19_memory_dma.md R418). -/
  ring : Nat := 0
  /-- Table base address (19_memory_dma.md R418). -/
  table : BitVec 32 := 0#32
  /-- Schedule row condition (19_memory_dma.md R418). -/
  rowCond : Nat := 255
  /-- Completion count (19_memory_dma.md R418). -/
  count : BitVec 16 := 0#16
deriving DecidableEq, Repr

/-- One DMA channel. -/
structure DmaChan where
  /-- Active register set (19_memory_dma.md R418). -/
  active : RegSet := {}
  /-- Shadow register set (19_memory_dma.md R418). -/
  shadow : RegSet := {}
  /-- A paced channel between its start and stop marks (19_memory_dma.md R420). -/
  moving : Bool := false
  /-- Next table entry (19_memory_dma.md R419). -/
  entry : Nat := 0
  /-- A control-processor write stalled on a valid shadow set (19_memory_dma.md R419). -/
  stalled : Option RegSet := none
  /-- The shadow set waits for an intervention's boundary (19_memory_dma.md R419). -/
  heldFor : Bool := false
deriving DecidableEq, Repr

/-- Flash, PSRAM, loft and buffer SRAM, with their buses and the DMA engine. -/
structure Memories where
  /-- Flash bytes; an unlisted byte reads 0xFF (20_granary_image.md R426). -/
  flash : List Host.Cell := []
  /-- Flash density used (19_memory_dma.md R403). -/
  flashMiB : Nat := 16
  /-- Found present at bring-up (19_memory_dma.md R403). -/
  flashUp : Bool := false
  /-- Found absent (19_memory_dma.md R403). -/
  flashAbsent : Bool := false
  /-- End of flash bring-up (19_memory_dma.md R403). -/
  upAt : Option Nat := none
  /-- PSRAM bytes; an unlisted byte reads 0x00 (19_memory_dma.md R406). -/
  psram : List Host.Cell := []
  /-- PSRAM size used (19_memory_dma.md R408). -/
  psramMiB : Nat := 8
  /-- PSRAM in data-retaining sleep (19_memory_dma.md R410). -/
  selfRefresh : Bool := false
  /-- Loft bytes; an unlisted byte reads 0x00 (17_models_silo.md R374). -/
  loft : List Host.Cell := []
  /-- Buffer SRAM bytes; an unlisted byte reads 0x00 (19_memory_dma.md R417). -/
  sram : List Host.Cell := []
  /-- The program or erase in progress (19_memory_dma.md R404). -/
  op : Option FlashOp := none
  /-- It is suspended (19_memory_dma.md R404). -/
  suspended : Bool := false
  /-- Last resume (19_memory_dma.md R404). -/
  resumedAt : Option Nat := none
  /-- Retries of the present flash read (19_memory_dma.md R405). -/
  readRetries : Nat := 0
  /-- The present Silo transaction has been retried (19_memory_dma.md R409). -/
  siloRetry : Bool := false
  /-- Requests holding tags; the first of each bus is the transaction on it (19_memory_dma.md R422). -/
  flight : List BusReq := []
  /-- Requests waiting for a tag, in order (19_memory_dma.md R411). -/
  stalled : List BusReq := []
  /-- DMA channels (19_memory_dma.md R416). -/
  dma : Vector DmaChan 16 := Vector.replicate 16 {}
deriving DecidableEq, Repr

end Sys2Proof.Machine
end

