-- ==== Sys2Proof/Machine/StatePlant.lean ====
section
/-! DEFINITION. Granary, power, loudspeakers, motor, endurance, sleep, lands and test port (chapters 20 to 29), as plain data. -/

namespace Sys2Proof.Machine

/-- What a start found in one slot. -/
structure SlotInfo where
  /-- Status in the start report (5 not checked) (20_granary_image.md R441). -/
  status : Nat := 5
  /-- Cause of Table 20.5 (20_granary_image.md R441). -/
  cause : Nat := 0
  /-- Rule number for cause 5 (20_granary_image.md R457). -/
  rule : Nat := 0
  /-- Section table index of the failure, 0xFFFF for the header (20_granary_image.md R457). -/
  index : Nat := 65535
  /-- Image identity of a readable header (20_granary_image.md R431). -/
  identity : BitVec 32 := 0#32
  /-- Edition (20_granary_image.md R431). -/
  edition : Nat := 0
  /-- Total length T (20_granary_image.md R431). -/
  total : Nat := 0
  /-- The slot is empty (20_granary_image.md R440). -/
  empty : Bool := true
deriving DecidableEq, Repr

/-- One clip voice. -/
structure Voice where
  /-- Active (20_granary_image.md R445). -/
  active : Bool := false
  /-- Clip plan entry (20_granary_image.md R446). -/
  entry : Nat := 0
  /-- Mode (20_granary_image.md R445). -/
  mode : Nat := 0
  /-- Index of the next sample frame to be made available (20_granary_image.md R446). -/
  pos : Nat := 0
  /-- Block number at which it started (20_granary_image.md R445). -/
  startB : Nat := 0
  /-- Block number at which it stopped (20_granary_image.md R444). -/
  stopB : Option Nat := none
  /-- Flash address of its first sample frame (20_granary_image.md R438). -/
  addr : Nat := 0
  /-- Frame count (20_granary_image.md R438). -/
  frames : Nat := 0
  /-- Two channels (20_granary_image.md R438). -/
  stereo : Bool := false
  /-- INT24 rather than INT16 (20_granary_image.md R438). -/
  wide : Bool := false
  /-- Gain G in units of 1/256 dB (20_granary_image.md R439). -/
  gain : Int := 0
deriving DecidableEq, Repr

/-- The clip player. -/
structure Clips where
  /-- Cue sample at the boundary before (20_granary_image.md R444). -/
  last : Fin 16 := 0
  /-- Settled code (20_granary_image.md R444). -/
  settled : Fin 16 := 0
  /-- Voices (20_granary_image.md R445). -/
  voices : Vector Voice 16 := Vector.replicate 16 {}
  /-- Clip-mix blocks made available and not yet presented, oldest first (17_models_silo.md R380). -/
  ahead : List (List Int × List Int) := []
deriving DecidableEq, Repr

/-- Where a slot write takes its image from. -/
inductive SlotSource where
  | other
  | leader
  | refresh
deriving DecidableEq, Repr

/-- A slot write in progress. -/
structure SlotWrite where
  /-- It writes slot B (20_granary_image.md R448). -/
  slotB : Bool := false
  /-- Source (20_granary_image.md R449). -/
  source : SlotSource := .other
  /-- T (20_granary_image.md R448). -/
  total : Nat := 0
  /-- Identity fetched (20_granary_image.md R453). -/
  identity : BitVec 32 := 0#32
  /-- Edition fetched (20_granary_image.md R453). -/
  edition : Nat := 0
  /-- Present 64 KiB window of a fetch (20_granary_image.md R454). -/
  window : Nat := 0
  /-- Chunks of the window already programmed (20_granary_image.md R454). -/
  got : List Nat := []
  /-- Last progress (20_granary_image.md R454). -/
  progress : Nat := 0
  /-- Last request for missing chunks (20_granary_image.md R454). -/
  asked : Nat := 0
  /-- Programs and erases still to be issued, in order (20_granary_image.md R448). -/
  queue : List FlashOp := []
deriving DecidableEq, Repr

/-- A chunk request held by a leader. -/
structure FetchReq where
  /-- Offset asked for (20_granary_image.md R455). -/
  offset : Nat := 0
  /-- Chunks asked for (20_granary_image.md R455). -/
  count : Nat := 0
  /-- Chunks of it already sent (20_granary_image.md R455). -/
  sent : Nat := 0
  /-- Identity (20_granary_image.md R455). -/
  identity : BitVec 32 := 0#32
  /-- Edition (20_granary_image.md R455). -/
  edition : Nat := 0
deriving DecidableEq, Repr

/-- A battery profile of Table 20.4. -/
structure BattProfile where
  /-- Chemistry (20_granary_image.md R436). -/
  chem : Nat := 0
  /-- Charge voltage per cell (20_granary_image.md R436). -/
  cellMv : Nat := 0
  /-- Charge current (20_granary_image.md R436). -/
  ma : Nat := 0
  /-- Capacity (20_granary_image.md R436). -/
  mah : Nat := 0
  /-- Pre-conditioning current (20_granary_image.md R436). -/
  preMa : Nat := 0
  /-- NTC B constant (20_granary_image.md R436). -/
  beta : Nat := 3435
  /-- NTC resistance at 25 C in units of 10 ohm (20_granary_image.md R436). -/
  r25 : Nat := 1000
  /-- Charge minimum (20_granary_image.md R436). -/
  tMin : Int := 0
  /-- Charge maximum (20_granary_image.md R436). -/
  tMax : Int := 60
  /-- Discharge maximum (20_granary_image.md R436). -/
  tDis : Int := 60
  /-- Pack thermal time constant (20_granary_image.md R436). -/
  tau : Nat := 1800
deriving DecidableEq, Repr

/-- A loudspeaker profile of Table 20.4. -/
structure SpkProfile where
  /-- Nominal impedance in units of 10 mOhm (20_granary_image.md R436). -/
  zCent : Nat := 0
  /-- Power ceiling per output (20_granary_image.md R436). -/
  mw : Nat := 0
  /-- Voice-coil limit (20_granary_image.md R436). -/
  tCoil : Nat := 110
  /-- Magnet limit (20_granary_image.md R436). -/
  tMag : Nat := 70
  /-- Voice-coil thermal resistance in 0.01 K/W (20_granary_image.md R436). -/
  rCoil : Nat := 1000
  /-- Voice-coil time constant in ms (20_granary_image.md R436). -/
  tauCoil : Nat := 4000
  /-- Magnet thermal resistance in 0.01 K/W (20_granary_image.md R436). -/
  rMag : Nat := 500
  /-- Magnet time constant in s (20_granary_image.md R436). -/
  tauMag : Nat := 900
deriving DecidableEq, Repr

/-- A motor profile of Table 20.4. -/
structure MotProfile where
  /-- Working limit (20_granary_image.md R436). -/
  workMa : Nat := 1000
  /-- Continuous current (20_granary_image.md R436). -/
  contMa : Nat := 600
  /-- Effective voltage ceiling (20_granary_image.md R436). -/
  mv : Nat := 15000
  /-- Mechanical time constant (20_granary_image.md R436). -/
  tauMs : Nat := 10
  /-- Lowest target (20_granary_image.md R436). -/
  lo : Int := -1000
  /-- Highest target (20_granary_image.md R436). -/
  hi : Int := 1000
  /-- MOT_POS at the lowest target in mV (20_granary_image.md R436). -/
  posLo : Nat := 100
  /-- MOT_POS at the highest target in mV (20_granary_image.md R436). -/
  posHi : Nat := 1700
  /-- Stall current (20_granary_image.md R436). -/
  stallMa : Nat := 1000
  /-- Stall time (20_granary_image.md R436). -/
  stallMs : Nat := 500
deriving DecidableEq, Repr

/-- The speaker model of Table 22.2. -/
structure SpkModel where
  /-- Resonance in 0.1 Hz (22_speakers_motor.md R486). -/
  fs : Nat := 1500
  /-- Q_ts in 0.001 (22_speakers_motor.md R486). -/
  qts : Nat := 0
  /-- V_X in mV (22_speakers_motor.md R486). -/
  vx : Nat := 4000
  /-- R_e in mOhm (22_speakers_motor.md R486). -/
  re : Nat := 0
  /-- Alpha in ppm/K (22_speakers_motor.md R486). -/
  alpha : Nat := 0
deriving DecidableEq, Repr

/-- The image, its content in force, slot writes and fetches. -/
structure Granary where
  /-- Slot A (20_granary_image.md R440). -/
  slotA : SlotInfo := {}
  /-- Slot B (20_granary_image.md R440). -/
  slotB : SlotInfo := {}
  /-- Active slot (false A, true B) (20_granary_image.md R442). -/
  active : Option Bool := none
  /-- Flash address and length of the model set loaded (20_granary_image.md R442). -/
  modelSet : Option (Nat × Nat) := none
  /-- Flash address of the clip plan (20_granary_image.md R442). -/
  clipPlan : Option Nat := none
  /-- Battery profile in force (20_granary_image.md R435). -/
  batt : Option BattProfile := none
  /-- Loudspeaker profile in force (20_granary_image.md R435). -/
  spk : Option SpkProfile := none
  /-- Motor profile in force (20_granary_image.md R435). -/
  mot : Option MotProfile := none
  /-- Speaker model in force (22_speakers_motor.md R486). -/
  spkModel : Option SpkModel := none
  /-- A first completed slot is loaded at the next boundary (20_granary_image.md R450). -/
  loadAt : Bool := false
  /-- That slot is slot B (20_granary_image.md R450). -/
  loadB : Bool := false
  /-- Slot write in progress (20_granary_image.md R448). -/
  write : Option SlotWrite := none
  /-- Identity, edition and T of a fetch that is due (20_granary_image.md R453). -/
  wantFetch : Option (BitVec 32 × Nat × Nat) := none
  /-- That fetch is of a newer edition (20_granary_image.md R449). -/
  wantNew : Bool := false
  /-- Identities and editions not fetched again in this start (20_granary_image.md R453). -/
  refused : List (BitVec 32 × Nat) := []
  /-- Requests held as leader (20_granary_image.md R455). -/
  requests : List FetchReq := []
  /-- Instants of the chunks of the last second (20_granary_image.md R455). -/
  chunkTimes : List Nat := []
  /-- Device time of the next advert (20_granary_image.md R452). -/
  advertAt : Nat := 0
  /-- Powered hours (20_granary_image.md R429). -/
  hours : Nat := 0
  /-- End of the present powered hour (20_granary_image.md R429). -/
  hourAt : Nat := 0
  /-- Newest service record sequence (20_granary_image.md R429). -/
  serviceSeq : Nat := 0
  /-- Next free place of the service ring (20_granary_image.md R427). -/
  serviceAt : Nat := 0
  /-- Newest pair record sequence (20_granary_image.md R428). -/
  pairSeq : BitVec 16 := 0#16
  /-- Next free place of the pair ring (20_granary_image.md R427). -/
  pairPlace : Nat := 0
  /-- Powered hours at slot A's newest kind 2 record (20_granary_image.md R456). -/
  writtenA : Nat := 0
  /-- Powered hours at slot B's newest kind 2 record (20_granary_image.md R456). -/
  writtenB : Nat := 0
  /-- Powered hours at the last refresh completed (20_granary_image.md R456). -/
  lastRefresh : Option Nat := none
deriving DecidableEq, Repr

/-- Requested limits from the core die. -/
structure ReqLimits where
  /-- Charge current (21_power_battery.md R468). -/
  ma : Nat := 0
  /-- Pack charge voltage (21_power_battery.md R468). -/
  mv : Nat := 0
  /-- Discharge switch permission (21_power_battery.md R468). -/
  discharge : Bool := true
deriving DecidableEq, Repr

/-- Plant-die power: VIN path, battery switch and charger. -/
structure Plant where
  /-- VIN in mV (21_power_battery.md R459). -/
  vinMv : Nat := 0
  /-- VIN valid (21_power_battery.md R459). -/
  vinValid : Bool := false
  /-- Loss whose FA00 awaits the next boundary (21_power_battery.md R460). -/
  vinLostAt : Option Nat := none
  /-- Return whose FA00 clearing awaits the next boundary (21_power_battery.md R461). -/
  vinBackAt : Option Nat := none
  /-- VIN mean before the loss in mV (21_power_battery.md R477). -/
  lostMean : Nat := 0
  /-- VBAT_S at the loss in mV (21_power_battery.md R477). -/
  lostVbat : Nat := 0
  /-- The source lost was PoDL (21_power_battery.md R477). -/
  lostPodl : Bool := false
  /-- Running from battery, as reported (21_power_battery.md R460). -/
  onBattery : Bool := false
  /-- Pair voltage measured by the PoDL front end (21_power_battery.md R462). -/
  pairMv : Nat := 0
  /-- VIN path carries VSYS (21_power_battery.md R458). -/
  vinPath : Bool := false
  /-- Battery switch on (21_power_battery.md R458). -/
  sysGate : Bool := false
  /-- The switch was opened by a discharge limit (21_power_battery.md R471). -/
  switchOff : Bool := false
  /-- Instant the switch opens (21_power_battery.md R471). -/
  openAt : Option Nat := none
  /-- VSYS in mV (21_power_battery.md R464). -/
  vsysMv : Nat := 12000
  /-- VBAT_S in mV (21_power_battery.md R465). -/
  vbatMv : Nat := 0
  /-- I_BAT in mA (21_power_battery.md R458). -/
  packMa : Int := 0
  /-- The pack reads absent (21_power_battery.md R465). -/
  absent : Bool := true
  /-- T_NTC (21_power_battery.md R469). -/
  tNtc : Int := 25
  /-- Present rise theta (21_power_battery.md R469). -/
  thetaNk : Int := 0
  /-- T_pred (21_power_battery.md R469). -/
  tPred : Int := 25
  /-- Charger state (21_power_battery.md R467). -/
  state : Nat := 0
  /-- Entry to state 1 (21_power_battery.md R467). -/
  preAt : Option Nat := none
  /-- Time already spent pre-conditioning before start (21_power_battery.md R473). -/
  preMs : Nat := 0
  /-- Charge timer (21_power_battery.md R467). -/
  timerNs : Nat := 0
  /-- Instant the timer was last brought up to date (21_power_battery.md R467). -/
  timerAt : Nat := 0
  /-- In state 3, below a tenth since (21_power_battery.md R467). -/
  taperAt : Option Nat := none
  /-- Causes of suspension in force (fault code and cause) (21_power_battery.md R467). -/
  suspend : List Nat := []
  /-- The state of Table 21.5 before derating: 0 to 4, or 6 (21_power_battery.md R467). -/
  phase : Nat := 0
  /-- Cold zones: 0 suspended, 1 half current, 2 none (21_power_battery.md R470). -/
  cold : Nat := 2
  /-- Hot zones: 0 none, 1 warm, 2 current lowered, 3 suspended (21_power_battery.md R470). -/
  hot : Nat := 0
  /-- Current limit of the T_pred row (21_power_battery.md R470). -/
  zoneUa : Nat := 65535000
  /-- T_NTC (21_power_battery.md R469). -/
  ntcMk : Int := 25000
  /-- T_pred (21_power_battery.md R469). -/
  predMk : Int := 25000
  /-- Without a capacity, next instant the state of charge is taken from VBAT_S (21_power_battery.md R472). -/
  socAt : Nat := 0
  /-- Charge current limit of the input budget (21_power_battery.md R462). -/
  limitMa : Nat := 65535
  /-- Loudspeaker and motor power cap of the input budget (21_power_battery.md R462). -/
  plantCapMw : Option Nat := none
  /-- Requested limits last received (21_power_battery.md R468). -/
  req : ReqLimits := {}
  /-- Instant they last arrived (21_power_battery.md R468). -/
  reqAt : Option Nat := none
  /-- Arriving again without a 10 ms gap since (21_power_battery.md R468). -/
  reqSince : Option Nat := none
  /-- Fixed-threshold mode (21_power_battery.md R468). -/
  fixed : Bool := true
  /-- Fixed-threshold charging held off by temperature (21_power_battery.md R468). -/
  fixedHot : Bool := false
  /-- Charge current the plant die applies (21_power_battery.md R468). -/
  applyMa : Nat := 0
  /-- Charge voltage the plant die applies (21_power_battery.md R468). -/
  applyMv : Nat := 0
  /-- SAFE half current (21_power_battery.md R474). -/
  safeHalf : Bool := false
  /-- Charger off in a SAFE entered on F10C, F11C or F12C (21_power_battery.md R474). -/
  safeOff : Bool := false
  /-- State of charge (21_power_battery.md R472). -/
  soc : Nat := 255
  /-- Counted charge (21_power_battery.md R472). -/
  socMams : Int := 0
  /-- At rest since (21_power_battery.md R472). -/
  restAt : Option Nat := none
  /-- Pre-conditioning before start; power-on reset held (21_power_battery.md R473). -/
  precond : Bool := false
  /-- Its start (21_power_battery.md R473). -/
  precondAt : Nat := 0
  /-- Strapped pack absent since (21_power_battery.md R465). -/
  absentAt : Option Nat := none
  /-- Plant die temperature (22_speakers_motor.md R500). -/
  dieTemp : Int := 25
  /-- FC01 derating (22_speakers_motor.md R500). -/
  derate : Bool := false
  /-- FC00 shutdown (22_speakers_motor.md R500). -/
  shut : Bool := false
  /-- Core die temperature (23_endurance.md R503). -/
  coreTemp : Int := 25
  /-- Die-to-die link lost since (01_system_picture.md R23). -/
  linkLost : Option Nat := none
  /-- A zone limited the current (21_power_battery.md R470). -/
  zoneSec : Bool := false
deriving DecidableEq, Repr

/-- One loudspeaker channel. -/
structure SpkChan where
  /-- The stage switches (22_speakers_motor.md R480). -/
  on : Bool := false
  /-- Device time at which it turned on (22_speakers_motor.md R480). -/
  onAt : Nat := 0
  /-- g_P at the start of the present block; -601 or less is zero (22_speakers_motor.md R483). -/
  gP : Int := 0
  /-- g_P at its end (22_speakers_motor.md R483). -/
  gPEnd : Int := 0
  /-- g_P one boundary later (22_speakers_motor.md R483). -/
  gPNext : Int := 0
  /-- g_X at the start of the present block in units of 2^-23 (22_speakers_motor.md R485). -/
  gX : Nat := 8388608
  /-- g_X at its end (22_speakers_motor.md R485). -/
  gXEnd : Nat := 8388608
  /-- g_X one boundary later (22_speakers_motor.md R485). -/
  gXNext : Nat := 8388608
  /-- Samples driven in the block last completed, after the clamp and the guard (22_speakers_motor.md R482). -/
  drive : List Int := []
  /-- V_lo of the block last completed (22_speakers_motor.md R485). -/
  vLo : Nat := 0
  /-- Sensed electrical power of that block (22_speakers_motor.md R481). -/
  senseMw : Nat := 0
  /-- Sensed coil resistance of that block in mOhm (22_speakers_motor.md R481). -/
  senseMohm : Nat := 0
  /-- Sensed signal power below f_s (22_speakers_motor.md R487). -/
  senseLowMw : Nat := 0
  /-- Mean power of the last blocks in mW, newest first (22_speakers_motor.md R483). -/
  power : List Nat := []
  /-- Mean power of the blocks of the last second in mW (22_speakers_motor.md R481). -/
  secMw : List Nat := []
  /-- Magnet rise (22_speakers_motor.md R487). -/
  magNk : Int := 0
  /-- Coil rise (22_speakers_motor.md R487). -/
  coilNk : Int := 0
  /-- T_vc (22_speakers_motor.md R487). -/
  tVc : Int := 25
  /-- T_mag (22_speakers_motor.md R487). -/
  tMag : Int := 25
  /-- Thermal allowance P_T, none when unlimited (22_speakers_motor.md R488). -/
  allowMw : Option Nat := none
  /-- The model saturated; the limit reached, until the boundary at which that takes effect (22_speakers_motor.md R489). -/
  satDue : Option Nat := none
  /-- The thermal model is saturated (22_speakers_motor.md R489). -/
  saturated : Bool := false
  /-- Allowance at or above 10 % since (22_speakers_motor.md R489). -/
  releaseAt : Option Nat := none
  /-- 6 dB guard attenuation until (22_speakers_motor.md R484). -/
  guard : Option Nat := none
  /-- FB02 active (22_speakers_motor.md R491). -/
  openLoad : Bool := false
  /-- Crossover state (22_speakers_motor.md R482). -/
  xover : List Int := []
  /-- Thermal limiting in the present second (04_status.md R106). -/
  limited : Bool := false
  /-- Ceiling reached in the present second (04_status.md R106). -/
  exceeded : Bool := false
  /-- Excursion limiting in the present second (04_status.md R106). -/
  excursed : Bool := false
deriving DecidableEq, Repr

/-- The motor bridge. -/
structure Motor where
  /-- The bridge is driven (22_speakers_motor.md R492). -/
  driven : Bool := false
  /-- Target of the present block (22_speakers_motor.md R494). -/
  target : Int := 0
  /-- Target of the block before (22_speakers_motor.md R494). -/
  prevTarget : Int := 0
  /-- Instant the present target governs from (22_speakers_motor.md R494). -/
  blockAt : Nat := 0
  /-- Voltage command u (22_speakers_motor.md R495). -/
  uMv : Int := 0
  /-- MOT_POS (22_speakers_motor.md R495). -/
  posMv : Nat := 0
  /-- Positions of the last 100 ms in target units, newest first (22_speakers_motor.md R498). -/
  posHist : List Int := []
  /-- Last back-EMF reading (22_speakers_motor.md R495). -/
  bemfMv : Int := 0
  /-- Last back-EMF window (22_speakers_motor.md R495). -/
  bemfAt : Option Nat := none
  /-- End of the back-EMF window, in which the bridge floats (22_speakers_motor.md R495). -/
  floatUntil : Nat := 0
  /-- Bridge current (22_speakers_motor.md R493). -/
  ma : Int := 0
  /-- Peak current of the present second (04_status.md R106). -/
  peakSec : Nat := 0
  /-- Sum of |I| over the present second (04_status.md R106). -/
  sumSec : Nat := 0
  /-- Readings in that sum (04_status.md R106). -/
  countSec : Nat := 0
  /-- Readings of |I| of the last 1 s, newest first (22_speakers_motor.md R493). -/
  recent : List Nat := []
  /-- Continuous-current scale of V_ceil in units of 1/80000 (22_speakers_motor.md R493). -/
  scale : Nat := 80000
  /-- PVDD_M (22_speakers_motor.md R493). -/
  pvddMv : Nat := 0
  /-- Below the working limit since (FB11 clearing) (04_status.md R112). -/
  peakAt : Option Nat := none
  /-- Chopping in the present second (22_speakers_motor.md R493). -/
  choppedSec : Bool := false
  /-- A stall in the present second (22_speakers_motor.md R498). -/
  stallSec : Bool := false
  /-- Stalling since (22_speakers_motor.md R498). -/
  stallSince : Option Nat := none
  /-- Instants of the stalls of the last 60 s (22_speakers_motor.md R498). -/
  stalls : List Nat := []
  /-- Stall hold until (22_speakers_motor.md R498). -/
  holdUntil : Option Nat := none
  /-- Held undriven until reset (22_speakers_motor.md R498). -/
  heldOff : Bool := false
  /-- Running without stalling since (22_speakers_motor.md R498). -/
  runSince : Option Nat := none
  /-- MOT_POS out of range since (22_speakers_motor.md R496). -/
  posBadAt : Option Nat := none
  /-- FB12 active (22_speakers_motor.md R496). -/
  posFault : Bool := false
deriving DecidableEq, Repr

/-- Loudspeaker stages. -/
structure Speakers where
  /-- SPK0 and SPK1 (22_speakers_motor.md R478). -/
  ch : Vector SpkChan 2 := Vector.replicate 2 {}
  /-- PVDD_A as measured (22_speakers_motor.md R479). -/
  pvddMv : Nat := 0
  /-- FB01 active (22_speakers_motor.md R490). -/
  fault : Bool := false
deriving DecidableEq, Repr

/-- A row that showed a corrected error. -/
structure RowTrack where
  /-- Loft rather than buffer SRAM (23_endurance.md R507). -/
  loft : Bool := false
  /-- Bank (23_endurance.md R507). -/
  bank : Nat := 0
  /-- Row (23_endurance.md R507). -/
  row : Nat := 0
  /-- First error of its 24 h (23_endurance.md R507). -/
  first : Nat := 0
  /-- Corrected errors in them (23_endurance.md R507). -/
  count : Nat := 0
deriving DecidableEq, Repr

/-- A remapped or remapping row. -/
structure RowMap where
  /-- Loft rather than buffer SRAM (23_endurance.md R512). -/
  loft : Bool := false
  /-- Bank (23_endurance.md R504). -/
  bank : Nat := 0
  /-- Row (23_endurance.md R504). -/
  row : Nat := 0
  /-- Spare row (23_endurance.md R509). -/
  spare : Nat := 0
  /-- Instant it was copied or filled; the switch waits for a boundary (23_endurance.md R509). -/
  readyAt : Option Nat := none
deriving DecidableEq, Repr

/-- A day point of the aging log. -/
structure DayPoint where
  /-- Powered day number (23_endurance.md R516). -/
  day : Nat := 0
  /-- Mean offset (23_endurance.md R516). -/
  dco : Int := 0
  /-- Mean temperature (23_endurance.md R516). -/
  temp : Int := 0
  /-- REF source (23_endurance.md R518). -/
  tcxo : Bool := false
deriving DecidableEq, Repr

/-- SRAM repair and oscillator aging. -/
structure Endurance where
  /-- Tracked rows (23_endurance.md R507). -/
  tracks : List RowTrack := []
  /-- Remaps under way (23_endurance.md R509). -/
  repairs : List RowMap := []
  /-- Remap list (retention RAM) (23_endurance.md R512). -/
  map : List RowMap := []
  /-- Uncorrectable words: loft, bank, row and word of the row (23_endurance.md R508). -/
  bad : List (Bool × Nat × Nat × Nat) := []
  /-- Next scrub pass (23_endurance.md R506). -/
  scrubAt : Nat := 0
  /-- Contexts idle until reset for an unfilled loft row (23_endurance.md R510). -/
  idleCtx : List Nat := []
  /-- Day accumulator, DCO offsets (23_endurance.md R516). -/
  accDco : Int := 0
  /-- Day accumulator, temperatures in degrees (23_endurance.md R516). -/
  accTemp : Int := 0
  /-- Windows in the accumulator (23_endurance.md R516). -/
  accCount : Nat := 0
  /-- Aging log (retention RAM) (23_endurance.md R516). -/
  points : List DayPoint := []
  /-- Fitted a, in 2^-48 of the ratio per day (23_endurance.md R516). -/
  fitA : Int := 0
  /-- Fitted k, in 2^-48 of the ratio per degree (23_endurance.md R516). -/
  fitK : Int := 0
  /-- The model is valid (23_endurance.md R516). -/
  valid : Bool := false
  /-- Mean day of the windows behind the holdover value, in thousandths (23_endurance.md R517). -/
  hvDay : Int := 0
  /-- Their mean temperature, in thousandths of a degree (23_endurance.md R517). -/
  hvTemp : Int := 0
  /-- Holdover value before correction (23_endurance.md R517). -/
  hvRaw : Int := 0
  /-- The holdover value came from rule 1 (23_endurance.md R517). -/
  hvRule1 : Bool := false
  /-- Next re-evaluation (23_endurance.md R517). -/
  correctAt : Nat := 0
deriving DecidableEq, Repr

/-- SLUMBER entry, sleep and waking. -/
structure Sleep where
  /-- The SLUMBER conditions have held since (03_modes_startup.md R83). -/
  condAt : Option Nat := none
  /-- Latest instant at which a SLUMBER condition did not hold (03_modes_startup.md R83). -/
  brokenAt : Nat := 0
  /-- Entry decided, waiting for a free boundary (03_modes_startup.md R83). -/
  entryPending : Bool := false
  /-- The instant it was decided (01_system_picture.md R29). -/
  entryAt : Nat := 0
  /-- The boundary of the entry (03_modes_startup.md R84). -/
  enteredAt : Nat := 0
  /-- Block number of an entry agreed with the partner (03_modes_startup.md R83). -/
  entryB : Option Nat := none
  /-- Frames queued at entry are still being sent (03_modes_startup.md R84). -/
  draining : Bool := false
  /-- The core die is powered down (03_modes_startup.md R84). -/
  down : Bool := false
  /-- Open beacon window: start and end in device time (03_modes_startup.md R86). -/
  window : Option (Nat × Nat) := none
  /-- Device time of the next expected beacon instant (03_modes_startup.md R85). -/
  beaconAt : Nat := 0
  /-- Windows missed in the present search (03_modes_startup.md R87). -/
  missed : Nat := 0
  /-- A beacon was received in the open window (03_modes_startup.md R86). -/
  got : Bool := false
  /-- The device wakes because its search failed: F470 is due at resumption (03_modes_startup.md R87). -/
  searchFailed : Bool := false
  /-- The loft has been reloaded since the wake (03_modes_startup.md R89). -/
  loftBack : Bool := false
  /-- t_wake (03_modes_startup.md R89). -/
  wakeAt : Option Nat := none
  /-- Stay-awake flag of the heartbeats (03_modes_startup.md R85). -/
  stayAwake : Bool := false
  /-- The partner's loss timers are held back (03_modes_startup.md R88). -/
  rearm : Bool := false
deriving DecidableEq, Repr

/-- Input lands as the control path sees them. -/
structure LandsIn where
  /-- Debounced PAIR (25_timing.md R550). -/
  pair : Bool := false
  /-- Instant PAIR last changed (11_tenants_security.md R259). -/
  pairSince : Nat := 0
  /-- WAKE (03_modes_startup.md R89). -/
  wake : Bool := false
  /-- CUE3 to CUE0 (20_granary_image.md R444). -/
  cue : Fin 16 := 0
  /-- Neither RESET_N nor the power-on reset holds the device in reset (26_package_lands.md R560). -/
  resetN : Bool := true
deriving DecidableEq, Repr

/-- Instructions of the test access port, R584. -/
inductive JtagIr where
  | extest
  | idcode
  | sample
  | highz
  | clamp
  | bypass
deriving DecidableEq, Repr

/-- The test access port. -/
structure Jtag where
  /-- Instruction in force (29_standards_test.md R584). -/
  ir : JtagIr := .idcode
  /-- Instruction register (29_standards_test.md R584). -/
  irBits : BitVec 5 := 1#5
  /-- EXTEST, HIGHZ or CLAMP holds the device in reset (29_standards_test.md R588). -/
  hold : Bool := false
  /-- Boundary register, update stage (29_standards_test.md R586). -/
  boundary : BitVec 124 := 0#124
  /-- Boundary register, shift stage (29_standards_test.md R586). -/
  shift : BitVec 124 := 0#124
  /-- Covered lands driven from the boundary register (29_standards_test.md R588). -/
  drive : Bool := false
  /-- Covered outputs at high impedance (29_standards_test.md R588). -/
  highZ : Bool := false
  /-- Bits shifted out by the last scan (29_standards_test.md R586). -/
  tdo : List Bool := []
  /-- Bypass register (29_standards_test.md R584). -/
  bypassBit : Bool := false
deriving DecidableEq, Repr

end Sys2Proof.Machine
end

