-- ==== Sys2Proof/Machine/State.lean ====
section
/-! DEFINITION. The machine's state, its reset, and the ways a command can stop. -/

namespace Sys2Proof.Machine

/-- The machine: the block's whole state, and the queue of commands that wait. -/
structure State where
  /-- The model's time base in ns: time of an ideal nominal REF since power was first applied (00_scope.md R9). -/
  now : Nat := 0
  /-- The commands that wait, first in, first out ((model)). -/
  pending : List Instr := []
  /-- The model's own counter of free values drawn ((model)). -/
  freeCtr : Nat := 0
  /-- The device's EUI-48, set in the factory (04_status.md R105). -/
  eui48 : BitVec 48 := 0#48
  /-- Start and modes (03_modes_startup.md R69). -/
  start : StartUnit := {}
  /-- Always-on domain (03_modes_startup.md R77). -/
  aon : AlwaysOn := {}
  /-- Crossing queues into SYS of PHY A, PHY B, TIE, BPI0 to BPI3, TDM0, TDM1 and USB in that order (05_clock_domains.md R120). -/
  cross : Vector Crossing 10 := Vector.replicate 10 {}
  /-- Straps (02_straps.md R42). -/
  straps : Straps := {}
  /-- Fumarole paths, active faults, LEDs (04_status.md R91). -/
  status : Status := {}
  /-- Ash log (04_status.md R108). -/
  log : AshLog := {}
  /-- Wellspring (06_wellspring.md R126). -/
  well : Wellspring := {}
  /-- Frequency history (retention RAM), newest first (06_wellspring.md R145). -/
  history : List HistWindow := []
  /-- Network ports A and B (07_network_ports.md R152). -/
  ports : Vector Port 2 := Vector.replicate 2 {}
  /-- PoDL front end of port A (07_network_ports.md R160). -/
  podl : Podl := {}
  /-- Switch (07_network_ports.md R162). -/
  switch : Switch := {}
  /-- gPTP and device time (08_time_streams.md R171). -/
  gptp : Gptp := {}
  /-- Streams (08_time_streams.md R177). -/
  streams : Streams := {}
  /-- Routing and ducking (09_routing_profiles.md R196). -/
  routing : Routing := {}
  /-- Pairs and TIE (10_redundancy.md R212). -/
  red : Redundancy := {}
  /-- Keys and packet numbers (11_tenants_security.md R243). -/
  sec : Security := {}
  /-- Biphase inputs (12_biphase_ports.md R269). -/
  bpi : Vector Bpi 4 := Vector.replicate 4 {}
  /-- Biphase outputs (12_biphase_ports.md R280). -/
  bpo : Vector Bpo 4 := Vector.replicate 4 {}
  /-- TDM ports (13_tdm_pdm.md R286). -/
  tdm : Vector TdmPort 2 := Vector.replicate 2 {}
  /-- Microphone gate and PDM clocks (13_tdm_pdm.md R302). -/
  mic : MicGate := {}
  /-- USB audio function (14_usb_audio.md R307). -/
  usb : Usb := {}
  /-- Block clock, ASRC pairs, START and MUTE_N (15_asrc_alignment.md R327). -/
  blocks : Blocks := {}
  /-- Thresher (16_thresher.md R338). -/
  thr : Thresher := {}
  /-- Flash, PSRAM, loft, SRAM, buses and DMA (19_memory_dma.md R400). -/
  mem : Memories := {}
  /-- Granary image (20_granary_image.md R426). -/
  gran : Granary := {}
  /-- Clip player (20_granary_image.md R444). -/
  clips : Clips := {}
  /-- Power path and battery (21_power_battery.md R458). -/
  plant : Plant := {}
  /-- Loudspeaker stages (22_speakers_motor.md R478). -/
  spk : Speakers := {}
  /-- Motor bridge (22_speakers_motor.md R492). -/
  motor : Motor := {}
  /-- Repair and aging (23_endurance.md R503). -/
  endur : Endurance := {}
  /-- SLUMBER (03_modes_startup.md R82). -/
  sleep : Sleep := {}
  /-- Input lands (26_package_lands.md R560). -/
  lands : LandsIn := {}
  /-- Test access port (29_standards_test.md R583). -/
  jtag : Jtag := {}
deriving DecidableEq, Repr

/-- The state right after reset: every field at the value its declaration gives. -/
def State.reset : State := {}

/-- Why a command stops with a fault. -/
inductive Fault where
  /-- Raised by a DMA register set that names an address outside every memory of the device. Safe: the model stops. -/
  | dmaAddress (addr : Nat)
deriving DecidableEq, Repr

/-- Why a command has no meaning. -/
inductive Refusal where
  /-- Raised only by `exec` for a command whose meaning is not written. Safe: the model stops. -/
  | notModelled (mnemonic : String)
deriving DecidableEq, Repr

end Sys2Proof.Machine
end

