-- ==== Sys2Proof/Machine/Operands.lean ====
section
/-! DEFINITION. What the straps say: levels, roles, ports, references, plant ceilings, and the routes of each profile. -/

namespace Sys2Proof.Machine

open Sys2Proof

/-! ### Strap readings and levels (chapter 2) -/

/-- A number put into a rising list. -/
def insertSorted (x : Fin 1024) : List (Fin 1024) → List (Fin 1024)
  | [] => [x]
  | y :: l => if x ≤ y then x :: y :: l else y :: insertSorted x l

/-- The median of five numbers: the middle one of the sorted list (R36). -/
def median5 (v : Vector (Fin 1024) 5) : Fin 1024 :=
  ((v.toList.foldr insertSorted [])[2]?).getD 0

/-- A pin's voltage at a time after t_w: that of the last change before it. -/
def pinAt (p : StrapPin) (dt : Nat) : Nat :=
  p.later.foldl (fun v x => if x.1 < dt then x.2 else v) p.volts

/-- The code of a voltage in microvolts: `floor (1024 V_pin / V_ref)`, clamped to 0 to 1023 (R36). -/
def convert (v : Nat) : Fin 1024 := Fin.ofNat 1024 (min 1023 (1024 * v / 1200000))

/-- When the conversion `j` of the strap of index `i` is taken, in ns after t_w (R36). -/
def conversionAt (i : Fin 13) (j : Fin 5) : Nat := i.val * 50000 + j.val * 10000

/-- The reading of one strap in a window: the median of its five conversions (R36). -/
def readPin (i : Fin 13) (p : StrapPin) : Fin 1024 :=
  median5 (Vector.ofFn (fun j => convert (pinAt p (conversionAt i j))))

/-- The readings of all thirteen straps in a window (R36). -/
def readPins (v : Vector StrapPin 13) : Vector (Fin 1024) 13 := Vector.ofFn (fun i => readPin i v[i])

/-- The level whose band holds a code: `|N + 0.5 - 1024 k / 15| ≤ 1024 / 45`, in units of 1/90 (R37). -/
def levelOf (n : Fin 1024) : Option (Fin 16) :=
  (List.finRange 16).find? (fun k => decide ((90 * (n.val : Int) + 45 - 6144 * (k.val : Int)).natAbs ≤ 2048))

/-- A code in the band of level `k` lies outside the central three quarters of it: `> 1024 / 60` (R37). -/
def marginalIn (k : Fin 16) (n : Fin 1024) : Bool :=
  decide ((90 * (n.val : Int) + 45 - 6144 * (k.val : Int)).natAbs > 1536)

/-- The latched level of the strap of an index, none where it did not latch (R43). -/
def lvl (s : State) (i : Fin 13) : Option (Fin 16) := s.straps.level[i]

/-- The latched level, or 15, what an open pin selects (R94). -/
def lvlD (s : State) (i : Fin 13) : Nat := ((lvl s i).getD 15).val

/-- The tenant (R15, R94). -/
def tenant (s : State) : Nat := lvlD s 0
/-- The node address (R15, R94). -/
def node (s : State) : Nat := lvlD s 1 * 16 + lvlD s 2
/-- The SP_ROLE level. -/
def role (s : State) : Nat := lvlD s 3
/-- The SP_PORTS level. -/
def portsLvl (s : State) : Nat := lvlD s 9
/-- The offset o of R96: tenant × 62.5 ms, in ns. -/
def offset (s : State) : Nat := tenant s * 62500000

/-- The mode an SP_ROLE level enters at running; a reserved level enters none (Table 1.1). -/
def roleMode (r : Nat) : Option Mode :=
  if r = 0 ∨ r = 15 then some .solo
  else if r ≤ 3 then some .member
  else if r = 4 ∨ r = 5 ∨ r = 6 ∨ r = 9 then some .leader
  else if r = 7 ∨ r = 8 then some .partner
  else none

/-- A strapped leader (R256). -/
def strappedLeader (r : Nat) : Bool := r == 4 || r == 5 || r == 6 || r == 9
/-- A strapped partner. -/
def strappedPartner (r : Nat) : Bool := r == 7 || r == 8
/-- A device of a hot pair by its straps (R212). -/
def hotRole (r : Nat) : Bool := r == 5 || r == 7
/-- A device of a cold pair by its straps (R212). -/
def coldRole (r : Nat) : Bool := r == 6 || r == 8
/-- A device strapped into a pair. -/
def pairRole (r : Nat) : Bool := hotRole r || coldRole r

/-- The mode code of R19. -/
def Mode.code : Mode → Nat
  | .solo => 1 | .member => 2 | .leader => 3 | .partner => 4 | .slumber => 5 | .safe => 6

/-- The code of a mode, 0 during a start (Tables 4.6 and 4.8). -/
def modeCode : Option Mode → Nat
  | none => 0
  | some m => m.code

/-- The reserved levels of each strap (Table 2.1). -/
def reservedLevel (i : Nat) (k : Nat) : Bool :=
  match i with
  | 3 => decide (10 ≤ k ∧ k ≤ 14)
  | 4 => decide (13 ≤ k ∧ k ≤ 14)
  | 6 => decide (12 ≤ k ∧ k ≤ 14)
  | 8 => decide (12 ≤ k ∧ k ≤ 14)
  | 9 => decide (10 ≤ k ∧ k ≤ 14)
  | 12 => decide (13 ≤ k ∧ k ≤ 14)
  | _ => false

/-- The straps the rules of Table 2.14 name, as two indices. -/
def ruleStraps (n : Nat) : Fin 13 × Fin 13 :=
  match n with
  | 1 | 2 | 3 => (3, 4)
  | 4 => (4, 0)
  | _ => (4, 9)

/-- Whether a combination of Table 2.14 holds, over the levels of the two straps it names. -/
def ruleHolds (n a b : Nat) : Bool :=
  match n with
  | 1 => strappedLeader a && (decide (b ≤ 7) || b == 15)
  | 2 => (decide (a ≤ 3) || a == 15) && decide (8 ≤ b ∧ b ≤ 12)
  | 3 => strappedPartner a && decide (b ≤ 7)
  | 4 => a == 11 && b != 0
  | 5 => a == 3 && !(b == 5 || b == 6 || b == 7)
  | 6 => (a == 4 || a == 8) && (b == 7 || b == 8 || decide (10 ≤ b ∧ b ≤ 14))
  | _ => a == 6 && !(b == 2 || b == 3 || b == 4 || b == 9)

/-- Speed of a port by SP_LINK: none off, true 1000BASE-T1, false 100BASE-T1 (Table 2.7). -/
def linkSpeed (l : Nat) (p : Fin 2) : Option Bool :=
  let k := if 8 ≤ l ∧ l ≤ 11 then l - 8 else if l = 15 then 0 else l
  match k, p with
  | 0, 0 => some true  | 0, 1 => some true
  | 1, 0 => some true  | 1, 1 => some false
  | 2, 0 => some false | 2, 1 => some true
  | 3, 0 => some false | 3, 1 => some false
  | 4, 0 => some true  | 4, 1 => none
  | 5, 0 => some false | 5, 1 => none
  | 6, 0 => none       | 6, 1 => some true
  | 7, 0 => none       | 7, 1 => some false
  | _, _ => none

/-- PoDL powered device on port A by SP_LINK (Table 2.7). -/
def linkPodl (l : Nat) : Bool := decide (l ≤ 7) || l == 15

/-- The 44.1 kHz family by SP_CLOCK (Table 2.8). -/
def clock441 (l : Nat) : Bool := decide (8 ≤ l ∧ l ≤ 14)

/-- The reference order by SP_CLOCK (Table 2.8). -/
def refOrder (l : Nat) : List Ref :=
  match (if 8 ≤ l ∧ l ≤ 14 then l - 8 else if l = 15 then 0 else l) with
  | 0 => [.net, .bpi0, .wclk, .local]
  | 1 => [.bpi0, .net, .local]
  | 2 => [.wclk, .net, .local]
  | 3 => [.net, .local]
  | 4 => [.bpi0, .bpi1, .local]
  | 5 => [.local]
  | 6 => [.net, .wclk, .bpi0, .local]
  | _ => [.bpi1, .bpi0, .net, .local]

/-- The presentation offset in ms by SP_LATENCY (Table 2.9). -/
def latencyMs (l : Nat) : Nat :=
  ([1, 2, 3, 4, 6, 8, 12, 16, 24, 32, 48, 64][l]?).getD 2

/-- TDM ports by SP_PORTS: slot count and whether a leader port; none where off (Table 2.10). -/
def tdmSetup (l : Nat) (p : Fin 2) : Option (Nat × Bool) :=
  match l, p with
  | 0, 0 => some (8, false)
  | 1, 0 => some (16, false)
  | 2, _ => some (8, true)
  | 3, _ => some (16, true)
  | 4, _ => some (16, false)
  | 5, 0 => some (2, true)
  | 6, 0 => some (8, true)
  | 9, 0 => some (4, false)
  | 9, 1 => some (4, true)
  | 15, 0 => some (2, true)
  | _, _ => none

/-- Professional rather than consumer channel status by SP_PORTS (Table 2.10). -/
def bpoProfessional (l : Nat) : Bool := l == 3 || l == 4 || l == 8

/-- Channels of the USB function by SP_PORTS, 0 where off (Table 2.10). -/
def usbChannels (l : Nat) : Nat := if l = 5 ∨ l = 7 then 2 else if l = 6 then 8 else 0

/-- SP_AMP: mono parallel-bridged, and the ceiling per output in mW; none where off (Table 2.11). -/
def ampSetup (l : Nat) : Option (Bool × Nat) :=
  match (if 8 ≤ l ∧ l ≤ 14 then l - 7 else l) with
  | 1 => some (false, 2000)
  | 2 => some (false, 5000)
  | 3 => some (false, 10000)
  | 4 => some (false, 15000)
  | 5 => some (true, 10000)
  | 6 => some (true, 15000)
  | 7 => some (true, 25000)
  | _ => none

/-- SP_AMP levels 8 to 14 run the model set's speaker model (R59). -/
def ampModelSet (l : Nat) : Bool := decide (8 ≤ l ∧ l ≤ 14)

/-- SP_MOTOR: closed loop, and the effective voltage ceiling in mV; none where off (Table 2.12). -/
def motorSetup (l : Nat) : Option (Bool × Nat) :=
  if l = 0 ∨ 15 ≤ l then none
  else
    let k := if l ≤ 7 then l else l - 7
    some (decide (8 ≤ l), ([0, 3000, 4500, 6000, 7500, 9000, 12000, 15000][k]?).getD 0)

/-- A battery as SP_BATT straps it: LiFePO4 rather than Li-ion, charge voltage per cell in mV, charge current in mA. -/
structure BattSetup where
  /-- LiFePO4. -/
  lfp : Bool
  /-- Charge voltage per cell in mV. -/
  cellMv : Nat
  /-- Charge current in mA. -/
  ma : Nat
deriving DecidableEq, Repr

/-- SP_BATT; none where no battery (Table 2.13). -/
def battSetup (l : Nat) : Option BattSetup :=
  if l = 0 ∨ 13 ≤ l then none
  else
    let k := (l - 1) % 4
    let ma := ([500, 1000, 2000, 3000][k]?).getD 0
    if l ≤ 4 then some ⟨false, 4200, ma⟩
    else if l ≤ 8 then some ⟨false, 4100, ma⟩
    else some ⟨true, 3600, ma⟩

/-! ### Routes (chapter 9) -/

/-- A signal of Table 9.1. -/
inductive Sig where
  /-- Program channel `c`; digital zero at or above C. -/
  | prog (c : Nat)
  /-- Program channel `(2q + k) mod C`. -/
  | progMod (k : Nat)
  /-- A side of the station pair. -/
  | station (right : Bool)
  /-- Announcement channel A0 or A1. -/
  | ann (right : Bool)
  /-- Clip mix K0 or K1. -/
  | clip (right : Bool)
  /-- Enhanced microphone. -/
  | mic (m : Nat)
  /-- Raw input slot of TDM port 0 (profile 11). -/
  | rawSlot (j : Nat)
  /-- Compacted input channel of a TDM port. -/
  | tdmIn (port : Fin 2) (ch : Nat)
  /-- Biphase input channel. -/
  | bpi (n : Fin 4) (right : Bool)
  /-- USB host-to-device channel, from 1. -/
  | usbOut (k : Nat)
  /-- Return list position. -/
  | ret (j : Nat)
  /-- Return mix. -/
  | retMix
  /-- Test channel (R202). -/
  | test (c : Nat)
deriving DecidableEq, Repr

/-- One signal in a sum, ducked or not. -/
structure Term where
  /-- The signal. -/
  sig : Sig
  /-- Marked "ducked". -/
  duck : Bool := false
deriving DecidableEq, Repr

/-- What feeds an output channel (R198). -/
inductive Mix where
  /-- The sum of signals at unity gain. -/
  | sum (l : List Term)
  /-- The mono of two sums. -/
  | mono (x y : List Term)
deriving DecidableEq, Repr

/-- The channel counts that fix a device's routes (R196). -/
structure Counts where
  /-- The profile in effect. -/
  profile : Nat
  /-- The node address. -/
  node : Nat
  /-- Slots of TDM0, 0 where off. -/
  slots0 : Nat
  /-- Slots of TDM1, 0 where off. -/
  slots1 : Nat
  /-- USB channels. -/
  usb : Nat
  /-- Double rate. -/
  double : Bool
deriving DecidableEq, Repr

/-- The profile's slot masks: TDM0 in, TDM0 out, TDM1 in, TDM1 out (Table 9.4). -/
def masks (profile : Nat) : BitVec 16 × BitVec 16 × BitVec 16 × BitVec 16 :=
  match profile with
  | 0 | 15 | 2 | 7 => (0, 0x0003, 0, 0)
  | 1 => (0, 0x0001, 0, 0)
  | 4 => (0xFFFF, 0xFFFF, 0, 0)
  | 6 => (0, 0xFFFF, 0, 0xFFFF)
  | 8 => (0xFFFF, 0xFFFF, 0xFFFF, 0xFFFF)
  | 9 => (0x00FF, 0xFFFF, 0, 0)
  | 10 | 12 => (0, 0xFFFF, 0, 0xFFFF)
  | 11 => (0xFFFC, 0xFFFF, 0, 0)
  | _ => (0, 0, 0, 0)

/-- The active slots of a mask on a port of `s` slots, lowest first (R203). -/
def activeSlots (mask : BitVec 16) (s : Nat) : List Nat :=
  (List.range s).filter (fun j => mask.getLsbD j)

/-- Active input slots of a TDM port. -/
def inSlots (c : Counts) (p : Fin 2) : List Nat :=
  if p = 0 then activeSlots (masks c.profile).1 c.slots0 else activeSlots (masks c.profile).2.2.1 c.slots1

/-- Active output slots of a TDM port. -/
def outSlots (c : Counts) (p : Fin 2) : List Nat :=
  if p = 0 then activeSlots (masks c.profile).2.1 c.slots0 else activeSlots (masks c.profile).2.2.2 c.slots1

/-- The station pair's side ducked, plus announcement and clip mix: the out mix (R200). -/
def outMix (right : Bool) : List Term := [⟨.station right, true⟩, ⟨.ann right, false⟩, ⟨.clip right, false⟩]

/-- Both subframes of a biphase output. -/
def bpoPair (n : Fin 4) (l r : Mix) : List (Out × Mix) := [(.bpo n false, l), (.bpo n true, r)]

/-- One sum of one signal. -/
def one (g : Sig) : Mix := .sum [⟨g, false⟩]

/-- Program-bus channel cap: 64 at base rate, 32 at double rate (R202). -/
def capChannels (double : Bool) : Nat := if double then 32 else 64

/-- The program-bus sources of a leader's profile, in order, before the cap (Table 9.3). -/
def programSources (c : Counts) : List Mix :=
  let t0 := (List.range (inSlots c 0).length).map (fun k => Sig.tdmIn 0 k)
  let t1 := (List.range (inSlots c 1).length).map (fun k => Sig.tdmIn 1 k)
  let k01 := [one (.clip false), one (.clip true)]
  let b (n : Fin 4) := [one (.bpi n false), one (.bpi n true)]
  match c.profile with
  | 8 =>
    (t0 ++ t1).zipIdx.map (fun x =>
      if x.2 = 0 then .sum [⟨x.1, false⟩, ⟨.clip false, false⟩]
      else if x.2 = 1 then .sum [⟨x.1, false⟩, ⟨.clip true, false⟩] else one x.1)
  | 9 =>
    k01 ++ b 0 ++ b 1 ++ b 2 ++ b 3 ++ t0.map one
      ++ (List.range c.usb).map (fun k => one (.usbOut (k + 1)))
      ++ (List.range 4).map (fun m => one (.mic m))
  | 10 => k01 ++ b 0
  | 11 => t0.map one ++ b 1
  | 12 => (List.range (capChannels c.double)).map (fun k => one (.test k))
  | _ => []

/-- The program bus as sent (R202). -/
def programBus (c : Counts) : List Mix := (programSources c).take (capChannels c.double)

/-- The announcement bus of profile 11 (R202). -/
def announceBus : List Mix :=
  [.sum [⟨.bpi 0 false, false⟩, ⟨.rawSlot 0, false⟩, ⟨.clip false, false⟩, ⟨.mic 0, false⟩],
   .sum [⟨.bpi 0 true, false⟩, ⟨.rawSlot 1, false⟩, ⟨.clip true, false⟩, ⟨.mic 0, false⟩]]

/-- The channels of a member's return stream (Table 9.2). -/
def returnSources (c : Counts) : List Mix :=
  match c.profile with
  | 1 => [one (.mic 0)]
  | 3 => (List.range c.usb).map (fun k => one (.usbOut (k + 1)))
  | 4 => (List.range (inSlots c 0).length).map (fun k => one (.tdmIn 0 k))
  | 5 => (List.finRange 4).flatMap (fun n => [one (.bpi n false), one (.bpi n true)])
  | 7 => [one (.clip false), one (.clip true)]
  | _ => []

/-- The local outputs of a profile and what feeds each (Tables 9.2 and 9.3). -/
def outputs (c : Counts) : List (Out × Mix) :=
  let o0 := (outSlots c 0).length
  let o1 := (outSlots c 1).length
  let om (r : Bool) : Mix := .sum (outMix r)
  let mono : Mix := .mono (outMix false) (outMix true)
  let spk (l r : Mix) : List (Out × Mix) := [(.spk false, l), (.spk true, r)]
  let tdm0 (f : Nat → Mix) : List (Out × Mix) := (List.range o0).map (fun j => (.tdm 0 j, f j))
  let tdm1 (f : Nat → Mix) : List (Out × Mix) := (List.range o1).map (fun j => (.tdm 1 j, f j))
  let usb (f : Nat → Mix) : List (Out × Mix) := (List.range c.usb).map (fun k => (.usbIn (k + 1), f (k + 1)))
  let lead (r : Bool) : Mix := .sum [⟨.prog (if r then 1 else 0), true⟩, ⟨.ann r, false⟩]
  match c.profile with
  | 0 | 15 =>
    spk (om false) (om true) ++ tdm0 (fun j => om (j == 1)) ++ bpoPair 0 (om false) (om true)
      ++ (usb (fun k => om (k == 2))).take 2
  | 1 => spk mono mono ++ tdm0 (fun _ => mono) ++ bpoPair 0 mono mono
  | 2 =>
    spk (om false) (om true) ++ tdm0 (fun j => om (j == 1)) ++ bpoPair 0 (om false) (om true)
      ++ [(.lip, .mono [⟨.station false, true⟩, ⟨.clip false, false⟩] [⟨.station true, true⟩, ⟨.clip true, false⟩])]
  | 3 =>
    let u (r : Bool) : Mix :=
      .sum [⟨.usbOut (if r then 2 else 1), true⟩, ⟨.ann r, false⟩, ⟨.clip r, false⟩]
    spk (u false) (u true)
      ++ usb (fun k => if k ≤ 2 then om (k == 2) else one (.progMod (k - 1)))
  | 4 =>
    let t (j : Nat) : Mix := .sum [⟨.progMod j, true⟩, ⟨.ann (j % 2 == 1), false⟩]
    tdm0 t ++ (if o0 = 0 then [] else spk (t 0) (if o0 = 1 then .sum [] else t 1))
  | 5 =>
    bpoPair 0 (om false) (om true) ++ bpoPair 1 (one (.ann false)) (one (.ann true))
      ++ bpoPair 2 (one (.progMod 2)) (one (.progMod 3)) ++ spk (om false) (om true)
  | 6 =>
    let w := 32 * (c.node % 2)
    tdm0 (fun j => one (.prog (w + j))) ++ tdm1 (fun j => one (.prog (w + o0 + j)))
  | 7 =>
    let k (r : Bool) : Mix := .sum [⟨.clip r, true⟩, ⟨.ann r, false⟩]
    spk (k false) (k true) ++ tdm0 (fun j => k (j == 1)) ++ bpoPair 0 (k false) (k true)
      ++ [(.lip, .mono [⟨.clip false, false⟩] [⟨.clip true, false⟩])]
  | 8 =>
    spk (lead false) (lead true)
      ++ tdm0 (fun j => if j + 1 = o0 then one .retMix else one (.ret j))
      ++ tdm1 (fun j => one (.ret (o0 - 1 + j)))
  | 9 =>
    spk (lead false) (lead true) ++ tdm0 (fun j => one (.ret j))
      ++ bpoPair 0 (one (.prog 0)) (one (.prog 1)) ++ usb (fun k => one (.ret (k - 1)))
  | 10 =>
    spk (one .retMix) (one .retMix) ++ tdm0 (fun j => one (.ret j)) ++ tdm1 (fun j => one (.ret (o0 + j)))
      ++ (List.finRange 4).flatMap (fun n => bpoPair n (one (.ret (2 * n.val))) (one (.ret (2 * n.val + 1))))
      ++ usb (fun k => one (.ret (k - 1)))
  | 11 =>
    spk (one (.ann false)) (one (.ann true)) ++ bpoPair 0 (one (.ann false)) (one (.ann true))
      ++ tdm0 (fun j => one (.ret j))
  | 12 =>
    spk (one (.prog 0)) (one (.prog 1)) ++ tdm0 (fun j => one (.prog j)) ++ tdm1 (fun j => one (.prog (o0 + j)))
      ++ (List.finRange 4).flatMap (fun n => bpoPair n (one (.prog (2 * n.val))) (one (.prog (2 * n.val + 1))))
      ++ usb (fun k => one (.prog (k - 1)))
  | _ => []

/-- Whether a profile otherwise uses a biphase output (R101, Tables 9.2 and 9.3). -/
def bpoUsed (profile : Nat) (n : Fin 4) : Bool :=
  match profile with
  | 0 | 15 | 1 | 2 | 7 | 9 | 11 => n == 0
  | 5 => n != 3
  | 10 | 12 => true
  | _ => false

/-- Whether a route of the profile uses an announcement signal. -/
def hearsAnnouncement (profile : Nat) : Bool := profile != 6 && profile != 10 && profile != 12

/-- The slot count in force of a TDM port, 0 where SP_PORTS sets it off: at most 8 at the double rate (R288). -/
def slotsInForce (s : State) (p : Fin 2) : Nat :=
  let n := ((tdmSetup (portsLvl s) p).map (·.1)).getD 0
  if 50000 < s.well.rate then min 8 n else n

/-- Counts of the device (R196). -/
def counts (s : State) : Counts where
  profile := s.routing.profile.val
  node := node s
  slots0 := slotsInForce s 0
  slots1 := slotsInForce s 1
  usb := usbChannels (portsLvl s)
  double := decide (s.well.rate > 50000)

end Sys2Proof.Machine
end

