-- ==== Sys2Proof/Machine/Flags.lean ====
section
/-! DEFINITION. The fault catalogue: each code's effect, whether it stays active, its class, and the flag bytes of status. -/

namespace Sys2Proof.Machine

open Sys2Proof

/-- A fault code's three digits, below 0xF000 (R95). -/
def faultDigits (code : BitVec 16) : Nat := code.toNat % 4096

/-- The class of a fault code: its first digit after F (R107). -/
def faultClass (code : BitVec 16) : Fin 16 := Fin.ofNat 16 (faultDigits code / 256)

/-- Effect codes (Tables 2.15, 3.5 and 4.9): 0 warning, 1 record, 2 degraded, 3 function stopped, 4 reset, 5 SAFE. -/
def faultEffect (code : BitVec 16) : Nat :=
  let d := faultDigits code
  if d / 256 = 1 then
    (match d / 16 % 16 with
     | 0 | 1 | 2 | 3 => 5
     | _ => 0)
  else
    match d with
    | 0x001 | 0x002 | 0x003 | 0x004 | 0x005 | 0x910 | 0xF00 | 0xF10 | 0xF20 => 4
    | 0x010 | 0x802 | 0x902 => 5
    | 0x020 | 0x213 | 0x400 | 0x401 | 0x402 | 0x411 | 0x500 | 0x501 | 0x600 | 0x921 | 0xC10 | 0xD20 => 0
    | 0x200 | 0x201 | 0x202 | 0x210 | 0x211 | 0x212 | 0x230 | 0x300 | 0x301 | 0x310 | 0x311 | 0x410 | 0x470
    | 0x510 | 0x521 | 0x530 | 0x610 | 0x920 | 0xA00 | 0xA01 | 0xA10 | 0xA11 | 0xA40 | 0xB02 | 0xB11 | 0xC01 => 2
    | 0x420 | 0x431 | 0x630 | 0x700 | 0x701 | 0x711 | 0x740 | 0x811 | 0xA12 | 0xA13 | 0xA20 | 0xB00 | 0xB01
    | 0xB10 | 0xB12 | 0xC00 => 3
    | _ => 1

/-- Whether a code is active from its raising until its clearing: false where its clearing is "—" (R107). -/
def faultStays (code : BitVec 16) : Bool := faultEffect code != 1

/-- A list of truth values as one byte, bit 0 first. -/
def flagByte (l : List Bool) : Byte :=
  BitVec.ofNat 8 ((l.zipIdx.map (fun x => if x.1 then 2 ^ x.2 else 0)).foldl (· + ·) 0)

/-- The media-rate code of heartbeat byte 11. -/
def rateCode (rate : Nat) : Nat :=
  if rate = 44100 then 1 else if rate = 48000 then 2 else if rate = 88200 then 3 else 4

/-- The rate of an AAF nsr code, 0 for any other code (Table 8.5). -/
def nsrRate (n : Nat) : Nat :=
  match n with
  | 4 => 44100 | 5 => 48000 | 6 => 88200 | 7 => 96000 | _ => 0

/-- The nsr code of a rate (Table 8.5). -/
def rateNsr (rate : Nat) : Nat :=
  if rate = 44100 then 4 else if rate = 48000 then 5 else if rate = 88200 then 6 else 7

/-- Whether a rate is of the double rate. -/
def doubleRate (rate : Nat) : Bool := decide (rate > 50000)

/-- A counter that saturates at 0xFFFF. -/
def sat16 (n : Nat) : Nat := min n 65535

/-- A code of SOC: 0xFF with no battery. -/
def socByte (s : State) : Nat := if (battSetup (lvlD s 12)).isNone then 255 else s.plant.soc

/-- The reference code of heartbeat byte 9. -/
def refCode (r : Option Ref) (tcxo : Bool) : Nat :=
  match r with
  | none => 0
  | some .net => 1
  | some .bpi0 => 2
  | some .bpi1 => 3
  | some .wclk => 6
  | some .local => if tcxo then 8 else 7

end Sys2Proof.Machine
end

