-- ==== Sys2Proof/Config.lean ====
section
/-! DEFINITION. What the spec leaves to the part, to a standard it only names, or to no rule at all: constants without a
body, so that no proof can see a value of them. -/

namespace Sys2Proof

/-- Free values drawn one after another: the n-th value the spec does not fix (log entry 3). -/
opaque Config.freeValue : Nat → Nat

/-- The number from which the factory made the identity private key (R264). -/
opaque Config.identitySeed : Nat

/-- The number from which the n-th ephemeral private key is made (R262). -/
opaque Config.ephemeralSeed : Nat → Nat

/-- The number from which the nonce of a signature over a message is made: no rule fixes it (R262). -/
opaque Config.signNonce : List (BitVec 8) → Nat

/-- The n-th 128-bit number of the random-number generator (R256). -/
opaque Config.random128 : Nat → BitVec 128

/-- A locked ASRC pair's output sample: its filter over the input samples in its span, each with its distance before the
output instant in ns (R324 bounds the filter, and gives no coefficients). -/
opaque Config.asrc : List (Int × Int) → Int

/-- The same in fixed-ratio mode at ratio 2^k: distances in media sample periods (R326). -/
opaque Config.asrcFixed : Int → List (Int × Int) → Int

/-- A microphone's decimator over the values, +1 or -1, of the PDM clock periods of one media sample period: from its state to its
output and new state (R301, R303). -/
opaque Config.decimate : Int → List Int → Int × Int

/-- The device-time servo: from the offset e in ns and the present rate correction in ppb to the correction it asks for
(R175 gives its bounds, not its law). -/
opaque Config.timeServo : Int → Int → Int

/-- The n-th state the plant models of context 15 commit: their 4096 bytes have no layout in the spec (R375). -/
opaque Config.plantImage : Nat → List (BitVec 8)

/-- The fourth-order Linkwitz-Riley crossover at a resonance (0.1 Hz) and a media rate: from its state and a sample (24-bit
units) to the low band, the high band and the new state (R482 names the filter and gives no coefficients or rounding). -/
opaque Config.crossover : Nat → Nat → List Int → Int → Int × Int × List Int

end Sys2Proof
end

