-- ==== Sys2Proof/Machine/Crypto.lean ====
section
/-! DEFINITION. The algorithms that chapter 11 names by their standards: SHA-256, HMAC, HKDF, AES-128, GCM, the AES key wrap, ECDH and
ECDSA over P-256, and the keys of Table 11.3 (R244 to R247, R262 to R266; log entry 145). -/

namespace Sys2Proof.Machine

open Sys2Proof

/-- An ASCII string as its bytes. -/
def ascii (s : String) : List Byte := s.toList.map (fun c => BitVec.ofNat 8 c.toNat)

/-- A byte string of 16 bytes as one number, most significant first. -/
def word128 (l : List Byte) : BitVec 128 := BitVec.ofNat 128 (ofBe l)

/-! ### SHA-256, HMAC and HKDF (FIPS 180-4, RFC 2104, RFC 5869) -/

/-- The round constants of SHA-256. -/
def shaK : List (BitVec 32) :=
  [0x428a2f98#32, 0x71374491#32, 0xb5c0fbcf#32, 0xe9b5dba5#32, 0x3956c25b#32, 0x59f111f1#32, 0x923f82a4#32, 0xab1c5ed5#32,
   0xd807aa98#32, 0x12835b01#32, 0x243185be#32, 0x550c7dc3#32, 0x72be5d74#32, 0x80deb1fe#32, 0x9bdc06a7#32, 0xc19bf174#32]
  ++ [0xe49b69c1#32, 0xefbe4786#32, 0x0fc19dc6#32, 0x240ca1cc#32, 0x2de92c6f#32, 0x4a7484aa#32, 0x5cb0a9dc#32, 0x76f988da#32,
   0x983e5152#32, 0xa831c66d#32, 0xb00327c8#32, 0xbf597fc7#32, 0xc6e00bf3#32, 0xd5a79147#32, 0x06ca6351#32, 0x14292967#32]
  ++ [0x27b70a85#32, 0x2e1b2138#32, 0x4d2c6dfc#32, 0x53380d13#32, 0x650a7354#32, 0x766a0abb#32, 0x81c2c92e#32, 0x92722c85#32,
   0xa2bfe8a1#32, 0xa81a664b#32, 0xc24b8b70#32, 0xc76c51a3#32, 0xd192e819#32, 0xd6990624#32, 0xf40e3585#32, 0x106aa070#32]
  ++ [0x19a4c116#32, 0x1e376c08#32, 0x2748774c#32, 0x34b0bcb5#32, 0x391c0cb3#32, 0x4ed8aa4a#32, 0x5b9cca4f#32, 0x682e6ff3#32,
   0x748f82ee#32, 0x78a5636f#32, 0x84c87814#32, 0x8cc70208#32, 0x90befffa#32, 0xa4506ceb#32, 0xbef9a3f7#32, 0xc67178f2#32]

/-- The eight words SHA-256 starts from. -/
def shaInit : List (BitVec 32) :=
  [0x6a09e667#32, 0xbb67ae85#32, 0x3c6ef372#32, 0xa54ff53a#32, 0x510e527f#32, 0x9b05688c#32, 0x1f83d9ab#32, 0x5be0cd19#32]

/-- Words of a message block, newest first, extended by one word. -/
def shaExtend (w : List (BitVec 32)) : List (BitVec 32) :=
  let at_ (i : Nat) : BitVec 32 := (w[i]?).getD 0#32
  let a := at_ 14
  let b := at_ 1
  let s0 := a.rotateRight 7 ^^^ a.rotateRight 18 ^^^ (a >>> 3)
  let s1 := b.rotateRight 17 ^^^ b.rotateRight 19 ^^^ (b >>> 10)
  (at_ 15 + s0 + at_ 6 + s1) :: w

/-- One round of SHA-256 on its eight working words. -/
def shaRound (v : List (BitVec 32)) (x : BitVec 32 × BitVec 32) : List (BitVec 32) :=
  match v with
  | [a, b, c, d, e, f, g, h] =>
    let s1 := e.rotateRight 6 ^^^ e.rotateRight 11 ^^^ e.rotateRight 25
    let t1 := h + s1 + ((e &&& f) ^^^ (~~~e &&& g)) + x.1 + x.2
    let s0 := a.rotateRight 2 ^^^ a.rotateRight 13 ^^^ a.rotateRight 22
    let t2 := s0 + ((a &&& b) ^^^ (a &&& c) ^^^ (b &&& c))
    [t1 + t2, a, b, c, d + t1, e, f, g]
  | v => v

/-- One block of 64 bytes compressed. -/
def shaBlock (h : List (BitVec 32)) (b : List Byte) : List (BitVec 32) :=
  let w := (List.range 16).foldl (fun (w : List (BitVec 32)) i => BitVec.ofNat 32 (ofBe (slice (4 * i) 4 b)) :: w) []
  let v := (shaK.zip (iter shaExtend 48 w).reverse).foldl shaRound h
  (h.zip v).map (fun x => x.1 + x.2)

/-- A message padded to whole blocks of 64 bytes: a bit of one, zeros, and its length in bits. -/
def shaPad (m : List Byte) : List Byte :=
  m ++ [0x80#8] ++ List.replicate ((119 - m.length % 64) % 64) 0#8 ++ be 8 (8 * m.length)

/-- SHA-256 as its 32 bytes. -/
def sha256Bytes (m : List Byte) : List Byte :=
  let p := shaPad m
  ((List.range (p.length / 64)).foldl (fun h i => shaBlock h (slice (64 * i) 64 p)) shaInit).flatMap (fun w => be 4 w.toNat)

/-- SHA-256 of a byte string. -/
def sha256 (m : List Byte) : BitVec 256 := BitVec.ofNat 256 (ofBe (sha256Bytes m))

/-- HMAC-SHA-256 under a key of at most 64 bytes. -/
def hmac (key m : List Byte) : List Byte :=
  let k := padTo 64 0#8 key
  sha256Bytes (k.map (· ^^^ 0x5C#8) ++ sha256Bytes (k.map (· ^^^ 0x36#8) ++ m))

/-- HKDF with SHA-256 to at most 32 bytes: extract from a salt and an input, expand with an info (R247). -/
def hkdf (salt input info : List Byte) (len : Nat) : List Byte := (hmac (hmac salt input) (info ++ [1#8])).take len

/-! ### AES-128 (FIPS 197) -/

/-- A byte of the field of AES times x. -/
def xtime (b : Byte) : Byte := if b.getLsbD 7 then (b <<< 1) ^^^ 0x1B#8 else b <<< 1

/-- The product of two bytes of the field of AES. -/
def gmul (a b : Byte) : Byte :=
  ((List.range 8).foldl (fun (r : Byte × Byte) i => (if b.getLsbD i then r.1 ^^^ r.2 else r.1, xtime r.2)) (0#8, a)).1

/-- The inverse in that field, zero of zero: the 254th power. -/
def ginv (b : Byte) : Byte :=
  ((List.range 7).foldl (fun (r : Byte × Byte) _ => let q := gmul r.2 r.2; (gmul r.1 q, q)) (1#8, b)).1

/-- The substitution of AES. -/
def sbox (b : Byte) : Byte :=
  let x := ginv b
  x ^^^ x.rotateLeft 1 ^^^ x.rotateLeft 2 ^^^ x.rotateLeft 3 ^^^ x.rotateLeft 4 ^^^ 0x63#8

/-- Its inverse. -/
def sboxInv (b : Byte) : Byte := ginv (b.rotateLeft 1 ^^^ b.rotateLeft 3 ^^^ b.rotateLeft 6 ^^^ 0x05#8)

/-- Two byte strings combined by exclusive-or. -/
def xorBytes (a b : List Byte) : List Byte := (a.zip b).map (fun x => x.1 ^^^ x.2)

/-- The next round key, given the round constant. -/
def nextKey (k : List Byte) (rcon : Byte) : List Byte :=
  let t := [sbox (at8 k 13) ^^^ rcon, sbox (at8 k 14), sbox (at8 k 15), sbox (at8 k 12)]
  let a := xorBytes (k.take 4) t
  let b := xorBytes (slice 4 4 k) a
  let c := xorBytes (slice 8 4 k) b
  a ++ b ++ c ++ xorBytes (slice 12 4 k) c

/-- The eleven round keys of a key, first first. -/
def roundKeys (key : List Byte) : List (List Byte) :=
  let r := (List.range 10).foldl (fun (a : List (List Byte) × List Byte × Byte) _ =>
    let k := nextKey a.2.1 a.2.2
    (a.1 ++ [k], k, xtime a.2.2)) ([key], key, 1#8)
  r.1

/-- The bytes of a block in the order ShiftRows gives them, `d` columns on for each row. -/
def shiftRows (d : Nat) (b : List Byte) : List Byte := (List.range 16).map (fun i => at8 b ((i + 4 * d * (i % 4)) % 16))

/-- Every column multiplied by a circulant matrix, given by its first row. -/
def mixColumns (m : List Byte) (b : List Byte) : List Byte :=
  (List.range 16).map (fun i =>
    (List.range 4).foldl (fun (x : Byte) j => x ^^^ gmul (at8 m ((j + 4 - i % 4) % 4)) (at8 b (i / 4 * 4 + j))) 0#8)

/-- A block of 16 bytes enciphered under round keys. -/
def aesWith (ks : List (List Byte)) (b : List Byte) : List Byte :=
  let sub (b : List Byte) : List Byte := shiftRows 1 (b.map sbox)
  let mid := ((ks.drop 1).take 9).foldl (fun b k => xorBytes (mixColumns [2#8, 3#8, 1#8, 1#8] (sub b)) k) (xorBytes b ((ks[0]?).getD []))
  xorBytes (sub mid) ((ks[10]?).getD [])

/-- A block of 16 bytes deciphered under a key. -/
def aesInverse (key b : List Byte) : List Byte :=
  let ks := (roundKeys key).reverse
  let sub (b : List Byte) : List Byte := (shiftRows 3 b).map sboxInv
  let mid := ((ks.drop 1).take 9).foldl (fun b k => mixColumns [0xE#8, 0xB#8, 0xD#8, 9#8] (xorBytes (sub b) k)) (xorBytes b ((ks[0]?).getD []))
  xorBytes (sub mid) ((ks[10]?).getD [])

/-- A block of 16 bytes enciphered under a key. -/
def aes (key b : List Byte) : List Byte := aesWith (roundKeys key) b

/-! ### GCM (NIST SP 800-38D) and the key wrap (RFC 3394) -/

/-- The product of two blocks in the field of GCM, the first bit of a block being the coefficient of 1. -/
def ghashMul (x y : BitVec 128) : BitVec 128 :=
  ((List.range 128).foldl (fun (r : BitVec 128 × BitVec 128) i =>
    (if x.getMsbD i then r.1 ^^^ r.2 else r.1,
     if r.2.getLsbD 0 then (r.2 >>> 1) ^^^ (0xE1#128 <<< 120) else r.2 >>> 1)) (0#128, y)).1

/-- A byte string in blocks of 16, the last filled with zeros. -/
def blocks16 (l : List Byte) : List (List Byte) := (List.range ((l.length + 15) / 16)).map (fun i => padTo 16 0#8 (slice (16 * i) 16 l))

/-- GHASH under a subkey of the data in clear and the data enciphered. -/
def ghash (h : BitVec 128) (aad ct : List Byte) : BitVec 128 :=
  (blocks16 aad ++ blocks16 ct ++ [be 8 (8 * aad.length) ++ be 8 (8 * ct.length)]).foldl (fun y b => ghashMul (y ^^^ word128 b) h) 0#128

/-- Counter mode from a 12-byte IV, block counter 2 on: enciphers, and deciphers. -/
def gcmStream (ks : List (List Byte)) (iv m : List Byte) : List Byte :=
  xorBytes m ((List.range ((m.length + 15) / 16)).flatMap (fun i => aesWith ks (iv ++ be 4 (i + 2))))

/-- GCM-AES-128 of a plaintext under a key and IV, with data in clear that it protects: the ciphertext and the tag. -/
def gcm (key iv aad m : List Byte) : List Byte × BitVec 128 :=
  let ks := roundKeys key
  let ct := gcmStream ks iv m
  (ct, ghash (word128 (aesWith ks (List.replicate 16 0#8))) aad ct ^^^ word128 (aesWith ks (iv ++ be 4 1)))

/-- The AES key wrap of a 128-bit key under a KEK: 24 bytes. -/
def keyWrap (kek k : BitVec 128) : List Byte :=
  let key := be 16 kek.toNat
  let r := (List.range 12).foldl (fun (x : List Byte × List Byte × List Byte) t =>
    let b := aes key (x.1 ++ (if t % 2 = 0 then x.2.1 else x.2.2))
    let a := xorBytes (b.take 8) (be 8 (t + 1))
    if t % 2 = 0 then (a, b.drop 8, x.2.2) else (a, x.2.1, b.drop 8))
    (List.replicate 8 0xA6#8, be 8 (k.toNat / 2 ^ 64), be 8 (k.toNat % 2 ^ 64))
  r.1 ++ r.2.1 ++ r.2.2

/-- The AES key unwrap; none where its check fails. -/
def keyUnwrap (kek : BitVec 128) (w : List Byte) : Option (BitVec 128) :=
  let key := be 16 kek.toNat
  let r := (List.range 12).reverse.foldl (fun (x : List Byte × List Byte × List Byte) t =>
    let b := aesInverse key (xorBytes x.1 (be 8 (t + 1)) ++ (if t % 2 = 0 then x.2.1 else x.2.2))
    if t % 2 = 0 then (b.take 8, b.drop 8, x.2.2) else (b.take 8, x.2.1, b.drop 8))
    (w.take 8, slice 8 8 w, slice 16 8 w)
  if r.1 = List.replicate 8 0xA6#8 then some (word128 (r.2.1 ++ r.2.2)) else none

/-! ### P-256 (FIPS 186-5, SEC 1) -/

/-- The prime of the field. -/
def p256 : Nat := 0xffffffff00000001000000000000000000000000ffffffffffffffffffffffff
/-- The order of the base point. -/
def n256 : Nat := 0xffffffff00000000ffffffffffffffffbce6faada7179e84f3b9cac2fc632551
/-- The constant term of the curve. -/
def b256 : Nat := 0x5ac635d8aa3a93e7b3ebbd55769886bc651d06b0cc53b0f63bce3c3e27d2604b
/-- The base point. -/
def g256 : Nat × Nat :=
  (0x6b17d1f2e12c4247f8bce6e563a440f277037d812deb33a0f4a13945d898c296,
   0x4fe342e2fe1a7f9b8ee7eb4a7c0f9e162bce33576b315ececbb6406837bf51f5)

/-- A power modulo `m`, by the exponent's 256 bits. -/
def powMod (m x e : Nat) : Nat :=
  (List.range 256).reverse.foldl (fun r i => let q := r * r % m; if e.testBit i then q * x % m else q) 1

/-- The inverse modulo a prime. -/
def invMod (m x : Nat) : Nat := powMod m (x % m) (m - 2)

/-- The sum of two points; none is the point at infinity. -/
def ecAdd (p q : Option (Nat × Nat)) : Option (Nat × Nat) :=
  match p, q with
  | none, q => q
  | p, none => p
  | some (x1, y1), some (x2, y2) =>
    if x1 = x2 ∧ (y1 + y2) % p256 = 0 then none
    else
      let l := if x1 = x2 then (3 * x1 * x1 + p256 - 3) % p256 * invMod p256 (2 * y1) % p256
        else (y2 + p256 - y1) % p256 * invMod p256 (x2 + p256 - x1) % p256
      let x3 := (l * l + 2 * p256 - x1 - x2) % p256
      some (x3, (l * (x1 + p256 - x3) + p256 - y1) % p256)

/-- A multiple of a point. -/
def ecMul (k : Nat) (p : Option (Nat × Nat)) : Option (Nat × Nat) :=
  (List.range 256).reverse.foldl (fun r i => let d := ecAdd r r; if k.testBit i then ecAdd d p else d) none

/-- A point as 65 bytes, uncompressed. -/
def pointBytes (p : Nat × Nat) : List Byte := [4#8] ++ be 32 p.1 ++ be 32 p.2

/-- The point 65 bytes spell, where it lies on the curve. -/
def pointOf (b : List Byte) : Option (Nat × Nat) :=
  let x := ofBe (slice 1 32 b)
  let y := ofBe (slice 33 32 b)
  if b.length = 65 ∧ at8 b 0 = 4#8 ∧ x < p256 ∧ y < p256 ∧ y * y % p256 = (x * x % p256 * x + (p256 - 3) * x + b256) % p256 then
    some (x, y) else none

/-- A private key from a drawn number: 1 to the order less one. -/
def secretOf (x : Nat) : Nat := 1 + x % (n256 - 1)

/-- The public key of a private one, uncompressed. -/
def publicKey (d : Nat) : List Byte := ((ecMul d (some g256)).map pointBytes).getD []

/-- The ECDH shared secret's x-coordinate; none where the other side's key is no point of the curve. -/
def sharedX (d : Nat) (pub : List Byte) : Option (BitVec 256) :=
  (pointOf pub).bind (fun p => (ecMul d (some p)).map (fun q => BitVec.ofNat 256 q.1))

/-- An ECDSA signature with SHA-256, r then s, under a private key and a nonce. -/
def ecdsaSignWith (d k : Nat) (m : List Byte) : List Byte :=
  let r := ((ecMul k (some g256)).map (·.1)).getD 0 % n256
  let s := invMod n256 k * ((sha256 m).toNat + r * d) % n256
  be 32 r ++ be 32 s

/-- Whether an ECDSA signature, r then s, verifies under a public key over a message (R262, R266). -/
def ecdsaVerify (pub sig m : List Byte) : Bool :=
  let r := ofBe (slice 0 32 sig)
  let s := ofBe (slice 32 32 sig)
  match pointOf pub with
  | none => false
  | some q =>
    if r = 0 ∨ n256 ≤ r ∨ s = 0 ∨ n256 ≤ s then false
    else
      let w := invMod n256 s
      match ecAdd (ecMul ((sha256 m).toNat % n256 * w % n256) (some g256)) (ecMul (r * w % n256) (some q)) with
      | some (x, _) => x % n256 == r
      | none => false

/-! ### The keys of the device (Table 11.3, R262, R264) -/

/-- The salt of the tenant derivations. -/
def saltTenant : List Byte := ascii "SKOAX TENANT"

/-- Tenant SAK. -/
def tenantSak (tk : BitVec 128) (t : Nat) (eui : BitVec 48) (port : BitVec 16) : BitVec 128 :=
  word128 (hkdf saltTenant (be 16 tk.toNat) (ascii "SKOAX SAK" ++ be 1 t ++ be 6 eui.toNat ++ be 2 port.toNat) 16)

/-- AK of tenant 0. -/
def announceKey (tk : BitVec 128) : BitVec 128 := word128 (hkdf saltTenant (be 16 tk.toNat) (ascii "SKOAX ANNOUNCE") 16)

/-- Announcement SAK. -/
def announceSak (ak : BitVec 128) (eui : BitVec 48) (port : BitVec 16) : BitVec 128 := tenantSak ak 0 eui port

/-- The salt of an exchange: SHA-256 of the window body and the join body. -/
def pairingSalt (w j : List Byte) : List Byte := sha256Bytes (w ++ j)

/-- Pairing KEK. -/
def pairingKek (w j : List Byte) (x : BitVec 256) : BitVec 128 := word128 (hkdf (pairingSalt w j) (be 32 x.toNat) (ascii "SKOAX KEK") 16)

/-- Pairing MAC key. -/
def pairingMacKey (w j : List Byte) (x : BitVec 256) : BitVec 256 :=
  BitVec.ofNat 256 (ofBe (hkdf (pairingSalt w j) (be 32 x.toNat) (ascii "SKOAX MAC") 32))

/-- First 16 bytes of HMAC-SHA-256 under a MAC key. -/
def hmac16 (key : BitVec 256) (m : List Byte) : List Byte := (hmac (be 32 key.toNat) m).take 16

/-- The identity private key of the factory (R264). -/
def identitySecret : Nat := secretOf Config.identitySeed

/-- The identity public key, uncompressed (R264). -/
def identityKey : List Byte := publicKey identitySecret

/-- The fingerprint of a public key: the first 8 bytes of its SHA-256 (R264). -/
def fingerprint (pub : List Byte) : List Byte := (sha256Bytes pub).take 8

/-- A signature under the identity key, its nonce a number no rule fixes (R262, R264). -/
def ecdsaSign (m : List Byte) : List Byte := ecdsaSignWith identitySecret (secretOf (Config.signNonce m)) m

/-- The n-th ephemeral public key drawn (R262). -/
def ephemeralKey (n : Nat) : List Byte := publicKey (secretOf (Config.ephemeralSeed n))

/-- The shared secret of the n-th ephemeral key and another side's public key; zero of a key that is no point, which no signature
covers (R262). -/
def ecdh (n : Nat) (pub : List Byte) : BitVec 256 := (sharedX (secretOf (Config.ephemeralSeed n)) pub).getD 0#256

end Sys2Proof.Machine
end

