-- ==== Sys2Proof/Machine/Wire.lean ====
section
/-! DEFINITION. A network frame as its bytes, in network byte order (R8, R180, R181, R182, R245), and the ICV over them. -/

namespace Sys2Proof.Machine

open Sys2Proof

/-- A flag as a bit of a byte. -/
def flagAt (b : Bool) (i : Nat) : Nat := if b then 2 ^ i else 0

/-- Bytes of a sample in an AAF format (Table 8.5). -/
def formatBytes (format : Nat) : Option Nat :=
  match format with
  | 2 => some 4 | 3 => some 3 | 4 => some 2 | _ => none

/-- The AAF header and samples, each field where IEEE 1722-2016 places it (R181). -/
def aafBytes (a : Aaf) : List Byte :=
  be 1 a.subtype.toNat ++ be 1 (flagAt a.sv 7 + a.version % 8 * 16 + flagAt a.mr 3 + flagAt a.tv 0) ++ be 1 a.seqNum.toNat
  ++ be 1 (flagAt a.tu 0) ++ be 6 a.streamEui.toNat ++ be 2 a.streamLow.toNat ++ be 4 a.ts.toNat
  ++ be 1 a.format ++ be 2 (a.nsr % 16 * 4096 + a.channels % 1024) ++ be 1 a.bitDepth ++ be 2 a.dataLen
  ++ be 1 (flagAt a.sp 4 + a.evt % 16) ++ [0#8]
  ++ a.samples.flatMap (fun r => r.flatMap (beInt ((formatBytes a.format).getD 3)))

/-- The CRF header and its timestamp, each field where IEEE 1722-2016 places it (R182). -/
def crfBytes (c : Crf) : List Byte :=
  be 1 c.subtype.toNat ++ be 1 (flagAt c.sv 7 + c.version % 8 * 16 + flagAt c.mr 3 + flagAt c.fs 1 + flagAt c.tu 0)
  ++ be 1 c.seqNum.toNat ++ be 1 c.type_ ++ be 6 c.streamEui.toNat ++ be 2 c.streamLow.toNat
  ++ be 4 (c.pull % 8 * 2 ^ 29 + c.base % 2 ^ 29) ++ be 2 c.dataLen ++ be 2 c.interval ++ be 8 c.stamp

/-- The R-TAG, where a frame has one (R180). -/
def rtagBytes : Option (BitVec 16) → List Byte
  | some n => [0xF1#8, 0xC1#8, 0#8, 0#8] ++ be 2 n.toNat
  | none => []

/-- What a gPTP message carries, each field in network byte order and in the order of its declaration: IEEE 802.1AS has the layout,
which the spec does not repeat (log entry 145). -/
def gptpBytes : GptpMsg → List Byte
  | .sync seq origin => be 2 seq.toNat ++ be 8 origin
  | .announce seq v => be 2 seq.toNat ++ be 1 v.priority1 ++ be 1 v.clockClass ++ be 1 v.accuracy ++ be 2 v.variance
      ++ be 1 v.priority2 ++ be 8 v.identity.toNat ++ be 2 v.steps ++ be 8 v.sender.toNat ++ be 1 v.timeSource
  | .pdelayReq seq => be 2 seq.toNat
  | .pdelayResp seq rx tx => be 2 seq.toNat ++ be 8 rx ++ be 8 tx

/-- A frame's bytes after its tags, in clear: what the SecTAG covers (R180, R245). -/
def bodyBytes : FrameBody → List Byte
  | .gptp m => [0x88#8, 0xF7#8] ++ gptpBytes m
  | .aaf r a => rtagBytes r ++ [0x22#8, 0xF0#8] ++ aafBytes a
  | .crf r c => rtagBytes r ++ [0x22#8, 0xF0#8] ++ crfBytes c
  | .bytes e b => be 2 e.toNat ++ b

/-- The SecTAG (Table 11.2). -/
def tagBytes (g : SecTag) : List Byte :=
  [0x88#8, 0xE5#8] ++ be 1 g.tci.toNat ++ be 1 g.sl.toNat ++ be 4 g.pn ++ be 6 g.sciEui.toNat ++ be 2 g.sciPort.toNat

/-- Both addresses. -/
def addressBytes (f : NetFrame) : List Byte := be 6 f.dst.toNat ++ be 6 f.src.toNat

/-- The 802.1Q tag, where a frame has one (R180). -/
def vlanBytes : Option (Nat × Nat) → List Byte
  | some (pcp, v) => [0x81#8, 0#8] ++ be 2 (pcp * 8192 + v)
  | none => []

/-- How many bytes after the SecTAG stay in clear: the confidentiality offset (R245). -/
def clearBytes : Nat := 30

/-- GCM-AES-128 over a frame with a SecTAG (R244, R245): the IV is the SCI and the PN; the addresses, the SecTAG and the first 30
bytes after it are covered in clear, what follows is enciphered. The 802.1Q tag stands before the SecTAG and is not covered (log
entry 145). -/
def sealed (sak : BitVec 128) (f : NetFrame) (g : SecTag) : List Byte × BitVec 128 :=
  let b := bodyBytes f.body
  let iv := be 6 g.sciEui.toNat ++ be 2 g.sciPort.toNat ++ be 4 g.pn
  gcm (be 16 sak.toNat) iv (addressBytes f ++ tagBytes g ++ b.take clearBytes) (b.drop clearBytes)

/-- The ICV of a frame with a SecTAG. -/
def icvOf (sak : BitVec 128) (f : NetFrame) (g : SecTag) : BitVec 128 := (sealed sak f g).2

/-- A frame's bytes on the wire before the FCS, given the key of its secure channel where it has one (R8, R180). -/
def wireBytes (sak : BitVec 128) (f : NetFrame) : List Byte :=
  match f.sec with
  | none => addressBytes f ++ vlanBytes f.vlan ++ bodyBytes f.body
  | some g =>
    addressBytes f ++ vlanBytes f.vlan ++ tagBytes g ++ (bodyBytes f.body).take clearBytes ++ (sealed sak f g).1 ++ be 16 g.icv.toNat

/-- The FCS: the CRC-32 of R219 over the bytes before it, least significant byte first. -/
def wireWithFcs (sak : BitVec 128) (f : NetFrame) : List Byte :=
  let w := wireBytes sak f
  w ++ le 4 (crc32 w).toNat

end Sys2Proof.Machine
end

