-- ==== Sys2Proof/Machine/Ops.lean ====
section
/-! DEFINITION. The operations every command shares: time, frames out, Fumarole frames, faults, LEDs, the ash log. -/

namespace Sys2Proof.Machine

open Sys2Proof

/-- The outcome of a command. -/
abbrev Result := Host.Outcome State Fault Refusal

/-- One nanosecond count for a second. -/
def sec1 : Nat := 1000000000
/-- Nanoseconds of a millisecond. -/
def ms1 : Nat := 1000000

/-- A value changed only where a condition holds. -/
def onlyIf {α : Type} (b : Bool) (f : α → α) (x : α) : α := if b then f x else x

/-! ### Time -/

/-- Device time after `dt` ns of REF (R84, R173, R175): while the core die is powered down at the always-on oscillator's rate;
else at the correction in force, which moves toward its goal at 2 ppm/s, two units of 10^-15 each nanosecond. -/
def Gptp.tick (dt : Nat) (g : Gptp) : Gptp :=
  let d := g.rateGoal - g.rate
  let k := min dt (d.natAbs / 2)
  let run : Int := match g.aoPpb with
    | some x => dt * (1000000000000000 + x * 1000000)
    | none => dt * 1000000000000000 + g.rate * k + d.sign * (k * k : Nat) + g.rateGoal * (dt - k : Nat)
  let rate := if g.aoPpb.isSome then g.rate else if d.natAbs / 2 < dt then g.rateGoal else g.rate + d.sign * (2 * k : Nat)
  let n := g.frac + run.toNat
  { g with time := (g.time + n / 1000000000000000) % 2 ^ 64, frac := n % 1000000000000000, rate := rate }

/-- Nanoseconds of REF until device time reaches `t`; 0 where it is past. Five steps of the secant bring the estimate, which is
off by no more than the 200 ppm of the rate to begin with, to the nanosecond; the last two make sure that `t` is reached. -/
def Gptp.until_ (t : Nat) (g : Gptp) : Nat :=
  if t ≤ g.time then 0
  else
    let mend (dt : Nat) : Nat := dt + t - (g.tick dt).time
    let bump (dt : Nat) : Nat := if (g.tick dt).time < t then dt + 1 else dt
    bump (bump (mend (mend (mend (mend (mend (t - g.time)))))))

/-- The frames a serial path completes in `spent` ns of line time at `num / den` ns a byte, and the time left over. -/
def drainQueue (num den : Nat) : Nat → List QFrame → List QFrame × Nat
  | _, [] => ([], 0)
  | spent, f :: q =>
    if f.bytes.length * num ≤ spent * den then
      drainQueue num den (spent - (f.bytes.length * num + den - 1) / den) q
    else (f :: q, spent)

/-- A path after `dt` ns of sending (R91, R99, R102). -/
def FuPath.drain (num den dt : Nat) (p : FuPath) : FuPath :=
  let r := drainQueue num den (p.spent + dt) p.queue
  { p with queue := r.1, spent := r.2 }

/-- Samples of a block at a media rate and group position (R27, R328). -/
def blockLen (rate group : Nat) : Nat :=
  if rate = 44100 then (if group = 9 then 45 else 44)
  else if rate = 88200 then (if group = 4 then 89 else 88)
  else if rate = 96000 then 96 else 48

/-- Group positions of a rate. -/
def groupSize (rate : Nat) : Nat := if rate = 44100 then 10 else if rate = 88200 then 5 else 1

/-- Samples of the present block. -/
def thisLen (s : State) : Nat := blockLen s.well.rate s.blocks.group

/-- A biphase output's frames and the path its user bits carry, as they go together. -/
abbrev BpoSend := BpoLine × FuPath

/-- The byte slot that begins: the next unsent byte of the path, or 0x00 (R102). -/
def BpoSend.slot (x : BpoSend) : BpoSend :=
  match x.2.queue with
  | f :: _ => ({ x.1 with slots := x.1.slots ++ [(f.bytes[x.2.spent]?).getD 0#8] }, { x.2 with spent := x.2.spent + 1 })
  | [] => ({ x.1 with slots := x.1.slots ++ [0#8] }, x.2)

/-- A byte slot that ends: a frame whose last byte it carried leaves the queue (R102). -/
def FuPath.slotEnd (p : FuPath) : FuPath :=
  match p.queue with
  | f :: q => if f.bytes.length ≤ p.spent then { p with queue := q, spent := 0 } else p
  | [] => p

/-- One frame of a biphase output sent whole; a slot takes four, and the next begins at once (R102). -/
def BpoSend.frame (x : BpoSend) : BpoSend :=
  let l := { x.1 with sent := x.1.sent + 1 }
  if (l.start + l.sent) % 4 = 0 then BpoSend.slot (l, x.2.slotEnd) else (l, x.2)

/-- A biphase output over `dt` ns at a frame rate, at most `n` frames in a data-path block (R280). -/
def BpoSend.run (n rate dt : Nat) (x : BpoSend) : BpoSend :=
  let u := x.1.phase + dt * rate
  let y := iter BpoSend.frame (min (n - x.1.sent) (u / 1000000000)) x
  ({ y.1 with phase := if n ≤ y.1.sent then 0 else u % 1000000000 }, y.2)

/-- The data-path block ends: the output's count of it starts afresh, in the slot under way. -/
def BpoLine.next (l : BpoLine) : BpoLine :=
  { start := (l.start + l.sent) % 192, slots := l.slots.drop (l.slots.length - 1) }

/-- A path whose biphase block breaks off: the byte of a slot not sent whole stays unsent (R102). -/
def BpoSend.broken (x : BpoSend) : FuPath :=
  if x.1.slots.isEmpty then x.2 else { x.2 with spent := x.2.spent - 1 }

/-- A new biphase block begun, its first slot with the next unsent byte (R102, R281). -/
def BpoSend.fresh (x : BpoSend) : BpoSend := BpoSend.slot ({}, x.broken)

/-- A biphase output with its path changed. -/
def Status.setBpo (n : Fin 4) (x : BpoSend) (st : Status) : Status :=
  { st with lines := st.lines.set n x.1, bpo := st.bpo.set n x.2 }

/-- One output of the media clock over `dt` ns. -/
def Status.runBpo (len dt : Nat) (bpo : Vector Bpo 4) (st : Status) (n : Fin 4) : Status :=
  if bpo[n].running && !bpo[n].follow then st.setBpo n (BpoSend.run len bpo[n].rate dt (st.lines[n], st.bpo[n])) else st

/-- STAT at 115 200 baud, ten bits a byte; biphase outputs of the media clock frame by frame, a following one with its input's frames
(R91, R102, R280). -/
def Status.drain (len dt : Nat) (bpo : Vector Bpo 4) (st : Status) : Status :=
  (List.finRange 4).foldl (Status.runBpo len dt bpo) { st with stat := st.stat.drain 781250 9 dt }

/-- Wire time of a frame with its preamble and gap, in ns (R192). -/
def frameNs (gigabit : Bool) (f : NetFrame) : Nat := (f.octets + 20) * (if gigabit then 8 else 80)

/-- Class A credit after `k` ns, in thousandths of a bit: idleSlope 75 % of the port rate (R191). -/
def Port.creditAfter (p : Port) (k : Nat) : Int :=
  let idle : Int := if p.gigabit then 750 else 75
  let send : Int := if p.gigabit then 250 else 25
  if p.busyA && decide (p.busy > 0) then max (-3044000) (p.credit - send * k)
  else if p.classA.isEmpty then (if p.credit < 0 then min 0 (p.credit + idle * k) else 0)
  else min 9132000 (p.credit + idle * k)

/-- The kind and tenant digits of a destination in 91:E0:F0:00:00:00 to 91:E0:F0:00:FF:FF (R177). -/
def dstByte (d : BitVec 48) (i : Nat) : Nat := d.toNat / 256 ^ (5 - i) % 256
/-- Stream kind of a destination. -/
def dstKind (d : BitVec 48) : Nat := dstByte d 4 % 16
/-- Tenant of a destination. -/
def dstTenant (d : BitVec 48) : Nat := dstByte d 4 / 16
/-- NN of a destination. -/
def dstNode (d : BitVec 48) : Nat := dstByte d 5
/-- Whether a destination lies in the device's multicast range (R18). -/
def dstInRange (d : BitVec 48) : Bool := decide (d.toNat / 65536 = 0x91E0F000)
/-- A destination address of a tenant, kind and node (Table 8.4). -/
def dstOf (t k nn : Nat) : BitVec 48 := BitVec.ofNat 48 (0x91E0F0000000 + (t * 16 + k) * 256 + nn)

/-- A device time within 80 ms of a beacon instant of a tenant (R168). -/
def nearBeacon (time t : Nat) : Bool :=
  let x := (time + 8 * sec1 - t * 62500000 % (8 * sec1)) % (8 * sec1)
  decide (x ≤ 80 * ms1) || decide (8 * sec1 - 80 * ms1 ≤ x)

/-- Whether a port sends a frame that begins at a device time: toward a sleeping partner only one of kind 4 near a beacon instant
(R168). -/
def Port.takes (p : Port) (time : Nat) (f : NetFrame) : Bool :=
  !p.asleep || (dstInRange f.dst && dstKind f.dst == 4 && nearBeacon time (dstTenant f.dst))

/-- A gPTP message as it leaves at a device time: what it says of its own transmission is taken as its first bit goes out
(R119). -/
def stampedMsg (time : Nat) : GptpMsg → GptpMsg
  | .sync q _ => .sync q time
  | .pdelayResp q rx _ => .pdelayResp q rx time
  | m => m

/-- A frame as it leaves at a device time. -/
def stampedFrame (time : Nat) (f : NetFrame) : NetFrame :=
  match f.body with
  | .gptp m => { f with body := .gptp (stampedMsg time m) }
  | _ => f

/-- A frame begun on the wire at a device time, or at once discarded toward a sleeping partner. Without PHY link its time passes all
the same, and nothing is sent (R119, R158, R168). -/
def Port.begin_ (time : Nat) (f : NetFrame) (a : Bool) (p : Port) : Port :=
  if !p.takes time f then p
  else
    { p with
      busy := frameNs p.gigabit f, busyA := a
      wire := if p.phy then some (stampedFrame time f) else none
      pdelaySent := match f.body with
        | .gptp (.pdelayReq _) => some time
        | _ => p.pdelaySent }

/-- A port's egress over `dt` ns that begin `el` ns after the instant at which `clock` is 0, at most `fuel` events: gPTP first, then
class A while its credit allows, then best effort; a port without PHY link discards at the same rate (R158, R164, R191). -/
def Port.drain (clock : Nat → Nat) : Nat → Nat → Nat → Port → Port
  | 0, _, _, p => p
  | n + 1, el, dt, p =>
    if dt = 0 then p
    else if p.busy > 0 then
      let k := min dt p.busy
      Port.drain clock n (el + k) (dt - k) { p with busy := p.busy - k, credit := p.creditAfter k }
    else
      match p.gptpQ, p.classA, p.best with
      | f :: q, _, _ =>
        Port.drain clock n el dt (Port.begin_ (clock el) f false { p with gptpQ := q ++ p.wait.take 1, wait := p.wait.drop 1 })
      | [], f :: q, [] =>
        if 0 ≤ p.credit then Port.drain clock n el dt (Port.begin_ (clock el) f true { p with classA := q })
        else
          let idle := if p.gigabit then 750 else 75
          let k := min dt ((p.credit.natAbs + idle - 1) / idle)
          Port.drain clock n (el + k) (dt - k) { p with credit := p.creditAfter k }
      | [], f :: q, g :: r =>
        if 0 ≤ p.credit then Port.drain clock n el dt (Port.begin_ (clock el) f true { p with classA := q })
        else Port.drain clock n el dt (Port.begin_ (clock el) g false { p with best := r })
      | [], [], g :: r => Port.drain clock n el dt (Port.begin_ (clock el) g false { p with best := r })
      | [], [], [] => { p with credit := p.creditAfter dt }

/-- Enough events for every queued frame: its start, its end and a wait for credit. -/
def Port.events (p : Port) : Nat := 4 * (p.gptpQ.length + p.wait.length + p.classA.length + p.best.length) + 4

/-- Time passes: device time runs, the serial paths and the ports send. -/
def State.advance (dt : Nat) (s : State) : State :=
  { s with
    now := s.now + dt
    gptp := s.gptp.tick dt
    status := s.status.drain (thisLen s) dt s.bpo
    ports := Vector.ofFn (fun i => s.ports[i].drain (fun k => (s.gptp.tick k).time) s.ports[i].events 0 dt) }

/-- Time moves on to instant `t`, never back. -/
def State.upTo (t : Nat) (s : State) : State := s.advance (t - s.now)

/-- Time moves on until device time reaches `t`, never back. -/
def State.upToDevice (t : Nat) (s : State) : State := s.advance (s.gptp.until_ t)

/-- The instant at which device time reaches `t`; now where it is past. -/
def whenDevice (s : State) (t : Nat) : Nat := s.now + s.gptp.until_ t

/-- Width of the window that follows a number of missed windows, in ns: 10 ms, then 20, 40, 80 and 160 ms, then 2 s (R86, R87). -/
def windowWidth (missed : Nat) : Nat := if missed = 0 then 10 * ms1 else if missed ≤ 4 then 10 * 2 ^ missed * ms1 else 2 * sec1

/-! ### Crossing queues (R115 to R125) -/

/-- Words a crossing queue holds at most: 64, the least the spec allows (R120, log entry 126). -/
def crossDepth : Nat := 64

/-- Words that arrive at a crossing queue which SYS does not drain: what does not fit is dropped and counted (R120). -/
def Crossing.arrive (n : Nat) (c : Crossing) : Crossing :=
  { words := min crossDepth (c.words + n), drops := c.drops + (c.words + n - crossDepth) }

/-- SYS has stopped: the core PLL was found lost, and the reset waits for its acknowledgement (R120, R123). -/
def sysStopped (s : State) : Bool := s.aon.clockReset && s.aon.lost.getLsbD 2

/-- Words that arrive on a wire through a crossing queue: SYS takes them all as they come and works on them, or, having stopped,
leaves them to fill the queue (R120). -/
def crossIn (q : Fin 10) (words : Nat) (work : State → State) (s : State) : State :=
  if sysStopped s then { s with cross := s.cross.set q (s.cross[q].arrive words) } else work s

/-- A word offered to a queue written from inside the device: none where the queue is full and its writer stalls in its own
domain (R120). -/
def offerWord {α : Type} (depth : Nat) (x : α) (q : List α) : Option (List α) :=
  if q.length < depth then some (q ++ [x]) else none

/-- A reader of a crossing queue: the oldest word and the rest, or, of an empty queue, no word at all: an audio framer conceals that
sample, any other reader waits (R121). -/
def takeWord {α : Type} (q : List α) : Option (α × List α) :=
  match q with
  | [] => none
  | x :: l => some (x, l)

/-! ### Frames out of the ports -/

/-- Whether a frame is of class A: PCP 3 (R164). -/
def isClassA (f : NetFrame) : Bool := match f.vlan with | some (pcp, _) => pcp == 3 | none => false

/-- Room for a frame in its egress class queue: 64 frames a class (Table 19.8). -/
def Port.room (p : Port) (f : NetFrame) : Bool :=
  match f.body with
  | .gptp _ => decide (p.gptpQ.length < 64)
  | _ => if isClassA f then decide (p.classA.length < 64) else decide (p.best.length < 64)

/-- A frame put into its egress class queue; a full queue discards it (R164). -/
def Port.put (f : NetFrame) (p : Port) : Port :=
  if !p.room f then p
  else
    match f.body with
    | .gptp _ => { p with gptpQ := p.gptpQ ++ [f] }
    | _ => if isClassA f then { p with classA := p.classA ++ [f] } else { p with best := p.best ++ [f] }

/-- Whether every port that would take an own frame has room for it. -/
def allRoom (ps : Vector Port 2) (f : NetFrame) : Bool := ps.toList.all (fun p => !p.up || p.room f)

/-- An own frame put on every linked port (R208). -/
def putLinked (ps : Vector Port 2) (f : NetFrame) : Vector Port 2 := ps.map (fun p => onlyIf p.up (Port.put f) p)

/-- A frame of a stream the device talks. -/
def isTalker (f : NetFrame) : Bool :=
  match f.body with
  | .aaf _ _ | .crf _ _ => true
  | _ => false

/-- A frame that waits is discarded: a talker frame whose buffer slot is needed again, 2 ms after it was written (R423). -/
def slotGone (now : Nat) (x : Nat × NetFrame) : Bool := isTalker x.2 && decide (x.1 + 2 * ms1 ≤ now)

/-- The own frames that wait, put on the ports in order while there is room; talker frames too old for their slots are discarded. -/
def unstall (now : Nat) : List (Nat × NetFrame) → Vector Port 2 → List (Nat × NetFrame) × Vector Port 2
  | [], ps => ([], ps)
  | f :: q, ps =>
    if slotGone now f then unstall now q ps
    else if allRoom ps f.2 then unstall now q (putLinked ps f.2)
    else ((f :: q).filter (fun x => !slotGone now x), ps)

/-- An own frame handed to NET-TX: onto every linked port, or waiting where a class queue is full (R164, R208). -/
def sendOwn (f : NetFrame) (s : State) : State :=
  let r := unstall s.now (s.streams.stall ++ [(s.now, f)]) s.ports
  { s with ports := r.2, streams := { s.streams with stall := r.1 } }

/-- A frame forwarded to a port: dropped where its egress class queue is full (R164). -/
def forwardTo (i : Fin 2) (f : NetFrame) (s : State) : State := { s with ports := s.ports.set i (Port.put f s.ports[i]) }

/-- An own frame for one port only, a gPTP message: where its class queue is full it waits in order (R164, R171). -/
def Port.putOwn (f : NetFrame) (p : Port) : Port :=
  if p.wait.isEmpty && p.room f then Port.put f p else { p with wait := p.wait ++ [f] }

/-- An own frame sent out of one port only (R171). -/
def sendPort (i : Fin 2) (f : NetFrame) (s : State) : State := { s with ports := s.ports.set i (s.ports[i].putOwn f) }

/-! ### Protection of own frames (chapter 11) -/

/-- A valid slot's contents. -/
def KeySlot.data : KeySlot → Option KeyData
  | .valid d => some d
  | _ => none

/-- The key in force (R251). -/
def keyInForce (s : State) : Option KeyData := s.sec.inForce.bind (fun i => s.sec.slots[i].data)

/-- The port identifier of a channel (Table 11.1). -/
def portId (ann : Bool) (slot epoch : Nat) : BitVec 16 :=
  BitVec.ofNat 16 ((if ann then 32768 else 0) + slot * 4096 + epoch)

/-- A channel after one packet number is used: PN 0 is skipped, and the next block is entered once the present one is
used up and the next block's record is committed (R248). -/
def PnChannel.use (c : PnChannel) : PnChannel :=
  let n := c.pn + 1
  if n < (c.block + 1) * 1048576 then { c with pn := n }
  else if c.nextReady then
    (if c.block < 4095 then { c with pn := n, block := c.block + 1, nextReady := false }
     else { c with pn := 1, block := 0, epoch := c.epoch + 1, nextReady := false })
  else { c with ready := false }

/-- The next packet number: never 0 (R248). -/
def PnChannel.number (c : PnChannel) : Nat := max 1 c.pn

/-- A frame with its SecTAG and ICV (R245). -/
def protect (sak : BitVec 128) (eui : BitVec 48) (port : BitVec 16) (pn : Nat) (f : NetFrame) : NetFrame :=
  let len := f.octets - 20
  let tag : SecTag := { sl := BitVec.ofNat 8 (if len < 48 then len else 0), pn := pn, sciEui := eui, sciPort := port }
  let g := { f with sec := some tag, octets := f.octets + 32 }
  { g with sec := some { tag with icv := icvOf sak g tag } }

/-- A frame protected in the tenant channel and sent on every linked port; nothing is sent without a key in force or
while no reservation is committed (R244, R250, R254). -/
def sendTenant (f : NetFrame) (s : State) : State :=
  match s.sec.inForce, keyInForce s with
  | some i, some d =>
    if s.sec.tenantChan.ready then
      let c := { s.sec.tenantChan with pn := s.sec.tenantChan.number }
      let port := portId false i.val c.epoch
      let g := protect (tenantSak d.tk (tenant s) s.eui48 port) s.eui48 port c.pn f
      sendOwn g { s with sec := { s.sec with tenantChan := c.use } }
    else s
  | _, _ => s

/-- A frame protected in the announcement channel under AK and sent on every linked port. -/
def sendAnnounce (f : NetFrame) (s : State) : State :=
  match s.sec.inForce, s.sec.ak with
  | some i, some ak =>
    if s.sec.annChan.ready then
      let c := { s.sec.annChan with pn := s.sec.annChan.number }
      let port := portId true i.val c.epoch
      let g := protect (announceSak ak s.eui48 port) s.eui48 port c.pn f
      sendOwn g { s with sec := { s.sec with annChan := c.use } }
    else s
  | _, _ => s

/-- A pairing frame, protected under the public pairing SAK (R244, R247). -/
def sendPairing (f : NetFrame) (s : State) : State :=
  sendOwn (protect 0#128 s.eui48 0x7FFF#16 (s.freeCtr + 1) f) { s with freeCtr := s.freeCtr + 1 }

/-- The VLAN of a tenant (R177). -/
def vlanOf (t : Nat) : Nat := 768 + t

/-- An own frame of an EtherType with its body, before protection: padded to the minimum frame size (R103, R261). -/
def ownFrame (s : State) (k nn pcp : Nat) (etherType : BitVec 16) (body : List Byte) : NetFrame :=
  let b := body ++ List.replicate (42 - body.length) 0#8
  { dst := dstOf (tenant s) k nn, src := s.eui48, vlan := some (pcp, vlanOf (tenant s)), sec := none,
    body := .bytes etherType b, octets := 22 + b.length }

/-! ### Fumarole frames (chapter 4) -/

/-- A Fumarole frame: two sync bytes, type, length, payload and CRC-16 (R92). -/
def fuFrame (kind : Nat) (payload : List Byte) : List Byte :=
  let c := BitVec.ofNat 8 kind :: BitVec.ofNat 8 payload.length :: payload
  [0xC3#8, 0x3C#8] ++ c ++ be 2 (crc16 c).toNat

/-- Heartbeat and telemetry frames are the ones a full path drops (R100). -/
def droppable (f : QFrame) : Bool := f.kind == 0x10 || f.kind == 0x70

/-- Bytes of a list of frames. -/
def queueBytes (q : List QFrame) : Nat := (q.map (fun f => f.bytes.length)).foldl (· + ·) 0

/-- The oldest droppable frame taken out. -/
def dropOldest : List QFrame → List QFrame
  | [] => []
  | f :: q => if droppable f then q else f :: dropOldest q

/-- Droppable frames displaced, oldest first, until `room` bytes are free in 4 KiB (R100). -/
def displace (room : Nat) : Nat → List QFrame → List QFrame
  | 0, q => q
  | n + 1, q => if queueBytes q + room ≤ 4096 then q else displace room n (dropOldest q)

/-- A generated frame offered to an open path (R100). -/
def FuPath.put (f : QFrame) (p : FuPath) : FuPath :=
  let fits := decide (queueBytes p.queue + f.bytes.length ≤ 4096)
  if droppable f then
    (if !fits then p
     else if p.waiting.isEmpty then { p with queue := p.queue ++ [f] }
     else { p with waiting := p.waiting ++ [f] })
  else if !p.waiting.isEmpty then { p with waiting := p.waiting ++ [f] }
  else
    let sending := if p.spent > 0 then p.queue.take 1 else []
    let rest := if p.spent > 0 then p.queue.drop 1 else p.queue
    let q := sending ++ displace (f.bytes.length + queueBytes sending) rest.length rest
    if queueBytes q + f.bytes.length ≤ 4096 then { p with queue := q ++ [f] }
    else { p with queue := q, waiting := [f] }

/-- Waiting frames that fit, moved into the queue with those behind them (R100). -/
def FuPath.enter : List QFrame → List QFrame → List QFrame × List QFrame
  | q, [] => (q, [])
  | q, f :: w => if queueBytes q + f.bytes.length ≤ 4096 then FuPath.enter (q ++ [f]) w else (q, f :: w)

/-- Whether the device is out of reset. -/
def awake (s : State) : Bool := s.start.phase == .active
/-- The device is awake: out of reset and, in SLUMBER, not powered down. -/
def powered (s : State) : Bool := awake s && !s.sleep.down
/-- Whether the device runs in a mode. -/
def inMode (m : Mode) (s : State) : Bool := s.start.mode == some m
/-- Whether frames still leave in SLUMBER: those queued at its entry (R84). -/
def notAsleep (s : State) : Bool := !inMode .slumber s || s.sleep.draining

/-- The device acts as leader: in LEADER, or in a SLUMBER entered from it. -/
def actsLeader (s : State) : Bool := inMode .leader s || (inMode .slumber s && s.start.left == some .leader)

/-- The node used as LL: the own node of a leader, in SAFE too; the leader's node on a partner acting as leader; else the
node learned (R79, R103, R215). -/
def fumaroleNode (s : State) : Option Nat :=
  if actsLeader s && strappedPartner (role s) then some ((s.red.pair.map (fun r => r.node.toNat)).getD (node s))
  else if actsLeader s || (inMode .safe s && strappedLeader (role s)) then some (node s)
  else s.status.leaderNode.map (·.toNat)

/-- STAT is open (Table 4.3). -/
def statOpen (s : State) : Bool := awake s && notAsleep s
/-- A biphase path is open (Table 4.3). -/
def bpoPathOpen (s : State) (n : Fin 4) : Bool :=
  awake s && s.status.bpoOpen && !inMode .slumber s && !bpoUsed s.routing.profile.val n
/-- The network path is open (Table 4.3), but for a start, whose frames go on STAT only; SOLO has it too, under Tables 3.1 and 4.3
(log entry 127). -/
def netOpen (s : State) : Bool :=
  awake s && s.start.mode.isSome && notAsleep s && (fumaroleNode s).isSome && (keyInForce s).isSome

/-- The common header and the rest of a payload (R94). -/
def withHeader (s : State) (tail : List Byte) : List Byte :=
  [BitVec.ofNat 8 (tenant s), BitVec.ofNat 8 (node s)] ++ be 2 s.status.counter.toNat ++ tail

/-- A frame generated: the counter counts, and every open path is offered the frame (R94, R101). -/
def genFrame (kind : Nat) (tail : List Byte) (s : State) : State :=
  let f : QFrame := ⟨kind, fuFrame kind (withHeader s tail)⟩
  { s with status :=
    { s.status with
      counter := s.status.counter + 1
      stat := onlyIf (statOpen s) (FuPath.put f) s.status.stat
      bpo := Vector.ofFn (fun i => onlyIf (bpoPathOpen s i) (FuPath.put f) s.status.bpo[i])
      net := onlyIf (netOpen s) (FuPath.put f) s.status.net } }

/-- Whether the network path may hand on a frame: the tenant channel may send, and no own frame waits for room (R100, R250). -/
def pumpReady (s : State) : Bool := s.sec.tenantChan.ready && s.streams.stall.isEmpty && (keyInForce s).isSome

/-- The queued network frames handed to NET-TX in order while it takes them; the rest stay queued (R99, R100, R103). -/
def pumpFrames (nn : Nat) : List QFrame → State → State
  | [], s => { s with status := { s.status with net := { s.status.net with queue := [], spent := 0 } } }
  | f :: q, s =>
    if pumpReady s then pumpFrames nn q (sendTenant (ownFrame s 4 nn 0 0x88B5#16 f.bytes) s)
    else { s with status := { s.status with net := { s.status.net with queue := f :: q, spent := 0 } } }

/-- The network path empties into the ports as far as it may; own frames that wait are retried. -/
def pump (s : State) : State :=
  let r := unstall s.now s.streams.stall s.ports
  let s := { s with ports := r.2, streams := { s.streams with stall := r.1 } }
  match fumaroleNode s with
  | some nn => pumpFrames nn s.status.net.queue s
  | none => s

/-! ### LEDs -/

/-- The active fault LED_FAULT shows: the highest effect code, among equals the most recently raised (R107). -/
def worstActive : List ActiveFault → Option ActiveFault
  | [] => none
  | a :: l =>
    match worstActive l with
    | none => some a
    | some b => if b.effect > a.effect then some b else some a

/-- The code behind LED_FAULT, 0 while it is dark; in SAFE the code R79 names. -/
def ledCode (s : State) : BitVec 16 :=
  if inMode .safe s then s.start.safeCode
  else if s.start.mode.isNone then 0#16
  else ((worstActive s.status.active).map (·.code)).getD 0#16

/-- LED_LINK's pattern (Table 4.7). -/
def linkPattern (s : State) : LinkPat :=
  if s.start.tLatch.isNone then .dark
  else if s.ports.toList.any (fun p => p.enabled && (p.diag == .open || p.diag == .short)) then .fast
  else if s.ports.toList.any (·.up) then (if s.gptp.synced then .lit else .slow)
  else .dark

/-- LED_ROLE's pattern (Table 4.7). -/
def rolePattern (s : State) : RolePat :=
  match s.start.mode with
  | none | some .slumber | some .safe => .dark
  | some m =>
    if s.sec.pairing.open_ then .fast
    else match m with
      | .member => .one
      | .leader => .two
      | .partner => .three
      | _ => .lit

/-- LED_FAULT's class, none when dark (Table 4.7). -/
def faultPattern (s : State) : Option (Fin 16) := if ledCode s = 0#16 then none else some (faultClass (ledCode s))

/-- The LEDs brought up to date: a changed pattern starts its cycle now (R107). -/
def refreshLeds (s : State) : State :=
  let l := s.status.leds
  { s with status := { s.status with leds :=
    { link := linkPattern s, linkAt := if linkPattern s = l.link then l.linkAt else s.now
      role := rolePattern s, roleAt := if rolePattern s = l.role then l.roleAt else s.now
      fault := faultPattern s, faultAt := if faultPattern s = l.fault then l.faultAt else s.now } } }

/-! ### The ash log -/

/-- The entries of the rolling hour that still count (R111). -/
def logHour (s : State) : List Nat := s.log.hour.filter (fun t => decide (s.now < t + 3600 * sec1))

/-- Whether an entry made now will be written: the flash is there, and the rolling hour holds fewer than 600 (R111). -/
def logTakes (s : State) : Bool := !s.mem.flashAbsent && decide ((logHour s).length < 600)

/-- An entry put in the line to be written, unless the rolling hour already holds 600 (R109, R111). -/
def logPut (e : LogEntry) (s : State) : State :=
  let hour := logHour s
  { s with log :=
    if s.mem.flashAbsent then s.log
    else if hour.length < 600 then { s.log with waiting := s.log.waiting ++ [e], hour := s.now :: hour }
    else { s.log with hour := hour, dropped := s.log.dropped + 1 } }

/-- The log after a fault occurrence under the 60 s fold of its code, which follows an entry that was written (R111). -/
def logFaultLog (et : Nat) (code : BitVec 16) (detail : List Byte) (s : State) : AshLog :=
  let live (f : LogFold) : Bool := f.code == code && (decide (s.now < f.until_) || decide (0 < f.count))
  let d := padTo 10 0#8 detail
  if s.log.folds.any live then
    let again (f : LogFold) : LogFold :=
      if f.count = 0 then { f with count := 1, time := et, detail := d, mode := modeCode s.start.mode }
      else { f with count := sat16 (f.count + 1) }
    { s.log with folds := s.log.folds.map (fun f => if live f then again f else f) }
  else
    let l := (logPut { time := et, code := code, kind := 1, mode := modeCode s.start.mode, detail := d } s).log
    let fresh : LogFold := { code := code, until_ := s.now + 60 * sec1 }
    let rest := l.folds.filter (fun f => f.code != code)
    { l with folds := if logTakes s then rest ++ [fresh] else rest }

/-- A fault occurrence logged (R109, R111). -/
def logFault (et : Nat) (code : BitVec 16) (detail : List Byte) (s : State) : State :=
  { s with log := logFaultLog et code detail s }

/-! ### Faults, mode changes, repairs -/

/-- Payload of a fault event after the header (Table 4.6). -/
def faultTail (code : BitVec 16) (occ et : Nat) (detail : List Byte) : List Byte :=
  be 2 code.toNat ++ be 1 (faultEffect code) ++ be 2 occ ++ be 8 et ++ padTo 8 0#8 detail

/-- Status after an occurrence: its event sent at once, or folded into the second under way (R98). -/
def faultEventStatus (et : Nat) (code : BitVec 16) (detail : List Byte) (s : State) : Status :=
  let live (f : Fold) : Bool := f.code == code && (decide (s.now < f.until_) || decide (0 < f.count))
  if s.status.folds.any live then
    let again (f : Fold) : Fold :=
      if f.count = 0 then { f with count := 1, time := et, detail := padTo 8 0#8 detail }
      else { f with count := sat16 (f.count + 1) }
    { s.status with folds := s.status.folds.map (fun f => if live f then again f else f) }
  else
    let st := (genFrame 0x30 (faultTail code 1 et detail) s).status
    let fresh : Fold := { code := code, until_ := s.now + sec1 }
    { st with folds := (st.folds.filter (fun f => f.code != code)) ++ [fresh] }

/-- The fault event of an occurrence (R98). -/
def faultEvent (et : Nat) (code : BitVec 16) (detail : List Byte) (s : State) : State :=
  { s with status := faultEventStatus et code detail s }

/-- A fault raised at an event time: its event, its log entry, and its place among the active faults (R98, R107, R109). -/
def raiseAt (et : Nat) (code : BitVec 16) (unit : Nat) (detail : List Byte) (s : State) : State :=
  let s := logFault et code detail (faultEvent et code detail s)
  let rest := s.status.active.filter (fun a => !(a.code == code && a.unit == unit))
  let active := if faultStays code then ⟨code, faultEffect code, unit⟩ :: rest else s.status.active
  refreshLeds { s with status := { s.status with active := active } }

/-- A fault raised now. -/
def raise (code : BitVec 16) (unit : Nat) (detail : List Byte) (s : State) : State :=
  raiseAt s.gptp.time code unit detail s

/-- A code's occurrences for a unit are being counted toward its next event; `key` is the start of that unit's detail. -/
def folding (code : BitVec 16) (key : List Byte) (s : State) : Bool :=
  s.status.folds.any (fun f => f.code == code && decide (0 < f.count) && f.detail.take key.length == key)

/-- A fault whose detail counts over the second its event covers: the waiting event's detail is brought up to date (R98). -/
def raiseCount (code : BitVec 16) (unit : Nat) (key rest : List Byte) (s : State) : State :=
  let s := raise code unit (key ++ rest) s
  let up (f : Fold) : Fold :=
    if f.code == code && decide (0 < f.count) && f.detail.take key.length == key then
      { f with detail := padTo 8 0#8 (key ++ rest) } else f
  { s with status := { s.status with folds := s.status.folds.map up } }

/-- Whether a fault is active for a unit. -/
def isActive (code : BitVec 16) (unit : Nat) (s : State) : Bool :=
  s.status.active.any (fun a => a.code == code && a.unit == unit)

/-- Whether a fault is active for any unit. -/
def anyActive (code : BitVec 16) (s : State) : Bool := s.status.active.any (fun a => a.code == code)

/-- A fault's clearing event for one unit (R107). -/
def clear (code : BitVec 16) (unit : Nat) (s : State) : State :=
  let rest := s.status.active.filter (fun a => !(a.code == code && a.unit == unit))
  refreshLeds { s with status := { s.status with active := rest } }

/-- A fault's clearing event for every unit. -/
def clearAll (code : BitVec 16) (s : State) : State :=
  refreshLeds { s with status := { s.status with active := s.status.active.filter (fun a => a.code != code) } }

/-- The mode-change frame, from the code of the mode left (Table 4.6). -/
def modeFrame (et left : Nat) (m : Mode) (code : BitVec 16) (s : State) : State :=
  genFrame 0x40 ([BitVec.ofNat 8 left, BitVec.ofNat 8 m.code] ++ be 2 code.toNat ++ be 8 et) s

/-- The mode in force changed, and its log entry (Table 4.8). -/
def modeSet (et : Nat) (m : Mode) (code : BitVec 16) (s : State) : State :=
  let left := modeCode s.start.mode
  let two := [BitVec.ofNat 8 left, BitVec.ofNat 8 m.code]
  let s := logPut { time := et, code := code, kind := 2, mode := left, detail := padTo 10 0#8 two } s
  refreshLeds { s with start := { s.start with mode := some m } }

/-- A mode change: the mode in force, the log entry, and the frame, on the paths open in the mode entered (Table 4.3, Table 4.6,
Table 4.8). -/
def modeChange (et : Nat) (m : Mode) (code : BitVec 16) (s : State) : State :=
  modeFrame et (modeCode s.start.mode) m code (modeSet et m code s)

/-- A repair event (Table 4.6): kind, unit, index, spares left, outcome. -/
def repairEvent (et kind unit index spares outcome : Nat) (s : State) : State :=
  let six := be 1 kind ++ be 1 unit ++ be 2 index ++ be 1 spares ++ be 1 outcome
  logPut { time := et, kind := 3, mode := modeCode s.start.mode, detail := padTo 10 0#8 six }
    (genFrame 0x60 (six ++ be 8 et) s)

/-- An intervention that became ready now (R29). -/
def makeDue (w : Intervention) (s : State) : State :=
  { s with blocks := { s.blocks with due := s.blocks.due ++ [⟨w, s.now⟩] } }

/-- Whether a yield waits for its boundary. -/
def yieldDue (s : State) : Bool :=
  s.blocks.due.any (fun d => match d.what with
    | .yield_ _ => true
    | _ => false)

/-- A number the spec does not fix, and the state with the next one in line. -/
def drawFree (s : State) : Nat × State := (Config.freeValue s.freeCtr, { s with freeCtr := s.freeCtr + 1 })

/-- Bytes the spec does not fix, from a counter on: what a failed operation leaves. -/
def freeBytes (n : Nat) (s : State) : List Byte × State :=
  ((List.range n).map (fun i => BitVec.ofNat 8 (Config.freeValue (s.freeCtr + i))), { s with freeCtr := s.freeCtr + n })

end Sys2Proof.Machine
end

