-- ==== Sys2Proof/Machine/Bmca.lean ====
section
/-! DEFINITION. The best master clock algorithm (chapter 8). -/

namespace Sys2Proof.Machine

open Sys2Proof

/-! ### The best master (R171, R172) -/

/-- The device's clockIdentity: its EUI-48 with 0xFF, 0xFE between the third and fourth bytes (Table 8.1). -/
def clockIdentity (s : State) : BitVec 64 :=
  BitVec.ofNat 64 (s.eui48.toNat / 2 ^ 24 * 2 ^ 40 + 0xFFFE * 2 ^ 24 + s.eui48.toNat % 2 ^ 24)

/-- Priority1 (Table 8.2). -/
def priority1 (s : State) : Nat :=
  if s.gptp.prioHeld || !inMode .leader s then 255 else if role s = 9 then 246 else 250

/-- The device's own priority vector (Table 8.1). -/
def ownVector (s : State) : GmVector :=
  { priority1 := priority1 s, clockClass := 248, accuracy := 0xFE, variance := 0xFFFF, priority2 := tenant s
    identity := clockIdentity s, steps := 0, sender := clockIdentity s }

/-- A priority vector as the list of numbers IEEE 802.1AS compares in turn. -/
def vectorKey (v : GmVector) : List Nat :=
  [v.priority1, v.clockClass, v.accuracy, v.variance, v.priority2, v.identity.toNat, v.steps, v.sender.toNat]

/-- Lexicographic order of numbers. -/
def lexLess : List Nat → List Nat → Bool
  | a :: l, b :: m => if a = b then lexLess l m else decide (a < b)
  | _, _ => false

/-- Whether a vector is better than another: the lower one wins. -/
def better (a b : GmVector) : Bool := lexLess (vectorKey a) (vectorKey b)

/-- What a port's neighbour offers: a vector one step further, from a clock that may be grandmaster (R172). -/
def offered (p : Port) : Option GmVector :=
  match p.best1 with
  | some v => if p.up && p.asCapable && v.priority1 != 255 then some { v with steps := v.steps + 1 } else none
  | none => none

/-- The best vector heard, with its port. -/
def bestHeard (s : State) : Option (GmVector × Fin 2) :=
  match offered s.ports[0], offered s.ports[1] with
  | some a, some b => if better b a then some (b, 1) else some (a, 0)
  | some a, none => some (a, 0)
  | none, some b => some (b, 1)
  | none, none => none

/-- The vector a device passes on: its own where it follows no one. -/
def rootVector (s : State) : GmVector :=
  match s.gptp.slavePort, bestHeard s with
  | some _, some (v, _) => { v with sender := clockIdentity s }
  | _, _ => ownVector s

/-- F470 ends once gPTP is synchronised again and beacons are received (Table 3.5). -/
def endSearch (s : State) : State :=
  if anyActive 0xF470#16 s && s.gptp.synced && s.status.beaconBack then clearAll 0xF470#16 s else s

/-- The best master clock algorithm run afresh: this device where its own vector is best and may be grandmaster, else the
best port's master, else none (R171, R172, R174). A device that becomes grandmaster is synchronised at once, and its device time
runs on at a rate that goes back to REF's own (R138, R173); one that ceases to be holds its synchronisation for 3 s from then
(log entry 21). -/
def runBmca (s : State) : State :=
  let own := ownVector s
  let g := s.gptp
  let wins := own.priority1 != 255 && (match bestHeard s with
    | some (v, _) => better own v
    | none => true)
  if wins then
    endSearch (clearAll 0xF310#16 { s with gptp := { g with
      grandmaster := true, synced := true, slavePort := none, good := 0, rateGoal := 0, okSince := some (g.okSince.getD s.now) } })
  else
    let port := (bestHeard s).map (·.2)
    { s with gptp := { g with
      grandmaster := false, slavePort := port, holdFrom := if g.grandmaster then some s.now else g.holdFrom
      slaveFrom := if g.slavePort = port then g.slaveFrom else s.now
      good := if g.slavePort = port then g.good else 0 } }

/-- Whether a port is a master port: neither the slave port, nor one whose neighbour offers better than this device would
send out of it. -/
def masterPort (s : State) (i : Fin 2) : Bool :=
  s.ports[i].up && s.ports[i].asCapable && s.gptp.slavePort != some i
    && (match offered s.ports[i] with
        | some v => !better v (rootVector s)
        | none => true)

end Sys2Proof.Machine
end

