-- ==== Sys2Proof/Machine/Wells.lean ====
section
/-! DEFINITION. Wellspring: qualification, loss, selection, switches, lock and holdover (chapter 6). -/

namespace Sys2Proof.Machine

open Sys2Proof

/-- The place of a reference among the measured ones; LOCAL is not measured. -/
def refIndex : Ref → Option (Fin 4)
  | .net => some 0 | .bpi0 => some 1 | .bpi1 => some 2 | .wclk => some 3 | .local => none

/-- What is kept of a reference; LOCAL is always qualified (R130). -/
def refState (w : Wellspring) (r : Ref) : RefState :=
  match refIndex r with
  | some i => w.refs[i]
  | none => { qualified := true }

/-- The reference order in force: NET stands first for a partner in contact (R129, R133). -/
def orderOf (s : State) : List Ref :=
  let l := refOrder (lvlD s 7)
  if (inMode .partner s || (s.start.mode.isNone && strappedPartner (role s))) && s.red.contact then
    .net :: l.filter (fun r => r != .net)
  else l

/-- The place of a reference in an order; the order's length where it is absent. -/
def rank (l : List Ref) (r : Ref) : Nat := l.findIdx (fun x => x == r)

/-- The highest-ordered reference of a list that a condition admits. -/
def firstSuch (ok : Ref → Bool) : List Ref → Option Ref
  | [] => none
  | r :: l => if ok r then some r else firstSuch ok l

/-- Acquisition bandwidth in micro-hertz (Table 6.7). -/
def bwAcquire : Ref → Nat
  | .net => 10000000
  | _ => 200000000

/-- Target bandwidth in micro-hertz (Table 6.7). -/
def bwTarget : Ref → Nat
  | .net => 50000
  | .wclk => 2000000
  | _ => 10000000

/-- One step of the bandwidth schedule (R140). -/
def bwHalve (r : Ref) (bw : Nat) : Nat := if bw / 2 < bwTarget r then bwTarget r else bw / 2

/-- Whether the loop is locked at its target bandwidth; LOCAL with its switch complete counts (R141). -/
def atTarget (w : Wellspring) : Bool :=
  match w.selected with
  | some .local => w.locked && w.stage == .idle
  | some r => w.locked && w.stage == .idle && decide (w.bandwidth ≤ bwTarget r)
  | none => false

/-- The lock state of heartbeat byte 10 (R141, R150). -/
def lockState (s : State) : Nat :=
  let w := s.well
  if inMode .safe s then 2
  else if w.holdover then 3
  else if w.stage != .idle then 4
  else if !w.everLocked || !w.locked then 0
  else if atTarget w then 2 else 1

/-- The DCO's range of ±500 ppm in units of 2^-64 (Table 6.11). -/
def dcoClamp (x : Int) : Int := max (-9223372036854775) (min 9223372036854775 x)

/-- An offset in ppb as a DCO ratio offset in units of 2^-64. -/
def ppbToDco (ppb : Int) : Int := ppb * 18446744073709551616 / 1000000000

/-- A ratio offset of the history, in units of 2^-32, in units of 2^-64. -/
def histToDco (x : Int) : Int := x * 4294967296

/-- The mean of a list, rounding down. -/
def meanOf (l : List Int) : Int := if l.isEmpty then 0 else l.foldl (· + ·) 0 / l.length

/-- History windows of a reference and REF source, newest first. -/
def historyOf (s : State) (r : Ref) : List HistWindow :=
  s.history.filter (fun h => h.ref == r && h.tcxo == s.well.tcxo)

/-- The holdover value of a reference before any aging correction (R146): the newest windows' mean; with none, the mean DCO
ratio over the last 10 s, sampled at each block boundary; a loop that never locked holds its last ratio. "Never locked" is
taken of the whole start or wake, not of the present selection alone (log entry 124). -/
def holdoverValue (s : State) (r : Ref) : Int :=
  let l := ((historyOf s r).take 4).map (fun h => histToDco h.dco)
  if !l.isEmpty then meanOf l
  else if s.well.everLocked && !s.well.last10.isEmpty then meanOf s.well.last10
  else s.well.dco

/-- Powered day and core die temperature now, in thousandths (R517). -/
def dayNow (s : State) : Int := ((1000 * (s.gran.hours / 24) : Nat) : Int)
/-- Core die temperature in thousandths of a degree. -/
def tempNow (s : State) : Int := 1000 * s.plant.coreTemp

/-- The correction the aging model adds for a day and a temperature against the windows behind a holdover value (R517): a and k
in 2^-48 of the ratio per day and per degree; days and temperatures in thousandths. The shift is in units of 2^-64. -/
def agingShift (e : Endurance) (day temp : Int) : Int :=
  (e.fitA * (day - e.hvDay) + e.fitK * (temp - e.hvTemp)) * 65536 / 1000

/-- Mean day and temperature, in thousandths, of the windows a holdover value of a reference comes from (R517). -/
def windowsMean (s : State) (r : Ref) : Int × Int :=
  let l := (historyOf s r).take 4
  (meanOf (l.map (fun h => ((1000 * h.day : Nat) : Int))), meanOf (l.map (fun h => 1000 * h.temp)))

/-- The holdover value with the aging correction where rule 1 gave it and the model is valid (R146, R517). -/
def correctedValue (s : State) (r : Ref) : Int :=
  if s.endur.valid && !(historyOf s r).isEmpty then
    let m := windowsMean s r
    dcoClamp (holdoverValue s r + agingShift { s.endur with hvDay := m.1, hvTemp := m.2 } (dayNow s) (tempNow s))
  else holdoverValue s r

/-- The DCO seed of a reference at a start or wake (R144). -/
def seedOf (s : State) (r : Ref) : Int :=
  match r with
  | .local => 0
  | _ =>
    if (historyOf s r).isEmpty then dcoClamp (ppbToDco (refState s.well r).ppb)
    else dcoClamp (correctedValue s r)

/-- The history is cleared at a selection of a different reference (R145). -/
def keepHistory (s : State) (r : Ref) : List HistWindow :=
  if s.history.all (fun h => h.ref == r) then s.history else []

/-- Whether NET is taken as a leader takes it, from gPTP time alone: in LEADER, in a SLUMBER entered from it, and during the
start of a strapped leader that will not run in PARTNER first (Table 6.1). -/
def netLeader (s : State) : Bool :=
  actsLeader s || (s.start.mode.isNone && strappedLeader (role s) && !(pairRole (role s) && s.red.sawActing))

/-- The device time of NET's next phase target: a whole sample period of gPTP time at a leader, a sample instant the CRF
timestamps give at any other device (Table 6.5). -/
def netTarget (s : State) : Option Nat :=
  let t := s.gptp.time
  let rate := s.well.rate
  if rate = 0 then none
  else if netLeader s then some (((t * rate + 999999999) / 1000000000) * 1000000000 / rate)
  else s.well.crfStamps.head?.map (fun a => a + (((t - a) * rate + 999999999) / 1000000000) * 1000000000 / rate)

/-- A reference's selection ends the faults it ends: F301 always, F300 and F020 where it is the preferred one (R135). -/
def selectClears (r : Ref) (s : State) : State :=
  let s := if anyActive 0xF301#16 s then clearAll 0xF301#16 s else s
  if rank (orderOf s) r = 0 then clearAll 0xF300#16 (clearAll 0xF020#16 s) else s

/-- The DCO set directly to a reference's seed, its divider chain aligned to the phase target (R144). -/
def seedDco (r : Ref) (s : State) : State :=
  { s with well := { s.well with
    dco := seedOf s r, dcoGoal := seedOf s r, integ := seedOf s r, phaseOff := 0, phaseLeft := 0
    dividerAt := if r == .net then netTarget s else none } }

/-- A selection during a start, or after a wake before the data path resumes: the DCO is seeded and the loop closes at
acquisition bandwidth (R73, R144). -/
def startSelect (r : Ref) (s : State) : State :=
  let s := seedDco r { s with history := keepHistory s r }
  selectClears r { s with
    well := { s.well with
      selected := some r, atStart := false, holdover := false, stage := .idle, locked := false
      inCount := 0, outCount := 0, bandwidth := bwAcquire r, nextHalf := none
      last10 := [], histAt := none } }

/-- At the start reference deadline, or after it: the highest-ordered qualified reference, with F020 where it is not the
first of the order (R73). -/
def deadlineSelect (s : State) : State :=
  match firstSuch (fun r => (refState s.well r).qualified) (orderOf s) with
  | some r =>
    let s := startSelect r s
    if rank (orderOf s) r = 0 then s else raise 0xF020#16 0 [] s
  | none => s

/-- Wellspring begins at the instant a start counts from: windows run, and the first reference is waited for (R73, R130). -/
def wellBegin (t : Nat) (s : State) : State :=
  let s := { s with well := { s.well with
    atStart := true, refDeadline := some (t + 10 * sec1), windowEnd := some (t + sec1), crfGap := true
    family44 := clock441 (lvlD s 7)
    rate := if clock441 (lvlD s 7) then 44100 else 48000 } }
  match orderOf s with
  | .local :: _ => startSelect .local s
  | _ => s

/-- Holdover entered: the loop stops, and the output slews to the holdover value (R146). -/
def enterHoldover (loss : Bool) (r : Ref) (s : State) : State :=
  { s with
    well := { s.well with
      holdover := true, holdoverFrom := s.now, holdoverLoss := loss, limitPassed := false, lostRef := some r
      stage := .idle, locked := false, inCount := 0, outCount := 0, nextHalf := none, halve := false, histAt := none
      dcoGoal := correctedValue s r }
    endur := { s.endur with
      hvRaw := holdoverValue s r
      hvRule1 := !(historyOf s r).isEmpty
      hvTemp := (windowsMean s r).2
      hvDay := (windowsMean s r).1
      correctAt := s.now + sec1 } }

/-- Losses of a reference within the last 60 s, the present one included. -/
def lossesNow (now : Nat) (l : List Nat) : List Nat := now :: l.filter (fun t => decide (now < t + 60 * sec1))

/-- A loss condition of a reference (R131, R132): disqualified at once, barred at its third loss within 60 s; the
selected reference's loss enters holdover with F301, or undoes a selection made during the start. -/
def loseRef (r : Ref) (crf : Bool) (s : State) : State :=
  match refIndex r with
  | none => s
  | some i =>
    let x := s.well.refs[i]
    if !x.qualified then
      (match x.barred with
       | some _ => { s with well := { s.well with refs := s.well.refs.set i { x with barred := some (s.now + 60 * sec1) } } }
       | none => s)
    else
      let l := lossesNow s.now x.losses
      let x := { x with
        qualified := false, losses := l
        barred := if l.length ≥ 3 then some (s.now + 60 * sec1) else x.barred }
      let selected := s.well.selected == some r
      let s := { s with well := { s.well with refs := s.well.refs.set i x } }
      if !selected || s.well.holdover then s
      else if s.start.tRun.isNone then
        let s := { s with well := { s.well with selected := none, locked := false, atStart := true, stage := .idle } }
        let s := if crf && r == .net then raise 0xF311#16 0 [] s else s
        match s.well.refDeadline with
        | some d => if d ≤ s.now then deadlineSelect s else s
        | none => s
      else
        let s := enterHoldover true r s
        let s := if crf && r == .net then raise 0xF311#16 0 [] s else s
        raise 0xF301#16 0 [] s

/-- A switch to a reference at a block boundary of stamp `et` (R134, R142), with F300 on a fall-back (R135). -/
def switchTo (et : Nat) (r : Ref) (fallBack : Bool) (s : State) : State :=
  let goal := match r with
    | .local => 0
    | _ => dcoClamp (ppbToDco (refState s.well r).mean)
  let s := { s with
    history := keepHistory s r
    well := { s.well with
      selected := some r, holdover := false, lostRef := none, limitPassed := false
      stage := .frequency, locked := false, inCount := 0, outCount := 0, nextHalf := none, halve := false
      histAt := none, dcoGoal := goal, phaseOff := 0, phaseLeft := 0 } }
  selectClears r (if fallBack then raiseAt et 0xF300#16 0 [] s else s)

/-- The reference check of R134 at a block boundary at instant `t` with event time `et`: what became ready at `t` itself
waits for the next boundary (R29). -/
def wellCheck (t et : Nat) (s : State) : State :=
  let order := orderOf s
  let ok (r : Ref) : Bool := r != .local && (refState s.well r).qualified && decide ((refState s.well r).since < t)
  let best := firstSuch ok order
  let w := s.well
  if w.holdover then
    if t ≤ w.holdoverFrom then s
    else match best with
    | some b =>
      let below := match w.lostRef with
        | some l => w.holdoverLoss && decide (rank order b > rank order l)
        | none => false
      switchTo et b below s
    | none => if w.limitPassed && decide (w.limitAt < t) && order.contains .local then switchTo et .local true s else s
  else
    match w.selected with
    | none => s
    | some r =>
      let held (x : Ref) : Bool := ok x && decide ((refState w x).since + 10 * sec1 < t)
      match firstSuch held (order.take (rank order r)) with
      | some b => switchTo et b false s
      | none => s

/-- One update of a loop's lock: `thr` ns over `need` updates to lock, four times that over 16 to lose lock (R139). -/
def lockUpdate (thr need : Nat) (err : Int) (w : Wellspring) : Wellspring :=
  let inC := if err.natAbs ≤ thr then min need (w.inCount + 1) else 0
  let outC := if err.natAbs > 4 * thr then min 16 (w.outCount + 1) else 0
  { w with inCount := inC, outCount := outC }

/-- The loop locks: MCLK_OUT and WCLK_OUT run from the first lock on but in SLUMBER and SAFE, and the bandwidth schedule starts
(R139, R140, R149). -/
def lockNow (s : State) : State :=
  { s with
    well := { s.well with
      locked := true, everLocked := true, stage := .idle, outCount := 0
      mclk := s.well.mclk || !(inMode .slumber s || inMode .safe s)
      nextHalf := some (s.now + 2 * sec1) }
    blocks := { s.blocks with exists_ := true } }

/-- A type-2 loop of damping 0.71 over one update of `period` ns, with a closed-loop bandwidth of `bw` micro-hertz at -3 dB
(R137 to R139): the natural frequency is bw / 2.06194, so that the ratio's proportional part is 4.32705 bw a second of phase
and its integral part 9.28556 bw² a second of phase a second. From the phase error in ns and the integrator, the integrator
and the ratio, in units of 2^-64 (log entry 125). -/
def loopFilter (bw period : Nat) (err integ : Int) : Int × Int :=
  let i := integ + err * (bw * bw * period : Nat) * 928556 * 18446744073709551616 / 10 ^ 35
  (i, i + err * (bw : Nat) * 432705 * 18446744073709551616 / 10 ^ 20)

/-- A phase error in ns taken modulo the shorter of the reference's frame period and the sample period, from minus half of it
up to, but not including, plus half (R136). -/
def phaseMod (refRate rate : Nat) (err : Int) : Int :=
  let f : Int := max 1 (max refRate rate : Nat)
  let x := err * f % 1000000000
  (if 2 * x ≥ 1000000000 then x - 1000000000 else x) / f

/-- The rate of a reference's frames in Hz (R127). -/
def refRate (s : State) (r : Ref) : Nat :=
  match r with
  | .net => if netLeader s then s.well.rate else s.well.crfRate
  | .local => s.well.rate
  | _ => (refState s.well r).rate

/-- The time between two updates of a reference's loop in ns: a block for NET, else a frame of the reference (Table 6.6). -/
def loopPeriod (s : State) (r : Ref) : Nat := if r == .net then ms1 else 1000000000 / max 1 (refRate s r)

/-- One update of the loop in force with a phase error in ns: the filter drives the DCO, and lock is judged (R137 to R139). -/
def loopUpdate (r : Ref) (err : Int) (s : State) : State :=
  let (thr, need) := if r == .net then (1000, 32) else (200, 64)
  let out := loopFilter s.well.bandwidth (loopPeriod s r) err s.well.integ
  let w := lockUpdate thr need err s.well
  let s := { s with well := { w with integ := out.1, dco := dcoClamp out.2 } }
  if !s.well.locked && decide (need ≤ s.well.inCount) then lockNow s
  else if s.well.locked && decide (16 ≤ s.well.outCount) then loseRef r false s
  else s

/-- The NET servo's phase error at device time `time`, in ns within half of the shorter of the CRF's sample period and the
own (R136, R138): against whole sample periods of gPTP time at a leader; against the sample instants between the two latest
CRF timestamps, which stand for as many 10 ms as they lie apart, at any other device. -/
def netPhase (s : State) (time : Nat) : Int :=
  if netLeader s then phaseMod s.well.rate s.well.rate time
  else
    match s.well.crfStamps with
    | a :: b :: _ =>
      let n := max s.well.crfRate s.well.rate * ((a - b + 5 * ms1) / (10 * ms1)) / 100
      let span := a - b
      if span = 0 ∨ n = 0 then 0
      else
        let x : Int := ((time : Int) - (a : Int)) * n % span
        (if 2 * x ≥ span then x - span else x) / n
    | _ => 0

/-- The slew of 2 ppm/s over one block, in units of 2^-64 (R142). -/
def slewStep : Int := 36893488147

/-- A value moved toward a goal by at most a step. -/
def toward (step x goal : Int) : Int :=
  if x < goal then min goal (x + step) else max goal (x - step)

/-- One block of the phase stage: the offset rises while the error left exceeds what lowering it will pull (R142). -/
def phaseStep (w : Wellspring) : Wellspring :=
  let sgn : Int := if w.phaseLeft < 0 then -1 else 1
  let left := w.phaseLeft * sgn
  let off := w.phaseOff * sgn
  let left' := max 0 (left - off)
  let off' := if off * off ≥ 2 * slewStep * left' then max 0 (off - slewStep) else min 368934881474191 (off + slewStep)
  { w with phaseLeft := left' * sgn, phaseOff := off' * sgn, dco := dcoClamp (w.dcoGoal + off' * sgn) }

/-- Wellspring over one block boundary: slews, the phase stage, the NET servo, a bandwidth step, history sums. The DCO ratio
is sampled once at each boundary for the last 10 s and for the mean of a history window (log entry 124). -/
def wellBlock (s : State) : State :=
  let w := s.well
  let s :=
    if w.holdover then { s with well := { w with dco := toward slewStep w.dco w.dcoGoal } }
    else
      match w.stage with
      | .frequency => { s with well := { w with dco := toward slewStep w.dco w.dcoGoal } }
      | .phase => { s with well := phaseStep w }
      | _ => if w.selected == some .net then loopUpdate .net (netPhase s s.gptp.time) s else s
  let w := s.well
  let w := match w.selected with
    | some r =>
      if w.halve && w.locked then
        { w with bandwidth := bwHalve r w.bandwidth, halve := false
                 nextHalf := if bwHalve r w.bandwidth = bwTarget r then none else w.nextHalf }
      else w
    | none => w
  let w :=
    if atTarget w && w.selected != some .local then
      match w.histAt with
      | none => { w with histAt := some (s.now + 64 * sec1), histSum := 0, histCount := 0, tempSum := 0 }
      | some _ =>
        { w with histSum := w.histSum + w.dco, histCount := w.histCount + 1, tempSum := w.tempSum + s.plant.coreTemp }
    else { w with histAt := none }
  { s with well := { w with last10 := (w.dco :: w.last10).take 10000 } }

end Sys2Proof.Machine
end

