-- ==== Sys2Proof/Machine/Modes.lean ====
section
/-! DEFINITION. Resets, the failed-start counter, SAFE entry, and the frames of a start: start report, heartbeat,
telemetry (chapters 3 and 4). -/

namespace Sys2Proof.Machine

open Sys2Proof

/-! ### Resets -/

/-- The code of a reset cause (Table 4.5). -/
def ResetCause.code : ResetCause → Nat
  | .powerOn => 0 | .supplySupervisor => 1 | .resetN => 2 | .watchdog => 3 | .dieLink => 4
  | .startDeadline => 5 | .startStepFailure => 6 | .clockMonitor => 7

/-- What the plant die keeps through a reset of the core die: its supplies, its sensing and its charge count; the charger
is off and fixed thresholds rule until limits are requested again (Table 26.4, R468). -/
def Plant.kept (p : Plant) : Plant :=
  { vinMv := p.vinMv, vinValid := p.vinValid, onBattery := p.onBattery, pairMv := p.pairMv, vinPath := p.vinPath
    sysGate := p.sysGate, switchOff := p.switchOff, openAt := p.openAt, vsysMv := p.vsysMv, vbatMv := p.vbatMv
    packMa := p.packMa, absent := p.absent, tNtc := p.tNtc, tPred := p.tNtc, soc := p.soc, socMams := p.socMams
    dieTemp := p.dieTemp, coreTemp := p.coreTemp, preMs := p.preMs }

/-- The device held in reset: what a reset of any source leaves (Table 3.3, R560). Kept are the always-on domain with its
retention RAM, the memories' bytes, the write-once records, the plant die's supplies, PODL_EN but at a power-on, with the front end's
signature valid again whatever the straps say (R160), the microphone gate, the test port unless V33 was lost, and the input lands; entries still to be written to the ash log are kept where the reset recorded
its own fault. -/
def resetDevice (cause : ResetCause) (keepLog : Bool) (s : State) : State :=
  { now := s.now, pending := s.pending, freeCtr := s.freeCtr, eui48 := s.eui48
    start := { cause := cause }
    aon := s.aon
    history := s.history
    straps := { pre := s.straps.pre, plantBatt := s.straps.plantBatt, plantAmp := s.straps.plantAmp
                plantMotor := s.straps.plantMotor }
    log := { waiting := if keepLog then s.log.waiting else [] }
    well := { tcxo := s.well.tcxo }
    podl := if cause == .powerOn then {} else { s.podl with signature := true, classifiedAt := none }
    sec := { slots := s.sec.slots, signers := s.sec.signers }
    mic := { en := s.mic.en, open_ := s.mic.open_, highSince := s.mic.highSince }
    usb := { vbus := s.usb.vbus }
    thr := { retired := s.thr.retired }
    mem := { flash := s.mem.flash, psram := s.mem.psram, loft := s.mem.loft, sram := s.mem.sram }
    gran := { hours := s.gran.hours, hourAt := s.gran.hourAt }
    plant := s.plant.kept
    endur := { map := s.endur.map, points := s.endur.points, fitA := s.endur.fitA, fitK := s.endur.fitK
               valid := s.endur.valid }
    lands := s.lands
    jtag := if cause == .powerOn || cause == .supplySupervisor then {} else s.jtag }

/-- A change of the failed-start counter, with its log entry (R77). -/
def setCounter (n : Fin 4) (s : State) : State :=
  if s.aon.failed = n then s
  else
    logPut { time := s.gptp.time, kind := 4, mode := modeCode s.start.mode, detail := padTo 10 0#8 (be 1 n.val) }
      { s with aon := { s.aon with failed := n } }

/-- A failed start counted: the counter saturates at 3, and the code of the attempt is kept (R76, R77). -/
def countFailed (code : BitVec 16) (s : State) : State :=
  let l := s.aon.last3
  setCounter (if s.aon.failed.val < 3 then s.aon.failed + 1 else 3)
    { s with aon := { s.aon with last3 := #v[code, l[0], l[1]] } }

/-- Whether a reset counted as a watchdog's is a failed start: before running, or within 60 s of t_run (R76). A reset in a
SAFE entered on the counter leaves the counter and its codes as they are (R78). -/
def watchdogCounts (s : State) : Bool :=
  match s.start.tRun with
  | none => !inMode .safe s
  | some r => decide (s.now < r + 60 * sec1)

/-- A reset that records a fault and counts as a control-processor watchdog reset (R70, R76). -/
def watchdogReset (cause : ResetCause) (code : BitVec 16) (detail : List Byte) (s : State) : State :=
  let s := raise code 0 detail s
  let s := if watchdogCounts s then countFailed code s else s
  resetDevice cause true s

/-- A start step that cannot complete: its own fault, then F005; the start has failed (R71, R76). -/
def failStep (code : BitVec 16) (unit : Nat) (detail : List Byte) (s : State) : State :=
  let s := raise 0xF005#16 0 [] (raise code unit detail s)
  resetDevice .startStepFailure true (countFailed 0xF005#16 s)

/-! ### The start report and the heartbeat -/

/-- Whether the device owns TIE's slots (R225). -/
def slotOwner (s : State) : Bool :=
  let lead := actsLeader s
  if lead != s.red.peerLeader then lead else strappedLeader (role s)

/-- The strap records of the start report: level, then both codes (Table 4.5). -/
def strapRecords (s : State) : List Byte :=
  (List.finRange 13).flatMap (fun i =>
    be 1 ((lvl s i).elim 255 (·.val))
      ++ be 2 ((s.straps.first.map (fun v => v[i].val)).getD 0)
      ++ be 2 ((s.straps.second.map (fun v => v[i].val)).getD 0))

/-- Thresher spare columns in use: the retired columns, at most 2 (R364). -/
def sparesUsed (s : State) : Nat := min 2 s.thr.retired.length

/-- Start report bytes 27 and 28: whole units of 10 ms since t_reset, rounded down, at most 65535 of them; the spec states neither
the rounding nor the end of the range (log entry 128). -/
def reportTime (s : State) : Nat := sat16 ((s.now - s.start.tReset) / (10 * ms1))

/-- The start report (Table 4.5). -/
def startReport (s : State) : State :=
  let a := match s.gran.active with
    | some false => some s.gran.slotA
    | some true => some s.gran.slotB
    | none => none
  genFrame 0x20
    (be 1 s.start.cause.code ++ be 1 s.aon.failed.val
      ++ be 2 s.aon.last3[0].toNat ++ be 2 s.aon.last3[1].toNat ++ be 2 s.aon.last3[2].toNat
      ++ be 2 s.start.fault.toNat
      ++ be 1 (modeCode s.start.mode)
      ++ [flagByte [s.start.clampSeen, s.start.clearedByPair, s.mem.flashAbsent, s.well.tcxo]]
      ++ be 1 (match s.gran.active with | none => 0 | some b => if b then 2 else 1)
      ++ be 1 s.gran.slotA.status ++ be 1 s.gran.slotB.status
      ++ be 4 (a.elim 0 (·.identity.toNat)) ++ be 2 (a.elim 0 (·.edition))
      ++ be 1 s.start.columnsNow ++ be 1 (sparesUsed s)
      ++ be 2 (reportTime s)
      ++ strapRecords s) s

/-- A temperature in one signed byte; what lies beyond its ends shows as its end (R95, log entry 123). -/
def temp8 (x : Int) : List Byte := beInt 1 (max (-128) (min 127 x))

/-- A strap level as the heartbeat and the start report show it: 0xFF where the strap did not latch. Table 4.5 says so of the start
report; that the heartbeat's bytes 5 to 7 do too is the model's choice (log entry 129). -/
def shownLevel (s : State) (i : Fin 13) : Nat := (lvl s i).elim 255 (·.val)

/-- Heartbeat byte 6, the profile in effect: the leader's for a strapped partner in contact, else the latched level (Table 4.4). -/
def shownProfile (s : State) : Nat :=
  if strappedPartner (role s) && s.red.contact then s.routing.profile.val else shownLevel s 4

/-- Whether an image slot is being healed, from the other slot or from the leader; a refresh is no healing (R93, Table 4.4). -/
def healing (s : State) : Bool := s.gran.write.any (fun w => w.source != .refresh)

/-- The heartbeat for its scheduled instant (Table 4.4); the per-second counters start afresh. -/
def heartbeat (instant : Nat) (s : State) : State :=
  let c := s.status.sec
  let s := genFrame 0x10
    (be 1 (modeCode s.start.mode) ++ be 1 (shownLevel s 3) ++ be 1 (shownProfile s)
      ++ be 1 (shownLevel s 5)
      ++ [flagByte [s.sleep.stayAwake, s.plant.onBattery, s.ports[0].up, s.ports[1].up, s.gptp.synced,
            s.gptp.grandmaster, healing s, !s.status.active.isEmpty]]
      ++ be 1 (refCode s.well.selected s.well.tcxo) ++ be 1 (lockState s) ++ be 1 (rateCode s.well.rate)
      ++ be 8 instant ++ be 1 (socByte s) ++ be 2 s.plant.vsysMv
      ++ temp8 s.plant.coreTemp ++ temp8 s.plant.dieTemp
      ++ be 2 c.concealed ++ be 2 c.lost ++ be 2 c.late ++ be 2 c.missed ++ be 2 c.rollbacks ++ be 2 c.sram
      ++ be 2 (ledCode s).toNat ++ be 1 s.aon.failed.val
      ++ [flagByte [s.sec.pairing.open_, s.red.contact, s.gran.active == some true]]) s
  { s with status := { s.status with sec := {}, heartbeats := s.status.heartbeats + 1 } }

/-- The delay p of R96 after the leader's instants: 0 in LEADER, else 2 ms and 1 ms for each node number. -/
def heartbeatDelay (s : State) : Nat := if inMode .leader s then 0 else (2 + node s) * ms1

/-- The first device time after `time` at which `(T - phase) mod period = 0`. -/
def nextInstant (time phase period : Nat) : Nat :=
  let k := phase % period
  time + period - (time + period - k) % period

/-- The first scheduled heartbeat instant after a device time (R96). -/
def nextHeartbeat (s : State) (time : Nat) : Nat := nextInstant time (offset s + heartbeatDelay s) sec1

/-- The plant is active (R93). -/
def plantActive (s : State) : Bool :=
  let on (i : Fin 13) : Bool := (lvl s i).any (fun k => k.val != 0 && k.val != 15)
  on 12 || on 10 || on 11

/-- Average electrical power over the last second in mW. -/
def meanPower (c : SpkChan) : Nat := if c.secMw.isEmpty then 0 else c.secMw.foldl (· + ·) 0 / c.secMw.length

/-- Whether the motor runs in closed loop by its strap. -/
def closedLoop (s : State) : Bool := (motorSetup (lvlD s 11)).any (·.1)

/-- The plant telemetry frame (Table 4.6); its per-second flags start afresh. -/
def telemetry (s : State) : State :=
  let p := s.plant
  let c0 := s.spk.ch[0]
  let c1 := s.spk.ch[1]
  let m := s.motor
  let noBatt := (battSetup (lvlD s 12)).isNone
  let s := genFrame 0x70
    (be 2 p.vinMv ++ be 2 p.vsysMv ++ be 2 (if noBatt then 0 else p.vbatMv)
      ++ beInt 2 p.packMa
      ++ be 1 (if inMode .safe s && p.safeHalf && (p.state == 1 || p.state == 2 || p.state == 3) then 7 else p.state)
      ++ temp8 p.tNtc ++ temp8 p.tPred ++ be 1 (socByte s)
      ++ be 2 (sat16 (meanPower c0)) ++ be 2 (sat16 (meanPower c1)) ++ temp8 c0.tVc ++ temp8 c1.tVc
      ++ [flagByte [c0.limited, c1.limited, c0.excursed || c1.excursed, c0.exceeded || c1.exceeded,
            c0.saturated || c1.saturated]]
      ++ be 2 (sat16 (if m.countSec = 0 then 0 else m.sumSec / m.countSec)) ++ be 2 (sat16 m.peakSec)
      ++ be 2 (if closedLoop s then m.posMv else 65535)
      ++ [flagByte [m.stallSec, m.choppedSec, s.thr.lane.usedSec, !m.driven]]
      ++ temp8 p.dieTemp
      ++ [flagByte [p.onBattery, s.podl.enable,
            p.vinValid && (!s.podl.enable || decide (p.pairMv + 300 ≤ p.vinMv)), p.derate || p.zoneSec, s.start.clampSeen]]) s
  let fresh (c : SpkChan) : SpkChan := { c with limited := false, exceeded := false, excursed := false }
  { s with
    spk := { s.spk with ch := s.spk.ch.map fresh }
    motor := { s.motor with peakSec := 0, sumSec := 0, countSec := 0, choppedSec := false, stallSec := false }
    thr := { s.thr with lane := { s.thr.lane with usedSec := false } } }

/-! ### SAFE -/

/-- Pack voltage of a cell voltage: three cells. -/
def pack (cell : Nat) : Nat := 3 * cell

/-- What the plant die applies: the lower of each request and its ceiling; in fixed-threshold mode the strap's values, half
the current in SAFE, and the pre-conditioning current of Table 21.3 (R468, R474). -/
def applyLimits (s : State) : State :=
  let p := s.plant
  match battSetup (lvlD s 12) with
  | none => { s with plant := { p with applyMa := 0, applyMv := 0 } }
  | some b =>
    if p.fixed then
      let safeMa := match s.gran.batt with
        | some q => min (b.ma / 2) q.ma
        | none => b.ma / 2
      let full := if p.safeHalf then safeMa else b.ma
      let ma := if p.phase = 1 then min full (b.ma / 10) else full
      let on := !p.fixedHot && (p.phase == 1 || p.phase == 2 || p.phase == 3)
      { s with plant := { p with applyMa := if on then ma else 0, applyMv := pack b.cellMv } }
    else
      { s with plant := { p with applyMa := min p.req.ma b.ma, applyMv := min p.req.mv (pack b.cellMv) } }

/-- Half the strap's charge current, and whether the charger is off because SP_BATT did not latch well (R474). -/
def safeCharge (s : State) : Plant :=
  let off := s.start.safeCode == 0xF10C#16 || s.start.safeCode == 0xF11C#16 || s.start.safeCode == 0xF12C#16
  { s.plant with
    fixed := true, safeHalf := true, safeOff := off
    reqAt := none, reqSince := none
    state := if off then 0 else s.plant.state }

/-- The frames among those waiting for room that no talker sends: they are not dropped where the talkers stop (R100). -/
def ownNotes (l : List (Nat × NetFrame)) : List (Nat × NetFrame) := l.filter (fun x => decide (dstKind x.2.dst ≥ 4))

/-- Everything SAFE stops (R79): the data path, Thresher, talkers, listeners, clips, loudspeakers, motor, TIE, pairing;
Wellspring runs LOCAL at the nominal ratio (R150), and every waiting intervention is cancelled (R29). -/
def stopForSafe (s : State) : State :=
  { s with
    start := { s.start with bpoNext := true }
    history := keepHistory s .local
    status := { s.status with bpoOpen := false, folds := s.status.folds }
    well := { s.well with
      selected := some .local, atStart := false, holdover := false, stage := .idle, locked := true, everLocked := true
      dco := 0, dcoGoal := 0, mclk := false, nextHalf := none, halve := false, histAt := none, refDeadline := none
      rate := if s.well.family44 then 44100 else 48000 }
    streams := { stall := ownNotes s.streams.stall }
    routing := { profile := s.routing.profile }
    red := { pair := s.red.pair }
    sec := { s.sec with pairing := {}, createAt := none }
    bpi := Vector.replicate 4 {}
    bpo := s.bpo.map (fun b => { b with fresh := true, follow := false })
    tdm := Vector.replicate 2 {}
    mic := { s.mic with clk0 := false, clk1 := false, settle0 := none, settle1 := none }
    usb := { vbus := s.usb.vbus }
    blocks := { s.blocks with running := false, exists_ := true, pairs := [], due := [], started := false }
    thr := { retired := s.thr.retired, columnMap := s.thr.columnMap }
    clips := {}
    plant := safeCharge s
    spk := { s.spk with ch := s.spk.ch.map (fun c => { c with on := false }) }
    motor := { s.motor with driven := false, uMv := 0 }
    gran := { s.gran with requests := [], loadAt := false }
    sleep := {} }

/-- START is released at t_run or SAFE entry (R330). -/
def releaseStart (s : State) : State :=
  { s with blocks := { s.blocks with startLow := false, releasedAt := if s.blocks.startLow then some s.now else s.blocks.releasedAt } }

/-- SAFE entered with its code: mode, functions stopped, no grandmaster any more, START released, LEDs (R79, R172, R330). -/
def safeState (et : Nat) (cause code : BitVec 16) (s : State) : State :=
  let s := modeSet et .safe cause { s with start := { s.start with safeCode := code, fault := cause } }
  refreshLeds (releaseStart (applyLimits (runBmca (stopForSafe s))))

/-- Every instant the device takes from its device time, set afresh from the present one: after a step or a setting of device
time, a wake, or a role change (R96, R194, R228, R229, R258, R452). -/
def reschedule (s : State) : State :=
  let t := s.gptp.time
  let o := offset s
  { s with
    status := { s.status with
      heartbeatAt := if inMode .slumber s then nextInstant t o (8 * sec1) else nextHeartbeat s t }
    streams := { s.streams with admitAt := nextInstant t o sec1 }
    red := { s.red with
      ckptNext := nextInstant t (o + 500 * ms1) sec1
      hbNext := nextInstant t (o + 5 * ms1 + (if slotOwner s then 0 else ms1)) (10 * ms1) }
    gran := { s.gran with advertAt := nextInstant t (o + 750 * ms1) sec1 }
    sec := { s.sec with akAt := nextInstant t (o + 250 * ms1) sec1 } }

/-- SAFE entered while running, at a block boundary (R29, R79). -/
def enterSafe (et : Nat) (code : BitVec 16) (s : State) : State :=
  let left := modeCode s.start.mode
  let s := startReport (modeFrame et left .safe code (safeState et code code s))
  { s with status := { s.status with heartbeatAt := nextHeartbeat s s.gptp.time } }

/-- The key slots are read and the key in force is chosen: the valid slot of the own tenant with the highest index that is
not retired (R251). -/
def chooseKey (s : State) : Option (Fin 8) :=
  (List.finRange 8).foldl (fun best i =>
    match s.sec.slots[i].data with
    | some d => if d.tenant.val == tenant s && !s.sec.retired[i] then some i else best
    | none => best) none

/-- AK held: derived from TK in tenant 0, else the slot's AK where it is not zero (R258, Table 11.3). -/
def slotAk (s : State) (i : Option (Fin 8)) : Option (BitVec 128) :=
  match i.bind (fun i => s.sec.slots[i].data) with
  | some d =>
    if tenant s = 0 then some (announceKey d.tk) else if d.ak = 0#128 then none else some d.ak
  | none => none

/-- Key slots read (R251). -/
def readKeys (s : State) : State :=
  let k := chooseKey s
  { s with sec := { s.sec with inForce := k, nextForce := none, ak := slotAk s k } }

/-- SAFE entered during a start, its faults having been raised (R66, R78, R79): first the mode-change frame, then the
events of `faults`, then the start report; the device's first heartbeat and its replay follow. The first two still belong to the
start and go on STAT alone (log entry 127). -/
def safeAtStart (cause code : BitVec 16) (faults : State → State) (s : State) : State :=
  let et := s.gptp.time
  let s := readKeys s
  let s := faults (modeFrame et 0 .safe cause s)
  let s := startReport (safeState et cause code s)
  { s with status := { s.status with heartbeatAt := nextHeartbeat s et, replayDue := true, heartbeats := 0 } }

end Sys2Proof.Machine
end

