-- ==== Sys2Proof/Machine/Net.lean ====
section
/-! DEFINITION. What a listener does with frames: verification, leaders heard, stream recovery, judgement (chapters 8, 10
and 11). -/

namespace Sys2Proof.Machine

open Sys2Proof

/-! ### Verification (R246) -/

/-- The verdict on a frame offered to the endpoint. -/
inductive Verdict where
  /-- Every check passed. -/
  | good
  /-- A check before the ICV failed, or no key material is held: nothing is raised. -/
  | discard
  /-- The ICV does not verify: F620. -/
  | integrity
deriving DecidableEq, Repr

/-- The SAK a listener holds for a frame's channel class. -/
def sakFor (s : State) (f : NetFrame) (g : SecTag) : Option (BitVec 128) :=
  if dstKind f.dst = 2 then s.sec.ak.map (fun ak => announceSak ak g.sciEui g.sciPort)
  else if g.sciPort = 0x7FFF#16 then some 0#128
  else (keyInForce s).map (fun d => tenantSak d.tk (tenant s) g.sciEui g.sciPort)

/-- Whether a frame is a pairing frame of types 1 to 4. -/
def isPairingFrame (f : NetFrame) : Bool :=
  dstKind f.dst == 6 &&
    (match f.body with
     | .bytes _ b => decide (1 ≤ (at8 b 0).toNat) && decide ((at8 b 0).toNat ≤ 4)
     | _ => false)

/-- Check 3: the port identifier's class fits the destination kind. -/
def classFits (f : NetFrame) (g : SecTag) : Bool :=
  if dstKind f.dst = 2 then g.sciPort.getLsbD 15
  else if isPairingFrame f then g.sciPort == 0x7FFF#16
  else !g.sciPort.getLsbD 15 && g.sciPort != 0x7FFF#16

/-- The SCIs whose state is kept: those a frame was verified on within 20 ms (R246). -/
def liveScis (s : State) : List SciState := s.sec.scis.filter (fun c => decide (s.now ≤ c.last + 20 * ms1))

/-- Check 4: the epoch is not older than the newest verified for the EUI-48, the identifier's bits [15:12] and the key in force. -/
def epochFits (s : State) (g : SecTag) : Bool :=
  g.sciPort == 0x7FFF#16 || (liveScis s).all (fun c =>
    !(c.eui == g.sciEui && c.port.toNat / 4096 == g.sciPort.toNat / 4096 && c.key == s.sec.inForce)
      || decide (c.port.toNat % 4096 ≤ g.sciPort.toNat % 4096))

/-- Check 5: the packet number is no more than 64 below the highest verified on the SCI. -/
def pnFits (s : State) (g : SecTag) : Bool :=
  (liveScis s).all (fun c => !(c.eui == g.sciEui && c.port == g.sciPort) || decide (c.highest ≤ g.pn + 64))

/-- The checks of R246 in order. -/
def verify (s : State) (f : NetFrame) : Verdict :=
  match f.sec with
  | none => .discard
  | some g =>
    if g.tci != 0x2C#8 || g.sciEui != f.src || !classFits f g || !epochFits s g || !pnFits s g then .discard
    else
      match sakFor s f g with
      | none => .discard
      | some sak =>
        if icvOf sak f g = g.icv then .good else .integrity

/-- The state of an SCI after a verified frame: 512 SCIs, those idle for 20 ms dropped (R246). -/
def noteSci (f : NetFrame) (s : State) : State :=
  match f.sec with
  | none => s
  | some g =>
    let same (c : SciState) : Bool := c.eui == g.sciEui && c.port == g.sciPort
    let high := (((liveScis s).find? same).map (·.highest)).getD 0
    let rest := (liveScis s).filter (fun c => !same c)
    { s with sec := { s.sec with
      scis := ({ eui := g.sciEui, port := g.sciPort, key := s.sec.inForce, highest := max high g.pn, last := s.now } :: rest).take 512 } }

/-- F620's detail (Table 11.6). -/
def integrityFault (f : NetFrame) (s : State) : State :=
  raise 0xF620#16 0 (be 1 (dstByte f.dst 4) ++ be 1 (dstNode f.dst) ++ be 6 f.src.toNat) s

/-- A frame offered to the endpoint: on a good verdict the rest follows, on a failed ICV F620 (R246). -/
def verified (f : NetFrame) (k : State → State) (s : State) : State :=
  match verify s f with
  | .good => k (noteSci f s)
  | .integrity => integrityFault f s
  | .discard => s

/-! ### Leaders heard (R591) -/

/-- The lowest node of a list of leaders heard. -/
def lowestLeader (l : List (BitVec 8 × Nat)) : Option (BitVec 8) :=
  l.foldl (fun b x => match b with | none => some x.1 | some n => some (if x.1 < n then x.1 else n)) none

/-- Whether a node is the device's own pair: itself, or its partner or leader. -/
def ownPair (s : State) (n : BitVec 8) : Bool :=
  n.toNat == node s || (match s.red.pair with | some r => r.node == n | none => false)

/-- The leader a device follows: the lowest heard, or with none heard the one followed last (R591). -/
def followed (s : State) : Option (BitVec 8) :=
  match lowestLeader s.status.heard with
  | some n => some n
  | none => s.status.leaderNode

/-- A leader of the tenant heard: F410 clears; the lower node is followed; a leader outside the pair raises F500 (R591). A CRF
frame or a heartbeat `teaches` LL where it is not known yet; a program frame does not (R103). -/
def hearLeader (teaches : Bool) (n : BitVec 8) (s : State) : State :=
  let heard := (n, s.now) :: s.status.heard.filter (fun x => x.1 != n)
  let s := { s with status := { s.status with
    heard := heard, leaderNode := if teaches || s.status.leaderNode.isSome then lowestLeader heard else none } }
  let s := if anyActive 0xF410#16 s then clearAll 0xF410#16 s else s
  if inMode .leader s && !ownPair s n && !isActive 0xF500#16 n.toNat s then
    raise 0xF500#16 n.toNat [BitVec.ofNat 8 n.toNat, 0#8] s
  else s

/-- A leader absent (R591): it is no longer heard; F500 ends with the last other leader; F410 where none is left. -/
def leaderAbsent (n : BitVec 8) (s : State) : State :=
  let heard := s.status.heard.filter (fun x => x.1 != n)
  let s := { s with status := { s.status with
    heard := heard
    leaderNode := match lowestLeader heard, s.status.leaderNode with
      | some m, some _ => some m
      | _, l => l } }
  let s := clear 0xF500#16 n.toNat s
  if heard.isEmpty && (inMode .member s || inMode .partner s) && !anyActive 0xF410#16 s then raise 0xF410#16 0 [] s
  else s

/-! ### Sequence recovery (R210) -/

/-- What recovery does with an arriving number: passed or not, frames counted as lost, and its state after. -/
structure Recovered where
  /-- The frame is passed. -/
  pass : Bool
  /-- Slots shifted out without having been passed. -/
  lost : Nat
  /-- The state after. -/
  recov : Recovery
deriving DecidableEq, Repr

/-- How many of the `d` oldest slots of the 32 are unset. -/
def unset (h : BitVec 32) (d : Nat) : Nat :=
  ((List.range d).filter (fun i => !h.getLsbD (32 - d + i))).length

/-- Vector recovery of one frame at instant `now` (R210). -/
def recover (now : Nat) (q : BitVec 16) (r : Recovery) : Recovered :=
  if !r.active then ⟨true, 0, { r with active := true, seq := q, seen := 1#32, passedAt := now }⟩
  else
    let d := (q - r.seq).toInt
    if 32 ≤ d ∨ d ≤ -32 then ⟨false, 0, r⟩
    else if 0 < d then
      ⟨true, unset r.seen d.toNat,
        { r with seq := q, seen := (r.seen <<< d.toNat) ||| 1#32, passedAt := now }⟩
    else if r.seen.getLsbD (-d).toNat then ⟨false, 0, r⟩
    else ⟨true, 0, { r with seen := r.seen ||| (1#32 <<< (-d).toNat), passedAt := now }⟩

/-- Lost frames counted, and F430 in each second with the frames its stream lost in it (R211). -/
def countLost (i : Nat) (n : Nat) (s : State) : State :=
  match s.streams.rx[i]? with
  | none => s
  | some x =>
    if n = 0 then s
    else
      let key := be 1 x.node.toNat ++ be 1 x.kind
      let total := sat16 ((if folding 0xF430#16 key s then x.lost else 0) + n)
      raiseCount 0xF430#16 0 key (be 2 total) { s with
        streams := { s.streams with rx := s.streams.rx.set i { x with lost := total } }
        status := { s.status with sec := { s.status.sec with lost := sat16 (s.status.sec.lost + n) } } }

/-- A discarded stream frame counted in heartbeat bytes 27 and 28. -/
def countDiscard (s : State) : State :=
  { s with status := { s.status with sec := { s.status.sec with lost := sat16 (s.status.sec.lost + 1) } } }

/-- The place of a stream among those listened to. -/
def rxIndex (s : State) (kind : Nat) (n : BitVec 8) : Option Nat :=
  s.streams.rx.findIdx? (fun x => x.kind == kind && x.node == n)

/-- The streams listened to with one of a kind and node among them. -/
def withRx (kind : Nat) (n : BitVec 8) (s : State) : State × Nat :=
  match rxIndex s kind n with
  | some i => (s, i)
  | none =>
    ({ s with streams := { s.streams with rx := s.streams.rx ++ [{ kind := kind, node := n }] } }, s.streams.rx.length)

/-- Whether the EUI-48 of a stream's frame is the one followed, or may be followed from now on (R179). -/
def follows (now : Nat) (r : Recovery) (eui : BitVec 48) : Bool :=
  match r.follow with
  | none => true
  | some e => e == eui || decide (r.followAt + 20 * ms1 ≤ now)

/-! ### AAF frames (R181, R185 to R188) -/

/-- The channel limit of a stream (Table 8.6). -/
def channelLimit (kind format : Nat) (double : Bool) : Nat :=
  if kind = 2 then 2
  else if format = 2 then (if double then 24 else 48)
  else if double then 32 else 64

/-- The checks of Table 8.5 but the sample rate's. -/
def aafChecks (kind : Nat) (a : Aaf) : Bool :=
  match formatBytes a.format with
  | none => false
  | some w =>
    let n := a.samples.length
    a.subtype == 0x02#8 && a.sv && a.version == 0 && a.tv && nsrRate a.nsr != 0
      && decide (1 ≤ a.channels) && decide (a.channels ≤ channelLimit kind a.format (doubleRate (nsrRate a.nsr)))
      && decide (1 ≤ a.bitDepth) && decide (a.bitDepth ≤ 8 * w) && !a.sp
      && decide (1 ≤ n) && decide (n ≤ 12) && a.dataLen == n * a.channels * w
      && a.samples.all (fun x => x.length == a.channels)

/-- A sample of a format in the internal 24 bits (R185). -/
def to24 (format : Nat) (x : Int) : Int :=
  match format with
  | 2 => x / 256
  | 4 => x * 256
  | _ => x

/-- The presentation time rebuilt around the receive time: the value that is `ts` modulo 2^32 from 2^31 ns before it on (R187). -/
def rebuildTime (ts : BitVec 32) (rx : Nat) : Int :=
  let lo : Int := (rx : Int) - 2147483648
  lo + ((ts.toNat : Int) - lo) % 4294967296

/-- A CRF frame's checks (R182). -/
def crfChecks (f441 : Bool) (c : Crf) : Bool :=
  c.subtype == 0x04#8 && c.sv && c.version == 0 && c.type_ == 1 && c.pull == 0 && c.dataLen == 8
    && (if f441 then c.base == 44100 || c.base == 88200 else c.base == 48000 || c.base == 96000)
    && c.interval == c.base / 100

/-- The low 16 bits of a stream ID (R177). -/
def streamLow (t k nn : Nat) : BitVec 16 := BitVec.ofNat 16 (t * 4096 + k * 256 + nn)

/-- Whether the device listens to a stream kind of a tenant (Table 1.2, Table 10.2, R79). -/
def listensTo (s : State) (kind t : Nat) : Bool :=
  let own := t == tenant s
  match s.start.mode with
  | some .member => (own && (kind == 0 || kind == 3)) || (kind == 2 && t == 0) || (own && kind == 1)
  | some .leader => (own && (kind == 0 || kind == 1 || kind == 3)) || (kind == 2 && t == 0 && tenant s != 0)
  | some .partner => (own && (kind == 0 || kind == 1 || kind == 3)) || (kind == 2 && t == 0)
  | none => own && kind == 3
  | _ => false

/-! ### What reaches the endpoint (R162) -/

/-- Rule 2 of R162: tag, destination range, SecTAG and length. -/
def switchAdmits (f : NetFrame) : Bool :=
  (match f.vlan with | some (_, v) => decide (768 ≤ v) && decide (v ≤ 783) | none => false)
    && dstInRange f.dst && f.sec.isSome && decide (f.octets ≤ 1522)

/-- Whether the device is a kind 6 frame's addressee, by the frame's type, or listens for it (R258, R259, R261): windows while it
listens; joins at its own address; the key frame of the exchange it takes in; the done frame of a taker it serves, sent to that taker's
node; the AK of its own tenant's leader (log entry 40). -/
def kind6Listens (s : State) (f : NetFrame) : Bool :=
  let own := dstTenant f.dst == tenant s
  let p := s.sec.pairing
  match f.body with
  | .bytes _ b =>
    match (at8 b 0).toNat with
    | 1 => p.listenUntil.isSome
    | 2 => own && dstNode f.dst == node s
    | 3 => p.taking.isSome && dstNode f.dst == node s
    | 4 => own && p.exchanges.any (fun x => x.node.toNat == dstNode f.dst)
    | 5 => own
    | _ => false
  | _ => false

/-- Whether the device listens to a frame's stream or kind: its streams, the Fumarole frames of its tenant in every mode but
SLUMBER, partner frames to its own node, pairing frames, and image frames of its tenant (R20, R103, R227, R261, R452). -/
def endpointListens (s : State) (f : NetFrame) : Bool :=
  let own := dstTenant f.dst == tenant s
  match dstKind f.dst with
  | 0 | 1 | 2 | 3 => listensTo s (dstKind f.dst) (dstTenant f.dst)
      || (inMode .slumber s && s.sleep.wakeAt.isSome && own && dstKind f.dst == 3)
  | 4 => own && s.start.mode.isSome && !inMode .slumber s
  | 5 => own && dstNode f.dst == node s
  | 6 => kind6Listens s f
  | 7 => own
  | _ => false

/-- Whether a frame comes in at all: a port that is up has PHY link, and so a receive clock (R124, R157, R158). -/
def netHears (s : State) : Bool := s.ports.toList.any (fun p => p.up && p.phy)

/-- A frame the switch offers to the internal endpoint: rules 2 to 4 of R162, once step 6 of R25 is complete. -/
def isOffered (s : State) (f : NetFrame) : Bool :=
  awake s && netHears s && s.switch.tables && switchAdmits f && f.src != s.eui48 && endpointListens s f

/-- The first port at which frames come in. -/
def hearingPort (s : State) : Fin 10 := if s.ports[0].up && s.ports[0].phy then 0 else 1

/-- The words of a frame on the wire, of 8 bytes (log entry 126). -/
def frameWords (f : NetFrame) : Nat := (f.octets + 7) / 8

/-- A frame offered to the endpoint crosses into SYS and is worked on (R120, R162). -/
def endpointIn (f : NetFrame) (work : State → State) (s : State) : State :=
  if isOffered s f then crossIn (hearingPort s) (frameWords f) work s else s

end Sys2Proof.Machine
end

