-- ==== Sys2Proof/Machine/Tables.lean ====
section
/-! DEFINITION. Tables of numbers the routes use: the duck gain in linear terms and the test tone (chapter 9). -/

namespace Sys2Proof.Machine

/-- Linear gains of 0 to -20 dB in tenths of a dB, as round(2^23 × 10^(-k/200)), from entry 0 on. -/
def duckTable0 : List Nat :=
  [8388608, 8292584, 8197660, 8103822, 8011058, 7919357, 7828704, 7739090, 7650501, 7562927, 7476355, 7390774,
   7306172, 7222539, 7139863, 7058134, 6977340, 6897471, 6818517, 6740466, 6663308, 6587034, 6511633, 6437095,
   6363410, 6290569, 6218561, 6147378, 6077009, 6007446, 5938680, 5870700, 5803499, 5737067, 5671395, 5606475,
   5542298, 5478856, 5416140, 5354142, 5292854, 5232267, 5172374, 5113166, 5054636, 4996776, 4939579, 4883036,
   4827140, 4771884, 4717261, 4663263, 4609883, 4557114, 4504949, 4453381, 4402404, 4352010, 4302193, 4252946]

/-- Linear gains of 0 to -20 dB in tenths of a dB, as round(2^23 × 10^(-k/200)), from entry 60 on. -/
def duckTable1 : List Nat :=
  [4204263, 4156137, 4108563, 4061532, 4015040, 3969080, 3923647, 3878733, 3834334, 3790442, 3747054, 3704161,
   3661760, 3619844, 3578408, 3537447, 3496954, 3456925, 3417353, 3378235, 3339565, 3301337, 3263547, 3226190,
   3189260, 3152753, 3116663, 3080987, 3045719, 3010855, 2976390, 2942320, 2908640, 2875345, 2842431, 2809894,
   2777729, 2745933, 2714500, 2683428, 2652711, 2622345, 2592328, 2562654, 2533319, 2504320, 2475654, 2447315,
   2419301, 2391607, 2364231, 2337168, 2310414, 2283967, 2257823, 2231978, 2206429, 2181172, 2156204, 2131522]

/-- Linear gains of 0 to -20 dB in tenths of a dB, as round(2^23 × 10^(-k/200)), from entry 120 on. -/
def duckTable2 : List Nat :=
  [2107123, 2083003, 2059159, 2035588, 2012287, 1989252, 1966482, 1943972, 1921719, 1899721, 1877975, 1856478,
   1835227, 1814220, 1793453, 1772923, 1752629, 1732566, 1712734, 1693128, 1673747, 1654588, 1635648, 1616925,
   1598416, 1580119, 1562032, 1544151, 1526476, 1509002, 1491729, 1474653, 1457773, 1441086, 1424590, 1408283,
   1392162, 1376226, 1360473, 1344900, 1329505, 1314286, 1299242, 1284369, 1269667, 1255133, 1240766, 1226563,
   1212523, 1198643, 1184922, 1171359, 1157950, 1144695, 1131592, 1118639, 1105834, 1093176, 1080662, 1068292]

/-- Linear gains of 0 to -20 dB in tenths of a dB, as round(2^23 × 10^(-k/200)), from entry 180 on. -/
def duckTable3 : List Nat :=
  [1056063, 1043975, 1032024, 1020211, 1008533, 996988, 985576, 974294, 963141, 952116, 941217, 930443,
   919793, 909264, 898856, 888566, 878395, 868340, 858400, 848574, 838861]

/-- The linear gain of `-k` tenths of a dB, in units of 2^-23 (R198, R204). -/
def linearGain (k : Nat) : Nat := ((duckTable0 ++ duckTable1 ++ duckTable2 ++ duckTable3)[k]?).getD 838861

/-- A quarter of the test tone, round((2^23 - 1) × 0.1 × sin(2 pi n / 256)), from entry 0 on. -/
def sineTable0 : List Nat :=
  [0, 20587, 41161, 61710, 82223, 102686, 123086, 143413, 163654, 183795, 203827, 223735,
   243508, 263135, 282604, 301902, 321018, 339941, 358659, 377161, 395436, 413473, 431261, 448788,
   466046, 483023, 499709, 516094, 532168, 547921, 563344, 578428, 593164, 607542, 621555, 635193,
   648448, 661313, 673779, 685840, 697487, 708714, 719515, 729882, 739809, 749291, 758321, 766895,
   775006, 782651, 789824, 796522, 802740, 808474, 813721, 818478, 822742, 826511, 829781, 832552]

/-- A quarter of the test tone, round((2^23 - 1) × 0.1 × sin(2 pi n / 256)), from entry 60 on. -/
def sineTable1 : List Nat :=
  [834821, 836588, 837850, 838608, 838861]

/-- The test tone at phase `n` modulo 256 (R202). -/
def testTone (n : Nat) : Int :=
  let k := n % 256
  let q (j : Nat) : Int := Int.ofNat (((sineTable0 ++ sineTable1)[j]?).getD 0)
  if k ≤ 64 then q k else if k ≤ 128 then q (128 - k) else if k ≤ 192 then -(q (k - 128)) else -(q (256 - k))

end Sys2Proof.Machine
end

