-- ==== Sys2Proof/Machine/Path.lean ====
section
/-! DEFINITION. The audio path of one block: what MEDIA reads at each sample instant, what listeners present, and what the
routes make of it (chapters 8, 9, 13 to 15 and 18). -/

namespace Sys2Proof.Machine

open Sys2Proof

/-! ### Blocks (R27, R328) -/

/-- The largest block of a rate, n_max of R372. -/
def maxLen (rate : Nat) : Nat := if rate = 44100 then 45 else if rate = 88200 then 89 else if rate = 96000 then 96 else 48

/-- Device time of sample instant `i` of the present block. -/
def instantOf (s : State) (i : Nat) : Nat := s.blocks.stamp + i * 1000000000 / s.well.rate

/-- Sample instants of the present block up to the present device time. -/
def instantsNow (s : State) : Nat :=
  min (thisLen s) ((s.gptp.time - s.blocks.stamp) * s.well.rate / 1000000000 + 1)

/-- Digital zero, not marked. -/
def zeroSample : Sample := {}

/-- A value saturated to 24 bits (R198). -/
def sat24 (x : Int) : Int := max (-8388608) (min 8388607 x)

/-- A quotient rounded to nearest, ties to even. -/
def rne (num : Int) (den : Nat) : Int :=
  let q := num.fdiv den
  let r := num - q * den
  if 2 * r < den then q else if (den : Int) < 2 * r then q + 1 else if q % 2 = 0 then q else q + 1

/-! ### TDM buffers (R292, R295, R299) -/

/-- Whether a port is read as a follower port: a follower, or a leader port of a device in PARTNER or that has released its
local outputs (Table 13.4, R239). -/
def asFollower (s : State) (t : TdmPort) : Bool := !t.leader || inMode .partner s || s.red.releaseAt.isSome

/-- A frame of digital zeros. -/
def zeroFrame (n : Nat) : List Sample := List.replicate n zeroSample

/-- The concealment frame of R295. -/
def concealFrame (t : TdmPort) : List Sample := (List.range t.slots).map (fun j => ⟨(t.lastGood[j]?).getD 0, true⟩)

/-- The sample of a slot's 32 bit-clock periods, the first of them the word's most significant bit: the last 8 are ignored (R286). -/
def slotSample (w : BitVec 32) : Int := signed 24 (w.toNat / 256)

/-- A received frame of `n` slots as samples. -/
def slotSamples (n : Nat) (l : List (BitVec 32)) : List Int := padTo n 0 (l.map slotSample)

/-- A frame written into the input buffer; true where the oldest was dropped. -/
def TdmPort.write (f : List Sample) (t : TdmPort) : TdmPort × Bool :=
  if t.inBuf.length < 4 then ({ t with inBuf := t.inBuf ++ [f] }, false)
  else ({ t with inBuf := t.inBuf.drop 1 ++ [f] }, true)

/-- MEDIA's read at one sample instant; true where the buffer was empty. What was written before a loss still drains; an
unqualified port reads digital zero (R296, log entry 22). -/
def TdmPort.read (t : TdmPort) : TdmPort × Bool :=
  if t.reading || (t.qualified && decide (2 ≤ t.inBuf.length)) then
    match t.inBuf with
    | f :: q => ({ t with inBuf := q, reading := t.qualified || !q.isEmpty, got := t.got ++ [f] }, false)
    | [] =>
      if t.qualified then ({ t with reading := true, got := t.got ++ [concealFrame t] }, true)
      else ({ t with reading := false, got := t.got ++ [zeroFrame t.slots] }, false)
  else ({ t with got := t.got ++ [zeroFrame t.slots] }, false)

/-- MEDIA's write of an output frame; true where the oldest was dropped. -/
def TdmPort.writeOut (f : List Int) (t : TdmPort) : TdmPort × Bool :=
  if !t.qualified then (t, false)
  else if t.outBuf.length < 4 then ({ t with outBuf := t.outBuf ++ [f] }, false)
  else ({ t with outBuf := t.outBuf.drop 1 ++ [f] }, true)

/-- The framer's read of an output frame, which it sends; true where the buffer was empty, and zero goes in every slot (R121,
R292). -/
def TdmPort.readOut (t : TdmPort) : TdmPort × Bool :=
  match takeWord t.outBuf with
  | some (f, q) => ({ t with outBuf := q, sending := some f }, false)
  | none => ({ t with sending := some (List.replicate t.slots 0) }, true)

/-- One TDM port changed. -/
def setTdm (p : Fin 2) (t : TdmPort) (s : State) : State := { s with tdm := s.tdm.set p t }

/-- F710 for a bad frame or a slip: the cause of the second's first event, bad frames and slips in the second (R299). -/
def tdmFault (p : Fin 2) (cause : Nat) (s : State) : State :=
  let key := be 1 p.val
  let t := s.tdm[p]
  let t := if folding 0xF710#16 key s then t else { t with badSec := 0, slipSec := 0, causeSec := none }
  let t := { t with
    causeSec := some (t.causeSec.getD cause)
    badSec := if cause = 4 then t.badSec else sat16 (t.badSec + 1)
    slipSec := if cause = 4 then sat16 (t.slipSec + 1) else t.slipSec }
  raiseCount 0xF710#16 0 key (be 1 (t.causeSec.getD cause) ++ be 2 t.badSec ++ be 2 t.slipSec) (setTdm p t s)

/-- A port changed by an operation that may slip. -/
def tdmSlip (p : Fin 2) (r : TdmPort × Bool) (s : State) : State :=
  if r.2 then tdmFault p 4 (setTdm p r.1 s) else setTdm p r.1 s

/-- The samples of one output channel in a set of output blocks, as values. -/
def outValue (l : List OutBlock) (o : Out) (i : Nat) : Int :=
  match l.find? (fun b => b.out == o) with
  | some b => ((b.samples[i]?).getD zeroSample).v
  | none => 0

/-- The frame MEDIA writes toward a TDM port at sample instant `i`: the outputs of the block last completed, spread over the
active slots (R203, log entry 23). -/
def tdmOutFrame (s : State) (p : Fin 2) (i : Nat) : List Int :=
  let act := outSlots (counts s) p
  (List.range s.tdm[p].slots).map (fun j =>
    match act.findIdx? (· == j) with
    | some k => outValue s.routing.outputs (.tdm p k) i
    | none => 0)

/-- One sample instant of a TDM port that runs as a follower. -/
def tdmInstant (i : Nat) (s : State) (p : Fin 2) : State :=
  let t := s.tdm[p]
  if !t.used || !asFollower s t then s
  else
    let s := tdmSlip p t.read s
    tdmSlip p (s.tdm[p].writeOut (tdmOutFrame s p i)) s

/-! ### USB OUT (R312, R320) -/

/-- Sample frames of the target L_t: 2 ms. -/
def usbTarget (rate : Nat) : Nat := rate * 2 / 1000

/-- Whether OUT data flows: attached, configured, a non-zero alternate, not suspended. -/
def usbOutOn (s : State) : Bool := s.usb.attached && s.usb.config == 1 && s.usb.alt1 != 0 && !s.usb.suspended

/-- FE10: underruns, overruns and discarded packets of the second (Table 14.3). -/
def usbFault (under over_ thrown : Nat) (s : State) : State :=
  let u := if folding 0xFE10#16 [] s then s.usb else { s.usb with under := 0, over_ := 0, thrown := 0 }
  let u := { u with under := sat16 (u.under + under), over_ := sat16 (u.over_ + over_), thrown := sat16 (u.thrown + thrown) }
  raiseCount 0xFE10#16 0 [] (be 2 u.under ++ be 2 u.over_ ++ be 2 u.thrown) { s with usb := u }

/-- MEDIA's read of one OUT sample frame. -/
def usbInstant (s : State) : State :=
  let n := usbChannels (portsLvl s)
  if n = 0 then s
  else if !usbOutOn s then { s with usb := { s.usb with got := s.usb.got ++ [zeroFrame n] } }
  else if s.usb.filling && decide (s.usb.buf.length < usbTarget s.well.rate) then
    { s with usb := { s.usb with got := s.usb.got ++ [zeroFrame n] } }
  else
    match s.usb.buf with
    | f :: q =>
      { s with usb := { s.usb with
        filling := false, buf := q, lastOut := f, got := s.usb.got ++ [f.map (fun v => ⟨v, false⟩)] } }
    | [] =>
      let last := (List.range n).map (fun k => (⟨(s.usb.lastOut[k]?).getD 0, true⟩ : Sample))
      usbFault 1 0 0 { s with usb := { s.usb with filling := false, got := s.usb.got ++ [last] } }

/-! ### ASRC pairs (R322, R323, R326) -/

/-- The filter span: 2.4 ms of input (R323). -/
def spanNs : Nat := 2400000

/-- A pair's output sample at an instant, for one side of its input. -/
def asrcOut (rate tau : Nat) (fixed : Option Int) (l : List (Nat × Sample)) : Sample :=
  let span := l.filter (fun x => decide (x.1 ≤ tau) && decide (tau ≤ x.1 + spanNs))
  let c := span.any (fun x => x.2.c)
  match fixed with
  | some k => ⟨sat24 (Config.asrcFixed k (span.map (fun x => (rne (((tau - x.1) * rate : Nat) : Int) 1000000000, x.2.v)))), c⟩
  | none => ⟨sat24 (Config.asrc (span.map (fun x => (((tau - x.1 : Nat) : Int), x.2.v)))), c⟩

/-- A pair whose input is gone: tracking stops, and the 200 ms count is abandoned (R322). -/
def AsrcPair.stop (p : AsrcPair) : AsrcPair := { use_ := p.use_, got := p.got }

/-- The pairs of a use whose input is gone; an F740 already raised stands (R322). -/
def stopPairs (use : Nat) (s : State) : State :=
  { s with blocks := { s.blocks with pairs := s.blocks.pairs.map (fun p => if p.use_ = use then p.stop else p) } }

/-- One media sample, in the units of a pair's loop. -/
def unitSample : Int := 4294967296

/-- A device time as a position on the media grid, taken to 4 ns (R322). -/
def mediaPos (s : State) (t : Nat) : Int :=
  s.blocks.base * unitSample + (((t - t % 4 : Nat) : Int) - s.blocks.stamp) * s.well.rate * unitSample / 1000000000

/-- The power k of 2 within 1 ppm of which r lies, for k = -2 to 2 (R326). -/
def AsrcPair.nearPower (p : AsrcPair) : Option Int :=
  let one (k : Int) : Int := -- the media samples a frame at r = 2^k, or their inverse for an output pair, times 4
    let up := if 4 ≤ p.use_ && p.use_ != 8 then k else -k
    2 ^ (up + 2).toNat * unitSample
  [-2, -1, 0, 1, 2].find? (fun k => decide (((4 * p.step - one k) * 1000000).natAbs ≤ (one k).natAbs))

/-- Whether the measured ratio lies outside 0.25 to 4; before the first frame it does not (R322). -/
def AsrcPair.ratioOut (p : AsrcPair) : Bool := p.next.isSome && (decide (4 * p.step < unitSample) || decide (4 * unitSample < p.step))

/-- One input sample, in media positions: a frame for an input, a media sample for an output's pair (R322). -/
def AsrcPair.sampleStep (p : AsrcPair) : Int := if 4 ≤ p.use_ && p.use_ != 8 then unitSample else p.step

/-- Whether the tracking error exceeds one input sample period (R322). -/
def AsrcPair.errorOut (p : AsrcPair) : Bool := decide (p.sampleStep < p.error.natAbs)

/-- A tracking pair's loop over one frame of nominal rate `f` at a media position at instant `now`, or over one that has no timestamp:
the second-order loop of 5 Hz, of damping 0.71 as Wellspring's (R322, R326, log entry 148). -/
def AsrcPair.track (f rate now : Nat) (pos : Option Int) (p : AsrcPair) : AsrcPair :=
  if !p.tracking || f = 0 then p
  else
    match p.next, pos with
    | none, none => p
    | none, some x =>
      let step : Int := rate * unitSample / f
      { p with next := some (x + step), step := step, error := 0, within := some now, near := none }
    | some n, none => { p with next := some (n + p.step) }
    | some n, some x =>
      let e := x - n
      let step := p.step + e * 232139 / (1000 * f * f : Nat)
      let q := { p with next := some (n + step + e * 2163525 / (100000 * f : Nat)), step := step, error := e }
      let fits := decide (8 * e.natAbs ≤ q.sampleStep.natAbs)
      { q with
        within := if fits then some (p.within.getD now) else none
        near := q.nearPower.map (fun k => match p.near with
          | some (j, u) => if j = k then (j, u) else (k, now)
          | none => (k, now)) }

/-- One sample instant of an input pair: its output while locked, else digital zero (R322). -/
def AsrcPair.instant (rate tau : Nat) (p : AsrcPair) : AsrcPair :=
  if 4 ≤ p.use_ && p.use_ != 8 then p
  else
    let out := if p.locked then
        (asrcOut rate tau p.fixed (p.tail.map (fun x => (x.1, x.2.1))), asrcOut rate tau p.fixed (p.tail.map (fun x => (x.1, x.2.2))))
      else (zeroSample, zeroSample)
    { p with got := p.got ++ [out], tail := p.tail.filter (fun x => decide (tau < x.1 + spanNs)) }

/-! ### MEDIA over the present block -/

/-- One media sample instant. -/
def mediaInstant (s : State) (i : Nat) : State :=
  let s := usbInstant (tdmInstant i (tdmInstant i s 0) 1)
  let s := { s with usb := { s.usb with media := s.usb.media + 1, ready := min s.usb.inQ.length (s.usb.ready + 1) } }
  let tau := instantOf s i
  { s with blocks := { s.blocks with pairs := s.blocks.pairs.map (AsrcPair.instant s.well.rate tau), done := i + 1 } }

/-- MEDIA brought up to `k` sample instants of the present block (R26, R327). -/
def mediaTo (k : Nat) (s : State) : State :=
  if s.blocks.running then ((List.range k).drop s.blocks.done).foldl mediaInstant s else s

/-- MEDIA brought up to the present instant. -/
def mediaNow (s : State) : State := mediaTo (instantsNow s) s

/-! ### Presentation and concealment (R189, R387, R394) -/

/-- Samples in 40 ms. -/
def n40 (rate : Nat) : Nat := rate * 40 / 1000

/-- The fallback value of R387 for the `j`-th sample after the last accepted one. -/
def fallback (rate : Nat) (x : Int) (j : Nat) : Int :=
  if n40 rate ≤ j then 0 else (x * ((n40 rate - j : Nat) : Int)).fdiv (n40 rate : Int)

/-- The position in a block of stamp `stamp` whose instant is nearest a presentation time; halves go up (R189). -/
def nearestPos (rate stamp : Nat) (time : Int) : Int :=
  ((time - (stamp : Int)) * (rate : Int) * 2 + 1000000000).fdiv 2000000000

/-- Presentation time of sample `k` of a frame. -/
def PlayFrame.timeOf (f : PlayFrame) (k : Nat) : Int := (f.time : Int) + ((k * 1000000000 / f.rate : Nat) : Int)

/-- Of two accepted samples with their presentation times the later (R189). -/
def laterSample (a b : Option (Int × List Int)) : Option (Int × List Int) :=
  match a, b with
  | some x, some y => if x.1 ≤ y.1 then b else a
  | none, _ => b
  | _, none => a

/-- The accepted samples of a stream that fall on a position; of two, the later one in presentation time, in whatever order their
frames arrived (R189). -/
def acceptedAt (rate stamp : Nat) (pos : Nat) (l : List PlayFrame) : Option (List Int) :=
  (l.foldl (fun best f =>
    f.samples.zipIdx.foldl (fun best x =>
      if nearestPos rate stamp (f.timeOf x.2) = (pos : Int) then laterSample best (some (f.timeOf x.2, x.1)) else best) best)
    none).map (·.2)

/-- What the concealment of a channel leaves: its sample and its memory. `alt` is the value rule 1 of R394 gives. -/
def concealOne (rate : Nat) (alt : Option Int) (g : LastGood) : Sample × LastGood :=
  let v := if n40 rate ≤ g.gone then 0 else alt.getD (fallback rate g.value g.gone)
  (⟨v, true⟩, { g with gone := g.gone + 1 })

/-- One position of a stream decided: accepted samples as they are, else concealment; a stream of which nothing was accepted
gives nothing (R394). -/
def decidePos (rate stamp : Nat) (alt : Nat → Nat → Option Int) (x : RxStream) (pos : Nat) : RxStream :=
  match acceptedAt rate stamp pos x.play with
  | some l =>
    { x with
      good := l.map (fun v => { value := v })
      ready := x.ready ++ [l.map (fun v => ⟨v, false⟩)] }
  | none =>
    if x.lastAccepted.isNone then { x with ready := x.ready ++ [[]] }
    else
      let r := x.good.zipIdx.map (fun g => concealOne rate (alt pos g.2) g.1)
      { x with good := r.map (·.2), ready := x.ready ++ [r.map (·.1)] }

/-- Positions of the present block and beyond whose playout deadline has passed at device time `time` (R188, R394). -/
def decidedBy (s : State) : Nat :=
  ((s.gptp.time + 250000 - s.blocks.stamp) * s.well.rate + 999999999) / 1000000000

/-- Whether a channel has been concealed for 40 ms and not been reported, or reported and accepted again. -/
def newlyZero (rate : Nat) (g : LastGood) : Bool := decide (n40 rate < g.gone) && !g.zeros

/-- F811's unit. -/
def concealUnit (kind : Nat) (node : BitVec 8) (ch : Nat) : Nat := kind * 65536 + node.toNat * 256 + ch

/-- F811 raised for a channel that has run into zeros, and cleared for one that carries accepted samples again. -/
def concealFaults (x old : RxStream) (s : State) : State :=
  let s := (List.range old.good.length).foldl (fun (s : State) ch =>
    match old.good[ch]? with
    | some g =>
      let still := match x.good[ch]? with
        | some h => h.zeros || decide (g.gone ≤ h.gone)
        | none => false
      if g.zeros && !still then clear 0xF811#16 (concealUnit x.kind x.node ch) s else s
    | none => s) s
  (List.range x.good.length).foldl (fun (s : State) ch =>
    match x.good[ch]? with
    | some g =>
      if newlyZero s.well.rate g then
        raise 0xF811#16 (concealUnit x.kind x.node ch) (be 1 x.kind ++ be 1 x.node.toNat ++ be 1 ch) s
      else s
    | none => s) s

/-- A channel's memory once F811 has been raised for it. -/
def markZeros (rate : Nat) (x : RxStream) : RxStream :=
  { x with good := x.good.map (fun g => if newlyZero rate g then { g with zeros := true } else g) }

/-- Whether a stream passes through the announcement pair: the announcement bus in a tenant other than 0 (R185, R325). -/
def converted (s : State) (x : RxStream) : Bool := x.kind == 2 && tenant s != 0

/-- The announcement pair's input up to a device time: each position of the announcement's own grid, accepted or concealed,
at its presentation time (R322, R325). -/
def feedAnnouncement (limit : Nat) : Nat → RxStream → List (Nat × Sample × Sample) → RxStream × List (Nat × Sample × Sample)
  | 0, x, l => (x, l)
  | n + 1, x, l =>
    let time := x.anchor + x.pos * 1000000000 / x.rate
    if x.lastAccepted.isNone || limit < time then (x, l)
    else
      let y := decidePos x.rate time (fun _ _ => none) { x with ready := [] } 0
      let row := (y.ready[0]?).getD []
      let one (k : Nat) : Sample := (row[k]?).getD ((row[0]?).getD zeroSample)
      feedAnnouncement limit n { y with ready := [], pos := x.pos + 1 } (l ++ [(time, one 0, one 1)])

/-- The value rule 1 of R394 gives a channel of the station pair at a position: the output of the context serving point 5,
where its step reached its visibility instant. -/
def pointFive (s : State) (chans : Nat) (pos ch : Nat) : Option Int :=
  let n := thisLen s
  let step := if pos < n then s.blocks.number else s.blocks.number + 1
  let i := if pos < n then pos else pos - n
  let even := chans / 2
  let q := if even = 0 then 0 else node s % 32 % even
  let side := ch - 2 * q
  if ch < 2 * q || 2 * q + 1 < ch then none
  else
    (s.thr.ctxs.toList.find? (fun c => c.desc.any (fun d => d.points.contains 5))).bind (fun c =>
      (c.outs.find? (fun o => o.block == step && o.shown)).bind (fun o =>
        (o.audio[side]?).bind (fun l => l[i]?)))

/-- One received stream decided up to a position (R394, R395). -/
def presentStream (m : Nat) (s : State) (k : Nat) : State :=
  match s.streams.rx[k]? with
  | none => s
  | some x =>
    if x.kind = 3 || !s.blocks.running then s
    else if converted s x then
      let r := feedAnnouncement (s.gptp.time + 250000) 200 x []
      let y := markZeros s.well.rate r.1
      let play := y.play.filter (fun f => decide (s.gptp.time < f.time + 2000000))
      let s := concealFaults r.1 x s
      { s with
        streams := { s.streams with rx := s.streams.rx.set k { y with play := play } }
        blocks := { s.blocks with pairs := s.blocks.pairs.map (fun p =>
          if p.use_ = 8 then
            { r.2.foldl (fun (q : AsrcPair) y => q.track x.rate s.well.rate s.now (some (mediaPos s y.1))) p with tail := p.tail ++ r.2 }
          else p) } }
    else
      let alt := if x.kind = 0 then pointFive s x.channels else fun _ _ => none
      let y := ((List.range m).drop x.ready.length).foldl (decidePos s.well.rate s.blocks.stamp alt) x
      let play := y.play.filter (fun f =>
        decide ((m : Int) ≤ nearestPos s.well.rate s.blocks.stamp (f.timeOf (f.samples.length - 1))))
      let s := concealFaults y x s
      { s with streams := { s.streams with rx := s.streams.rx.set k { markZeros s.well.rate y with play := play } } }

/-- Every received stream decided as far as the playout deadlines that have passed. -/
def presentNow (s : State) : State := (List.range s.streams.rx.length).foldl (presentStream (decidedBy s)) s

/-! ### Signals and routes (chapter 9) -/

/-- The context serving a processing point, with the point's place among those it serves. -/
def servedBy (s : State) (point : Nat) : Option (Ctx × Nat) :=
  s.thr.ctxs.toList.findSome? (fun c =>
    match c.desc with
    | some d => (d.points.findIdx? (· == point)).map (fun k => (c, k))
    | none => none)

/-- Microphone `m` at sample `i` of the present block: its own, or on a device in PARTNER what its leader sent (R213, R306). -/
def rawMic (s : State) (m i : Nat) : Sample :=
  if inMode .partner s then ⟨((s.red.leaderOnly[m]?).bind (fun l => l[i]?)).getD 0, false⟩
  else
    let w := if m < 2 then s.mic.pass0 else s.mic.pass1
    if w.1 ≤ i ∧ i < w.2 then ((s.blocks.mic[m]?).bind (fun l => l[i]?)).getD zeroSample else zeroSample

/-- Microphone `m` after the enhancement point, at sample `i` of the present block (R206, R348). -/
def micSample (s : State) (m i : Nat) : Sample :=
  match servedBy s m with
  | none => rawMic s m i
  | some (c, k) =>
    match c.outs.find? (fun o => o.block == s.blocks.number) with
    | some o => ⟨((o.audio[k]?).bind (fun l => l[i]?)).getD 0, o.cls == .concealment⟩
    | none => zeroSample

/-- A sample of a list of frames. -/
def frameSample (l : List (List Sample)) (i k : Nat) : Sample := ((l[i]?).bind (fun f => f[k]?)).getD zeroSample

/-- The signals that come from local lands and clips, at sample `i` of the present block (Table 9.1). -/
def localSample (s : State) (i : Nat) : Sig → Sample
  | .clip r =>
    (match s.clips.ahead with
     | (a, b) :: _ => ⟨(if r then b[i]? else a[i]?).getD 0, false⟩
     | [] => zeroSample)
  | .mic m => micSample s m i
  | .rawSlot j => frameSample s.tdm[(0 : Fin 2)].got i j
  | .tdmIn p ch =>
    (match (inSlots (counts s) p)[ch]? with
     | some j => frameSample s.tdm[p].got i j
     | none => zeroSample)
  | .bpi n r =>
    (match s.blocks.pairs.find? (fun p => p.use_ == n.val) with
     | some p => (match p.got[i]? with
       | some g => if r then g.2 else g.1
       | none => zeroSample)
     | none => zeroSample)
  | .usbOut k =>
    if inMode .partner s then ⟨((s.red.leaderOnly[3 + k]?).bind (fun l => l[i]?)).getD 0, false⟩
    else frameSample s.usb.got i (k - 1)
  | .test c => ⟨testTone ((c + 1) * (s.routing.testN + i)), false⟩
  | _ => zeroSample

/-- A signal scaled by a gain in units of 2^-23 (R198). -/
def scaled (g : Nat) (x : Sample) : Sample := ⟨rne (x.v * (g : Int)) 8388608, x.c && decide (g ≠ 0)⟩

/-- Samples added, not yet saturated. -/
def addSamples (l : List Sample) : Sample :=
  l.foldl (fun a b => ⟨a.v + b.v, a.c || b.c⟩) zeroSample

/-- A route's value at one sample, given its signals' values and the duck gain: summed, halved for mono, saturated once (R198). -/
def mixSample (sig : Sig → Sample) (gain : Nat) (m : Mix) : Sample :=
  let sum (l : List Term) : Sample := addSamples (l.map (fun t => if t.duck then scaled gain (sig t.sig) else sig t.sig))
  match m with
  | .sum l => ⟨sat24 (sum l).v, (sum l).c⟩
  | .mono x y => ⟨sat24 (((sum x).v + (sum y).v) / 2), (sum x).c || (sum y).c⟩

/-- Whether the device makes its tenant's program bus itself: a leader, or a partner of one (R202, R213). -/
def ownsProgram (s : State) : Bool := inMode .leader s || inMode .partner s

/-- The followed program stream. -/
def programRx (s : State) : Option RxStream :=
  s.streams.rx.find? (fun x => x.kind == 0 && followed s == some x.node && x.lastAccepted.isSome)

/-- Channels of the program bus: made or accepted; none in SOLO (R197, R207). -/
def programChannels (s : State) : Nat :=
  if inMode .solo s then 0
  else if ownsProgram s then (programBus (counts s)).length
  else (programRx s).elim 0 (·.channels)

/-- Program channel `c` at sample `i`; digital zero at or above C (R197). -/
def programSample (s : State) (i c : Nat) : Sample :=
  if programChannels s ≤ c then zeroSample
  else if ownsProgram s then
    (match (programBus (counts s))[c]? with
     | some m => mixSample (localSample s i) 8388608 m
     | none => zeroSample)
  else
    match programRx s with
    | some x => frameSample x.ready i c
    | none => zeroSample

/-- The announcement bus at sample `i`: as sent, as received in tenant 0, or as converted elsewhere (R202, R325). -/
def announceSample (s : State) (i : Nat) (r : Bool) : Sample :=
  if inMode .solo s then zeroSample
  else if s.routing.profile = 11 then
    (match announceBus[if r then 1 else 0]? with
     | some m => mixSample (localSample s i) 8388608 m
     | none => zeroSample)
  else if tenant s = 0 then
    (match s.streams.rx.find? (fun x => x.kind == 2 && x.lastAccepted.isSome) with
     | some x => frameSample x.ready i (if r && decide (1 < x.channels) then 1 else 0)
     | none => zeroSample)
  else
    match s.blocks.pairs.find? (fun p => p.use_ == 8) with
    | some p => (match p.got[i]? with
      | some g => if r then g.2 else g.1
      | none => zeroSample)
    | none => zeroSample

/-- A return stream listened to; where nothing has come of it, one that carries nothing. -/
def returnRx (s : State) (nn : BitVec 8) : RxStream := (s.streams.rx.find? (fun x => x.kind == 1 && x.node == nn)).getD {}

/-- The channels an admitted stream takes in the return list: those it has now, or while nothing comes those it had (R201). -/
def returnWidth (s : State) (nn : BitVec 8) : Nat :=
  let x := returnRx s nn
  if x.lastAccepted.isSome then x.channels else ((s.streams.returns.find? (fun r => r.1 == nn)).map (·.2)).getD 0

/-- An admission result governs from now on: the list and every stream's place in it (R194, R201). -/
def admitNodes (l : List (BitVec 8)) (s : State) : State :=
  { s with streams := { s.streams with admitted := l, returns := l.map (fun nn => (nn, returnWidth s nn)) } }

/-- The return list: the channels of the admitted return streams in ascending NN; a stream that has stopped keeps its places (R201). -/
def returnList (s : State) : List (RxStream × Nat) :=
  s.streams.returns.flatMap (fun r => (List.range r.2).map (fun c => (returnRx s r.1, c)))

/-- Every signal of Table 9.1 at sample `i` of the present block. -/
def signal (s : State) (i : Nat) : Sig → Sample
  | .prog c => programSample s i c
  | .progMod k =>
    let c := programChannels s
    let q := if c / 2 = 0 then 0 else node s % 32 % (c / 2)
    if c = 0 then zeroSample else programSample s i ((2 * q + k) % c)
  | .station r =>
    let c := programChannels s
    let q := if c / 2 = 0 then 0 else node s % 32 % (c / 2)
    if c = 1 then programSample s i 0 else programSample s i (2 * q + (if r then 1 else 0))
  | .ann r => announceSample s i r
  | .ret j => (match (returnList s)[j]? with
    | some (x, c) => frameSample x.ready i c
    | none => zeroSample)
  | .retMix =>
    let sum := addSamples ((returnList s).map (fun x => scaled 1048576 (frameSample x.1.ready i x.2)))
    ⟨sat24 sum.v, sum.c⟩
  | g => localSample s i g

/-- The duck gain over the present block: from its value at this boundary to its value at the next, in a straight line of
linear gain (R204). -/
def gainAt (g0 g1 : Int) (i n : Nat) : Nat :=
  let a := linearGain g0.natAbs
  let b := linearGain g1.natAbs
  (rne ((a : Int) * ((n - i : Nat) : Int) + (b : Int) * (i : Int)) n).toNat

/-- Duck gain, phase and quiet count at the next boundary (R204). -/
def duckStep (announcing : Bool) (r : Routing) : Routing :=
  let quiet := if announcing then 0 else min 65535 (r.quiet + 1)
  let falls := announcing || r.duckPhase == .attack
  if falls && decide (-200 < r.duck) then
    { r with quiet := quiet, duck := max (-200) (r.duck - 10)
             duckPhase := if r.duck - 10 ≤ -200 then .hold else .attack }
  else if announcing then { r with quiet := quiet, duckPhase := .hold }
  else if r.duckPhase == .hold && decide (quiet ≤ 500) then { r with quiet := quiet }
  else if r.duckPhase == .rest then { r with quiet := quiet }
  else
    { r with quiet := quiet, duck := min 0 (r.duck + 1)
             duckPhase := if 0 ≤ r.duck + 1 then .rest else .release }

/-- Whether the present block is announcing: a sample of A0 or A1 of magnitude 2^13 or more (R204). -/
def announcing (s : State) : Bool :=
  hearsAnnouncement s.routing.profile.val && s.routing.profile != 11 && (List.range (thisLen s)).any (fun i =>
    decide (8192 ≤ (announceSample s i false).v.natAbs) || decide (8192 ≤ (announceSample s i true).v.natAbs))

/-- Every local output over the present block, given the duck gain at the next boundary (R199, R200). -/
def blockOutputs (s : State) (g1 : Int) : List OutBlock :=
  let n := thisLen s
  (outputs (counts s)).map (fun x =>
    { out := x.1
      samples := (List.range n).map (fun i => mixSample (signal s i) (gainAt s.routing.duck g1 i n) x.2) })

/-- The level of MUTE_N at sample `i` of the present block (R337). -/
def muteAt (b : Blocks) (i : Nat) : Bool :=
  match b.muteEdges.find? (fun e => decide (e.1 ≤ i)) with
  | some e => e.2
  | none => b.muteLow

/-- Samples of 125 µs: so far ahead of its instant a loudspeaker sample is handed to the die-to-die link (R23, R329). -/
def linkLead (rate : Nat) : Nat := (rate * 125 + 999999) / 1000000

/-- The level of MUTE_N when sample `i` of the present block is handed toward a loudspeaker (R337). -/
def muteHandOver (rate : Nat) (b : Blocks) (i : Nat) : Bool :=
  if i < linkLead rate then (b.mutePrev[i]?).getD b.muteLow else muteAt b (i - linkLead rate)

/-- Whether an output's sample is muted: what was already handed to the die-to-die link still plays (R337). -/
def muteFor (rate : Nat) (b : Blocks) (o : Out) (i : Nat) : Bool :=
  match o with
  | .lip => false
  | .spk _ => muteHandOver rate b i
  | _ => muteAt b i

/-- Samples under MUTE_N: digital zero, not marked, on every audio output but the lip-sync point (R337). -/
def muted (rate : Nat) (b : Blocks) (o : OutBlock) : OutBlock :=
  { o with samples := o.samples.zipIdx.map (fun x => if muteFor rate b o.out x.2 then zeroSample else x.1) }

end Sys2Proof.Machine
end

