-- ==== Sys2Proof/Machine/CmdAsrc.lean ====
section
/-! DEFINITION. The meanings of rate-conversion pairs, START and MUTE_N (chapter 15). -/

namespace Sys2Proof.Machine

open Sys2Proof

/-- A pair changed, where it is assigned. -/
def withPair (i : Nat) (f : AsrcPair → AsrcPair) (s : State) : State :=
  { s with blocks := { s.blocks with pairs := s.blocks.pairs.modify i f } }

/-- Whether a pair's input is valid, so that its loop may track: 64 consecutive valid frames; an audio-qualified input for an
output pair; an accepted frame for the announcement pair (R322). -/
def pairInput (s : State) (p : AsrcPair) : Bool :=
  if p.use_ < 4 then s.bpi[Fin.ofNat 4 p.use_].run == 64
  else if p.use_ < 8 then s.bpi[Fin.ofNat 4 (p.use_ - 4)].qualified
  else s.streams.rx.any (fun x => x.kind == 2 && x.lastAccepted.isSome)

/-- ASRC_TRACKING_START (R322): the ratio loop starts, and with it the 200 ms count. -/
def execAsrcTrackingStart (t : Nat) (i : Nat) (s : State) : Result :=
  let s := mediaNow (s.upTo t)
  match s.blocks.pairs[i]? with
  | some p =>
    if p.tracking || !pairInput s p then .next s
    else .next (withPair i (fun p => { p with tracking := true, since := s.now, counting := true }) s)
  | none => .next s

/-- Whether the tracking error has stayed within an eighth of an input sample period for 50 ms, at a ratio of 0.25 to 4 (R322). -/
def mayLock (s : State) (p : AsrcPair) : Bool :=
  p.tracking && !p.locked && !p.ratioOut && p.within.any (fun u => decide (u + 50 * ms1 ≤ s.now))

/-- ASRC_LOCK (R322): the tracking error has stayed within an eighth of a sample for 50 ms; F740 clears. -/
def execAsrcLock (t : Nat) (i : Nat) (s : State) : Result :=
  let s := mediaNow (s.upTo t)
  match s.blocks.pairs[i]? with
  | some p =>
    if !mayLock s p then .next s
    else
      let s := withPair i (fun p => { p with locked := true, counting := false }) s
      .next (if isActive 0xF740#16 i s then clear 0xF740#16 i s else s)
  | none => .next s

/-- ASRC_UNLOCK (R322, R326): the tracking error exceeds one input sample period, or the ratio has left 0.25 to 4: unmarked zeros
again; fixed-ratio mode ends, and the 200 ms count starts afresh. -/
def execAsrcUnlock (t : Nat) (i : Nat) (s : State) : Result :=
  let s := mediaNow (s.upTo t)
  match s.blocks.pairs[i]? with
  | some p =>
    if !p.locked || !(p.errorOut || p.ratioOut) then .next s
    else .next (withPair i (fun p => { p with
      locked := false, fixed := none, fixedNext := none, within := none, near := none, since := s.now, counting := true }) s)
  | none => .next s

/-- ASRC_LOCK_TIMEOUT (R322): 200 ms without lock; F740, whose cause is 1 where the ratio measured lies outside 0.25 to 4. The
operand says whether it does, as the pair's loop has it; a command that says otherwise is not this pair's (log entry 1). -/
def execAsrcLockTimeout (i : Nat) (ratioOut : Bool) (s : State) : Result :=
  match s.blocks.pairs[i]? with
  | some p =>
    if !p.counting || p.locked || ratioOut != p.ratioOut then .next s
    else
      let s := mediaNow (s.upTo (p.since + 200 * ms1))
      let s := withPair i (fun p => { p with counting := false }) s
      .next (raise 0xF740#16 i (be 1 i ++ be 1 p.use_ ++ be 1 (if ratioOut then 1 else 0)) s)
  | none => .next s

/-- ASRC_FIXED_RATIO_ENTRY (R326): the ratio has stayed within 1 ppm of 2^k for 1 s; fixed from the next boundary. A command that
names another power than the pair's is not this pair's (log entry 1). -/
def execAsrcFixedRatioEntry (t : Nat) (i : Nat) (k : Int) (s : State) : Result :=
  let s := s.upTo t
  match s.blocks.pairs[i]? with
  | some p =>
    match p.near with
    | some (j, u) =>
      if j ≠ k || !p.locked || p.fixed.isSome || decide (s.now < u + sec1) then .next s
      else .next (withPair i (fun p => { p with fixedNext := some k }) s)
    | none => .next s
  | none => .next s

/-- Whether the device waits for START: released, not yet found high, and not in SAFE or SLUMBER (R330, R331). -/
def awaitsStart (s : State) : Bool :=
  s.blocks.releasedAt.isSome && s.blocks.te.isNone && !inMode .safe s && !inMode .slumber s

/-- START_DETECT (R331, R332): t_e; within 20 µs after a block boundary, F730 with cause 0. -/
def execStartDetect (t : Nat) (s : State) : Result :=
  let s := s.upTo t
  if !awaitsStart s then .next s
  else
    let x := s.gptp.time - s.blocks.lastAt
    let s := { s with blocks := { s.blocks with te := some s.gptp.time } }
    .next (if s.blocks.exists_ && decide (x ≤ 20000) then raise 0xF730#16 0 (be 1 0 ++ be 2 (x / 10)) s else s)

/-- START_TIMEOUT (R333): START still low 2 s after the own release; F730 with cause 1. -/
def execStartTimeout (s : State) : Result :=
  match s.blocks.releasedAt with
  | some r =>
    if !awaitsStart s then .next s
    else
      let s := s.upTo (r + 2 * sec1)
      .next (raise 0xF730#16 0 (be 1 1 ++ be 2 65535) { s with blocks := { s.blocks with te := some s.gptp.time } })
  | none => .next s

/-- MUTE_N_CHANGE (R337): from the first sample instant that ends at least 250 ns on. The level is only kept before the start
boundary, in SLUMBER and in SAFE. -/
def execMuteNChange (t : Nat) (low : Bool) (s : State) : Result :=
  let s := s.upTo t
  if !s.blocks.started || inMode .slumber s || inMode .safe s then
    .next { s with blocks := { s.blocks with muteLow := low, muteEdges := [], mutePrev := [] } }
  else
    let k := ((s.gptp.time + 250 - s.blocks.stamp) * s.well.rate + 999999999) / 1000000000
    .next { s with blocks := { s.blocks with muteEdges := (k, low) :: s.blocks.muteEdges } }

end Sys2Proof.Machine
end

