-- ==== Sys2Proof/Machine/Biphase.lean ====
section
/-! DEFINITION. Biphase frames: what a subframe carries, the checks, channel status read and sent (chapter 12). -/

namespace Sys2Proof.Machine

open Sys2Proof

/-- The nominal frame rates of R270. -/
def nominalRates : List Nat := [32000, 44100, 48000, 88200, 96000, 176400, 192000]

/-- The nominal rate a measured rate in mHz counts as: within 1000 ppm; 0 outside every band (R270). -/
def rateBand (mHz : Nat) : Nat :=
  (nominalRates.find? (fun f => decide (f * 999 ≤ mHz) && decide (mHz ≤ f * 1001))).getD 0

/-- The 24-bit sample of a subframe, slots 4 to 27 (R269). -/
def subSample (x : Subframe) : Int := signed 24 (x.bits.toNat % 16777216)
/-- Slot 28. -/
def subV (x : Subframe) : Bool := x.bits.getLsbD 24
/-- Slot 30. -/
def subC (x : Subframe) : Bool := x.bits.getLsbD 26
/-- Slots 4 to 31 have even parity (R272). -/
def evenParity (x : Subframe) : Bool := ((List.range 28).filter (fun i => x.bits.getLsbD i)).length % 2 == 0
/-- Bits [23:8] of the sample (R277). -/
def subWord (x : Subframe) : Nat := x.bits.toNat / 256 % 65536
/-- The IEC 61937 Pa word (R277). -/
def isPa (x : Subframe) : Bool := subWord x == 0xF872
/-- The IEC 61937 Pb word (R277). -/
def isPb (x : Subframe) : Bool := subWord x == 0x4E1F
/-- Subframe 1 starts with B or M (R272). -/
def firstOk (x : Subframe) : Bool := x.pre == some .b || x.pre == some .m
/-- Subframe 2 starts with W (R272). -/
def secondOk (x : Subframe) : Bool := x.pre == some .w

/-- One bit of the CRCC of IEC 60958-4, x^8 + x^4 + x^3 + x^2 + 1, in transmission order. -/
def crccBit (c : BitVec 8) : BitVec 8 := if c.getLsbD 0 then (c >>> 1) ^^^ 0xB8#8 else c >>> 1

/-- The CRCC over channel-status bytes (R273, R282). -/
def crcc (l : List Byte) : Byte := l.foldl (fun c b => iter crccBit 8 (c ^^^ b)) 0xFF#8

/-- Channel-status bits as bytes, byte 0 bit 0 first (R269). -/
def statusBytes (bits : List Bool) : List Byte := (List.range 24).map (fun i => flagByte ((bits.drop (8 * i)).take 8))

/-- Whether a complete block is accepted: a consumer block as it stands, a professional one whose CRCC checks or is zero
(R273). -/
def statusAccepted (b : List Byte) : Bool :=
  !(at8 b 0).getLsbD 0 || at8 b 23 == 0#8 || at8 b 23 == crcc (b.take 23)

/-- The non-audio bit of an accepted block (R273). -/
def nonAudio (b : List Byte) : Bool := (at8 b 0).getLsbD 1

/-- Consumer sampling-frequency code of IEC 60958-3, byte 3. -/
def consumerRate (r : Nat) : Nat :=
  match r with
  | 48000 => 2 | 32000 => 3 | 88200 => 8 | 96000 => 10 | 176400 => 12 | 192000 => 14 | _ => 0

/-- Professional sampling-frequency code of IEC 60958-4: byte 0 and byte 4. -/
def professionalRate (r : Nat) : Nat × Nat :=
  match r with
  | 48000 => (0x80, 0) | 44100 => (0x40, 0) | 32000 => (0xC0, 0)
  | 96000 => (0, 0x10) | 88200 => (0, 0x50) | 192000 => (0, 0x18) | 176400 => (0, 0x58) | _ => (0, 0)

/-- The channel status an output sends (Table 12.3). -/
def channelStatus (professional : Bool) (rate : Nat) : List Byte :=
  if professional then
    let r := professionalRate rate
    let b := be 1 (5 + r.1) ++ [0x08#8, 0x2C#8, 0#8] ++ be 1 r.2 ++ List.replicate 18 0#8
    b ++ [crcc b]
  else [0x04#8, 0#8, 0#8] ++ be 1 (consumerRate rate) ++ [0x0B#8] ++ List.replicate 19 0#8

/-! ### Frames sent (R102, R269, R282, R283) -/

/-- A subframe sent: preamble, sample, V, U, C and the parity that makes slots 4 to 31 even (Table 12.1). -/
def sendSubframe (pre : Preamble) (v : Int) (mark user status : Bool) : Subframe :=
  let low := (v % 16777216).toNat + flagAt mark 24 + flagAt user 25 + flagAt status 26
  let x : Subframe := { pre := some pre, bits := BitVec.ofNat 28 low }
  { x with bits := BitVec.ofNat 28 (low + flagAt (!evenParity x) 27) }

/-- The user bit of a subframe, by the place of its frame in the block and its side: each byte goes least significant bit first over
four frames, two bits a frame (R7, R102). -/
def userBit (l : BpoLine) (i : Nat) (right : Bool) : Bool :=
  let place := l.start % 4 + i
  (at8 l.slots (place / 4)).getLsbD (2 * (place % 4) + right.toNat)

/-- Frame `i` that an output sends in a data-path block: its samples with their concealment as V and U zero where it carries audio;
digital zero, V set and the user bits of its path where it carries Fumarole frames (R102, R283). -/
def bpoFrame (audio : Option (Sample × Sample)) (cs : List Byte) (l : BpoLine) (i : Nat) : Subframe × Subframe :=
  let pos := (l.start + i) % 192
  let c := (at8 cs (pos / 8)).getLsbD (pos % 8)
  let first : Preamble := if pos = 0 then .b else .m
  match audio with
  | some x => (sendSubframe first x.1.v x.1.c false c, sendSubframe .w x.2.v x.2.c false c)
  | none => (sendSubframe first 0 true (userBit l i false) c, sendSubframe .w 0 true (userBit l i true) c)

/-- The samples of frame `i`: the route's over the block, or, following an input, what the output's pair gave for that frame
(R280). -/
def bpoSamples (s : State) (n : Fin 4) (i : Nat) : Sample × Sample :=
  let side (r : Bool) : Sample :=
    ((s.routing.outputs.find? (fun o => o.out == .bpo n r)).bind (fun o => o.samples[i]?)).getD zeroSample
  if s.bpo[n].follow then
    ((s.blocks.pairs.find? (fun p => p.use_ == 4 + n.val)).bind (fun p => p.got[i]?)).getD (zeroSample, zeroSample)
  else (side false, side true)

/-- Every frame an output sends over the block that ends; none while its land is low (R285). -/
def bpoFrames (s : State) (n : Fin 4) : List (Subframe × Subframe) :=
  let b := s.bpo[n]
  let l := s.status.lines[n]
  let audio := bpoUsed s.routing.profile.val n && !inMode .safe s
  if b.running then
    (List.range l.sent).map (fun i => bpoFrame (if audio then some (bpoSamples s n i) else none) b.cs l i)
  else []

/-- The frames of the block that ends as they were sent, and the count of them begun afresh. -/
def keepFrames (s : State) : State :=
  { s with
    bpo := Vector.ofFn (fun n => { s.bpo[n] with frames := bpoFrames s n })
    status := { s.status with lines := s.status.lines.map BpoLine.next } }

/-- F702: errors of an input in the second (Table 12.2). -/
def biphaseErrors (n : Fin 4) (pre par len : Nat) (s : State) : State :=
  if pre + par + len = 0 then s
  else
    let key := be 1 n.val
    let x := s.bpi[n]
    let x := if folding 0xF702#16 key s then x else { x with preambles := 0, parities := 0, lengths := 0 }
    let x := { x with
      preambles := sat16 (x.preambles + pre), parities := sat16 (x.parities + par), lengths := sat16 (x.lengths + len) }
    raiseCount 0xF702#16 0 key (be 2 x.preambles ++ be 2 x.parities ++ be 2 x.lengths) { s with bpi := s.bpi.set n x }

/-- Whether an input's pair in the ASRC bank has locked; an input that no route names needs none (R271, R276). -/
def inputPairLocked (s : State) (n : Fin 4) : Bool :=
  s.blocks.pairs.all (fun p => p.use_ != n.val || p.locked)

/-- A released frame handed to the input's pair at the place in time at which it arrived (R118, R271, R272). -/
def toPair (n : Fin 4) (f : BpiFrame) (s : State) : State :=
  { s with blocks := { s.blocks with pairs := s.blocks.pairs.map (fun p =>
    if p.use_ = n.val then { p with tail := p.tail ++ [(f.at_, f.left, f.right)] } else p) } }

/-- The loops of the pairs that an input's frames time: its own and the following output's (R322). A frame without a preamble has no
timestamp. -/
def trackFrame (n : Fin 4) (rate : Nat) (timed : Bool) (s : State) : State :=
  let pos := if timed then some (mediaPos s s.gptp.time) else none
  { s with blocks := { s.blocks with pairs := s.blocks.pairs.map (fun p =>
    if p.use_ = n.val || p.use_ = 4 + n.val then p.track rate s.well.rate s.now pos else p) } }

/-- One side's sample of a following output at the present instant: its pair's, digital zero under MUTE_N (R280, R337). -/
def followSample (s : State) (p : AsrcPair) (right : Bool) : Sample :=
  if !p.locked || muteAt s.blocks (instantsNow s - 1) then zeroSample
  else asrcOut s.well.rate s.gptp.time p.fixed (p.tail.map (fun x => (x.1, if right then x.2.2 else x.2.1)))

/-- A following output sends one frame for each of its input's (R280, R281). -/
def followFrame (n : Fin 4) (s : State) : State :=
  if !s.bpo[n].running || !s.bpo[n].follow then s
  else
    { s with
      blocks := { s.blocks with pairs := s.blocks.pairs.map (fun p =>
        if p.use_ = 4 + n.val then { p with got := p.got ++ [(followSample s p false, followSample s p true)] } else p) }
      status := s.status.setBpo n (BpoSend.frame (s.status.lines[n], s.status.bpo[n])) }

/-- The frame in the hold released (R272). -/
def releaseHeld (n : Fin 4) (s : State) : State :=
  match s.bpi[n].held with
  | some f => toPair n f { s with bpi := s.bpi.set n { s.bpi[n] with held := none } }
  | none => s

/-- A subframe's sample after the checks: itself with its validity mark, or the last good one, concealed (R272, R274). -/
def checkedSample (x : Subframe) (bad : Bool) (good : Option Int) : Sample :=
  if bad then ⟨good.getD 0, true⟩ else ⟨subSample x, subV x⟩

/-- What a frame's channel-status bit makes of the block under way: the input after it, a length error, and the accepted
block that just ended (R273). -/
def statusStep (x : Bpi) (f : Subframe) (bad : Bool) : Bpi × Bool × Option (List Byte) :=
  if f.pre = some .b then
    let whole := x.inBlock && x.cs.length == 192
    let b := statusBytes x.cs
    let accepted := if whole && !x.csBad && statusAccepted b then some b else none
    ({ x with inBlock := true, cs := [subC f], csBad := bad }, x.inBlock && !whole, accepted)
  else if x.inBlock then ({ x with cs := (x.cs ++ [subC f]).take 193, csBad := x.csBad || bad }, false, none)
  else (x, false, none)

/-- The clean count after a frame (R278): it saturates at 4096. -/
def cleanAfter (x : Bpi) (spoiled ended : Bool) : Nat :=
  if spoiled then 0 else if ended then 1 else min 4096 (x.clean + 1)

end Sys2Proof.Machine
end

