-- ==== Sys2Proof/Machine/CmdBiphase.lean ====
section
/-! DEFINITION. The meanings of frames at, and losses of, the biphase inputs (chapter 12). -/

namespace Sys2Proof.Machine

open Sys2Proof

/-- Whether the inputs are judged for audio: running, and not in SLUMBER or SAFE (R276). -/
def audioOn (s : State) : Bool := s.start.tRun.isSome && s.start.mode.isSome && !inMode .slumber s && !inMode .safe s

/-- F701 with its trigger, at the first trigger (R277). -/
def nonAudioFault (n : Fin 4) (burst : Bool) (s : State) : State :=
  raise 0xF701#16 n.val (be 1 n.val ++ be 1 (if burst then 1 else 0)) s

/-- A frame taken in by its input: the frame in the hold is released, and this one takes its place after the checks: concealment of
bad subframes, channel status, the burst preambles, qualification, and the mutes and their releases (R272 to R278). -/
def takeFrame (n : Fin 4) (f : BiphaseFrame) (s : State) : State :=
  let s := followFrame n (mediaNow s)
  let pre1 := !firstOk f.first
  let pre2 := !secondOk f.second
  let bad1 := pre1 || !evenParity f.first
  let bad2 := pre2 || !evenParity f.second
  let x := s.bpi[n]
  let (x, lengthError, ended) := statusStep x f.first bad1
  let endsNonAudio := ended.any nonAudio
  -- burst preambles: Pb in this frame's first subframe after Pa in the held one's second, or both in this frame
  let burstHeld := x.paSeen && isPb f.first
  let burstHere := isPa f.first && isPb f.second
  let held := if burstHeld then x.held.map (fun h => { h with right := zeroSample }) else x.held
  let mute := x.muteAudio || endsNonAudio || burstHeld || burstHere
  let fresh := mute && !x.muteAudio
  -- qualification
  let rate := rateBand f.rate
  let run := if pre1 || pre2 || rate == 0 then 0 else min 64 (x.run + 1)
  let qualified := x.qualified || (run == 64 && inputPairLocked s n)
  let opened := qualified && x.muteClock
  let left := checkedSample f.first bad1 (if opened then none else x.goodL)
  let right := checkedSample f.second bad2 (if opened then none else x.goodR)
  let frame : BpiFrame :=
    if mute || !qualified then { at_ := s.gptp.time } else { at_ := s.gptp.time, left := left, right := right }
  -- the clean count and the release of a non-audio mute, from the next frame on
  let spoiled := bad1 || bad2 || isPa f.first || isPb f.first || isPa f.second || isPb f.second
  let clean := cleanAfter x spoiled endsNonAudio
  let release := mute && clean == 4096
  let gone := opened || release
  let y : Bpi := { x with
    present := true, rate := rate, run := run, qualified := qualified, held := some frame
    goodL := if bad1 then (if gone then none else x.goodL) else if release then none else some (subSample f.first)
    goodR := if bad2 then (if gone then none else x.goodR) else if release then none else some (subSample f.second)
    paSeen := isPa f.second, muteClock := !qualified, muteAudio := mute && !release, clean := clean }
  let s := trackFrame n (rateBand f.rate) (!pre1) (releaseHeld n { s with bpi := s.bpi.set n { x with held := held } })
  let s := { s with bpi := s.bpi.set n { y with preambles := s.bpi[n].preambles, parities := s.bpi[n].parities, lengths := s.bpi[n].lengths } }
  let bit (b : Bool) : Nat := if b then 1 else 0
  let s := biphaseErrors n (bit pre1 + bit pre2) (bit (!evenParity f.first) + bit (!evenParity f.second)) (bit lengthError) s
  let s := if fresh then nonAudioFault n (burstHeld || burstHere) s else s
  let s := if release then clear 0xF701#16 n.val s else s
  if opened && x.lost then
    clear 0xF700#16 n.val { s with bpi := s.bpi.set n { s.bpi[n] with lost := false } } else s

/-- BIPHASE_FRAME_RECEIVE (R120, R272 to R278): one word through the input's crossing queue. -/
def execBiphaseFrameReceive (t : Nat) (n : Fin 4) (f : BiphaseFrame) (s : State) : Result :=
  let s := s.upTo t
  .next (if audioOn s then crossIn ⟨3 + n.val, by omega⟩ 1 (takeFrame n f) s else s)

/-- BIPHASE_INPUT_LOSS (R276): a qualified input is lost; the pair is muted, the crossing emptied, F700. -/
def execBiphaseInputLoss (t : Nat) (n : Fin 4) (rateOut : Bool) (s : State) : Result :=
  let s := s.upTo t
  if !audioOn s then .next s
  else
    let s := releaseHeld n (mediaNow s)
    let x := s.bpi[n]
    let y : Bpi := { x with
      present := rateOut, rate := 0, run := 0, qualified := false, held := none, goodL := none, goodR := none, paSeen := false
      cs := [], csBad := false, inBlock := false, muteClock := true, clean := 0, lost := x.lost || x.qualified }
    let s := stopPairs (4 + n.val) (stopPairs n.val { s with bpi := s.bpi.set n y })
    .next (if x.qualified then raise 0xF700#16 n.val (be 1 n.val ++ be 1 (if rateOut then 1 else 0)) s else s)

end Sys2Proof.Machine
end

