-- ==== Sys2Proof/Machine/Model.lean ====
section
/-! DEFINITION. A model set: its descriptors, weight blocks, budgets, schedule, Silo layout, and the rules it must meet
(chapter 17). -/

namespace Sys2Proof.Machine

open Sys2Proof

/-- A little-endian number of `n` bytes at an offset. -/
def leAt (l : List Byte) (off n : Nat) : Nat := ofLe (padTo n 0#8 (slice off n l))

/-- All bytes from `off` on, `n` of them, are zero. -/
def zeros (l : List Byte) (off n : Nat) : Bool := (slice off n l).all (· == 0#8)

/-- A number rounded up to a multiple. -/
def roundUp (n k : Nat) : Nat := (n + k - 1) / k * k

/-- Sum of a list. -/
def sumNat (l : List Nat) : Nat := l.foldl (· + ·) 0

/-- The largest block of a media rate code: 1 44.1, 2 48, 3 88.2, 4 96 kHz (R372). -/
def codeMax (code : Nat) : Nat := if code = 1 then 45 else if code = 3 then 89 else if code = 4 then 96 else 48

/-! ### Descriptors (R367 to R370) -/

/-- A layer descriptor (Table 17.3). -/
def parseLayer (b : List Byte) : LayerDesc :=
  { type_ := leAt b 0 1, fmt := leAt b 1 1, gate := leAt b 2 1, n := leAt b 3 1, inW := leAt b 4 2, outW := leAt b 6 2
    off := leAt b 8 4, len := leAt b 12 4, k := BitVec.ofNat 32 (leAt b 16 4) }

/-- The points a context serves (R371). -/
def pointsOf (ms : List Byte) (ctx : Nat) : List Nat := (List.range 8).filter (fun i => leAt ms (20 + i) 1 == ctx)

/-- A context descriptor with its layers (Table 17.2). -/
def parseCtx (ms : List Byte) (i : Nat) : CtxDesc :=
  let b := slice (64 + 32 * i) 32 ms
  let first := leAt b 8 4
  { ctx := leAt b 0 1, ahead := leAt b 1 1 == 1, len := leAt b 2 1, speculable := (at8 b 4).getLsbD 0
    bidir := (at8 b 4).getLsbD 1, inCh := leAt b 5 1, outCh := leAt b 6 2, stateBytes := leAt b 12 4
    crc := BitVec.ofNat 32 (leAt b 16 4), kin := BitVec.ofNat 32 (leAt b 20 4)
    layers := (List.range (leAt b 3 1)).map (fun j => parseLayer (slice (first + 32 * j) 32 ms))
    points := pointsOf ms (leAt b 0 1) }

/-- Every context descriptor of a model set, in file order. -/
def parseCtxs (ms : List Byte) : List CtxDesc := (List.range (leAt ms 7 1)).map (parseCtx ms)

/-- Offset of a model set's weight section. -/
def weightOff (ms : List Byte) : Nat := leAt ms 12 4

/-- The bytes of a layer's weight block. -/
def weightBlock (ms : List Byte) (d : LayerDesc) : List Byte := slice (weightOff ms + d.off) d.len ms

/-- An element of a Mode E chain. -/
structure Element where
  /-- 1 first-order, 2 biquad, 3 rectifier, 4 square, 5 peak with decay, 6 gain. -/
  kind : Nat
  /-- Step rather than sample rate. -/
  stepRate : Bool
  /-- Input scale. -/
  eIn : Int
  /-- Output scale. -/
  eOut : Int
  /-- Q2.29 coefficients. -/
  coef : List Int
deriving DecidableEq, Repr

/-- Coefficients of an element kind (Table 16.5). -/
def coefCount (kind : Nat) : Nat := match kind with | 1 => 2 | 2 => 5 | 5 => 1 | 6 => 1 | _ => 0

/-- INT32 values an element keeps (R382). -/
def histCount (kind : Nat) : Nat := match kind with | 1 => 1 | 2 => 4 | 5 => 1 | _ => 0

/-- The elements of a Mode E weight block, each beginning on a 64-byte boundary (R370). -/
def parseElements (b : List Byte) : Nat → Nat → List Element
  | 0, _ => []
  | n + 1, off =>
    let kind := leAt b off 1
    let c := (List.range (coefCount kind)).map (fun i => signed 32 (leAt b (off + 8 + 4 * i) 4))
    { kind := kind, stepRate := leAt b (off + 1) 1 == 1, eIn := signed 8 (leAt b (off + 2) 1)
      eOut := signed 8 (leAt b (off + 3) 1), coef := c }
      :: parseElements b n (roundUp (off + 8 + 4 * coefCount kind) 64)

/-- Sizes of the parts of a weight block, in order: each matrix, its scales and its biases, then A and D (R370). -/
def partSizes (d : LayerDesc) (els : List Element) : List Nat :=
  let mat (c : Nat) : List Nat := [c * d.inW, 4 * c, 4 * c]
  let set (withD : Bool) : List Nat :=
    mat d.outW ++ mat d.outW ++ mat d.n ++ mat d.n ++ [4 * d.outW * d.n] ++ (if withD then [4 * d.outW] else [])
  match d.type_ with
  | 1 => mat d.outW
  | 2 => set true
  | 3 => set true ++ set false
  | _ => els.map (fun e => 8 + 4 * coefCount e.kind)

/-- Where each part starts. -/
def partStarts (sizes : List Nat) : List Nat :=
  (sizes.foldl (fun (a : List Nat × Nat) n => (a.1 ++ [a.2], roundUp (a.2 + n) 64)) ([], 0)).1

/-- Bytes a list of parts takes. -/
def partsEnd (sizes : List Nat) : Nat := sizes.foldl (fun a n => roundUp a 64 + n) 0

/-- Elements of a layer's chain; none for another type. -/
def elementsOf (ms : List Byte) (d : LayerDesc) : List Element :=
  if d.type_ = 4 then parseElements (weightBlock ms d) d.n 0 else []

/-- State bytes of a layer (R382). -/
def layerState (d : LayerDesc) (els : List Element) : Nat :=
  match d.type_ with
  | 2 | 3 => 2 * d.outW * d.n
  | 4 => 4 * d.outW * sumNat (els.map (fun e => histCount e.kind))
  | _ => 0

/-! ### Budget and schedule (R346, R348, R376, R377) -/

/-- K: L, or 2L with a bidirectional layer (R348). -/
def CtxDesc.kay (d : CtxDesc) : Nat := if d.bidir then 2 * d.len else d.len

/-- ceil(a / b). -/
def ceilDiv (a b : Nat) : Nat := (a + b - 1) / b

/-- Combines of a scan over M elements (R353). -/
def combines (m : Nat) : Nat := m * Nat.log2 m - (m - 1)

/-- Cycles of one layer, its lane results apart: matrix and scan terms (Table 17.6). -/
def layerCycles (l : Nat) (before : Bool) (d : LayerDesc) : Nat :=
  let f := if d.fmt = 1 then 2 else 1
  let mat (c : Nat) : Nat := ceilDiv c 64 * ceilDiv d.inW 32 * f
  let set := mat d.outW + mat d.outW + mat d.n + mat d.n
  let scan (m : Nat) : Nat := 2 * combines m * ceilDiv (d.outW * d.n) 64
  match d.type_ with
  | 1 => (if before then 2 * l else l) * mat d.outW
  | 2 => l * set + scan l
  | 3 => l * set + scan l + 2 * l * set + scan (2 * l)
  | _ => 0

/-- Lane results of one layer; `nmax` samples a step (Table 17.6). -/
def layerLanes (l nmax : Nat) (before : Bool) (d : LayerDesc) (els : List Element) : Nat :=
  let c := d.outW
  let n := d.n
  let steps (m : Nat) : Nat := m * (c + 3 * c * n + 2 * c * n)
  match d.type_ with
  | 1 => (if before then 2 * l else l) * ((if d.gate = 0 then 0 else c) + c)
  | 2 => steps l + l * (c * (2 * n + 2)) + l * c
  | 3 => steps l + l * (c * (2 * n + 2)) + steps (2 * l) + l * (c * 2 * n) + l * c + l * c
  | _ =>
    let per (e : Element) : Nat :=
      (match e.kind with | 1 => 2 | 2 => 4 | _ => 1) * (if e.stepRate then l else l * nmax)
    c * sumNat (els.map per) + d.inW * l

/-- Whether the layer at a place precedes a bidirectional one. -/
def precedesBidir (layers : List LayerDesc) (i : Nat) : Bool := (layers.drop (i + 1)).any (fun d => d.type_ == 3)

/-- A job's budget in TH cycles (R376). -/
def budgetOf (ms : List Byte) (nmax : Nat) (d : CtxDesc) : Nat :=
  let ls := d.layers.zipIdx
  let lanes := sumNat (ls.map (fun x => layerLanes d.len nmax (precedesBidir d.layers x.2) x.1 (elementsOf ms x.1)))
  1000 + ceilDiv (5 * d.stateBytes) 4 + sumNat (ls.map (fun x => layerCycles d.len (precedesBidir d.layers x.2) x.1))
    + ceilDiv lanes 64

/-- Job load (R377). -/
def CtxDesc.load (d : CtxDesc) : Nat := if d.speculable then 2 * d.budget else d.budget

/-- The greatest load among the rows of a residue. -/
def worstRow (load : List Nat) (l psi : Nat) : Nat :=
  (load.zipIdx.filter (fun x => x.2 % l == psi)).foldl (fun a x => max a x.1) 0

/-- The lowest residue of least cost (R377). -/
def bestPsi (load : List Nat) (l : Nat) : Nat :=
  (List.range l).foldl (fun best psi => if worstRow load l psi < worstRow load l best then psi else best) 0

/-- Contexts placed in the schedule, ascending, with the row loads they leave (R377). -/
def placeAll (load : List Nat) : List CtxDesc → List CtxDesc × List Nat
  | [] => ([], load)
  | d :: rest =>
    let psi := bestPsi load d.len
    let phase := if d.ahead then (psi + 1) % d.len else (psi + d.len * 4 - d.kay) % d.len
    let load := load.zipIdx.map (fun x => if x.2 % d.len = psi then x.1 + d.load else x.1)
    let r := placeAll load rest
    ({ d with psi := psi, phase := phase } :: r.1, r.2)

/-- A context put into a list in ascending order. -/
def insertCtx (d : CtxDesc) : List CtxDesc → List CtxDesc
  | [] => [d]
  | x :: l => if d.ctx ≤ x.ctx then d :: x :: l else x :: insertCtx d l

/-- The schedule of a model set: its contexts in ascending order with their places, and the row loads (R377). -/
def schedule (ms : List Byte) : List CtxDesc × List Nat :=
  let nmax := codeMax (leAt ms 36 1)
  let l := ((parseCtxs ms).map (fun d => { d with budget := budgetOf ms nmax d })).foldr insertCtx []
  placeAll (List.replicate 32 20000) l

/-! ### The Silo (R381) -/

/-- Bytes of the largest checkpoint image (R381). -/
def ckptMax (l : List CtxDesc) : Nat := 256 + sumNat (l.map (fun d => 8 + d.stateBytes)) + 4

/-- State bytes of context 15 (R375). -/
def plantState : Nat := 4096

/-- Where the state region ends. -/
def stateEnd (l : List CtxDesc) : Nat := 0x2000 + sumNat (l.map (fun d => 2 * roundUp d.stateBytes 64)) + 2 * plantState

/-- Start of a bank of a context; context 15 lies last (R381). -/
def bankAddr (l : List CtxDesc) (ctx : Nat) (bank : Bool) : Nat :=
  let before := sumNat ((l.filter (fun d => decide (d.ctx < ctx))).map (fun d => 2 * roundUp d.stateBytes 64))
  let size := match l.find? (fun d => d.ctx == ctx) with
    | some d => roundUp d.stateBytes 64
    | none => plantState
  0x2000 + before + (if bank then size else 0)

/-- Start of a checkpoint buffer (R381). -/
def ckptAddr (l : List CtxDesc) (second : Bool) : Nat :=
  roundUp (stateEnd l) 4096 + (if second then roundUp (ckptMax l) 4096 else 0)

/-- Start of the record ring (R381). -/
def ringAddr (l : List CtxDesc) : Nat := roundUp (stateEnd l) 4096 + 2 * roundUp (ckptMax l) 4096

/-! ### Rules (R373, R415) -/

/-- Inclusive range. -/
def within (lo x hi : Nat) : Bool := decide (lo ≤ x) && decide (x ≤ hi)

/-- Rule 1: header, descriptors and weight blocks lie within the model set. -/
def rule1 (ms : List Byte) (index : Nat) : Bool :=
  let total := ms.length
  let w := weightOff ms
  let ds := parseCtxs ms
  ms.take 6 == [0x53#8, 0x4B#8, 0x4D#8, 0x53#8, 1#8, 0#8] && leAt ms 6 1 == index && within 0 (leAt ms 7 1) 15
    && leAt ms 8 4 == total && w % 64 == 0 && decide (w + leAt ms 16 4 ≤ total)
    && decide (64 + 32 * leAt ms 7 1 ≤ total)
    && decide (leAt ms 28 4 + leAt ms 32 4 ≤ total) && within 1 (leAt ms 36 1) 4
    && (List.range (leAt ms 7 1)).all (fun i => decide (leAt ms (64 + 32 * i + 8) 4 + 32 * leAt ms (64 + 32 * i + 3) 1 ≤ total))
    && ds.all (fun d => d.layers.all (fun x =>
        x.off % 64 == 0 && decide (x.off + x.len ≤ leAt ms 16 4) && decide (partsEnd (partSizes x (elementsOf ms x)) ≤ x.len)))

/-- Rule 2: distinct numbers, points that name contexts of the set, every context with a point, of one row of Table 17.4. -/
def rule2 (ms : List Byte) : Bool :=
  let ds := parseCtxs ms
  let nums := ds.map (·.ctx)
  nums.all (fun c => (nums.filter (· == c)).length == 1 && decide (c ≤ 14))
    && (List.range 8).all (fun i => leAt ms (20 + i) 1 == 255 || (decide (i ≤ 5) && nums.contains (leAt ms (20 + i) 1)))
    && ds.all (fun d => !d.points.isEmpty && (d.points.all (· ≤ 3) || d.points == [4] || d.points == [5]))

/-- Rule 3: kind and channels agree with Table 17.4. -/
def rule3 (ms : List Byte) : Bool :=
  (List.range (leAt ms 7 1)).all (fun i =>
    let d := parseCtx ms i
    decide (leAt ms (64 + 32 * i + 1) 1 ≤ 1) && (d.len == 8 || d.len == 16 || d.len == 32)
      && within 1 d.layers.length 12
      && (if d.points == [4] then d.ahead && d.inCh == 1 && d.outCh == 1
          else if d.points == [5] then d.ahead && d.inCh == 2 && d.outCh == 2
          else !d.ahead && d.inCh == d.points.length && d.outCh == d.points.length))

/-- Rule 4: sizes of matrices and layers. -/
def rule4 (ds : List CtxDesc) : Bool :=
  ds.all (fun d => d.layers.all (fun x =>
    within 1 x.type_ 4 && decide (x.inW ≤ 4096)
      && (if x.type_ = 1 then decide (x.outW ≤ 4096) && x.n == 0 && decide (x.fmt ≤ 1) && decide (x.gate ≤ 5)
          else if x.type_ = 4 then decide (x.outW ≤ 512) && within 1 x.n 32 && x.fmt == 2 && x.gate == 0
          else decide (x.outW ≤ 512) && within 1 x.n 16 && decide (x.fmt ≤ 1) && x.gate == 0)))

/-- Rule 5: widths follow one another. -/
def rule5 (nmax : Nat) (ds : List CtxDesc) : Bool :=
  ds.all (fun d =>
    let outW := if d.points == [4] then d.outCh else d.outCh * nmax
    let ins := d.layers.map (·.inW)
    let outs := d.layers.map (·.outW)
    ins == (d.inCh * nmax :: outs.dropLast) && outs.getLast? == some outW)

/-- Rule 6: at most one bidirectional layer, only dense ones before it, and the flag agrees. -/
def rule6 (ds : List CtxDesc) : Bool :=
  ds.all (fun d =>
    let bi := d.layers.filter (fun x => x.type_ == 3)
    decide (bi.length ≤ 1) && d.bidir == !bi.isEmpty
      && (bi.isEmpty || (d.layers.takeWhile (fun x => x.type_ != 3)).all (fun x => x.type_ == 1)))

/-- Rule 7: no fed-ahead context with a lead above 63 ms, and only fed-ahead ones are speculable. -/
def rule7 (ds : List CtxDesc) : Bool := ds.all (fun d => if d.ahead then decide (d.kay + 1 ≤ 63) else !d.speculable)

/-- Rule 8: state sizes and weight CRCs. -/
def rule8 (ms : List Byte) (ds : List CtxDesc) : Bool :=
  ds.all (fun d =>
    d.stateBytes == sumNat (d.layers.map (fun x => layerState x (elementsOf ms x)))
      && crc32 (d.layers.flatMap (weightBlock ms)) == d.crc)

/-- R415: the state volumes of the rows. -/
def ruleVolume (ds : List CtxDesc) : Bool :=
  let v (r : Nat) : Nat := plantState + sumNat (ds.map (fun d =>
    if (r % 32) % d.len = d.psi then (if d.speculable then 2 * d.stateBytes else d.stateBytes) else 0))
  (List.range 32).all (fun r => decide (v r ≤ 264000 + plantState) && decide (v r + v (r + 1) ≤ 288000))

/-- The first rule of Table 17.5 a model set breaks, 0 where it breaks none; R415 counts as rule 11. -/
def brokenRule (ms : List Byte) (index : Nat) : Nat :=
  if !rule1 ms index then 1
  else if !rule2 ms then 2
  else if !rule3 ms then 3
  else
    let ds := parseCtxs ms
    if !rule4 ds then 4
    else if !rule5 (codeMax (leAt ms 36 1)) ds then 5
    else if !rule6 ds then 6
    else if !rule7 ds then 7
    else if !rule8 ms ds then 8
    else if 4128768 < leAt ms 16 4 then 9
    else
      let r := schedule ms
      if 8 * 1048576 < ringAddr r.1 + 1048576 then 10
      else if r.2.any (fun x => decide (350000 < x)) || !ruleVolume r.1 then 11
      else 0

end Sys2Proof.Machine
end

