-- ==== Sys2Proof/Machine/Image.lean ====
section
/-! DEFINITION. The Granary image: slots, sections, profiles, clips, and the checks of Table 20.5 (chapter 20). -/

namespace Sys2Proof.Machine

open Sys2Proof

/-! ### Layout (R426) -/

/-- Z: the length of a slot. -/
def slotLen (s : State) : Nat := (min 64 s.mem.flashMiB * 1048576 - 262144) / 2
/-- Start of slot A or B. -/
def slotBase (s : State) (b : Bool) : Nat := 0x40000 + (if b then slotLen s else 0)
/-- Flash bytes. -/
def flashBytes (s : State) (a n : Nat) : List Byte := peeks 0xFF#8 s.mem.flash a n
/-- A slot's first bytes. -/
def slotHead (s : State) (b : Bool) : List Byte := flashBytes s (slotBase s b) 256

/-- Identity of a header (Table 20.2). -/
def headIdentity (h : List Byte) : Nat := leAt h 8 4
/-- Edition of a header. -/
def headEdition (h : List Byte) : Nat := leAt h 12 2
/-- T of a header. -/
def headTotal (h : List Byte) : Nat := leAt h 16 4

/-- An empty slot (R440). -/
def slotEmpty (h : List Byte) : Bool := (h.take 16).all (· == 0xFF#8)

/-! ### Sections (R432 to R434) -/

/-- An entry of the section table. -/
structure Section where
  /-- Place in the table. -/
  place : Nat
  /-- Type (Table 20.3). -/
  kind : Nat
  /-- Index. -/
  index : Nat
  /-- Offset from the start of the image. -/
  off : Nat
  /-- Length. -/
  len : Nat
  /-- CRC-32. -/
  crc : Nat
deriving DecidableEq, Repr

/-- The section table of an image. -/
def sections (img : List Byte) : List Section :=
  (List.range (leAt img 6 2)).map (fun i =>
    let b := slice (256 + 16 * i) 16 img
    { place := i, kind := leAt b 0 1, index := leAt b 2 2, off := leAt b 4 4, len := leAt b 8 4, crc := leAt b 12 4 })

/-- The bytes of a section. -/
def secBytes (img : List Byte) (x : Section) : List Byte := slice x.off x.len img

/-- The section of a type and index. -/
def findSection (img : List Byte) (kind index : Nat) : Option Section :=
  (sections img).find? (fun x => x.kind == kind && x.index == index)

/-- The length a section's type asks for (Table 20.3). -/
def sectionLenOk (img : List Byte) (x : Section) : Bool :=
  let b := secBytes img x
  match x.kind with
  | 1 => decide (x.index ≤ 14) && leAt b 8 4 == x.len && decide (64 ≤ x.len)
  | 2 => x.index == 0 && x.len == 64
  | 3 | 4 | 5 => decide (x.index ≤ 254) && x.len == 32
  | 6 => x.index == 0 && x.len == 240
  | 7 => decide (x.index ≤ 0xFFFE) && x.len == 16 + leAt b 8 4 * leAt b 4 1 * (if leAt b 5 1 = 0 then 2 else 3)
  | _ => false

/-- Two sections overlap, or share type and index. -/
def clash (x y : Section) : Bool :=
  (x.kind == y.kind && x.index == y.index) || (decide (x.off < y.off + y.len) && decide (y.off < x.off + x.len))

/-- The first section that breaks R432 or R434. -/
def badSection (img : List Byte) (t : Nat) : Option Section :=
  let l := sections img
  l.find? (fun x =>
    !(within 1 x.kind 7 && x.off % 64 == 0 && decide (256 + 16 * l.length ≤ x.off) && decide (x.off + x.len ≤ t - 80)
      && sectionLenOk img x && l.all (fun y => decide (x.place ≤ y.place) || !clash x y)))

/-- Space that no section covers is zero (R432). -/
def gapsZero (img : List Byte) (t : Nat) : Bool :=
  let l := sections img
  ((img.take (t - 80)).zipIdx.drop (256 + 16 * l.length)).all (fun x =>
    x.1 == 0#8 || l.any (fun y => decide (y.off ≤ x.2) && decide (x.2 < y.off + y.len)))

/-- Reserved bytes of a section are zero: in a model set those of its header, speaker model, context and layer descriptors and Mode E
element headers (R13, R367 to R370, R486). -/
def sectionReserved (img : List Byte) (x : Section) : Bool :=
  let b := secBytes img x
  match x.kind with
  | 1 =>
    zeros b 37 27 && (leAt b 28 4 == 0 || zeros b (leAt b 28 4 + 16) 16)
      && (List.range (leAt b 7 1)).all (fun i =>
        let c := slice (64 + 32 * i) 32 b
        zeros c 24 8 && decide (leAt c 4 1 ≤ 3)
          && (List.range (leAt c 3 1)).all (fun j => zeros b (leAt c 8 4 + 32 * j + 20) 12))
      && (parseCtxs b).all (fun d => d.layers.all (fun y =>
        y.type_ != 4 || (partStarts (partSizes y (elementsOf b y))).all (fun o => zeros (weightBlock b y) (o + 4) 4)))
  | 2 => (List.range 16).all (fun i => at8 b (4 * i + 3) == 0#8)
  | 3 => zeros b 1 1 && zeros b 17 1 && zeros b 20 12
  | 4 => zeros b 14 18
  | 5 => zeros b 20 12
  | 6 => (List.range 15).all (fun i => zeros b (16 * i + 9) 1 && zeros b (16 * i + 12) 4)
  | 7 => zeros b 6 2 && zeros b 12 4
  | _ => true

/-! ### Profiles (R435 to R437) -/

/-- A battery profile from its section. -/
def parseBatt (b : List Byte) : BattProfile :=
  { chem := leAt b 0 1, cellMv := leAt b 2 2, ma := leAt b 4 2, mah := leAt b 6 2, preMa := leAt b 8 2, beta := leAt b 10 2
    r25 := leAt b 12 2, tMin := signed 8 (leAt b 14 1), tMax := signed 8 (leAt b 15 1), tDis := signed 8 (leAt b 16 1)
    tau := leAt b 18 2 }

/-- A loudspeaker profile from its section. -/
def parseSpk (b : List Byte) : SpkProfile :=
  { zCent := leAt b 0 2, mw := leAt b 2 2, tCoil := leAt b 4 1, tMag := leAt b 5 1, rCoil := leAt b 6 2, tauCoil := leAt b 8 2
    rMag := leAt b 10 2, tauMag := leAt b 12 2 }

/-- A motor profile from its section. -/
def parseMot (b : List Byte) : MotProfile :=
  { workMa := leAt b 0 2, contMa := leAt b 2 2, mv := leAt b 4 2, tauMs := leAt b 6 2, lo := signed 16 (leAt b 8 2)
    hi := signed 16 (leAt b 10 2), posLo := leAt b 12 2, posHi := leAt b 14 2, stallMa := leAt b 16 2, stallMs := leAt b 18 2 }

/-- A signed temperature within -20 to 70. -/
def tempOk (t : Int) : Bool := decide (-20 ≤ t) && decide (t ≤ 70)

/-- Every field of a profile lies in its range (Table 20.4). -/
def profileOk (kind : Nat) (b : List Byte) : Bool :=
  match kind with
  | 3 =>
    let p := parseBatt b
    (p.chem == 1 || p.chem == 2) && (if p.chem = 1 then within 3900 p.cellMv 4200 else within 3400 p.cellMv 3600)
      && within 100 p.ma 3000 && within 100 p.mah 20000 && within 50 p.preMa 500 && within 2500 p.beta 5000
      && within 100 p.r25 10000 && tempOk p.tMin && tempOk p.tMax && tempOk p.tDis && within 60 p.tau 7200
  | 4 =>
    let p := parseSpk b
    within 150 p.zCent 1600 && within 100 p.mw 25000 && within 60 p.tCoil 200 && within 60 p.tMag 200
      && within 100 p.rCoil 10000 && within 100 p.tauCoil 60000 && within 100 p.rMag 10000 && within 10 p.tauMag 7200
  | _ =>
    let p := parseMot b
    within 100 p.workMa 2500 && within 100 p.contMa 1200 && within 1000 p.mv 15000 && within 1 p.tauMs 1000
      && decide (p.lo < p.hi) && within 0 p.posLo 1800 && within 0 p.posHi 1800 && within 100 p.stallMa 2500
      && within 20 p.stallMs 5000

/-- The profile of a kind the table holds for an SP_SET level; none for 0xFF (R435). -/
def profileIndex (img : List Byte) (set kind : Nat) : Option Nat :=
  match findSection img 2 0 with
  | some x =>
    let i := leAt (secBytes img x) (4 * set + (kind - 3)) 1
    if i = 255 then none else some i
  | none => none

/-- The first section whose plant profiles break R435 to R437. -/
def badProfile (img : List Byte) : Option Section :=
  let table := (findSection img 2 0).filter (fun _ =>
    !((List.range 16).all (fun i => [3, 4, 5].all (fun k =>
      match profileIndex img i k with
      | some j => (findSection img k j).isSome
      | none => true))))
  match table with
  | some x => some x
  | none => (sections img).find? (fun x => within 3 x.kind 5 && !profileOk x.kind (secBytes img x))

/-! ### Clips (R438, R439) -/

/-- Rate of a column of the clip plan. -/
def planRate (j : Nat) : Nat := ([44100, 48000, 88200, 96000][j]?).getD 0

/-- A clip header in range. -/
def clipOk (b : List Byte) : Bool :=
  let r := leAt b 0 4
  (r == 44100 || r == 48000 || r == 88200 || r == 96000) && within 1 (leAt b 4 1) 2 && decide (leAt b 5 1 ≤ 1)
    && decide (1 ≤ leAt b 8 4)

/-- A clip plan entry that names clips of their rates, a known mode and a gain in range. -/
def planOk (img plan : List Byte) (c : Nat) : Bool :=
  let e := slice (16 * c) 16 plan
  let g := signed 16 (leAt e 10 2)
  decide (leAt e 8 1 ≤ 2) && decide (-24576 ≤ g) && decide (g ≤ 0)
    && (List.range 4).all (fun j =>
      let i := leAt e (2 * j) 2
      i == 65535 || (match findSection img 7 i with
        | some x => leAt (secBytes img x) 0 4 == planRate j
        | none => false))

/-- The first section that breaks R438 or R439. -/
def badClip (img : List Byte) : Option Section :=
  (sections img).find? (fun x =>
    (x.kind == 7 && !clipOk (secBytes img x))
      || (x.kind == 6 && !((List.range 15).all (planOk img (secBytes img x)))))

/-! ### Checking a slot (R441, R266) -/

/-- A slot's failure. -/
def slotFail (i : SlotInfo) (status cause index rule : Nat) : SlotInfo :=
  { i with status := status, cause := cause, index := index, rule := rule }

/-- The hash of an image's signer key (R266). -/
def signerHash (img : List Byte) : BitVec 256 := sha256 (slice 24 65 img)

/-- The trusted signer (R265). -/
def trusted (s : State) : Option (BitVec 256) :=
  match s.sec.signers[0], s.sec.signers[1] with
  | .valid h, _ => some h
  | _, .valid h => some h
  | _, _ => none

/-- Whether a signer's hash is accepted (R266, R267). -/
def signerAccepted (s : State) (h : BitVec 256) : Bool :=
  match trusted s with
  | some t => t == h
  | none => s.sec.signers.toList.any (· == .blank)

/-- The trailer at T - 16, its marker taken as programmed where `marked` (R433, R448). -/
def trailerOk (img : List Byte) (t : Nat) (marked : Bool) : Bool :=
  let b := slice (t - 16) 16 img
  b.length == 16 && b.take 4 == [0x53#8, 0x4B#8, 0x54#8, 0x52#8] && leAt b 4 4 == t && (marked || at8 b 15 == 0xA5#8)

/-- A slot checked in the order of Table 20.5; `marked` checks it as though committed. -/
def checkImage (s : State) (marked : Bool) (base : Nat) : SlotInfo :=
  let h := flashBytes s base 256
  let t := headTotal h
  let n := leAt h 6 2
  let i : SlotInfo := { status := 0, identity := BitVec.ofNat 32 (headIdentity h), edition := headEdition h, total := t, empty := false }
  if slotEmpty h then { status := 1 }
  else if !(decide (256 + 16 * n + 80 ≤ t) && decide (t ≤ slotLen s) && t % 16 == 0) then slotFail i 2 0 65535 0
  else
    let img := flashBytes s base t
    if !trailerOk img t marked then slotFail i 2 0 65535 0
    else if !(h.take 6 == [0x53#8, 0x4B#8, 0x47#8, 0x49#8, 1#8, 0#8] && within 1 n 64 && within 1 (headEdition h) 0xFFFE
        && headIdentity h != 0 && headIdentity h != 0xFFFFFFFF && at8 h 24 == 4#8) then slotFail i 2 1 65535 0
    else
      match badSection img t with
      | some x => slotFail i 2 2 x.place 0
      | none =>
        match (sections img).find? (fun x => (crc32 (secBytes img x)).toNat != x.crc) with
        | some x => slotFail i 2 3 x.place 0
        | none =>
          if !(zeros h 14 2 && zeros h 20 4 && zeros h 89 39 && zeros h 160 96 && zeros img (t - 8) 7
              && (sections img).all (fun x => at8 img (256 + 16 * x.place + 1) == 0#8) && gapsZero img t) then
            slotFail i 2 4 65535 0
          else
            match (sections img).find? (fun x => !sectionReserved img x) with
            | some x => slotFail i 2 4 x.place 0
            | none =>
              match (sections img).find? (fun x => x.kind == 1 && brokenRule (secBytes img x) x.index != 0) with
              | some x => slotFail i 2 5 x.place (brokenRule (secBytes img x) x.index)
              | none =>
                match badProfile img with
                | some x => slotFail i 2 6 x.place 0
                | none =>
                  match badClip img with
                  | some x => slotFail i 2 7 x.place 0
                  | none =>
                    if !ecdsaVerify (slice 24 65 img) (slice (t - 80) 64 img) (img.take (t - 80)) then
                      slotFail i 3 0 65535 0
                    else if !signerAccepted s (signerHash img) then slotFail i 4 0 65535 0
                    else i

/-! ### Content in force (R442) -/

/-- The image of the active slot; empty with none. -/
def activeImage (s : State) : List Byte :=
  match s.gran.active with
  | some b => flashBytes s (slotBase s b) (headTotal (slotHead s b))
  | none => []

/-- The bytes of the model set loaded, none where none is (R442). -/
def modelBytes (s : State) : Option (List Byte) := s.gran.modelSet.map (fun x => flashBytes s x.1 x.2)

/-- The section of a type and index in the active slot, as flash address and length. -/
def activeSection (s : State) (kind index : Nat) : Option (Nat × Nat) :=
  match s.gran.active with
  | some b => (findSection (activeImage s) kind index).map (fun x => (slotBase s b + x.off, x.len))
  | none => none

/-- A clip as the plan gives it for a cue code at the media rate: the voice it starts, less its place in time (R438, R439). -/
def clipVoice (s : State) (code : Nat) : Option Voice :=
  match s.gran.clipPlan with
  | none => none
  | some p =>
    let e := flashBytes s (p + 16 * (code - 1)) 16
    let i := leAt e (2 * (rateCode s.well.rate - 1)) 2
    if code = 0 || i = 65535 then none
    else
      (activeSection s 7 i).map (fun x =>
        let h := flashBytes s x.1 16
        { active := true, entry := code, mode := leAt e 8 1, addr := x.1 + 16, frames := leAt h 8 4
          stereo := leAt h 4 1 == 2, wide := leAt h 5 1 == 1, gain := signed 16 (leAt e 10 2) })

/-- F212 for a required profile (R437): profile kind, and whether its chemistry differs. -/
def missingProfile (s : State) (k differs : Nat) : State → State :=
  raise 0xF212#16 k (be 1 k ++ be 1 (lvlD s 5) ++ be 1 differs)

/-- The plant profile set takes effect, with F212 for each required profile that is missing, and the clamped-limit flag where
a value lies above the strap's (R32, R435, R437). -/
def loadProfiles (s : State) : State :=
  let img := activeImage s
  let set := lvlD s 5
  let find (k : Nat) : Option (List Byte) :=
    (profileIndex img set k).bind (fun j => (findSection img k j).map (secBytes img))
  let setup := battSetup (lvlD s 12)
  let raw := (find 3).map parseBatt
  let fits := raw.filter (fun p => (setup.elim false (fun b => (p.chem == 2) == b.lfp)))
  let spk := (find 4).map parseSpk
  let mot := (find 5).map parseMot
  let clamped := (match fits, setup with
      | some p, some b => decide (b.cellMv < p.cellMv) || decide (b.ma < p.ma)
      | _, _ => false)
    || (match spk, ampSetup (lvlD s 10) with
      | some p, some a => decide (a.2 < p.mw)
      | _, _ => false)
    || (match mot, motorSetup (lvlD s 11) with
      | some p, some m => decide (m.2 < p.mv)
      | _, _ => false)
  let s := { s with
    gran := { s.gran with batt := fits, spk := spk, mot := mot }
    start := { s.start with clampSeen := s.start.clampSeen || clamped } }
  let s := if setup.isSome && fits.isNone then missingProfile s 1 (if raw.isSome then 1 else 0) s else s
  let s := if (ampSetup (lvlD s 10)).isSome && s.gran.spk.isNone then missingProfile s 2 0 s else s
  if (motorSetup (lvlD s 11)).isSome && s.gran.mot.isNone then missingProfile s 3 0 s else s

/-- A speaker model from its 32 bytes, none where magic, format or ranges are wrong (R486). -/
def parseSpkModel (b : List Byte) : Option SpkModel :=
  let m : SpkModel := { fs := leAt b 6 2, qts := leAt b 8 2, vx := leAt b 10 2, re := leAt b 12 2, alpha := leAt b 14 2 }
  if b.length == 32 && b.take 6 == [0x53#8, 0x50#8, 0x4B#8, 0x4D#8, 1#8, 0#8] && within 200 m.fs 5000 && within 200 m.qts 2000
      && within 500 m.vx 30000 && within 1000 m.re 16000 && within 3000 m.alpha 4500 then some m else none

/-- F211 where SP_AMP asks for the speaker model and none is in force (R59). -/
def speakerFault (s : State) : State :=
  if ampModelSet (lvlD s 10) && s.gran.spkModel.isNone then raise 0xF211#16 0 (be 1 (lvlD s 5)) s else s

/-- The model set that SP_SET names comes into force with its speaker model, with F210 where the image has none (R54, R59,
R442). -/
def loadModels (s : State) : State :=
  let set := lvlD s 5
  let found := if set = 15 then none else activeSection s 1 set
  let spk := found.bind (fun x =>
    let h := flashBytes s x.1 64
    if leAt h 28 4 = 0 then none else parseSpkModel (flashBytes s (x.1 + leAt h 28 4) (leAt h 32 4)))
  let s := { s with gran := { s.gran with modelSet := found, spkModel := if ampModelSet (lvlD s 10) then spk else none } }
  let s := if set != 15 && s.gran.active.isSome && found.isNone then raise 0xF210#16 0 (be 1 set) s else s
  speakerFault s

/-- A model set built for another rate than the media rate counts as absent (R54, R373). -/
def checkModelRate (s : State) : State :=
  match s.gran.modelSet with
  | some x =>
    if leAt (flashBytes s x.1 64) 36 1 = rateCode s.well.rate then s
    else
      let had := s.gran.spkModel.isSome
      let s := raise 0xF210#16 0 (be 1 (lvlD s 5)) { s with gran := { s.gran with modelSet := none, spkModel := none } }
      if had then speakerFault s else s
  | none => s

/-- The clip plan of the active slot comes into force. -/
def loadClips (s : State) : State :=
  { s with gran := { s.gran with clipPlan := (activeSection s 6 0).map (·.1) } }

/-- The descriptors and schedule of the model set in force set up for contexts 0 to 14 (R375 to R377), less
those idle until reset (R510). -/
def setupContexts (s : State) : State :=
  let r := match modelBytes s with
    | some ms => schedule ms
    | none => ([], List.replicate 32 20000)
  { s with thr := { s.thr with
    load := r.2
    ctxs := Vector.ofFn (fun i : Fin 16 => { desc := r.1.find? (fun d => d.ctx == i.val && !s.endur.idleCtx.contains i.val) }) } }

/-- The contexts the device runs, in ascending order. -/
def loaded (s : State) : List CtxDesc := s.thr.ctxs.toList.filterMap (·.desc)

/-- The loft loaded from the model set in force (R374). -/
def loadLoft (s : State) : State :=
  match modelBytes s with
  | some ms => { s with mem := { s.mem with
      loft := pokes 0#8 (s.mem.loft.filter (fun c => decide (c.1 < 0x10000))) 0x10000 (slice (weightOff ms) (leAt ms 16 4) ms) } }
  | none => s

/-- A context's weight block as the loft holds it. -/
def loftBlock (s : State) (d : LayerDesc) : List Byte := peeks 0#8 s.mem.loft (0x10000 + d.off) d.len

/-- The Silo's header and a cleared commit table (R381, R384). -/
def setupSilo (s : State) : State :=
  let l := loaded s
  let head := [0x53#8, 0x4B#8, 0x53#8, 0x4C#8] ++ le 2 1 ++ le 2 0 ++ le 4 (s.mem.psramMiB * 1048576)
    ++ le 4 0x1000 ++ le 4 0x2000 ++ le 4 (ckptAddr l false) ++ le 4 (ckptAddr l true) ++ le 4 (ringAddr l)
  let table := (List.range 16).flatMap (fun k => le 1 k ++ List.replicate 15 0#8)
  { s with mem := { s.mem with psram := pokes 0#8 (pokes 0#8 s.mem.psram 0 head) 0x1000 table } }

/-! ### Committed state (R383) -/

/-- The current bank of a context. -/
def currentBank (s : State) (k : Nat) : Bool := peek 0#8 s.mem.psram (0x1000 + 16 * k + 1) == 1#8

/-- Whether the current bank holds committed state. -/
def hasState (s : State) (k : Nat) : Bool := peek 0#8 s.mem.psram (0x1000 + 16 * k + 2) == 1#8

/-- State bytes of a context. -/
def stateSize (s : State) (k : Nat) : Nat :=
  match (loaded s).find? (fun d => d.ctx == k) with
  | some d => d.stateBytes
  | none => if k = 15 then plantState else 0

/-- The committed state of a context; zero where none is (R383). -/
def committedState (s : State) (k : Nat) : List Byte :=
  if hasState s k then peeks 0#8 s.mem.psram (bankAddr (loaded s) k (currentBank s k)) (stateSize s k)
  else List.replicate (stateSize s k) 0#8

/-- State written to the bank that is not current (R383, step 1). -/
def writeBank (k : Nat) (b : List Byte) (s : State) : State :=
  { s with mem := { s.mem with psram := pokes 0#8 s.mem.psram (bankAddr (loaded s) k (!currentBank s k)) b } }

/-- The commit entry written with the other bank current (R383, step 2). -/
def writeEntry (k : Nat) (s : State) : State :=
  let e := le 1 k ++ le 1 (if currentBank s k then 0 else 1) ++ le 1 1
  { s with mem := { s.mem with psram := pokes 0#8 s.mem.psram (0x1000 + 16 * k) e } }

end Sys2Proof.Machine
end

