-- ==== Sys2Proof/Machine/Bus.lean ====
section
/-! DEFINITION. Transactions on the Silo and flash buses, and the tags they hold (chapter 19). -/

namespace Sys2Proof.Machine

open Sys2Proof

/-! ### Transactions (R407) -/

/-- Bytes a Silo transaction carries at most (R407). -/
def siloMost : Nat := 1024

/-- Clocks a Silo transaction of `n` bytes takes at most: two bytes a clock and 20 of command, address and latency (R407). -/
def siloClocks (n : Nat) : Nat := (n + 1) / 2 + 20

/-- A transfer cut into transactions of at most 1 KiB, in rising addresses; one that names no bytes is a single transaction (R407). -/
def siloParts (addr len : Nat) : List (Nat × Nat) :=
  if len = 0 then [(addr, 0)]
  else (List.range ((len + siloMost - 1) / siloMost)).map (fun i => (addr + siloMost * i, min siloMost (len - siloMost * i)))

/-- The transactions of a request: of a transfer to or from the Silo as many as its length takes; of the flash one. -/
def BusAsk.transactions (a : BusAsk) : List BusReq :=
  let one (x : Nat × Nat) : BusReq :=
    { silo := a.silo, cls := a.cls, write := a.write, owner := a.owner, addr := x.1, len := x.2 }
  if a.silo then (siloParts a.addr a.len).map one else [one (a.addr, a.len)]

/-! ### Tags (R411 to R413) -/

/-- The tag a request takes on its bus, if it may take one: its reserved flag. -/
def tagFor (l : List BusReq) (r : BusReq) : Option Bool :=
  let mine := l.filter (fun x => x.silo == r.silo)
  if r.silo then
    let shared := mine.filter (fun x => !x.reserved)
    let low := shared.filter (fun x => x.cls == 3)
    let kept := mine.filter (fun x => x.reserved && x.cls == r.cls)
    if shared.length < 28 && (r.cls != 3 || decide (low.length < 16)) then some false
    else if r.write && (r.cls == 1 || r.cls == 2) && decide (kept.length < 2) then some true
    else none
  else
    let other := mine.filter (fun x => x.cls == 2 || x.cls == 3)
    let ops := mine.filter (fun x => x.cls == 4)
    if 8 ≤ mine.length then none
    else if r.cls == 1 then some false
    else if r.cls == 4 then (if ops.isEmpty then some false else none)
    else if other.length < 6 then some false
    else none

/-- Waiting requests that find a tag take it, in order; one behind a waiting request of its own requester keeps waiting. -/
def admitReqs : List BusReq → List BusReq → List BusReq → List BusReq × List BusReq
  | flight, kept, [] => (flight, kept)
  | flight, kept, r :: rest =>
    if kept.any (fun x => x.silo == r.silo && x.owner == r.owner && x.cls == r.cls) then admitReqs flight (kept ++ [r]) rest
    else
      match tagFor flight r with
      | some b => admitReqs (flight ++ [{ r with reserved := b }]) kept rest
      | none => admitReqs flight (kept ++ [r]) rest

/-- Requests made now join those that wait, and take tags as they may. -/
def requestTags (l : List BusReq) (s : State) : State :=
  let r := admitReqs s.mem.flight [] (s.mem.stalled ++ l)
  { s with mem := { s.mem with flight := r.1, stalled := r.2 } }

/-- The next transaction of a bus: the lowest class, within it the first request (R412, R413). -/
def nextOnBus : List BusReq → Option BusReq
  | [] => none
  | r :: l =>
    match nextOnBus l with
    | none => some r
    | some x => if x.cls < r.cls then some x else some r

/-- The transaction on a bus returns its response: its tag is released, and the next one goes (R411). -/
def completeBus (silo : Bool) (s : State) : State :=
  let mine := s.mem.flight.filter (fun x => x.silo == silo)
  let other := s.mem.flight.filter (fun x => x.silo != silo)
  let rest := mine.drop 1
  let order := match nextOnBus rest with
    | some x => x :: rest.erase x
    | none => []
  let m := { s.mem with
    flight := other ++ order
    readRetries := if silo then s.mem.readRetries else 0
    siloRetry := if silo then false else s.mem.siloRetry }
  requestTags [] { s with mem := m }

/-- Requests made by the units: their transactions join those that wait. -/
def askBus (l : List BusAsk) (s : State) : State := requestTags (l.flatMap BusAsk.transactions) s

/-- A write of a class to the Silo asked for: its bytes are bound for an address (R407, R411). -/
def siloWrite (cls owner addr len : Nat) (s : State) : State :=
  requestTags (BusAsk.transactions { silo := true, cls := cls, write := true, owner := owner, addr := addr, len := len }) s

/-- Whether every write of a class that a requester asked of the Silo has returned its response: its transfer has completed (R421). -/
def siloWritten (cls owner : Nat) (s : State) : Bool :=
  !(s.mem.flight ++ s.mem.stalled).any (fun r => r.silo && r.write && r.cls == cls && r.owner == owner)

end Sys2Proof.Machine
end

