-- ==== Sys2Proof/Machine/Float.lean ====
section
/-! DEFINITION. Thresher's numbers: binary32 arithmetic, binary16, requantisation, gate functions (R340 to R345, R360). -/

namespace Sys2Proof.Machine

open Sys2Proof

/-! ### Rounding -/

/-- A magnitude over a power of two, rounded to the nearest integer with ties to even. -/
def shiftRne (n k : Nat) : Nat :=
  let q := n / 2 ^ k
  let r := n % 2 ^ k
  if k = 0 then n else if 2 * r < 2 ^ k then q else if 2 ^ k < 2 * r then q + 1 else if q % 2 = 0 then q else q + 1

/-- An integer times a power of two, rounded to the nearest integer with ties to even. -/
def intRne (m e : Int) : Int :=
  if 0 ≤ e then m * (2 ^ e.toNat : Nat)
  else if m < 0 then -(shiftRne m.natAbs (-e).toNat : Int) else (shiftRne m.natAbs (-e).toNat : Int)

/-- Saturation to a signed width. -/
def satBits (n : Nat) (x : Int) : Int := max (-(2 ^ (n - 1) : Nat)) (min ((2 ^ (n - 1) : Nat) - 1) x)

/-! ### binary32 (R341) -/

/-- The value of an operand as an integer times a power of two; a subnormal counts as zero (R341). -/
def fpVal (x : BitVec 32) : Int × Int :=
  let e : Nat := x.toNat / 2 ^ 23 % 256
  let m : Nat := x.toNat % 2 ^ 23 + 2 ^ 23
  if e = 0 then (0, 0) else (if x.getLsbD 31 then -(m : Int) else (m : Int), (e : Int) - 150)

/-- Zero of a sign. -/
def fpZero (neg : Bool) : BitVec 32 := if neg then 0x80000000#32 else 0#32

/-- The binary32 nearest an integer times a power of two; below 2^-126 zero of its sign, above the range the largest finite
value; `neg` is the sign of an exact zero (R341). -/
def fpRound (m e : Int) (neg : Bool) : BitVec 32 :=
  let a := m.natAbs
  if a = 0 then fpZero neg
  else
    let sign : Nat := if m < 0 then 2 ^ 31 else 0
    let bits := a.log2 + 1
    let r := if 24 < bits then shiftRne a (bits - 24) else a * 2 ^ (24 - bits)
    let top := if r = 2 ^ 24 then 1 else 0
    let mant := if r = 2 ^ 24 then 0 else r - 2 ^ 23
    let ex : Int := e + bits - 1 + top + 127
    if ex ≤ 0 then fpZero (decide (m < 0))
    else if 255 ≤ ex then BitVec.ofNat 32 (sign + 0x7F7FFFFF)
    else BitVec.ofNat 32 (sign + ex.toNat * 2 ^ 23 + mant)

/-- FP32 addition (R341). -/
def fpAdd (x y : BitVec 32) : BitVec 32 :=
  let (m, e) := fpVal x
  let (n, f) := fpVal y
  let g := min e f
  let zero := if m = 0 && n = 0 then x.getLsbD 31 && y.getLsbD 31 else false
  if m = 0 then (if n = 0 then fpZero zero else fpRound n f false)
  else if n = 0 then fpRound m e false
  else fpRound (m * (2 ^ (e - g).toNat : Nat) + n * (2 ^ (f - g).toNat : Nat)) g false

/-- FP32 multiplication (R341). -/
def fpMul (x y : BitVec 32) : BitVec 32 :=
  let (m, e) := fpVal x
  let (n, f) := fpVal y
  fpRound (m * n) (e + f) (x.getLsbD 31 != y.getLsbD 31)

/-- An integer as FP32 (R342). -/
def fpOfInt (v : Int) : BitVec 32 := fpRound v 0 false

/-- An INT32 value with a scale, to FP32 (R360). -/
def fpOfScaled (v e : Int) : BitVec 32 := fpRound v (-e) false

/-- An FP32 value times a power of two, rounded to the nearest integer with ties to even and saturated to INT32 (R360). -/
def fpToScaled (x : BitVec 32) (e : Int) : Int := let (m, f) := fpVal x; satBits 32 (intRne m (f + e))

/-- The nearest integer to an FP32 value, ties to even (R343). -/
def rhe (x : BitVec 32) : Int := let (m, f) := fpVal x; intRne m f

/-- Requantisation to a signed width under a factor (R343). -/
def requant (bits : Nat) (k x : BitVec 32) : Int := satBits bits (rhe (fpMul x k))

/-- A 24-bit sample as the exact FP32 value x × 2^-23 (R372). -/
def fpOfSample (x : Int) : BitVec 32 := fpRound x (-23) false

/-- An FP32 value as a 24-bit sample (R372). -/
def sampleOfFp (y : BitVec 32) : Int := satBits 24 (rhe (fpMul y 0x4B000000#32))

/-! ### binary16 (R344) -/

/-- The binary16 nearest an integer times a power of two; `neg` is the sign of a zero. -/
def halfRound (m e : Int) (neg : Bool) : BitVec 16 :=
  let a := m.natAbs
  let sign : Nat := if m < 0 ∨ (m = 0 ∧ neg) then 2 ^ 15 else 0
  if a = 0 then BitVec.ofNat 16 sign
  else
    let bits := a.log2 + 1
    let ex : Int := e + bits - 1
    -- units of the last place: 2^(ex - 10) for a normal number, 2^-24 below
    let ulp : Int := max (ex - 10) (-24)
    let r := if e < ulp then shiftRne a (ulp - e).toNat else a * 2 ^ (e - ulp).toNat
    let (r, ulp) := if r = 2048 then (1024, ulp + 1) else (r, ulp)
    let big : Bool := decide (5 < ulp)
    if big then BitVec.ofNat 16 (sign + 0x7BFF)
    else if r < 1024 then BitVec.ofNat 16 (sign + r)
    else BitVec.ofNat 16 (sign + (ulp + 25).toNat * 1024 + (r - 1024))

/-- FP32 to binary16 (R344). -/
def halfOfFp (x : BitVec 32) : BitVec 16 := let (m, e) := fpVal x; halfRound m e (x.getLsbD 31)

/-- Binary16 to FP32, exactly (R344). -/
def fpOfHalf (h : BitVec 16) : BitVec 32 :=
  let e := h.toNat / 1024 % 32
  let f := h.toNat % 1024
  let neg := h.getLsbD 15
  let sgn (v : Nat) : Int := if neg then -(v : Int) else (v : Int)
  if e = 0 then fpRound (sgn f) (-24) neg else fpRound (sgn (f + 1024)) ((e : Int) - 25) neg

/-! ### Gate functions (R345)

The exact functions are evaluated in fixed point with 240 fractional bits, far below what separates any result from a
rounding boundary of binary16; a term too small for that grid still counts as one unit, so that it keeps its side. -/

/-- Fractional bits of the gate evaluation. -/
def gateBits : Nat := 240
/-- One in that fixed point. -/
def gateOne : Int := (2 ^ gateBits : Nat)
/-- A product in that fixed point. -/
def gateMul (a b : Int) : Int := (a * b) / gateOne

/-- Terms of the exponential series from the n-th on. -/
def expTerms (x : Int) : Nat → Nat → Int → Int → Int
  | 0, _, _, acc => acc
  | k + 1, n, t, acc =>
    let t := gateMul t x / ((n : Nat) : Int)
    expTerms x k (n + 1) t (acc + t)

/-- e to a power in that fixed point, at least one unit: the series at a 1024th of the power, squared ten times. -/
def gateExp (x : Int) : Int :=
  let y := x / 1024
  max 1 (iter (fun v => gateMul v v) 10 (expTerms y 40 1 gateOne gateOne))

/-- The natural logarithm of a number of that fixed point, one or more, by Halley's steps from a start. -/
def gateLn (y start : Int) : Int :=
  iter (fun z => z + 2 * ((y - gateExp z) * gateOne) / (y + gateExp z)) 12 start

/-- An FP32 value in that fixed point, clamped to ±2^18, beyond which every gate function has reached its limit. -/
def gateIn (x : BitVec 32) : Int :=
  let (m, e) := fpVal x
  let v := intRne m (e + gateBits)
  max (-(gateOne * 262144)) (min (gateOne * 262144) v)

/-- An exponential with its argument limited to ±96, outside which binary16 has saturated or reached zero. -/
def gateExpOf (x : Int) : Int := gateExp (max (-(gateOne * 96)) (min (gateOne * 96) x))

/-- 1 / (1 + e^-x) in that fixed point. -/
def gateSigmoid (x : Int) : Int := gateOne * gateOne / (gateOne + gateExpOf (-x))

/-- The gate functions of Table 16.2 by their descriptor code: 1 sigmoid, 2 tanh, 3 exp, 4 softplus, 5 SiLU; 0 none. -/
def gate (code : Nat) (x : BitVec 32) : BitVec 32 :=
  let v := gateIn x
  let out (r : Int) : BitVec 32 := fpOfHalf (halfRound r (-(gateBits : Int)) (x.getLsbD 31))
  let small : Bool := decide ((fpVal x).1.natAbs = 0)
  match code with
  | 1 => out (gateSigmoid v)
  | 2 =>
    if small then fpOfHalf (if x.getLsbD 31 then 0x8000#16 else 0#16)
    else
      let e := gateExpOf (2 * v)
      out ((e - gateOne) * gateOne / (e + gateOne))
  | 3 => out (gateExpOf v)
  | 4 =>
    if gateOne * 64 < v then out (v + 1)
    else
      let y := gateOne + gateExpOf v
      out (gateLn y (max 0 v))
  | 5 =>
    if small then fpOfHalf (if x.getLsbD 31 then 0x8000#16 else 0#16) else out (gateMul v (gateSigmoid v))
  | _ => x

end Sys2Proof.Machine
end

