-- ==== Sys2Proof/Machine/Layers.lean ====
section
/-! DEFINITION. What Thresher computes of a sheaf: dense, Mode S and Mode E layers in their fixed orders (R342 to R360, R372). -/

namespace Sys2Proof.Machine

open Sys2Proof

/-- Weight bytes of a layer: its block, with where its parts start. -/
structure Weights where
  /-- The block. -/
  bytes : List Byte
  /-- Starts of its parts. -/
  starts : List Nat
deriving DecidableEq, Repr

/-- Start of part `i`. -/
def Weights.part (w : Weights) (i : Nat) : Nat := (w.starts[i]?).getD 0

/-- The `j`-th FP32 number of part `i`. -/
def Weights.fp (w : Weights) (i j : Nat) : BitVec 32 := BitVec.ofNat 32 (leAt w.bytes (w.part i + 4 * j) 4)

/-- A matrix operation on quantised activations: part `i` holds the weights, the next two the scales and biases (R342). -/
def matrixOp (w : Weights) (i c : Nat) (a : List Int) : List (BitVec 32) :=
  (List.range c).map (fun j =>
    let row := slice (w.part i + j * a.length) a.length w.bytes
    let acc := satBits 32 ((row.zip a).foldl (fun s x => s + x.1.toInt * x.2) 0)
    fpAdd (fpMul (fpOfInt acc) (w.fp (i + 1) j)) (w.fp (i + 2) j))

/-- A scan element (R351). -/
abbrev ScanEl := BitVec 32 × BitVec 32

/-- One round of the scan tree at distance `d` (R353). -/
def scanRound (l : List ScanEl) (d : Nat) : List ScanEl :=
  l.zipIdx.map (fun x =>
    if x.2 < d then x.1
    else match l[x.2 - d]? with
      | some p => (fpMul x.1.1 p.1, fpAdd (fpMul x.1.1 p.2) x.1.2)
      | none => x.1)

/-- The scan tree over a power of two of elements (R353). -/
def scanTree : Nat → Nat → List ScanEl → List ScanEl
  | 0, _, l => l
  | k + 1, d, l => if l.length ≤ d then l else scanTree k (2 * d) (scanRound l d)

/-- States of one channel and index over its elements (R353). -/
def scanStates (h0 : BitVec 32) (l : List ScanEl) : List (BitVec 32) :=
  (scanTree 7 1 l).map (fun x => fpAdd (fpMul x.1 h0) x.2)

/-- Quantities of one step of a Mode S direction (R351). -/
structure ModeSStep where
  /-- Channel inputs. -/
  x : List (BitVec 32)
  /-- Step sizes. -/
  delta : List (BitVec 32)
  /-- B. -/
  b : List (BitVec 32)
  /-- C. -/
  c : List (BitVec 32)
deriving DecidableEq, Repr

/-- An entry of a list of FP32 numbers, zero beyond its end. -/
def fpAt (l : List (BitVec 32)) (i : Nat) : BitVec 32 := (l[i]?).getD 0#32

/-- One step's quantities from its activations; `p` is the first part of the direction's set. -/
def modeSStep (w : Weights) (p c n : Nat) (a : List Int) : ModeSStep :=
  { x := matrixOp w p c a, delta := (matrixOp w (p + 3) c a).map (gate 4)
    b := matrixOp w (p + 6) n a, c := matrixOp w (p + 9) n a }

/-- The scan element of a step, channel and index (R351). -/
def scanEl (w : Weights) (p n : Nat) (s : ModeSStep) (ch i : Nat) : ScanEl :=
  let d := fpAt s.delta ch
  (gate 3 (fpMul d (w.fp (p + 12) (ch * n + i))), fpMul (fpMul d (fpAt s.b i)) (fpAt s.x ch))

/-- The states of a direction: for each channel and index, over the steps. -/
def modeSStates (w : Weights) (p c n : Nat) (steps : List ModeSStep) (h0 : Nat → Nat → BitVec 32) : List (List (List (BitVec 32))) :=
  (List.range c).map (fun ch => (List.range n).map (fun i =>
    scanStates (h0 ch i) (steps.map (fun s => scanEl w p n s ch i))))

/-- The output sum of a channel at a step, without its D term (R352). -/
def modeSSum (n : Nat) (s : ModeSStep) (h : Nat → BitVec 32) : BitVec 32 :=
  (List.range n).foldl (fun acc i => fpAdd acc (fpMul (fpAt s.c i) (h i))) 0#32

/-- The state of channel `ch`, index `i`, after step `t`. -/
def stateAt (hs : List (List (List (BitVec 32)))) (ch i t : Nat) : BitVec 32 :=
  ((hs[ch]?).bind (fun x => (x[i]?).bind (fun y => y[t]?))).getD 0#32

/-- A Mode S layer over a sheaf of `l` steps: its outputs and its committed state (R351 to R355). -/
def runModeS (w : Weights) (d : LayerDesc) (l : Nat) (h0 : List Byte) (acts : List (List Int)) :
    List (List (BitVec 32)) × List Byte :=
  let c := d.outW
  let n := d.n
  let fwd := (acts.take l).map (modeSStep w 0 c n)
  let init (ch i : Nat) : BitVec 32 := fpOfHalf (BitVec.ofNat 16 (leAt h0 (2 * (ch * n + i)) 2))
  let hs := modeSStates w 0 c n fwd init
  let front := fwd.zipIdx.map (fun x => (List.range c).map (fun ch =>
    fpAdd (modeSSum n x.1 (fun i => stateAt hs ch i x.2)) (fpMul (w.fp 13 ch) (fpAt x.1.x ch))))
  let final := (List.range c).flatMap (fun ch => (List.range n).flatMap (fun i =>
    le 2 (halfOfFp (stateAt hs ch i (l - 1))).toNat))
  if d.type_ = 3 then
    let back := acts.reverse.map (modeSStep w 14 c n)
    let hb := modeSStates w 14 c n back (fun _ _ => 0#32)
    let m := acts.length
    let y := front.zipIdx.map (fun x => (List.range c).map (fun ch =>
      let e := m - 1 - x.2
      match back[e]? with
      | some s => fpAdd (fpAt x.1 ch) (modeSSum n s (fun i => stateAt hb ch i e))
      | none => fpAt x.1 ch))
    (y, final)
  else (front, final)

/-! ### Mode E (R358 to R360) -/

/-- One element on one value, with its history (Table 16.5). -/
def elementStep (e : Element) (hist : List Int) (x : Int) : Int × List Int :=
  let c (i : Nat) : Int := (e.coef[i]?).getD 0
  let h (i : Nat) : Int := (hist[i]?).getD 0
  let q29 (acc : Int) : Int := satBits 32 ((acc + 268435456) / 536870912)
  match e.kind with
  | 1 =>
    let y := q29 (c 0 * h 0 + c 1 * x)
    (y, [y])
  | 2 =>
    let y := q29 (c 0 * x + c 1 * h 0 + c 2 * h 1 - c 3 * h 2 - c 4 * h 3)
    (y, [x, h 0, y, h 2])
  | 3 => (satBits 32 (x.natAbs : Int), [])
  | 4 => (satBits 32 ((x * x + 1073741824) / 2147483648), [])
  | 5 =>
    let y := max (satBits 32 (x.natAbs : Int)) (q29 (c 0 * h 0))
    (y, [y])
  | _ => (q29 (c 0 * x), [])

/-- One element over the values of a step: every value at sample rate, the last one at step rate (R359). -/
def elementRow (e : Element) (hist : List Int) (xs : List Int) : List Int × List Int :=
  if e.stepRate then
    let r := elementStep e hist ((xs.getLast?).getD 0)
    ([r.1], r.2)
  else
    xs.foldl (fun (a : List Int × List Int) x =>
      let r := elementStep e a.2 x
      (a.1 ++ [r.1], r.2)) ([], hist)

/-- A chain over one step of one signal: its last values, and every element's history. -/
def chainRow (xs : List Int) : List (Element × List Int) → List Int × List (List Int)
  | [] => (xs, [])
  | (e, h) :: rest =>
    let r := elementRow e h xs
    let q := chainRow r.1 rest
    (q.1, r.2 :: q.2)

/-- A chain over the steps of one signal: one value a step, and the histories at the end. -/
def chainSteps (els : List Element) : List (List Int) → List (List Int) → List Int × List (List Int)
  | hs, [] => ([], hs)
  | hs, xs :: rest =>
    let r := chainRow xs (els.zip hs)
    let q := chainSteps els r.2 rest
    ((r.1.getLast?).getD 0 :: q.1, q.2)

/-- A Mode E layer over a sheaf: its outputs and its committed state. Each signal takes its share of the input row, value
by value, a padded channel only the `ns` samples of each step, and gives its last value of the step (R359, log entry 31). -/
def runModeE (d : LayerDesc) (els : List Element) (nmax : Nat) (ns : List Nat) (h0 : List Byte) (rows : List (List (BitVec 32))) :
    List (List (BitVec 32)) × List Byte :=
  let per := if d.outW = 0 then 0 else d.inW / d.outW
  let used (t : Nat) : Nat := if per = nmax then (ns[t]?).getD per else per
  let counts := els.map (fun e => histCount e.kind)
  let width := sumNat counts
  let eIn := (els[0]?).elim 0 (·.eIn)
  let eOut := (els.getLast?).elim 0 (·.eOut)
  let sigs := (List.range d.outW).map (fun s =>
    let init := counts.zipIdx.map (fun x => (List.range x.1).map (fun j =>
      signed 32 (leAt h0 (4 * (s * width + sumNat (counts.take x.2) + j)) 4)))
    let xs := rows.zipIdx.map (fun r => (List.range (used r.2)).map (fun i => fpToScaled (fpAt r.1 (s * per + i)) eIn))
    chainSteps els init xs)
  (rows.zipIdx.map (fun t => sigs.map (fun s => fpOfScaled ((s.1[t.2]?).getD 0) eOut)),
   sigs.flatMap (fun s => s.2.flatMap (fun h => h.flatMap (leInt 4))))

/-! ### A context's sheaf -/

/-- One layer: FP32 rows in, FP32 rows out, with its state; `k` requantises its input (R343, R369). -/
def runLayer (block : List Byte) (d : LayerDesc) (l nmax : Nat) (ns : List Nat) (k : BitVec 32) (h0 : List Byte) (rows : List (List (BitVec 32))) :
    List (List (BitVec 32)) × List Byte :=
  let els := if d.type_ = 4 then parseElements block d.n 0 else []
  let w : Weights := { bytes := block, starts := partStarts (partSizes d els) }
  let acts := rows.map (fun r => r.map (requant (if d.fmt = 1 then 16 else 8) k))
  match d.type_ with
  | 1 => (acts.map (fun a => (matrixOp w 0 d.outW a).map (gate d.gate)), [])
  | 4 => runModeE d els nmax ns h0 (rows.take l)
  | _ => runModeS w d l h0 acts

/-- The layers of a context in order, each with its share of the state. -/
def runLayers (block : LayerDesc → List Byte) (l nmax : Nat) (ns : List Nat) : List LayerDesc → BitVec 32 → List Byte → List (List (BitVec 32)) →
    List (List (BitVec 32)) × List Byte
  | [], _, _, rows => (rows, [])
  | d :: rest, k, h0, rows =>
    let els := if d.type_ = 4 then parseElements (block d) d.n 0 else []
    let size := layerState d els
    let r := runLayer (block d) d l nmax ns k (h0.take size) rows
    let q := runLayers block l nmax ns rest d.k (h0.drop size) r.1
    (q.1, r.2 ++ q.2)

/-- A context's job: input samples step by step and channel by channel, padded to `nmax`, to the last layer's rows and the
state committed (R354, R372). -/
def runContext (block : LayerDesc → List Byte) (nmax : Nat) (d : CtxDesc) (h0 : List Byte) (steps : List (List (List Int))) :
    List (List (BitVec 32)) × List Byte :=
  let rows := steps.map (fun chans => chans.flatMap (fun c => (padTo nmax 0 c).map fpOfSample))
  let ns := steps.map (fun chans => (chans.head?).elim 0 List.length)
  let r := runLayers block d.len nmax ns d.layers d.kin h0 rows
  (r.1.take d.len, r.2)

/-- The audio output channels of a row (R372). -/
def audioOut (nmax outCh : Nat) (row : List (BitVec 32)) : List (List Int) :=
  (List.range outCh).map (fun c => (List.range nmax).map (fun i => sampleOfFp (fpAt row (c * nmax + i))))

end Sys2Proof.Machine
end

