-- ==== Sys2Proof/Machine/Power.lean ====
section
/-! DEFINITION. The power path and the charger: effective parameters, states, zones, limits and the state of charge
(chapter 21). -/

namespace Sys2Proof.Machine

open Sys2Proof

/-! ### Effective charge parameters (R466, Tables 21.3 and 21.4) -/

/-- The effective charge parameters of a pack. -/
structure ChargeSet where
  /-- LiFePO4. -/
  lfp : Bool
  /-- Charge voltage per cell in mV. -/
  cellMv : Nat
  /-- Charge current in mA. -/
  ma : Nat
  /-- Pre-conditioning current in mA. -/
  preMa : Nat
  /-- Capacity in mAh, none where unknown. -/
  mah : Option Nat
  /-- NTC resistance at 25 °C in ohm. -/
  r25 : Nat
  /-- NTC B constant. -/
  beta : Nat
  /-- Charge minimum in °C. -/
  tMin : Int
  /-- Charge maximum in °C. -/
  tMax : Int
  /-- Discharge maximum in °C. -/
  tDis : Int
  /-- Pack thermal time constant in s. -/
  tau : Nat
deriving DecidableEq, Repr

/-- The charge parameters in force; none where no battery is strapped. -/
def chargeSet (s : State) : Option ChargeSet :=
  (battSetup (lvlD s 12)).map (fun b =>
    match s.gran.batt with
    | some p =>
      { lfp := b.lfp, cellMv := min b.cellMv p.cellMv, ma := min b.ma p.ma, preMa := p.preMa, mah := some p.mah
        r25 := p.r25 * 10, beta := p.beta, tMin := p.tMin, tMax := p.tMax, tDis := p.tDis, tau := p.tau }
    | none =>
      { lfp := b.lfp, cellMv := b.cellMv, ma := b.ma, preMa := b.ma / 10, mah := none, r25 := 10000, beta := 3435
        tMin := 0, tMax := if b.lfp then 55 else 60, tDis := 60, tau := 1800 })

/-- Pre-conditioning threshold and discharge cutoff of a pack in mV (Table 21.4). -/
def lowVolts (lfp : Bool) : Nat := if lfp then 7500 else 9000

/-- Recovery floor of a pack in mV. -/
def floorVolts : Nat := 4500

/-- Warm-zone voltage reduction of a pack in mV. -/
def warmDrop (lfp : Bool) : Nat := if lfp then 150 else 300

/-- The discharge cutoff of a device: 7.50 V without a known chemistry (R471). -/
def cutoffMv (s : State) : Nat :=
  match battSetup (lvlD s 12) with
  | some b => lowVolts b.lfp
  | none => 7500

/-! ### The battery switch (R458, R460, R474) -/

/-- Whether the battery switch may close while VIN is not valid: from t_latch a strap of 0 or 15 or an absent pack forbids it;
before, a pack above 7.50 V suffices. -/
def switchMay (s : State) : Bool :=
  !s.plant.switchOff
    && (if s.start.tLatch.isNone then decide (7500 < s.plant.vbatMv)
        else !s.plant.absent && (lvl s 12).all (fun k => k.val != 0 && k.val != 15))

/-- Another source than PoDL present: the DC input above the pair, or a battery (R161). -/
def otherSource (s : State) : Bool :=
  s.plant.sysGate || (!s.plant.absent && (battSetup (lvlD s 12)).isSome) || decide (s.plant.pairMv + 300 ≤ s.plant.vinMv)

/-- With PoDL turned off by SP_LINK, power that still flows stops as soon as another source is present (R161). -/
def podlYield (s : State) : State :=
  if !s.podl.signature && otherSource s then { s with podl := { s.podl with enable := false } } else s

/-- What SP_LINK makes of PoDL at t_latch: off, with no valid signature and no answer, or on (R55, R161). -/
def podlLatch (s : State) : State := podlYield { s with podl := { s.podl with signature := linkPodl (lvlD s 6) } }

/-- The battery switch set as VIN and the limits have it. -/
def setSwitch (s : State) : State :=
  { s with plant := { s.plant with sysGate := !s.plant.vinValid && switchMay s } }

/-! ### Charging (R467, R468, R470) -/

/-- The current one state of the charger regulates to, before its limits. -/
def phaseTarget (c : ChargeSet) (phase : Nat) : Nat := if phase = 1 then c.preMa else c.ma

/-- Fault codes that suspend the charger. -/
def suspends (s : State) : Bool := !s.plant.suspend.isEmpty

/-- A cause of suspension noted: a fault code with its cause. -/
def suspendBy (code cause : Nat) (s : State) : State :=
  let k := code * 256 + cause
  { s with plant := { s.plant with suspend := if s.plant.suspend.contains k then s.plant.suspend else s.plant.suspend ++ [k] } }

/-- A cause of suspension gone. -/
def unsuspend (code cause : Nat) (s : State) : State :=
  { s with plant := { s.plant with suspend := s.plant.suspend.filter (· != code * 256 + cause) } }

/-- Whether the charger is off whatever the pack reads (Table 21.5). -/
def chargerOff (s : State) : Bool :=
  (battSetup (lvlD s 12)).isNone || s.plant.absent || !s.plant.vinValid || s.start.tLatch.isNone || inMode .slumber s
    || s.plant.safeOff

/-- The phase after a look at VBAT_S: pre-conditioning below its threshold, constant voltage from the charge voltage on, and
out of completion at the recharge threshold. -/
def nextPhase (c : ChargeSet) (vbat phase : Nat) : Nat :=
  if vbat < lowVolts c.lfp then 1
  else if phase = 4 then (if vbat ≤ pack (c.cellMv - 100) then 2 else 4)
  else if pack c.cellMv ≤ vbat then 3
  else if phase = 3 then 3 else 2

/-- Current limits that lie below a phase's own target: half in the cool zone, the T_pred row, the input budget (Table 21.6). -/
def limitedMa (s : State) (c : ChargeSet) : Nat :=
  let p := s.plant
  let half := if p.cold = 1 then c.ma / 2 else c.ma
  min (min half (p.zoneUa / 1000)) p.limitMa

/-- The charge timer brought up to now (R467). -/
def chargeTick (s : State) : State :=
  let p := s.plant
  let runs := p.state == 1 || p.state == 2 || p.state == 3 || p.state == 5
  { s with plant := { p with timerNs := if runs then p.timerNs + (s.now - p.timerAt) else p.timerNs, timerAt := s.now } }

/-- Fixed-threshold charging holds off outside 5 to 40 °C, with 3 °C of hysteresis (R468). -/
def fixedHold (hot : Bool) (t : Int) : Bool :=
  if hot then !(decide (8000 ≤ t) && decide (t ≤ 37000)) else !(decide (5000 ≤ t) && decide (t ≤ 40000))

/-- FA13 cause 1 clears once VBAT_S is back at the discharge cutoff (Table 4.9); a switch about to open still opens (R471). -/
def cutoffClear (s : State) : State :=
  if isActive 0xFA13#16 1 s && decide (cutoffMv s ≤ s.plant.vbatMv) then clear 0xFA13#16 1 s else s

/-- The charger's state brought up to date from VBAT_S, VIN, the zones and the faults (Table 21.5); a pack below the recovery
floor is never charged and raises FA13 cause 2 (R471). -/
def chargerUpdate (s : State) : State :=
  let s := chargeTick (cutoffClear s)
  let p := s.plant
  match chargeSet s with
  | none => applyLimits { s with plant := { p with state := 0, phase := 0, preAt := none, taperAt := none } }
  | some c =>
    if chargerOff s then
      applyLimits { s with plant := { p with state := 0, phase := 0, preAt := none, taperAt := none } }
    else
      let low := decide (p.vbatMv < floorVolts)
      let known := p.suspend.contains (0xFA13 * 256 + 2)
      let s := if low && !known then
          suspendBy 0xFA13 2 (raise 0xFA13#16 2 (be 1 2 ++ be 2 p.vbatMv) s)
        else if !low && known then unsuspend 0xFA13 2 (clear 0xFA13#16 2 s) else s
      let p := s.plant
      if suspends s then applyLimits { s with plant := { p with state := 6, phase := 6 } }
      else
        let phase := nextPhase c p.vbatMv (if p.phase = 6 then 0 else p.phase)
        let derated := !p.fixed && phase != 4 && decide (limitedMa s c < phaseTarget c phase)
        let preAt := if phase = 1 then some (p.preAt.getD (s.now - p.preMs * ms1)) else none
        applyLimits { s with plant := { p with
          phase := phase, state := if derated then 5 else phase, preAt := preAt
          preMs := if phase = 1 then p.preMs else 0
          taperAt := if phase = 3 then p.taperAt else none } }

/-- The requested limits of context 15 (R468 to R470). -/
def requestNow (s : State) : ReqLimits :=
  match chargeSet s with
  | none => { ma := 0, mv := 0, discharge := s.plant.openAt.isNone }
  | some c =>
    let p := s.plant
    let ma := if p.phase = 1 then min c.preMa (limitedMa s c)
      else if p.phase = 2 || p.phase = 3 then min c.ma (limitedMa s c) else 0
    let mv := pack c.cellMv - (if 1 ≤ p.hot then warmDrop c.lfp else 0)
    { ma := ma, mv := mv, discharge := p.openAt.isNone }

/-- The limit of the charge timer in ns: twice the capacity over the effective current and an hour, or 12 h (R467). -/
def timerLimit (c : ChargeSet) : Nat :=
  match c.mah with
  | some q => 2 * q * 3600 * sec1 / max 1 c.ma + 3600 * sec1
  | none => 12 * 3600 * sec1

/-! ### Temperatures (R469, R470) -/

/-- A quotient of integers in the fixed point of the gate functions, as e to its power. -/
def expRatio (num : Int) (den : Nat) : Int := gateExp (num * gateOne / (den : Int))

/-- ln of a ratio of positive numbers in that fixed point. -/
def lnRatio (a b : Nat) : Int :=
  if b ≤ a then gateLn ((a : Int) * gateOne / (b : Int)) 0 else -gateLn ((b : Int) * gateOne / (a : Int)) 0

/-- Temperature of an NTC in milli-degrees Celsius: 10.0 kΩ pull-up, ratiometric, by its B constant. -/
def ntcTemp (r25 beta ppm : Nat) : Int :=
  let r := max 1 (10000 * ppm / max 1 (1000000 - ppm))
  let l := lnRatio r r25
  let kelvin := (beta : Int) * 298150 * gateOne / ((beta : Int) * gateOne + l * 298150 / 1000)
  kelvin - 273150

/-- Nano-kelvin of steady rise at a current in mA: k_h times the square of the current. -/
def steadyRise (lfp : Bool) (ma : Int) : Int := (if lfp then 6 else 10) * ma * ma * 100

/-- One millisecond of a first-order rise toward a steady value, of a time constant in ms. -/
def firstOrder (tauMs : Nat) (ss x : Int) : Int := x + (ss - x) * (gateOne - expRatio (-1) tauMs) / gateOne

/-- One millisecond of the pack's rise (R469). -/
def riseStep (tau : Nat) (ss x : Int) : Int := firstOrder (1000 * tau) ss x

/-- T_pred in milli-degrees (R469). -/
def predicted (tau : Nat) (ntc ss x : Int) : Int :=
  ntc + x / 1000000 + (ss - x) * (gateOne - expRatio (-600) tau) / gateOne / 1000000

/-- The cold zone after a reading (Table 21.6). -/
def coldZone (c : ChargeSet) (prev : Nat) (ntc : Int) : Nat :=
  if ntc < c.tMin * 1000 then 0
  else if prev = 0 ∧ ntc < (c.tMin + 2) * 1000 then 0
  else if 10 ≤ c.tMin then 2
  else if ntc < 10000 then 1
  else if prev ≤ 1 ∧ ntc < 12000 then 1
  else 2

/-- The hot zone after a reading (Table 21.6). -/
def hotZone (c : ChargeSet) (prev : Nat) (ntc pred : Int) : Nat :=
  if c.tMax * 1000 ≤ ntc then 3
  else if prev = 3 ∧ (c.tMax - 2) * 1000 ≤ ntc then 3
  else if c.tMax * 1000 ≤ pred then 2
  else if 2 ≤ prev ∧ (c.tMax - 2) * 1000 ≤ pred then 2
  else if c.tMax ≤ 45 then 0
  else if 45000 ≤ pred then 1
  else if 1 ≤ prev ∧ 43000 ≤ pred then 1
  else 0

/-- The T_pred row's limit after a millisecond: a tenth of the effective current a second, down or up again. -/
def zoneLimit (c : ChargeSet) (hot ua : Nat) : Nat :=
  let step := c.ma / 10
  let now := min ua (c.ma * 1000)
  if 2 ≤ hot then now - step else min (c.ma * 1000) (now + step)

/-- A rounded whole degree. -/
def degrees (mk : Int) : Int := (mk + 500) / 1000

/-- FA11: cause, T_NTC, T_pred. -/
def packHeat (cause : Nat) (s : State) : State :=
  raise 0xFA11#16 0 (be 1 cause ++ temp8 s.plant.tNtc ++ temp8 s.plant.tPred) s

/-! ### State of charge (R472) -/

/-- The resting table of a chemistry: cell millivolts and percent (Table 21.7). -/
def restTable (lfp : Bool) (cellMv : Nat) : List (Nat × Nat) :=
  if lfp then [(2500, 0), (3200, 10), (3300, 50), (3330, 90), (cellMv, 100)]
  else [(3000, 0), (3500, 5), (3700, 40), (3850, 70), (cellMv, 100)]

/-- Linear interpolation in a table of rising points. -/
def interpolate (x : Nat) : List (Nat × Nat) → Nat
  | [] => 0
  | [(_, y)] => y
  | (x0, y0) :: (x1, y1) :: l =>
    if x ≤ x0 then y0
    else if x < x1 then y0 + (x - x0) * (y1 - y0) / (x1 - x0)
    else interpolate x ((x1, y1) :: l)

/-- State of charge from VBAT_S at rest. -/
def restSoc (s : State) : Nat :=
  match chargeSet s with
  | some c => interpolate (s.plant.vbatMv / 3) (restTable c.lfp c.cellMv)
  | none => 255

/-- State of charge set, with the counted charge that goes with it. -/
def setSoc (percent : Nat) (s : State) : State :=
  let mah := ((chargeSet s).bind (·.mah)).getD 0
  { s with plant := { s.plant with soc := percent, socMams := (percent * mah * 36000 : Nat) } }

/-- A millisecond of pack current counted against the capacity, in mA ms, clamped to 0 to 100 % (R472). -/
def countSoc (ma : Int) (s : State) : State :=
  match (chargeSet s).bind (·.mah) with
  | none => s
  | some q =>
    let full : Int := (q * 3600000 : Nat)
    let n := max 0 (min full (s.plant.socMams + ma))
    { s with plant := { s.plant with socMams := n, soc := (n * 100 / full).toNat } }

/-! ### At a block boundary (R460, R461) -/

/-- FA00 for a loss of VIN since the last boundary, and its clearing for a return. -/
def powerBoundary (et : Nat) (s : State) : State :=
  let p := s.plant
  let s := if p.vinLostAt.isSome then
      raiseAt et 0xFA00#16 0 (be 1 (if p.lostPodl then 0 else 1) ++ be 2 p.lostMean ++ be 2 p.lostVbat)
        { s with plant := { p with vinLostAt := none, onBattery := true } }
    else s
  if s.plant.vinBackAt.isSome then
    clearAll 0xFA00#16 { s with plant := { s.plant with vinBackAt := none, onBattery := false } }
  else s

end Sys2Proof.Machine
end

