-- ==== Sys2Proof/Machine/Speakers.lean ====
section
/-! DEFINITION. The loudspeaker stages and context 15's part in them: the protection order, the power and excursion gains, the
thermal models (chapter 22). -/

namespace Sys2Proof.Machine

open Sys2Proof

/-! ### What is in force (R478, R487, Tables 22.1 and 22.3) -/

/-- Whether the two stages drive one loudspeaker. -/
def monoAmp (s : State) : Bool := (ampSetup (lvlD s 10)).any (·.1)

/-- The SP_AMP ceiling in mW: of each channel, or of both together in mono (R478). -/
def strapCeiling (s : State) : Nat := (ampSetup (lvlD s 10)).elim 0 (·.2)

/-- The ceiling of the strap and the profile (R32, R483). -/
def powerCeiling (s : State) : Nat := s.gran.spk.elim (strapCeiling s) (fun p => min (strapCeiling s) p.mw)

/-- Thermal figures: the profile's, else the generic ones. -/
def thermalSet (s : State) : SpkProfile := s.gran.spk.getD {}

/-- f_s in 0.1 Hz and V_X in mV: the speaker model's under levels 8 to 14, else the generic values (R485). -/
def excursionSet (s : State) : Nat × Nat :=
  match s.gran.spkModel with
  | some m => if ampModelSet (lvlD s 10) then (m.fs, m.vx) else (1500, 4000)
  | none => (1500, 4000)

/-- Nominal impedance in units of 10 mΩ (R491). -/
def nominalCent (s : State) : Nat := s.gran.spk.elim (if monoAmp s then 200 else 400) (·.zCent)

/-- One channel's record changed. -/
def mapSpk (k : Fin 2) (f : SpkChan → SpkChan) (s : State) : State :=
  { s with spk := { s.spk with ch := s.spk.ch.set k (f s.spk.ch[k]) } }

/-! ### Gains (R482, R483) -/

/-- A gain of tenths of a dB, not positive, in units of 2^-23; −601 and less is zero. -/
def powerGain (g : Int) : Nat :=
  if g ≤ -601 then 0 else (rne (linearGain (g.natAbs % 200) : Int) (10 ^ (g.natAbs / 200))).toNat

/-- A gain over a block: in a straight line from its value at one boundary to its value at the next (R482). -/
def lineGain (a b i n : Nat) : Int := rne ((a : Int) * ((n - i : Nat) : Int) + (b : Int) * (i : Int)) n

/-- A sample multiplied by a gain in units of 2^-23. -/
def gained (g x : Int) : Int := rne (x * g) 8388608

/-! ### The stages (R479, R480, R482, R484, R499) -/

/-- V_CLAMP in units of a sample at a device time: 0.92 × 2 × V_CM, V_CM rising over 20 ms from turning on (R479, R480). -/
def clampAt (s : State) (c : SpkChan) (time : Nat) : Int :=
  let ramp := min 20000000 (time - c.onAt)
  ((s.spk.pvddMv * 92 * 8388608 * ramp / (100 * 16000 * 20000000) : Nat) : Int)

/-- What acts after the clamp: 6 dB under the guard, 12 dB in fixed-threshold mode. -/
def afterClamp (s : State) (c : SpkChan) (x : Int) : Int :=
  let x := if c.guard.any (fun u => decide (s.now < u)) then gained (linearGain 60) x else x
  if s.plant.fixed then gained (linearGain 120) x else x

/-- The stage signal at a sample of the block just completed: its side, or in mono the mono of the pair (R478). -/
def stageSample (s : State) (k : Fin 2) (i : Nat) : Int :=
  if monoAmp s then (outValue s.routing.outputs (.spk false) i + outValue s.routing.outputs (.spk true) i) / 2
  else outValue s.routing.outputs (.spk (k == 1)) i

/-- One sample through the protection order: the power gain, the excursion split, the clamp; with the crossover's state and
the peak of the low band (R482). -/
def protectSample (s : State) (k : Fin 2) (n : Nat) (a : List Int × List Int × Nat) (i : Nat) : List Int × List Int × Nat :=
  let c := s.spk.ch[k]
  let x := gained (lineGain (powerGain c.gP) (powerGain c.gPEnd) i n) (stageSample s k i)
  let r := Config.crossover (excursionSet s).1 s.well.rate a.2.1 x
  let y := gained (lineGain c.gX c.gXEnd i n) r.1 + r.2.1
  let lim := clampAt s c (instantOf s i)
  (a.1 ++ [afterClamp s c (max (-lim) (min lim y))], r.2.2, max a.2.2 r.1.natAbs)

/-- The block just completed driven through one stage. -/
def driveStage (s : State) (k : Fin 2) : State :=
  let c := s.spk.ch[k]
  if !c.on then mapSpk k (fun c => { c with drive := [], vLo := 0 }) s
  else
    let n := thisLen s
    let r := (List.range n).foldl (protectSample s k n) ([], c.xover, 0)
    mapSpk k (fun c => { c with drive := r.1, xover := r.2.1, vLo := r.2.2 * 16000 / 8388608 }) s

/-- Whether the stages may be on (R480). -/
def stagesMay (s : State) : Bool :=
  (ampSetup (lvlD s 10)).isSome && s.blocks.running && (inMode .solo s || inMode .member s || inMode .leader s) && s.red.releaseAt.isNone
    && decide (4500 ≤ s.spk.pvddMv) && decide (s.spk.pvddMv ≤ 30000) && !s.spk.fault && !s.plant.shut
    && s.plant.linkLost.isNone

/-- A stage turned on or off at a boundary (R480). -/
def switchStage (s : State) (c : SpkChan) : SpkChan :=
  if stagesMay s then (if c.on then c else { c with on := true, onAt := s.gptp.time, xover := [] })
  else { c with on := false }

/-- What the plant die senses of one stage over a block (R481). -/
def takeSense (x : SpkSense) (c : SpkChan) : SpkChan :=
  { c with
    senseMw := x.mw, senseMohm := x.mohm, senseLowMw := x.lowMw
    power := (x.mw :: c.power).take 100, secMw := (x.mw :: c.secMw).take 1000 }

/-- The gains move on by a block, and a saturated model takes effect: g_P zero, FB00 (R482, R489). -/
def gainBoundary (s : State) (k : Fin 2) : State :=
  let s := mapSpk k (fun c => { c with gP := c.gPEnd, gPEnd := c.gPNext, gX := c.gXEnd, gXEnd := c.gXNext }) s
  let c := s.spk.ch[k]
  match c.satDue with
  | some limit =>
    let s := mapSpk k (fun c => { c with satDue := none, saturated := true, releaseAt := none, gP := -601, gPEnd := -601, gPNext := -601 }) s
    if monoAmp s && k == 1 then s
    else raise 0xFB00#16 k.val (be 1 k.val ++ be 1 limit ++ beInt 1 c.tVc ++ beInt 1 c.tMag) s
  | none => s

/-- The loudspeakers when a block has ended: what it drove, and what was sensed over it. -/
def speakersEnd (x0 x1 : SpkSense) (s : State) : State :=
  let s := driveStage (driveStage s 0) 1
  mapSpk 1 (takeSense x1) (mapSpk 0 (takeSense x0) s)

/-- The loudspeakers at the boundary that begins a block. -/
def speakersBegin (pvdd : Nat) (s : State) : State :=
  let s := { s with spk := { s.spk with pvddMv := pvdd } }
  let s := { s with spk := { s.spk with ch := s.spk.ch.map (switchStage s) } }
  if s.blocks.running then gainBoundary (gainBoundary s 0) 1 else s

/-! ### Context 15's computation (R483 to R489) -/

/-- A section's state saturated at the ends of INT32 in micro-kelvin (R358; log entry 67). -/
def satSection (x : Int) : Int := max (-2147483648000) (min 2147483647000 x)

/-- Steady rise in nano-kelvin of a power in mW over a resistance in 0.01 K/W. -/
def steadyOf (r mw : Nat) : Int := ((r * mw * 10000 : Nat) : Int)

/-- T_vc measured from the coil resistance in nano-degrees, where the step's signal below f_s is strong enough (R487). -/
def measuredVc (s : State) (x : SpkSense) : Option Int :=
  match s.gran.spkModel with
  | some m =>
    if ampModelSet (lvlD s 10) && decide (10 ≤ x.lowMw) then
      some (25000000000 + ((x.mohm : Int) - (m.re : Int)) * 1000000000000000 / ((m.re * m.alpha : Nat) : Int))
    else none
  | none => none

/-- A temperature difference in nano-kelvin over a resistance in 0.01 K/W, in mW; a negative result is zero (R488). -/
def allowance (d : Int) (r : Nat) : Nat := (d / ((r * 10000 : Nat) : Int)).toNat

/-- P_T from the two temperatures in nano-degrees, with the condition that gave it: 0 coil, 1 magnet (R488). -/
def thermalLimit (q : SpkProfile) (amb vc mag : Int) : Option (Nat × Nat) :=
  let n : Int := 1000000000
  let coil := if ((q.tCoil : Int) - 10) * n ≤ vc then some (allowance ((q.tCoil : Int) * n - mag) q.rCoil, 0) else none
  let magnet := if ((q.tMag : Int) - 5) * n ≤ mag then some (allowance ((q.tMag : Int) * n - amb) (q.rMag + q.rCoil), 1) else none
  match coil, magnet with
  | some a, some b => if b.1 < a.1 then some b else some a
  | some a, none => some a
  | none, b => b

/-- P_T after the plant die's own derating: ceiling × (150 °C − T_die) / 15 K (Table 22.5). -/
def derated (s : State) (p : Option (Nat × Nat)) : Option Nat :=
  let cap := (((strapCeiling s : Nat) : Int) * (150 - s.plant.dieTemp) / 15).toNat
  if s.plant.derate then some (p.elim cap (fun x => min cap x.1)) else p.map (·.1)

/-- P_meas: mean power of the last 100 ms. -/
def meanMw (l : List Nat) : Nat := if l.isEmpty then 0 else l.foldl (· + ·) 0 / l.length

/-- g_P one boundary on (R483): a tenth of a dB up, a dB down, zero below −60 dB, and from zero to −60 dB. -/
def stepPower (meas tgt : Nat) (g : Int) : Int :=
  if tgt < meas then (if g - 10 < -600 then -601 else g - 10)
  else if meas * 10 < tgt * 8 then (if g ≤ -601 then -600 else min 0 (g + 1))
  else g

/-- g_X one boundary on (R485). -/
def stepExcursion (vx vLo g : Nat) : Nat :=
  if vx < vLo then vx * 8388608 / vLo else min 8388608 (g * 8388608 / linearGain 1)

/-- One channel after a step of context 15, of what is sensed of its loudspeaker and the mean `meas` of its power; in fixed-threshold
mode g_P, g_X and P_T are held (R499). -/
def stepChannel (s : State) (x : SpkSense) (meas : Nat) (c : SpkChan) : SpkChan :=
  let q := thermalSet s
  let mw := x.mw
  let amb : Int := s.plant.coreTemp * 1000000000
  let mag := firstOrder (1000 * q.tauMag) (steadyOf q.rMag mw) c.magNk
  let coil := firstOrder q.tauCoil (steadyOf q.rCoil mw) c.coilNk
  let over_ := decide (satSection mag ≠ mag) || decide (satSection coil ≠ coil)
  let mag := satSection mag
  let coil := satSection coil
  let tMag := amb + mag
  let modelled := tMag + coil
  let tVc := (measuredVc s x).elim modelled (max modelled)
  let lim := thermalLimit q amb tVc tMag
  let allow := if s.plant.fixed then c.allowMw else derated s lim
  let ceil := powerCeiling s
  let tgt := min (min ceil (allow.getD ceil)) (s.plant.plantCapMw.getD ceil)
  let sat := over_ || allow == some 0
  let gP := if c.saturated || s.plant.fixed then c.gPNext else stepPower meas tgt c.gPNext
  let gX := if s.plant.fixed then c.gXNext else stepExcursion (excursionSet s).2 c.vLo c.gXNext
  { c with
    magNk := mag, coilNk := coil
    tVc := max (-128) (min 127 (tVc / 1000000000)), tMag := max (-128) (min 127 (tMag / 1000000000))
    allowMw := allow
    satDue := if sat && !c.saturated then some (if over_ then 2 else lim.elim 0 (·.2)) else none
    releaseAt := if c.saturated && !sat && allow.all (fun p => decide (ceil ≤ p * 10)) then some (c.releaseAt.getD s.now) else none
    gPNext := gP, gXNext := gX
    limited := c.limited || allow.any (fun p => decide (p < ceil))
    exceeded := c.exceeded || decide (ceil < meas)
    excursed := c.excursed || decide (gX < 8388608) }

/-- What was sensed of a channel's stage. -/
def SpkChan.sensed (c : SpkChan) : SpkSense := { mw := c.senseMw, mohm := c.senseMohm, lowMw := c.senseLowMw }

/-- What two stages sense of the one loudspeaker across both: their powers add, and so do their currents. -/
def bothSensed (a b : SpkSense) : SpkSense :=
  { mw := a.mw + b.mw, mohm := a.mohm * b.mohm / max 1 (a.mohm + b.mohm), lowMw := a.lowMw + b.lowMw }

/-- Context 15's loudspeaker computation for one step: each channel, or in mono the one loudspeaker of both, which share their
gains (R482, R487). -/
def plantJob (s : State) : State :=
  let a := s.spk.ch[0]
  let b := s.spk.ch[1]
  if (ampSetup (lvlD s 10)).isNone then s
  else if monoAmp s then
    let step := stepChannel s (bothSensed a.sensed b.sensed) (meanMw a.power + meanMw b.power)
    mapSpk 1 step (mapSpk 0 step s)
  else mapSpk 1 (stepChannel s b.sensed (meanMw b.power)) (mapSpk 0 (stepChannel s a.sensed (meanMw a.power)) s)

end Sys2Proof.Machine
end

