-- ==== Sys2Proof/Machine/Thresher.lean ====
section
/-! DEFINITION. Thresher's job windows: inputs and their classes, jobs, commits, misses, visibility, the motor lane, and the
self-check (chapters 16 to 18). -/

namespace Sys2Proof.Machine

open Sys2Proof

/-! ### Inputs (R348, R386, R387) -/

/-- One context changed. -/
def setCtx (k : Fin 16) (c : Ctx) (s : State) : State := { s with thr := { s.thr with ctxs := s.thr.ctxs.set k c } }

/-- One context's record changed by a function. -/
def mapCtx (k : Fin 16) (f : Ctx → Ctx) (s : State) : State := setCtx k (f s.thr.ctxs[k]) s

/-- Samples of the block `d` after the present one (R328). -/
def aheadLen (s : State) (d : Nat) : Nat := blockLen s.well.rate ((s.blocks.group + d) % groupSize s.well.rate)

/-- First position of that block, counted from the start of the present one. -/
def aheadPos (s : State) (d : Nat) : Nat := sumNat ((List.range d).map (aheadLen s))

/-- The channel of the followed program stream that carries a side of the station pair; none where it has none (R197). -/
def stationChannel (s : State) (x : RxStream) (right : Bool) : Option Nat :=
  let even := x.channels / 2
  let ch := if x.channels = 1 then 0 else 2 * (if even = 0 then 0 else node s % 32 % even) + (if right then 1 else 0)
  if ch < x.channels then some ch else none

/-- One sample of the station pair in the block `d` after the present one, classified for a context now (R386). -/
def stationInput (s : State) (ctx : Nat) (right : Bool) (d i : Nat) : InSample :=
  if !inMode .member s then {}
  else
    match programRx s with
    | none => {}
    | some x =>
      match stationChannel s x right with
      | none => {}
      | some ch =>
        let pos := aheadPos s d + i
        match x.ready[pos]? with
        | some row =>
          (match row[ch]? with
           | some y => { value := y.v, cls := if y.c then .lost else .accepted }
           | none => {})
        | none =>
          let settled := s.thr.settled.contains (ctx, (if right then 1 else 0), s.blocks.number + d, i)
          if settled then { cls := .lost }
          else
            match acceptedAt s.well.rate s.blocks.stamp pos x.play with
            | some l => { value := (l[ch]?).getD 0 }
            | none => { cls := .missing }

/-- What concealment knew of a side of the station pair at the start of the present block. -/
def stationBase (s : State) (right : Bool) : LastGood :=
  match programRx s with
  | some x => ((stationChannel s x right).bind (fun ch => x.good0[ch]?)).getD {}
  | none => {}

/-- Input channels of a fed-ahead context in the block `d` after the present one: the station pair, and for the lip-sync point
the clip mix made available for that block (R371, R380). -/
def aheadInputs (s : State) (c : CtxDesc) (d : Nat) : List (List InSample) :=
  let n := aheadLen s d
  let st (r : Bool) : List InSample :=
    if c.points == [4] && s.routing.profile != 2 then (List.range n).map (fun _ => {})
    else (List.range n).map (stationInput s c.ctx r d)
  if c.points == [4] then
    let k := (s.clips.ahead[d]?).getD ([], [])
    let clip (l : List Int) : List InSample := (List.range n).map (fun i => { value := (l[i]?).getD 0 })
    [st false, st true, clip k.1, clip k.2]
  else [st false, st true]

/-- A channel's samples as values, from what concealment knew before the first of them (R387). -/
def inputValues (rate : Nat) (base : LastGood) (l : List InSample) : List Int :=
  (l.foldl (fun (a : List Int × LastGood) x =>
    match x.cls with
    | .accepted => (a.1 ++ [x.value], { value := x.value })
    | _ => (a.1 ++ [fallback rate a.2.value a.2.gone], { a.2 with gone := a.2.gone + 1 })) ([], base)).1

/-- The values of a channel over the steps of a job, step by step. -/
def channelSteps (rate : Nat) (base : LastGood) (l : List (List InSample)) : List (List Int) :=
  let v := inputValues rate base l.flatten
  (l.foldl (fun (a : List (List Int) × List Int) x => (a.1 ++ [a.2.take x.length], a.2.drop x.length)) ([], v)).1

/-- The input of the lip-sync point at one sample, from its four channels (Tables 9.2, 9.3). -/
def lipInput (s : State) (gain : Int) (stl str k0 k1 : Int) : Int :=
  let sig : Sig → Sample
    | .station r => ⟨if r then str else stl, false⟩
    | .clip r => ⟨if r then k1 else k0, false⟩
    | _ => zeroSample
  match (outputs (counts s)).find? (fun x => x.1 == .lip) with
  | some x => (mixSample sig (linearGain gain.natAbs) x.2).v
  | none => 0

/-- What a job's context takes: its inputs step by step and channel by channel (R348, R372). -/
def jobValues (s : State) (c : CtxDesc) (j : Job) : List (List (List Int)) :=
  let chan (k : Nat) : List (List InSample) := j.inputs.map (fun st => (st[k]?).getD [])
  if !c.ahead then j.inputs.map (fun st => st.map (fun ch => ch.map (·.value)))
  else
    let vals (k : Nat) : List (List Int) := (channelSteps s.well.rate ((j.base[k]?).getD {}) (chan k)).drop 1
    if c.points == [4] then
      (List.range c.kay).map (fun t =>
        let at_ (k i : Nat) : Int := (((vals k)[t]?).bind (fun l => l[i]?)).getD 0
        [(List.range (((vals 0)[t]?).getD []).length).map (fun i => lipInput s j.gain (at_ 0 i) (at_ 1 i) (at_ 2 i) (at_ 3 i))])
    else (List.range c.kay).map (fun t => [((vals 0)[t]?).getD [], ((vals 1)[t]?).getD []])

/-- Whether a job has an input of the missing class among those its steps take. -/
def hasMissing (l : List (List (List InSample))) : Bool := (l.drop 1).any (fun st => st.any (fun ch => ch.any (fun x => x.cls == .missing)))

/-- Missing inputs settled as lost (R388, R391). -/
def settleInputs (l : List (List (List InSample))) : List (List (List InSample)) :=
  l.map (fun st => st.map (fun ch => ch.map (fun x => if x.cls == .missing then { x with cls := .lost } else x)))

/-- The places of a job's missing inputs, as the settled list keeps them: `first` is the block of its first entry. -/
def missingPlaces (ctx first : Nat) (l : List (List (List InSample))) : List (Nat × Nat × Nat × Nat) :=
  l.zipIdx.flatMap (fun st => st.1.zipIdx.flatMap (fun ch => ch.1.zipIdx.filterMap (fun x =>
    if x.1.cls == .missing then some (ctx, ch.2, first + st.2, x.2) else none)))

/-- An outstanding sheaf's missing inputs brought up to date with what has been accepted since, for the blocks from the
present one on. -/
def refreshJob (s : State) (c : CtxDesc) (j : Job) : Job :=
  { j with inputs := j.inputs.zipIdx.map (fun st =>
    let b := j.start - 1 + st.2
    if b < s.blocks.number then st.1
    else
      let now := aheadInputs s c (b - s.blocks.number)
      st.1.zipIdx.map (fun ch => ch.1.zipIdx.map (fun x =>
        if x.1.cls == .missing then (((now[ch.2]?).bind (fun l => l[x.2]?)).getD x.1) else x.1))) }

/-- Every outstanding sheaf brought up to date: done before the samples of the present block are let go. -/
def refreshOutstanding (s : State) : State :=
  { s with thr := { s.thr with ctxs := s.thr.ctxs.map (fun c =>
    match c.desc, c.outstanding with
    | some d, some j => { c with outstanding := some (refreshJob s d j) }
    | _, _ => c) } }

/-- The block that ends added to what locally fed contexts have kept of their inputs, K blocks at most (R348). -/
def keepInputs (s : State) : State :=
  let n := thisLen s
  { s with thr := { s.thr with ctxs := s.thr.ctxs.map (fun c =>
    match c.desc with
    | some d =>
      if d.ahead then c
      else
        let block := d.points.map (fun m => (List.range n).map (fun i => (rawMic s m i).v))
        let h := c.history ++ [block]
        { c with history := h.drop (h.length - d.kay) }
    | none => c) } }

/-! ### Windows (R346 to R348, R378, R390) -/

/-- The first step of the sheaf whose job window is that of a block, if any; `first` is the first block of the data path. -/
def sheafAt (c : CtxDesc) (block first : Nat) : Option Nat :=
  let s0 : Int := if c.ahead then (block : Int) + 1 else (block : Int) - (c.kay : Int)
  if s0 < (first : Int) || (s0 - (c.phase : Int)) % (c.len : Int) ≠ 0 then none else some s0.toNat

/-- The jobs a context places in the window of the present block, with the samples they settle. -/
def ctxJobs (s : State) (c : Ctx) : List Job × List (Nat × Nat × Nat × Nat) :=
  match c.desc with
  | none => ([], [])
  | some d =>
    match sheafAt d s.blocks.number s.thr.first with
    | none => ([], [])
    | some s0 =>
      let job : Job := { ctx := d.ctx, block := s.blocks.number, start := s0, gain := s.routing.duck, h0 := c.h0 }
      if !d.ahead then
        (if c.history.length = d.kay then
          ([{ job with inputs := c.history.map (fun st => st.map (fun ch => ch.map (fun v => { value := v }))) }], [])
         else ([], []))
      else
        let again := c.outstanding.map (refreshJob s d)
        let gone := again.elim [] (fun j => missingPlaces d.ctx (j.start - 1) j.inputs)
        let later := { s with thr := { s.thr with settled := s.thr.settled ++ gone } }
        let inputs := (List.range (d.kay + 1)).map (aheadInputs later d)
        let base := [stationBase s false, stationBase s true]
        let new : Job := { job with inputs := inputs, base := base, rerun := again.isSome
                                    h0 := if again.isSome then none else c.h0 }
        let new := if d.speculable then { new with predicted := hasMissing inputs } else { new with inputs := settleInputs inputs }
        let more := if d.speculable then [] else missingPlaces d.ctx s.blocks.number inputs
        match again with
        | none => ([new], more)
        | some j =>
          let redo : Job := { j with
            rerun := false, recompute := true, block := s.blocks.number, h0 := c.h0, predicted := false, done := false
            lostInput := hasMissing j.inputs, inputs := settleInputs j.inputs }
          ([redo, new], gone ++ more)

/-- Whether the device evaluates contexts: in SOLO, MEMBER, LEADER and, in step, a hot PARTNER (R214, R339). -/
def runsContexts (s : State) : Bool :=
  inMode .solo s || inMode .member s || inMode .leader s || (inMode .partner s && hotRole (role s) && s.red.state == .inStep)

/-- Whether context 15 runs: in SOLO, MEMBER, LEADER and PARTNER, a cold partner's without its data path (R67, R214). -/
def plantRuns (s : State) : Bool := inMode .solo s || inMode .member s || inMode .leader s || inMode .partner s

/-- The job window of the present block opens with context 15's job (R347, R378). -/
def plantWindow (s : State) : State :=
  let plant : Job := { ctx := 15, block := s.blocks.number, start := s.blocks.number, h0 := s.thr.ctxs[(15 : Fin 16)].h0 }
  { s with thr := { s.thr with
    windowAt := s.blocks.stamp, jobs := [plant], ctxs := s.thr.ctxs.set 15 { s.thr.ctxs[(15 : Fin 16)] with h0 := none } } }

/-- The contexts' jobs placed in the present window: primary jobs, then rerun slots, each in ascending context number (R378); a
joining partner records its jobs for replay (R221). -/
def contextWindow (s : State) : State :=
  let r := s.thr.ctxs.toList.map (ctxJobs s)
  let jobs := r.flatMap (·.1)
  let settled := (s.thr.settled ++ r.flatMap (·.2)).filter (fun x => decide (s.blocks.number ≤ x.2.2.1))
  let fresh (c : Ctx) : Ctx := if jobs.any (fun j => c.desc.any (fun d => d.ctx == j.ctx)) then { c with h0 := none } else c
  if runsContexts s then
    { s with thr := { s.thr with
      settled := settled, ctxs := s.thr.ctxs.map fresh
      jobs := s.thr.jobs ++ jobs.filter (fun j => !j.rerun) ++ jobs.filter (fun j => j.rerun) } }
  else if inMode .partner s && s.red.state == .joining then
    { s with thr := { s.thr with replay := s.thr.replay ++ jobs } }
  else s

/-- Budget of a job in TH cycles (R375, R376). -/
def jobCycles (s : State) (j : Job) : Nat :=
  if j.ctx = 15 then 20000 else ((loaded s).find? (fun d => d.ctx == j.ctx)).elim 0 (·.budget)

/-- The contexts whose jobs lie in the schedule row of a block, in ascending number (R377). -/
def rowCtxs (s : State) (block : Nat) : List CtxDesc := (loaded s).filter (fun d => block % 32 % d.len == d.psi)

/-- A job's offset in its window, in cycles: context 15 first, then each job of the row after the budgets placed before it, then the
rerun slots, used or not (R378). -/
def jobOffset (s : State) (j : Job) : Nat :=
  let row := rowCtxs s j.block
  let below := row.filter (fun d => decide (d.ctx < j.ctx))
  if j.ctx = 15 then 0
  else if j.rerun then 20000 + sumNat (row.map (·.budget)) + sumNat ((below.filter (·.speculable)).map (·.budget))
  else 20000 + sumNat (below.map (·.budget))

/-- The instant a job starts: its window's start and its offset, at 2 ns a cycle (R378). -/
def jobStart (s : State) (j : Job) : Nat := s.thr.windowAt + 2 * jobOffset s j

/-- The deadline of the present window (R347). -/
def windowEnd (s : State) : Nat := s.thr.windowAt + 750000

/-! ### Results -/

/-- A context's state put on its way to the bank that is not current, as class 1 writes (R383, R412, R414). -/
def sendBank (k : Nat) (b : List Byte) (s : State) : State :=
  siloWrite 1 k (bankAddr (loaded s) k (!currentBank s k)) b.length (writeBank k b s)

/-- A context's final state on its way to the Silo: written to the bank that is not current, or waiting for the commit
before it (R383, R392). -/
def commitState (k : Fin 16) (block : Nat) (b : List Byte) (s : State) : State :=
  if s.thr.ctxs[k].commitDue then mapCtx k (fun c => { c with waiting := some b }) s
  else mapCtx k (fun c => { c with commitDue := true, commitBlock := block, final := some b }) (sendBank k.val b s)

/-- What a job yields: an output for each step of its sheaf, and its final state (R348, R372, R494). -/
def jobResult (s : State) (d : CtxDesc) (j : Job) (h0 : List Byte) : List StepOut × List Byte :=
  let n := maxLen s.well.rate
  let r := runContext (loftBlock s) n d h0 (jobValues s d j)
  let cls : OutClass := if j.predicted then .speculative else .committed
  (r.1.zipIdx.map (fun row =>
    let step := j.start + row.2
    let o : StepOut := { step := step, block := if d.ahead then step else step + d.kay + 1, sheaf := j.start, cls := cls }
    if d.points == [4] then { o with target := rhe (fpAt row.1 0) } else { o with audio := audioOut n d.outCh row.1 }), r.2)

/-- New outputs of a context take the place of those of the same steps that nothing has shown. -/
def putOuts (new : List StepOut) (old : List StepOut) : List StepOut :=
  old.filter (fun o => o.shown || !new.any (fun x => x.step == o.step))
    ++ new.filter (fun x => !old.any (fun o => o.shown && o.step == x.step))

/-- FB20: context, cause, blocks driven through the lane (Table 18.3). -/
def withdrawLane (cause : Nat) (s : State) : State :=
  let l := s.thr.lane
  let ctx := (servedBy s 4).elim 0 (fun x => x.1.desc.elim 0 (·.ctx))
  raise 0xFB20#16 0 (be 1 ctx ++ be 1 cause ++ be 1 (min 255 l.blocks))
    { s with
      thr := { s.thr with lane := { l with driving := none, withdrawn := true, target := l.committed } }
      motor := { s.motor with target := l.committed, prevTarget := l.committed } }

/-- A recompute ends: a rollback counted, the lane drive of its sheaf confirmed or withdrawn, and the last committed target
that of its last step (R390, R391, R398). -/
def settleRecompute (d : CtxDesc) (j : Job) (outs : List StepOut) (s : State) : State :=
  let k := Fin.ofNat 16 d.ctx
  let s := mapCtx k (fun c => { c with outstanding := none, rollSec := sat16 (c.rollSec + 1) }) s
  let s := { s with status := { s.status with sec := { s.status.sec with rollbacks := sat16 (s.status.sec.rollbacks + 1) } } }
  if d.points == [4] then
    let l := s.thr.lane
    let s := { s with thr := { s.thr with lane := { l with committed := (outs.getLast?).elim l.committed (·.target) } } }
    if l.driving.isSome && l.sheaf == j.start && !l.confirmed then
      (if j.lostInput then withdrawLane 0 s else { s with thr := { s.thr with lane := { s.thr.lane with confirmed := true } } })
    else s
  else s

/-- The rerun-slot job of a context takes its first state from a recompute's final one (R390). -/
def feedRerun (ctx : Nat) (b : List Byte) (jobs : List Job) : List Job :=
  jobs.map (fun x => if x.ctx == ctx && x.rerun && x.h0.isNone then { x with h0 := some b } else x)

/-- One job of the present window changed. -/
def setJob (j : Job) (s : State) : State :=
  { s with thr := { s.thr with jobs := s.thr.jobs.map (fun x => if x.ctx == j.ctx && x.rerun == j.rerun then j else x) } }

/-- A job ends within its budget: its outputs, and its state on the way to the Silo, or its sheaf outstanding (R383, R388). -/
def finishJob (j : Job) (h0 : List Byte) (s : State) : State :=
  let k := Fin.ofNat 16 j.ctx
  let s := setJob { j with done := true } s
  if j.ctx = 15 then
    let b := padTo plantState 0#8 (Config.plantImage s.freeCtr)
    commitState k j.block b (plantJob { s with freeCtr := s.freeCtr + 1, thr := { s.thr with missRow := 0 } })
  else
    match s.thr.ctxs[k].desc with
    | none => s
    | some d =>
      let r := jobResult s d j h0
      let s := mapCtx k (fun c => { c with outs := putOuts r.1 c.outs }) s
      if j.predicted then mapCtx k (fun c => { c with outstanding := some { j with done := false } }) s
      else
        let s := commitState k j.block r.2 s
        if j.recompute then
          settleRecompute d j r.1 { s with thr := { s.thr with jobs := feedRerun j.ctx r.2 s.thr.jobs } }
        else s

/-- F800 for one missed sheaf: the second's first context and kind, and how many were missed (R366). -/
def missFault (ctx : Nat) (ahead : Bool) (s : State) : State :=
  let t := if folding 0xF800#16 [] s then s.thr
    else { s.thr with missSec := 0, missFirst := (ctx, if ahead then 1 else 0) }
  let t := { t with missSec := sat16 (t.missSec + 1) }
  let c := s.status.sec
  let s := { s with thr := t, status := { s.status with sec := { c with missed := sat16 (c.missed + 1) } } }
  raiseCount 0xF800#16 0 [] (be 1 t.missFirst.1 ++ be 2 t.missSec ++ be 1 t.missFirst.2) s

/-- A job that missed its deadline (R385): an enhancement point delivers its microphone unenhanced as concealment, the other
points hold; nothing is committed, and a new sheaf leaves nothing outstanding. -/
def missJob (s : State) (j : Job) : State :=
  let k := Fin.ofNat 16 j.ctx
  match s.thr.ctxs[k].desc with
  | none => missFault j.ctx false { s with thr := { s.thr with missRow := s.thr.missRow + 1 } }
  | some d =>
    let s := missFault j.ctx d.ahead s
    if d.ahead then mapCtx k (fun c => { c with
      waiting := none, outs := c.outs.filter (fun o => !(o.sheaf == j.start && !o.shown && !j.recompute))
      outstanding := c.outstanding.filter (fun o => j.recompute || o.start != j.start) }) s
    else
      let outs := (List.range d.len).map (fun i =>
        ({ step := j.start + i, block := j.start + i + d.kay + 1, sheaf := j.start, cls := .concealment
           audio := ((j.inputs[i]?).getD []).map (fun ch => ch.map (·.value)) } : StepOut))
      mapCtx k (fun c => { c with outs := putOuts outs c.outs }) s

/-- Whether a job counts as missed at its deadline: not done, or a rerun-slot job while the recompute's commit is still under
way (R385, R392). -/
def missedJob (s : State) (j : Job) : Bool :=
  let c := s.thr.ctxs[Fin.ofNat 16 j.ctx]
  !j.done || (j.rerun && (c.waiting.isSome || (j.predicted && c.commitDue)))

/-- The window closes: every job that missed it, in order (R385). -/
def endWindow (s : State) : State :=
  let l := s.thr.jobs.filter (missedJob s)
  let s := l.foldl missJob s
  { s with thr := { s.thr with jobs := [] } }

/-! ### Visibility (R392 to R397) -/

/-- Whether the speculative lane is enabled (R396). -/
def laneEnabled (s : State) : Bool :=
  within 1 (lvlD s 11) 14 && s.routing.profile == 2
    && (servedBy s 4).any (fun x => x.1.desc.any (·.speculable)) && s.gran.mot.any (fun p => decide (20 ≤ p.tauMs))

/-- Lowest and highest target (R494, R497). -/
def targetRange (s : State) : Int × Int := match s.gran.mot with
  | some p => (p.lo, p.hi)
  | none => (-1000, 1000)

/-- A target clamped to the profile's range (R494). -/
def clampTarget (s : State) (y : Int) : Int := min (max y (targetRange s).1) (targetRange s).2

/-- A target driven through the lane: the last committed one plus the difference, clamped to a quarter of the span (R397). -/
def laneTarget (s : State) (y : Int) : Int :=
  let q := ((targetRange s).2 - (targetRange s).1) / 4
  s.thr.lane.committed + max (-q) (min q (clampTarget s y - s.thr.lane.committed))

/-- One promotion: F810 with the context, its point, and the second's promotions and rollbacks (R393, Table 18.3). -/
def promote (k : Fin 16) (point : Nat) (s : State) : State :=
  let key := be 1 k.val ++ be 1 point
  let s := if folding 0xF810#16 key s then s else mapCtx k (fun c => { c with promoSec := 0 }) s
  let s := mapCtx k (fun c => { c with promoSec := sat16 (c.promoSec + 1) }) s
  let c := s.thr.ctxs[k]
  let roll := c.rollSec
  let s := raiseCount 0xF810#16 k.val key (be 2 c.promoSec ++ be 2 roll) s
  if folding 0xF810#16 key s then s else mapCtx k (fun c => { c with rollSec := 0 }) s

/-- The lane takes a target for the next block: a new sheaf begins a drive, one already withdrawn drives no more (R398). -/
def driveLane (o : StepOut) (s : State) : State :=
  let l := s.thr.lane
  if l.sheaf == o.sheaf && l.withdrawn then { s with thr := { s.thr with lane := { l with target := l.committed } } }
  else
    let next := s.blocks.stamp + thisLen s * 1000000000 / s.well.rate
    let l := if l.sheaf == o.sheaf && l.driving.isSome then l
      else { l with sheaf := o.sheaf, withdrawn := false, confirmed := false, driving := some next, blocks := 0 }
    let target := laneTarget s o.target
    { s with thr := { s.thr with lane := { l with target := target, blocks := l.blocks + 1, usedSec := true } } }

/-- One context's output for the next block becomes visible. -/
def showOut (k : Fin 16) (o : StepOut) (s : State) : State :=
  let spec := o.cls == .speculative
  let seen := { o with shown := true, cls := if spec then .concealment else o.cls }
  let s := mapCtx k (fun c => { c with outs := c.outs.map (fun x => if x.step == o.step then seen else x) }) s
  let lip := s.thr.ctxs[k].desc.any (fun d => d.points == [4])
  let s := if spec then promote k (if lip then 4 else 5) s else s
  if !lip then s
  else if !spec then
    let y := clampTarget s o.target
    { s with thr := { s.thr with lane := { s.thr.lane with committed := y, target := y, driving := none } } }
  else if laneEnabled s then driveLane o s
  else { s with thr := { s.thr with lane := { s.thr.lane with target := s.thr.lane.committed } } }

/-- The visibility instant of the next block's step: each fed-ahead context's output for it (R393). -/
def showNext (s : State) : State :=
  (List.finRange 16).foldl (fun (s : State) k =>
    let c := s.thr.ctxs[k]
    match c.desc, c.outs.find? (fun o => o.block == s.blocks.number + 1 && !o.shown) with
    | some d, some o => if d.ahead then showOut k o s else s
    | _, _ => s) s

/-- Outputs let go a block after theirs has passed. -/
def dropOuts (s : State) : State :=
  { s with thr := { s.thr with ctxs := s.thr.ctxs.map (fun c => { c with outs := c.outs.filter (fun o => decide (s.blocks.number ≤ o.block + 1)) }) } }

/-! ### Replay (R221) -/

/-- One recorded job run from the committed state, its outputs kept and its state committed. -/
def replayJob (s : State) (j : Job) : State :=
  let k := Fin.ofNat 16 j.ctx
  match s.thr.ctxs[k].desc with
  | some d =>
    let r := jobResult s d j (committedState s j.ctx)
    let s := mapCtx k (fun c => { c with outs := putOuts r.1 c.outs }) s
    writeEntry j.ctx (writeBank j.ctx r.2 s)
  | none => s

/-- Every recorded job run in order. -/
def replayAll (s : State) : State :=
  let s := s.thr.replay.foldl replayJob s
  { s with thr := { s.thr with replay := [] } }

/-! ### Self-check (R363 to R366) -/

/-- A physical column put into a rising list. -/
def insertColumn (c : Fin 66) : List (Fin 66) → List (Fin 66)
  | [] => [c]
  | x :: l => if c ≤ x then c :: x :: l else x :: insertColumn c l

/-- FD20 for the columns' last spare (Table 23.6). -/
def columnsSpent (n : Nat) (s : State) : State := if n = 2 then raise 0xFD20#16 32 (be 1 2 ++ be 1 0) s else s

/-- A column found failing at start: retired, F801, and with a spare left its repair started and completed (Table 16.7). -/
def retireAtStart (s : State) (c : Fin 66) : State :=
  if s.thr.retired.contains c then s
  else
    let l := insertColumn c s.thr.retired
    let n := l.length
    let s := raise 0xF801#16 c.val (be 1 c.val ++ be 1 0 ++ be 1 (min 255 n)) { s with thr := { s.thr with retired := l } }
    if n ≤ 2 then
      let s := repairEvent s.gptp.time 3 0 c.val (2 - n) 1 (repairEvent s.gptp.time 3 0 c.val (2 - n) 0 s)
      columnsSpent n { s with start := { s.start with columnsNow := s.start.columnsNow + 1 }
                              thr := { s.thr with columnMap := l } }
    else s

/-- A column found failing in service: with a spare left the remap waits for the next boundary, else F802 and SAFE there
(Table 16.7). -/
def retireInService (s : State) (c : Fin 66) : State :=
  if s.thr.retired.contains c then s
  else
    let l := insertColumn c s.thr.retired
    let n := l.length
    let s := { s with thr := { s.thr with retired := l } }
    if n ≤ 2 then
      let s := raise 0xF801#16 c.val (be 1 c.val ++ be 1 1 ++ be 1 n) s
      let s := columnsSpent n (repairEvent s.gptp.time 3 0 c.val (2 - n) 0 s)
      makeDue (.column c) { s with thr := { s.thr with remapNext := s.thr.remapNext ++ [c] } }
    else makeDue (.safe 0xF802#16) (raise 0xF802#16 c.val (be 1 c.val ++ be 1 (min 255 n)) s)

end Sys2Proof.Machine
end

