-- ==== Sys2Proof/Machine/Clips.lean ====
section
/-! DEFINITION. The clip player over one block boundary (chapters 17 and 20). -/

namespace Sys2Proof.Machine

open Sys2Proof

/-- The clip read-ahead R_clip in blocks: 2, or ρ of the context serving point 4 under profiles 2 and 7 (R356, R380). -/
def clipLead (s : State) : Nat :=
  if s.routing.profile = 2 ∨ s.routing.profile = 7 then
    max 2 ((servedBy s 4).elim 0 (fun x => x.1.desc.elim 0 (fun d => d.kay + 1)))
  else 2

/-- 10^(G / 5120) in units of 2^-23, G in 1/256 dB (R198, R445). -/
def clipGain (g : Int) : Int :=
  rne (gateExpOf (g * gateOne * 2302585092994045684 / (5120 * 1000000000000000000)) * 8388608) gateOne.toNat

/-- The sample of a channel of a clip's frame, in the internal 24-bit form (R185, R438). -/
def clipSample (s : State) (v : Voice) (pos : Nat) (right : Bool) : Int :=
  let w := if v.wide then 3 else 2
  let chans := if v.stereo then 2 else 1
  let a := v.addr + (pos * chans + (if right && v.stereo then 1 else 0)) * w
  let x := signed (8 * w) (ofLe (flashBytes s a w))
  if v.wide then x else x * 256

/-- One sample of one voice added to the mix, and the voice a frame on: it loops in mode 1 and ends after its last frame in the
others (R445). -/
def voiceSample (s : State) (gain : Int) (a : List (Int × Int) × Voice) (k : Int × Int) : List (Int × Int) × Voice :=
  let v := a.2
  if !v.active then (a.1 ++ [k], v)
  else
    let l := gained gain (clipSample s v v.pos false)
    let r := if v.stereo then gained gain (clipSample s v v.pos true) else l
    let p := v.pos + 1
    let w := if p < v.frames then { v with pos := p }
      else if v.mode = 1 then { v with pos := 0 } else { v with pos := p, active := false }
    (a.1 ++ [(k.1 + l, k.2 + r)], w)

/-- One voice over a block of the mix. -/
def voiceBlock (s : State) (mix : List (Int × Int)) (v : Voice) : List (Int × Int) × Voice :=
  if v.active then mix.foldl (voiceSample s (clipGain v.gain)) ([], v) else (mix, v)

/-- The mix the voices make available at this boundary, for the block R_clip on. -/
def clipMix (s : State) : State :=
  let n := aheadLen s (clipLead s)
  let zero : List (Int × Int) := List.replicate n (0, 0)
  let r := s.clips.voices.toList.foldl (fun (a : List (Int × Int) × List Voice) v =>
    let x := voiceBlock s a.1 v
    (x.1, a.2 ++ [x.2])) (zero, [])
  let voices : Vector Voice 16 := Vector.ofFn (fun i => (r.2[i.val]?).getD {})
  let block := (r.1.map (·.1), r.1.map (·.2))
  { s with clips := { s.clips with voices := voices, ahead := s.clips.ahead ++ [block] } }

/-- The voice a start takes: a free one, else the one that started first (R445). -/
def freeVoice (s : State) : Fin 16 :=
  match (List.finRange 16).find? (fun i => !s.clips.voices[i].active) with
  | some i => i
  | none => (List.finRange 16).foldl (fun b i => if s.clips.voices[i].startB < s.clips.voices[b].startB then i else b) 0

/-- A cue code settled: voices held by the code before stop, and the new code's clip starts, or F213 (R444); under profiles 6 and 12 a
code plays nothing and raises nothing (R205). -/
def settleCue (c : Fin 16) (s : State) : State :=
  let old := s.clips.settled.val
  let stop (v : Voice) : Voice :=
    if v.active && v.entry == old && v.mode != 0 then { v with active := false, stopB := some s.blocks.number } else v
  let s := { s with clips := { s.clips with settled := c, voices := s.clips.voices.map stop } }
  if c = 0 || s.routing.profile == 6 || s.routing.profile == 12 then s
  else
    match clipVoice s c.val with
    | none => raise 0xF213#16 0 (be 1 c.val ++ be 1 (rateCode s.well.rate)) s
    | some v =>
      { s with clips := { s.clips with voices := s.clips.voices.set (freeVoice s) { v with startB := s.blocks.number } } }

/-- The clip player at the boundary that begins a block: CUE0 to CUE3 sampled, voices started and stopped, a further block of the
mix made available (R444 to R446). -/
def clipBoundary (cue : Fin 16) (s : State) : State :=
  let s := if cue = s.clips.last && cue ≠ s.clips.settled then settleCue cue s else s
  clipMix { s with clips := { s.clips with last := cue, ahead := s.clips.ahead.drop 1 } }

/-- The clip mix at a data path's start: nothing presented until R_clip has passed. -/
def clipStart (s : State) : State :=
  let lead := clipLead s
  { s with clips := { s.clips with ahead := (List.range (lead + 1)).map (fun d =>
      let n := aheadLen s (d - 1)
      (List.replicate n 0, List.replicate n 0)) } }

end Sys2Proof.Machine
end

