-- ==== Sys2Proof/Machine/CmdTdm.lean ====
section
/-! DEFINITION. The meanings of TDM follower frames and of the microphone gate (chapter 13). -/

namespace Sys2Proof.Machine

open Sys2Proof

/-! ### Follower frames -/

/-- Frame periods as ns: `k` halves of T (R294). -/
def halfFrames (s : State) (k : Nat) : Nat := k * 500000000 / s.well.rate

/-- Whether a port is judged as a follower now: used, and read as one in this mode (R289, Table 13.4). -/
def tdmJudged (s : State) (p : Fin 2) : Bool :=
  s.tdm[p].used && asFollower s s.tdm[p] && s.blocks.running && !inMode .slumber s && !inMode .safe s

/-- A qualified port lost: muted, its output emptied, F711 with the cause (R296). -/
def loseTdm (p : Fin 2) (cause : Nat) (s : State) : State :=
  let t := s.tdm[p]
  let s := setTdm p { t with
    qualified := false, needRate := cause == 5, rateOk := false, bad := 0, outBuf := [], sending := none, lost := true } s
  raise 0xF711#16 p.val (be 1 p.val ++ be 1 cause ++ be 2 t.slots) s

/-- A bad frame: a concealment frame in its place, F710, and the loss of the port at the third in a row (R295, R296, R299). -/
def badFrame (p : Fin 2) (cause : Nat) (s : State) : State :=
  let s := tdmFault p cause s
  let s := if s.tdm[p].qualified then tdmSlip p (s.tdm[p].write (concealFrame s.tdm[p])) s else s
  let t := s.tdm[p]
  let s := setTdm p { t with bad := min 3 (t.bad + 1) } s
  if t.qualified && decide (3 ≤ t.bad + 1) then loseTdm p cause s else s

/-- A good frame: written while the port is qualified; otherwise the port is released at its end (R293, R297). -/
def goodFrame (p : Fin 2) (data : List Int) (s : State) : State :=
  let t := { s.tdm[p] with bad := 0, anyGood := true }
  if t.qualified then
    tdmSlip p (TdmPort.write (data.map (fun v => ⟨v, false⟩)) { t with lastGood := data }) s
  else if t.needRate && !t.rateOk then setTdm p t s
  else
    let s := setTdm p { t with
      qualified := true, needRate := false, lastGood := [], inBuf := [], outBuf := [], reading := false, lost := false } s
    if t.lost then clear 0xF711#16 p.val s else s

/-- The framer's read of the output frame that a frame start begins (R292). -/
def frameStart (p : Fin 2) (s : State) : State :=
  let t := s.tdm[p]
  let s := setTdm p { t with waitFs := false, fsCount := t.fsCount + 1, timer := some (s.now + halfFrames s 3) } s
  if s.tdm[p].qualified && inMode .partner s == false then tdmSlip p s.tdm[p].readOut s else s

/-- A frame of a follower port judged (R293, R295): an FS detection at count `c`, or with `fs` false the count 32S + 1 without one;
after cause 1 DO is low, and the next FS detection judges nothing. -/
def judgeFrame (p : Fin 2) (c : Nat) (fs : Bool) (data : List (BitVec 32)) (s : State) : State :=
  let s := mediaNow s
  let len := 32 * s.tdm[p].slots
  if fs then
    let s := if s.tdm[p].waitFs then s
      else if c = len then goodFrame p (slotSamples s.tdm[p].slots data) s
      else if c < len then badFrame p (if c % 32 = 0 then 0 else 2) s
      else s
    frameStart p s
  else if s.tdm[p].waitFs || c != len + 1 then s
  else
    let s := badFrame p 1 s
    setTdm p { s.tdm[p] with waitFs := true, sending := none, timer := some (s.now + halfFrames s 2) } s

/-- TDM_FRAME_JUDGED (R120, R293, R295): the frame's words cross into SYS, a slot each. -/
def execTdmFrameJudged (t : Nat) (p : Fin 2) (c : Nat) (fs : Bool) (data : List (BitVec 32)) (s : State) : Result :=
  let s := s.upTo t
  .next (if tdmJudged s p then crossIn ⟨7 + p.val, by omega⟩ s.tdm[p].slots (judgeFrame p c fs data) s else s)

/-- TDM_FRAME_TIMER_EXPIRY (R294): a bad frame of cause 3, and the timer set to one frame period. -/
def execTdmFrameTimerExpiry (p : Fin 2) (s : State) : Result :=
  match s.tdm[p].timer with
  | none => .next s
  | some u =>
    let s := s.upTo u
    if !tdmJudged s p then .next (setTdm p { s.tdm[p] with timer := none } s)
    else
      let s := badFrame p 3 (mediaNow s)
      .next (setTdm p { s.tdm[p] with timer := some (s.now + halfFrames s 2) } s)

/-- TDM_RATE_WINDOW (R296, R297): the FS detections of a 1 ms window against the media sample periods in it; off by more than
1000 ppm, a qualified port is lost with cause 5. -/
def execTdmRateWindow (t : Nat) (p : Fin 2) (s : State) : Result :=
  let s := s.upTo t
  if !tdmJudged s p then .next s
  else
    let s := mediaNow s
    let n := thisLen s
    let off := ((s.tdm[p].fsCount : Int) - n).natAbs
    let fits := decide (off * 1000 ≤ n)
    let s := setTdm p { s.tdm[p] with fsCount := 0, rateOk := fits } s
    .next (if s.tdm[p].qualified && !fits then loseTdm p 5 s else s)

/-- TDM_QUALIFY_DEADLINE (R298): no good frame by t_run + 10 s. -/
def execTdmQualifyDeadline (p : Fin 2) (s : State) : Result :=
  match s.tdm[p].deadline with
  | none => .next s
  | some u =>
    let s := s.upTo u
    let t := s.tdm[p]
    let s := setTdm p { t with deadline := none } s
    if t.used && !t.leader && !t.anyGood && !inMode .safe s then
      .next (raise 0xF711#16 p.val (be 1 p.val ++ be 1 6 ++ be 2 t.slots) (setTdm p { s.tdm[p] with lost := true } s))
    else .next s

/-! ### The microphone gate -/

/-- The clock line a profile's microphones need (R302). -/
def profileMic (profile : Nat) (line : Fin 2) : Bool := profile == 9 || (line == 0 && (profile == 1 || profile == 11))

/-- Whether PDM_CLKn may run (R302). -/
def pdmAllowed (s : State) (line : Fin 2) : Bool :=
  s.blocks.running && !strappedPartner (role s) && profileMic s.routing.profile.val line && s.mic.open_
    && !inMode .slumber s && !inMode .safe s

/-- The PDM clocks brought in line with what is allowed: one that starts has 20 ms of digital zero ahead (R302, R304). -/
def pdmClocks (s : State) : State :=
  let start (on was : Bool) (u : Option Nat) : Option Nat := if !on then none else if was then u else some (s.now + 20 * ms1)
  let a := pdmAllowed s 0
  let b := pdmAllowed s 1
  let m := s.mic
  let f := m.filt
  let f := if a && !m.clk0 then (f.set 0 0).set 1 0 else f
  let f := if b && !m.clk1 then (f.set 2 0).set 3 0 else f
  { s with mic := { m with
    clk0 := a, clk1 := b, settle0 := start a m.clk0 m.settle0, settle1 := start b m.clk1 m.settle1, filt := f
    pass0 := if a then m.pass0 else (0, 0), pass1 := if b then m.pass1 else (0, 0) } }

/-- The first sample of the present block that begins at least `ns` from now; the period of the one before it is the first that ends
then. -/
def sampleAfter (s : State) (ns : Nat) : Nat :=
  ((s.gptp.time + ns - s.blocks.stamp) * s.well.rate + 999999999) / 1000000000

/-- The gate closed: clocks stop, microphones are digital zero from the first sample period that ends 122 ns on (R305). -/
def closeGate (s : State) : State :=
  let k := sampleAfter s 122 - 1
  let m := s.mic
  let cut (w : Nat × Nat) : Nat × Nat := (w.1, min w.2 k)
  { s with mic := { m with
    open_ := false, clk0 := false, clk1 := false, settle0 := none, settle1 := none, pass0 := cut m.pass0, pass1 := cut m.pass1 } }

/-- MIC_EN_FALL (R305): a low of more than 50 ns closes the gate and restarts the count; a shorter one may or may not. With no
length given MIC_EN stays low. -/
def execMicEnFall (t : Nat) (lowNs : Option Nat) (s : State) : Result :=
  let s := s.upTo t
  let seen (s : State) : State :=
    let s := closeGate s
    { s with mic := { s.mic with en := lowNs.isSome, highSince := lowNs.map (fun n => s.now + n) } }
  match lowNs with
  | some n =>
    if n ≤ 50 then
      let r := drawFree s
      .next (if r.1 % 2 = 1 then seen r.2 else r.2)
    else .next (seen s)
  | none => .next (seen s)

/-- MIC_EN_OPEN (R305): MIC_EN high continuously for 10 ms since `since`, or since t_reset after a power-on. -/
def execMicEnOpen (since : Nat) (s : State) : Result :=
  let from_ := max since (s.mic.highSince.getD 0)
  let from_ := if s.start.cause == .powerOn then max from_ s.start.tReset else from_
  let s := s.upTo (from_ + 10 * ms1)
  .next (pdmClocks { s with mic := { s.mic with en := true, highSince := some from_, open_ := true } })

/-- PDM_SETTLE_EXPIRY (R304): 20 ms after a line's clock started its microphones pass. -/
def execPdmSettleExpiry (line : Fin 2) (s : State) : Result :=
  match (if line = 0 then s.mic.settle0 else s.mic.settle1) with
  | none => .next s
  | some u =>
    let s := s.upTo u
    let w := (sampleAfter s 0, 1000)
    .next { s with mic :=
      if line = 0 then { s.mic with settle0 := none, pass0 := w } else { s.mic with settle1 := none, pass1 := w } }

end Sys2Proof.Machine
end

