-- ==== Sys2Proof/Machine/Motor.lean ====
section
/-! DEFINITION. The motor bridge: its limits, its command, and when it is driven (chapter 22). -/

namespace Sys2Proof.Machine

open Sys2Proof

/-- The motor's figures: the profile's, else those of Table 22.4. -/
def motorSet (s : State) : MotProfile := s.gran.mot.getD {}

/-- Whether the bridge is driven (R492). -/
def motorMay (s : State) : Bool :=
  (motorSetup (lvlD s 11)).isSome && (s.routing.profile == 2 || s.routing.profile == 7) && s.blocks.running
    && (inMode .solo s || inMode .member s || inMode .leader s) && s.red.releaseAt.isNone && (servedBy s 4).isSome
    && !s.motor.posFault && !s.plant.shut && s.motor.holdUntil.isNone && !s.motor.heldOff && s.plant.linkLost.isNone

/-- The voltage ceiling in mV (R493, R499). -/
def motorCeil (s : State) : Nat :=
  let strap := (motorSetup (lvlD s 11)).elim 0 (·.2)
  let top := s.gran.mot.elim strap (fun p => min strap p.mv)
  let v := min top (s.motor.pvddMv * 95 / 100) * s.motor.scale / 80000
  if s.plant.fixed then v / 2 else v

/-- The working limit I_W in mA: at most 2.5 A, halved in fixed-threshold mode and halved while FC01 derates (R493, R499,
Table 22.5). -/
def workLimit (s : State) : Nat :=
  let i := min 2500 (motorSet s).workMa
  let i := if s.plant.fixed then i / 2 else i
  if s.plant.derate then i / 2 else i

/-- The span of the targets (R494). -/
def motorSpan (s : State) : Int := (motorSet s).hi - (motorSet s).lo

/-- MOT_POS in target units (R495). -/
def posTarget (s : State) (mv : Nat) : Int :=
  let q := motorSet s
  let d : Int := (q.posHi : Int) - (q.posLo : Int)
  if d = 0 then q.lo else q.lo + ((mv : Int) - (q.posLo : Int)) * motorSpan s / d

/-- Whether MOT_POS reads more than 90 mV outside its interval, or above 1.8 V (R496). -/
def posBad (s : State) (mv : Nat) : Bool :=
  let q := motorSet s
  decide (mv + 90 < min q.posLo q.posHi) || decide (max q.posLo q.posHi + 90 < mv) || decide (1800 < mv)

/-- The plant die's target now: in a straight line across the block, which reaches the bridge 125 µs ahead (R494). -/
def targetNow (s : State) : Int :=
  let m := s.motor
  let d : Int := ((min 1000000 (s.gptp.time + 125000 - m.blockAt) : Nat) : Int)
  m.prevTarget + (m.target - m.prevTarget) * d / 1000000

/-- The voltage command for a target (R495); below 1 % of V_ceil the motor is braked, which commands 0 V (R492). -/
def motorU (s : State) (tau : Int) : Int :=
  let v : Int := ((motorCeil s : Nat) : Int)
  let span := motorSpan s
  let u :=
    if closedLoop s then
      let e := tau - posTarget s s.motor.posMv
      if 100 * e.natAbs ≤ span.natAbs then 0 else v * max (-span) (min span (4 * e)) / span
    else v * (2 * (tau - (motorSet s).lo) - span) / span
  if 100 * u.natAbs < v.natAbs then 0 else u

/-- The range of a list of positions. -/
def posRange : List Int → Int
  | [] => 0
  | x :: l => l.foldl max x - l.foldl min x

/-- Whether the motor is stalling at this reading (R498). -/
def stalling (s : State) : Bool :=
  let m := s.motor
  let still :=
    if closedLoop s then decide (m.posHist.length = 800) && decide (100 * posRange m.posHist < motorSpan s)
    else m.bemfAt.isSome && decide (m.bemfMv.natAbs * 20 < m.uMv.natAbs)
  m.driven && decide (motorCeil s ≤ 2 * m.uMv.natAbs) && decide (m.uMv ≠ 0) && decide ((motorSet s).stallMa ≤ m.ma.natAbs) && still

/-- The motor record changed. -/
def mapMotor (f : Motor → Motor) (s : State) : State := { s with motor := f s.motor }

/-- The bridge driven or let float as R492 has it now. -/
def setDriven (s : State) : State :=
  if motorMay s then mapMotor (fun m => { m with driven := true }) s
  else mapMotor (fun m => { m with driven := false, uMv := 0, stallSince := none, runSince := none }) s

/-- The targets handed over at a boundary: the present block's, and the one before it (R494). -/
def motorBoundary (s : State) : State :=
  setDriven (mapMotor (fun m => { m with prevTarget := m.target, target := s.thr.lane.target, blockAt := s.blocks.stamp }) s)

end Sys2Proof.Machine
end

