-- ==== Sys2Proof/Machine/Talk.lean ====
section
/-! DEFINITION. The streams a device talks: AAF and CRF frames (chapter 8, R208). -/

namespace Sys2Proof.Machine

open Sys2Proof

/-- A hot partner in step, which sends what its leader sends (Table 10.2). -/
def hotInStep (s : State) : Bool := inMode .partner s && hotRole (role s) && s.red.state == .inStep

/-- Node and EUI-48 a talker puts in its stream IDs: on a strapped partner its leader's (R178). -/
def streamSelf (s : State) : Nat × BitVec 48 :=
  if strappedPartner (role s) then
    (match s.red.pair with
     | some r => (r.node.toNat, r.eui)
     | none => (node s, s.eui48))
  else (node s, s.eui48)

/-- The channels a device talks in a stream kind: 0 program, 1 return, 2 announcement (Table 1.2, R202, R207). -/
def talkMix (s : State) (k : Fin 3) : List Mix :=
  let leads := inMode .leader s || hotInStep s
  if k = 0 then (if leads then programBus (counts s) else [])
  else if k = 1 then (if inMode .member s && (role s == 1 || role s == 2) then returnSources (counts s) else [])
  else if leads && s.routing.profile == 11 then announceBus else []

/-- The state of a talked stream. -/
def txOf (s : State) (k : Fin 3) : TxStream :=
  if k = 0 then s.streams.program else if k = 1 then s.streams.ret else s.streams.ann

/-- A talked stream changed. -/
def setTx (k : Fin 3) (x : TxStream) (s : State) : State :=
  { s with streams :=
    if k = 0 then { s.streams with program := x }
    else if k = 1 then { s.streams with ret := x }
    else { s.streams with ann := x } }

/-- tu: more than 375 ms have passed since the last accepted Sync, on a grandmaster as on any other device; where none was ever
accepted there is no such span, and tu is 0 (Table 8.5, log entry 139). -/
def timeUncertain (s : State) : Bool := s.gptp.lastSync.any (fun l => decide (l + 375 * ms1 < s.now))

/-- The tu a talker sends: on a hot partner in step as its leader's block frame has it (R218). -/
def sentTu (s : State) : Bool :=
  if hotInStep s then (match s.red.held with
    | some b => b.tu
    | none => timeUncertain s)
  else timeUncertain s

/-- A channel a talker sends in: a key and a committed reservation (R250, R254). -/
def channelReady (s : State) (ann : Bool) : Bool :=
  s.sec.inForce.isSome && (if ann then s.sec.ak.isSome && s.sec.annChan.ready else s.sec.tenantChan.ready)

/-- Samples of frame `j` of a block of `n`: the first of them, and how many (R184). -/
def frameSpan (n j : Nat) : Nat × Nat :=
  let b := n / 8
  let x := n - 8 * b
  (j * b + min j x, if j < x then b + 1 else b)

/-- An AAF frame before protection (R180, R181). -/
def aafFrame (s : State) (k : Fin 3) (seq : BitVec 16) (mixes : List Mix) (first count : Nat) : NetFrame :=
  let rows := (List.range count).map (fun i => mixes.map (fun m => (mixSample (localSample s (first + i)) 8388608 m).v))
  let c := mixes.length
  let t := if k = 2 then 0 else tenant s
  let (nn, eui) := streamSelf s
  let stamp := instantOf s first + latencyMs (lvlD s 8) * ms1
  let a : Aaf :=
    { seqNum := BitVec.ofNat 8 seq.toNat, tu := sentTu s, streamEui := eui, streamLow := streamLow t k.val nn
      ts := BitVec.ofNat 32 stamp, nsr := rateNsr s.well.rate, channels := c, dataLen := count * c * 3, samples := rows }
  { dst := dstOf t k.val nn, src := s.eui48, vlan := some (3, vlanOf t), body := .aaf (some seq) a
    octets := 52 + count * c * 3 }

/-- The next AAF frame of a stream sent, where the device talks it and is synchronised (R184, R190, R191, R208). -/
def sendAaf (k : Fin 3) (s : State) : State :=
  let x := txOf s k
  if 8 ≤ x.next then s
  else
    let mixes := talkMix s k
    if s.blocks.running && s.gptp.synced && !mixes.isEmpty && channelReady s (k == 2) then
      let span := frameSpan (thisLen s) x.next
      let f := aafFrame s k x.seq mixes span.1 span.2
      let s := setTx k { x with next := x.next + 1, seq := x.seq + 1 } s
      if k = 2 then sendAnnounce f s else sendTenant f s
    else setTx k { x with next := x.next + 1 } s

/-- A CRF frame before protection (R182). -/
def crfFrame (s : State) : NetFrame :=
  let (nn, eui) := streamSelf s
  let x := s.streams.crf
  let c : Crf :=
    { tu := sentTu s, seqNum := BitVec.ofNat 8 x.seq.toNat, streamEui := eui, streamLow := streamLow (tenant s) 3 nn
      base := s.well.rate, interval := s.well.rate / 100, stamp := x.stamp }
  { dst := dstOf (tenant s) 3 nn, src := s.eui48, vlan := some (3, vlanOf (tenant s)), body := .crf (some x.seq) c
    octets := 56 }

/-- The waiting CRF frame sent (R182, R208). -/
def sendCrf (s : State) : State :=
  let x := s.streams.crf
  if 8 ≤ x.next then s
  else
    let leads := inMode .leader s || hotInStep s
    if s.blocks.running && s.gptp.synced && leads && channelReady s false then
      let f := crfFrame s
      sendTenant f { s with streams := { s.streams with crf := { x with next := 8, seq := x.seq + 1 } } }
    else { s with streams := { s.streams with crf := { x with next := 8 } } }

/-- What is left of the ending block's frames, sent as it ends. -/
def flushTalkers (s : State) : State :=
  iter (sendAaf 2) 8 (iter (sendAaf 1) 8 (iter (sendAaf 0) 8 s))

end Sys2Proof.Machine
end

