-- ==== Sys2Proof/Machine/Slumber.lean ====
section
/-! DEFINITION. Who may enter SLUMBER, and the conditions of its entry as the state shows them (chapter 3). -/

namespace Sys2Proof.Machine

open Sys2Proof

/-- Who may slumber: MEMBER with SP_ROLE 2, LEADER with SP_ROLE 4, 5 or 6 outside tenant 0 (R82); a PARTNER only with its
leader. -/
def maySlumber (s : State) : Bool :=
  (inMode .member s && role s == 2)
    || (inMode .leader s && (role s == 4 || role s == 5 || role s == 6) && tenant s != 0)

/-- A PARTNER that may slumber with its leader: SP_ROLE 7 or 8 (R82). -/
def partnerMay (s : State) : Bool := inMode .partner s && strappedPartner (role s)

/-- The signals of a mix. -/
def Mix.terms : Mix → List Term
  | .sum l => l
  | .mono a b => a ++ b

/-- A signal of the program bus or the announcement bus. -/
def busSignal : Sig → Bool
  | .prog _ | .progMod _ | .station _ | .ann _ => true
  | _ => false

/-- The program and announcement signals the profile routes to an output. -/
def routedBuses (s : State) : List Sig :=
  (outputs (counts s)).flatMap (fun x => (x.2.terms.map (·.sig)).filter busSignal)

/-- Whether the present block carries digital zero on every program and announcement channel routed to an output, and, at a
leader, on its program bus (R83). -/
def busesZero (s : State) : Bool :=
  let idx := List.range (thisLen s)
  let mixZero (m : Mix) : Bool := idx.all (fun i => (mixSample (localSample s i) 8388608 m).v == 0)
  (routedBuses s).all (fun g => idx.all (fun i => (signal s i g).v == 0))
    && (!inMode .leader s || (programBus (counts s)).all mixZero)

/-- The conditions of R83 that the lands, the supplies and the clips show. -/
def slumberState (s : State) : Bool :=
  !s.plant.vinValid && s.plant.onBattery && !(s.ports[0].up && s.ports[1].up)
    && s.lands.cue == 0 && s.clips.settled == 0 && s.clips.voices.toList.all (fun v => !v.active)
    && !s.lands.wake && (!s.usb.vbus || s.usb.suspended) && !s.motor.driven

/-- A condition of R83 that does not hold: where one does not hold, they begin to be counted afresh, and
an entry of the device's own that waits is let go. What the heartbeats of other devices say is noted as they arrive (log entry
133). -/
def breakSlumber (s : State) : State :=
  { s with sleep := { s.sleep with
    brokenAt := s.now, entryPending := false, condAt := none
    entryB := if inMode .partner s then s.sleep.entryB else none } }

/-- The conditions of R83 judged over the block that ends. -/
def noteSlumber (s : State) : State :=
  if slumberState s && (!s.blocks.running || busesZero s) then s else breakSlumber s

end Sys2Proof.Machine
end

