-- ==== Sys2Proof/Machine/Pair.lean ====
section
/-! DEFINITION. The two devices of a pair: TIE frames, contact, steps, digests and checkpoints (chapter 10). -/

namespace Sys2Proof.Machine

open Sys2Proof

/-! ### TIE frames (R223, R224) -/

/-- The flags of a TIE frame (Table 10.3). -/
def tieFlags (s : State) : Byte :=
  flagByte [actsLeader s, strappedLeader (role s), hotInStep s || (inMode .leader s && s.red.peerInStep), s.red.takeBackB.isSome]

/-- A TIE frame of a type with its payload (Table 10.3). -/
def tieFrame (s : State) (kind : Nat) (payload : List Byte) : TieFrame :=
  let b := be 1 kind ++ [tieFlags s] ++ be 1 (tenant s) ++ be 1 (node s) ++ be 2 s.red.slot.toNat ++ be 2 payload.length ++ payload
  b ++ be 4 (crc32 b).toNat

/-- Time of a frame on the line: 7 bytes of preamble, the delimiter and its bytes at 100 Mb/s (R222). -/
def tieNs (f : TieFrame) : Nat := (f.length + 8) * 80

/-- A device that uses TIE: one of a hot pair, out of reset, its straps latched, not in SAFE (R212). -/
def usesTie (s : State) : Bool :=
  awake s && hotRole (role s) && s.red.pair.isSome && s.start.tLatch.isSome && !inMode .safe s

/-- Whether a device asleep attends to the other device of its pair: within 5 ms of a beacon instant, or within its open window
(R86, R88). -/
def beaconNear (s : State) : Bool :=
  let x := (s.gptp.time + 8 * sec1 - offset s % (8 * sec1)) % (8 * sec1)
  decide (x ≤ 5 * ms1) || decide (8 * sec1 - 5 * ms1 ≤ x)
    || s.sleep.window.any (fun w => decide (w.1 ≤ s.gptp.time) && decide (s.gptp.time ≤ w.2))

/-- Whether the device takes frames of its pair: awake or woken, or asleep within the window of a beacon; a frame that comes to a
device asleep at any other time is what wakes it, and a wake request is read as it does (R88, R89). -/
def pairListens (kind : Nat) (s : State) : Bool :=
  awake s && (!inMode .slumber s || s.sleep.wakeAt.isSome || kind == 4 || beaconNear s)

/-- A frame put on TIE. -/
def tiePut (f : TieFrame) (s : State) : State :=
  { s with red := { s.red with tie := { s.red.tie with frames := s.red.tie.frames ++ [f] } } }

/-- A partner frame put on the network: its PCP, and the TIE frame it carries (R227). -/
def sendPartner (pcp : Nat) (f : TieFrame) (s : State) : State :=
  match s.red.pair with
  | some r => sendTenant (ownFrame s 5 r.node.toNat pcp 0x88B6#16 f) s
  | none => s

/-- A request's payload (Table 10.4). -/
def requestBody (code arg : Nat) : List Byte := be 1 code ++ [0#8] ++ be 4 arg

/-- A request to the other device: at once as a partner frame, or on TIE when a slot has room (R224, R227). -/
def ask (code arg : Nat) (s : State) : State :=
  if coldRole (role s) then sendPartner 3 (tieFrame s 4 (requestBody code arg)) s
  else { s with red := { s.red with requests := s.red.requests ++ [requestBody code arg] } }

/-- A received TIE frame taken apart. -/
structure TieHead where
  /-- Type. -/
  kind : Nat
  /-- Flags. -/
  flags : Byte
  /-- Slot counter. -/
  slot : Nat
  /-- Payload. -/
  payload : List Byte
deriving DecidableEq, Repr

/-- A frame that the device accepts: its CRC checks, and its tenant and sender are those of the paired device (R223). -/
def tieParse (s : State) (b : List Byte) : Option TieHead :=
  let len := ofBe (slice 6 2 b)
  let f := b.take (12 + len)
  match s.red.pair with
  | some r =>
    if f.length == 12 + len && ofBe (slice (8 + len) 4 f) == (crc32 (f.take (8 + len))).toNat && (at8 f 2).toNat == tenant s
        && at8 f 3 == r.node then
      some ⟨(at8 f 0).toNat, at8 f 1, ofBe (slice 4 2 f), slice 8 len f⟩
    else none
  | none => none

/-! ### Contact (R212, R225, R228, R242) -/

/-- The present step: the block number, or for a device whose data path does not run the number its block would have (R328). -/
def stepNow (s : State) : Nat := if s.blocks.running then s.blocks.number else (s.gptp.time + 500000) / 1000000

/-- Device time of the boundary of a step to come. -/
def stepAt (s : State) (b : Nat) : Nat :=
  if s.blocks.running then s.blocks.stamp + (b - s.blocks.number) * ms1 else b * ms1

/-- A resync begins: a hot partner becomes joining and asks for a checkpoint (R221). -/
def startResync (s : State) : State :=
  ask 1 0 { s with
    red := { s.red with
      state := .joining, resyncAt := some s.now, rxCkpt := {}, ringUsed := 0, replayed := false, closeAt := none
      closed := [], outHere := none, leaveStep := none }
    thr := { s.thr with replay := [] } }

/-- F501: a leader profile strapped on a partner differs from its leader's (R53, Table 10.7). -/
def checkProfile (s : State) : State :=
  match s.red.pair, lvl s 4 with
  | some r, some k =>
    if strappedPartner (role s) && decide (8 ≤ k.val) && decide (k.val ≤ 12) && k != r.profile && !anyActive 0xF501#16 s then
      raise 0xF501#16 0 (be 1 k.val ++ be 1 r.profile.val) s
    else s
  | _, _ => s

/-- What contact starts on a device in PARTNER that runs: a resync of a hot one, the watch for checkpoints of a cold one. -/
def contactWork (s : State) : State :=
  if inMode .partner s then
    (if hotRole (role s) then startResync s else { s with red := { s.red with state := .cold, ckptAt := s.now } })
  else s

/-- Contact made: F510 and F521 clear, and the pair's work begins (R221, R229, R242). -/
def makeContact (s : State) : State :=
  let s := { s with red := { s.red with contact := true, everContact := true, tieDown := false, missed := 0 } }
  contactWork (checkProfile (clearAll 0xF521#16 (clearAll 0xF510#16 s)))

/-- Contact lost: a leader raises F510 (Table 10.7). -/
def loseContact (s : State) : State :=
  let s := { s with red := { s.red with contact := false, peerInStep := false } }
  if inMode .leader s then raise 0xF510#16 0 [if hotRole (role s) then 0#8 else 1#8, 1#8] s else s

/-- A strapped partner acting as leader yields at the next boundary, unless a committed take-back sets its time (R240). -/
def learnYield (flags : Byte) (s : State) : State :=
  match s.red.pair with
  | some r =>
    if flags.getLsbD 0 && inMode .leader s && strappedPartner (role s) && !s.red.takeCommit && !yieldDue s then
      makeDue (.yield_ r.node) s
    else s
  | none => s

/-- A valid frame of the other device heard (R223, R225, R232, R236). -/
def pairHeard (h : TieHead) (s : State) : State :=
  let s := { s with red := { s.red with
    lastFrame := s.now, heardSlot := true
    hbAt := if h.kind = 1 then s.now else s.red.hbAt
    peerLeader := h.flags.getLsbD 0, peerInStep := h.flags.getLsbD 2
    sawActing := s.red.sawActing || (s.start.mode.isNone && h.flags.getLsbD 0)
    slot := if slotOwner s then s.red.slot else BitVec.ofNat 16 h.slot } }
  let s := learnYield h.flags s
  let s := match s.red.tie.retry with
    | some f => tiePut f { s with red := { s.red with tie := { s.red.tie with retry := none, resumeNs := 0 } } }
    | none => s
  if !s.red.contact && (hotRole (role s) || h.kind == 1) && !inMode .safe s && !inMode .solo s then makeContact s else s

/-- A frame received from the other device, of a wanted type: on TIE in a hot pair, as a verified partner frame in a cold one. -/
def receivePair (x : PairFrame) (kind : Nat) (k : TieHead → State → State) (s : State) : State :=
  let go (b : List Byte) (s : State) : State :=
    match tieParse s b with
    | some h => if h.kind = kind then k h (pairHeard h s) else s
    | none => s
  match x with
  | .tie b => if usesTie s && pairListens kind s then crossIn 2 ((b.length + 7) / 8) (go b) s else s
  | .net f =>
    match f.body, s.red.pair with
    | .bytes 0x88B6#16 b, some r =>
      if pairListens kind s && coldRole (role s) && f.src == r.eui && dstKind f.dst == 5 && !inMode .safe s then
        endpointIn f (verified f (go b)) s
      else s
    | _, _ => s

/-! ### Leader-only samples (R213, R224) -/

/-- Sample indices of quarter `q` of a block of `n`. -/
def quarterOf (n q : Nat) : List Nat := (List.range n).filter (fun i => 4 * i / n == q)

/-- Values of the leader-only channels at some samples of the present block: microphones 0 to 3, then USB OUT. -/
def leaderOnlyOf (s : State) (idx : List Nat) : List (List Int) :=
  (List.range 4).map (fun m => idx.map (fun i => (rawMic s m i).v))
    ++ (List.range (usbChannels (portsLvl s))).map (fun k => idx.map (fun i => (localSample s i (.usbOut (k + 1))).v))

/-- Leader-only samples as they travel: channel by channel, 3 bytes each. -/
def leaderOnlyBytes (l : List (List Int)) : List Byte := l.flatMap (fun c => c.flatMap (beInt 3))

/-- Leader-only samples read back: the channels of this device's straps share the bytes equally. -/
def leaderOnlyRead (s : State) (b : List Byte) : List (List Int) :=
  let chans := 4 + usbChannels (portsLvl s)
  let per := b.length / 3 / chans
  (List.range chans).map (fun c => (List.range per).map (fun i => signed 24 (ofBe (slice (3 * (c * per + i)) 3 b))))

/-- A quarter appended to the leader-only samples held of the present step. -/
def appendQuarter (a b : List (List Int)) : List (List Int) :=
  if a.isEmpty then b else (a.zip b).map (fun x => x.1 ++ x.2)

/-! ### Digests (R219) -/

/-- The local land inputs a profile routes, each once, in the order its routes name them. -/
def routedInputs (c : Counts) : List Sig :=
  let mixes := (if c.profile = 11 then announceBus else []) ++ programSources c ++ returnSources c ++ (outputs c).map (·.2)
  let land (g : Sig) : Bool := match g with
    | .tdmIn _ _ | .rawSlot _ | .bpi _ _ => true
    | _ => false
  (mixes.flatMap (fun m => (m.terms.map (·.sig)).filter land)).foldl (fun l g => if l.contains g then l else l ++ [g]) []

/-- The bytes the input digest of the present block covers. -/
def inputBytes (s : State) : List Byte :=
  let idx := List.range (thisLen s)
  let lands := (routedInputs (counts s)).flatMap (fun g => idx.flatMap (fun i => beInt 3 (localSample s i g).v))
  let rets := (returnList s).flatMap (fun x => idx.flatMap (fun i => beInt 3 (frameSample x.1.ready i x.2).v))
  lands ++ leaderOnlyBytes (leaderOnlyOf s idx) ++ rets

/-- The input digest of the present block. -/
def inputDigest (s : State) : BitVec 32 := crc32 (inputBytes s)

/-- Samples of a talked stream over the present block, frame by frame. -/
def talkBytes (s : State) (k : Fin 3) : List Byte :=
  let mixes := talkMix s k
  (List.range (thisLen s)).flatMap (fun i => mixes.flatMap (fun m => beInt 3 (mixSample (localSample s i) 8388608 m).v))

/-- The output digest of the present block: the payloads of its talker frames in the order of their kinds, then every local
output channel, before MUTE_N (R219, R337). -/
def outputDigest (s : State) (g1 : Int) : BitVec 32 :=
  let crf := if s.blocks.number % 10 = 0 then be 8 s.blocks.stamp else []
  let outs := (blockOutputs s g1).flatMap (fun o => o.samples.flatMap (fun x => beInt 3 x.v))
  crc32 (talkBytes s 0 ++ talkBytes s 2 ++ crf ++ outs)

/-! ### Steps (R216 to R220) -/

/-- Whether a return stream's samples of the present block are all its frames', none concealed. -/
def usedWhole (n : Nat) (x : RxStream) : Bool :=
  (x.ready.take n).all (fun row => row.all (fun v => !v.c)) && !x.ready.isEmpty

/-- Use mask of the admitted streams (Table 10.4). -/
def useMask (s : State) : BitVec 64 :=
  (s.streams.admitted.zipIdx).foldl (fun m x =>
    match s.streams.rx.find? (fun r => r.kind == 1 && r.node == x.1) with
    | some r => if usedWhole (thisLen s) r then m ||| (1#64 <<< x.2) else m
    | none => m) 0#64

/-- Whether announcement frames are used whole in the present block: as they are presented, or outside tenant 0 as the locked
announcement pair converts them (R216, R325). -/
def annWhole (s : State) : Bool :=
  if tenant s = 0 then
    (match s.streams.rx.find? (fun x => x.kind == 2 && x.lastAccepted.isSome) with
     | some x => usedWhole (thisLen s) x
     | none => false)
  else s.blocks.pairs.any (fun p => p.use_ == 8 && p.locked && !p.got.isEmpty && p.got.all (fun g => !g.1.c && !g.2.c))

/-- The block frame's content for the present block as it closes (Table 10.4). -/
def blockInfo (s : State) (digest out : BitVec 32) : BlockInfo :=
  { step := s.blocks.number, stamp := s.blocks.stamp, tu := timeUncertain s, annUsed := annWhole s, seqs := s.red.startSeqs
    mask := useMask s, inDigest := digest, outDigest := out, admitted := s.streams.admitted
    quarter := leaderOnlyOf s (quarterOf (thisLen s) 3) }

/-- A block frame's payload (Table 10.4). -/
def blockPayload (b : BlockInfo) : List Byte :=
  be 4 b.step ++ be 8 b.stamp ++ [flagByte [b.tu, b.annUsed]] ++ be 1 b.admitted.length
    ++ be 2 b.seqs.1.toNat ++ be 2 b.seqs.2.1.toNat ++ be 2 b.seqs.2.2.toNat ++ be 8 b.mask.toNat
    ++ be 4 b.inDigest.toNat ++ be 4 b.outDigest.toNat ++ be 1 b.quarter.length ++ [0#8] ++ b.admitted
    ++ leaderOnlyBytes b.quarter

/-- A block frame's payload read back. -/
def blockRead (s : State) (p : List Byte) : BlockInfo :=
  let a := (at8 p 13).toNat
  { step := ofBe (slice 0 4 p), stamp := ofBe (slice 4 8 p), tu := (at8 p 12).getLsbD 0, annUsed := (at8 p 12).getLsbD 1
    seqs := (BitVec.ofNat 16 (ofBe (slice 14 2 p)), BitVec.ofNat 16 (ofBe (slice 16 2 p)), BitVec.ofNat 16 (ofBe (slice 18 2 p)))
    mask := BitVec.ofNat 64 (ofBe (slice 20 8 p)), inDigest := BitVec.ofNat 32 (ofBe (slice 28 4 p))
    outDigest := BitVec.ofNat 32 (ofBe (slice 32 4 p)), admitted := slice 38 a p
    quarter := leaderOnlyRead s (p.drop (38 + a)) }

/-- The inputs of the present block, kept for the step a hot partner computes once it holds the block frame. -/
def closeOf (s : State) (g1 : Int) : Closed :=
  { number := s.blocks.number, stamp := s.blocks.stamp, group := s.blocks.group, got0 := s.tdm[(0 : Fin 2)].got
    got1 := s.tdm[(1 : Fin 2)].got, usb := s.usb.got, mic := s.blocks.mic, pairs := s.blocks.pairs.map (·.got)
    ready := s.streams.rx.map (·.ready), clip := s.clips.ahead.take 1, duck := s.routing.duck, duckNext := g1
    testN := s.routing.testN, leaderOnly := s.red.leaderOnly, good := s.streams.rx.map (·.good0) }

/-- Each entry of a list given its place in another. -/
def zipWithPlace {α β : Type} (f : α → β → α) (l : List α) (m : List β) : List α :=
  l.zipIdx.map (fun x => match m[x.2]? with
    | some y => f x.1 y
    | none => x.1)

/-- The state with a closed step's inputs in place of the present block's, a block stamp for that step and the numbers its first
frames take, all of which are still to be sent (R217, R218). -/
def withClosed (stamp : Nat) (seqs : BitVec 16 × BitVec 16 × BitVec 16) (c : Closed) (s : State) : State :=
  { s with
    blocks := { s.blocks with
      number := c.number, stamp := stamp, group := c.group, mic := c.mic
      pairs := zipWithPlace (fun p g => { p with got := g }) s.blocks.pairs c.pairs }
    tdm := #v[{ s.tdm[0] with got := c.got0 }, { s.tdm[1] with got := c.got1 }]
    usb := { s.usb with got := c.usb }
    streams := { s.streams with
      rx := zipWithPlace (fun x r => { x with ready := r }) s.streams.rx c.ready
      program := { s.streams.program with seq := seqs.1, next := 0 }
      crf := { s.streams.crf with seq := seqs.2.1, next := if c.number % 10 = 0 then 0 else 8, stamp := stamp }
      ann := { s.streams.ann with seq := seqs.2.2, next := 0 } }
    clips := { s.clips with ahead := c.clip ++ s.clips.ahead }
    routing := { s.routing with duck := c.duck, testN := c.testN }
    red := { s.red with leaderOnly := c.leaderOnly } }

/-- A closed step's frames sent: what is left of its AAF frames, then its CRF frame (R184, R217). -/
def flushStep (t : State) : State := sendCrf (flushTalkers t)

/-- What a closed step sent, with the present block's inputs back in place; a CRF frame the present block still owes stands. -/
def backFrom (now after : State) : State :=
  { now with
    ports := after.ports
    sec := after.sec
    streams := { now.streams with
      stall := after.streams.stall
      program := { now.streams.program with seq := after.streams.program.seq, next := 8 }
      crf := { now.streams.crf with seq := after.streams.crf.seq, next := if after.blocks.number % 10 = 0 then 8 else now.streams.crf.next }
      ann := { now.streams.ann with seq := after.streams.ann.seq, next := 8 } } }

/-- Whether the leader used a stream's frames in a step (R216). -/
def leaderUsed (b : BlockInfo) (x : RxStream) : Bool :=
  if x.kind = 2 then b.annUsed
  else if x.kind = 1 then
    (match b.admitted.findIdx? (· == x.node) with
     | some j => b.mask.getLsbD j
     | none => true)
  else true

/-- A stream over `n` positions all concealed, from what concealment knew before the first of them (R216, R387). -/
def concealedRun (s : State) (n : Nat) (good : List LastGood) (x : RxStream) : RxStream :=
  (List.range n).foldl (fun y pos => decidePos s.well.rate 0 (fun _ _ => none) y pos)
    { x with play := [], ready := [], good := good }

/-- The streams this device has frames of and the leader concealed in a closed step, by their places. -/
def unused (s : State) (b : BlockInfo) : List (Nat × RxStream) :=
  (s.streams.rx.zipIdx.filter (fun x => !leaderUsed b x.1 && x.1.lastAccepted.isSome)).map (fun x => (x.2, x.1))

/-- A closed step's samples of a stream in place `i`, concealed as the leader concealed it. -/
def concealLike (s : State) (n : Nat) (c : Closed) (i : Nat) (x : RxStream) : RxStream :=
  concealedRun s n ((c.good[i]?).getD x.good0) x

/-- A closed step with the leader's choices applied: a stream it concealed is concealed here too, though its frames be held; outside
tenant 0 the announcement so concealed stands for what its pair converts (R216, log entry 141). -/
def applyMask (s : State) (b : BlockInfo) (c : Closed) : Closed :=
  let n := blockLen s.well.rate c.group
  let off := unused s b
  let ann := (off.find? (fun x => x.2.kind == 2)).filter (fun _ => tenant s != 0)
  let side (row : List Sample) (k : Nat) : Sample := (row[k]?).getD ((row[0]?).getD zeroSample)
  { c with
    leaderOnly := appendQuarter c.leaderOnly b.quarter
    ready := c.ready.zipIdx.map (fun r =>
      match off.find? (fun x => x.1 == r.2) with
      | some x => if converted s x.2 then r.1 else (concealLike s n c r.2 x.2).ready
      | none => r.1)
    pairs := zipWithPlace (fun got p =>
      match ann with
      | some x => if p.use_ = 8 then (concealLike s n c x.1 x.2).ready.map (fun row => (side row 0, side row 1)) else got
      | none => got) c.pairs s.blocks.pairs }

/-- What concealment keeps of the streams a leader concealed in a step, for the step after it. -/
def followConceal (b : BlockInfo) (c : Closed) (s : State) : State :=
  let n := blockLen s.well.rate c.group
  { s with streams := { s.streams with rx := s.streams.rx.zipIdx.map (fun x =>
    if !leaderUsed b x.1 && x.1.lastAccepted.isSome then { x.1 with good0 := (concealLike s n c x.2 x.1).good } else x.1) } }

/-- A frame the leader used in a step that this device lacks, given the step's state: a return stream's, or the announcement's
(R216). -/
def lacksUsed (b : BlockInfo) (t : State) : Bool :=
  (b.annUsed && !annWhole t) || b.admitted.zipIdx.any (fun a => b.mask.getLsbD a.2 &&
    !t.streams.rx.any (fun x => x.kind == 1 && x.node == a.1 && usedWhole (thisLen t) x))

/-- Leaving step: F520 with its cause and the step, and joining from the next boundary on (R220). -/
def leaveStep (cause step : Nat) (s : State) : State :=
  if hotInStep s && s.red.leaveStep.isNone then
    raise 0xF520#16 0 (be 1 cause ++ be 4 step) { s with red := { s.red with leaveStep := some cause } }
  else s

/-- The admission result of the leader taken over from a block frame (R216). -/
def admitLike (b : BlockInfo) (s : State) : State := if b.admitted = s.streams.admitted then s else admitNodes b.admitted s

/-- The closed steps after one. -/
def laterClosed (n : Nat) (l : List Closed) : List Closed := l.filter (fun c => decide (n < c.number))

/-- The state of a closed step under its block frame: the leader's stamp, numbers and choices (R216, R218). -/
def stepState (b : BlockInfo) (c : Closed) (s : State) : State := withClosed b.stamp b.seqs (applyMask s b c) s

/-- A hot partner's step computed once its block frame is held: its frames leave under the leader's stamp and numbers, and the digests
are compared, that of the step before where this device has computed that step (R217 to R220). -/
def runClosed (b : BlockInfo) (c : Closed) (s : State) : State :=
  let s := admitLike b s
  let lacks := lacksUsed b (withClosed b.stamp b.seqs c s)
  let t := flushStep (stepState b c s)
  let inD := inputDigest t
  let mine := s.red.outHere
  let s := followConceal b c (backFrom s t)
  let s := { s with red := { s.red with
    closed := laterClosed b.step s.red.closed, closeAt := none
    inDigest := inD, outDigest := mine.getD 0#32, outHere := some (outputDigest t c.duckNext), step := b.step } }
  if lacks then leaveStep 1 b.step s
  else if inD != b.inDigest then leaveStep 1 b.step s
  else if mine.any (· != b.outDigest) then leaveStep 0 b.step s
  else s

/-- A joining partner's step under its block frame: nothing is sent; its digests are computed, the output digest once replay has
brought its state to the present step (R219, R221). -/
def joinClosed (b : BlockInfo) (c : Closed) (s : State) : State :=
  let s := admitLike b s
  let t := stepState b c s
  let s := followConceal b c s
  { s with red := { s.red with
    closed := laterClosed b.step s.red.closed, inDigest := inputDigest t
    outHere := if s.red.replayed then some (outputDigest t c.duckNext) else none, step := b.step } }

/-- The steps a partner in step has closed and not computed, computed on its own choices: a takeover sends what they owe (R233). -/
def flushOwn (s : State) : State :=
  s.red.closed.foldl (fun (s : State) c =>
    let own := (s.streams.program.seq, s.streams.crf.seq, s.streams.ann.seq)
    backFrom s (flushStep (withClosed c.stamp own c s))) s

/-! ### Checkpoints (R230, R231, R384) -/

/-- A clip voice's record (R446). -/
def voiceRecord (v : Voice) : List Byte :=
  be 1 v.entry ++ be 1 ((if v.active then 1 else 0) + 2 * v.mode) ++ [0#8, 0#8] ++ le 4 v.pos

/-- A checkpoint image of the present state, at the start of the present step (Table 10.5). -/
def checkpointOf (s : State) : List Byte :=
  let recs := (loaded s).flatMap (fun d =>
    let st := committedState s d.ctx
    le 1 d.ctx ++ [0#8, 0#8, 0#8] ++ le 4 st.length ++ st)
  let id := match s.gran.active with
    | some b => if b then s.gran.slotB else s.gran.slotA
    | none => { }
  let body (total : Nat) : List Byte :=
    [0x53#8, 0x4B#8, 0x43#8, 0x50#8] ++ le 2 1 ++ le 1 (tenant s) ++ le 1 ((fumaroleNode s).getD (node s)) ++ le 4 total
      ++ le 4 s.blocks.number ++ le 8 s.blocks.stamp
      ++ le 2 s.streams.program.seq.toNat ++ le 2 s.streams.crf.seq.toNat ++ le 2 s.streams.ann.seq.toNat
      ++ le 1 (rateCode s.well.rate) ++ le 1 s.streams.admitted.length ++ le 4 id.identity.toNat ++ le 2 id.edition
      ++ (List.finRange 13).flatMap (fun i => le 1 (lvlD s i)) ++ [0#8]
      ++ leInt 2 (rne (s.routing.duck * 256) 10) ++ le 2 (min 65535 s.routing.quiet) ++ List.replicate 8 0#8
      ++ padTo 64 0xFF#8 s.streams.admitted ++ s.clips.voices.toList.flatMap voiceRecord ++ recs
  let b := body ((body 0).length + 4)
  b ++ le 4 (crc32 b).toNat

/-- Whether every chunk of a checkpoint has arrived (R229). -/
def ckptWhole (c : Checkpoint) : Bool :=
  decide (0 < c.total) && (List.range ((c.total + 1023) / 1024)).all (fun i => c.got.contains (1024 * i))

/-- The buffer a new checkpoint is written into: the one that does not hold the newest complete one. -/
def fillBuffer (s : State) : Bool := s.red.current.isSome && !s.red.currentB

/-- The bytes of a checkpoint buffer. -/
def ckptBytes (s : State) (second : Bool) (n : Nat) : List Byte := peeks 0#8 s.mem.psram (ckptAddr (loaded s) second) n

/-- A checkpoint whose CRC checks (R229). -/
def ckptIntact (b : List Byte) : Bool :=
  decide (260 ≤ b.length) && leAt b 8 4 == b.length && leAt b (b.length - 4) 4 == (crc32 (b.take (b.length - 4))).toNat

/-- A checkpoint the device may use (R231). -/
def ckptFits (s : State) (b : List Byte) : Bool :=
  let id := match s.gran.active with
    | some x => if x then s.gran.slotB else s.gran.slotA
    | none => { }
  let leader := if strappedPartner (role s) then (s.red.pair.elim 0 (·.node.toNat)) else node s
  b.take 6 == [0x53#8, 0x4B#8, 0x43#8, 0x50#8, 1#8, 0#8] && leAt b 6 1 == tenant s && leAt b 7 1 == leader
    && leAt b 30 1 == rateCode s.well.rate && leAt b 32 4 == id.identity.toNat && leAt b 36 2 == id.edition
    && ([0, 7, 8, 9, 5, 10] : List (Fin 13)).all (fun i => leAt b (38 + i.val) 1 == lvlD s i)

/-- Context records of a checkpoint, from an offset on. -/
def ckptRecords (b : List Byte) : Nat → Nat → List (Nat × List Byte)
  | 0, _ => []
  | n + 1, off =>
    if b.length < off + 12 then []
    else
      let len := leAt b (off + 4) 4
      (leAt b off 1, slice (off + 8) len b) :: ckptRecords b n (off + 8 + len)

/-- A clip voice from its record, with its clip as the plan gives it. -/
def voiceFrom (s : State) (b : List Byte) : Voice :=
  let flags := leAt b 1 1
  let v := (clipVoice s (leAt b 0 1)).getD {}
  { v with active := flags % 2 == 1, entry := leAt b 0 1, mode := flags / 2 % 4, pos := leAt b 4 4 }

/-- A checkpoint of step k restored: every record into its context's other bank and committed, clip voices, duck gain and the admitted
list as it holds them; of the recorded jobs those from step k on are replayed (R221, R233, R384). -/
def restoreCkpt (b : List Byte) (s : State) : State :=
  let s := admitNodes (slice 64 (leAt b 31 1) b) s
  let s := (ckptRecords b 15 256).foldl (fun (s : State) (r : Nat × List Byte) => writeEntry r.1 (writeBank r.1 r.2 s)) s
  let duck := rne (signed 16 (leAt b 52 2) * 10) 256
  { s with
    clips := { s.clips with voices := Vector.ofFn (fun i : Fin 16 => voiceFrom s (slice (128 + 8 * i.val) 8 b)) }
    routing := { s.routing with
      duck := duck, quiet := leAt b 54 2
      duckPhase := if duck = 0 then .rest else if leAt b 54 2 ≤ 500 then .hold else .release }
    thr := { s.thr with replay := s.thr.replay.filter (fun j => decide (leAt b 12 4 ≤ j.block)) } }

/-- The numbers a takeover starts with: from the numbers at a step before the loss, and the last CRF number accepted (R234). -/
def jumpNumbers (n : BitVec 16 × BitVec 16 × BitVec 16) (c : BitVec 16) : BitVec 16 × BitVec 16 × BitVec 16 :=
  let m := c - n.2.1 + 1#16
  (n.1 + 80#16 * m + 0x4000#16, c + 1#16 + 0x4000#16, n.2.2 + 80#16 * m + 0x4000#16)

/-- The numbers a checkpoint holds: program, CRF and announcement. -/
def ckptNumbers (b : List Byte) : BitVec 16 × BitVec 16 × BitVec 16 :=
  (BitVec.ofNat 16 (leAt b 24 2), BitVec.ofNat 16 (leAt b 26 2), BitVec.ofNat 16 (leAt b 28 2))

/-- Talked streams given their next numbers. -/
def setNumbers (n : BitVec 16 × BitVec 16 × BitVec 16) (s : State) : State :=
  { s with streams := { s.streams with
    program := { s.streams.program with seq := n.1 }
    crf := { s.streams.crf with seq := n.2.1 }
    ann := { s.streams.ann with seq := n.2.2 } } }

/-- Chunk payload of a checkpoint from an offset on (Table 10.4). -/
def chunkPayload (img : List Byte) (off : Nat) : List Byte := be 4 off ++ be 4 img.length ++ slice off 1024 img

end Sys2Proof.Machine
end

