-- ==== Sys2Proof/Machine/Rings.lean ====
section
/-! DEFINITION. The rings of the flash: ash log, reservation, pair and service records (R108 to R110, R427). -/

namespace Sys2Proof.Machine

open Sys2Proof

/-- A ring: where it starts, the bytes of a slot, and how many slots it has. -/
structure Ring where
  /-- First flash address. -/
  base : Nat
  /-- Bytes of a slot. -/
  size : Nat
  /-- Slots. -/
  count : Nat
deriving DecidableEq, Repr

/-- The ash log: 2048 entries of 32 bytes (Table 20.1). -/
def logRing : Ring := ⟨0x10000, 32, 2048⟩
/-- The reservation ring (Table 20.1). -/
def resRing : Ring := ⟨0, 16, 2048⟩
/-- The pair ring (Table 20.1). -/
def pairRing : Ring := ⟨0x8000, 16, 2048⟩
/-- The service ring (Table 20.1). -/
def svcRing : Ring := ⟨0x20000, 16, 4096⟩

/-- Bytes of a slot as the flash holds them. -/
def Ring.bytes (r : Ring) (m : List Host.Cell) (k : Nat) : List Byte := peeks 0xFF#8 m (r.base + r.size * k) r.size

/-- A fully erased slot: every byte reads 0xFF (R109). -/
def Ring.erased (r : Ring) (m : List Host.Cell) (k : Nat) : Bool := (r.bytes m k).all (· == 0xFF#8)

/-- A committed slot: its marker is 0xA5 and its CRC checks (R109, R427). -/
def Ring.committed (r : Ring) (m : List Host.Cell) (k : Nat) : Bool :=
  let b := r.bytes m k
  at8 b (r.size - 1) == 0xA5#8 && ofLe (slice (r.size - 4) 2 b) == (crc16 (b.take (r.size - 4))).toNat

/-- Slots of one 4 KiB erase unit. -/
def Ring.perUnit (r : Ring) : Nat := 4096 / r.size

/-- Whether a whole unit reads erased. -/
def Ring.unitErased (r : Ring) (m : List Host.Cell) (u : Nat) : Bool :=
  !m.any (fun c => decide (r.base + 4096 * u ≤ c.1) && decide (c.1 < r.base + 4096 * (u + 1)))

/-- The slot written after slot `k`, and the flash with that slot's unit erased where it must be: the next fully erased
slot of the same unit, else the first slot of the following unit (R109, R110). -/
def Ring.after (r : Ring) (m : List Host.Cell) (k : Nat) : Nat × List Host.Cell :=
  let u := k / r.perUnit
  match (List.range r.perUnit).find? (fun j => decide (k < u * r.perUnit + j) && r.erased m (u * r.perUnit + j)) with
  | some j => (u * r.perUnit + j, m)
  | none =>
    let v := (u + 1) % (r.count / r.perUnit)
    (v * r.perUnit, if r.unitErased m v then m else wipe m (r.base + 4096 * v) 4096)

/-- The first slot of the ring, its unit erased: where a new ring begins (R110). -/
def Ring.first (r : Ring) (m : List Host.Cell) : Nat × List Host.Cell :=
  (0, if r.unitErased m 0 then m else wipe m r.base 4096)

/-- A record programmed into a slot: its bytes, then its marker where it is committed. -/
def Ring.program (r : Ring) (m : List Host.Cell) (k : Nat) (body : List Byte) (commit : Bool) : List Host.Cell :=
  let m := programs m (r.base + r.size * k) (body.take (r.size - 1))
  if commit then programs m (r.base + r.size * k + r.size - 1) [0xA5#8] else m

/-- A record programmed into a slot of a flash, and what it leaves: committed, or with the operation failed free values in its
bytes before the marker, which stays erased, so that the slot is torn (R109, R405; log entry 65). -/
def ringProgram (r : Ring) (m : List Host.Cell) (k : Nat) (body : List Byte) (failed : Bool) (s : State) : State :=
  let b := if failed then freeBytes (r.size - 1) s else (body, s)
  { b.2 with mem := { b.2.mem with flash := r.program m k b.1 (!failed) } }

/-- The newest committed slot under an order of sequence fields (R110, R427). -/
def Ring.newest (r : Ring) (m : List Host.Cell) (seq : List Byte → Nat) (newer : Nat → Nat → Bool) : Option Nat :=
  (List.range r.count).foldl (fun best k =>
    if r.committed m k then
      (match best with
       | none => some k
       | some b => if newer (seq (r.bytes m k)) (seq (r.bytes m b)) then some k else best)
    else best) none

/-- Sequence numbers compared as numbers. -/
def newerNat (a b : Nat) : Bool := decide (b < a)

/-- Sequence numbers compared as signed 16-bit differences (R190). -/
def newer16 (a b : Nat) : Bool :=
  let d := signed 16 ((a + 65536 - b) % 65536)
  decide (0 < d)

/-- A 16-byte record of R427 without its marker: twelve bytes, CRC, zero. -/
def record16 (body : List Byte) : List Byte :=
  let b := padTo 12 0#8 body
  b ++ le 2 (crc16 b).toNat ++ [0#8]

/-- Bytes 0 to 30 of an ash-log entry (Table 4.8). -/
def logBytes (seq : Nat) (e : LogEntry) : List Byte :=
  let b := le 4 seq ++ le 8 e.time ++ le 2 e.code.toNat ++ le 1 e.kind ++ le 1 e.mode ++ le 2 e.occurrences
    ++ padTo 10 0#8 e.detail
  b ++ le 2 (crc16 b).toNat ++ [0#8]

/-- An ash-log entry as a replay part carries it: numeric fields big-endian, the detail as stored (Table 4.6). -/
def replayBytes (b : List Byte) : List Byte :=
  (slice 0 4 b).reverse ++ (slice 4 8 b).reverse ++ (slice 12 2 b).reverse ++ slice 14 2 b ++ (slice 16 2 b).reverse
    ++ slice 18 10 b ++ (slice 28 2 b).reverse ++ slice 30 2 b

/-- A pair put into a list that rises by first components. -/
def insertPair (x : Nat × Nat) : List (Nat × Nat) → List (Nat × Nat)
  | [] => [x]
  | y :: q => if x.1 ≤ y.1 then x :: y :: q else y :: insertPair x q

/-- The committed entries of the log in the order of their numbers, each with its slot. -/
def logSlots (m : List Host.Cell) : List (Nat × Nat) :=
  let l := (List.range logRing.count).filterMap (fun k =>
    if logRing.committed m k then some (ofLe (slice 0 4 (logRing.bytes m k)), k) else none)
  l.foldr insertPair []

/-- The ash-log scan of a start (R97, R110): the newest entry, the slot written next, torn slots, the last 16 entries. -/
def scanLog (s : State) : State :=
  let m := s.mem.flash
  let slots := logSlots m
  let torn := ((List.range logRing.count).filter (fun k => !logRing.committed m k && !logRing.erased m k)).length
  let (next, seq) := match slots.getLast? with
    | some (n, k) => (k + 1, n + 1)
    | none => (0, 1)
  let s := { s with
    log := { s.log with present := true, nextSeq := seq, nextSlot := next, torn := torn, retry := false }
    status := { s.status with replay := (slots.drop (slots.length - 16)).map (fun x => logRing.bytes m x.2) } }
  if 0 < torn then raise 0xF921#16 0 [] s else s

/-- Where the next entry goes: `nextSlot` is one above the slot last used, 0 in a new log (R109, R110). -/
def nextPlace (r : Ring) (m : List Host.Cell) (next : Nat) : Nat × List Host.Cell :=
  if next = 0 then r.first m else r.after m (next - 1)

end Sys2Proof.Machine
end

