-- ==== Sys2Proof/Machine/Records.lean ====
section
/-! DEFINITION. Records of the key-state and service rings, and the write-once key slots (R248 to R256, R427 to R429). -/

namespace Sys2Proof.Machine

open Sys2Proof

/-- Whether records can be written: the flash is up (R403, R405). -/
def flashReady (s : State) : Bool := s.mem.flashUp && !s.mem.flashAbsent

/-! ### Ring records -/

/-- One attempt to write a record at a ring's next place: the place after it, and the state (R109, R405, R427). -/
def ringAttempt (r : Ring) (body : List Byte) (next : Nat) (failed : Option FlashCause) (s : State) : Nat × State :=
  let (k, m) := nextPlace r s.mem.flash next
  let s := ringProgram r m k (record16 body) failed.isSome s
  match failed with
  | none => (k + 1, clearAll 0xF920#16 s)
  | some c => (k + 1, raise 0xF920#16 0 (be 1 0 ++ be 1 c.code ++ be 4 (r.base + r.size * k)) s)

/-- A record written as R109 writes an entry: `fails` names the attempts that fail, and after a second failure the record is
dropped. Answers whether it is committed, and the ring's next place. -/
def ringWrite (r : Ring) (body : List Byte) (next : Nat) (fails : List FlashCause) (s : State) : Bool × Nat × State :=
  match fails with
  | [] => (true, ringAttempt r body next none s)
  | [c] =>
    let a := ringAttempt r body next (some c) s
    (true, ringAttempt r body a.1 none a.2)
  | c :: d :: _ =>
    let a := ringAttempt r body next (some c) s
    (false, ringAttempt r body a.1 (some d) a.2)

/-- The place after a ring's newest committed record, 0 in an empty ring (R110). -/
def placeAfter (o : Option Nat) : Nat := o.elim 0 (· + 1)

/-! ### Reservations (R248, R249) -/

/-- A committed reservation record as epoch and block of a slot and class. -/
def reservation (m : List Host.Cell) (slot cls k : Nat) : Option (Nat × Nat) :=
  let b := resRing.bytes m k
  if resRing.committed m k && (at8 b 2).toNat == slot && (at8 b 3).toNat == cls then
    some (ofLe (slice 4 2 b), ofLe (slice 6 2 b))
  else none

/-- The highest block of a slot and class ever committed. -/
def highestBlock (m : List Host.Cell) (slot cls : Nat) : Option (Nat × Nat) :=
  (List.range resRing.count).foldl (fun (best : Option (Nat × Nat)) k =>
    match reservation m slot cls k, best with
    | some x, some y => if y.1 < x.1 ∨ (y.1 = x.1 ∧ y.2 < x.2) then some x else best
    | some x, none => some x
    | none, _ => best) none

/-- The block after another: block 0 of the next epoch after 4095; none once epoch 0xFFE is exhausted (R249). -/
def blockAfter : Option (Nat × Nat) → Option (Nat × Nat)
  | none => some (0, 0)
  | some (e, b) => if b < 4095 then some (e, b + 1) else if e < 0xFFE then some (e + 1, 0) else none

/-- A reservation record (R249). -/
def reservationBody (slot cls epoch block seq : Nat) : List Byte :=
  [0x50#8, 0x4E#8] ++ le 1 slot ++ le 1 cls ++ le 2 epoch ++ le 2 block ++ le 4 seq

/-- The ring's newest record and what a start takes from it. -/
def scanReservations (s : State) : State :=
  let m := s.mem.flash
  let n := resRing.newest m (fun b => ofLe (slice 8 4 b)) newerNat
  let gone (i : Fin 8) : Bool :=
    [0, 1].any (fun c => (highestBlock m i.val c).isSome && (blockAfter (highestBlock m i.val c)).isNone)
  { s with sec := { s.sec with
    recSeq := n.elim 0 (fun k => ofLe (slice 8 4 (resRing.bytes m k)))
    recSlot := placeAfter n
    retired := Vector.ofFn gone } }

/-! ### Pair and service records (R428, R429) -/

/-- A strapped partner runs the profile of its leader, which the pair record holds (R53, R202, R207). -/
def partnerProfile (s : State) : State :=
  match s.red.pair with
  | some r => if strappedPartner (role s) then { s with routing := { s.routing with profile := r.profile } } else s
  | none => s

/-- The pair record in force and the ring's next place, as a start finds them. -/
def scanPairs (s : State) : State :=
  let m := s.mem.flash
  partnerProfile <| match pairRing.newest m (fun b => ofLe (slice 10 2 b)) newer16 with
  | none => { s with red := { s.red with pair := none }, gran := { s.gran with pairSeq := 0#16, pairPlace := 0 } }
  | some k =>
    let b := pairRing.bytes m k
    { s with
      red := { s.red with pair := some { eui := BitVec.ofNat 48 (ofLe (slice 2 6 b)), node := at8 b 8
                                         profile := Fin.ofNat 16 (at8 b 9).toNat } }
      gran := { s.gran with pairSeq := BitVec.ofNat 16 (ofLe (slice 10 2 b)), pairPlace := k + 1 } }

/-- A pair record written and governing once committed (R263, R428). -/
def writePair (eui : BitVec 48) (n : BitVec 8) (profile : Nat) (fails : List FlashCause) (s : State) : State :=
  if !flashReady s then s
  else
    let seq := s.gran.pairSeq + 1
    let body := [0x52#8, 0x50#8] ++ le 6 eui.toNat ++ le 1 n.toNat ++ le 1 profile ++ le 2 seq.toNat
    let (ok, next, s) := ringWrite pairRing body s.gran.pairPlace fails s
    partnerProfile { s with
      gran := { s.gran with pairSeq := seq, pairPlace := next }
      red := { s.red with pair := if ok then some { eui := eui, node := n, profile := Fin.ofNat 16 profile } else s.red.pair } }

/-- Powered hours of the newest kind 2 record of a slot (R456). -/
def writtenHours (m : List Host.Cell) (slot : Nat) : Nat :=
  ((List.range svcRing.count).foldl (fun (best : Nat × Nat) k =>
    let b := svcRing.bytes m k
    let q := ofLe (slice 8 4 b)
    if svcRing.committed m k && (at8 b 2).toNat == 2 && (at8 b 3).toNat == slot && decide (best.1 ≤ q) then
      (q, ofLe (slice 4 4 b)) else best) (0, 0)).2

/-- Whether the ring holds a record of a slot written. -/
def anyWritten (m : List Host.Cell) : Bool :=
  (List.range svcRing.count).any (fun k => svcRing.committed m k && (at8 (svcRing.bytes m k) 2).toNat == 2)

/-- The powered-hour count resumes from the newest service record (R429); the newest slot write recorded counts as the last refresh,
which a start cannot tell from another write (log entry 147). -/
def scanService (s : State) : State :=
  let m := s.mem.flash
  let n := svcRing.newest m (fun b => ofLe (slice 8 4 b)) newerNat
  { s with gran := { s.gran with
    hours := n.elim 0 (fun k => ofLe (slice 4 4 (svcRing.bytes m k)))
    serviceSeq := n.elim 0 (fun k => ofLe (slice 8 4 (svcRing.bytes m k)))
    serviceAt := placeAfter n
    writtenA := writtenHours m 1
    writtenB := writtenHours m 2
    lastRefresh := if anyWritten m then some (max (writtenHours m 1) (writtenHours m 2)) else none } }

/-- A service record written: kind 1 for hours, kind 2 for a slot (R429). -/
def writeService (kind slot : Nat) (fails : List FlashCause) (s : State) : State :=
  if !flashReady s then s
  else
    let seq := s.gran.serviceSeq + 1
    let body := [0x53#8, 0x52#8] ++ le 1 kind ++ le 1 slot ++ le 4 s.gran.hours ++ le 4 seq
    let (ok, next, s) := ringWrite svcRing body s.gran.serviceAt fails s
    let done := ok && kind == 2
    { s with gran := { s.gran with
      serviceSeq := seq, serviceAt := next
      writtenA := if done && slot == 1 then s.gran.hours else s.gran.writtenA
      writtenB := if done && slot == 2 then s.gran.hours else s.gran.writtenB } }

/-! ### Key slots (R251 to R255) -/

/-- The lowest blank slot. -/
def lowestBlank (s : State) : Option (Fin 8) := (List.finRange 8).find? (fun i => s.sec.slots[i] == .blank)

/-- Slots spoiled. -/
def spoiledSlots (s : State) : Nat := (s.sec.slots.toList.filter (· == .spoiled)).length

/-- Slots programmed: valid or spoiled (Table 11.6). -/
def programmedSlots (s : State) : Nat := (s.sec.slots.toList.filter (· != .blank)).length

/-- F601 with its cause and the other side's node (Table 11.6). -/
def pairingFault (cause node : Nat) (s : State) : State := raise 0xF601#16 0 (be 1 cause ++ be 1 node) s

/-- The lowest blank slot programmed with contents; a slot that reads back spoiled raises F601 with cause 4 (R252). -/
def programOnce (d : KeyData) (spoil : Bool) (node : Nat) (s : State) : Option (Fin 8) × State :=
  match lowestBlank s with
  | none => (none, s)
  | some i =>
    if spoil then (none, pairingFault 4 node { s with sec := { s.sec with slots := s.sec.slots.set i .spoiled } })
    else (some i, { s with sec := { s.sec with slots := s.sec.slots.set i (.valid d) } })

/-- A key programmed, with one more slot tried where the first is spoiled; it comes into force at the next block boundary
(R252, R255). Answers the slot. -/
def programKey (d : KeyData) (spoil : Bool × Bool) (node : Nat) (s : State) : Option (Fin 8) × State :=
  let a := programOnce d spoil.1 node s
  let b := match a.1 with
    | some i => (some i, a.2)
    | none => if (lowestBlank s).isSome then programOnce d spoil.2 node a.2 else a
  match b.1 with
  | some i => (some i, { b.2 with sec := { b.2.sec with nextForce := chooseKey b.2 } })
  | none => b

/-- F600: no slot is blank (R253). -/
def slotsUsed (s : State) : State := raise 0xF600#16 0 (be 1 (spoiledSlots s)) s

/-- F630 with a cause (Table 11.6). -/
def keylessFault (cause : Nat) (s : State) : State :=
  raise 0xF630#16 0 (be 1 cause ++ be 1 (programmedSlots s)) { s with sec := { s.sec with keyless := true } }

/-- Why a device has no key in force: no valid slot, slots of another tenant only, or a retired slot. -/
def keylessCause (s : State) : Nat :=
  let mine := (List.finRange 8).any (fun i => (s.sec.slots[i].data).any (fun d => d.tenant.val == tenant s))
  let any := s.sec.slots.toList.any (fun x => x.data.isSome)
  if mine then 2 else if any then 1 else 0

/-- A slot retired: the key in force is chosen anew, and F630 with cause 2 where none is left (R249). -/
def retireSlot (i : Fin 8) (s : State) : State :=
  let s := { s with sec := { s.sec with retired := s.sec.retired.set i true } }
  match chooseKey s with
  | some j => { s with sec := { s.sec with nextForce := some j } }
  | none => keylessFault 2 { s with sec := { s.sec with inForce := none, ak := none, tenantChan := {}, annChan := {} } }

/-- The key that waits comes into force at a block boundary: new channels, F630 cleared; AK of the slot or the one held in
RAM (R254, R255, R258). -/
def keyAtBoundary (s : State) : State :=
  let s := match s.sec.nextForce with
    | some i =>
      let ak := match slotAk s (some i) with
        | some a => some a
        | none => s.sec.ak
      let s := { s with sec := { s.sec with
        inForce := some i, nextForce := none, ak := ak, tenantChan := {}, annChan := {}, keyless := false, createAt := none } }
      if anyActive 0xF630#16 s then clearAll 0xF630#16 s else s
    | none => s
  match s.sec.nextAk with
  | some a => { s with sec := { s.sec with ak := some a, nextAk := none } }
  | none => s

/-- A next reservation is due: none is committed yet, or half of the present block is used (R248). -/
def reservationDue (c : PnChannel) : Bool :=
  !c.ready || (!c.nextReady && decide (c.block * 1048576 + 524288 ≤ c.pn))

/-- RESERVATION_COMMIT's effect on one channel. -/
def commitReservation (ann : Bool) (fails : List FlashCause) (s : State) : State :=
  match s.sec.inForce with
  | none => s
  | some i =>
    let c := if ann then s.sec.annChan else s.sec.tenantChan
    let cls := if ann then 1 else 0
    if !flashReady s || !reservationDue c then s
    else
      match (if c.ready then blockAfter (some (c.epoch, c.block)) else blockAfter (highestBlock s.mem.flash i.val cls)) with
      | none => if c.ready then s else retireSlot i s
      | some (e, b) =>
        let seq := s.sec.recSeq + 1
        let (ok, next, s) := ringWrite resRing (reservationBody i.val cls e b seq) s.sec.recSlot fails s
        let up (c : PnChannel) : PnChannel :=
          if !ok then c
          else if c.ready then { c with nextReady := true }
          else { ready := true, epoch := e, block := b, pn := b * 1048576 }
        { s with sec := { s.sec with
          recSeq := seq, recSlot := next
          tenantChan := if ann then s.sec.tenantChan else up s.sec.tenantChan
          annChan := if ann then up s.sec.annChan else s.sec.annChan } }

/-! ### Records rewritten at a refresh (R514) -/

/-- A slot and class's reservation record naming its highest committed block written anew. -/
def rewriteReservation (s : State) (x : Nat × Nat) : State :=
  match highestBlock s.mem.flash x.1 x.2 with
  | some (e, b) =>
    let seq := s.sec.recSeq + 1
    let r := ringWrite resRing (reservationBody x.1 x.2 e b seq) s.sec.recSlot [] s
    let s := r.2.2
    { s with sec := { s.sec with recSeq := seq, recSlot := r.2.1 } }
  | none => s

/-- Each key slot and class's highest reservation, and the newest pair record, written as new records (R514). -/
def rewriteRecords (s : State) : State :=
  let s := ((List.range 8).flatMap (fun i => [(i, 0), (i, 1)])).foldl rewriteReservation s
  match s.red.pair with
  | some p => writePair p.eui p.node (if strappedPartner (role s) then p.profile.val else 255) [] s
  | none => s

end Sys2Proof.Machine
end

