-- ==== Sys2Proof/Machine/Usb.lean ====
section
/-! DEFINITION. The USB audio function: descriptors, attachment, and what control requests answer (chapter 14). -/

namespace Sys2Proof.Machine

open Sys2Proof

/-! ### Descriptors (Table 14.1), encoded as USB 2.0 and Audio Device Class 2.0 encode them -/

/-- The device descriptor. -/
def deviceDescriptor : List Byte :=
  [0x12#8, 0x01#8, 0x00#8, 0x02#8, 0xEF#8, 0x02#8, 0x01#8, 0x40#8, 0x19#8, 0x3A#8, 0x40#8, 0x64#8, 0x01#8, 0x0A#8,
   0x01#8, 0x02#8, 0x03#8, 0x01#8]

/-- The device qualifier of a high-speed device. -/
def qualifierDescriptor : List Byte :=
  [0x0A#8, 0x06#8, 0x00#8, 0x02#8, 0xEF#8, 0x02#8, 0x01#8, 0x40#8, 0x01#8, 0x00#8]

/-- Channel configuration of U channels. -/
def channelConfig (u : Nat) : List Byte := le 4 (if u = 2 then 3 else 0)

/-- An input terminal on clock 0x10. -/
def inputTerminal (id type_ u : Nat) : List Byte :=
  [17#8, 0x24#8, 0x02#8] ++ le 1 id ++ le 2 type_ ++ [0#8, 0x10#8] ++ le 1 u ++ channelConfig u ++ List.replicate 4 0#8

/-- An output terminal on clock 0x10. -/
def outputTerminal (id type_ source : Nat) : List Byte :=
  [12#8, 0x24#8, 0x03#8] ++ le 1 id ++ le 2 type_ ++ [0#8] ++ le 1 source ++ [0x10#8, 0#8, 0#8, 0#8]

/-- An interface descriptor of the audio class. -/
def interfaceDescriptor (n alt eps subclass : Nat) : List Byte :=
  [9#8, 0x04#8] ++ le 1 n ++ le 1 alt ++ le 1 eps ++ [0x01#8] ++ le 1 subclass ++ [0x20#8, 0#8]

/-- Bytes of a sample in an alternate. -/
def subslot (alt : Nat) : Nat := if alt = 2 then 2 else 3

/-- wMaxPacketSize of an alternate. -/
def maxPacket (u alt : Nat) : Nat := 13 * u * subslot alt

/-- A streaming interface's alternate 1 or 2 with its endpoints. -/
def streamAlternate (n alt link ep u : Nat) : List Byte :=
  interfaceDescriptor n alt (if n = 1 then 2 else 1) 2
    ++ [16#8, 0x24#8, 0x01#8] ++ le 1 link ++ [0#8, 1#8, 1#8, 0#8, 0#8, 0#8] ++ le 1 u ++ channelConfig u ++ [0#8]
    ++ [6#8, 0x24#8, 0x02#8, 0x01#8] ++ le 1 (subslot alt) ++ le 1 (8 * subslot alt)
    ++ [7#8, 0x05#8] ++ le 1 ep ++ [0x05#8] ++ le 2 (maxPacket u alt) ++ [1#8]
    ++ [8#8, 0x25#8, 0x01#8, 0#8, 0#8, 0#8, 0#8, 0#8]
    ++ (if n = 1 then [7#8, 0x05#8, 0x81#8, 0x11#8, 4#8, 0#8, 4#8] else [])

/-- Everything of configuration 1 after its own descriptor. -/
def configBody (u : Nat) (full : Bool) : List Byte :=
  let units := [8#8, 0x24#8, 0x0A#8, 0x10#8, 0x03#8, 0x07#8, 0#8, 0#8] ++ inputTerminal 0x11 0x0101 u
    ++ outputTerminal 0x12 0x0603 0x11 ++ inputTerminal 0x13 0x0603 u ++ outputTerminal 0x14 0x0101 0x13
  let alts (n link ep : Nat) : List Byte :=
    if full then [] else streamAlternate n 1 link ep u ++ streamAlternate n 2 link ep u
  [8#8, 0x0B#8, 0#8, 3#8, 0x01#8, 0#8, 0x20#8, 0#8] ++ interfaceDescriptor 0 0 0 1
    ++ [9#8, 0x24#8, 0x01#8, 0#8, 2#8, 8#8] ++ le 2 (9 + units.length) ++ [0#8] ++ units
    ++ interfaceDescriptor 1 0 0 2 ++ alts 1 0x11 0x01 ++ interfaceDescriptor 2 0 0 2 ++ alts 2 0x14 0x82

/-- Configuration 1, or the other-speed configuration. -/
def configDescriptor (kind u : Nat) (full : Bool) : List Byte :=
  let b := configBody u full
  [9#8] ++ le 1 kind ++ le 2 (9 + b.length) ++ [3#8, 1#8, 0#8, 0xC0#8, 0#8] ++ b

/-- A string descriptor. -/
def stringDescriptor (x : String) : List Byte :=
  let l := x.toList.flatMap (fun c => le 2 c.toNat)
  le 1 (2 + l.length) ++ [3#8] ++ l

/-- A hexadecimal digit in upper case. -/
def hexDigit (n : Nat) : Char := Char.ofNat (if n < 10 then 48 + n else 55 + n)

/-- The EUI-48 as twelve digits. -/
def euiText (e : BitVec 48) : String :=
  String.ofList ((List.range 12).map (fun i => hexDigit (e.toNat / 16 ^ (11 - i) % 16)))

/-- The descriptor of a type and index; none where there is none (R309, R310). -/
def descriptor (s : State) (kind index : Nat) : Option (List Byte) :=
  let u := usbChannels (portsLvl s)
  match kind, index with
  | 1, 0 => some deviceDescriptor
  | 2, 0 => some (configDescriptor 2 u s.usb.full)
  | 3, 0 => some [4#8, 3#8, 0x09#8, 0x04#8]
  | 3, 1 => some (stringDescriptor "Rangovos Microsystems")
  | 3, 2 => some (stringDescriptor "SKX6440 Skoax audio")
  | 3, 3 => some (stringDescriptor (euiText s.eui48))
  | 6, 0 => some qualifierDescriptor
  | 7, 0 => some (configDescriptor 7 u (!s.usb.full))
  | _, _ => none

/-! ### Attachment -/

/-- The conditions of attachment (R307). -/
def usbMayAttach (s : State) : Bool :=
  usbChannels (portsLvl s) != 0 && s.usb.vbus && s.blocks.running && !strappedPartner (role s)
    && (inMode .solo s || inMode .member s || inMode .leader s || (inMode .partner s && strappedLeader (role s)))

/-- Attachment brought in line with its conditions: a change starts from the default state (R307). -/
def usbAttach (s : State) : State :=
  let a := usbMayAttach s
  if a = s.usb.attached then s
  else { s with usb := { vbus := s.usb.vbus, attached := a, got := s.usb.got, media := s.usb.media } }

/-- The OUT direction as at a fresh selection: emptied, waiting for its target (R312). -/
def Usb.outFresh (u : Usb) : Usb := { u with buf := [], filling := true, lastOut := [] }

/-- The default state after a bus reset (R317); what was read or counted in the present block stands. -/
def Usb.default (full : Bool) (u : Usb) : Usb :=
  { vbus := u.vbus, attached := u.attached, full := full, got := u.got, media := u.media
    under := u.under, over_ := u.over_, thrown := u.thrown }

/-! ### Control transfers (R315, R316) -/

/-- A request stalled: the transfer is over and changes nothing. -/
def usbStall (s : State) : State := { s with usb := { s.usb with xfer := none, reply := none } }

/-- A request without data accepted: its effect waits for the status stage. -/
def usbAccept (bmType bRequest : Byte) (e : UsbEffect) (s : State) : State :=
  { s with usb := { s.usb with reply := some [], xfer := some { bmType := bmType, bRequest := bRequest, status := true, effect := e } } }

/-- A control read answered with data, cut to what the host asked for. -/
def usbAnswer (bmType bRequest : Byte) (length : Nat) (b : List Byte) (s : State) : State :=
  { s with usb := { s.usb with reply := some (b.take length), xfer := some { bmType := bmType, bRequest := bRequest } } }

/-- A request at instant `t`, which a detached function does not answer. -/
def usbRequest (t : Nat) (k : State → State) (s : State) : State :=
  let s := s.upTo t
  if s.usb.attached then k s else s

/-- The endpoints of configuration 1. -/
def usbEndpoint (e : Nat) : Bool := e == 0 || e == 0x80 || e == 0x01 || e == 0x81 || e == 0x82

/-- SET_CONFIGURATION (Table 14.2). -/
def setConfiguration (value : Nat) (s : State) : State :=
  if value ≤ 1 then usbAccept 0x00#8 9#8 (.config value) s else usbStall s

/-- SET_INTERFACE (Table 14.2); at full speed only alternate 0 exists (R310). -/
def setInterface (itf alt : Nat) (s : State) : State :=
  if (itf = 1 ∨ itf = 2) ∧ alt ≤ (if s.usb.full then 0 else 2) then usbAccept 0x01#8 11#8 (.alt itf alt) s else usbStall s

/-- SET_FEATURE TEST_MODE: selectors 1 to 5, wIndex's low byte zero (USB 2.0, 9.4.9). -/
def setTestMode (index : Nat) (s : State) : State :=
  let n := index / 256
  if index % 256 = 0 ∧ 1 ≤ n ∧ n ≤ 5 then usbAccept 0x00#8 3#8 (.test n) s else usbStall s

/-- A standard request as USB 2.0 chapter 9 specifies. -/
def standardRequest (p : UsbSetup) (s : State) : State :=
  let v := p.value.toNat
  let i := p.index.toNat
  let answer := usbAnswer p.bmType p.bRequest p.length.toNat
  match p.bmType.toNat, p.bRequest.toNat with
  | 0x80, 6 =>
    (match descriptor s (v / 256) (v % 256) with
     | some b => answer b s
     | none => usbStall s)
  | 0x80, 0 => answer [1#8, 0#8] s
  | 0x81, 0 => if s.usb.config = 1 ∧ i ≤ 2 then answer [0#8, 0#8] s else usbStall s
  | 0x82, 0 => if usbEndpoint i then answer [if s.usb.halted.contains i then 1#8 else 0#8, 0#8] s else usbStall s
  | 0x80, 8 => answer (le 1 s.usb.config) s
  | 0x81, 10 =>
    if s.usb.config = 1 ∧ i ≤ 2 then
      answer (le 1 (if i = 1 then s.usb.alt1 else if i = 2 then s.usb.alt2 else 0)) s
    else usbStall s
  | 0x00, 5 => if v ≤ 127 then usbAccept p.bmType p.bRequest (.address v) s else usbStall s
  | 0x00, 9 => setConfiguration v s
  | 0x01, 11 => setInterface i v s
  | 0x00, 3 => if v = 2 then setTestMode i s else usbStall s
  | 0x02, 1 => if v = 0 ∧ usbEndpoint i then usbAccept p.bmType p.bRequest (.halt i false) s else usbStall s
  | 0x02, 3 => if v = 0 ∧ usbEndpoint i then usbAccept p.bmType p.bRequest (.halt i true) s else usbStall s
  | _, _ => usbStall s

/-- What a completed transfer requested takes effect (R312, R315, R316). -/
def usbEffect (e : UsbEffect) (u : Usb) : Usb :=
  match e with
  | .nothing => u
  | .address a => { u with address := a }
  | .config c => { u.outFresh with config := c, alt1 := 0, alt2 := 0, halted := [], inQ := [], ready := 0 }
  | .alt itf a =>
    if itf = 1 then { u.outFresh with alt1 := a, sinceAlt := 0 } else { u with alt2 := a, inQ := [], ready := 0 }
  | .test n => { u with test := n }
  | .halt ep on => { u with halted := if on then ep :: u.halted.filter (· != ep) else u.halted.filter (· != ep) }

/-- Whether IN data is sent. -/
def usbInOn (s : State) : Bool :=
  s.usb.attached && !s.usb.full && s.usb.config == 1 && s.usb.alt2 != 0 && !s.usb.suspended

/-- A packet's sample frames: little-endian subslots, 16-bit samples widened by eight zero bits (R311). -/
def packetFrames (u alt : Nat) (b : List Byte) : List (List Int) :=
  let n := subslot alt
  (List.range (b.length / (u * n))).map (fun i => (List.range u).map (fun c =>
    let x := ofLe (slice ((i * u + c) * n) n b)
    if n = 3 then signed 24 x else signed 16 x * 256))

/-- Samples the OUT buffer holds at most: 8 ms (R312). -/
def usbRoom (rate : Nat) : Nat := rate * 8 / 1000

end Sys2Proof.Machine
end

