-- ==== Sys2Proof/Machine/Blocks.lean ====
section
/-! DEFINITION. One block of the data path: how it ends, where it is placed and numbered, and how the next begins (chapters 1, 12 to
15). -/

namespace Sys2Proof.Machine

open Sys2Proof

/-! ### The block that ends -/

/-- A device that drives its local outputs (R214, R239, Table 3.1). -/
def drivesOutputs (s : State) : Bool :=
  (inMode .solo s || inMode .member s || inMode .leader s) && s.red.releaseAt.isNone

/-- Outputs that START governs (R330). -/
def governed : Out → Bool
  | .tdm _ _ | .bpo _ _ | .spk _ => true
  | .usbIn _ | .lip => false

/-- One output of the block that ends as it leaves: digital zero before the start boundary, under MUTE_N after it (R331, R337). -/
def leaving (s : State) (o : OutBlock) : OutBlock :=
  if s.blocks.started then muted s.well.rate s.blocks o
  else if governed o.out then { o with samples := o.samples.map (fun _ => zeroSample) }
  else o

/-- Whether a block carried concealment at any output (R395). -/
def anyConcealed (l : List OutBlock) : Bool := l.any (fun o => o.samples.any (·.c))

/-- The USB IN sample frames of a block: channels 1 to U (R311). -/
def usbFrames (s : State) (l : List OutBlock) : List (List Int) :=
  (List.range (thisLen s)).map (fun i =>
    (List.range (usbChannels (portsLvl s))).map (fun k => outValue l (.usbIn (k + 1)) i))

/-- What is left of USB IN once a block has ended, and the block's frames behind it (R313). -/
def usbQueue (s : State) (l : List OutBlock) : Usb :=
  if usbInOn s then { s.usb with inQ := s.usb.inQ ++ usbFrames s l, ready := s.usb.inQ.length }
  else { s.usb with inQ := [], ready := 0 }

/-- A following output's pair takes in the samples of the block that ends, which leave over the next one (R280, log entry 23). -/
def feedOutput (s : State) (l : List OutBlock) (p : AsrcPair) : AsrcPair :=
  let n := Fin.ofNat 4 (p.use_ - 4)
  let side (r : Bool) : List Sample := ((l.find? (fun o => o.out == .bpo n r)).map (·.samples)).getD []
  let new := ((side false).zip (side true)).zipIdx.map (fun x => (s.gptp.time + x.2 * 1000000000 / s.well.rate, x.1.1, x.1.2))
  { p with tail := p.tail.filter (fun x => decide (s.gptp.time < x.1 + spanNs)) ++ new }

/-- The local outputs of the block that ends, with the duck gain at the next boundary. -/
def finishOutputs (g1 : Int) (s : State) : State :=
  let l := if drivesOutputs s then (blockOutputs s g1).map (leaving s) else []
  let c := s.status.sec
  let c1 := if anyConcealed l then { c with concealed := sat16 (c.concealed + 1) } else c
  { s with
    usb := usbQueue s l
    blocks := { s.blocks with pairs := s.blocks.pairs.map (fun p =>
      if 4 ≤ p.use_ && decide (p.use_ < 8) then feedOutput s (if drivesOutputs s then blockOutputs s g1 else []) p else p) }
    status := { s.status with sec := c1 }
    routing := { s.routing with outputs := l } }

/-- A hot leader closes its step: digests, and the block frame it will send (R217, R219). -/
def closeStep (g1 : Int) (s : State) : State :=
  let inD := inputDigest s
  let prior := s.red.outHere.getD 0#32
  { s with red := { s.red with
    inDigest := inD, outDigest := prior, outHere := some (outputDigest s g1), held := some (blockInfo s inD prior)
    step := s.blocks.number } }

/-- A device in PARTNER of a hot pair that has contact: its steps wait for block frames. -/
def hotPartner (s : State) : Bool := inMode .partner s && hotRole (role s)

/-- A hot partner keeps the inputs of the step that closes until it holds the block frame; none of that step's frames leaves
before (R217, R221). -/
def keepClosed (g1 : Int) (s : State) : State :=
  { s with red := { s.red with
    closed := if s.red.state == .inStep || s.red.state == .joining then s.red.closed ++ [closeOf s g1] else []
    closeAt := if s.red.state == .inStep then some s.now else none } }

/-- The pair's part of the block that ends: what is left of its frames leaves, unless the block frame must come first. -/
def pairEnd (g1 : Int) (s : State) : State :=
  if hotPartner s then keepClosed g1 s
  else
    let s := flushTalkers s
    if inMode .leader s && hotRole (role s) && s.red.pair.isSome then closeStep g1 s else s

/-- Samples of the block that ends let go, and what is concealed from here on kept (R216). -/
def dropBlock (n : Nat) (s : State) : State :=
  { s with
    streams := { s.streams with rx := s.streams.rx.map (fun x => { x with ready := x.ready.drop n, good0 := x.good }) }
    tdm := s.tdm.map (fun t => { t with got := [] })
    usb := { s.usb with got := [] }
    blocks := { s.blocks with
      pairs := s.blocks.pairs.map (fun p => { p with got := [] })
      mic := [], done := 0
      muteLow := muteAt s.blocks (n - 1)
      mutePrev := ((List.range n).drop (n - linkLead s.well.rate)).map (muteAt s.blocks)
      muteEdges := (s.blocks.muteEdges.filter (fun e => decide (n ≤ e.1))).map (fun e => (e.1 - n, e.2)) }
    routing := { s.routing with testN := (s.routing.testN + n) % 256 }
    red := { s.red with leaderOnly := [] } }

/-- A biphase output at the end of a block: one of the media clock has sent every frame of it (R280). -/
def endLine (len : Nat) (bpo : Vector Bpo 4) (st : Status) (n : Fin 4) : Status :=
  let x := (st.lines[n], st.bpo[n])
  if bpo[n].running && !bpo[n].follow then st.setBpo n (iter BpoSend.frame (len - x.1.sent) x) else st

/-- Every biphase output at the end of a block. -/
def endLines (s : State) : State := { s with status := (List.finRange 4).foldl (endLine (thisLen s) s.bpo) s.status }

/-- The block that ends, finished: MEDIA and every stream brought to its end, outputs computed, talkers flushed. -/
def endBlock (x : BoundaryIn) (s : State) : State :=
  let s := endLines s
  let s := if s.thr.jobs.isEmpty then s else endWindow s
  if !s.blocks.running then keepFrames (noteSlumber (speakersEnd x.spk0 x.spk1 s))
  else
    let n := thisLen s
    let s := mediaTo n s
    let s := (List.range s.streams.rx.length).foldl (presentStream n) s
    let s := refreshOutstanding s
    let r := duckStep (announcing s) s.routing
    let s := finishOutputs r.duck (noteSlumber s)
    let s := pairEnd r.duck s
    let s := if hotPartner s then s else keepInputs s
    let s := keepFrames (speakersEnd x.spk0 x.spk1 s)
    dropBlock n { s with routing := { r with outputs := s.routing.outputs, testN := s.routing.testN } }

/-! ### Placing and numbering (R327 to R329) -/

/-- The group position of the first boundary: on NET from its place in gPTP time or after the followed leader's CRF stamps, on
any other reference 0 (R328). -/
def firstGroup (s : State) (stamp : Nat) : Nat :=
  let size := groupSize s.well.rate
  if s.well.selected != some .net then 0
  else
    match s.well.crfStamps, inMode .leader s || strappedLeader (role s) with
    | a :: _, false => ((stamp + 10000000 - a % 10000000 + 500000) / 1000000) % size
    | _, _ => ((stamp + 500000) / 1000000) % size

/-- The boundary's block placed: its stamp, number and group position. -/
def placeBlock (s : State) : State :=
  let b := s.blocks
  let group := if b.placed then (b.group + 1) % groupSize s.well.rate else firstGroup s s.gptp.time
  { s with blocks := { b with
    stamp := s.gptp.time, lastAt := s.gptp.time, number := b.number + 1, group := group, base := b.base + thisLen s, placed := true } }

/-- The block number of a data path's first block: nearest to its stamp in milliseconds, of the residue that its group position
has, halves upward (R328). -/
def firstNumber (stamp size group : Nat) : Nat :=
  let b := (stamp + 500000) / 1000000
  let r := (group + size - b % size) % size
  if r = 0 then b
  else
    let up := b + r
    let down : Int := (up : Int) - size
    if down < 0 ∨ ((up : Int) + down) * 1000000 ≤ 2 * (stamp : Int) then up else down.toNat

/-! ### A data path's start -/

/-- A context as the data path finds it at its start: nothing outstanding, its committed state at hand. -/
def freshCtx (s : State) (k : Fin 16) : Ctx :=
  let c := s.thr.ctxs[k]
  { c with
    h0 := if c.desc.isSome || k == 15 then some (committedState s k.val) else none
    final := none, commitDue := false, waiting := none, outstanding := none, outs := [], history := [] }

/-- The data path starts with the block that begins (R27, R190, R328, R346): numbers from the given ones, or zero, and then no return
stream admitted until the first evaluation (R201). -/
def startPath (nums : Option (BitVec 16 × BitVec 16 × BitVec 16)) (s : State) : State :=
  let number := firstNumber s.blocks.stamp (groupSize s.well.rate) s.blocks.group
  let ctxs := Vector.ofFn (fun k => freshCtx s k)
  let s := if nums.isSome then s else admitNodes [] s
  let s := { s with
    blocks := { s.blocks with running := true, number := number, done := 0, mic := [] }
    thr := { s.thr with first := number, ctxs := ctxs, settled := [], replay := [], jobs := [] }
    streams := { s.streams with
      rx := s.streams.rx.filter (fun x => x.kind == 3), ret := { s.streams.ret with seq := 0#16 }
      nextAdmitted := if nums.isSome then s.streams.nextAdmitted else none }
    routing := { s.routing with outputs := [], testN := 0 }
    tdm := s.tdm.map (fun t => { t with got := [], inBuf := [], outBuf := [], drives := false, fresh := false }) }
  let s := match nums with
    | some n => setNumbers n s
    | none => setNumbers (0#16, 0#16, 0#16) s
  clipStart s

/-! ### The block that begins -/

/-- A biphase output over the block that begins (R280 to R285). -/
def bpoNow (s : State) (n : Fin 4) : Bpo :=
  let was := s.bpo[n]
  let used := bpoUsed s.routing.profile.val n
  let safe := inMode .safe s
  let on := if safe then s.status.bpoOpen && !used else drivesOutputs s && s.blocks.started && s.blocks.running
  let pair := s.blocks.pairs.any (fun p => p.use_ == 4 + n.val && p.locked)
  let follow := on && !safe && s.routing.profile == 5 && s.bpi[n].qualified && (was.follow || pair)
  let rate := if follow then s.bpi[n].rate else s.well.rate
  if on then
    { was with
      running := true, follow := follow, rate := rate
      fresh := !was.running || was.follow != follow || was.rate != rate
      cs := channelStatus (bpoProfessional (portsLvl s)) rate }
  else { running := false, fresh := true, frames := was.frames }

/-- A biphase output's frames as it stops, goes on, or begins a new biphase block (R102, R281, R285). -/
def lineNow (bpo : Vector Bpo 4) (st : Status) (n : Fin 4) : Status :=
  let x := (st.lines[n], st.bpo[n])
  if !bpo[n].running then st.setBpo n ({}, BpoSend.broken x)
  else if bpo[n].fresh then st.setBpo n (BpoSend.fresh x)
  else st

/-- Every biphase output brought in line. -/
def bpoBoundary (s : State) : State :=
  let bpo := Vector.ofFn (fun n => bpoNow s n)
  { s with bpo := bpo, status := (List.finRange 4).foldl (lineNow bpo) s.status }

/-- PDM clock periods in a media sample period: the decimation ratio (R302, R303). -/
def pdmRatio (rate : Nat) : Nat := if 50000 < rate then 32 else 64

/-- Microphone `m`'s values over one sample period of its line: the rising edge for an even one, the falling edge for an odd one; a 1
is +1 and a 0 is -1, which the pull-down gives where nothing drives the line (R301). -/
def pdmValues (rate : Nat) (m : Fin 4) (l : List (Bool × Bool)) : List Int :=
  padTo (pdmRatio rate) (-1) (l.map (fun b => if (if m.val % 2 = 0 then b.1 else b.2) then 1 else -1))

/-- A microphone's samples of the block that begins (R303). -/
def micBlock (s : State) (x : BoundaryIn) (m : Fin 4) : List Sample × Int :=
  let bits := (x.pdm[m.val / 2]?).getD []
  let on := if m.val < 2 then s.mic.clk0 else s.mic.clk1
  if !on then ([], s.mic.filt[m])
  else
    (List.range (thisLen s)).foldl (fun (a : List Sample × Int) i =>
      let r := Config.decimate a.2 (pdmValues s.well.rate m ((bits[i]?).getD []))
      (a.1 ++ [⟨sat24 r.1, false⟩], r.2)) ([], s.mic.filt[m])

/-- The microphones of the block that begins: clocks, decimated samples, and the samples each line passes (R302 to R304). -/
def micBoundary (x : BoundaryIn) (s : State) : State :=
  let s := pdmClocks s
  let blocks := (List.finRange 4).map (fun m => micBlock s x m)
  let pass (on : Bool) (settle : Option Nat) : Nat × Nat := if on && settle.isNone then (0, 1000) else (0, 0)
  let m := s.mic
  { s with
    blocks := { s.blocks with mic := blocks.map (·.1) }
    mic := { m with
      filt := Vector.ofFn (fun k : Fin 4 => ((blocks[k.val]?).map (·.2)).getD 0)
      pass0 := pass m.clk0 m.settle0, pass1 := pass m.clk1 m.settle1 } }

/-- A leader port over the block that begins: its lands run, and it takes in a frame for each sample (R290, R300). -/
def tdmLead (s : State) (l : List (List (BitVec 32))) (p : Fin 2) : TdmPort :=
  let t := s.tdm[p]
  if t.used && !asFollower s t && s.blocks.started && s.blocks.running then
    { t with
      drives := true, fresh := !t.drives
      got := (List.range (thisLen s)).map (fun i =>
        (slotSamples t.slots ((l[i]?).getD [])).map (fun v => (⟨v, false⟩ : Sample))) }
  else { t with drives := false, fresh := false }

/-- Both ports at the start of a block. -/
def tdmBoundary (x : BoundaryIn) (s : State) : State := { s with tdm := #v[tdmLead s x.tdm0 0, tdmLead s x.tdm1 1] }

/-- Frames that become due with the block that begins: eight of each talked stream, and a CRF frame after every tenth block
(R182, R184). -/
def talkersBegin (s : State) : State :=
  let s := if inMode .leader s then s.streams.nextAdmitted.elim s (fun l => admitNodes l s) else s
  let x := s.streams
  { s with
    streams := { x with
      program := { x.program with next := 0 }, ret := { x.ret with next := 0 }, ann := { x.ann with next := 0 }
      crf := if s.blocks.number % 10 = 0 then { x.crf with next := 0, stamp := s.blocks.stamp } else x.crf
      nextAdmitted := if inMode .leader s then none else x.nextAdmitted }
    red := { s.red with startSeqs := (x.program.seq, x.crf.seq, x.ann.seq) } }

/-- START's start boundary: the first after t_e (R331). `prior` is the boundary's device time before any step. -/
def startBoundary (prior : Nat) (s : State) : State :=
  if !s.blocks.started && !inMode .safe s && s.blocks.te.any (fun e => decide (e < prior)) then
    { s with blocks := { s.blocks with started := true } }
  else s

/-- Interventions over, the block begins: what MEDIA, the routes, Thresher and the plant find at its start. -/
def beginBlock (x : BoundaryIn) (prior : Nat) (s : State) : State :=
  let s := startBoundary prior s
  let s := if s.blocks.running then
      let s := { s with blocks := { s.blocks with
        pairs := s.blocks.pairs.map (fun p => { p with fixed := if p.fixed.isSome then p.fixed else p.fixedNext, fixedNext := none }) } }
      talkersBegin (tdmBoundary x (clipBoundary x.cue (dropOuts s)))
    else s
  let s := bpoBoundary (usbAttach (micBoundary x s))
  let s := if plantRuns s then plantWindow s else s
  let s := if s.blocks.running && !hotPartner s then contextWindow s else s
  speakersBegin x.pvddMv (if plantRuns s then motorBoundary s else setDriven s)

end Sys2Proof.Machine
end

