-- ==== Sys2Proof/Machine/CmdTime.lean ====
section
/-! DEFINITION. The meanings of gPTP: Sync, Announce, Pdelay, the best master, and device time (chapter 8). -/

namespace Sys2Proof.Machine

open Sys2Proof

/-- The device takes part in gPTP: out of reset and not asleep (R84, R171). -/
def gptpRuns (s : State) : Bool := powered s && !inMode .slumber s || s.sleep.wakeAt.isSome

/-- A gPTP message as a frame: untagged, to 01:80:C2:00:00:0E (R171). -/
def gptpFrame (s : State) (m : GptpMsg) : NetFrame :=
  { dst := 0x0180C200000E#48, src := s.eui48, body := .gptp m, octets := 90 }

/-! ### Device time (R173 to R175) -/

/-- The correction the servo asks for after a Sync, within ±20 ppm of REF's rate, in units of 10^-15; the rate moves toward it at
2 ppm/s (R175). -/
def servoGoal (s : State) (e : Int) : Int :=
  max (-20000) (min 20000 (Config.timeServo e (s.gptp.rate / 1000000))) * 1000000

/-- Whether frames come in at a port: declared up, with PHY link and so with its receive clock (R124, R157, R158). -/
def portHears (s : State) (i : Fin 2) : Bool := s.ports[i].up && s.ports[i].phy

/-- The crossing queue of a port's receive clock (R120). -/
def phyQueue (i : Fin 2) : Fin 10 := ⟨i.val, by omega⟩

/-- A gPTP message received at a port crosses into SYS and is worked on (R120, R162). -/
def gptpIn (i : Fin 2) (work : State → State) (s : State) : State :=
  if gptpRuns s && portHears s i then crossIn (phyQueue i) 12 work s else s

/-- Synchronisation lost: F310, then NET is lost (R174, Table 6.4). -/
def loseSync (s : State) : State :=
  loseRef .net false (raise 0xF310#16 0 [] { s with gptp := { s.gptp with synced := false, good := 0, okSince := none } })

/-- A Sync that leaves an offset of magnitude 1 µs or less counts; the fourth in a row synchronises (R174). -/
def countSync (left : Int) (s : State) : State :=
  let good := if left.natAbs ≤ 1000 then min 4 (s.gptp.good + 1) else 0
  let s := { s with gptp := { s.gptp with good := good, lastSync := some s.now, holdFrom := some s.now } }
  if good = 4 && !s.gptp.synced then
    endSearch (clearAll 0xF310#16 { s with gptp := { s.gptp with synced := true, okSince := some s.now } })
  else s

/-- Every instant that is taken from device time follows it where device time is set or stepped (R96, R194). -/
def setTime (x : Nat) (s : State) : State :=
  let s := { s with gptp := { s.gptp with time := x % 2 ^ 64, frac := 0 } }
  if s.start.tRun.isSome || inMode .safe s then reschedule s else s

/-- A Sync on the slave port judged: device time set while the data path does not run, stepped at the next block boundary, or drawn
in by the rate (R173 to R175). -/
def takeSync (gm : Nat) (s : State) : State :=
  let e : Int := (gm : Int) - (s.gptp.time : Int)
  if !s.blocks.running && (!s.gptp.firstSet || decide (e.natAbs > 10000)) then
    countSync 0 (setTime gm { s with gptp := { s.gptp with firstSet := true } })
  else if e.natAbs > 10000 then
    let due := s.blocks.due.filter (fun d => match d.what with
      | .timeStep _ => false
      | _ => true)
    countSync e (makeDue (.timeStep e) { s with blocks := { s.blocks with due := due } })
  else countSync e { s with gptp := { s.gptp with rateGoal := servoGoal s e } }

/-- SYNC_RECEIVE (R173 to R175): a Sync on the slave port, `gm` being gPTP time at its receipt. -/
def execSyncReceive (t : Nat) (i : Fin 2) (gm : Nat) (s : State) : Result :=
  let s := s.upTo t
  if !s.ports[i].asCapable || s.gptp.slavePort != some i then .next s else .next (gptpIn i (takeSync gm) s)

/-- SYNC_SEND (R171): every 125 ms a Sync with its Follow_Up leaves a master port, while a grandmaster is known. -/
def execSyncSend (i : Fin 2) (s : State) : Result :=
  match s.ports[i].syncAt with
  | none => .next s
  | some d =>
    let s := s.upTo d
    let s := { s with ports := s.ports.set i { s.ports[i] with syncAt := some (d + 125 * ms1) } }
    if gptpRuns s && masterPort s i && (s.gptp.grandmaster || (s.gptp.slavePort.isSome && s.gptp.lastSync.isSome)) then
      let f := gptpFrame s (.sync s.gptp.syncSeq s.gptp.time)
      .next (sendPort i f { s with gptp := { s.gptp with syncSeq := s.gptp.syncSeq + 1 } })
    else .next s

/-- ANNOUNCE_RECEIVE (R172): a neighbour's vector; it replaces what the port held where it is from the same clock or
better, and the best master is sought afresh. -/
def execAnnounceReceive (t : Nat) (i : Fin 2) (v : GmVector) (s : State) : Result :=
  let s := s.upTo t
  let p := s.ports[i]
  let held := match p.best1 with
    | some b => b.sender != v.sender && better b v
    | none => false
  if !p.asCapable || v.sender == clockIdentity s || v.identity == clockIdentity s || held then .next s
  else
    .next (gptpIn i (fun s =>
      let p := { p with best1 := some v, annDeadline := some (s.now + 2 * sec1) }
      runBmca { s with ports := s.ports.set i p }) s)

/-- ANNOUNCE_SEND (R171): every second an Announce leaves a master port. -/
def execAnnounceSend (i : Fin 2) (s : State) : Result :=
  match s.ports[i].announceAt with
  | none => .next s
  | some d =>
    let s := s.upTo d
    let s := { s with ports := s.ports.set i { s.ports[i] with announceAt := some (d + sec1) } }
    if gptpRuns s && masterPort s i then
      let f := gptpFrame s (.announce s.gptp.annSeq (rootVector s))
      .next (sendPort i f { s with gptp := { s.gptp with annSeq := s.gptp.annSeq + 1 } })
    else .next s

/-- What a port heard is forgotten, and the best master is sought afresh. -/
def forgetMaster (i : Fin 2) (s : State) : State :=
  runBmca { s with ports := s.ports.set i { s.ports[i] with best1 := none, annDeadline := none } }

/-- ANNOUNCE_RECEIPT_TIMEOUT (R172): two announce intervals without an Announce. -/
def execAnnounceReceiptTimeout (i : Fin 2) (s : State) : Result :=
  match s.ports[i].annDeadline with
  | none => .next s
  | some d => .next (forgetMaster i (s.upTo d))

/-- SYNC_RECEIPT_TIMEOUT (R171): three sync intervals without a Sync on the slave port. -/
def execSyncReceiptTimeout (s : State) : Result :=
  match s.gptp.slavePort with
  | some i => .next (forgetMaster i (s.upTo (max s.gptp.slaveFrom (s.gptp.lastSync.getD 0) + 375 * ms1)))
  | none => .next s

/-- PDELAY_REQUEST_SEND (R171): every 125 ms for the first 16 exchanges, then every second. An exchange still without a
response has failed; ten in a row end asCapable (log entry 21). The request is stamped as it leaves (R119). -/
def execPdelayRequestSend (i : Fin 2) (s : State) : Result :=
  match s.ports[i].pdelayAt with
  | none => .next s
  | some d =>
    let s := s.upTo d
    let p := s.ports[i]
    if !gptpRuns s || !p.up then .next { s with ports := s.ports.set i { p with pdelayAt := some (d + sec1) } }
    else
      let lost := if p.pdelaySent.isSome then p.pdelayLost + 1 else 0
      let p := { p with
        pdelayAt := some (d + (if p.pdelayDone < 15 then 125 * ms1 else sec1))
        pdelayDone := min 16 (p.pdelayDone + 1)
        pdelaySeq := p.pdelaySeq + 1, pdelaySent := none, pdelayLost := min 10 lost
        pdelayOk := if lost = 0 then p.pdelayOk else 0
        asCapable := p.asCapable && decide (lost < 10) }
      .next (sendPort i (gptpFrame s (.pdelayReq p.pdelaySeq)) { s with ports := s.ports.set i p })

/-- PDELAY_RESPONSE_RECEIVE (R171): the propagation delay is half the round trip less the responder's turnaround; an
exchange succeeds within 800 ns, and three in a row make the port asCapable. -/
def execPdelayResponseReceive (t : Nat) (i : Fin 2) (seq : BitVec 16) (rx tx : Nat) (s : State) : Result :=
  let s := s.upTo t
  let p := s.ports[i]
  match p.pdelaySent with
  | none => .next s
  | some t1 =>
    if seq != p.pdelaySeq then .next s
    else
      .next (gptpIn i (fun s =>
        let delay := ((s.gptp.time - t1) - (tx - rx)) / 2
        let ok := decide (delay ≤ 800)
        let n := if ok then min 3 (p.pdelayOk + 1) else 0
        let p := { p with
          delay := delay, pdelaySent := none, pdelayLost := 0, pdelayOk := n
          asCapable := ok && (p.asCapable || n == 3) }
        { s with ports := s.ports.set i p }) s)

/-- PDELAY_REQUEST_RECEIVE (R171): the request is answered on its port, with its receive time and, as it leaves, its transmit
time. -/
def execPdelayRequestReceive (t : Nat) (i : Fin 2) (seq : BitVec 16) (s : State) : Result :=
  .next (gptpIn i (fun s => sendPort i (gptpFrame s (.pdelayResp seq s.gptp.time s.gptp.time)) s) (s.upTo t))

/-- PRIORITY_HOLD_EXPIRY (R172): the 2 s with priority1 255 end. -/
def execPriorityHoldExpiry (s : State) : Result :=
  match s.gptp.priority255 with
  | none => .next s
  | some d =>
    let s := s.upTo d
    .next (runBmca { s with gptp := { s.gptp with prioHeld := false, priority255 := none } })

/-- GPTP_SYNC_HOLD_EXPIRY (R174): 3 s without an accepted Sync while not grandmaster; F310, and NET is lost. -/
def execGptpSyncHoldExpiry (s : State) : Result :=
  match s.gptp.holdFrom with
  | none => .next s
  | some l =>
    if s.gptp.synced && !s.gptp.grandmaster then .next (loseSync (s.upTo (l + 3 * sec1))) else .next s

end Sys2Proof.Machine
end

