-- ==== Sys2Proof/Machine/Memory.lean ====
section
/-! DEFINITION. The flash and PSRAM buses, transaction tags, flash operations and the DMA engine (chapter 19). -/

namespace Sys2Proof.Machine

open Sys2Proof

/-! ### Flash (R403 to R405) -/

/-- F202 with its cause and address. -/
def flashFault (cause addr : Nat) (s : State) : State := raise 0xF202#16 0 (be 1 cause ++ be 4 addr) s

/-- Slot information of a slot: repair unit 1 for A, 2 for B. -/
def slotUnit (b : Bool) : Nat := if b then 2 else 1

/-- Repair kind of a slot write (R451, R453, R456). -/
def SlotSource.kind : SlotSource → Nat
  | .other => 4 | .leader => 5 | .refresh => 6

/-- A slot write ends without a valid slot: outcome 2; a fetched image is not fetched again in this start (R448, R453). -/
def failWrite (s : State) : State :=
  match s.gran.write with
  | none => s
  | some w =>
    let refused := if w.source == .leader then (w.identity, w.edition) :: s.gran.refused else s.gran.refused
    repairEvent s.gptp.time w.source.kind (slotUnit w.slotB) 0 0 2 { s with gran := { s.gran with write := none, refused := refused } }

/-- The flash goes absent: nothing more is issued, a slot write ends, clip voices end with digital zero (R405). -/
def loseFlash (cause addr : Nat) (s : State) : State :=
  let s := flashFault cause addr s
  let s := failWrite { s with
    mem := { s.mem with flashAbsent := true, flashUp := false, op := none, readRetries := 0
                        flight := s.mem.flight.filter (·.silo), stalled := s.mem.stalled.filter (·.silo) }
    clips := { s.clips with
      voices := s.clips.voices.map (fun v => { v with active := false })
      ahead := s.clips.ahead.map (fun x => (x.1.map (fun _ => 0), x.2.map (fun _ => 0))) } }
  s

/-- The next operation of a slot write issued, once no other is in progress (R404). -/
def issueOp (s : State) : State :=
  match s.mem.op, s.gran.write with
  | none, some w =>
    (match w.queue with
     | o :: q => { s with mem := { s.mem with op := some o }, gran := { s.gran with write := some { w with queue := q } } }
     | [] => s)
  | _, _ => s

/-- An operation's effect on the flash: an erased sector, or bits cleared. -/
def applyOp (o : FlashOp) (s : State) : State :=
  let m := if o.erase then wipe s.mem.flash o.addr 4096 else programs s.mem.flash o.addr o.data
  { s with mem := { s.mem with flash := m } }

/-- What a failed operation leaves in its sector or page. -/
def spoilOp (o : FlashOp) (s : State) : State :=
  let n := if o.erase then 4096 else o.data.length
  let r := freeBytes n s
  let m := if o.erase then pokes 0xFF#8 r.2.mem.flash o.addr r.1 else programs r.2.mem.flash o.addr r.1
  { r.2 with mem := { r.2.mem with flash := m } }

/-- F920: operation, cause, address. -/
def opFault (erase : Bool) (c : FlashCause) (addr : Nat) (s : State) : State :=
  raise 0xF920#16 0 (be 1 (if erase then 1 else 0) ++ be 1 c.code ++ be 4 addr) s

/-- F920 clears at an operation that completes. -/
def opGood (s : State) : State := if anyActive 0xF920#16 s then clearAll 0xF920#16 s else s

/-! ### DMA (R416 to R421) -/

/-- A register set as its 32 bytes in memory (Table 19.6). -/
def regBytes (r : RegSet) : List Byte :=
  le 1 (r.kind + (if r.paced then 4 else 0) + (if r.fill then 8 else 0) + 16 * r.tagClass + (if r.verify then 64 else 0)
      + (if r.valid then 128 else 0))
    ++ le 1 r.queue ++ le 1 r.startMark ++ le 1 r.stopMark ++ le 4 r.src.toNat ++ le 4 r.dst.toNat ++ le 4 r.rowLen
    ++ le 2 r.srcStride ++ le 2 r.dstStride ++ le 2 r.rows ++ le 2 r.ring ++ le 4 r.table.toNat ++ le 1 r.rowCond ++ [0#8]
    ++ le 2 r.count.toNat

/-- The register set 32 bytes hold (Table 19.6). -/
def regOf (b : List Byte) : RegSet :=
  let c := at8 b 0
  { kind := c.toNat % 4, paced := c.getLsbD 2, fill := c.getLsbD 3, tagClass := c.toNat / 16 % 4, verify := c.getLsbD 6
    valid := c.getLsbD 7, queue := leAt b 1 1, startMark := leAt b 2 1, stopMark := leAt b 3 1
    src := BitVec.ofNat 32 (leAt b 4 4), dst := BitVec.ofNat 32 (leAt b 8 4), rowLen := leAt b 12 3
    srcStride := leAt b 16 2, dstStride := leAt b 18 2, rows := leAt b 20 2, ring := leAt b 22 2
    table := BitVec.ofNat 32 (leAt b 24 4), rowCond := leAt b 28 1, count := BitVec.ofNat 16 (leAt b 30 2) }

/-- The channels' names of Table 19.4 by kind: ring, table, single. -/
def channelKind (ch : Fin 16) : Nat :=
  match ch.val with
  | 0 | 1 | 2 | 3 | 13 | 14 => 1
  | 4 | 5 | 6 | 7 | 10 => 2
  | _ => 0

/-- Start and stop mark and sense of a paced channel (Table 19.7); true fills. -/
def paceMarks (ch : Fin 16) : Option (Bool × Nat × Nat) :=
  match ch.val with
  | 0 | 1 | 2 | 13 | 14 => some (false, 1, 0)
  | 3 => some (true, 4, 8)
  | 10 => some (true, 8, 16)
  | _ => none

/-- Where a DMA address lies (Table 19.5). -/
inductive DmaPlace where
  /-- Loft. -/
  | loft (off : Nat)
  /-- Buffer SRAM. -/
  | sram (off : Nat)
  /-- Silo PSRAM. -/
  | psram (off : Nat)
  /-- Flash. -/
  | flash (off : Nat)
  /-- Window of a hardware queue. -/
  | queue (q : Nat)
deriving DecidableEq, Repr

/-- The place of a DMA address; none outside every memory of the device. -/
def dmaPlace (s : State) (a : Nat) : Option DmaPlace :=
  if 0x10000000 ≤ a ∧ a < 0x10400000 then some (.loft (a - 0x10000000))
  else if 0x20000000 ≤ a ∧ a < 0x20200000 then some (.sram (a - 0x20000000))
  else if 0x40000000 ≤ a ∧ a < 0x40000000 + s.mem.psramMiB * 1048576 then some (.psram (a - 0x40000000))
  else if 0x60000000 ≤ a ∧ a < 0x60000000 + s.mem.flashMiB * 1048576 then some (.flash (a - 0x60000000))
  else if 0x80000000 ≤ a ∧ a < 0x80000000 + 256 * 0x10000 then some (.queue ((a - 0x80000000) / 0x10000))
  else none

/-- One byte read at a place; a queue's window yields what the queue holds, which no register set of the spec names. -/
def dmaRead (s : State) : DmaPlace → Byte
  | .loft a => peek 0#8 s.mem.loft a
  | .sram a => peek 0#8 s.mem.sram a
  | .psram a => peek 0#8 s.mem.psram a
  | .flash a => peek 0xFF#8 s.mem.flash a
  | .queue _ => BitVec.ofNat 8 (Config.freeValue s.freeCtr)

/-- One byte written at a place. -/
def dmaWrite (v : Byte) (s : State) : DmaPlace → State
  | .loft a => { s with mem := { s.mem with loft := poke 0#8 s.mem.loft a v } }
  | .sram a => { s with mem := { s.mem with sram := poke 0#8 s.mem.sram a v } }
  | .psram a => { s with mem := { s.mem with psram := poke 0#8 s.mem.psram a v } }
  | .flash a => { s with mem := { s.mem with flash := programs s.mem.flash a [v] } }
  | .queue _ => s

/-- The pairs of addresses a register set moves between, byte by byte. -/
def dmaPairs (r : RegSet) : List (Nat × Nat) :=
  (List.range r.rows).flatMap (fun i => (List.range r.rowLen).map (fun j =>
    (r.src.toNat + i * r.srcStride + j, r.dst.toNat + i * r.dstStride + j)))

/-- The first address of a register set that lies outside every memory. -/
def badAddress (s : State) (r : RegSet) : Option Nat :=
  ((dmaPairs r).flatMap (fun p => [p.1, p.2])).find? (fun a => (dmaPlace s a).isNone)

/-- The bytes a register set of a single channel has moved when it completes. -/
def dmaMove (r : RegSet) (s : State) : State :=
  (dmaPairs r).foldl (fun (s : State) p =>
    match dmaPlace s p.1, dmaPlace s p.2 with
    | some a, some b => { dmaWrite (dmaRead s a) s b with freeCtr := s.freeCtr + 1 }
    | _, _ => s) s

/-- The shadow set swapped in; a write that stalled on it goes through (R419). -/
def swapShadow (c : DmaChan) : DmaChan :=
  let next := match c.stalled with
    | some r => { r with valid := true }
    | none => { c.shadow with valid := false }
  { c with active := { c.shadow with count := c.active.count + 1 }, shadow := next, stalled := none, heldFor := false }

/-- A channel after its active set completes (R419, R421). -/
def dmaComplete (s : State) (c : DmaChan) : DmaChan :=
  if c.shadow.valid && !c.heldFor then swapShadow c
  else
    match c.active.kind with
    | 1 => { c with active := { c.active with count := c.active.count + 1 } }
    | 2 =>
      let n := if c.active.ring ≤ c.entry + 1 then 0 else c.entry + 1
      let b := peeks 0#8 s.mem.sram (c.active.table.toNat - 0x20000000 + 32 * n) 32
      let e := regOf b
      { c with entry := n, active := { e with kind := 2, ring := c.active.ring, table := c.active.table, count := c.active.count + 1 } }
    | _ => { c with active := { c.active with valid := false, count := c.active.count + 1 } }

/-- The register sets of step 5 of R25: kind, pace and marks of each channel; the addresses of its buffers, which the spec does
not place, are left at zero. -/
def dmaSetup (s : State) : State :=
  { s with mem := { s.mem with dma := Vector.ofFn (fun ch : Fin 16 =>
    let k := channelKind ch
    let cls := if ch.val = 6 ∨ ch.val = 7 then 1 else if ch.val = 8 then 2 else if ch.val = 9 ∨ ch.val = 15 then 3 else 0
    let r : RegSet := match paceMarks ch with
      | some (fill, a, b) => { kind := k, tagClass := cls, valid := k != 0, paced := true, fill := fill, startMark := a, stopMark := b }
      | none => { kind := k, tagClass := cls, valid := k != 0 }
    { active := r }) } }

end Sys2Proof.Machine
end

