-- ==== Sys2Proof/Machine/CmdRun.lean ====
section
/-! DEFINITION. The meanings of the end of a start: the data path's set-up and the entry into running (chapters 1, 3). -/

namespace Sys2Proof.Machine

open Sys2Proof

/-- DATA_PATH_SETUP (R25): steps 4 to 7, once the loft, the self-check and the PSRAM are done: register sets, switch tables and
the keys. A failed health test of the entropy source raises FF10, whose effect is a reset (R256). -/
def execDataPathSetup (t : Nat) (entropyOk : Bool) (s : State) : Result :=
  let s := s.upTo t
  if !awake s || s.start.mode.isSome || s.start.base.isNone || s.start.setupDone || !s.start.checkDone || !s.start.psramDone then
    .next s
  else if !entropyOk then .next (watchdogReset .watchdog 0xFF10#16 [] s)
  else
    let s := readKeys (dmaSetup s)
    .next { s with
      switch := { s.switch with tables := true }
      start := { s.start with setupDone := true } }

/-- The conditions of running (R72). -/
def mayRun (s : State) : Bool :=
  awake s && s.start.mode.isNone && s.start.imageDone && s.start.loftDone && s.start.checkDone && s.start.psramDone
    && s.start.setupDone && s.well.locked && s.well.selected.isSome && (s.well.selected != some .net || s.gptp.synced)

/-- The mode a device enters at t_run: that of its strap, but PARTNER for a strapped leader of a pair whose partner was seen
acting as leader (R72, R236). -/
def entryMode (s : State) : Mode :=
  if pairRole (role s) && strappedLeader (role s) && s.red.sawActing then .partner else (roleMode (role s)).getD .solo

/-- The media rate fixed at t_run (R183). -/
def mediaRate (s : State) (m : Mode) : Nat :=
  let base := if s.well.family44 then 44100 else 48000
  match m with
  | .solo | .leader =>
    (match s.well.selected.bind refIndex with
     | some i =>
       if i ≠ 0 ∧ (s.well.refs[i].rate = 2 * base ∨ s.well.refs[i].rate = 4 * base) then 2 * base else base
     | none => base)
  | .member | .partner => if s.well.selected == some .net && s.well.crfQualRate = 2 * base then 2 * base else base
  | _ => base

/-- Whether a profile routes a biphase input's signals. -/
def bpiRouted (s : State) (n : Fin 4) : Bool :=
  (routedInputs (counts s)).any (fun g => match g with
    | .bpi k _ => k == n
    | _ => false)

/-- The uses that take an ASRC pair, in the order of R321. -/
def pairUses (s : State) : List Nat :=
  ((List.finRange 4).filter (bpiRouted s)).map (·.val)
    ++ (if s.routing.profile = 5 then [4, 5, 6, 7] else [])
    ++ (if hearsAnnouncement s.routing.profile.val && s.routing.profile != 11 && tenant s != 0 && (roleMode (role s)) != some .solo
        then [8] else [])

/-- A TDM port as it is from t_run on: unqualified, and unused where both its masks are empty (R288, R289, R297, R298). -/
def tdmFresh (s : State) (deadline : Option Nat) (p : Fin 2) : TdmPort :=
  let m := masks s.routing.profile.val
  let used := if p = 0 then m.1 != 0 || m.2.1 != 0 else m.2.2.1 != 0 || m.2.2.2 != 0
  { slots := slotsInForce s p
    leader := (tdmSetup (portsLvl s) p).any (·.2)
    used := used && (tdmSetup (portsLvl s) p).isSome
    waitFs := true, deadline := deadline }

/-- What starts to run at t_run: the data path's ports and pairs, counters and timers (R77, R96, R194, R229, R298, R321, R363,
R452, R591). -/
def startTimers (et : Nat) (s : State) : State :=
  let o := offset s
  { s with
    start := { s.start with tRun := some s.now, counterPending := true, bpoNext := true }
    status := { s.status with
      heartbeatAt := nextHeartbeat s et, silentFrom := s.now, replayDue := true
      telemetryAt := if plantActive s then [et + 500 * ms1] else [] }
    tdm := #v[tdmFresh s (some (s.now + 10 * sec1)) 0, tdmFresh s (some (s.now + 10 * sec1)) 1]
    bpi := s.bpi.map (fun b => { b with muteClock := true, muteAudio := false, clean := 0 })
    blocks := { s.blocks with pairs := (pairUses s).map (fun u => { use_ := u }) }
    streams := { s.streams with admitAt := nextInstant et o sec1 }
    thr := { s.thr with checkAt := some (s.now + 600 * sec1) }
    red := { s.red with
      lastFrame := max s.red.lastFrame s.now, ckptAt := s.now, ckptNext := nextInstant et (o + 500 * ms1) sec1
      hbNext := nextInstant et (o + 5 * ms1 + (if slotOwner s then 0 else ms1)) (10 * ms1) }
    gran := { s.gran with advertAt := nextInstant et (o + 750 * ms1) sec1 }
    sleep := { s.sleep with brokenAt := s.now }
    sec := { s.sec with akAt := nextInstant et (o + 250 * ms1) sec1 } }

/-- F630 of a device that runs without a key; a strapped leader may create one 60 s later (R254, R256). -/
def keyAtRun (s : State) : State :=
  if s.sec.inForce.isSome then s
  else if strappedLeader (role s) then
    keylessFault 3 { s with sec := { s.sec with createAt := some (s.now + 60 * sec1) } }
  else keylessFault (keylessCause s) s

/-- RUNNING_ENTRY (R72): t_run. The media rate is fixed, the schedule set up for it and the commit table cleared (R183, R384);
then the mode change, F630 where there is no key, the start report and the first heartbeat leave in that order (R99, R254), and
START is released (R330). -/
def execRunningEntry (t : Nat) (s : State) : Result :=
  let s := s.upTo t
  if !mayRun s then .next s
  else
    let m := entryMode s
    let et := s.gptp.time
    let s := { s with well := { s.well with rate := mediaRate s m, refDeadline := none, atStart := false } }
    let s := setupSilo (setupContexts (checkModelRate s))
    let s := keyAtRun (modeChange et m 0#16 s)
    let s := heartbeat et (startReport s)
    let s := runBmca (releaseStart (startTimers et (setSoc (restSoc s) s)))
    .next (pump (if s.red.contact then contactWork s else s))

end Sys2Proof.Machine
end

