-- ==== Sys2Proof/Machine/CmdTie.lean ====
section
/-! DEFINITION. The meanings of the pair's commands: TIE slots and frames, contact, resync, checkpoints, loss, take-back
(chapter 10). -/

namespace Sys2Proof.Machine

open Sys2Proof

/-! ### Slots -/

/-- Requests, then chunks of the checkpoint being sent, put on TIE as long as each ends 5 µs before the next slot (R225). -/
def fillSlot (used : Nat) : Nat → State → State
  | 0, s => s
  | n + 1, s =>
    match s.red.requests with
    | r :: rest =>
      let f := tieFrame s 4 r
      if used + 1000 + tieNs f ≤ 245000 then
        fillSlot (used + 1000 + tieNs f) n (tiePut f { s with red := { s.red with requests := rest } })
      else s
    | [] =>
      match s.red.sending with
      | some img =>
        let f := tieFrame s 3 (chunkPayload img s.red.sendOff)
        if used + 1000 + tieNs f ≤ 245000 then
          let off := s.red.sendOff + 1024
          fillSlot (used + 1000 + tieNs f) n (tiePut f { s with red := { s.red with
            sendOff := off, sending := if img.length ≤ off then none else some img } })
        else s
      | none => s

/-- Time a reply heartbeat takes with its gap: up to 3 µs and 24 bytes (R225). -/
def replyNs : Nat := 3000 + 32 * 80

/-- TIE heartbeat payload: the step sent or held, device time, and the owner's leader-only samples of a quarter (Table 10.4). -/
def tieHeartbeat (s : State) (quarter : Option Nat) : List Byte :=
  let step := match s.red.held with
    | some b => b.step
    | none => stepNow s
  let samples := match quarter with
    | some q => leaderOnlyBytes (leaderOnlyOf s (quarterOf (thisLen s) q))
    | none => []
  be 4 step ++ be 8 s.gptp.time ++ samples

/-- Whether TIE may be driven: while running or starting, from a wake on, and in SLUMBER around a beacon instant (R88). -/
def tieMay (s : State) : Bool :=
  usesTie s && (!inMode .slumber s || s.sleep.wakeAt.isSome || beaconNear s)

/-- TIE_SLOT_START (R225): a slot begins; the slot before is judged, and the owner sends its block frame in the first slot of
a block or where the reply did not show the step (R217), a heartbeat otherwise, then what fits of requests and chunks. -/
def execTieSlotStart (t : Nat) (s : State) : Result :=
  let s := s.upTo t
  if !tieMay s then .next s
  else
    let own := slotOwner s
    let s := mediaNow { s with red := { s.red with
      missed := if s.red.heardSlot then 0 else min 4 (s.red.missed + 1), heardSlot := false
      slot := if own then s.red.slot + 1 else s.red.slot
      tie := { s.red.tie with frames := [] } } }
    if !own then .next s
    else
      let q := (s.gptp.time - s.blocks.stamp) / 250000
      let running := s.blocks.running && inMode .leader s
      let f := match running, s.red.held with
        | true, some b =>
          if q = 0 || s.red.replyHeld != b.step then tieFrame s 2 (blockPayload b)
          else tieFrame s 1 (tieHeartbeat s (some (q - 1)))
        | _, _ => tieFrame s 1 (tieHeartbeat s none)
      .next (fillSlot (tieNs f + replyNs) 4 (tiePut f s))

/-- The reply of the side that does not own the slots, and what it may send after it; a frame that is discarded counts as absent and
has none (R223, R225). -/
def tieReply (frame : TieFrame) (s : State) : State :=
  if slotOwner s || !tieMay s || sysStopped s || (tieParse s frame).isNone then s
  else fillSlot (tieNs frame + replyNs) 2 (tiePut (tieFrame s 1 (tieHeartbeat s none)) s)

/-- The bytes of a pair frame on TIE. -/
def lineOf : PairFrame → TieFrame
  | .tie b => b
  | .net _ => []

/-- TIE_HEARTBEAT (R224, R228): the step the other side holds, leader-only samples for a hot partner, contact for a cold
pair; a sleeping partner aligns to its leader (R88). -/
def execTieHeartbeat (t : Nat) (x : PairFrame) (s : State) : Result :=
  let work (h : TieHead) (s : State) : State :=
    let held := ofBe (slice 0 4 h.payload)
    let stamp := ofBe (slice 4 8 h.payload)
    let samples := h.payload.drop 12
    if inMode .slumber s then
      (match s.sleep.window with
       | some (a, b) =>
         if s.start.left == some .partner && decide (a ≤ s.gptp.time) && decide (s.gptp.time ≤ b) then
           { s with
             gptp := { s.gptp with time := stamp % 2 ^ 64, frac := 0 }
             sleep := { s.sleep with beaconAt := nextInstant stamp (offset s) (8 * sec1), missed := 0, got := true } }
         else s
       | none => s)
    else
      let s := { s with red := { s.red with replyHeld := held } }
      if inMode .partner s && hotRole (role s) && s.red.state != .detached && !samples.isEmpty then
        { s with red := { s.red with leaderOnly := appendQuarter s.red.leaderOnly (leaderOnlyRead s samples) } }
      else s
  .next (tieReply (lineOf x) (receivePair x 1 work (s.upTo t)))

/-- The inputs of a closed step kept for the contexts, and the window that takes them opened (R216, R348). -/
def partnerWindow (info : BlockInfo) (c : Closed) (s : State) : State :=
  contextWindow { s with thr := (keepInputs (stepState info c s)).thr }

/-- What a joining partner records of a step in the record ring of its Silo: its block frame and its inputs, each record behind its
length (R221, R381, log entry 140). -/
def stepRecord (info : BlockInfo) (c : Closed) (s : State) : List Byte :=
  let b := blockPayload info ++ inputBytes (stepState info c s)
  le 4 b.length ++ b

/-- A step recorded; a resync that outruns the ring starts again, with F520 cause 3 (R221). -/
def recordStep (info : BlockInfo) (c : Closed) (s : State) : State :=
  let b := stepRecord info c s
  let at_ := ringAddr (loaded s) + s.red.ringUsed
  if at_ + b.length ≤ s.mem.psramMiB * 1048576 then
    siloWrite 3 9 at_ b.length { s with
      mem := { s.mem with psram := pokes 0#8 s.mem.psram at_ b }, red := { s.red with ringUsed := s.red.ringUsed + b.length } }
  else startResync (raise 0xF520#16 0 (be 1 3 ++ be 4 info.step) s)

/-- A step of a hot partner whose block frame and whose own inputs are both at hand (R217): a joining partner records it, one in step
computes it; the present block's stamp follows from the leader's. -/
def takeStep (info : BlockInfo) (c : Closed) (s : State) : State :=
  if s.red.state == .joining then
    let t := recordStep info c (joinClosed info c s)
    if t.red.ringUsed = 0 then t else partnerWindow info c t
  else
    let s := partnerWindow info c (runClosed info c s)
    let len := thisLen s * 1000000000 / s.well.rate
    if s.blocks.number = info.step + 1 then { s with blocks := { s.blocks with stamp := info.stamp + len } } else s

/-- The step whose block frame is held taken, once the device has closed it (R217). -/
def takeHeld (s : State) : State :=
  if !inMode .partner s || (s.red.state != .joining && s.red.state != .inStep) then s
  else
    match s.red.held with
    | some info =>
      (match s.red.closed.find? (fun c => c.number == info.step) with
       | some c => takeStep info c s
       | none => s)
    | none => s

/-- TIE_BLOCK (R217 to R220): the partner holds step n. A joining one records the step, one in step computes it, each once it has closed
the step itself; until then the frame is held. -/
def execTieBlock (t : Nat) (b : TieFrame) (s : State) : Result :=
  let work (h : TieHead) (s : State) : State :=
    if !inMode .partner s then s
    else takeHeld { s with red := { s.red with held := some (blockRead s h.payload) } }
  .next (tieReply b (receivePair (.tie b) 2 work (s.upTo t)))

/-- BLOCK_FRAME_TIMEOUT (R217, R220): 500 µs after a close no block frame is held. The step's inputs stay, for a takeover to send what
the step owes (R233). -/
def execBlockFrameTimeout (s : State) : Result :=
  match s.red.closeAt with
  | some c =>
    let s := s.upTo (c + 500000)
    .next (leaveStep 4 (stepNow s - 1) { s with red := { s.red with closeAt := none } })
  | none => .next s

/-- TIE_DOWN (R225): four consecutive missed slots; F521, and F510 at a leader. A partner becomes detached at the next
boundary (Table 10.2). -/
def execTieDown (s : State) : Result :=
  if hotRole (role s) && s.red.contact && decide (4 ≤ s.red.missed) && !s.red.tieDown then
    .next (loseContact (raise 0xF521#16 0 [0#8] { s with red := { s.red with tieDown := true } }))
  else .next s

/-- TIE_COLLISION (R226): both drivers stop; the side with flag [0] retransmits after 2 µs of idle line, the other after that
frame and 1 µs; where both or neither have it, the lower node address goes first. -/
def execTieCollision (t : Nat) (s : State) : Result :=
  let s := s.upTo t
  match s.red.tie.frames.getLast? with
  | none => .next s
  | some f =>
    if !tieMay s then .next s
    else
      let peer := s.red.pair.elim 0 (·.node.toNat)
      let lead := actsLeader s
      let first := if lead != s.red.peerLeader then lead else decide (node s < peer)
      let rest := s.red.tie.frames.dropLast
      if first then
        let s := s.upTo (t + 2000)
        .next { s with red := { s.red with tie := { frames := rest ++ [f], retry := none, resumeNs := 2000 } } }
      else .next { s with red := { s.red with tie := { frames := rest, retry := some f, resumeNs := 1000 } } }

/-! ### Checkpoints and resync -/

/-- TIE_CHECKPOINT_CHUNK (R229): a chunk written, under the checkpoint tags, into the buffer that does not hold the newest complete
checkpoint; a chunk of another length begins a new one. -/
def execTieCheckpointChunk (t : Nat) (x : PairFrame) (s : State) : Result :=
  let work (h : TieHead) (s : State) : State :=
    let off := ofBe (slice 0 4 h.payload)
    let total := ofBe (slice 4 4 h.payload)
    let data := (h.payload.drop 8).take 1024
    if !inMode .partner s || ckptMax (loaded s) < total || off % 1024 != 0 || total < off + data.length then s
    else
      let old := if s.red.rxCkpt.total = total && off != 0 then s.red.rxCkpt else { total := total }
      let at_ := ckptAddr (loaded s) (fillBuffer s) + off
      siloWrite 2 8 at_ data.length { s with
        red := { s.red with rxCkpt := { old with got := off :: old.got.filter (· != off) } }
        mem := { s.mem with psram := pokes 0#8 s.mem.psram at_ data } }
  .next (receivePair x 3 work (s.upTo t))

/-- RESYNC_REQUEST (R221): request code 1; the leader takes a checkpoint at its next sheaf boundary. -/
def execResyncRequest (t : Nat) (x : PairFrame) (s : State) : Result :=
  let work (h : TieHead) (s : State) : State :=
    if h.payload.take 1 == [1#8] && inMode .leader s && s.blocks.running then
      { s with red := { s.red with ckptDue := true } }
    else s
  .next (receivePair x 4 work (s.upTo t))

/-- A boundary at which a sheaf ends and the next begins: of the lowest-numbered context in use; where none is in use, any block
boundary (R221, R229, R346, log entry 142). The block that begins there has only just begun. -/
def sheafBoundary (s : State) : Bool :=
  s.blocks.lastAt == s.gptp.time
    && (loaded s).head?.all (fun d => decide (((s.blocks.number : Int) - (d.phase : Int)) % (d.len : Int) = 0))

/-- A checkpoint taken now and put in the way of its chunks: on TIE as slots have room, or as partner frames at once. -/
def takeCheckpoint (s : State) : State :=
  let img := checkpointOf s
  let s := { s with red := { s.red with ckptDue := false } }
  if coldRole (role s) then
    (List.range ((img.length + 1023) / 1024)).foldl (fun (s : State) i =>
      sendPartner 0 (tieFrame s 3 (chunkPayload img (1024 * i))) s) s
  else { s with red := { s.red with sending := some img, sendOff := 0 } }

/-- CHECKPOINT_TAKE (R229, R221): at the first sheaf boundary after each instant 500 ms past the tenant's second, a leader in
contact with its cold partner takes a checkpoint and sends it; a hot leader that was asked takes one too. -/
def execCheckpointTake (t : Nat) (s : State) : Result :=
  let s := s.upTo t
  if !inMode .leader s || !s.blocks.running || !s.red.contact || !sheafBoundary s then .next s
  else if coldRole (role s) then
    (if s.red.ckptNext ≤ s.gptp.time then
      .next (takeCheckpoint { s with red := { s.red with ckptNext := nextInstant s.gptp.time (offset s + 500 * ms1) sec1 } })
     else .next s)
  else .next (if s.red.ckptDue then takeCheckpoint s else s)

/-- CHECKPOINT_COMPLETE (R229, R231, R221, R421): every chunk is there, every write of them has returned its response, and the CRC
checks. A checkpoint that fits becomes current,
and a joining hot partner restores it; another is refused with F520 cause 2, and a hot partner stays detached. -/
def execCheckpointComplete (t : Nat) (s : State) : Result :=
  let s := s.upTo t
  let buf := fillBuffer s
  let b := ckptBytes s buf s.red.rxCkpt.total
  if !inMode .partner s || !ckptWhole s.red.rxCkpt || !siloWritten 2 8 s || !ckptIntact b then .next s
  else
    let s := { s with red := { s.red with rxCkpt := {} } }
    if ckptFits s b then
      let s := { s with red := { s.red with current := some b.length, currentB := buf, ckptAt := s.now } }
      let s := if anyActive 0xF530#16 s then clearAll 0xF530#16 s else s
      .next (if hotRole (role s) && s.red.state == .joining then restoreCkpt b s else s)
    else
      let s := raise 0xF520#16 0 (be 1 2 ++ be 4 (leAt b 12 4)) s
      .next (if hotRole (role s) then { s with red := { s.red with state := .detached, resyncAt := none } } else s)

/-- RESYNC_REPLAY_COMPLETE (R221): replay has reached the present step; the partner is in step from the next boundary on. -/
def execResyncReplayComplete (t : Nat) (s : State) : Result :=
  let s := s.upTo t
  .next (if inMode .partner s && s.red.state == .joining && s.red.current.isSome && s.red.resyncAt.isSome then
    let s := replayAll s
    { s with red := { s.red with replayed := true } }
  else s)

/-- RESYNC_TIMEOUT (R221): 10 s after its request a resync is not in step; F520 cause 3, and a new request. -/
def execResyncTimeout (s : State) : Result :=
  match s.red.resyncAt with
  | some r =>
    if s.red.state != .joining then .next s
    else
      let s := s.upTo (r + 10 * sec1)
      .next (startResync (raise 0xF520#16 0 (be 1 3 ++ be 4 (stepNow s)) s))
  | none => .next s

/-- CHECKPOINT_STALE_TIMEOUT (R229): 3 s without a complete checkpoint; F530 with the seconds since the last. -/
def execCheckpointStaleTimeout (s : State) : Result :=
  if inMode .partner s && coldRole (role s) && !anyActive 0xF530#16 s then
    let s := s.upTo (s.red.ckptAt + 3 * sec1)
    .next (raise 0xF530#16 0 (be 2 (sat16 ((s.now - s.red.ckptAt) / sec1))) s)
  else .next s

/-! ### Cold pairs -/

/-- PARTNER_HEARTBEAT_SEND (R228): every 10 ms, the partner's side 1 ms after the leader's. -/
def execPartnerHeartbeatSend (s : State) : Result :=
  if coldRole (role s) && s.red.pair.isSome && s.start.tRun.isSome && (inMode .leader s || inMode .partner s) then
    let s := s.upToDevice s.red.hbNext
    let late := if slotOwner s then 0 else ms1
    let s := sendPartner 3 (tieFrame s 1 (tieHeartbeat s none)) s
    .next { s with red := { s.red with hbNext := nextInstant s.gptp.time (offset s + 5 * ms1 + late) (10 * ms1) } }
  else .next s

/-- PARTNER_CONTACT_TIMEOUT (R228): 50 ms without a partner heartbeat end contact. -/
def execPartnerContactTimeout (s : State) : Result :=
  if coldRole (role s) && s.red.contact then .next (loseContact (s.upTo (s.red.hbAt + 50 * ms1))) else .next s

/-- PARTNER_CONTACT_DEADLINE (R242): at t_run + 10 s a device of a pair has never been in contact; F510. -/
def execPartnerContactDeadline (s : State) : Result :=
  match s.start.tRun with
  | some r =>
    if pairRole (role s) && !s.red.everContact && (inMode .leader s || inMode .partner s) then
      let s := s.upTo (r + 10 * sec1)
      .next (raise 0xF510#16 0 [if hotRole (role s) then 0#8 else 1#8, 0#8] s)
    else .next s
  | none => .next s

/-! ### Loss and takeover -/

/-- LEADER_LOST (R232): for 1 ms in a hot pair, 50 ms in a cold one, nothing has come from the leader on TIE, as a partner
frame, or through the switch; the takeover falls on the next boundary. -/
def execLeaderLost (s : State) : Result :=
  match s.start.tRun with
  | some r =>
    if inMode .partner s && s.red.pair.isSome && pairRole (role s) && s.red.wakeAnswer.isNone && !s.red.leaderLost then
      let window := if hotRole (role s) then ms1 else 50 * ms1
      let s := s.upTo (max r (max s.red.lastFrame s.red.lastSeen) + window)
      .next (makeDue .takeover { s with red := { s.red with leaderLost := true } })
    else .next s
  | none => .next s

/-- CHECKPOINT_RESTORE_COMPLETE (R233, R234): the cold takeover's checkpoint is restored; the data path starts at the next
boundary. -/
def execCheckpointRestoreComplete (t : Nat) (s : State) : Result :=
  let s := s.upTo t
  if !s.red.restoring then .next s
  else
    let s := match s.red.current with
      | some n => restoreCkpt (ckptBytes s s.red.currentB n) s
      | none => s
    .next { s with red := { s.red with restoring := false, startData := true } }

/-! ### Take-back -/

/-- The take-back request for the step the rule names (R238). -/
def requestTakeBack (s : State) : State :=
  let b := stepNow s + (if hotRole (role s) then 8 else 100)
  ask 2 b { s with red := { s.red with takeBackB := some b, takeAccepted := false, takeCommit := false, takeNums := none
                                       takeRetry := none } }

/-- The conditions of R237 but the 5 s. -/
def mayTakeBack (r : Nat) (s : State) : Bool :=
  inMode .partner s && (role s == 5 || role s == 6) && s.red.takeBackB.isNone
    && (if hotRole (role s) then s.red.state == .inStep else s.red.current.isSome && decide (r ≤ s.red.ckptAt))

/-- TAKE_BACK_ELIGIBLE (R237, R238): 5 s after t_run, in step or with a complete checkpoint, the strapped leader asks. -/
def execTakeBackEligible (s : State) : Result :=
  match s.start.tRun with
  | some r => if mayTakeBack r s then .next (requestTakeBack (s.upTo (r + 5 * sec1))) else .next s
  | none => .next s

/-- TAKE_BACK_REQUEST (R238, R239): code 2; the acting leader accepts with the step, or in a cold pair with its next program
and CRF numbers at that step. -/
def execTakeBackRequest (t : Nat) (x : PairFrame) (s : State) : Result :=
  let work (h : TieHead) (s : State) : State :=
    let b := ofBe (slice 2 4 h.payload)
    if h.payload.take 1 == [2#8] && inMode .leader s && strappedPartner (role s) && s.blocks.running && decide (s.blocks.number < b) then
      let p := s.streams.program
      let prog := p.seq.toNat + (8 - min 8 p.next) + 8 * (b - s.blocks.number - 1)
      let crf := s.streams.crf.seq.toNat + (if s.streams.crf.next < 8 then 1 else 0) + ((b - 1) / 10 - s.blocks.number / 10)
      let arg := if coldRole (role s) then prog % 65536 * 65536 + crf % 65536 else b
      ask 3 arg { s with red := { s.red with takeBackB := some b, takeCommit := false } }
    else s
  .next (receivePair x 4 work (s.upTo t))

/-- TAKE_BACK_ACCEPTED (R238): code 3 in time; the strapped leader commits. -/
def execTakeBackAccepted (t : Nat) (x : PairFrame) (s : State) : Result :=
  let work (h : TieHead) (s : State) : State :=
    match s.red.takeBackB with
    | some b =>
      let arg := ofBe (slice 2 4 h.payload)
      if h.payload.take 1 == [3#8] && inMode .partner s && !s.red.takeAccepted && decide (s.gptp.time + 2 * ms1 ≤ stepAt s b)
          && (coldRole (role s) || arg == b) then
        ask 4 b { s with red := { s.red with
          takeAccepted := true, takeCommit := true
          takeNums := if coldRole (role s) then some (BitVec.ofNat 16 (arg / 65536), BitVec.ofNat 16 arg) else none } }
      else s
    | none => s
  .next (receivePair x 4 work (s.upTo t))

/-- TAKE_BACK_COMMIT (R238): code 4 before the boundary of step b; a later one is discarded. -/
def execTakeBackCommit (t : Nat) (x : PairFrame) (s : State) : Result :=
  let work (h : TieHead) (s : State) : State :=
    let b := ofBe (slice 2 4 h.payload)
    if h.payload.take 1 == [4#8] && inMode .leader s && s.red.takeBackB == some b && decide (s.blocks.number < b) then
      { s with red := { s.red with takeCommit := true } }
    else s
  .next (receivePair x 4 work (s.upTo t))

/-- TAKE_BACK_RETRY (R238): no code 3 by 2 ms before the boundary; no commit, and the request is repeated 1 s later. -/
def execTakeBackRetry (s : State) : Result :=
  match s.red.takeBackB with
  | some b =>
    if inMode .partner s && !s.red.takeAccepted then
      let s := (s.upToDevice (stepAt s b - 2 * ms1))
      .next (requestTakeBack (s.upTo (s.now + sec1)))
    else .next s
  | none => .next s

/-- TAKE_BACK_RELEASE (R28, R239, R240): the acting leader of a cold take-back is to stop its streams and enter PARTNER at the
boundary 20 ms after step b; half a block before that boundary the yield is made due for it (log entry 143). -/
def execTakeBackRelease (s : State) : Result :=
  match s.red.releaseAt, s.red.pair with
  | some d, some r =>
    let s := s.upToDevice (d - 500000)
    .next (if yieldDue s then s else makeDue (.yield_ r.node) s)
  | _, _ => .next s

/-! ### SLUMBER of a pair (R83, R88) -/

/-- SLUMBER_PROPOSAL (R82, R83): code 5; a partner with SP_ROLE 7 or 8 that runs, and is not in a resync, agrees and enters at
the boundary named; any other device refuses. -/
def execSlumberProposal (t : Nat) (x : PairFrame) (s : State) : Result :=
  let work (h : TieHead) (s : State) : State :=
    if h.payload.take 1 == [5#8] && powered s then
      (if partnerMay s && s.red.state != .joining then
        ask 6 1 { s with sleep := { s.sleep with entryB := some (ofBe (slice 2 4 h.payload)) } }
       else ask 6 0 s)
    else s
  .next (receivePair x 4 work (s.upTo t))

/-- SLUMBER_ANSWER (R83): code 6; agreed, both enter at the proposed boundary; refused, neither does. -/
def execSlumberAnswer (t : Nat) (x : PairFrame) (s : State) : Result :=
  let work (h : TieHead) (s : State) : State :=
    if h.payload.take 1 == [6#8] && inMode .leader s && s.red.proposed.isSome then
      (if ofBe (slice 2 4 h.payload) = 1 then
        { s with sleep := { s.sleep with entryB := s.red.proposed }, red := { s.red with proposed := none } }
       else { s with sleep := { s.sleep with condAt := none, entryB := none }, red := { s.red with proposed := none } })
    else s
  .next (receivePair x 4 work (s.upTo t))

end Sys2Proof.Machine
end

