-- ==== Sys2Proof/Machine/Endurance.lean ====
section
/-! DEFINITION. SRAM error correction and row repair; oscillator aging (chapter 23). -/

namespace Sys2Proof.Machine

open Sys2Proof

/-! ### Rows and spares (R504, R507, R512) -/

/-- Memory number of the details: 0 buffer SRAM, 1 loft (Table 23.7). -/
def memCode (loft : Bool) : Nat := if loft then 1 else 0

/-- First byte of a row within its memory (R504). -/
def rowBase (bank row : Nat) : Nat := bank * 0x40000 + row * 0x400

/-- Spare rows of a bank in use or being filled. -/
def sparesIn (e : Endurance) (loft : Bool) (bank : Nat) : Nat :=
  ((e.map ++ e.repairs).filter (fun r => r.loft == loft && r.bank == bank)).length

/-- Whether a bank exists: 8 of buffer SRAM, 16 of the loft. -/
def bankExists (loft : Bool) (bank : Nat) : Bool := loft || decide (bank < 8)

/-- Whether a layer's weight block touches a loft row (R508). -/
def layerTouches (bank row : Nat) (d : LayerDesc) : Bool :=
  let a := rowBase bank row
  decide (a < 0x10000 + d.off + d.len) && decide (0x10000 + d.off < a + 1024)

/-- Whether a context's weights touch a loft row; the rows of the ROM plant models belong to context 15. -/
def ctxTouches (s : State) (k : Fin 16) (bank row : Nat) : Bool :=
  if k.val = 15 then bank == 0 && decide (row < 64)
  else s.thr.ctxs[k].desc.any (fun d => d.layers.any (layerTouches bank row))

/-- Whether an uncorrectable loft word stops every job of a context (Table 23.4). -/
def jobBlocked (s : State) (k : Fin 16) : Bool :=
  s.endur.bad.any (fun b => b.1 && ctxTouches s k b.2.1 b.2.2.1)

/-- Contexts idle until reset, their points without a model (R510). -/
def idleContexts (bank row : Nat) (s : State) : State :=
  let l := (List.finRange 16).filter (fun k => ctxTouches s k bank row)
  { s with
    endur := { s.endur with idleCtx := s.endur.idleCtx ++ l.map (·.val) }
    thr := { s.thr with ctxs := Vector.ofFn (fun k : Fin 16 => if l.contains k then {} else s.thr.ctxs[k]) } }

/-- Whether a loft row can be filled: from mask ROM, or from the active slot with the flash there (R510). -/
def canFill (s : State) (bank row : Nat) : Bool :=
  (bank == 0 && decide (row < 64)) || (!s.mem.flashAbsent && s.gran.active.isSome)

/-- A remap decided: F902 with no spare left, else the repair starts; a loft row that cannot be filled ends with outcome 2
at once, and its contexts go idle at the next boundary (R28, R507, R509, R510, R512). A row whose repair is under way needs no
second one. -/
def decideRemap (loft : Bool) (bank row : Nat) (s : State) : State :=
  let used := sparesIn s.endur loft bank
  let kind := if loft then 2 else 1
  let et := s.gptp.time
  if s.endur.repairs.any (fun r => r.loft == loft && r.bank == bank && r.row == row) then s
  else if 32 ≤ used then
    makeDue (.safe 0xF902#16) (raise 0xF902#16 0 (be 1 (memCode loft) ++ be 1 bank ++ be 2 row) s)
  else
    let left := 31 - used
    let s := repairEvent et kind bank row left 0 s
    if loft && !canFill s bank row then makeDue (.idle bank row) (repairEvent et kind bank row (left + 1) 2 s)
    else
      { s with endur := { s.endur with
        repairs := s.endur.repairs ++ [{ loft := loft, bank := bank, row := row, spare := used }] } }

/-- A day in ns. -/
def dayNs : Nat := 86400 * sec1

/-- The tracking entry of a row within its 24 h, if any. -/
def trackOf (s : State) (loft : Bool) (bank row : Nat) : Option RowTrack :=
  s.endur.tracks.find? (fun x => x.loft == loft && x.bank == bank && x.row == row && decide (s.now < x.first + dayNs))

/-- The tracked rows with one more, the one with the oldest first error evicted for a 65th (R507). -/
def addTrack (now : Nat) (x : RowTrack) (l : List RowTrack) : List RowTrack :=
  let live := l.filter (fun y => decide (now < y.first + dayNs) && !(y.loft == x.loft && y.bank == x.bank && y.row == x.row))
  (live ++ [x]).drop (live.length + 1 - 64)

/-- A corrected error of a row counted; the second within 24 h raises F900 and decides a remap (R505, R507). -/
def countCorrected (loft : Bool) (bank row : Nat) (s : State) : State :=
  let c := s.status.sec
  let s := { s with status := { s.status with sec := { c with sram := sat16 (c.sram + 1) } } }
  match trackOf s loft bank row with
  | some x =>
    let n := x.count + 1
    let up (y : RowTrack) : RowTrack := if y == x then { y with count := n } else y
    let s := { s with endur := { s.endur with tracks := s.endur.tracks.map up } }
    if n = 2 then
      decideRemap loft bank row (raise 0xF900#16 0 (be 1 (memCode loft) ++ be 1 bank ++ be 2 row ++ be 1 n) s)
    else s
  | none =>
    { s with endur := { s.endur with
      tracks := addTrack s.now { loft := loft, bank := bank, row := row, first := s.now, count := 1 } s.endur.tracks } }

/-! ### Uncorrectable words (R508, Table 23.4) -/

/-- The row of Table 23.4 a word's content is, counted from 0. -/
def contentCode (loft : Bool) (bank row : Nat) : SramContent → Nat
  | .samples _ => 0
  | .clip _ => 1
  | .talker _ => 2
  | .received => 3
  | .staging _ => 4
  | .fumarole _ _ | .tie => 5
  | .loft => if loft && !(bank == 0 && decide (row < 64)) then 6 else 7
  | .control => 8

/-- An element of a list changed. -/
def atIndex {α : Type} (i : Nat) (f : α → α) (l : List α) : List α :=
  l.zipIdx.map (fun x => if x.2 = i then f x.1 else x.1)

/-- Digital zero, marked as concealment. -/
def lostSample (_ : Sample) : Sample := { v := 0, c := true }

/-- One sample lost where it stands. -/
def loseSample (s : State) : SampleAt → State
  | .tdm p i j =>
    let t := s.tdm[p]
    setTdm p { t with got := atIndex i (atIndex j lostSample) t.got } s
  | .mic m i => { s with blocks := { s.blocks with mic := atIndex m (atIndex i lostSample) s.blocks.mic } }
  | .usb i ch => { s with usb := { s.usb with got := atIndex i (atIndex ch lostSample) s.usb.got } }
  | .output k i =>
    let f (o : OutBlock) : OutBlock := { o with samples := atIndex i lostSample o.samples }
    { s with routing := { s.routing with outputs := atIndex k f s.routing.outputs } }
  | .playout k pos ch =>
    let f (x : RxStream) : RxStream := { x with ready := atIndex pos (atIndex ch lostSample) x.ready }
    { s with streams := { s.streams with rx := atIndex k f s.streams.rx } }

/-- One sample of the clip mix lost: zero, not marked. -/
def loseClip (s : State) (x : Nat × Nat × Bool) : State :=
  let zero : Int → Int := fun _ => 0
  let f (b : List Int × List Int) : List Int × List Int :=
    if x.2.2 then (b.1, atIndex x.2.1 zero b.2) else (atIndex x.2.1 zero b.1, b.2)
  { s with clips := { s.clips with ahead := atIndex x.1 f s.clips.ahead } }

/-- A talker frame taken out of every queue it waits in. -/
def dropTalker (f : NetFrame) (s : State) : State :=
  let out (p : Port) : Port := { p with classA := p.classA.filter (· != f), best := p.best.filter (· != f) }
  { s with ports := s.ports.map out, streams := { s.streams with stall := s.streams.stall.filter (fun x => x.2 != f) } }

/-- A frame of a path's queue dropped. -/
def dropFumarole (path : FPath) (k : Nat) (s : State) : State :=
  let cut (p : FuPath) : FuPath :=
    { p with queue := (p.queue.zipIdx.filter (fun x => x.2 != k)).map (·.1), spent := if k = 0 then 0 else p.spent }
  let st := s.status
  { s with status := match path with
    | .stat => { st with stat := cut st.stat }
    | .bpo0 => { st with bpo := st.bpo.set 0 (cut st.bpo[0]) }
    | .bpo1 => { st with bpo := st.bpo.set 1 (cut st.bpo[1]) }
    | .bpo2 => { st with bpo := st.bpo.set 2 (cut st.bpo[2]) }
    | .bpo3 => { st with bpo := st.bpo.set 3 (cut st.bpo[3]) }
    | .net => { st with net := cut st.net } }

/-- What an uncorrectable word does to its content. -/
def loseContent (what : SramContent) (s : State) : State :=
  match what with
  | .samples l => l.foldl loseSample s
  | .clip l => l.foldl loseClip s
  | .talker f => dropTalker f s
  | .received =>
    let c := s.status.sec
    { s with status := { s.status with sec := { c with lost := sat16 (c.lost + 1) } } }
  | .staging k =>
    { s with thr := { s.thr with jobs := s.thr.jobs.map (fun j => if j.ctx == k.val && !j.done then { j with h0 := none } else j) } }
  | .fumarole p k => dropFumarole p k s
  | .tie => { s with red := { s.red with tie := { s.red.tie with frames := s.red.tie.frames.drop 1, retry := none } } }
  | .loft => s
  | .control => watchdogReset .watchdog 0xFF10#16 [] s

/-! ### The switch of the map at a boundary (R509 to R512) -/

/-- Order of remaps at one boundary: buffer before loft, then bank, then row (R511). -/
def repairKey (r : RowMap) : Nat := memCode r.loft * 65536 + r.bank * 256 + r.row

/-- A repair put into a list in that order. -/
def insertRepair (r : RowMap) : List RowMap → List RowMap
  | [] => [r]
  | x :: l => if repairKey r ≤ repairKey x then r :: x :: l else x :: insertRepair r l

/-- The content of a row after its switch: a loft row of the weight section as the model set has it; in buffer SRAM every
uncorrectable word zero. -/
def rowContent (r : RowMap) (s : State) : State :=
  let base := rowBase r.bank r.row
  if r.loft then
    match modelBytes s with
    | some ms =>
      let w := slice (weightOff ms) (leAt ms 16 4) ms
      if 0x10000 ≤ base then
        { s with mem := { s.mem with loft := pokes 0#8 s.mem.loft base (slice (base - 0x10000) 1024 w) } }
      else s
    | none => s
  else
    let words := s.endur.bad.filter (fun b => !b.1 && b.2.1 == r.bank && b.2.2.1 == r.row)
    { s with mem := { s.mem with
      sram := words.foldl (fun m b => pokes 0#8 m (base + 8 * b.2.2.2) (List.replicate 8 0#8)) s.mem.sram } }

/-- One remap switches: FD00 and its repair event, and FD20 for the bank's last spare. -/
def switchRow (et : Nat) (s : State) (r : RowMap) : State :=
  let left := 31 - r.spare
  let s := rowContent r s
  let same (l : Bool) (b w : Nat) : Bool := l == r.loft && b == r.bank && w == r.row
  let s := { s with endur := { s.endur with
    repairs := s.endur.repairs.filter (· != r)
    map := r :: s.endur.map
    bad := s.endur.bad.filter (fun b => !same b.1 b.2.1 b.2.2.1)
    tracks := s.endur.tracks.filter (fun x => !same x.loft x.bank x.row) } }
  let d := be 1 (memCode r.loft) ++ be 1 r.bank ++ be 2 r.row ++ be 1 r.spare ++ be 1 left
  let s := repairEvent et (if r.loft then 2 else 1) r.bank r.row left 1 (raiseAt et 0xFD00#16 0 d s)
  if left = 0 then raiseAt et 0xFD20#16 (memCode r.loft * 16 + r.bank) (be 1 (memCode r.loft) ++ be 1 r.bank) s else s

/-- Every remap that was ready before a boundary at `t` switches there, in the order of R511. -/
def switchRows (t et : Nat) (s : State) : State :=
  let l := (s.endur.repairs.filter (fun r => r.readyAt.any (fun a => decide (a < t)))).foldr insertRepair []
  l.foldl (switchRow et) s

/-! ### Aging (R516, R517) -/

/-- A day point from the accumulator of 64 windows or more, the 33rd displacing the oldest (R516). -/
def closeDay (s : State) : State :=
  let e := s.endur
  let pts := if 64 ≤ e.accCount then
      let p : DayPoint := { day := s.gran.hours / 24, dco := e.accDco / (e.accCount : Int)
                            temp := 1000 * e.accTemp / (e.accCount : Int), tcxo := s.well.tcxo }
      (e.points ++ [p]).drop (e.points.length + 1 - 32)
    else e.points
  { s with endur := { e with points := pts, accDco := 0, accTemp := 0, accCount := 0 } }

/-- A list of integers centred about its mean, scaled by its length. -/
def centred (l : List Int) : List Int :=
  let sum := l.foldl (· + ·) 0
  l.map (fun x => x * (l.length : Int) - sum)

/-- The sum of products of two lists. -/
def dot (a b : List Int) : Int := (List.zipWith (· * ·) a b).foldl (· + ·) 0

/-- The largest less the smallest of a list. -/
def spanOf (l : List Int) : Int := l.foldl max (l.headD 0) - l.foldl min (l.headD 0)

/-- A value kept within a magnitude. -/
def within_ (m x : Int) : Int := max (-m) (min m x)

/-- The fit c + a d + k (T - T̄) by least squares: a and k in 2^-48 of the ratio, clamped to 0.02 ppm a day and 2 ppm/K; k
only where the temperatures span 5 °C (R516). -/
def fitPoints (l : List DayPoint) : Int × Int :=
  let d := centred (l.map (fun p => (p.day : Int)))
  let t := centred (l.map (·.temp))
  let y := centred (l.map (·.dco))
  let det := dot d d * dot t t - dot d t * dot d t
  let r := if 5000 ≤ spanOf (l.map (·.temp)) ∧ det ≠ 0 then
      ((dot d y * dot t t - dot t y * dot d t) * 65536 / det, (dot t y * dot d d - dot d y * dot d t) * 65536000 / det)
    else if dot d d = 0 then (0, 0) else (dot d y * 65536 / dot d d, 0)
  (within_ 5629499 r.1, within_ 562949953 r.2)

/-- The model refitted at a new point (R516). -/
def refit (s : State) : State :=
  let l := s.endur.points
  if 8 ≤ l.length ∧ 7 ≤ spanOf (l.map (fun p => (p.day : Int))) then
    let f := fitPoints l
    { s with endur := { s.endur with fitA := f.1, fitK := f.2, valid := true } }
  else s

end Sys2Proof.Machine
end

