-- ==== Sys2Proof/Machine/Granary.lean ====
section
/-! DEFINITION. Verification at start, writing of slots, healing, fetching, refresh (chapter 20). -/

namespace Sys2Proof.Machine

open Sys2Proof

/-! ### Slots -/

/-- What is known of a slot. -/
def slotInfo (s : State) (b : Bool) : SlotInfo := if b then s.gran.slotB else s.gran.slotA

/-- A slot's record changed. -/
def setSlot (b : Bool) (i : SlotInfo) (s : State) : State :=
  { s with gran := if b then { s.gran with slotB := i } else { s.gran with slotA := i } }

/-- A header that can be read: its magic and format are right. -/
def headReadable (h : List Byte) : Bool := h.take 6 == [0x53#8, 0x4B#8, 0x47#8, 0x49#8, 1#8, 0#8]

/-- The candidate order (R440): the higher edition first, slot A at equal editions, reversed where the counter reads 2. -/
def slotOrder (s : State) : List Bool :=
  let a := slotHead s false
  let b := slotHead s true
  let first := if slotEmpty a then true else if slotEmpty b then false else decide (headEdition a < headEdition b)
  let l := [first, !first]
  if s.aon.failed = 2 then l.reverse else l

/-- The signer of the first image to verify recorded while both records are blank; `spoil` says which programming reads back
spoiled (R266). -/
def recordSigner (h : BitVec 256) (spoil : Bool × Bool) (s : State) : State :=
  if (trusted s).isSome then s
  else
    let put (i : Fin 2) (bad : Bool) (s : State) : State :=
      { s with sec := { s.sec with signers := s.sec.signers.set i (if bad then .spoiled else .valid h) } }
    let a := if s.sec.signers[0] == .blank then put 0 spoil.1 s else s
    if (trusted a).isSome || a.sec.signers[1] != .blank then a else put 1 spoil.2 a

/-- F610: slot, occasion, first four bytes of the offered key's hash. -/
def signerFault (b : Bool) (occasion : Nat) (h : BitVec 256) (s : State) : State :=
  raise 0xF610#16 0 (be 1 (slotUnit b) ++ be 1 occasion ++ be 4 (h.toNat / 2 ^ 224)) s

/-- F200 of a slot: its status, cause, rule and section. -/
def slotFault (b : Bool) (i : SlotInfo) (s : State) : State :=
  raise 0xF200#16 0 (be 1 (slotUnit b) ++ be 1 i.status ++ be 1 i.cause ++ be 1 i.rule ++ be 2 i.index) s

/-- F201: status and cause of both slots. -/
def noImageFault (s : State) : State :=
  raise 0xF201#16 0 (be 1 s.gran.slotA.status ++ be 1 s.gran.slotA.cause ++ be 1 s.gran.slotB.status ++ be 1 s.gran.slotB.cause) s

/-- One candidate checked; the first that verifies becomes the active slot, its signer recorded first where none is. -/
def verifySlot (spoil : Bool × Bool) (s : State) (b : Bool) : State :=
  let i := checkImage s false (slotBase s b)
  let h := signerHash (flashBytes s (slotBase s b) 256)
  let s := setSlot b i s
  let s := if i.status = 4 then signerFault b 0 h s else s
  if i.status = 0 && s.gran.active.isNone then
    let s := recordSigner h spoil s
    { s with gran := { s.gran with active := some b } }
  else s

/-- Both slots verified, with F200 or F201 as R443 has them. -/
def verifyBoth (spoil : Bool × Bool) (s : State) : State :=
  let s := (slotOrder s).foldl (verifySlot spoil) s
  match s.gran.active with
  | some b =>
    let o := slotInfo s (!b)
    if o.status = 0 || o.status = 1 then s else slotFault (!b) o s
  | none => noImageFault s

/-! ### What is due (R449, R451, R453, R456) -/

/-- Powered hours between refreshes. -/
def refreshHours : Nat := 17520

/-- Whether a slot is due for a refresh. -/
def slotDue (s : State) (b : Bool) : Bool :=
  decide (refreshHours ≤ s.gran.hours - (if b then s.gran.writtenB else s.gran.writtenA))

/-- Both slots valid with one identity and edition. -/
def slotsSame (s : State) : Bool :=
  let a := s.gran.slotA
  let b := s.gran.slotB
  a.status == 0 && b.status == 0 && a.identity == b.identity && a.edition == b.edition

/-- The slot a refresh rewrites now, if any. -/
def refreshSlot (s : State) : Option Bool :=
  let free := s.gran.lastRefresh.all (fun h => decide (h + 24 ≤ s.gran.hours))
  match s.gran.active with
  | none => none
  | some act =>
    if !free then none
    else if slotsSame s then [false, true].find? (slotDue s)
    else if slotDue s act then some (!act) else none

/-- A slot write that is due: its source, the slot written, T, identity and edition. -/
def dueWrite (s : State) : Option SlotWrite :=
  let target := match s.gran.active with
    | some b => !b
    | none => false
  let fetch := s.gran.wantFetch.map (fun x =>
    ({ slotB := target, source := .leader, identity := x.1, edition := x.2.1, total := x.2.2 } : SlotWrite))
  let copy (src : SlotSource) (b : Bool) : SlotWrite :=
    let i := slotInfo s (!b)
    { slotB := b, source := src, identity := i.identity, edition := i.edition, total := i.total }
  let heal := match s.gran.active with
    | some b => if within 1 (slotInfo s (!b)).status 4 then some (copy .other (!b)) else none
    | none => none
  if fetch.isSome && !s.gran.wantNew then fetch
  else if heal.isSome then heal
  else if fetch.isSome then fetch
  else (refreshSlot s).map (copy .refresh)

/-! ### Windows of 64 KiB (R448, R454) -/

/-- The sector that holds byte T - 1 of an image. -/
def lastSector (base total : Nat) : Nat := (base + total - 1) / 4096 * 4096

/-- Erases of a window's sectors but the last one of the image, ascending. -/
def windowErases (base total w : Nat) : List FlashOp :=
  let lo := base + w * 65536
  let hi := base + min total ((w + 1) * 65536)
  ((List.range 16).map (fun i => lo + 4096 * i)).filterMap (fun a =>
    if a < hi ∧ a ≠ lastSector base total then some { erase := true, addr := a } else none)

/-- Page programs of bytes at an offset of the image, its last byte, the trailer's marker, left out. -/
def pagePrograms (base total off : Nat) (b : List Byte) : List FlashOp :=
  (List.range ((b.length + 255) / 256)).map (fun i =>
    let o := off + 256 * i
    let d := slice (256 * i) 256 b
    { addr := base + o, data := if o + d.length = total then d.dropLast else d })

/-- Windows of an image. -/
def windowCount (total : Nat) : Nat := (total + 65535) / 65536

/-- Chunks of the present window: their offsets. -/
def windowChunks (w : SlotWrite) : List Nat :=
  ((List.range 64).map (fun i => w.window * 65536 + 1024 * i)).filter (fun o => decide (o < w.total))

/-- Runs of missing chunks: first offset and count. -/
def missingRuns (w : SlotWrite) : List (Nat × Nat) :=
  ((windowChunks w).filter (fun o => !w.got.contains o)).foldl (fun (l : List (Nat × Nat)) (o : Nat) =>
    match l.getLast? with
    | some (a, n) => if a + 1024 * n = o then l.dropLast ++ [(a, n + 1)] else l ++ [(o, 1)]
    | none => [(o, 1)]) []

/-! ### Image frames (R452, Table 20.6) -/

/-- The part common to every image frame. -/
def imageHead (s : State) (kind : Nat) (id : BitVec 32) (edition total : Nat) : List Byte :=
  be 1 kind ++ be 1 (tenant s) ++ be 1 (node s) ++ [0#8] ++ be 4 id.toNat ++ be 2 edition ++ [0#8, 0#8] ++ be 4 total

/-- An image frame sent in the tenant channel. -/
def sendImage (body : List Byte) (s : State) : State :=
  match fumaroleNode s with
  | some nn => sendTenant (ownFrame s 7 nn 0 0x88B8#16 body) s
  | none => s

/-- A request for a run of chunks. -/
def sendRequest (w : SlotWrite) (s : State) (r : Nat × Nat) : State :=
  sendImage (imageHead s 2 w.identity w.edition w.total ++ be 4 r.1 ++ be 2 r.2) s

/-- The missing chunks of the present window asked for. -/
def requestMissing (s : State) : State :=
  match s.gran.write with
  | some w =>
    let s := (missingRuns w).foldl (sendRequest w) s
    { s with gran := { s.gran with write := some { w with asked := s.now } } }
  | none => s

/-- The body of an image frame of the own tenant addressed to a node, with its type. -/
def imageBody (s : State) (nn : Option Nat) (kind : Nat) (f : NetFrame) : Option (List Byte) :=
  match f.body with
  | .bytes et b =>
    if et == 0x88B8#16 && dstInRange f.dst && dstKind f.dst == 7 && dstTenant f.dst == tenant s && nn == some (dstNode f.dst)
        && (at8 b 0).toNat == kind && (at8 b 1).toNat == tenant s then some b else none
  | _ => none

/-- Identity, edition and T of an image frame. -/
def imageIds (b : List Byte) : BitVec 32 × Nat × Nat :=
  (BitVec.ofNat 32 (ofBe (slice 4 4 b)), ofBe (slice 8 2 b), ofBe (slice 12 4 b))

/-! ### A slot write (R448) -/

/-- The present window's operations put in line: its erases, and for a copy its programs; a fetch asks for its chunks. -/
def openRange (s : State) : State :=
  match s.gran.write with
  | none => s
  | some w =>
    let base := slotBase s w.slotB
    let erases := windowErases base w.total w.window
    if w.source == .leader then
      requestMissing { s with gran := { s.gran with write := some { w with queue := w.queue ++ erases } } }
    else
      let off := w.window * 65536
      let n := min w.total (off + 65536) - off
      let b := flashBytes s (slotBase s (!w.slotB) + off) n
      { s with gran := { s.gran with write := some { w with queue := w.queue ++ erases ++ pagePrograms base w.total off b } } }

/-- A slot write begins: its repair event, the slot no longer valid, its last sector erased first; a refresh of the active
slot moves the active slot to its source before that (R448, R456). -/
def beginWrite (w : SlotWrite) (s : State) : State :=
  let s := repairEvent s.gptp.time w.source.kind (slotUnit w.slotB) 0 0 0 s
  let s := if s.gran.active == some w.slotB then { s with gran := { s.gran with active := some (!w.slotB) } } else s
  let s := setSlot w.slotB { status := 2, cause := 0, empty := false } s
  let first : FlashOp := { erase := true, addr := lastSector (slotBase s w.slotB) w.total }
  let fetch := w.source == .leader
  let s := { s with gran := { s.gran with
    write := some { w with queue := [first], progress := s.now, asked := s.now }
    wantFetch := if fetch then none else s.gran.wantFetch } }
  issueOp (openRange s)

/-- Whether the present window of a write is programmed. -/
def windowDone (s : State) (w : SlotWrite) : Bool :=
  w.queue.isEmpty && s.mem.op.isNone
    && (w.source != .leader || (windowChunks w).all (fun o => w.got.contains o))

/-- The next window begins once the present one is programmed (R454). -/
def advanceWrite (s : State) : State :=
  match s.gran.write with
  | some w =>
    if windowDone s w && decide (w.window + 1 < windowCount w.total) then
      issueOp (openRange { s with gran := { s.gran with write := some { w with window := w.window + 1, got := [] } } })
    else s
  | none => s

/-- Whether every byte but the marker is programmed. -/
def writeReady (s : State) : Bool :=
  match s.gran.write with
  | some w => windowDone s w && decide (windowCount w.total ≤ w.window + 1)
  | none => false

/-- The fault a failed check gives: F610 for another signer, with F230 where the image was fetched; else F200, or F201 where no
slot is loaded (R443, R448, R453). -/
def checkFault (w : SlotWrite) (i : SlotInfo) (s : State) : State :=
  if i.status = 4 then
    let h := signerHash (flashBytes s (slotBase s w.slotB) 256)
    let s := signerFault w.slotB (if w.source == .leader then 2 else 1) h s
    if w.source == .leader then raise 0xF230#16 0 (be 1 2 ++ be 4 w.identity.toNat) s else s
  else if s.gran.active.isSome then slotFault w.slotB i s
  else noImageFault s

/-- Faults that a healed slot clears (R451, Table 4.9). -/
def healedClears (s : State) : State :=
  [0xF200#16, 0xF610#16, 0xF230#16].foldl (fun (s : State) (c : BitVec 16) => if anyActive c s then clearAll c s else s) s

/-- A slot write completes: the marker, a service record, FD02 or FD03 and the repair event; with no image content its slot is
loaded at the next block boundary (R448, R450). -/
def completeWrite (w : SlotWrite) (i : SlotInfo) (fails : List FlashCause) (s : State) : State :=
  let base := slotBase s w.slotB
  let s := { s with mem := { s.mem with flash := programs s.mem.flash (base + w.total - 1) [0xA5#8] } }
  let s := writeService 2 (slotUnit w.slotB) fails (opGood s)
  let s := setSlot w.slotB i { s with gran := { s.gran with write := none } }
  let refresh := w.source == .refresh
  let d := be 1 (slotUnit w.slotB) ++ be 1 w.source.kind
  let s := if refresh then
      rewriteRecords (raise 0xFD03#16 0 d { s with gran := { s.gran with lastRefresh := some s.gran.hours } })
    else raise 0xFD02#16 0 d s
  let s := repairEvent s.gptp.time w.source.kind (slotUnit w.slotB) 0 0 1 s
  let s := if refresh then s else healedClears s
  if s.gran.active.isNone && !s.gran.loadAt then
    makeDue .slotLoad { s with gran := { s.gran with loadAt := true, loadB := w.slotB } }
  else s

/-- The Silo set up for a new model set while the device runs: context 15 keeps its committed state, in its place of the new layout
(R381, R450). -/
def resetSilo (change : State → State) (s : State) : State :=
  let plant := committedState s 15
  let had := hasState s 15
  let s := setupSilo (change s)
  if had then writeEntry 15 (writeBank 15 plant s) else s

/-- The first completed slot loaded at a block boundary: steps 3 to 5 of R25 for contexts 0 to 14, zero state, profiles and
clip plan, F201 cleared (R450). -/
def slotLoad (s : State) : State :=
  if !s.gran.loadAt then s
  else
    let s := { s with gran := { s.gran with active := some s.gran.loadB, loadAt := false } }
    let s := checkModelRate (loadClips (loadProfiles (loadModels s)))
    let s := resetSilo (fun s => loadLoft (setupContexts s)) s
    if anyActive 0xF201#16 s then clearAll 0xF201#16 s else s

end Sys2Proof.Machine
end

