-- ==== Sys2Proof/Machine/Boundary.lean ====
section
/-! DEFINITION. What the control processor applies at a block boundary: SAFE, role changes, references, repairs, SLUMBER (chapters 1, 3
and 10). -/

namespace Sys2Proof.Machine

open Sys2Proof

/-! ### Role changes -/

/-- A role entered at a boundary: the mode change with its code, gPTP's best master sought afresh, heartbeats rescheduled and the
leader ports set up anew (R96, R172, R300). -/
def enterRole (m : Mode) (code : BitVec 16) (s : State) : State :=
  let s := runBmca (modeChange s.gptp.time m code s)
  let port (p : Fin 2) : TdmPort := if s.tdm[p].leader then tdmFresh s none p else s.tdm[p]
  { s with
    status := { s.status with heartbeatAt := nextHeartbeat s s.gptp.time }
    tdm := #v[port 0, port 1] }

/-- NET selected as a leader at a takeover, where it is in the order and qualified (R233). -/
def takeNet (s : State) : State :=
  if (orderOf s).contains .net && (refState s.well .net).qualified then switchTo s.gptp.time .net false s else s

/-- The numbers a checkpoint holds, or zeros where there is none. -/
def heldNumbers (s : State) : BitVec 16 × BitVec 16 × BitVec 16 :=
  match s.red.current with
  | some n => ckptNumbers (ckptBytes s s.red.currentB n)
  | none => (0#16, 0#16, 0#16)

/-- A takeover (R233, R234): LEADER with F511; in step nothing changes, otherwise the checkpoint is restored and the numbers jump;
a cold partner's data path starts at the boundary after its restore. -/
def takeover (s : State) : State :=
  let et := s.gptp.time
  let kind := if coldRole (role s) then 2 else if s.red.state == .inStep then 0 else 1
  let own := (s.streams.program.seq, s.streams.crf.seq, s.streams.ann.seq)
  let nums :=
    if kind = 0 then own
    else if kind = 1 then jumpNumbers ((s.red.held.map (·.seqs)).getD (heldNumbers s)) s.red.crfSeq
    else jumpNumbers (heldNumbers s) s.red.crfSeq
  let s := enterRole .leader 0xF511#16 s
  let s := raiseAt et 0xF511#16 0 (be 1 kind ++ be 2 nums.1.toNat ++ be 2 (if kind = 0 then 0 else 0x4000)) s
  let s := match kind, s.red.current with
    | 1, some n => restoreCkpt (ckptBytes s s.red.currentB n) s
    | _, _ => s
  let s := if kind = 0 then flushOwn s else setNumbers nums s
  takeNet { s with
    thr := { s.thr with replay := [] }
    red := { s.red with
      state := .detached, leaderLost := false, restoring := kind == 2, startData := false, closed := [], closeAt := none
      leaveStep := none, resyncAt := none, replayed := false, ringUsed := 0, leaderOnly := [], takeBackB := none
      takeAccepted := false, takeCommit := false } }

/-- A device that leaves LEADER for PARTNER: a hot one goes on joining where it has contact, a cold one stops its data path. -/
def leaveLead (s : State) : State :=
  let r := { s.red with
    state := .detached, takeBackB := none, takeAccepted := false, takeCommit := false, current := none, ckptAt := s.now
    lastFrame := s.now, lastSeen := s.now, leaderLost := false, restoring := false, releaseAt := none }
  let stop (x : TxStream) : TxStream := { x with next := 8 }
  let s := { s with
    red := r
    blocks := { s.blocks with running := hotRole (role s) && s.blocks.running }
    streams := { s.streams with program := stop s.streams.program, crf := stop s.streams.crf, ann := stop s.streams.ann } }
  if s.red.contact then contactWork s
  else if coldRole (role s) then { s with red := { s.red with state := .cold } } else s

/-- A yield (R240): PARTNER, and F500, which the yielding itself ends. -/
def yieldRole (leader : BitVec 8) (s : State) : State :=
  let et := s.gptp.time
  let s := enterRole .partner 0xF500#16 s
  let s := raiseAt et 0xF500#16 leader.toNat [leader, 1#8] s
  leaveLead (clear 0xF500#16 leader.toNat s)

/-- The strapped leader takes its role back at step b with F512; in a cold pair it restores its checkpoint and starts its data path
with the numbers of code 3 (R238, R239). The announcement number is the checkpoint's, eight on for each step since. -/
def takeBack (b : Nat) (s : State) : State :=
  let cold := coldRole (role s)
  let et := s.gptp.time
  let s := enterRole .leader 0xF512#16 s
  let s := raiseAt et 0xF512#16 0 (be 1 (if cold then 1 else 0) ++ be 4 b) s
  let nums := s.red.takeNums
  let s := { s with red := { s.red with
    state := .detached, takeBackB := none, takeAccepted := false, takeCommit := false, takeNums := none, leaderLost := false
    closed := [], closeAt := none, startData := false } }
  let s := if cold then s else flushOwn s
  if !cold then s
  else
    match s.red.current with
    | some n =>
      let img := ckptBytes s s.red.currentB n
      let since := b - leAt img 12 4
      let ann := (ckptNumbers img).2.2 + BitVec.ofNat 16 (8 * since)
      let own := nums.getD (0#16, 0#16)
      restoreCkpt img (startPath (some (own.1, own.2, ann)) (restoreCkpt img s))
    | none => startPath none s

/-- The hot acting leader that holds the commit enters PARTNER in step at step b; the cold one lets go of its local outputs for
20 ms more of streams; without a commit neither does anything (R238, R239). -/
def giveBack (s : State) : State :=
  if !s.red.takeCommit then { s with red := { s.red with takeBackB := none } }
  else if coldRole (role s) then
    { s with red := { s.red with takeBackB := none, releaseAt := some (s.blocks.stamp + 20 * ms1) } }
  else
    let s := enterRole .partner 0#16 s
    { s with red := { s.red with
      state := .inStep, takeBackB := none, takeCommit := false, lastFrame := s.now, lastSeen := s.now, current := none } }

/-- The step of a take-back reached (R238). -/
def takeBackStep (s : State) : State :=
  match s.red.takeBackB with
  | some b =>
    if s.blocks.running && s.blocks.number ≠ b then s
    else if !s.blocks.running && stepNow s < b then s
    else if inMode .partner s && strappedLeader (role s) && s.red.takeCommit then takeBack b s
    else if inMode .leader s && strappedPartner (role s) then giveBack s
    else s
  | none => s

/-- A hot partner comes into step: its block number and numbers continue from the newest block frame (R218, R221, R328). -/
def comeInStep (s : State) : State :=
  match s.red.held with
  | some h =>
    let k := (s.blocks.stamp + 500000 - h.stamp) / 1000000
    let m := h.step + k
    let crf := (m + 8) / 10 - (h.step + 8) / 10
    let n := BitVec.ofNat 16 (8 * k)
    setNumbers (h.seqs.1 + n, h.seqs.2.1 + BitVec.ofNat 16 crf, h.seqs.2.2 + n) (admitLike h { s with
      blocks := { s.blocks with number := m }
      red := { s.red with state := .inStep, replayed := false, ringUsed := 0, resyncAt := none } })
  | none => s

/-- The states of a device in PARTNER at a boundary (Table 10.2, R220, R221, R225). -/
def partnerBoundary (s : State) : State :=
  if !hotPartner s then s
  else if s.red.tieDown then
    { s with
      red := { s.red with state := .detached, resyncAt := none, closed := [], closeAt := none, leaveStep := none }
      thr := { s.thr with replay := [] } }
  else if s.red.leaveStep.isSome then startResync s
  else if s.red.state == .joining && s.red.replayed then comeInStep s
  else s

/-- Whether a data path should run: in SOLO, MEMBER, LEADER and a hot PARTNER, but not during a cold restore (R67, R214, R233). -/
def pathRuns (s : State) : Bool :=
  (inMode .solo s || inMode .member s || inMode .leader s || hotPartner s) && !s.red.restoring

/-- A data path that should run started with the block that begins; a restored one keeps the numbers it was given (R72, R233). -/
def pathBoundary (s : State) : State :=
  if s.blocks.running || !pathRuns s then s
  else if s.red.startData then
    let n := (s.streams.program.seq, s.streams.crf.seq, s.streams.ann.seq)
    let voices := s.clips.voices
    let s := startPath (some n) s
    { s with red := { s.red with startData := false }, clips := { s.clips with voices := voices } }
  else startPath none s

/-! ### References, repairs, SAFE -/

/-- A device-time step: device time moves, and synchronisation is lost (R174, R175). -/
def applyStep (e : Int) (s : State) : State :=
  let s := setTime ((s.gptp.time : Int) + e).toNat s
  loseSync { s with blocks := { s.blocks with stamp := s.gptp.time, lastAt := s.gptp.time } }

/-- A Thresher column's remap comes into force (R365). -/
def applyColumn (c : Fin 66) (s : State) : State :=
  let n := s.thr.retired.length
  repairEvent s.gptp.time 3 0 c.val (2 - n) 1 { s with thr := { s.thr with
    columnMap := insertColumn c s.thr.columnMap, remapNext := s.thr.remapNext.filter (· != c) } }

/-- The role changes due at a boundary (R29, second). -/
def applyRole (s : State) (d : Due) : State :=
  match d.what with
  | .takeover => if inMode .partner s && s.red.leaderLost then takeover s else s
  | .yield_ n => if inMode .leader s && strappedPartner (role s) then yieldRole n s else s
  | _ => s

/-- The device-time steps due (R29, third, with R175). -/
def applyTime (s : State) (d : Due) : State :=
  match d.what with
  | .timeStep e => applyStep e s
  | _ => s

/-- The repairs due but the row switches, which have an order of their own (R29, fourth; R365, R450). -/
def applyRepair (s : State) (d : Due) : State :=
  match d.what with
  | .column c => applyColumn c s
  | .slotLoad => slotLoad s
  | .idle bank row => idleContexts bank row s
  | _ => s

/-- The code of a SAFE entry among interventions. -/
def safeDue (l : List Due) : Option (BitVec 16) :=
  l.findSome? (fun d => match d.what with
    | .safe c => some c
    | _ => none)

/-! ### SLUMBER -/

/-- Whether a boundary is free of every other intervention, due, pending or in progress (R29). -/
def boundaryFree (s : State) : Bool :=
  s.blocks.due.isEmpty && s.well.stage == .idle && !s.red.restoring && s.red.takeBackB.isNone && s.red.releaseAt.isNone
    && s.thr.remapNext.isEmpty && s.endur.repairs.isEmpty && !s.gran.loadAt && s.red.leaveStep.isNone && !s.red.leaderLost

/-- Whether an entry into SLUMBER falls on this boundary: one that became ready at this very instant waits for the next (R29,
R83). -/
def slumberDue (s : State) : Bool :=
  (inMode .member s || inMode .leader s || inMode .partner s)
    && ((s.sleep.entryPending && decide (s.sleep.entryAt < s.now)) || s.sleep.entryB.any (fun b => decide (b ≤ stepNow s)))
    && boundaryFree s

/-- Every commit under way completed: the state of the sheaf just finished lies in the Silo (R84). -/
def commitAll (s : State) : State :=
  (List.finRange 16).foldl (fun (s : State) k => if s.thr.ctxs[k].commitDue then writeEntry k.val s else s) s

/-- SLUMBER entered (R84): state committed, the PSRAM in self-refresh, the data path stopped, outputs low. The mode-change frame is
the last one: it joins what the paths still send. gPTP and the references are given up, without a loss of NET (R89). -/
def enterSlumber (s : State) : State :=
  let s := commitAll s
  let next := nextInstant s.gptp.time (offset s) (8 * sec1)
  let left := s.start.mode
  let et := s.gptp.time
  let s := modeSet et .slumber 0#16 (modeFrame et (modeCode left) .slumber 0#16 s)
  let done (x : TxStream) : TxStream := { x with next := 8 }
  refreshLeds { s with
    start := { s.start with left := left }
    status := { s.status with
      bpo := Vector.replicate 4 {}, lines := Vector.replicate 4 {}, bpoOpen := false, heartbeatAt := next, telemetryAt := [], heard := [] }
    well := { s.well with
      mclk := false, locked := false, nextHalf := none, halve := false, histAt := none, windowEnd := none, crfLast := none
      refs := s.well.refs.map (fun x => { x with qualified := false }) }
    gptp := { s.gptp with grandmaster := false, synced := false, good := 0, slavePort := none, okSince := none }
    streams := { s.streams with
      rx := [], stall := ownNotes s.streams.stall, program := done s.streams.program, ret := done s.streams.ret, ann := done s.streams.ann
      crf := done s.streams.crf, nextAdmitted := none }
    routing := { s.routing with outputs := [] }
    red := { s.red with state := .detached, tie := {}, closed := [], closeAt := none, resyncAt := none }
    sec := { s.sec with pairing := {} }
    bpi := s.bpi.map (fun b => { lost := b.lost })
    bpo := Vector.replicate 4 {}
    tdm := s.tdm.map (fun t => { t with qualified := false, outBuf := [], sending := none, inBuf := [], got := [], timer := none, bad := 0 })
    usb := { vbus := s.usb.vbus }
    blocks := { s.blocks with
      running := false, exists_ := false, placed := false, te := none, started := false, due := [], muteEdges := [], mutePrev := []
      pairs := s.blocks.pairs.map AsrcPair.stop }
    thr := { s.thr with jobs := [], replay := [] }
    mem := { s.mem with selfRefresh := true }
    clips := { s.clips with voices := Vector.replicate 16 {}, ahead := [] }
    spk := { s.spk with ch := s.spk.ch.map (fun c => { c with on := false }) }
    motor := { s.motor with driven := false, uMv := 0 }
    sleep := { beaconAt := next, draining := true, enteredAt := s.now } }

/-! ### A boundary -/

/-- The interventions due at a boundary in their order (R29): SAFE alone, or role changes, references, repairs. -/
def intervene (s : State) : State :=
  let due := s.blocks.due.filter (fun d => decide (d.at_ < s.now))
  match safeDue due with
  | some code => enterSafe s.gptp.time code s
  | none =>
    let s := { s with blocks := { s.blocks with due := s.blocks.due.filter (fun d => !decide (d.at_ < s.now)) } }
    let s := partnerBoundary (takeBackStep (due.foldl applyRole s))
    let s := due.foldl applyTime (wellCheck s.now s.gptp.time s)
    due.foldl applyRepair (switchRows s.now s.gptp.time s)

/-- What the control processor reads of the lands and the dies at a boundary (R444, R503). -/
def senseBoundary (x : BoundaryIn) (s : State) : State :=
  { s with
    lands := { s.lands with cue := x.cue, wake := x.wake }
    plant := { s.plant with coreTemp := x.coreTemp, dieTemp := x.plantTemp } }

/-- The biphase user-bit paths open at the first boundary after t_run or SAFE entry (R101). -/
def openPaths (s : State) : State :=
  if s.start.bpoNext then
    { s with start := { s.start with bpoNext := false }, status := { s.status with bpoOpen := true } }
  else s

/-- Context 15's state at hand at the first boundary after t_run of a device whose data path does not start. -/
def firstPlant (s : State) : State :=
  if s.start.bpoNext && plantRuns s then
    { s with thr := { s.thr with ctxs := s.thr.ctxs.set 15 { s.thr.ctxs[(15 : Fin 16)] with h0 := some (committedState s 15) } } }
  else s

/-- A boundary at which blocks exist: the block that ends, the interventions, and the block that begins. -/
def boundary (x : BoundaryIn) (s : State) : State :=
  let s := placeBlock (powerBoundary s.gptp.time (senseBoundary x (endBlock x s)))
  let prior := s.blocks.stamp
  let entry := slumberDue s
  let s := openPaths (firstPlant s)
  if s.start.mode.isNone then wellBlock s
  else if inMode .safe s then bpoBoundary { s with blocks := { s.blocks with due := [] } }
  else
    let s := wellBlock (keyAtBoundary (intervene s))
    if inMode .safe s then bpoBoundary s
    else if entry && s.well.stage == .idle then enterSlumber s
    else takeHeld (beginBlock x prior (pathBoundary s))

end Sys2Proof.Machine
end

