-- ==== Sys2Proof/Machine/CmdBoundary.lean ====
section
/-! DEFINITION. The meanings of the block boundary and of the resumption from SLUMBER (chapters 1 and 3). -/

namespace Sys2Proof.Machine

open Sys2Proof

/-- BLOCK_BOUNDARY (R27 to R29, R327 to R329): blocks exist from the first lock of a start, or of a wake, on; until then only the
NET servo takes its step (R138). -/
def execBlockBoundary (x : BoundaryIn) (s : State) : Result :=
  let s := s.upTo x.t
  if !powered s then .next s
  else if inMode .slumber s then .next (if s.sleep.wakeAt.isSome then wellBlock s else s)
  else if !s.blocks.exists_ then .next (if s.start.base.isSome then wellBlock s else s)
  else .next (pump (boundary x s))

/-- Wellspring at the resumption (R89, R141): holdover from the reference selected before, without a loss, so that no fault is
raised; nothing of the kind where the search had failed, whose references are acquired as at a start (R87). An order of
LOCAL alone never enters holdover and shows state 2, as the edge "Too few" of chapter 6 says beside R89 (log entry 135). -/
def resumeWells (failed : Bool) (s : State) : State :=
  let s := { s with well := { s.well with stage := .idle, mclk := true } }
  if failed then s
  else if orderOf s == [.local] then { s with well := { s.well with holdover := false, locked := true, everLocked := true } }
  else match s.well.selected with
    | some r => enterHoldover false r s
    | none => s

/-- The next pass of the self-check, every 10 min from t_run on: none began in SLUMBER (R363). -/
def nextPass (now at_ : Nat) : Nat := at_ + (now - at_ + 600 * sec1 - 1) / (600 * sec1) * (600 * sec1)

/-- The exit from SLUMBER at a boundary whose block is placed (R29, R89): the mode left entered again with its mode-change frame,
F470 where the search had failed, and a heartbeat; START's boundary has passed, and MUTE_N acts by its level (R337). -/
def exitSlumber (m : Mode) (s : State) : State :=
  let et := s.gptp.time
  let failed := s.sleep.searchFailed
  let s := resumeWells failed { s with
    sleep := { stayAwake := s.sleep.stayAwake, beaconAt := s.sleep.beaconAt, brokenAt := s.now }
    blocks := { s.blocks with startLow := false, releasedAt := some s.now, te := some et, started := true } }
  let s := modeChange et m (if failed then 0xF470#16 else 0#16) s
  let s := if failed then raiseAt et 0xF470#16 0 [] { s with status := { s.status with beaconBack := false } } else s
  let s := reschedule (heartbeat et { s with start := { s.start with left := none, bpoNext := true } })
  let s := { s with
    thr := { s.thr with checkAt := s.thr.checkAt.map (nextPass s.now) }
    status := { s.status with silentFrom := s.now }
    red := { s.red with lastFrame := max s.red.lastFrame s.now, lastSeen := max s.red.lastSeen s.now } }
  if s.red.contact then contactWork s else s

/-- SLUMBER_RESUME (R89): at the first boundary after t_wake + 30 ms, the loft being back, what else is due there comes first and
SAFE alone (R29); then the device leaves SLUMBER and its data path resumes. Blocks are placed and numbered anew (R327, R328). -/
def execSlumberResume (x : BoundaryIn) (s : State) : Result :=
  let s := s.upTo x.t
  match s.sleep.wakeAt, s.start.left with
  | some w, some m =>
    if inMode .slumber s && decide (w + 30 * ms1 < s.now) && (s.sleep.loftBack || s.gran.modelSet.isNone) then
      let s := placeBlock (senseBoundary x { s with blocks := { s.blocks with exists_ := true, placed := false } })
      let s := intervene s
      if inMode .safe s then .next (pump (bpoBoundary { s with start := { s.start with left := none } }))
      else
        let s := openPaths (firstPlant (exitSlumber m s))
        .next (pump (beginBlock x s.blocks.stamp (pathBoundary s)))
    else .next s
  | _, _ => .next s

end Sys2Proof.Machine
end

