-- ==== Sys2Proof/Machine/CmdEndurance.lean ====
section
/-! DEFINITION. The meanings of the endurance commands (chapter 23) and of the powered hour (R429). -/

namespace Sys2Proof.Machine

open Sys2Proof

/-- SRAM_CORRECTED_ERROR (R505, R507): a corrected word is written back and counted for its row. -/
def execSramCorrectedError (t : Nat) (loft : Bool) (bank : Fin 16) (row : Fin 256) (s : State) : Result :=
  let s := s.upTo t
  if !powered s || !bankExists loft bank.val then .next s else .next (countCorrected loft bank.val row.val s)

/-- SRAM_UNCORRECTABLE_ERROR (R507, R508): F901, the content's outcome, and a remap; a loft row stops its contexts' jobs until
then. -/
def execSramUncorrectableError (t : Nat) (loft : Bool) (bank : Fin 16) (row : Fin 256) (word : Fin 128) (what : SramContent)
    (s : State) : Result :=
  let s := s.upTo t
  if !powered s || !bankExists loft bank.val then .next s
  else
    let what := if loft then .loft else what
    let code := contentCode loft bank.val row.val what
    let s := raise 0xF901#16 0 (be 1 (memCode loft) ++ be 1 bank.val ++ be 2 row.val ++ be 1 code) s
    let place := (loft, bank.val, row.val, word.val)
    let s := { s with endur := { s.endur with bad := if s.endur.bad.contains place then s.endur.bad else s.endur.bad ++ [place] } }
    .next (loseContent what (decideRemap loft bank.val row.val s))

/-- SCRUB_PASS (R506): once an hour every row is read; an error it meets is a command of its own. -/
def execScrubPass (s : State) : Result :=
  if powered s then
    let s := s.upTo s.endur.scrubAt
    .next { s with endur := { s.endur with scrubAt := s.endur.scrubAt + 3600 * sec1 } }
  else .next s

/-- A repair under way has its spare's content: its switch waits for the next boundary (R509, R510). -/
def repairReady (loft : Bool) (bank row : Nat) (s : State) : State :=
  let hit (r : RowMap) : Bool := r.loft == loft && r.bank == bank && r.row == row && r.readyAt.isNone
  if s.endur.repairs.any hit then
    makeDue (.rowSwitch loft bank row) { s with endur := { s.endur with
      repairs := s.endur.repairs.map (fun r => if hit r then { r with readyAt := some s.now } else r) } }
  else s

/-- ROW_COPY_COMPLETE (R509). -/
def execRowCopyComplete (t : Nat) (bank : Fin 16) (row : Fin 256) (s : State) : Result :=
  .next (repairReady false bank.val row.val (s.upTo t))

/-- LOFT_ROW_FILL_COMPLETE (R510). -/
def execLoftRowFillComplete (t : Nat) (bank : Fin 16) (row : Fin 256) (s : State) : Result :=
  .next (repairReady true bank.val row.val (s.upTo t))

/-- POWERED_HOUR (R429, R516): the count advances; every 24th hour a service record and the close of the aging day. -/
def execPoweredHour (fails : List FlashCause) (s : State) : Result :=
  let s := s.upTo s.gran.hourAt
  let n := s.gran.hours + 1
  let s := { s with gran := { s.gran with hours := n, hourAt := s.gran.hourAt + 3600 * sec1 } }
  if n % 24 = 0 then
    let s := if powered s then writeService 1 0 fails s else s
    let full := decide (64 ≤ s.endur.accCount)
    let s := closeDay s
    .next (if full then refit s else s)
  else .next s

/-- HOLDOVER_AGING_CORRECTION (R517): once a second in holdover with a valid model, the DCO moves toward the corrected value of
rule 1 of R146. -/
def execHoldoverAgingCorrection (s : State) : Result :=
  if s.well.holdover && s.endur.valid && s.endur.hvRule1 then
    let s := s.upTo s.endur.correctAt
    .next { s with
      endur := { s.endur with correctAt := s.endur.correctAt + sec1 }
      well := { s.well with dcoGoal := dcoClamp (s.endur.hvRaw + agingShift s.endur (dayNow s) (tempNow s)) } }
  else .next s

end Sys2Proof.Machine
end

