-- ==== Sys2Proof/Machine/CmdMemory.lean ====
section
/-! DEFINITION. The meanings of the commands of the memories and of the DMA engine (chapter 19), and of the steps of a start
that use them (R374, R403, R408). -/

namespace Sys2Proof.Machine

open Sys2Proof

/-- Why an attempt found no flash, with the density where it did (R403). -/
def tryFlash (x : FlashTry) : Nat ⊕ Nat :=
  if !x.sfdp then .inl 0
  else if !x.tables then .inl 1
  else if x.mib < 16 then .inl 2
  else if !x.match8 then .inl 4
  else .inr (min 64 x.mib)

/-- The outcome of up to three attempts: only a missing signature is tried again. -/
def flashOutcome : List FlashTry → Nat ⊕ Nat
  | [] => .inl 0
  | [x] => tryFlash x
  | x :: l => if x.sfdp then tryFlash x else flashOutcome l

/-- FLASH_BRINGUP (R403): at t_latch the flash is found, and its rings are scanned, or it is absent with F202. -/
def execFlashBringup (t : Nat) (tries : List FlashTry) (s : State) : Result :=
  let s := s.upTo t
  if !awake s || s.start.tLatch.isNone || s.mem.flashUp || s.mem.flashAbsent then .next s
  else
    match flashOutcome (tries.take 3) with
    | .inl cause =>
      .next (flashFault cause 0 { s with mem := { s.mem with flashAbsent := true, upAt := some s.now } })
    | .inr mib =>
      let s := { s with mem := { s.mem with flashUp := true, flashMiB := mib, upAt := some s.now } }
      .next (scanService (scanPairs (scanReservations (scanLog s))))

/-- Whether the weight section is in the loft after at most one reload; with no model set there is nothing to check. -/
def loftGood (good : Bool × Bool) (s : State) : Bool := s.gran.modelSet.isNone || good.1 || good.2

/-- LOFT_LOAD (R374): after verification at start, or at a wake, the weight section is copied and each context's CRC checked,
with one reload; a second failure fails the start step, or at a wake raises FF10 and resets. -/
def execLoftLoad (t : Nat) (good : Bool × Bool) (s : State) : Result :=
  let s := s.upTo t
  if inMode .slumber s && s.sleep.wakeAt.isSome then
    (if loftGood good s then
      .next { loadLoft s with
        mem := { (loadLoft s).mem with selfRefresh := false }, sleep := { s.sleep with loftBack := true } }
     else .next (watchdogReset .watchdog 0xFF10#16 [] s))
  else if !awake s || s.start.mode.isSome || !s.start.imageDone || s.start.loftDone then .next s
  else
    let s := setupContexts (loadClips (loadProfiles (loadModels s)))
    if loftGood good s then
      let s := loadLoft s
      .next { s with start := { s.start with loftDone := true, loftAt := s.now } }
    else
      .next (resetDevice .startStepFailure true (countFailed 0xF005#16 (raise 0xF005#16 0 [] s)))

/-- The size the five patterns show: a smaller part wraps each address, so the last pattern written there stands (R408). -/
def psramSize (mib : Nat) : Nat := if 32 ≤ mib then 32 else if 16 ≤ mib then 16 else if 8 ≤ mib then 8 else 4

/-- Cause and address of a failed attempt; none where it succeeds (R408, Table 19.10). -/
def psramFails (x : PsramTry) : Option (Nat × Nat) :=
  if !x.strobe then some (0, x.addr)
  else if x.mismatch then some (1, x.addr)
  else if psramSize x.mib < 8 then some (2, 0)
  else none

/-- The patterns the sizing leaves in a part of a size, in the order they are written. -/
def psramPatterns (mib : Nat) (m : List Host.Cell) : List Host.Cell :=
  let size := mib * 1048576
  let m := [5, 4, 3, 2].foldl (fun (m : List Host.Cell) (k : Nat) =>
    pokes 0#8 m ((2 ^ k * 1048576 - 64) % size) (List.replicate 64 (BitVec.ofNat 8 (k + 1)))) m
  pokes 0#8 m 0 (List.replicate 64 0x5A#8)

/-- PSRAM_BRINGUP (R408): up to three attempts; the size is found by pattern writes and the Silo header written. A third
failure is F910 with occasion 0, then F005. -/
def execPsramBringup (t : Nat) (tries : List PsramTry) (s : State) : Result :=
  let s := s.upTo t
  if !awake s || s.start.mode.isSome || !s.start.loftDone || s.start.psramDone then .next s
  else
    match (tries.take 3).find? (fun x => (psramFails x).isNone) with
    | some x =>
      let size := psramSize x.mib
      let s := { s with mem := { s.mem with psramMiB := size, psram := psramPatterns size s.mem.psram } }
      let s := setupSilo s
      .next { s with start := { s.start with psramDone := true } }
    | none =>
      let (c, a) := ((tries.take 3).getLast?.bind psramFails).getD (0, 0)
      .next (failStep 0xF910#16 0 (be 1 0 ++ be 1 c ++ be 4 a) s)

/-- FLASH_READ_TIMEOUT (R405): no data strobe 100 µs after the command; retried three times, then the flash is absent. -/
def execFlashReadTimeout (t addr : Nat) (s : State) : Result :=
  let s := s.upTo t
  if !flashReady s then .next s
  else if s.mem.readRetries < 3 then .next { s with mem := { s.mem with readRetries := s.mem.readRetries + 1 } }
  else .next (loseFlash 3 addr s)

/-- FLASH_SUSPEND_READ (R404): a pending read is served by suspend, read and resume, no sooner than 1 ms after the last
resume. -/
def execFlashSuspendRead (t : Nat) (s : State) : Result :=
  let s := s.upTo t
  if s.mem.op.isNone then .next s
  else
    let s := match s.mem.resumedAt with
      | some r => s.upTo (r + ms1)
      | none => s
    .next { s with mem := { s.mem with resumedAt := some s.now } }

/-- SILO_TRANSACTION_TIMEOUT (R409): no data strobe 2 µs after the command; retried once, then F910 with occasion 1 and a reset
counted as a watchdog's. -/
def execSiloTransactionTimeout (t addr : Nat) (s : State) : Result :=
  let s := s.upTo t
  if !awake s || !s.start.psramDone then .next s
  else if !s.mem.siloRetry then .next { s with mem := { s.mem with siloRetry := true } }
  else .next (watchdogReset .watchdog 0xF910#16 (be 1 1 ++ be 1 0 ++ be 4 addr) s)

/-- BUS_TRANSACTION_COMPLETE (R407, R411 to R413): the requests made by now, each cut into transactions of at most 1 KiB on the Silo,
take tags or wait, and the transaction on a bus returns its response. -/
def execBusTransactionComplete (t : Nat) (silo : Bool) (asked : List BusAsk) (s : State) : Result :=
  let s := s.upTo t
  .next (completeBus silo (askBus asked s))

/-- DMA_REGISTER_SET_COMPLETE (R419, R421): a single channel's bytes have moved; the channel re-arms, loads its next table
entry, or swaps in its shadow set. An address outside every memory stops the model. -/
def execDmaRegisterSetComplete (t : Nat) (ch : Fin 16) (s : State) : Result :=
  let s := s.upTo t
  let c := s.mem.dma[ch]
  if !c.active.valid then .next s
  else
    match (if c.active.kind = 0 then badAddress s c.active else none) with
    | some a => .fault (.dmaAddress a)
    | none =>
      let s := if c.active.kind = 0 then dmaMove c.active s else s
      .next { s with mem := { s.mem with dma := s.mem.dma.set ch (dmaComplete s c) } }

/-- DMA_PACE_MARK (R420): a paced queue's fill reaches a mark: a draining channel runs from its start mark up to its stop
mark, a filling one the other way round. -/
def execDmaPaceMark (t : Nat) (ch : Fin 16) (fill : Nat) (s : State) : Result :=
  let s := s.upTo t
  let c := s.mem.dma[ch]
  if !c.active.paced then .next s
  else
    let a := c.active
    let moving :=
      if a.fill then (if a.stopMark ≤ fill then false else if fill ≤ a.startMark then true else c.moving)
      else if a.startMark ≤ fill then true else if fill ≤ a.stopMark then false else c.moving
    .next { s with mem := { s.mem with dma := s.mem.dma.set ch { c with moving := moving } } }

/-- DMA_SHADOW_WRITE (R419): the control processor writes the shadow set of a single channel, or of another at an
intervention; on a set still valid it stalls until the swap. An idle single channel takes the set at once. -/
def execDmaShadowWrite (t : Nat) (ch : Fin 16) (set : List Byte) (forBoundary : Bool) (s : State) : Result :=
  let s := s.upTo t
  let c := s.mem.dma[ch]
  let r := { regOf (padTo 32 0#8 set) with valid := true }
  if channelKind ch != 0 && !forBoundary then .next s
  else if c.shadow.valid then
    .next { s with mem := { s.mem with dma := s.mem.dma.set ch { c with stalled := some r } } }
  else
    let c := { c with shadow := r, heldFor := forBoundary }
    let c := if c.active.valid || forBoundary then c else swapShadow c
    .next { s with mem := { s.mem with dma := s.mem.dma.set ch c } }

end Sys2Proof.Machine
end

