-- ==== Sys2Proof/Machine/CmdGranary.lean ====
section
/-! DEFINITION. The meanings of the Granary's commands (chapter 20). -/

namespace Sys2Proof.Machine

open Sys2Proof

/-- IMAGE_VERIFY (R440 to R443): once the flash is found or given up, both slots are checked in candidate order and the first
that verifies becomes the active slot. An absent flash has no slots to check: F201. -/
def execImageVerify (t : Nat) (spoil : Bool × Bool) (s : State) : Result :=
  let s := s.upTo t
  if !awake s || s.start.mode.isSome || s.start.base.isNone || s.start.imageDone || !(s.mem.flashUp || s.mem.flashAbsent) then
    .next s
  else
    let s := if s.mem.flashAbsent then noImageFault s else verifyBoth spoil s
    .next { s with start := { s.start with imageDone := true } }

/-- SLOT_WRITE_START (R448, R449): from t_run + 60 s, never in SLUMBER, one slot at a time, the first of those due. -/
def execSlotWriteStart (t : Nat) (s : State) : Result :=
  let s := s.upTo t
  match s.start.tRun with
  | some r =>
    if inMode .slumber s || s.start.mode.isNone || s.now < r + 60 * sec1 || s.gran.write.isSome || !flashReady s then .next s
    else
      match dueWrite s with
      | some w => .next (beginWrite w s)
      | none => .next s
  | none => .next s

/-- FLASH_OPERATION_COMPLETE (R405, R448): the operation in progress completes, or fails: an erase is then tried once more on
its sector, and a program is never repeated in place, so the slot write it belongs to ends. -/
def execFlashOperationComplete (t : Nat) (failed : Option FlashCause) (s : State) : Result :=
  let s := s.upTo t
  match s.mem.op with
  | none => .next s
  | some o =>
    match failed with
    | none =>
      let s := opGood (applyOp o { s with mem := { s.mem with op := none } })
      let s := { s with gran := { s.gran with write := s.gran.write.map (fun w => { w with progress := s.now }) } }
      .next (advanceWrite (issueOp s))
    | some c =>
      let s := opFault o.erase c o.addr (spoilOp o s)
      if o.erase && !o.tried then .next { s with mem := { s.mem with op := some { o with tried := true } } }
      else .next (failWrite { s with mem := { s.mem with op := none } })

/-- SLOT_WRITE_COMPLETE (R448): every byte but the marker is programmed; the slot is checked as though committed, and passes,
or the write fails. `marker` is a failure of the marker's program. -/
def execSlotWriteComplete (t : Nat) (marker : Option FlashCause) (fails : List FlashCause) (spoil : Bool × Bool) (s : State) :
    Result :=
  let s := advanceWrite (s.upTo t)
  match s.gran.write with
  | some w =>
    if !writeReady s then .next s
    else
      let i := checkImage s true (slotBase s w.slotB)
      (if i.status != 0 then
        .next (checkFault w i (failWrite (setSlot w.slotB { i with status := 2, cause := 0, rule := 0, index := 65535 } s)))
       else
        match marker with
        | some c =>
          .next (failWrite (opFault false c (slotBase s w.slotB + w.total - 1) s))
        | none =>
          let s := recordSigner (signerHash (flashBytes s (slotBase s w.slotB) 256)) spoil s
          .next (completeWrite w i fails s))
  | none => .next s

/-- The image a leader has to offer: the record of its active slot. -/
def offeredImage (s : State) : Option SlotInfo := s.gran.active.map (slotInfo s)

/-- IMAGE_ADVERT_SEND (R452): in LEADER with an active slot and a key in force, at (T - o) mod 1 s = 750 ms. -/
def execImageAdvertSend (s : State) : Result :=
  match offeredImage s with
  | some i =>
    if inMode .leader s && (keyInForce s).isSome then
      let next := nextInstant s.gptp.time (offset s + 750 * ms1) sec1
      let s := s.upToDevice (if s.gptp.time < s.gran.advertAt then s.gran.advertAt else next)
      let hash := signerHash (activeImage s)
      let body := imageHead s 1 i.identity i.edition i.total ++ be 8 (hash.toNat / 2 ^ 192)
      .next (sendImage body { s with gran := { s.gran with advertAt := nextInstant s.gptp.time (offset s + 750 * ms1) sec1 } })
    else .next s
  | none => .next s

/-- F230 for an image that will not be fetched again in this start (R453). -/
def refuseImage (cause : Nat) (id : BitVec 32) (edition : Nat) (s : State) : State :=
  raise 0xF230#16 0 (be 1 cause ++ be 4 id.toNat) { s with gran := { s.gran with refused := (id, edition) :: s.gran.refused } }

/-- An advert judged: a fetch becomes due, or is refused (R453). -/
def judgeAdvert (b : List Byte) (s : State) : State :=
  let (id, ed, total) := imageIds b
  let a := s.gran.slotA
  let c := s.gran.slotB
  let none_ := a.status != 0 && c.status != 0
  let other (x : Bool) : Bool :=
    let h := slotHead s x
    headReadable h && headIdentity h != id.toNat
  let newer := match s.gran.active with
    | some x =>
      let i := slotInfo s x
      i.identity == id && decide (i.edition < ed)
        && !([a, c].any (fun y => y.status == 0 && y.identity == id && decide (ed ≤ y.edition)))
    | none => false
  let busy := s.gran.write.any (fun w => w.source == .leader)
  if s.gran.refused.contains (id, ed) || busy || !(none_ || newer) then s
  else if none_ && (other false || other true) then refuseImage 0 id ed s
  else if slotLen s < total then refuseImage 1 id ed s
  else { s with gran := { s.gran with wantFetch := some (id, ed, total), wantNew := newer } }

/-- IMAGE_ADVERT_RECEIVE (R453): an advert of the followed leader reaches a device that does not act as leader. -/
def execImageAdvertReceive (t : Nat) (f : NetFrame) (s : State) : Result :=
  let s := s.upTo t
  match imageBody s ((followed s).map (·.toNat)) 1 f with
  | some b =>
    if actsLeader s || inMode .slumber s || (keyInForce s).isNone || !flashReady s then .next s
    else .next (endpointIn f (verified f (judgeAdvert b)) s)
  | none => .next s

/-- IMAGE_REQUEST_RECEIVE (R455): a request for the leader's own image held, at most 16, identical ones merged. -/
def execImageRequestReceive (t : Nat) (f : NetFrame) (s : State) : Result :=
  let s := s.upTo t
  match imageBody s (fumaroleNode s) 2 f, offeredImage s with
  | some b, some i =>
    let (id, ed, _) := imageIds b
    let r : FetchReq := { offset := ofBe (slice 16 4 b), count := ofBe (slice 20 2 b), identity := id, edition := ed }
    let ok := inMode .leader s && id == i.identity && ed == i.edition && r.offset % 1024 == 0 && within 1 r.count 64
      && decide (r.offset < i.total)
    (if !ok then .next s
     else .next (endpointIn f (verified f fun s =>
       if s.gran.requests.any (fun q => { q with sent := 0 } == r) || decide (16 ≤ s.gran.requests.length) then s
       else { s with gran := { s.gran with requests := s.gran.requests ++ [r] } }) s))
  | _, _ => .next s

/-- IMAGE_CHUNK_SEND (R455): the next chunk of the oldest request, while fewer than 2000 have gone out in the last second. -/
def execImageChunkSend (t : Nat) (s : State) : Result :=
  let s := s.upTo t
  let times := s.gran.chunkTimes.filter (fun x => decide (s.now < x + sec1))
  match s.gran.requests, s.gran.active with
  | r :: rest, some act =>
    if !inMode .leader s || 2000 ≤ times.length then .next s
    else
      let i := slotInfo s act
      let off := r.offset + 1024 * r.sent
      let n := min 1024 (i.total - off)
      let left := if r.sent + 1 < r.count && decide (off + 1024 < i.total) then { r with sent := r.sent + 1 } :: rest else rest
      let s := { s with gran := { s.gran with requests := left, chunkTimes := s.now :: times } }
      let data := flashBytes s (slotBase s act + off) n
      .next (sendImage (imageHead s 3 r.identity r.edition i.total ++ be 4 off ++ be 2 n ++ [0#8, 0#8] ++ data) s)
  | _, _ => .next s

/-- A chunk of the present window programmed once (R454). -/
def takeChunk (b : List Byte) (s : State) : State :=
  match s.gran.write with
  | some w =>
    let (id, ed, _) := imageIds b
    let off := ofBe (slice 16 4 b)
    let n := ofBe (slice 20 2 b)
    let fits := w.source == .leader && id == w.identity && ed == w.edition && (windowChunks w).contains off
      && n == min 1024 (w.total - off) && !w.got.contains off
    if !fits then s
    else
      let ops := pagePrograms (slotBase s w.slotB) w.total off (slice 24 n b)
      issueOp { s with gran := { s.gran with write := some { w with
        queue := w.queue ++ ops, got := off :: w.got, progress := s.now } } }
  | none => s

/-- IMAGE_CHUNK_RECEIVE (R454): a chunk from the followed leader; once its window is programmed, the next one is asked for. -/
def execImageChunkReceive (t : Nat) (f : NetFrame) (s : State) : Result :=
  let s := advanceWrite (s.upTo t)
  match imageBody s ((followed s).map (·.toNat)) 3 f with
  | some b => .next (endpointIn f (verified f (takeChunk b)) s)
  | none => .next s

/-- IMAGE_REQUEST_RETRY (R454): 500 ms after its last progress a fetch asks for the missing chunks again. -/
def execImageRequestRetry (s : State) : Result :=
  match s.gran.write with
  | some w =>
    if w.source == .leader && !(missingRuns w).isEmpty then
      .next (requestMissing (s.upTo (max w.progress w.asked + 500 * ms1)))
    else .next s
  | none => .next s

/-- IMAGE_FETCH_ABANDON (R454): 60 s without progress. -/
def execImageFetchAbandon (s : State) : Result :=
  match s.gran.write with
  | some w => if w.source == .leader then .next (failWrite (s.upTo (w.progress + 60 * sec1))) else .next s
  | none => .next s

end Sys2Proof.Machine
end

