-- ==== Sys2Proof/Machine/Jtag.lean ====
section
/-! DEFINITION. The test access port: its instructions, the boundary register, and the hold in reset (chapter 29). -/

namespace Sys2Proof.Machine

open Sys2Proof

/-- Kinds of a covered land (Table 29.4). -/
inductive CellKind where
  /-- One input cell. -/
  | input
  /-- Output and enable cells. -/
  | output
  /-- Input, output and enable cells. -/
  | both
  /-- One input cell. -/
  | observe
deriving DecidableEq, Repr

/-- A cell of the boundary register. -/
inductive CellRole where
  /-- Captures the land. -/
  | input
  /-- What the land is driven to. -/
  | output
  /-- Whether it is driven. -/
  | enable
deriving DecidableEq, Repr

/-- The lands the boundary register covers, by land number, with their kinds (R586, Tables 26.3 and 29.4). -/
def coveredLands0 : List (Nat × CellKind) :=
  [(15, .input), (16, .input), (54, .input), (55, .output), (56, .output), (58, .input), (59, .input), (60, .output),
   (61, .output), (62, .output), (63, .output), (66, .output), (67, .output), (69, .input), (70, .both), (71, .both),
   (72, .both), (73, .both), (75, .both), (76, .both), (77, .both), (78, .both), (108, .both), (109, .both),
   (110, .input), (111, .output), (113, .both), (114, .both), (115, .input), (116, .output), (118, .output), (119, .input)]

/-- The rest of them. -/
def coveredLands1 : List (Nat × CellKind) :=
  [(120, .output), (122, .output), (123, .output), (124, .input), (125, .both), (126, .both), (127, .both), (128, .both),
   (129, .both), (130, .both), (131, .both), (132, .both), (157, .input), (158, .input), (159, .observe), (160, .input),
   (161, .input), (162, .input), (163, .input), (164, .input), (165, .input), (166, .input), (167, .both), (168, .input),
   (169, .output), (170, .output), (200, .output), (201, .output), (202, .output), (203, .output)]

/-- The lands of the boundary register in ascending land number. -/
def coveredLands : List (Nat × CellKind) := coveredLands0 ++ coveredLands1

/-- Cells of a kind of land, in order (R586). -/
def CellKind.cells : CellKind → List CellRole
  | .input | .observe => [.input]
  | .output => [.output, .enable]
  | .both => [.input, .output, .enable]

/-- The 124 cells from TDI to TDO: each land's place in the list of lands, its number, and the cell's role. -/
def boundaryCells : List (Nat × Nat × CellRole) :=
  coveredLands.zipIdx.flatMap (fun x => x.1.2.cells.map (fun r => (x.2, x.1.1, r)))

/-- A cell's bit in the boundary register: bit 0 lies nearest TDO. -/
def cellBit (land : Nat) (role : CellRole) : Nat :=
  123 - boundaryCells.findIdx (fun c => c.2.1 == land && c.2.2 == role)

/-- What the update stage holds for a land's cell. -/
def cellHeld (s : State) (land : Nat) (role : CellRole) : Bool := s.jtag.boundary.getLsbD (cellBit land role)

/-- Lands PDM_CLK0 and PDM_CLK1, PDM_D0 and PDM_D1 (Table 26.3). -/
def pdmClkLand (line : Fin 2) : Nat := if line = 0 then 118 else 120
/-- The data land of a microphone line. -/
def pdmDataLand (line : Fin 2) : Nat := if line = 0 then 119 else 157

/-- Whether a PDM clock land is driven high under EXTEST or CLAMP: never while the MIC_EN gate is closed (R587). -/
def pdmDriven (s : State) (line : Fin 2) : Bool :=
  s.jtag.drive && s.mic.open_ && cellHeld s (pdmClkLand line) .enable && cellHeld s (pdmClkLand line) .output

/-- MIC_LED: by R306, and under EXTEST and CLAMP lit exactly while the gate is open and a PDM_CLK output cell holds 1 (R587). -/
def micLit (s : State) : Bool :=
  if s.jtag.drive then s.mic.open_ && (cellHeld s 118 .output || cellHeld s 120 .output) else s.mic.clk0 || s.mic.clk1

/-- What one cell captures: its land's value, PDM_D0 and PDM_D1 as 0 while the gate is closed; what an enable cell captures the
spec does not say (R586, R587). -/
def captureCell (s : State) (pins : BitVec 62) (free : Nat) (c : Nat × Nat × CellRole) : Bool :=
  match c.2.2 with
  | .enable => (free / 2 ^ c.1) % 2 == 1
  | _ => pins.getLsbD c.1 && !((c.2.1 == 119 || c.2.1 == 157) && !s.mic.open_)

/-- Bits from the most significant on as a number. -/
def ofBits (l : List Bool) : Nat := l.foldl (fun n b => 2 * n + b.toNat) 0

/-- A register of `n` bits shifted by the bits of TDI: what comes out at TDO, and what is left in it. -/
def shiftReg (n : Nat) (v : Nat) : List Bool → List Bool × Nat
  | [] => ([], v)
  | b :: l =>
    let r := shiftReg n (v / 2 + b.toNat * 2 ^ (n - 1)) l
    ((v % 2 == 1) :: r.1, r.2)

/-- The identification code (R585). -/
def idcodeValue : Nat := 0x164405A7

/-- The end of a reset hold: with RESET_N and the power-on reset released, t_reset falls now (R9, R588), and the watchdog is
armed (R70). -/
def releaseReset (s : State) : State :=
  { s with
    start := { s.start with phase := .active, tReset := s.now, armedAt := some s.now }
    gptp := { s.gptp with time := 0, frac := 0 }
    blocks := { s.blocks with startLow := true }
    endur := { s.endur with scrubAt := s.now + 3600 * sec1 } }

/-- What an instruction scan shifts out: the instruction register captures 0b00001, the least significant bit first (R584). -/
def irCapture : List Bool := (shiftReg 5 0b00001 (List.replicate 5 false)).1

/-- An instruction scanned in: what the register captured comes out at TDO (R584). -/
def irScan (s : State) : State := { s with jtag := { s.jtag with tdo := irCapture } }

/-- An instruction that leaves the device alone becomes current; a hold ends (R588). -/
def quietInstr (ir : JtagIr) (bits : BitVec 5) (s : State) : State :=
  let held := s.jtag.hold
  let s := { s with jtag := { s.jtag with ir := ir, irBits := bits, hold := false, drive := false, highZ := false } }
  if held && s.lands.resetN && !s.plant.precond then releaseReset s else s

/-- An instruction that holds the device in reset becomes current (R588). -/
def holdInstr (ir : JtagIr) (bits : BitVec 5) (drive : Bool) (s : State) : State :=
  let s := if s.jtag.hold then s else resetDevice .resetN false s
  { s with jtag := { s.jtag with ir := ir, irBits := bits, hold := true, drive := drive, highZ := !drive } }

end Sys2Proof.Machine
end

