-- ==== Sys2Proof/Machine/CmdJtag.lean ====
section
/-! DEFINITION. The meanings of the test access port's commands (chapter 29): each instruction acts at its Update-IR. -/

namespace Sys2Proof.Machine

open Sys2Proof

/-- EXTEST (R588): the device held in reset, the covered lands driven from the boundary register. -/
def execExtest (t : Nat) (s : State) : Result := .next (holdInstr .extest 0b00000#5 true (irScan (s.upTo t)))

/-- IDCODE (R585). -/
def execIdcode (t : Nat) (s : State) : Result := .next (quietInstr .idcode 0b00001#5 (irScan (s.upTo t)))

/-- SAMPLE/PRELOAD (R584): the boundary register, with the lands in their normal function. -/
def execSamplePreload (t : Nat) (s : State) : Result := .next (quietInstr .sample 0b00010#5 (irScan (s.upTo t)))

/-- HIGHZ (R588): the device held in reset, every covered output at high impedance. -/
def execHighz (t : Nat) (s : State) : Result := .next (holdInstr .highz 0b00011#5 false (irScan (s.upTo t)))

/-- CLAMP (R588): the device held in reset, the lands driven from the boundary register, the bypass register selected. -/
def execClamp (t : Nat) (s : State) : Result := .next (holdInstr .clamp 0b00100#5 true (irScan (s.upTo t)))

/-- BYPASS (R584): its own opcode, or any unassigned one. -/
def execBypass (t : Nat) (op : BitVec 5) (s : State) : Result :=
  let s := s.upTo t
  if op.toNat < 5 then .next s else .next (quietInstr .bypass op (irScan s))

/-- TAP_RESET (R584, R588, R589): Test-Logic-Reset; the instruction is IDCODE, and a hold ends. -/
def execTapReset (t : Nat) (s : State) : Result := .next (quietInstr .idcode 0b00001#5 (s.upTo t))

/-- DATA_REGISTER_SCAN (R584 to R587): the selected register captures, shifts the bits of TDI, and is updated. `pins` are the
covered lands' values, bit 0 the lowest land number. -/
def execDataRegisterScan (t : Nat) (pins : BitVec 62) (tdi : List Bool) (s : State) : Result :=
  let s := s.upTo t
  match s.jtag.ir with
  | .idcode => .next { s with jtag := { s.jtag with tdo := (shiftReg 32 idcodeValue tdi).1 } }
  | .extest | .sample =>
    let free := drawFree s
    let s := free.2
    let v := ofBits (boundaryCells.map (captureCell s pins free.1))
    let r := shiftReg 124 v tdi
    let held := BitVec.ofNat 124 r.2
    .next { s with jtag := { s.jtag with tdo := r.1, shift := held, boundary := held } }
  | .highz | .clamp | .bypass =>
    let r := shiftReg 1 0 tdi
    .next { s with jtag := { s.jtag with tdo := r.1, bypassBit := r.2 == 1 } }

end Sys2Proof.Machine
end

