-- ==== Sys2Proof/Machine/CmdPairing.lean ====
section
/-! DEFINITION. The meanings of keys, their reservations and pairing (chapter 11). -/

namespace Sys2Proof.Machine

open Sys2Proof

/-! ### Reservations and keys -/

/-- RESERVATION_COMMIT (R248 to R250): the next block's record of a channel is written and committed; without a flash that
can be written the channel does not send. -/
def execReservationCommit (t : Nat) (ann : Bool) (fails : List FlashCause) (s : State) : Result :=
  .next (commitReservation ann fails (s.upTo t))

/-- AK a new slot carries over from the slot in force: a new TK leaves AK as it was (R257, R258). -/
def keptAk (s : State) : BitVec 128 := ((keyInForce s).map (·.ak)).getD 0#128

/-- A new TK drawn and programmed with origin "created" (R256, R257). -/
def createKey (spoil : Bool × Bool) (s : State) : State :=
  match lowestBlank s with
  | none => slotsUsed s
  | some _ =>
    let d : KeyData := { tk := Config.random128 s.freeCtr, ak := keptAk s, tenant := Fin.ofNat 16 (tenant s), origin := .created }
    (programKey d spoil 255 { s with freeCtr := s.freeCtr + 1 }).2

/-- KEY_CREATE (R256): 60 s after t_run a strapped leader still without a key draws one. -/
def execKeyCreate (spoil : Bool × Bool) (s : State) : Result :=
  match s.sec.createAt with
  | none => .next s
  | some c =>
    let s := s.upTo c
    let s := { s with sec := { s.sec with createAt := none } }
    if strappedLeader (role s) && s.start.mode.isSome && !inMode .safe s && s.sec.inForce.isNone && s.sec.nextForce.isNone then
      .next (createKey spoil s)
    else .next s

/-- KEY_RENEW (R257): PAIR held for 10 s on a strapped leader running in LEADER with a key in force. -/
def execKeyRenew (spoil : Bool × Bool) (s : State) : Result :=
  let due := s.lands.pairSince + 10 * sec1
  if s.lands.pair && decide (s.now < due) && inMode .leader s && strappedLeader (role s) && s.sec.inForce.isSome
      && decide (s.start.tReset + 5 * sec1 ≤ s.lands.pairSince) then
    .next (createKey spoil (s.upTo due))
  else .next s

/-- The body every pairing and AK distribution frame begins with (Table 11.4). -/
def pairHead (kind : Nat) (number : BitVec 16) (s : State) : List Byte :=
  be 1 kind ++ be 1 (tenant s) ++ be 1 (node s) ++ [0#8] ++ be 6 s.eui48.toNat ++ be 2 number.toNat

/-- A kind 6 frame toward a tenant and node (R261). -/
def pairFrameTo (t nn : Nat) (body : List Byte) (s : State) : NetFrame :=
  { ownFrame s 6 nn 0 0x88B7#16 body with dst := dstOf t 6 nn, vlan := some (0, vlanOf t) }

/-- AK_DISTRIBUTION_SEND (R258): each second at 250 ms past the tenant's offset, by a leader of another tenant that holds AK. -/
def execAkDistributionSend (s : State) : Result :=
  match s.sec.ak, fumaroleNode s with
  | some ak, some ll =>
    if !inMode .leader s || tenant s = 0 then .next s
    else
      let due := nextInstant (max s.sec.akAt s.gptp.time - 1) (offset s + 250 * ms1) sec1
      let s := s.upToDevice due
      let body := pairHead 5 s.sec.pairing.windowNo s ++ List.replicate 20 0#8 ++ be 16 ak.toNat
      .next (sendTenant (pairFrameTo (tenant s) ll body s) { s with sec := { s.sec with akAt := due + sec1 } })
  | _, _ => .next s

/-- The body of a kind 6 frame of a type, from another device. -/
def pairBody (kind : Nat) (f : NetFrame) (s : State) : Option (List Byte) :=
  match f.body with
  | .bytes e b =>
    if dstKind f.dst = 6 ∧ e = 0x88B7#16 ∧ (at8 b 0).toNat = kind ∧ f.src ≠ s.eui48 then some b else none
  | _ => none

/-- AK_DISTRIBUTION_RECEIVE (R258): a member or partner of another tenant takes AK, into force at the next boundary. -/
def execAkDistributionReceive (t : Nat) (f : NetFrame) (s : State) : Result :=
  let s := s.upTo t
  match pairBody 5 f s with
  | some b =>
    if (inMode .member s || inMode .partner s) && tenant s != 0 && dstTenant f.dst == tenant s then
      .next (endpointIn f (verified f fun s => { s with sec := { s.sec with nextAk := some (BitVec.ofNat 128 (ofBe (slice 32 16 b))) } }) s)
    else .next s
  | none => .next s

/-! ### Presses, windows -/

/-- The modes in which a press counts. -/
def mayPair (s : State) : Bool := inMode .member s || inMode .leader s || inMode .partner s

/-- The own window closed; unused, it raises F601 with cause 1 (R260). -/
def closeWindow (s : State) : State :=
  let used := s.sec.pairing.used
  let s := { s with sec := { s.sec with pairing := { s.sec.pairing with open_ := false, exchanges := [] } } }
  refreshLeds (if used then s else pairingFault 1 255 s)

/-- PAIR_PRESS (R259): PAIR asserted for 50 ms to 5 s and released now. It starts a 2 s listen, is ignored during one, or
closes the own window. A press begun before running does not count (R81). -/
def execPairPress (t heldNs : Nat) (s : State) : Result :=
  let s := s.upTo t
  let began := (s.start.tRun.getD s.now) + heldNs ≤ s.now ∧ s.start.tReset + 5 * sec1 + heldNs ≤ s.now
  if !mayPair s || s.start.tRun.isNone || heldNs < 50 * ms1 || 5 * sec1 < heldNs || !decide began then .next s
  else if s.sec.pairing.open_ then .next (closeWindow s)
  else if s.sec.pairing.listenUntil.isSome then .next s
  else
    let p := s.sec.pairing
    .next { s with sec := { s.sec with pairing := { p with
      listenUntil := some (s.now + 2 * sec1), pressAt := s.now, heard := [], taking := none, joins := 0 } } }

/-- A message of bytes 4 to 151 of a window and further bytes (Table 11.4). -/
def windowPart (w : List Byte) : List Byte := slice 4 148 w

/-- A join for a window sent: an ephemeral key pair drawn, the join signed (R262). -/
def sendJoin (w : PairWin) (ak : Bool) (s : State) : State :=
  let n := s.freeCtr
  let head := pairHead 2 w.number s ++ be 1 (role s) ++ be 1 (if ak then 2 else 1) ++ ephemeralKey n ++ identityKey
  let body := head ++ ecdsaSign (windowPart w.body ++ slice 4 140 head)
  let p := s.sec.pairing
  let s := { s with
    freeCtr := n + 1
    sec := { s.sec with pairing := { p with
      taking := some w, takingAk := ak, join := body, takeEph := n, joins := 1, joinAt := s.now } } }
  sendPairing (pairFrameTo w.tenant.val w.node.toNat body s) s

/-- Of two windows the one of the lower node (R259). -/
def lowerWindow (l : List PairWin) : Option PairWin :=
  l.foldl (fun b w => match b with | none => some w | some x => some (if w.node < x.node then w else x)) none

/-- The own window's body (Table 11.4). -/
def windowBody (s : State) : List Byte :=
  let p := s.sec.pairing
  pairHead 1 p.windowNo s ++ be 1 (role s) ++ be 1 s.routing.profile.val
    ++ be 8 ((s.gptp.time + p.windowEnd - s.now) % 2 ^ 64) ++ ephemeralKey p.giveEph ++ identityKey

/-- PAIR_LISTEN_EXPIRY (R259): a taker of TK has joined already; a strapped leader of another tenant that heard only windows of
tenant 0 takes AK; a device with a key opens its own window; otherwise F601 with cause 0. -/
def execPairListenExpiry (s : State) : Result :=
  match s.sec.pairing.listenUntil with
  | none => .next s
  | some u =>
    let s := s.upTo u
    let p := s.sec.pairing
    let s := { s with sec := { s.sec with pairing := { p with listenUntil := none, heard := [] } } }
    let own := p.heard.any (fun w => w.tenant.val == tenant s)
    if p.taking.isSome || own then .next s
    else
      let akWindow := if strappedLeader (role s) && tenant s != 0 then lowerWindow p.heard else none
      match akWindow, s.sec.inForce with
      | some w, some _ => .next (sendJoin w true s)
      | _, some _ =>
        let q := s.sec.pairing
        let q := { q with open_ := true, windowEnd := s.now + 60 * sec1, windowNo := q.windowNo + 1, giveEph := s.freeCtr,
                          windowNext := s.now, used := false, exchanges := [] }
        .next (refreshLeds { s with freeCtr := s.freeCtr + 1, sec := { s.sec with pairing := q } })
      | _, none => .next (pairingFault 0 255 s)

/-- WINDOW_FRAME_SEND (R260): every 250 ms while the window is open. -/
def execWindowFrameSend (s : State) : Result :=
  if !s.sec.pairing.open_ then .next s
  else
    let s := s.upTo s.sec.pairing.windowNext
    let body := windowBody s
    let p := s.sec.pairing
    let s := { s with sec := { s.sec with pairing := { p with windowBody := body, windowNext := p.windowNext + 250 * ms1 } } }
    .next (sendPairing (pairFrameTo (tenant s) (node s) body s) s)

/-- A window as a listener keeps it. -/
def windowOf (b : List Byte) : PairWin :=
  { tenant := Fin.ofNat 16 (at8 b 1).toNat, node := at8 b 2, eui := BitVec.ofNat 48 (ofBe (slice 4 6 b))
    number := BitVec.ofNat 16 (ofBe (slice 10 2 b)), body := b.take 152 }

/-- WINDOW_FRAME_RECEIVE (R259, R262): a listening device notes the window. One of its own tenant makes it a taker of TK, which
joins at once; a window of a lower node takes its place while no key frame has come. -/
def execWindowFrameReceive (t : Nat) (f : NetFrame) (s : State) : Result :=
  let s := s.upTo t
  match pairBody 1 f s with
  | none => .next s
  | some b =>
    let w := windowOf b
    if s.sec.pairing.listenUntil.isNone || !mayPair s || w.tenant.val != dstTenant f.dst
        || !(w.tenant.val == tenant s || w.tenant.val == 0) then .next s
    else
      .next (endpointIn f (verified f fun s =>
        let p := s.sec.pairing
        let s := { s with sec := { s.sec with pairing := { p with heard := w :: p.heard.filter (fun x => x.eui != w.eui) } } }
        if w.tenant.val != tenant s then s
        else
          let better := match p.taking with
            | none => !p.heard.any (fun x => x.tenant.val == tenant s)
            | some x => w.eui != x.eui && decide (w.node < x.node)
          if !better then s
          else if slice 87 65 b == identityKey then pairingFault 3 w.node.toNat s
          else sendJoin w false s) s)

/-! ### Giver -/

/-- A partner pair's kinds: hot leader 5 with partner 7, cold leader 6 with partner 8 (R212, R263). -/
def pairKinds (a b : Nat) : Bool :=
  (a == 5 && b == 7) || (a == 7 && b == 5) || (a == 6 && b == 8) || (a == 8 && b == 6)

/-- The pair record of an exchange, where the two sides are a leader and a partner of one kind (R263, R428). -/
def pairRecord (otherRole : Nat) (eui : BitVec 48) (n : BitVec 8) (otherProfile : Nat) (fails : List FlashCause) (s : State) :
    State :=
  if pairKinds (role s) otherRole then
    writePair eui n (if strappedPartner (role s) then otherProfile else 255) fails s
  else s

/-- The key body a giver answers a join with (Table 11.4); none where it has nothing to give. -/
def keyBody (s : State) (w j : List Byte) (ak : Bool) (kek : BitVec 128) : Option (List Byte) :=
  let zero := List.replicate 24 0#8
  let wrapped := if ak then s.sec.ak.map (fun k => zero ++ keyWrap kek k)
    else (keyInForce s).map (fun d => keyWrap kek d.tk ++ zero)
  wrapped.map (fun x =>
    let head := pairHead 3 s.sec.pairing.windowNo s ++ be 1 (role s) ++ be 1 s.routing.profile.val ++ x
    head ++ ecdsaSign (windowPart w ++ slice 4 204 j ++ slice 4 58 head))

/-- JOIN_RECEIVE (R260, R262): a giver with an open window checks the join and answers with the key frame; a repeated join is
answered with the identical frame; a ninth exchange at once is ignored. -/
def execJoinReceive (t : Nat) (f : NetFrame) (s : State) : Result :=
  let s := s.upTo t
  match pairBody 2 f s with
  | none => .next s
  | some b =>
    let j := b.take 208
    let n := at8 j 2
    let e := BitVec.ofNat 48 (ofBe (slice 4 6 j))
    let ak := (at8 j 13).toNat == 2
    let mine := dstNode f.dst == node s && dstTenant f.dst == tenant s && ofBe (slice 10 2 j) == s.sec.pairing.windowNo.toNat
    let fits := if ak then tenant s == 0 && at8 j 1 != 0#8 else (at8 j 1).toNat == tenant s && (at8 j 13).toNat == 1
    if !s.sec.pairing.open_ || !mayPair s || !mine || !fits then .next s
    else
      .next (endpointIn f (verified f fun s =>
        let p := s.sec.pairing
        match p.exchanges.find? (fun x => x.join == j) with
        | some x => sendPairing (pairFrameTo (tenant s) n.toNat x.key s) s
        | none =>
          if 8 ≤ p.exchanges.length then s
          else
            let w := p.windowBody
            let id := slice 79 65 j
            if id == identityKey || !ecdsaVerify id (slice 144 64 j) (windowPart w ++ slice 4 140 j) then
              pairingFault 3 n.toNat s
            else
              match keyBody s w j ak (pairingKek w j (ecdh p.giveEph (slice 14 65 j))) with
              | none => s
              | some k =>
                let x : Exchange := { node := n, eui := e, role := Fin.ofNat 16 (at8 j 12).toNat, window := w, join := j, key := k, sentAt := s.now }
                let s := { s with sec := { s.sec with pairing := { p with exchanges := p.exchanges ++ [x] } } }
                sendPairing (pairFrameTo (tenant s) n.toNat k s) s) s)

/-- What a done frame's MAC covers (Table 11.4). -/
def doneMessage (w j k : List Byte) (result slot : Byte) : List Byte :=
  be 32 (sha256 (w ++ j ++ k)).toNat ++ [result, slot]

/-- An exchange ended at the giver. -/
def endExchange (x : Exchange) (s : State) : State :=
  let p := s.sec.pairing
  { s with sec := { s.sec with pairing := { p with exchanges := p.exchanges.filter (fun y => y.join != x.join) } } }

/-- DONE_RECEIVE (R260, R262, R263): the giver checks the MAC; the exchange is complete and the window lasts 60 s more. -/
def execDoneReceive (t : Nat) (f : NetFrame) (fails : List FlashCause) (s : State) : Result :=
  let s := s.upTo t
  match pairBody 4 f s with
  | none => .next s
  | some b =>
    let e := BitVec.ofNat 48 (ofBe (slice 4 6 b))
    match s.sec.pairing.exchanges.find? (fun x => x.eui == e) with
    | none => .next s
    | some x =>
      .next (endpointIn f (verified f fun s =>
        let s := endExchange x s
        let mac := pairingMacKey x.window x.join (ecdh s.sec.pairing.giveEph (slice 14 65 x.join))
        if hmac16 mac (doneMessage x.window x.join x.key (at8 b 12) (at8 b 13)) != slice 14 16 b then
          pairingFault 3 x.node.toNat s
        else
          let p := s.sec.pairing
          let s := { s with sec := { s.sec with pairing := { p with used := true, windowEnd := s.now + 60 * sec1 } } }
          if at8 b 12 == 0#8 || at8 b 12 == 4#8 then pairRecord x.role.val x.eui x.node 0 fails s else s) s)

/-- DONE_TIMEOUT (R262): no done frame 2 s after the key frame. -/
def execDoneTimeout (eui : BitVec 48) (s : State) : Result :=
  match s.sec.pairing.exchanges.find? (fun x => x.eui == eui) with
  | none => .next s
  | some x => .next (pairingFault 5 x.node.toNat (endExchange x (s.upTo (x.sentAt + 2 * sec1))))

/-- PAIRING_WINDOW_EXPIRY (R260): the window's end. -/
def execPairingWindowExpiry (s : State) : Result :=
  if s.sec.pairing.open_ then .next (closeWindow (s.upTo s.sec.pairing.windowEnd)) else .next s

/-! ### Taker -/

/-- JOIN_RESEND (R262): every 500 ms, up to four times, while no key frame arrives. -/
def execJoinResend (s : State) : Result :=
  match s.sec.pairing.taking with
  | none => .next s
  | some w =>
    if 5 ≤ s.sec.pairing.joins then .next s
    else
      let s := s.upTo (s.sec.pairing.joinAt + 500 * ms1)
      let p := s.sec.pairing
      let s := { s with sec := { s.sec with pairing := { p with joins := p.joins + 1, joinAt := s.now } } }
      .next (sendPairing (pairFrameTo w.tenant.val w.node.toNat p.join s) s)

/-- The taker's exchange ended. -/
def endTaking (s : State) : State :=
  let p := s.sec.pairing
  { s with sec := { s.sec with pairing := { p with taking := none } } }

/-- The done frame (Table 11.4). -/
def sendDone (w : PairWin) (key : List Byte) (mac : BitVec 256) (result slot : Nat) (s : State) : State :=
  let r := BitVec.ofNat 8 result
  let i := BitVec.ofNat 8 slot
  let body := pairHead 4 w.number s ++ [r, i] ++ hmac16 mac (doneMessage w.body s.sec.pairing.join key r i)
  sendPairing (pairFrameTo w.tenant.val (node s) body s) s

/-- What the unwrapped key makes the taker do: result code and slot of its done frame, and the state (R252, R253, R262). -/
def storeKey (w : PairWin) (k : BitVec 128) (spoil : Bool × Bool) (s : State) : Nat × Nat × State :=
  let ak := s.sec.pairing.takingAk
  let held := if ak then s.sec.ak == some k else (keyInForce s).map (·.tk) == some k
  if held then (4, 255, s)
  else if (lowestBlank s).isNone then (1, 255, slotsUsed s)
  else
    let tk := if ak then ((keyInForce s).map (·.tk)).getD 0#128 else k
    let d : KeyData := { tk := tk, ak := if ak then k else keptAk s, tenant := Fin.ofNat 16 (tenant s),
                         origin := if ak then .akTaken else .tkTaken, from_ := w.eui }
    let r := programKey d spoil w.node.toNat s
    match r.1 with
    | some i => (0, i.val, r.2)
    | none => (2, 255, r.2)

/-- KEY_FRAME_RECEIVE (R262): the taker checks the giver's signature, unwraps, programs a slot and sends the done frame. -/
def execKeyFrameReceive (t : Nat) (f : NetFrame) (spoil : Bool × Bool) (fails : List FlashCause) (s : State) : Result :=
  let s := s.upTo t
  match pairBody 3 f s, s.sec.pairing.taking with
  | some b, some w =>
    let k := b.take 126
    if dstTenant f.dst != w.tenant.val || dstNode f.dst != node s || f.src != w.eui
        || ofBe (slice 10 2 k) != w.number.toNat || !mayPair s then .next s
    else
      .next (endpointIn f (verified f fun s =>
        let p := s.sec.pairing
        let signed := windowPart w.body ++ slice 4 204 p.join ++ slice 4 58 k
        let shared := ecdh p.takeEph (slice 22 65 w.body)
        let kek := pairingKek w.body p.join shared
        let s := endTaking s
        if !ecdsaVerify (slice 87 65 w.body) (slice 62 64 k) signed then pairingFault 3 w.node.toNat s
        else
          match keyUnwrap kek (slice (if p.takingAk then 38 else 14) 24 k) with
          | none => pairingFault 3 w.node.toNat s
          | some x =>
            let (result, slot, s) := storeKey w x spoil s
            let s := if result = 0 ∨ result = 4 then pairRecord (at8 k 12).toNat w.eui w.node (at8 k 13).toNat fails s else s
            sendDone w k (pairingMacKey w.body p.join shared) result slot s) s)
  | _, _ => .next s

/-- KEY_FRAME_TIMEOUT (R262): no key frame 2.5 s after the press. -/
def execKeyFrameTimeout (s : State) : Result :=
  match s.sec.pairing.taking with
  | none => .next s
  | some w =>
    let s := s.upTo (s.sec.pairing.pressAt + 2500 * ms1)
    .next (pairingFault 2 w.node.toNat (endTaking s))

end Sys2Proof.Machine
end

