-- ==== Sys2Proof/Machine/CmdPlant.lean ====
section
/-! DEFINITION. The meanings of the loudspeaker, motor and die-temperature commands (chapter 22). -/

namespace Sys2Proof.Machine

open Sys2Proof

/-- THERMAL_MODEL_RELEASE (R489): the allowance at or above 10 % of the ceiling for 1 s; FB00 clears, and g_P rises from
−60 dB. -/
def execThermalModelRelease (ch : Fin 2) (s : State) : Result :=
  let c := s.spk.ch[ch]
  match c.saturated, c.releaseAt with
  | true, some a =>
    let s := s.upTo (a + sec1)
    .next (clear 0xFB00#16 ch.val (mapSpk ch (fun c => { c with
      saturated := false, releaseAt := none, gP := -600, gPEnd := -600, gPNext := -600 }) s))
  | _, _ => .next s

/-- SPEAKER_GUARD (R484): a stage's mean power over the last second above 1.2 times the strap ceiling; 6 dB for the next
second. In mono the ceiling governs both stages' sum. -/
def execSpeakerGuard (t : Nat) (ch : Fin 2) (s : State) : Result :=
  let s := s.upTo t
  let a := meanMw s.spk.ch[0].secMw
  let b := meanMw s.spk.ch[1].secMw
  let p := if monoAmp s then a + b else if ch == 0 then a else b
  if s.spk.ch[ch].on && decide (strapCeiling s * 12 < p * 10) then
    .next (mapSpk ch (fun c => { c with guard := some (s.now + sec1) }) s)
  else .next s

/-- SPEAKER_OVERCURRENT (R490): above 7 A or a short, or PVDD_A above 30 V; both stages off and FB01 until reset. -/
def execSpeakerOvercurrent (t : Nat) (stage : Fin 2) (short : Bool) (s : State) : Result :=
  let s := s.upTo t
  if !powered s then .next s
  else
    let s := { s with spk := { s.spk with fault := true, ch := s.spk.ch.map (fun c => { c with on := false }) } }
    .next (raise 0xFB01#16 stage.val (be 1 stage.val ++ be 1 (if short then 0 else 1)) s)

/-- OPEN_LOAD_DETECT (R491): the sensed impedance has been above four times nominal, or back within twice, for 1 s at more than
100 mV rms. -/
def execOpenLoadDetect (t : Nat) (ch : Fin 2) (cent : Nat) (s : State) : Result :=
  let s := s.upTo t
  let nom := nominalCent s
  let c := s.spk.ch[ch]
  if !c.on then .next s
  else if 4 * nom < cent && !c.openLoad then
    .next (raise 0xFB02#16 ch.val (be 1 ch.val ++ be 2 (sat16 cent)) (mapSpk ch (fun c => { c with openLoad := true }) s))
  else if cent ≤ 2 * nom && c.openLoad then
    .next (clear 0xFB02#16 ch.val (mapSpk ch (fun c => { c with openLoad := false }) s))
  else .next s

/-- The readings of one 125 µs period taken in: current, MOT_POS, PVDD_M, their histories, and the scale of R493. -/
def motorReading (posMv pvddMv : Nat) (ma : Int) (s : State) : State :=
  let m := s.motor
  let recent := (ma.natAbs :: m.recent).take 8000
  let busy := decide ((motorSet s).contMa * recent.length < recent.foldl (· + ·) 0)
  let s := mapMotor (fun m => { m with
    ma := ma, posMv := posMv, pvddMv := pvddMv, recent := recent
    posHist := (posTarget s posMv :: m.posHist).take 800
    peakSec := max m.peakSec ma.natAbs, sumSec := m.sumSec + ma.natAbs, countSec := m.countSec + 1
    scale := if busy then m.scale - 1 else min 80000 (m.scale + 1)
    choppedSec := m.choppedSec || (m.driven && decide (workLimit s ≤ ma.natAbs)) }) s
  mapMotor (fun m => { m with
    posBadAt := if closedLoop s && posBad s posMv then some (m.posBadAt.getD s.now) else none
    peakAt := if ma.natAbs < workLimit s then some (m.peakAt.getD s.now) else none }) s

/-- What a period's command settles: stalling since, running since, and the clearing of FB10 and FB11 (R498, Table 4.9). -/
def motorSettle (s : State) : State :=
  let st := stalling s
  let s := mapMotor (fun m => { m with
    stallSince := if st then some (m.stallSince.getD s.now) else none
    runSince := if m.driven && !st then some (m.runSince.getD s.now) else none }) s
  let ran := s.motor.runSince.any (fun a => decide (a + sec1 ≤ s.now))
  let s := if ran && anyActive 0xFB10#16 s && !s.motor.heldOff then clearAll 0xFB10#16 s else s
  let calm := s.motor.peakAt.any (fun a => decide (a + sec1 ≤ s.now))
  if calm && anyActive 0xFB11#16 s then clearAll 0xFB11#16 s else s

/-- MOTOR_COMMAND (R493 to R496): every 125 µs the plant die reads current, MOT_POS and PVDD_M and forms the voltage command
from target and position. -/
def execMotorCommand (t : Nat) (posMv pvddMv : Nat) (ma : Int) (s : State) : Result :=
  let s := s.upTo t
  if (motorSetup (lvlD s 11)).isNone || !s.blocks.running then .next s
  else
    let s := setDriven (motorReading posMv pvddMv ma s)
    let u := if s.motor.driven then motorU s (targetNow s) else 0
    .next (motorSettle (mapMotor (fun m => { m with uMv := u }) s))

/-- BACK_EMF_WINDOW (R495): in open loop the bridge floats for 100 µs, 10 ms after it last did, and the back-EMF is read. -/
def execBackEmfWindow (t : Nat) (bemfMv : Int) (s : State) : Result :=
  let s := s.upTo (max t ((s.motor.bemfAt.map (· + 10 * ms1)).getD t))
  if s.motor.driven && !closedLoop s then
    .next (mapMotor (fun m => { m with bemfMv := bemfMv, bemfAt := some s.now, floatUntil := s.now + 100000 }) s)
  else .next s

/-- MOTOR_PEAK_CURRENT (R493): the bridge current reaches 2.5 A and is chopped; FB11. -/
def execMotorPeakCurrent (t : Nat) (ma : Int) (s : State) : Result :=
  let s := s.upTo t
  if s.motor.driven && decide (2500 ≤ ma.natAbs) then
    .next (raise 0xFB11#16 0 (be 2 (workLimit s)) (mapMotor (fun m => { m with
      ma := ma, choppedSec := true, peakSec := max m.peakSec ma.natAbs, peakAt := none }) s))
  else .next s

/-- MOT_POS_OUT_OF_RANGE (R496): out of range for 10 ms in closed loop; the bridge floats and FB12 stays until reset. -/
def execMotPosOutOfRange (s : State) : Result :=
  match s.motor.posBadAt with
  | some a =>
    if !closedLoop s || s.motor.posFault then .next s
    else
      let s := s.upTo (a + 10 * ms1)
      .next (raise 0xFB12#16 0 (be 2 s.motor.posMv) (setDriven (mapMotor (fun m => { m with posFault := true }) s)))
  | none => .next s

/-- MOTOR_STALL (R498): stalling for the stall time; the bridge floats for 2 s with FB10, or is held off after a fourth stall
within 60 s. -/
def execMotorStall (s : State) : Result :=
  match s.motor.stallSince with
  | some a =>
    let s := s.upTo (a + (motorSet s).stallMs * ms1)
    let stalls := s.now :: s.motor.stalls.filter (fun x => decide (s.now ≤ x + 60 * sec1))
    let n := stalls.length
    let s := raise 0xFB10#16 0 (be 1 (min 255 n) ++ be 2 s.motor.ma.natAbs ++ be 1 (if closedLoop s then 1 else 0)) s
    .next (setDriven (mapMotor (fun m => { m with
      stalls := stalls, stallSec := true, heldOff := m.heldOff || decide (4 ≤ n)
      holdUntil := if 4 ≤ n then none else some (s.now + 2 * sec1) }) s))
  | none => .next s

/-- STALL_HOLD_EXPIRY (R498): 2 s after a stall the drive resumes, where nothing else holds it off. -/
def execStallHoldExpiry (s : State) : Result :=
  match s.motor.holdUntil with
  | some h => .next (setDriven (mapMotor (fun m => { m with holdUntil := none, bemfAt := none, posHist := [] }) (s.upTo h)))
  | none => .next s

/-- PLANT_DIE_TEMPERATURE (R500, Table 22.5): the plant die crosses 135, 150 or 130 °C. -/
def execPlantDieTemperature (t : Nat) (deg : Int) (s : State) : Result :=
  let s := s.upTo t
  let s := { s with plant := { s.plant with dieTemp := deg } }
  if !powered s then .next s
  else
    let s := if 135 ≤ deg && !s.plant.derate then
        raise 0xFC01#16 0 (temp8 deg) { s with plant := { s.plant with derate := true } } else s
    if 150 ≤ deg && !s.plant.shut then
      .next (setDriven (raise 0xFC00#16 0 (temp8 deg) { s with
        plant := { s.plant with shut := true }
        spk := { s.spk with ch := s.spk.ch.map (fun c => { c with on := false }) } }))
    else if deg < 130 then
      let s := if s.plant.derate then clearAll 0xFC01#16 s else s
      let s := if s.plant.shut then clearAll 0xFC00#16 s else s
      .next (setDriven { s with plant := { s.plant with derate := false, shut := false } })
    else .next s

/-- CORE_DIE_OVERTEMP (Table 4.9): the core die above 125 °C raises FC10, which clears below 120 °C. -/
def execCoreDieOvertemp (t : Nat) (deg : Int) (s : State) : Result :=
  let s := s.upTo t
  let s := { s with plant := { s.plant with coreTemp := deg } }
  if !powered s then .next s
  else if 125 < deg && !anyActive 0xFC10#16 s then .next (raise 0xFC10#16 0 (temp8 deg) s)
  else if deg < 120 && anyActive 0xFC10#16 s then .next (clearAll 0xFC10#16 s)
  else .next s

end Sys2Proof.Machine
end

