-- ==== Sys2Proof/Machine/CmdPorts.lean ====
section
/-! DEFINITION. The meanings of the network ports, PoDL and the switch (chapter 7). -/

namespace Sys2Proof.Machine

open Sys2Proof

/-- One port changed. -/
def setPort (i : Fin 2) (f : Port → Port) (s : State) : State := { s with ports := s.ports.set i (f s.ports[i]) }

/-- One port's diagnostic result (R154, R155). -/
def diagnose (i : Fin 2) (r : Diag × Nat) (s : State) : State :=
  if !s.ports[i].enabled then s
  else
    let s := setPort i (fun p => { p with diag := r.1, forced := false, altAt := some (s.now + 2 * sec1) }) s
    match r.1 with
    | .open => raise 0xF402#16 i.val (be 1 i.val ++ be 1 1 ++ be 1 (if r.2 ≤ 40 then r.2 else 255)) s
    | .short => raise 0xF402#16 i.val (be 1 i.val ++ be 1 2 ++ be 1 (if r.2 ≤ 40 then r.2 else 255)) s
    | _ => refreshLeds s

/-- CABLE_DIAGNOSTIC (R154, R155): both enabled ports classified by the base instant + 50 ms; an open or a short raises
F402 with its distance in metres. It runs once, before link training begins, and at no other time. -/
def execCableDiagnostic (a b : Diag × Nat) (s : State) : Result :=
  match s.start.base with
  | none => .next s
  | some l =>
    if !awake s || s.ports.toList.any (fun p => p.enabled && p.diag != .none) then .next s
    else .next (diagnose 1 b (diagnose 0 a (s.upTo (l + 50 * ms1))))

/-- The role a port seeks in auto-negotiation and takes in forced operation: port B master, port A slave (R156). -/
def seeksMaster (i : Fin 2) : Bool := i == 1

/-- The page a port advertises: its SP_LINK speed and EEE, and the role it seeks (R156, Table 7.1). -/
def ownPage (i : Fin 2) : AnPage := { same := true, eee := true, master := seeksMaster i }

/-- Master-slave resolution: each side takes the role it seeks; where both seek the same one, the higher nonce becomes master (Table
7.1, as IEEE 802.3 Clause 98 resolves it; log entry 136). -/
def resolveMaster (own partner : AnPage) : Bool := if own.master != partner.master then own.master else !partner.wins

/-- LINK_MODE_ALTERNATE (R156): 2 s of one mode have passed without link; `page` is what auto-negotiation showed, none where no
page arrived. Any page keeps the port in auto-negotiation. -/
def execLinkModeAlternate (i : Fin 2) (page : Option AnPage) (s : State) : Result :=
  match s.ports[i].altAt with
  | none => .next s
  | some d =>
    let s := s.upTo d
    let p := s.ports[i]
    if !p.enabled || p.phy || p.diag == .none then .next s
    else if !p.forced && page.isSome then .next (setPort i (fun p => { p with page := page, altAt := some (d + 2 * sec1) }) s)
    else .next (setPort i (fun p => { p with forced := !p.forced, altAt := some (d + 2 * sec1) }) s)

/-- Whether the PHY can report link: trained after the port's diagnostic, in forced operation, or with a common ability in
auto-negotiation (R154, R156). -/
def mayLink (p : Port) (page : Option AnPage) : Bool := p.diag != .none && (p.forced || page.any (·.same))

/-- PHY_LINK_CHANGE (R157, R158): the PHY link status changes; in auto-negotiation the partner's page settles the roles, and
whether EEE is agreed (R156, R167). A port that loses its link begins a fresh 2 s in the mode it had linked in; the rule does not
say how it starts again (log entry 137). -/
def execPhyLinkChange (t : Nat) (i : Fin 2) (up : Bool) (page : Option AnPage) (s : State) : Result :=
  let s := s.upTo t
  let p := s.ports[i]
  if !p.enabled || p.phy == up || (up && !mayLink p page) then .next s
  else
    .next (setPort i (fun p => { p with
      phy := up, phySince := s.now, asleep := false
      page := if up && !p.forced then page else p.page
      eee := up && !p.forced && page.any (·.eee)
      master := if p.forced then seeksMaster i else page.elim p.master (resolveMaster (ownPage i))
      altAt := if up then none else some (s.now + 2 * sec1) }) s)

/-- LINK_DECLARE (R157, R159): the PHY status has held for 200 ms and is declared. -/
def execLinkDeclare (i : Fin 2) (s : State) : Result :=
  let p := s.ports[i]
  if !p.enabled || p.phy == p.up then .next s
  else
    let s := s.upTo (p.phySince + 200 * ms1)
    let l := s.now :: p.changes.filter (fun t => decide (s.now < t + 60 * sec1))
    let s := setPort i (fun p => { p with
      up := p.phy, changes := l
      asCapable := false, pdelayOk := 0, pdelayDone := 0, pdelaySent := none, pdelayLost := 0, best1 := none, annDeadline := none
      pdelayAt := if p.phy then some s.now else none
      announceAt := if p.phy then some s.now else none
      syncAt := if p.phy then some s.now else none }) s
    let s := if s.ports[i].up then
        (let g := s.gptp
         clear 0xF400#16 i.val { s with gptp :=
          if g.prioHeld && g.priority255.isNone then { g with priority255 := some (s.now + 2 * sec1) } else g })
      else raise 0xF400#16 i.val [BitVec.ofNat 8 i.val, 0#8] s
    .next (if 5 ≤ l.length && !isActive 0xF401#16 i.val s then raise 0xF401#16 i.val (be 1 i.val) s else s)

/-- LINK_UP_DEADLINE (R159): 10 s on, a port whose pair is good is not up; F400 with reason 1, or 2 where the partner showed
only another speed. -/
def execLinkUpDeadline (i : Fin 2) (s : State) : Result :=
  match s.start.base with
  | none => .next s
  | some b =>
    let s := s.upTo (b + 10 * sec1)
    let p := s.ports[i]
    if p.enabled && p.diag == .good && !p.up then
      .next (raise 0xF400#16 i.val [BitVec.ofNat 8 i.val, if p.page.any (fun q => !q.same) then 2#8 else 1#8] s)
    else .next s

/-- LINK_CHANGE_QUIET (R159): 60 s without a declared change clear F401. -/
def execLinkChangeQuiet (i : Fin 2) (s : State) : Result :=
  match s.ports[i].changes with
  | [] => .next s
  | t :: _ =>
    let s := s.upTo (t + 60 * sec1)
    .next (clear 0xF401#16 i.val (setPort i (fun p => { p with changes := [] }) s))

/-- The classes the front end declares compatibility with: unregulated, 0 and 1 at 12 V, 4 and 5 at 24 V (R160). -/
def podlClasses : List Nat := [0, 1, 4, 5]

/-- PODL_CLASSIFICATION (R160): the PSE reads the classification, and the accepted classes answer it; no answer where SP_LINK turns
PoDL off (R161). -/
def execPodlClassification (t : Nat) (s : State) : Result :=
  let s := s.upTo t
  .next (if s.podl.signature then { s with podl := { s.podl with classifiedAt := some s.now, answer := podlClasses } } else s)

/-- PODL_POWER_APPLIED (R160): the PSE applies 12 V or 24 V; PODL_EN goes high and FA40 clears. -/
def execPodlPowerApplied (t : Nat) (volts24 : Bool) (pairMv : Nat) (s : State) : Result :=
  let s := s.upTo t
  if s.podl.signature then
    .next (clearAll 0xFA40#16 { s with
      podl := { s.podl with enable := true, volts24 := volts24, classifiedAt := none }
      plant := { s.plant with pairMv := pairMv } })
  else .next s

/-- PODL_POWER_TIMEOUT (R161): no power within 2 s of a classification while running; FA40. The rule names levels 0 to 7; that
level 15, which has PoDL on as level 0 has, raises it too is the model's choice (log entry 138). -/
def execPodlPowerTimeout (s : State) : Result :=
  match s.podl.classifiedAt with
  | none => .next s
  | some c =>
    let s := s.upTo (c + 2 * sec1)
    let s := { s with podl := { s.podl with classifiedAt := none } }
    if s.start.tRun.isSome && linkPodl (lvlD s 6) && !s.podl.enable then .next (raise 0xFA40#16 0 [] s) else .next s

/-! ### The switch (R162, R163) -/

/-- Whether a flow forwards a packet number: not in its window, nor more than 32 below the highest in it (R163). -/
def flowAdmits (w : Flow) (pn : Nat) : Bool :=
  !w.seen.contains pn && decide (w.seen.foldl max 0 ≤ pn + 32)

/-- The forwarding decision of R163: the flow table after it, none where the frame is dropped. -/
def forwardFlow (now : Nat) (f : NetFrame) (pn : Nat) (l : List Flow) : Option (List Flow) :=
  match l.find? (fun w => w.src == f.src && w.dst == f.dst) with
  | some w =>
    if flowAdmits w pn then
      some (l.map (fun x => if x.src == f.src && x.dst == f.dst then
        { x with seen := (pn :: x.seen).take 32, last := now } else x))
    else none
  | none =>
    if l.length < 9216 then some (l ++ [{ src := f.src, dst := f.dst, seen := [pn], last := now }]) else none

/-- The EUI-48 in a stream frame's stream ID. -/
def streamEuiOf (f : NetFrame) : Option (BitVec 48) :=
  match f.body with
  | .aaf _ a => some a.streamEui
  | .crf _ c => some c.streamEui
  | _ => none

/-- A frame of the own tenant, kind and node that carries another EUI-48: F411, at most once per 60 s (R592). -/
def checkShared (f : NetFrame) (s : State) : State :=
  match streamEuiOf f with
  | none => s
  | some e =>
    let pairEui := match s.red.pair with
      | some r => r.eui == e
      | none => false
    if dstTenant f.dst == tenant s && dstNode f.dst == node s && decide (dstKind f.dst ≤ 3) && e != s.eui48
        && !pairEui && s.start.mode.isSome then
      let s := { s with status := { s.status with sharedSeen := some s.now } }
      let again := match s.status.sharedRaised with
        | some r => decide (r + 60 * sec1 ≤ s.now)
        | none => true
      if again then
        raise 0xF411#16 0 (be 1 (dstKind f.dst) ++ be 1 (node s) ++ be 6 e.toNat)
          { s with status := { s.status with sharedRaised := some s.now } }
      else s
    else s

/-- What the switch sees of the other device of a pair: its address at all, and its program frames during a start (R232, R236). -/
def seePair (f : NetFrame) (s : State) : State :=
  match s.red.pair with
  | none => s
  | some r =>
    if f.src == r.eui then
      { s with red := { s.red with
        lastSeen := s.now
        sawActing := s.red.sawActing || (s.start.mode.isNone && dstKind f.dst == 0 && dstNode f.dst == node s) } }
    else s

/-- A frame the switch forwards at most once, to the other port where that is up (R163, R164). -/
def forwardFrame (i : Fin 2) (f : NetFrame) (s : State) : State :=
  match forwardFlow s.now f ((f.sec.map (·.pn)).getD 0) s.switch.flows with
  | none => s
  | some l =>
    let s := { s with switch := { s.switch with flows := l } }
    if s.ports[1 - i].up then forwardTo (1 - i) f s else s

/-- The rules of R162 in order: gPTP goes to the time-aware function, whose commands carry what it does; a frame of no admitted form
or of the own address is dropped; what the device listens to is offered to the endpoint, whose commands take only such frames; and
the frame is forwarded. -/
def switchIn (i : Fin 2) (f : NetFrame) (s : State) : State :=
  let s := seePair f s
  match f.body with
  | .gptp _ => s
  | _ =>
    if inMode .slumber s || !s.switch.tables || !switchAdmits f || f.src == s.eui48 then s
    else
      let s := checkShared f s
      let s := if isOffered s f then { s with switch := { s.switch with offered := some f } } else s
      forwardFrame i f s

/-- FRAME_INGRESS (R162, R163): a frame received at a port that is up and has PHY link crosses into SYS and is taken through the
rules; one that comes sooner is dropped. -/
def execFrameIngress (t : Nat) (i : Fin 2) (f : NetFrame) (s : State) : Result :=
  let s := setPort i (fun p => { p with asleep := false }) (s.upTo t)
  if !awake s || !s.ports[i].up || !s.ports[i].phy then .next s
  else .next (crossIn ⟨i.val, by omega⟩ (frameWords f) (switchIn i f) s)

/-- FLOW_IDLE_EXPIRY (R163): a flow idle for 20 ms is removed. -/
def execFlowIdleExpiry (src dst : BitVec 48) (s : State) : Result :=
  match s.switch.flows.find? (fun w => w.src == src && w.dst == dst) with
  | none => .next s
  | some w =>
    let s := s.upTo (w.last + 20 * ms1)
    .next { s with switch := { s.switch with
      flows := s.switch.flows.filter (fun x => !(x.src == src && x.dst == dst)) } }

/-- PARTNER_ASLEEP (R168): the link partner has held low-power idle for more than 100 ms. -/
def execPartnerAsleep (t : Nat) (i : Fin 2) (s : State) : Result :=
  .next (setPort i (fun p => { p with asleep := p.phy }) (s.upTo t))

/-- LEADER_ABSENT_TIMEOUT (R591): 3 s without a leader: the one named, or with none named since t_run. -/
def execLeaderAbsentTimeout (n : Option (BitVec 8)) (s : State) : Result :=
  match n with
  | some n =>
    (match s.status.heard.find? (fun x => x.1 == n) with
     | some x => .next (leaderAbsent n (s.upTo (x.2 + 3 * sec1)))
     | none => .next s)
  | none =>
    if s.status.heard.isEmpty && (inMode .member s || inMode .partner s) && !anyActive 0xF410#16 s then
      .next (raise 0xF410#16 0 [] (s.upTo (s.status.silentFrom + 3 * sec1)))
    else .next s

/-- SHARED_NODE_ADDRESS_QUIET (R592): 60 s without such frames; F411 clears. -/
def execSharedNodeAddressQuiet (s : State) : Result :=
  match s.status.sharedSeen with
  | none => .next s
  | some l =>
    let s := s.upTo (l + 60 * sec1)
    .next (clearAll 0xF411#16 { s with status := { s.status with sharedSeen := none } })

/-- What a heartbeat of the tenant tells: a leader's own teaches LL, its stay-awake flag keeps a member awake, and one at a beacon
instant is a wake beacon received (R83, R90, R103). The addressee reads the role too: a member other than one of SP_ROLE 2
keeps its leader awake. -/
def takeHeartbeat (addressed : Bool) (b : List Byte) (s : State) : State :=
  let leads := (at8 b 8).toNat == 3
  let s := if leads then hearLeader true (at8 b 5) s else s
  let beacon := leads && (ofBe (slice 16 8 b) + 8 * sec1 - offset s) % (8 * sec1) == 0
  let s := if beacon then endSearch { s with status := { s.status with beaconBack := true } } else s
  let keepsAwake := (inMode .member s && leads && (at8 b 12).getLsbD 0)
    || (inMode .leader s && addressed && (at8 b 8).toNat == 2 && at8 b 9 != 2#8)
  if keepsAwake then breakSlumber s else s

/-- FUMAROLE_FRAME_RECEIVE (R103): a kind 4 frame of the own tenant; a heartbeat is read. A sleeping member's beacon is its own
command. -/
def execFumaroleFrameReceive (t : Nat) (f : NetFrame) (s : State) : Result :=
  let s := s.upTo t
  if dstKind f.dst != 4 then .next s
  else
    .next (endpointIn f (verified f (fun s =>
      match f.body with
      | .bytes _ b =>
        if at8 b 0 == 0xC3#8 && at8 b 1 == 0x3C#8 && at8 b 2 == 0x10#8 then takeHeartbeat (dstNode f.dst == node s) b s else s
      | _ => s)) s)

end Sys2Proof.Machine
end

