-- ==== Sys2Proof/Machine/CmdSleep.lean ====
section
/-! DEFINITION. The meanings of SLUMBER: entry, sleep, beacons and waking (chapter 3). -/

namespace Sys2Proof.Machine

open Sys2Proof

/-- SLUMBER_CONDITIONS_HELD (R83): every condition has held since `since`, for 60 s. A leader in contact with its partner
proposes the first boundary at least 10 ms on; any other device, a leader without contact among them, enters at the next free
boundary. That a leader whose partner is out of contact may slumber alone is the model's reading: the rule says whose agreement a
leader with a partner needs, and not what a partner it cannot reach would withhold (log entry 133). -/
def execSlumberConditionsHeld (since : Nat) (s : State) : Result :=
  let s := s.upTo (since + 60 * sec1)
  if maySlumber s && slumberState s && decide (s.sleep.brokenAt ≤ since) && s.sleep.entryPending == false then
    (if inMode .leader s && s.red.contact then
      let b := s.blocks.number + 11
      .next (ask 5 b { s with
        sleep := { s.sleep with condAt := some since }
        red := { s.red with proposed := some b } })
    else .next { s with sleep := { s.sleep with condAt := some since, entryPending := true, entryAt := s.now } })
  else .next s

/-- Whether STAT and the network path have sent every frame they hold. -/
def pathsEmpty (s : State) : Bool :=
  s.status.stat.queue.isEmpty && s.status.stat.waiting.isEmpty && s.status.net.queue.isEmpty && s.status.net.waiting.isEmpty

/-- SLUMBER_POWER_DOWN (R84): once STAT and the network queue are empty, at most 360 ms after the boundary, the core die powers
down but for the always-on domain and the low-power receiver, with the watchdog held stopped. Device time runs on from the
always-on oscillator, within ±200 ppm of REF by a free value (log entry 3). The loft is not retained. -/
def execSlumberPowerDown (t : Nat) (s : State) : Result :=
  let s := pump (s.upTo t)
  if inMode .slumber s && s.sleep.draining && (pathsEmpty s || decide (s.sleep.enteredAt + 360 * ms1 ≤ s.now)) then
    let r := drawFree s
    let s := r.2
    .next { s with
      start := { s.start with armedAt := none }
      status := { s.status with stat := {}, net := {} }
      gptp := { s.gptp with aoPpb := some ((r.1 % 400001 : Nat) - 200000 : Int) }
      mem := { s.mem with loft := [] }
      sleep := { s.sleep with draining := false, down := true } }
  else .next s

/-- BEACON_WINDOW_OPEN (R86): a sleeping member or partner listens around the expected beacon instant. -/
def execBeaconWindowOpen (s : State) : Result :=
  if inMode .slumber s && s.sleep.down && s.start.left != some .leader && s.sleep.wakeAt.isNone then
    let w := windowWidth s.sleep.missed
    let s := s.upToDevice (s.sleep.beaconAt - w / 2)
    .next { s with sleep := { s.sleep with
      window := some (s.sleep.beaconAt - w / 2, s.sleep.beaconAt + w / 2), got := false } }
  else .next s

/-- The reference selected before a wake seeds the DCO, and every measured one requalifies in windows from t_wake (R89, R144). -/
def wakeWells (s : State) : State :=
  let w := s.well
  let s := { s with well := { w with
    windowEnd := some (s.now + sec1), crfGap := true, crfLast := none, crfStamps := []
    refs := w.refs.map (fun x => { x with qualified := false }), last10 := [], histAt := none } }
  match w.selected with
  | some r => seedDco r s
  | none => s

/-- Waking at an instant (R89): the PSRAM leaves self-refresh and the loft is still to be reloaded, the watchdog is rearmed, START
is driven low again, gPTP and references requalify, and a leader sets its stay-awake flag. Any other device lets go of an
entry into SLUMBER that waits (R29). -/
def wakeNow (s : State) : State :=
  if inMode .slumber s && s.sleep.wakeAt.isNone then
    refreshLeds (wakeWells { s with
      start := { s.start with armedAt := if s.start.armedAt.isSome then s.start.armedAt else some s.now }
      sleep := { s.sleep with
        wakeAt := some s.now, loftBack := !s.sleep.down, down := false, draining := false, window := none
        stayAwake := s.sleep.stayAwake || s.start.left == some .leader }
      mem := { s.mem with selfRefresh := false }
      blocks := { s.blocks with startLow := true, releasedAt := none }
      gptp := { s.gptp with prioHeld := true, priority255 := some (s.now + 2 * sec1), synced := false, good := 0
                            okSince := none, aoPpb := none } })
  else { s with sleep := { s.sleep with entryPending := false, entryB := none, condAt := none, brokenAt := s.now } }

/-- BEACON_RECEIVE (R86, R591): a beacon in the window counts its leader as heard; one from a leader other than whom no lower
node was heard in the last 3 s, or none at all, realigns the schedule, and its stay-awake flag wakes the device. The followed
leader's own silence between beacons makes it absent under R591, so that no leader known before stands in the way (log entry
134). -/
def execBeaconReceive (t : Nat) (from_ : BitVec 8) (stamp : Nat) (stayAwake : Bool) (s : State) : Result :=
  let s := s.upTo t
  match s.sleep.window with
  | none => .next s
  | some (a, b) =>
    if s.gptp.time < a || b < s.gptp.time || !netHears s then .next s
    else
      let heard := (from_, s.now) :: s.status.heard.filter (fun x => x.1 != from_ && decide (s.now ≤ x.2 + 3 * sec1))
      let s := { s with status := { s.status with heard := heard, leaderNode := lowestLeader heard } }
      if lowestLeader heard != some from_ then .next s
      else
        let s := { s with
          gptp := { s.gptp with time := stamp % 2 ^ 64, frac := 0 }
          sleep := { s.sleep with beaconAt := stamp + 8 * sec1, missed := 0, got := true
                                  window := some (stamp - (b - a) / 2, stamp + (b - a) / 2) } }
        .next (if stayAwake then wakeNow s else s)

/-- The search has failed (R87): the device leaves SLUMBER, F470 is raised at the resumption, and references are acquired as at a
start, their deadline measured from the wake; a partner asks its leader to wake (R88). -/
def searchFails (s : State) : State :=
  let s := wakeNow s
  let partner := s.start.left == some .partner
  let s := { s with
    sleep := { s.sleep with searchFailed := true, missed := 0 }
    well := { s.well with atStart := true, selected := none, locked := false, refDeadline := some (s.now + 10 * sec1) }
    red := { s.red with wakeAnswer := if partner then some (s.now + 30 * ms1) else s.red.wakeAnswer } }
  let s := match orderOf s with
    | .local :: _ => startSelect .local s
    | _ => s
  if partner then ask 7 0 s else s

/-- BEACON_WINDOW_CLOSE (R87): the window ends; a miss advances the search, and a miss of the 2 s listen ends it. -/
def execBeaconWindowClose (s : State) : Result :=
  match s.sleep.window with
  | none => .next s
  | some (_, b) =>
    let s := s.upToDevice b
    if s.sleep.got then .next { s with sleep := { s.sleep with window := none, got := false } }
    else if 5 ≤ s.sleep.missed then .next (searchFails s)
    else
      .next { s with sleep := { s.sleep with
        window := none, missed := s.sleep.missed + 1, beaconAt := s.sleep.beaconAt + 8 * sec1 } }

/-- BEACON_SEARCH_FAILED (R87): the 2 s listen ended without a beacon. -/
def execBeaconSearchFailed (s : State) : Result :=
  match s.sleep.window with
  | none => .next s
  | some (_, b) => if s.sleep.missed < 5 || s.sleep.got then .next s else .next (searchFails (s.upToDevice b))

/-- PARTNER_WAKE_ANSWER_TIMEOUT (R88): 30 ms after the wake request the partner's loss-detection timers start. -/
def execPartnerWakeAnswerTimeout (s : State) : Result :=
  match s.red.wakeAnswer with
  | some d =>
    let s := s.upTo d
    .next { s with red := { s.red with wakeAnswer := none, lastFrame := s.now, lastSeen := s.now } }
  | none => .next s

/-- WAKE_EVENT (R89): any of the wake events; an entry that still waits is cancelled (R29). -/
def execWakeEvent (t : Nat) (cause : WakeCause) (s : State) : Result :=
  let s := s.upTo t
  let s := match cause with
    | .wake => { s with lands := { s.lands with wake := true } }
    | .cue c => { s with lands := { s.lands with cue := c } }
    | _ => s
  .next (wakeNow s)

/-- WAKE_REQUEST (R88): code 7; a sleeping leader wakes and answers its partner at once with a heartbeat. -/
def execWakeRequest (t : Nat) (x : PairFrame) (s : State) : Result :=
  let work (h : TieHead) (s : State) : State :=
    if h.payload.take 1 == [7#8] && inMode .slumber s && s.start.left == some .leader then
      let s := wakeNow s
      let f := tieFrame s 1 (be 4 (stepNow s) ++ be 8 s.gptp.time)
      if coldRole (role s) then sendPartner 3 f s else tiePut f s
    else s
  .next (receivePair x 4 work (s.upTo t))

end Sys2Proof.Machine
end

