-- ==== Sys2Proof/Machine/CmdPower.lean ====
section
/-! DEFINITION. The meanings of the commands of the power path and the charger (chapter 21). -/

namespace Sys2Proof.Machine

open Sys2Proof

/-- A change of the plant's record. -/
def withPlant (f : Plant → Plant) (s : State) : State := { s with plant := f s.plant }

/-- VIN_VALID (R461): the battery switch turns off, then the VIN path carries VSYS; the charge timer starts afresh, FA01
clears, and FA00 at the next boundary. In SLUMBER it wakes the device, and it ends a wait to enter it (R29, R89). -/
def execVinValid (t vinMv : Nat) (s : State) : Result :=
  let s := s.upTo t
  let s := withPlant (fun p => { p with
    vinMv := vinMv, vinValid := true, vinPath := true, sysGate := false, vsysMv := vinMv, switchOff := false, openAt := none
    timerNs := 0, timerAt := s.now, vinBackAt := if p.onBattery || p.vinLostAt.isSome then some s.now else none }) s
  let s := if anyActive 0xFA01#16 s then clearAll 0xFA01#16 s else s
  .next (chargerUpdate (podlYield (wakeNow s)))

/-- VIN_LOST (R459, R460): the VIN path blocks, the battery switch turns on where it is permitted, the charger is off; FA00 and
its flags follow at the next block boundary. -/
def execVinLost (t vinMv meanMv : Nat) (s : State) : Result :=
  let s := s.upTo t
  if !s.plant.vinValid then .next (withPlant (fun p => { p with vinMv := vinMv }) s)
  else
    let s := withPlant (fun p => { p with
      vinMv := vinMv, vinValid := false, vinPath := false, vinLostAt := some s.now, vinBackAt := none, lostMean := meanMv
      lostVbat := p.vbatMv, lostPodl := s.podl.enable }) s
    let s := setSwitch s
    .next (chargerUpdate (withPlant (fun p => { p with vsysMv := if p.sysGate then p.vbatMv else 0 }) s))

/-- VIN_RANGE_TIMEOUT (R459): VIN above 2 V has not been valid for 1 s; FA01. -/
def execVinRangeTimeout (t vinMv : Nat) (s : State) : Result :=
  let s := withPlant (fun p => { p with vinMv := vinMv }) (s.upTo t)
  if s.plant.vinValid || vinMv ≤ 2000 || !awake s then .next s
  else .next (raise 0xFA01#16 0 (be 1 (if 42000 < vinMv then 1 else 0) ++ be 2 vinMv) s)

/-- The input budget in mW (Table 21.1). -/
def inputBudget (s : State) (vinMv : Nat) : Nat :=
  if s.podl.enable then (if s.podl.volts24 then 19000 else 9500) else vinMv * 5

/-- INPUT_BUDGET_LOOP (R462): above the budget the charger lowers its current, and once that is zero the plant power is capped;
within it the cap goes first and the current may rise. By how much is not stated. -/
def execInputBudgetLoop (t vinMv vinMa vsysMv : Nat) (s : State) : Result :=
  let s := withPlant (fun p => { p with vinMv := vinMv, vsysMv := vsysMv }) (s.upTo t)
  if !s.plant.vinValid then .next s
  else
    let r := drawFree s
    let s := r.2
    let p := s.plant
    let ma := min p.limitMa p.applyMa
    let above := decide (inputBudget s vinMv < vinMv * vinMa / 1000)
    let s :=
      if above && decide (0 < ma) then withPlant (fun p => { p with limitMa := r.1 % ma }) s
      else if above then
        withPlant (fun p => { p with limitMa := 0, plantCapMw := some (r.1 % max 1 (p.plantCapMw.getD 30000)) }) s
      else if p.plantCapMw.isSome then
        withPlant (fun p => { p with plantCapMw := if r.1 % 2 = 0 then none else p.plantCapMw.map (· + r.1 % 1000) }) s
      else withPlant (fun p => { p with limitMa := min 65535 (p.limitMa + r.1 % 1000) }) s
    .next (chargerUpdate s)

/-- BATTERY_ABSENT_TIMEOUT (R465): a strapped pack absent for 1 s; FA10. -/
def execBatteryAbsentTimeout (s : State) : Result :=
  match s.start.tLatch with
  | some l =>
    if s.plant.absent && (battSetup (lvlD s 12)).isSome && !anyActive 0xFA10#16 s && awake s then
      .next (raise 0xFA10#16 0 [] (s.upTo (max l (s.plant.absentAt.getD l) + sec1)))
    else .next s
  | none => .next s

/-- REQUESTED_LIMITS (R468): context 15's request reaches the plant die, which applies the lower of each value and its ceiling.
None is sent before t_run, in SLUMBER or SAFE, without the die-to-die link, or while context 15 misses its deadlines. -/
def execRequestedLimits (t : Nat) (s : State) : Result :=
  let s := s.upTo t
  if s.start.tRun.isNone || inMode .safe s || inMode .slumber s || s.plant.linkLost.isSome || s.thr.missRow != 0 then .next s
  else
    let req := requestNow s
    let since := match s.plant.reqAt with
      | some a => if s.now < a + 10 * ms1 then some (s.plant.reqSince.getD s.now) else some s.now
      | none => some s.now
    .next (applyLimits (withPlant (fun p => { p with req := req, reqAt := some s.now, reqSince := since }) s))

/-- FIXED_THRESHOLD_ENTRY (R468): 10 ms without a request. -/
def execFixedThresholdEntry (s : State) : Result :=
  match s.plant.reqAt with
  | some a =>
    if s.plant.fixed then .next s
    else .next (chargerUpdate (withPlant (fun p => { p with fixed := true, reqSince := none }) (s.upTo (a + 10 * ms1))))
  | none => .next s

/-- FIXED_THRESHOLD_EXIT (R468): requests have arrived for 100 ms again. -/
def execFixedThresholdExit (s : State) : Result :=
  match s.plant.reqSince with
  | some a =>
    if !s.plant.fixed || inMode .safe s then .next s
    else .next (chargerUpdate (withPlant (fun p => { p with fixed := false, fixedHot := false }) (s.upTo (a + 100 * ms1))))
  | none => .next s

/-- CHARGE_COMPLETE_TIMER (R467, R472): in constant voltage, below a tenth of the current for 60 s; complete, 100 %. -/
def execChargeCompleteTimer (s : State) : Result :=
  match s.plant.taperAt with
  | some a =>
    if s.plant.phase != 3 then .next s
    else
      let s := s.upTo (a + 60 * sec1)
      let s := setSoc 100 (withPlant (fun p => { p with phase := 4, state := 4, taperAt := none, timerNs := 0, timerAt := s.now }) s)
      .next (applyLimits s)
  | none => .next s

/-- CHARGE_TIMER_EXPIRY (R467): the time spent charging exceeds its limit; FA20 cause 3. -/
def execChargeTimerExpiry (s : State) : Result :=
  match chargeSet s with
  | some c =>
    let p := s.plant
    if p.state == 1 || p.state == 2 || p.state == 3 || p.state == 5 then
      let s := s.upTo (p.timerAt + (timerLimit c - p.timerNs))
      .next (chargerUpdate (suspendBy 0xFA20 3 (raise 0xFA20#16 3 (be 1 3) (chargeTick s))))
    else .next s
  | none => .next s

/-- PRECONDITION_TIMEOUT (R467): 30 min in state 1; FA12 with VBAT_S and the minutes. -/
def execPreconditionTimeout (s : State) : Result :=
  match s.plant.preAt with
  | some a =>
    if s.plant.phase != 1 then .next s
    else
      let s := s.upTo (a + 1800 * sec1)
      let d := be 2 s.plant.vbatMv ++ be 2 ((s.now - a) / (60 * sec1))
      .next (chargerUpdate (suspendBy 0xFA12 0 (raise 0xFA12#16 0 d s)))
  | none => .next s

/-- A sense fault: FA20 with its cause, once (R465, R477). -/
def senseFault (cause : Nat) (bad : Bool) (s : State) : State :=
  if bad && !isActive 0xFA20#16 cause s then suspendBy 0xFA20 cause (raise 0xFA20#16 cause (be 1 cause) s) else s

/-- FA11 clears with T_NTC inside T_min + 2 °C to T_max - 2 °C (R470). -/
def zoneClear (c : ChargeSet) (s : State) : State :=
  let p := s.plant
  let inside := decide ((c.tMin + 2) * 1000 ≤ p.ntcMk) && decide (p.ntcMk ≤ (c.tMax - 2) * 1000)
  if inside && anyActive 0xFA11#16 s then clearAll 0xFA11#16 (unsuspend 0xFA11 0 (unsuspend 0xFA11 1 s)) else s

/-- The zones of a reading, and FA11 as they suspend charging (R470). -/
def zoneUpdate (c : ChargeSet) (s : State) : State :=
  let p := s.plant
  let cold := coldZone c p.cold p.ntcMk
  let hot := hotZone c p.hot p.ntcMk p.predMk
  let s := withPlant (fun p => { p with
    cold := cold, hot := hot, zoneUa := zoneLimit c hot p.zoneUa
    zoneSec := decide (cold < 2) || decide (1 ≤ hot) }) s
  let s := if cold = 0 && !p.suspend.contains (0xFA11 * 256) then suspendBy 0xFA11 0 (packHeat 0 s) else s
  if hot = 3 && !p.suspend.contains (0xFA11 * 256 + 1) then suspendBy 0xFA11 1 (packHeat 1 s) else s

/-- A reading taken: NTC, VBAT_S and current, absence, and the faults of the sensing (R465). -/
def takeReading (c : ChargeSet) (x : PackReading) (s : State) : State :=
  let open_ := decide (970000 < x.ntcPpm)
  let gone := open_ && decide (x.vbatMv < 2000)
  let ntc := if open_ || x.ntcPpm < 30000 then s.plant.ntcMk else ntcTemp c.r25 c.beta x.ntcPpm
  let s := withPlant (fun p => { p with
    vbatMv := x.vbatMv, packMa := x.packMa, ntcMk := ntc, tNtc := degrees ntc
    absentAt := if gone && !p.absent then some s.now else p.absentAt, absent := p.absent || gone }) s
  senseFault 0 x.stageBad (senseFault 1 ((open_ && !gone) || x.ntcPpm < 30000) (senseFault 2 x.implausible s))

/-- BATTERY_THERMAL_UPDATE (R469, R470): once a millisecond: the reading, the rise and the prediction, the zones; at rest, in
the taper and without a capacity, what follows from them (R467, R472). In SLUMBER only the reading. -/
def execBatteryThermalUpdate (t : Nat) (x : PackReading) (s : State) : Result :=
  let s := s.upTo t
  match chargeSet s with
  | none => .next (withPlant (fun p => { p with vbatMv := x.vbatMv, packMa := x.packMa }) s)
  | some c =>
    if s.start.tLatch.isNone || inMode .slumber s then
      .next (withPlant (fun p => { p with vbatMv := x.vbatMv, packMa := x.packMa }) s)
    else
      let s := takeReading c x s
      let ss := steadyRise c.lfp x.packMa
      let th := riseStep c.tau ss s.plant.thetaNk
      let pred := predicted c.tau s.plant.ntcMk ss th
      let s := withPlant (fun p => { p with
        thetaNk := th, predMk := pred, tPred := degrees pred
        fixedHot := fixedHold p.fixedHot p.ntcMk
        restAt := if x.packMa.natAbs < 20 then some (p.restAt.getD s.now) else none
        taperAt := if p.phase = 3 ∧ x.packMa * 10 < (c.ma : Int) then some (p.taperAt.getD s.now) else none }) s
      let s := zoneClear c (if s.plant.fixed then s else zoneUpdate c s)
      let above := decide (pack (c.cellMv + 50) < x.vbatMv)
      let s := if !above && s.plant.suspend.contains (0xFA13 * 256) then unsuspend 0xFA13 0 (clear 0xFA13#16 0 s) else s
      let s := if c.mah.isNone && decide (s.plant.socAt ≤ s.now) then
          withPlant (fun p => { p with soc := restSoc s, socAt := s.now + sec1 }) s
        else countSoc x.packMa s
      .next (chargerUpdate s)

/-- DISCHARGE_CUTOFF (R471): while VSYS comes from the pack, VBAT_S filtered over 10 ms below the cutoff, or T_pred at the
discharge maximum; the switch opens 20 ms later. A sleeping core records nothing. -/
def execDischargeCutoff (t vbatMv : Nat) (s : State) : Result :=
  let s := withPlant (fun p => { p with vbatMv := vbatMv }) (s.upTo t)
  let p := s.plant
  if p.vinValid || !p.sysGate || p.openAt.isSome || s.start.tLatch.isNone then .next s
  else
    let hot := (chargeSet s).any (fun c => decide (c.tDis * 1000 ≤ p.predMk))
    let due := withPlant (fun p => { p with openAt := some (s.now + 20 * ms1) })
    if vbatMv < cutoffMv s then
      .next (due (if s.sleep.down then s else raise 0xFA13#16 1 (be 1 1 ++ be 2 vbatMv) s))
    else if hot then .next (due (if s.sleep.down then s else packHeat 2 s))
    else .next s

/-- BATTERY_SWITCH_OPEN (R471): 20 ms after the limit the switch opens; without VIN the device browns out. -/
def execBatterySwitchOpen (s : State) : Result :=
  match s.plant.openAt with
  | some a =>
    let s := withPlant (fun p => { p with sysGate := false, switchOff := true, openAt := none }) (s.upTo a)
    if s.plant.vinValid then .next s
    else .next (resetDevice .supplySupervisor false (withPlant (fun p => { p with vsysMv := 0 }) s))
  | none => .next s

/-- PACK_OVERVOLTAGE (R471): VIN valid and VBAT_S above the threshold for 10 ms; FA13 cause 0, charging suspended. -/
def execPackOvervoltage (t vbatMv : Nat) (s : State) : Result :=
  let s := withPlant (fun p => { p with vbatMv := vbatMv }) (s.upTo t)
  match chargeSet s with
  | some c =>
    if s.plant.vinValid && s.start.tLatch.isSome && decide (pack (c.cellMv + 50) < vbatMv) then
      .next (chargerUpdate (suspendBy 0xFA13 0 (raise 0xFA13#16 0 (be 1 0 ++ be 2 vbatMv) s)))
    else .next s
  | none => .next s

/-- SOC_REST_RECALIBRATE (R472): 30 min below 20 mA; the state of charge is taken from VBAT_S. -/
def execSocRestRecalibrate (s : State) : Result :=
  match s.plant.restAt, chargeSet s with
  | some a, some _ =>
    let s := s.upTo (a + 1800 * sec1)
    .next (setSoc (restSoc s) (withPlant (fun p => { p with restAt := some s.now }) s))
  | _, _ => .next s

/-- CHARGER_VOLTAGE_THRESHOLD (R467): VBAT_S crosses a threshold and the charger moves between its states; with VIN absent at
power-on, above 7.50 V the battery switch closes (R471). -/
def execChargerVoltageThreshold (t vbatMv : Nat) (s : State) : Result :=
  let s := withPlant (fun p => { p with vbatMv := vbatMv }) (s.upTo t)
  .next (chargerUpdate (if s.start.tLatch.isNone then setSwitch s else s))

/-- PACK_CONNECTED (R465): BAT_NTC and VBAT_S no longer read absent; FA10 clears, the charge timer starts at zero, and the
charger may leave state 0. -/
def execPackConnected (t : Nat) (x : PackReading) (s : State) : Result :=
  let s := s.upTo t
  if 970000 < x.ntcPpm ∧ x.vbatMv < 2000 then .next s
  else
    let s := withPlant (fun p => { p with
      absent := false, absentAt := none, vbatMv := x.vbatMv, packMa := x.packMa, timerNs := 0, timerAt := s.now
      preAt := none, preMs := 0, restAt := none }) s
    let s := match chargeSet s with
      | some c => takeReading c x s
      | none => s
    let s := if anyActive 0xFA10#16 s then clearAll 0xFA10#16 s else s
    .next (podlYield (chargerUpdate (if s.plant.vinValid then s else setSwitch s)))

end Sys2Proof.Machine
end

