-- ==== Sys2Proof/Machine/CmdStart.lean ====
section
/-! DEFINITION. The meanings of resets, straps, the start sequence and the counter (chapters 2 and 3). -/

namespace Sys2Proof.Machine

open Sys2Proof

/-- POWER_ON_RESET (R69): a new start; where the always-on domain had lost power, the counter, its codes and the retention
RAM are empty (R77, R145, R364, R512). TCXO_IN is looked for at power-on (R128), and another REF source than that of its points
clears the aging log (R518). -/
def execPowerOnReset (t : Nat) (aoLost tcxoIn : Bool) (s : State) : Result :=
  let s := resetDevice .powerOn false (s.upTo t)
  let s := { s with well := { s.well with tcxo := tcxoIn }
                    lands := { s.lands with resetN := false } }
  .next (if aoLost then
    { s with aon := {}, history := [], thr := { s.thr with retired := [] }
             endur := {}, gran := { s.gran with hours := 0, hourAt := s.now + 3600 * sec1 } }
  else if s.endur.points.all (fun p => p.tcxo == tcxoIn) then s
  else { s with endur := { map := s.endur.map } })

/-- RESET_N holds the device in reset. -/
def resetLow (s : State) : State :=
  let s := resetDevice .resetN false s
  { s with lands := { s.lands with resetN := false } }

/-- RESET_N_ASSERT (Table 25.8): a low of 10 µs or more always resets, one of 1 µs or less never does; between them the
spec states neither, and a free value decides. -/
def execResetNAssert (t lowNs : Nat) (s : State) : Result :=
  let s := s.upTo t
  if 10000 ≤ lowNs then .next (resetLow s)
  else if lowNs ≤ 1000 then .next s
  else
    let r := drawFree s
    .next (if r.1 % 2 = 1 then resetLow r.2 else r.2)

/-- RESET_RELEASE (R9): t_reset is the later of the RESET_N edge and the end of the power-on reset; device time is 0 there
(R173). Nothing happens while the test port or pre-conditioning holds the device in reset (R473, R588). -/
def execResetRelease (resetNRise porEnd : Nat) (s : State) : Result :=
  let s := s.upTo (max resetNRise porEnd)
  let s := { s with lands := { s.lands with resetN := true } }
  if awake s || s.jtag.hold || s.plant.precond then .next s else .next (releaseReset s)

/-- SUPPLY_SUPERVISOR_RESET (R464): a brown-out, not counted as a failed start; VSYS carries nothing any more. -/
def execSupplySupervisorReset (t : Nat) (s : State) : Result :=
  .next (resetDevice .supplySupervisor false (s.upTo t))

/-- The watchdog's fixed timeout (R70). -/
def watchdogTime : Nat := 100 * ms1

/-- WATCHDOG_EXPIRY (R70): F002 before running, F003 within 60 s of it, F004 later, once the watchdog has been armed for its 100 ms;
it is held stopped from the core die's power-down in SLUMBER until the wake. That it runs while SLUMBER still drains, and from the
wake on, is read of "held stopped with the core die and rearmed at wake" (log entry 130). -/
def execWatchdogExpiry (t : Nat) (s : State) : Result :=
  let s := s.upTo t
  if !awake s || !s.start.armedAt.any (fun a => decide (a + watchdogTime ≤ s.now)) then .next s
  else
    let code := match s.start.tRun with
      | none => 0xF002#16
      | some r => if s.now < r + 60 * sec1 then 0xF003#16 else 0xF004#16
    .next (watchdogReset .watchdog code [] s)

/-- START_DEADLINE (R76): 30 s after t_reset without a mode; F001, counted, reset. -/
def execStartDeadline (s : State) : Result :=
  if awake s && s.start.mode.isNone then
    let s := s.upTo (s.start.tReset + 30 * sec1)
    .next (resetDevice .startDeadline true (countFailed 0xF001#16 (raise 0xF001#16 0 [] s)))
  else .next s

/-- PRE_START_PAIR (R593): two SP_BATT readings 10 ms apart, VIN being valid and t_reset still to come. -/
def execPreStartPair (t : Nat) (first second : StrapPin) (s : State) : Result :=
  let s := s.upTo t
  if awake s || !s.plant.vinValid then .next s
  else .next { s with straps := { s.straps with pre := some (readPin 12 first, readPin 12 second) } }

/-- The pre-start level of the latest pair: both readings in the band of one level (R593). -/
def preLevel (s : State) : Option (Fin 16) :=
  match s.straps.pre with
  | some (a, b) =>
    (match levelOf a, levelOf b with
     | some k, some j => if k = j then some k else none
     | _, _ => none)
  | none => none

/-- Recovery floor and pre-conditioning threshold of a pack in mV (Table 21.4). -/
def preRange (lfp : Bool) : Nat × Nat := if lfp then (4500, 7500) else (4500, 9000)

/-- PRECONDITION_BEFORE_START (R473): with a pre-start level that names a battery and VBAT_S between floor and threshold,
the power-on reset is held and the pack pre-conditioned; it ends at the threshold or after 10 min. -/
def execPreconditionBeforeStart (t vbatMv : Nat) (s : State) : Result :=
  let s := s.upTo t
  if awake s then .next s
  else
    let s := { s with plant := { s.plant with vbatMv := vbatMv } }
    match (preLevel s).bind (fun k => battSetup k.val) with
    | none => .next { s with plant := { s.plant with precond := false } }
    | some b =>
      let (lo, hi) := preRange b.lfp
      if s.plant.precond then
        let spent := (s.now - s.plant.precondAt) / ms1
        (if hi ≤ vbatMv then .next { s with plant := { s.plant with precond := false, state := 0, preMs := 0 } }
         else if 600000 ≤ spent then
           .next { s with plant := { s.plant with precond := false, state := 1, preMs := spent } }
         else .next s)
      else if s.plant.vinValid && decide (lo ≤ vbatMv) && decide (vbatMv < hi) && s.plant.preMs == 0 then
        .next { s with plant := { s.plant with
          precond := true, precondAt := s.now, state := 1, fixed := true, sysGate := false } }
      else .next s

/-- STRAP_READING (R42): the first reading window, from t_reset + 10 ms, then the second, from t_reset + 20 ms, each strap's code
the median of five conversions (R36). -/
def execStrapReading (pins : Vector StrapPin 13) (s : State) : Result :=
  if !awake s || s.start.tLatch.isSome then .next s
  else
    let r := readPins pins
    match s.straps.first with
    | none =>
      let s := s.upTo (s.start.tReset + 10700000)
      .next { s with straps := { s.straps with first := some r } }
    | some _ =>
      let s := s.upTo (s.start.tReset + 20700000)
      .next { s with straps := { s.straps with second := some r } }

/-- A fault with its detail, waiting to be raised. -/
structure StrapFault where
  /-- The code. -/
  code : BitVec 16
  /-- Its detail. -/
  detail : List Byte
deriving DecidableEq, Repr

/-- Detail of a class-1 fault: index, two 16-bit numbers, the byte of R593. -/
def strapDetail (i a b k : Nat) : List Byte := be 1 i ++ be 2 a ++ be 2 b ++ be 1 k ++ [0#8, 0#8]

/-- The level both readings of a strap agree on (R43). -/
def agreed (a b : Fin 1024) : Option (Fin 16) :=
  match levelOf a, levelOf b with
  | some k, some j => if k = j then some k else none
  | _, _ => none

/-- F10S and F11S in index order, F11C against the pre-start level among them (R43, R65, R593). -/
def readingFaults (first second : Vector (Fin 1024) 13) (pre : Option (Fin 1024 × Fin 1024))
    (preLvl : Option (Fin 16)) : List StrapFault :=
  (List.finRange 13).flatMap (fun i =>
    let a := first[i]
    let b := second[i]
    match agreed a b with
    | some k =>
      (match preLvl, pre with
       | some p, some (_, c) =>
         if i.val = 12 ∧ p ≠ k then [⟨0xF11C#16, strapDetail 12 c.val a.val 1⟩] else []
       | _, _ => [])
    | none =>
      if (levelOf a).isNone || (levelOf b).isNone then
        [⟨BitVec.ofNat 16 (0xF100 + i.val), strapDetail i.val a.val b.val 0⟩]
      else [⟨BitVec.ofNat 16 (0xF110 + i.val), strapDetail i.val a.val b.val 0⟩])

/-- F12S in index order: latched at a reserved level (R63). -/
def reservedFaults (level : Vector (Option (Fin 16)) 13) (first second : Vector (Fin 1024) 13) : List StrapFault :=
  (List.finRange 13).flatMap (fun i =>
    match level[i] with
    | some k =>
      if reservedLevel i.val k.val then
        [⟨BitVec.ofNat 16 (0xF120 + i.val), strapDetail i.val first[i].val second[i].val 0⟩] else []
    | none => [])

/-- F13n in rule order; a rule that names a faulted strap is skipped (R62). -/
def ruleFaults (level : Vector (Option (Fin 16)) 13) : List StrapFault :=
  [1, 2, 3, 4, 5, 6, 7].flatMap (fun n =>
    let (i, j) := ruleStraps n
    match level[i], level[j] with
    | some a, some b =>
      if ruleHolds n a.val b.val then [⟨BitVec.ofNat 16 (0xF130 + n), strapDetail 255 i.val j.val 0⟩] else []
    | _, _ => [])

/-- F15S in index order: latched from a marginal reading (R46); then F160 where every strap latched at level 15 (R64). -/
def strapWarnings (level : Vector (Option (Fin 16)) 13) (first second : Vector (Fin 1024) 13) : List StrapFault :=
  (List.finRange 13).flatMap (fun i =>
    match level[i] with
    | some k =>
      if marginalIn k first[i] || marginalIn k second[i] then
        [⟨BitVec.ofNat 16 (0xF150 + i.val), strapDetail i.val first[i].val second[i].val 0⟩] else []
    | none => [])
  ++ (if level.toList.all (· == some 15) then [⟨0xF160#16, []⟩] else [])

/-- Faults raised one after another in a given order. -/
def raiseAll (l : List StrapFault) (s : State) : State := l.foldl (fun s f => raise f.code 0 f.detail s) s

/-- The ports SP_LINK enables, as link bring-up begins (R55, R74, R157). -/
def portsBegin (s : State) : State :=
  { s with ports := Vector.ofFn (fun i =>
    match linkSpeed (lvlD s 6) i with
    | some g => { enabled := true, gigabit := g, altAt := some (s.now + 50 * ms1 + 2 * sec1) }
    | none => {}) }

/-- The start goes on from its base instant: link bring-up, Wellspring's windows and the wait for the first reference (Table 3.4,
R80). -/
def startFrom (t : Nat) (s : State) : State :=
  wellBegin t (portsBegin { s with start := { s.start with base := some t, waitPair := false } })

/-- The links of a SAFE entered at t_latch, or at the release of PAIR, come up from there, and frames are forwarded (R79). -/
def safeLinks (s : State) : State :=
  portsBegin { s with start := { s.start with base := some s.now }, switch := { s.switch with tables := true } }

/-- STRAP_LATCH (R43 to R46, R62 to R66, R78): at t_latch the readings are compared, levels latched, faults and warnings
raised in the order of R65, and the start goes on, waits for PAIR, or enters SAFE. -/
def execStrapLatch (s : State) : Result :=
  match s.straps.first, s.straps.second with
  | some a, some b =>
    if !awake s || s.start.tLatch.isSome then .next s
    else
      let s := s.upTo (s.start.tReset + 20700000)
      let level := Vector.ofFn (fun i : Fin 13 => agreed a[i] b[i])
      let s := { s with
        straps := { s.straps with
          level := level
          plantBatt := level[12], plantAmp := level[10], plantMotor := level[11] }
        start := { s.start with tLatch := some s.now, pairAtLatch := s.lands.pair } }
      let hard := readingFaults a b s.straps.pre (preLevel s) ++ reservedFaults level a b ++ ruleFaults level
      let warn := strapWarnings level a b
      let s := podlLatch (setSwitch s)
      let field := match hard with
        | f :: _ => f.code
        | [] => 0#16
      let s := { s with
        start := { s.start with fault := field }
        routing := { s.routing with profile := (level[4]).getD 15 } }
      -- the log: a stored FF20, the start entry, then the faults and warnings
      let et := s.gptp.time
      let s := match s.aon.clockFault with
        | some d => { logPut { time := et, code := 0xFF20#16, kind := 1, detail := padTo 10 0#8 d } s with
            aon := { s.aon with clockFault := none } }
        | none => s
      let s := logPut { time := et, kind := 5, detail := padTo 10 0#8 (be 1 s.start.cause.code ++ be 2 field.toNat) } s
      match hard with
      | f :: _ => .next (safeAtStart f.code f.code (raiseAll (hard ++ warn)) (safeLinks s))
      | [] =>
        if s.aon.failed = 3 then
          (if s.lands.pair then .next { raiseAll warn s with start := { (raiseAll warn s).start with waitPair := true } }
           else
             .next (safeAtStart 0xF010#16 s.aon.last3[0]
               (fun s => raise 0xF010#16 0 [] (raiseAll warn s)) (safeLinks s)))
        else .next (startFrom s.now (raiseAll warn s))
  | _, _ => .next s

/-- Whether a re-read shows a change of a strap not reported yet: neither reading lies in its latched band (R48). -/
def strapChanged (s : State) (a b : Vector (Fin 1024) 13) (i : Fin 13) : Bool :=
  match s.straps.level[i] with
  | some k => levelOf a[i] != some k && levelOf b[i] != some k && !s.straps.reported[i]
  | none => false

/-- One strap's F14S (R48). -/
def reportStrap (a b : Vector (Fin 1024) 13) (s : State) (i : Fin 13) : State :=
  if strapChanged s a b i then
    raise (BitVec.ofNat 16 (0xF140 + i.val)) i.val (strapDetail i.val a[i].val b[i].val 0)
      { s with straps := { s.straps with reported := s.straps.reported.set i true } }
  else s

/-- The first wake window of a sleeping device that starts at or after an instant: a member's or partner's window around an expected
beacon, a leader's own beacon instant (R47, R85, R86). -/
def wakeWindowFrom (t : Nat) (s : State) : Nat :=
  let first :=
    if s.start.left == some .leader then whenDevice s s.status.heartbeatAt
    else whenDevice s (s.sleep.beaconAt - windowWidth s.sleep.missed / 2)
  let period := 8 * sec1 * sec1 / max 1 ((sec1 : Int) + s.gptp.aoPpb.getD 0).toNat
  if t ≤ first then first else first + (t - first + period - 1) / period * period

/-- t_rr, the instant the next re-read begins: t_latch + n × 60 s, in SLUMBER the first wake window from there on (R47). -/
def rereadAt (s : State) : Option Nat :=
  s.start.tLatch.map (fun l =>
    let due := l + (s.straps.rereads + 1) * 60 * sec1
    if inMode .slumber s && s.sleep.wakeAt.isNone then wakeWindowFrom due s else due)

/-- Whether the strap pull-ups are connected: from t_reset + 5 ms to t_latch, and over the 15.7 ms of a re-read (R42, R47). -/
def pullups (s : State) : Bool :=
  awake s &&
    (if s.start.tLatch.isNone then decide (s.start.tReset + 5 * ms1 ≤ s.now)
     else s.start.mode.isSome && (rereadAt s).any (fun rr => decide (rr ≤ s.now) && decide (s.now < rr + 15700000)))

/-- STRAP_REREAD (R47, R48): each 60 s both readings of every latched strap; F14S once per strap and reset where neither
lies in the latched band. -/
def execStrapReread (a b : Vector StrapPin 13) (s : State) : Result :=
  match rereadAt s with
  | none => .next s
  | some rr =>
    if !awake s || s.start.mode.isNone then .next s
    else
      let s := s.upTo (rr + 15700000)
      let s := { s with straps := { s.straps with rereads := s.straps.rereads + 1 } }
      .next ((List.finRange 13).foldl (reportStrap (readPins a) (readPins b)) s)

/-- PAIR_DEBOUNCED_CHANGE (R550): twenty consecutive 1 ms samples agree, and differ from the debounced level. -/
def execPairDebouncedChange (t : Nat) (samples : List Bool) (s : State) : Result :=
  let s := s.upTo t
  let v := !s.lands.pair
  if samples.length == 20 && samples.all (· == v) then
    .next { s with
      lands := { s.lands with pair := v, pairSince := s.now }
      start := { s.start with pairAtLatch := s.start.pairAtLatch && v } }
  else .next s

/-- PAIR_HOLD_CLEAR (R80): PAIR asserted from t_latch to t_reset + 5 s; the counter is cleared, F011 recorded, and a start
that waited goes on. -/
def execPairHoldClear (s : State) : Result :=
  if awake s && s.start.pairAtLatch && !s.start.clearedByPair then
    let s := s.upTo (s.start.tReset + 5 * sec1)
    let s := raise 0xF011#16 0 [] (setCounter 0 s)
    let s := { s with
      start := { s.start with clearedByPair := true }
      aon := { s.aon with failed := 0 } }
    .next (if s.start.waitPair then startFrom s.now s else s)
  else .next s

/-- PAIR_RELEASE_EARLY (R80): with the counter at 3 and the start waiting, a release before t_reset + 5 s enters SAFE with
F010. -/
def execPairReleaseEarly (t : Nat) (s : State) : Result :=
  let s := s.upTo t
  if awake s && s.start.waitPair && decide (s.now < s.start.tReset + 5 * sec1) then
    let s := { s with
      start := { s.start with waitPair := false, pairAtLatch := false }
      lands := { s.lands with pair := false, pairSince := s.now } }
    .next (safeAtStart 0xF010#16 s.aon.last3[0] (raise 0xF010#16 0 []) (safeLinks s))
  else .next s

/-- FAILED_START_COUNTER_CLEAR (R77): 60 s after t_run the counter is cleared and the clear logged. -/
def execFailedStartCounterClear (s : State) : Result :=
  match s.start.tRun with
  | some r =>
    if s.start.counterPending then
      let s := s.upTo (r + 60 * sec1)
      .next (setCounter 0 { s with start := { s.start with counterPending := false } })
    else .next s
  | none => .next s

/-- DIE_LINK_LOSS (R23): the plant die turns both stages off and floats the motor; charging goes on. -/
def execDieLinkLoss (t : Nat) (s : State) : Result :=
  let s := s.upTo t
  .next { s with
    plant := { s.plant with linkLost := some s.now }
    spk := { s.spk with ch := s.spk.ch.map (fun c => { c with on := false }) }
    motor := { s.motor with driven := false, uMv := 0 } }

/-- DIE_LINK_RESTORED (R23): restored within 10 ms; FF01. -/
def execDieLinkRestored (t : Nat) (s : State) : Result :=
  let s := s.upTo t
  match s.plant.linkLost with
  | some l =>
    if s.now ≤ l + 10 * ms1 then .next (raise 0xFF01#16 0 [] { s with plant := { s.plant with linkLost := none } })
    else .next s
  | none => .next s

/-- DIE_LINK_RESTORE_TIMEOUT (R76): not restored within 10 ms; FF00 and a reset counted as a watchdog's, from a start and from the
four modes Table 3.2 lists; in SAFE and in SLUMBER the table has no such event, and nothing changes (log entry 131). -/
def execDieLinkRestoreTimeout (s : State) : Result :=
  match s.plant.linkLost with
  | some l =>
    let s := s.upTo (l + 10 * ms1)
    if awake s && !inMode .safe s && !inMode .slumber s then .next (watchdogReset .dieLink 0xFF00#16 [] s) else .next s
  | none => .next s

/-- The domains whose loss resets the device: AO, REF, the core PLL family, MEDIA and USB (Table 5.3). -/
def ownDomains : BitVec 18 := 0b01_1110_0000_0001_1111#18

/-- The domains of the core PLL family, which stop together (R123). -/
def coreFamily : BitVec 18 := 0b01_1100_0000_0000_1100#18

/-- The domains found lost among those whose loss resets the device: the USB PHY PLL's only while USB_VBUS is present and the
function is not suspended, and the core PLL family's all at once (Table 5.3, R123). -/
def lostDomains (domains : BitVec 18) (s : State) : BitVec 18 :=
  let usb : BitVec 18 := if s.usb.vbus && !s.usb.suspended then 0#18 else 0b00_0010_0000_0000_0000#18
  let own := domains &&& ownDomains &&& ~~~usb
  if own &&& coreFamily = 0#18 then own else own ||| coreFamily

/-- CLOCK_MONITOR_LOSS (R122, R123): FF20's detail enters the fault store and a failed start is counted where R76 says so;
the reset waits for the acknowledgement, and a further loss until then changes nothing. What the device does in those 122.1 µs
the spec does not say: every command runs on as before, but that nothing crosses into a SYS that has stopped (R120, log entry
132). -/
def execClockMonitorLoss (t : Nat) (domains : BitVec 18) (s : State) : Result :=
  let s := s.upTo t
  let own := lostDomains domains s
  if !awake s || own = 0#18 || s.sleep.down || s.aon.clockReset then .next s
  else
    let lowest := ((List.range 18).find? (fun i => own.getLsbD i)).getD 0
    let detail := padTo 8 0#8 (be 1 lowest ++ be 3 own.toNat)
    let s := { s with aon := { s.aon with clockFault := some detail, clockReset := true, lost := own } }
    .next (if watchdogCounts s then countFailed 0xFF20#16 s else s)

/-- CLOCK_LOSS_RESET (R123): the writes are acknowledged and the held reset takes place. -/
def execClockLossReset (t : Nat) (s : State) : Result :=
  let s := s.upTo t
  if s.aon.clockReset then
    .next (resetDevice .clockMonitor true { s with aon := { s.aon with clockReset := false, lost := 0#18 } })
  else .next s

end Sys2Proof.Machine
end

