-- ==== Sys2Proof/Machine/CmdStatus.lean ====
section
/-! DEFINITION. The meanings of what the device tells: folds, heartbeats, telemetry, replay, the ash log (chapter 4). -/

namespace Sys2Proof.Machine

open Sys2Proof

/-- FAULT_FOLD_EXPIRY (R98): at the end of a code's second an event carries what was folded, and opens a new second;
without any occurrence the fold ends. -/
def execFaultFoldExpiry (code : BitVec 16) (s : State) : Result :=
  match s.status.folds.find? (fun f => f.code == code) with
  | none => .next s
  | some f =>
    let s := s.upTo f.until_
    let rest := s.status.folds.filter (fun g => g.code != code)
    if f.count = 0 then .next { s with status := { s.status with folds := rest } }
    else
      let s := genFrame 0x30 (faultTail code f.count f.time f.detail) s
      .next { s with status := { s.status with folds := rest ++ [{ code := code, until_ := f.until_ + sec1 }] } }

/-- A leader's wake beacon in SLUMBER: a heartbeat frame on the network only (R85, Table 4.3). -/
def beaconFrame (instant : Nat) (s : State) : State :=
  let t := heartbeat instant { s with status := { s.status with stat := {}, net := {} }, sleep := { s.sleep with draining := true } }
  let frames := t.status.net.queue
  let s := { s with status := { s.status with
    counter := t.status.counter, sec := {}, heartbeats := t.status.heartbeats } }
  match fumaroleNode s with
  | some nn => pumpFrames nn frames s
  | none => s

/-- HEARTBEAT_SEND (R96): the heartbeat of the scheduled instant, then telemetry 500 ms later while the plant is active; in
SLUMBER only a leader's beacon, every 8 s (R85). -/
def execHeartbeatSend (s : State) : Result :=
  if !powered s && !inMode .slumber s || s.start.mode.isNone then .next s
  else
    let at_ := s.status.heartbeatAt
    let s := s.upToDevice at_
    if inMode .slumber s then
      (if s.start.left == some .leader then
        .next { beaconFrame at_ s with status := { (beaconFrame at_ s).status with heartbeatAt := at_ + 8 * sec1 } }
       else .next s)
    else
      let s := pump (heartbeat at_ s)
      .next { s with status := { s.status with
        heartbeatAt := at_ + sec1
        telemetryAt := s.status.telemetryAt ++ (if plantActive s then [at_ + 500 * ms1] else []) } }

/-- TELEMETRY_SEND (R93): 500 ms after a heartbeat, while the plant is active. -/
def execTelemetrySend (s : State) : Result :=
  match s.status.telemetryAt with
  | d :: rest =>
    let s := s.upToDevice d
    let s := { s with status := { s.status with telemetryAt := rest } }
    .next (if s.start.mode.isSome && !inMode .slumber s && plantActive s then pump (telemetry s) else s)
  | [] => .next s

/-- The parts of a replay: at most six entries each, one empty part where there is none (R97). -/
def replayParts (l : List (List Byte)) : List (List (List Byte)) :=
  match l with
  | [] => [[]]
  | _ => [l.take 6, (l.drop 6).take 6, (l.drop 12).take 4].filter (fun p => !p.isEmpty)

/-- REPLAY_SEND (R97): once after each start, after the first heartbeat and the end of the flash's bring-up. -/
def execReplaySend (t : Nat) (s : State) : Result :=
  let s := s.upTo t
  if s.status.replayDue && decide (0 < s.status.heartbeats) && (s.mem.flashUp || s.mem.flashAbsent) then
    let parts := replayParts (s.status.replay.map replayBytes)
    let s := parts.zipIdx.foldl (fun (s : State) (x : List (List Byte) × Nat) =>
      genFrame 0x50 ([BitVec.ofNat 8 (x.2 * 16 + parts.length), BitVec.ofNat 8 x.1.length] ++ x.1.flatten) s) s
    .next { s with status := { s.status with replayDue := false } }
  else .next s

/-- A path takes its waiting frames as far as they fit (R100). -/
def FuPath.refill (p : FuPath) : FuPath :=
  let r := FuPath.enter p.queue p.waiting
  { p with queue := r.1, waiting := r.2 }

/-- FUMAROLE_QUEUE_ROOM (R100): a path has sent enough to take its waiting frames. -/
def execFumaroleQueueRoom (t : Nat) (path : FPath) (s : State) : Result :=
  let s := pump (s.upTo t)
  let st := s.status
  .next { s with status :=
    match path with
    | .stat => { st with stat := st.stat.refill }
    | .bpo0 => { st with bpo := st.bpo.set 0 st.bpo[0].refill }
    | .bpo1 => { st with bpo := st.bpo.set 1 st.bpo[1].refill }
    | .bpo2 => { st with bpo := st.bpo.set 2 st.bpo[2].refill }
    | .bpo3 => { st with bpo := st.bpo.set 3 st.bpo[3].refill }
    | .net => { st with net := st.net.refill } }

/-- ASH_LOG_ENTRY_WRITE (R109): the oldest waiting entry is programmed, read back and committed. On a failure of an
operation at `failed` the slot stays torn, F920 is raised, and the entry is written once more into the next slot; a second
failure drops it, its number unused. -/
def execAshLogEntryWrite (t : Nat) (failed : Option FlashCause) (s : State) : Result :=
  let s := s.upTo t
  match s.log.waiting with
  | [] => .next s
  | e :: rest =>
    if !s.log.present || !s.mem.flashUp || s.mem.flashAbsent then .next s
    else
      let (k, m) := nextPlace logRing s.mem.flash s.log.nextSlot
      let s := ringProgram logRing m k (logBytes s.log.nextSeq e) failed.isSome s
      let s := { s with log := { s.log with nextSlot := k + 1 } }
      match failed with
      | none =>
        .next (clearAll 0xF920#16 { s with log := { s.log with
          waiting := rest, nextSeq := s.log.nextSeq + 1, retry := false } })
      | some c =>
        let s := raise 0xF920#16 0 (be 1 0 ++ be 1 c.code ++ be 4 (logRing.base + 32 * k)) s
        .next (if s.log.retry then
          { s with log := { s.log with waiting := s.log.waiting.drop 1, nextSeq := s.log.nextSeq + 1, retry := false } }
        else { s with log := { s.log with retry := true } })

/-- ASH_LOG_FOLD_EXPIRY (R111): a code's 60 s end, and one entry records what was folded, with the mode of the first occurrence
(R108); a window follows it where it was written. -/
def execAshLogFoldExpiry (code : BitVec 16) (s : State) : Result :=
  match s.log.folds.find? (fun f => f.code == code) with
  | none => .next s
  | some f =>
    let s := s.upTo f.until_
    let s := { s with log := { s.log with folds := s.log.folds.filter (fun g => g.code != code) } }
    if f.count = 0 then .next s
    else
      let u := logPut { time := f.time, code := code, kind := 1, mode := f.mode, occurrences := f.count, detail := f.detail } s
      .next (if logTakes s then
        { u with log := { u.log with folds := u.log.folds ++ [{ code := code, until_ := f.until_ + 60 * sec1 }] } }
      else u)

/-- ASH_LOG_HOUR_RESUME (R111): the rolling hour allows writing again, and FD10 records how many entries were dropped. -/
def execAshLogHourResume (s : State) : Result :=
  match s.log.hour.getLast? with
  | some oldest =>
    if s.log.dropped = 0 then .next s
    else
      let s := s.upTo (oldest + 3600 * sec1)
      let s := { s with log := { s.log with hour := s.log.hour.filter (fun t => decide (s.now < t + 3600 * sec1)) } }
      let n := s.log.dropped
      .next (raise 0xFD10#16 0 (be 2 (sat16 n)) { s with log := { s.log with dropped := 0 } })
  | none => .next s

end Sys2Proof.Machine
end

