-- ==== Sys2Proof/Machine/CmdStreams.lean ====
section
/-! DEFINITION. The meanings of the streams: sending, receiving, recovery, admission, playout (chapters 8, 10 and 18). -/

namespace Sys2Proof.Machine

open Sys2Proof

/-- Device time at which frame `j` of the present block leaves: 125 µs after the one before, and not before its last sample has been
taken (R184, R186). -/
def frameLeaves (s : State) (j : Nat) : Nat :=
  let span := frameSpan (thisLen s) j
  max (s.blocks.stamp + 125000 * (j + 1)) (instantOf s (span.1 + span.2 - 1))

/-- AAF_FRAME_SEND (R184): the next of a block's eight frames leaves once its last sample has been taken, 125 µs after the
one before and within 250 µs of its first sample (R186). A hot partner in step sends a step's frames once it holds the step's block
frame, and none before (R217, log entry 144). -/
def execAafFrameSend (k : Fin 3) (s : State) : Result :=
  let x := txOf s k
  if 8 ≤ x.next || !s.blocks.running || hotInStep s then .next s
  else .next (sendAaf k (mediaNow (s.upToDevice (frameLeaves s x.next))))

/-- CRF_FRAME_SEND (R182): the stamp of every tenth block leaves at the boundary 1 ms after it; a hot partner's with its step. -/
def execCrfFrameSend (s : State) : Result :=
  if 8 ≤ s.streams.crf.next || hotInStep s then .next s
  else .next (sendCrf (s.upToDevice (s.streams.crf.stamp + ms1)))

/-- Whether frames of a kind feed what the device does with streams: its routes, or its admission (Table 1.2, R194, R195). -/
def usesStream (s : State) (kind t : Nat) : Bool :=
  let own := t == tenant s
  match s.start.mode with
  | some .member => (own && kind ≤ 1) || (kind == 2 && t == 0)
  | some .leader => (own && kind == 1) || (kind == 2 && t == 0 && tenant s != 0)
  | some .partner => (own && kind == 1) || (kind == 2 && t == 0)
  | _ => false

/-- A device acting as leader whose strapped leader acts as leader too yields at the next boundary (R240). -/
def yieldIfDue (f : NetFrame) (s : State) : State :=
  match s.red.pair with
  | some r =>
    if inMode .leader s && strappedPartner (role s) && !s.red.contact && f.src == r.eui && !yieldDue s then
      makeDue (.yield_ r.node) s
    else s
  | none => s

/-- A stream's followed EUI-48 brought up to date with a frame of it (R179). -/
def noteFollow (now : Nat) (eui : BitVec 48) (r : Recovery) : Recovery := { r with follow := some eui, followAt := now }

/-- An AAF frame that recovery passed, judged (R188). A device whose data path does not run keeps of it only that it came (R194). -/
def judgeAaf (i : Nat) (kind : Nat) (a : Aaf) (s : State) : State :=
  match s.streams.rx[i]? with
  | none => s
  | some x =>
    let p := rebuildTime a.ts s.gptp.time
    let lead := p - (s.gptp.time : Int)
    let unit := kind * 256 + x.node.toNat
    if 64000000 < lead then raise 0xF431#16 unit (be 1 x.node.toNat ++ be 1 kind) s
    else
      let s := if isActive 0xF431#16 unit s then clear 0xF431#16 unit s else s
      if lead < 250000 then
        { s with status := { s.status with sec := { s.status.sec with late := sat16 (s.status.sec.late + 1) } } }
      else
        let rate := nsrRate a.nsr
        let f : PlayFrame := { time := p.toNat, rate := rate, samples := a.samples.map (·.map (to24 a.format)) }
        let fresh := x.lastAccepted.isNone || (converted s x && decide (x.anchor + (x.pos * 1000000000) / x.rate + 40000000 < p.toNat))
        let y := { x with
          channels := a.channels, double := doubleRate rate, rate := rate
          lastAccepted := some s.now, play := if s.blocks.running then x.play ++ [f] else []
          good := if x.lastAccepted.isNone then List.replicate a.channels {} else x.good }
        let z := if fresh then { y with anchor := p.toNat, pos := 0 } else y
        { s with streams := { s.streams with rx := s.streams.rx.set i z } }

/-- Whether a stream frame's EUI-48 may speak for its stream: none is followed yet, or it is the one followed, or that one has
been silent for 20 ms. Any other frame serves only to detect a shared node address (R179). -/
def maySpeak (s : State) (kind : Nat) (n : BitVec 8) (eui : BitVec 48) : Bool :=
  (rxIndex s kind n).all (fun i => (s.streams.rx[i]?).all (fun x => follows s.now x.recov eui))

/-- A return stream seen to pass the switch, with its weight (R194, R195). -/
def notePassed (i : Nat) (a : Aaf) (s : State) : State :=
  match s.streams.rx[i]? with
  | none => s
  | some x =>
    let w := if doubleRate (nsrRate a.nsr) then 2 * a.channels else a.channels
    { s with streams := { s.streams with rx := s.streams.rx.set i { x with passed := some (s.now, w) } } }

/-- Whether a device works on stream frames: its data path runs, or it is a cold partner, which evaluates admission all the same
(R194). -/
def takesStreams (s : State) : Bool := s.blocks.running || (inMode .partner s && coldRole (role s))

/-- A verified and well-formed AAF frame of a stream the device uses: rate, synchronisation, recovery, judgement (R185, R188, R210). -/
def takeAaf (kind : Nat) (nn : BitVec 8) (tag : Option (BitVec 16)) (a : Aaf) (s : State) : State :=
  let r := withRx kind nn (presentNow s)
  let s := if kind = 1 then notePassed r.2 a r.1 else r.1
  if kind ≤ 1 && nsrRate a.nsr != s.well.rate then countDiscard s
  else if !s.gptp.synced then countDiscard s
  else
    match tag, s.streams.rx[r.2]? with
    | some q, some x =>
      let d := recover s.now q (noteFollow s.now a.streamEui x.recov)
      let s := { s with streams := { s.streams with rx := s.streams.rx.set r.2 { x with recov := d.recov } } }
      let s := countLost r.2 d.lost s
      if d.pass then judgeAaf r.2 kind a s else s
    | _, _ => s

/-- AAF_FRAME_RECEIVE (R188): offered, verified, checked, recovered, and judged as late, too early or accepted. -/
def execAafFrameReceive (t : Nat) (f : NetFrame) (s : State) : Result :=
  let s := s.upTo t
  match f.body with
  | .aaf tag a =>
    let kind := dstKind f.dst
    let tn := dstTenant f.dst
    let nn := BitVec.ofNat 8 (dstNode f.dst)
    if !powered s || inMode .slumber s || 2 < kind || a.streamLow != streamLow tn kind nn.toNat then .next s
    else
      .next (endpointIn f (verified f (fun s =>
        if !aafChecks kind a || !maySpeak s kind nn a.streamEui then s
        else
          let s := if kind = 0 then yieldIfDue f (hearLeader false nn s) else s
          if usesStream s kind tn && takesStreams s then takeAaf kind nn tag a s else s)) s)
  | _ => .next s

/-- Whether a CRF frame is of the leader the device follows: a partner's own, else the leader followed under R591. -/
def crfOfLeader (s : State) (nn : BitVec 8) : Bool :=
  if strappedPartner (role s) then (match s.red.pair with
    | some r => r.node == nn
    | none => false)
  else if strappedLeader (role s) then inMode .partner s && nn.toNat == node s
  else followed s == some nn

/-- A valid CRF frame of the followed leader kept for the NET servo and for NET's presence (R130, R138, R234); F311 clears. -/
def keepCrf (q : BitVec 16) (c : Crf) (s : State) : State :=
  let gap := s.well.crfLast.any (fun l => decide (l + 20 * ms1 < s.now))
  let s := { s with
    well := { s.well with
      crfLast := some s.now, crfGap := s.well.crfGap || gap
      crfStamps := (c.stamp :: s.well.crfStamps).take 16, crfRate := c.base }
    red := { s.red with crfSeq := q } }
  if anyActive 0xF311#16 s then clearAll 0xF311#16 s else s

/-- A verified and well-formed CRF frame: recovered, and kept where it is the followed leader's (R182, R188, R210). -/
def takeCrf (nn : BitVec 8) (tag : Option (BitVec 16)) (c : Crf) (s : State) : State :=
  if !s.gptp.synced then countDiscard s
  else
    let r := withRx 3 nn s
    match tag, r.1.streams.rx[r.2]? with
    | some q, some x =>
      let s := r.1
      let d := recover s.now q (noteFollow s.now c.streamEui x.recov)
      let s := { s with streams := { s.streams with
        rx := s.streams.rx.set r.2 { x with recov := d.recov, lastAccepted := some s.now } } }
      let s := if s.start.mode.isSome then countLost r.2 d.lost s else s
      if d.pass && crfOfLeader s nn then keepCrf q c s else s
    | _, _ => r.1

/-- CRF_FRAME_RECEIVE (R182): offered, verified, checked, recovered; its timestamp is kept for the NET servo, and the CRF is present
(F311). Its leader is heard, and teaches LL (R103, R591). -/
def execCrfFrameReceive (t : Nat) (f : NetFrame) (s : State) : Result :=
  let s := s.upTo t
  match f.body with
  | .crf tag c =>
    let nn := BitVec.ofNat 8 (dstNode f.dst)
    if !powered s || dstKind f.dst != 3 || c.streamLow != streamLow (dstTenant f.dst) 3 nn.toNat then .next s
    else
      .next (endpointIn f (verified f (fun s =>
        if !crfChecks s.well.family44 c || !maySpeak s 3 nn c.streamEui then s
        else takeCrf nn tag c (yieldIfDue f (hearLeader true nn s)))) s)
  | _ => .next s

/-- STREAM_SOURCE_TIMEOUT (R179): 20 ms without a frame of the followed EUI-48; another may be followed. -/
def execStreamSourceTimeout (kind : Nat) (n : BitVec 8) (s : State) : Result :=
  match rxIndex s kind n with
  | none => .next s
  | some i =>
    match s.streams.rx[i]? with
    | none => .next s
    | some x =>
      let s := s.upTo (x.recov.followAt + 20 * ms1)
      .next { s with streams := { s.streams with
        rx := s.streams.rx.set i { x with recov := { x.recov with follow := none } } } }

/-- RECOVERY_RESET_TIMEOUT (R210): 20 ms without a passed frame; the next frame is taken as the first. -/
def execRecoveryResetTimeout (kind : Nat) (n : BitVec 8) (s : State) : Result :=
  match rxIndex s kind n with
  | none => .next s
  | some i =>
    match s.streams.rx[i]? with
    | none => .next s
    | some x =>
      if !x.recov.active then .next s
      else
        let s := s.upTo (x.recov.passedAt + 20 * ms1)
        let r := { x.recov with active := false, seen := 0#32 }
        let s := { s with streams := { s.streams with rx := s.streams.rx.set i { x with recov := r } } }
        .next (if kind = 2 then stopPairs 8 s else s)

/-! ### Admission (R194, R195) -/

/-- A node put into a rising list of nodes with weights. -/
def insertNode (x : BitVec 8 × Nat) : List (BitVec 8 × Nat) → List (BitVec 8 × Nat)
  | [] => [x]
  | y :: l => if x.1.toNat ≤ y.1.toNat then x :: y :: l else y :: insertNode x l

/-- The return streams of the tenant of the preceding second with their weights, in ascending NN: at a leader or partner those it
accepted a frame from, at a member those that passed its switch, its own among them (R194, R195). -/
def candidates (s : State) : List (BitVec 8 × Nat) :=
  let fresh (l : Nat) : Bool := decide (s.now ≤ l + sec1)
  let heard := s.streams.rx.filterMap (fun x =>
    if x.kind != 1 then none
    else if inMode .member s then x.passed.bind (fun p => if fresh p.1 then some (x.node, p.2) else none)
    else x.lastAccepted.bind (fun l => if fresh l then some (x.node, if x.double then 2 * x.channels else x.channels) else none))
  let own := (talkMix s 1).length
  let all := if own = 0 then heard
    else (BitVec.ofNat 8 (node s), if doubleRate s.well.rate then 2 * own else own) :: heard
  all.foldr insertNode []

/-- Streams admitted and refused, taken in order against 64 (R194). -/
def admitAll : Nat → List (BitVec 8 × Nat) → List (BitVec 8) × List (BitVec 8)
  | _, [] => ([], [])
  | used, (n, w) :: l =>
    if used + w ≤ 64 then
      let r := admitAll (used + w) l
      (n :: r.1, r.2)
    else
      let r := admitAll used l
      (r.1, n :: r.2)

/-- ADMISSION_EVALUATION (R194, R195): a leader's result governs from the next boundary, a partner's is kept ready, a member
judges its own stream; F420 as each rule says. -/
def execAdmissionEvaluation (s : State) : Result :=
  if !takesStreams s then .next s
  else
    let due := s.streams.admitAt
    let s := s.upToDevice due
    let s := { s with streams := { s.streams with admitAt := due + sec1 } }
    let (yes, no) := admitAll 0 (candidates s)
    match s.start.mode with
    | some .leader =>
      let old := s.streams.refused
      let s := { s with streams := { s.streams with nextAdmitted := some yes, refused := no } }
      if no.isEmpty then .next (clearAll 0xF420#16 s)
      else if no != old then
        .next (raise 0xF420#16 0 (be 1 ((no.head?).elim 0 (·.toNat)) ++ be 1 no.length) s)
      else .next s
    | some .partner => .next { s with streams := { s.streams with nextAdmitted := some yes, refused := no } }
    | some .member =>
      if (talkMix s 1).isEmpty then .next s
      else
        let self := no.contains (BitVec.ofNat 8 (node s))
        let was := s.streams.selfRefused
        let s := { s with streams := { s.streams with selfRefused := self } }
        if self && !was then .next (raise 0xF420#16 0 (be 1 (node s) ++ [1#8]) s)
        else if !self then .next (clearAll 0xF420#16 s)
        else .next s
    | _ => .next s

/-- PLAYOUT_DEADLINE (R394): what was not accepted by its playout deadline is decided as concealment, or as zeros with F811
once 40 ms have been concealed. -/
def execPlayoutDeadline (t : Nat) (kind : Nat) (n : BitVec 8) (s : State) : Result :=
  let s := s.upTo t
  match rxIndex s kind n with
  | none => .next s
  | some i => .next (presentStream (decidedBy s) s i)

end Sys2Proof.Machine
end

