-- ==== Sys2Proof/Machine/CmdThresher.lean ====
section
/-! DEFINITION. The meanings of Thresher's commands (chapters 16 to 18). -/

namespace Sys2Proof.Machine

open Sys2Proof

/-- THRESHER_SELF_CHECK (R363, R364): at start, once the loft is loaded, all 66 columns; failing ones are retired into the
spares, and with more than two retired the start step cannot complete. -/
def execThresherSelfCheck (t : Nat) (failing : List (Fin 66)) (s : State) : Result :=
  let s := s.upTo t
  if !awake s || s.start.mode.isSome || !s.start.loftDone || s.start.checkDone then .next s
  else
    let s := failing.foldl retireAtStart s
    if 2 < s.thr.retired.length then
      let s := raise 0xF005#16 0 [] s
      .next (resetDevice .startStepFailure true (countFailed 0xF005#16 s))
    else .next { s with start := { s.start with checkDone := true } }

/-- JOB_COMPLETE (R378, R383): a job of the present window ends, not before it could start nor after its deadline; its outputs
stand and its state goes to the Silo, or its sheaf is outstanding. No job ends whose weights hold an uncorrectable word (R508). -/
def execJobComplete (t : Nat) (ctx : Fin 16) (rerun : Bool) (s : State) : Result :=
  let s := s.upTo t
  match s.thr.jobs.find? (fun j => j.ctx == ctx.val && j.rerun == rerun && !j.done) with
  | some j =>
    (match j.h0 with
     | some h0 =>
       let s := s.upToDevice (jobStart s j)
       if s.gptp.time ≤ windowEnd s && !jobBlocked s ctx then .next (finishJob j h0 s) else .next s
     | none => .next s)
  | none => .next s

/-- JOB_DEADLINE_EXPIRY (R347, R385, R392): 750 µs after the window's start, whatever has not completed is stopped. -/
def execJobDeadlineExpiry (s : State) : Result :=
  if s.thr.jobs.isEmpty then .next s else .next (endWindow (s.upToDevice (windowEnd s)))

/-- STATE_COMMIT (R383, R421): the state write has completed, every response of its writes returned; the commit entry names the other
bank, and a state that waited for it is written next. -/
def execStateCommit (t : Nat) (ctx : Fin 16) (s : State) : Result :=
  let s := s.upTo t
  let c := s.thr.ctxs[ctx]
  if !c.commitDue || !siloWritten 1 ctx.val s then .next s
  else
    let s := writeEntry ctx.val s
    match c.waiting with
    | some b => .next (mapCtx ctx (fun c => { c with waiting := none, final := some b }) (sendBank ctx.val b s))
    | none => .next (mapCtx ctx (fun c => { c with commitDue := false, final := none }) s)

/-- Whether the staging part of the next window is still being emptied: a state written behind from a window of an earlier block that
used the same of the three parts is under way (R414). -/
def partBusy (s : State) : Bool :=
  s.thr.ctxs.toList.any (fun c =>
    c.commitDue && decide (c.commitBlock < s.blocks.number) && (s.blocks.number + 1 - c.commitBlock) % 3 == 0)

/-- STATE_PREFETCH (R414): within the block before a context's window, with no commit of it under way and the staging part free, its
committed state is in that part. -/
def execStatePrefetch (t : Nat) (ctx : Fin 16) (s : State) : Result :=
  let s := s.upTo t
  let c := s.thr.ctxs[ctx]
  let due := ctx.val == 15 || c.desc.any (fun d => (sheafAt d (s.blocks.number + 1) s.thr.first).isSome)
  if (s.blocks.running || (ctx.val == 15 && plantRuns s)) && due && !c.commitDue && !partBusy s && c.h0.isNone then
    .next (mapCtx ctx (fun c => { c with h0 := some (committedState s ctx.val) }) s)
  else .next s

/-- VISIBILITY_INSTANT (R393): 250 µs before the next block. -/
def execVisibilityInstant (s : State) : Result :=
  if !s.blocks.running then .next s
  else
    let next := s.blocks.stamp + thisLen s * 1000000000 / s.well.rate
    .next (showNext (s.upToDevice (next - 250000)))

/-- LANE_DRIVE_TIMEOUT (R398): 8 ms from a lane drive's beginning without confirmation. -/
def execLaneDriveTimeout (s : State) : Result :=
  match s.thr.lane.driving with
  | some d => if s.thr.lane.confirmed then .next s else .next (withdrawLane 1 (s.upToDevice (d + 8 * ms1)))
  | none => .next s

/-- SELF_CHECK_PASS (R363, R364): every 10 min in SOLO, MEMBER, LEADER and PARTNER, one column per idle gap in column order;
`failing` are the columns whose results differ. One that falls in SLUMBER or SAFE does not run. -/
def execSelfCheckPass (failing : List (Fin 66)) (s : State) : Result :=
  match s.thr.checkAt with
  | some c =>
    if s.start.mode.isNone then .next s
    else if inMode .safe s || inMode .slumber s then .next { s with thr := { s.thr with checkAt := some (c + 600 * sec1) } }
    else
      let s := s.upTo c
      .next ((List.finRange 66).foldl (fun (s : State) x => if failing.contains x then retireInService s x else s)
        { s with thr := { s.thr with checkAt := some (c + 600 * sec1) } })
  | none => .next s

end Sys2Proof.Machine
end

