-- ==== Sys2Proof/Machine/CmdUsb.lean ====
section
/-! DEFINITION. The meanings of the USB commands (chapter 14). -/

namespace Sys2Proof.Machine

open Sys2Proof

/-- USB_VBUS_CHANGE (R307, R319): the function attaches or detaches; FE02 where either direction was streaming. -/
def execUsbVbusChange (t : Nat) (high : Bool) (s : State) : Result :=
  let s := mediaNow (s.upTo t)
  let u := s.usb
  let s := { s with usb := { u with vbus := high } }
  if !high && u.attached then
    let s := usbAttach s
    .next (if u.alt1 != 0 || u.alt2 != 0 then raise 0xFE02#16 0 (be 1 u.alt1 ++ be 1 u.alt2) s else s)
  else .next (usbAttach s)

/-- USB_BUS_RESET (R316, R317): the default state; an unfinished transfer is abandoned with FE01. -/
def execUsbBusReset (t : Nat) (full dataDone : Bool) (s : State) : Result :=
  let s := mediaNow (s.upTo t)
  if !s.usb.attached then .next s
  else
    let x := s.usb.xfer
    let s := { s with usb := s.usb.default full }
    match x with
    | some x =>
      .next (raise 0xFE01#16 0 [x.bmType, x.bRequest, if x.status || dataDone then 1#8 else 0#8] s)
    | none => .next s

/-- STANDARD_DEVICE_REQUEST (R315). -/
def execStandardDeviceRequest (t : Nat) (p : UsbSetup) (s : State) : Result := .next (usbRequest t (standardRequest p) s)

/-- SET_FEATURE_REMOTE_WAKEUP (R315): stalled. -/
def execSetFeatureRemoteWakeup (t : Nat) (s : State) : Result := .next (usbRequest t usbStall s)

/-- SET_FEATURE_TEST_MODE (R315): as USB 2.0 specifies. -/
def execSetFeatureTestMode (t : Nat) (index : BitVec 16) (s : State) : Result :=
  .next (usbRequest t (setTestMode index.toNat) s)

/-- SET_CONFIGURATION (R315). -/
def execSetConfiguration (t : Nat) (value : BitVec 16) (s : State) : Result :=
  .next (usbRequest t (setConfiguration value.toNat) s)

/-- SET_INTERFACE (R315). -/
def execSetInterface (t : Nat) (itf alt : BitVec 16) (s : State) : Result :=
  .next (usbRequest t (setInterface itf.toNat alt.toNat) s)

/-- GET_CUR_FREQUENCY (R315): the media rate. -/
def execGetCurFrequency (t : Nat) (s : State) : Result :=
  .next (usbRequest t (fun s => usbAnswer 0xA1#8 0x01#8 4 (le 4 s.well.rate) s) s)

/-- GET_RANGE_FREQUENCY (R315): one subrange at the media rate, resolution 0. -/
def execGetRangeFrequency (t : Nat) (s : State) : Result :=
  .next (usbRequest t (fun s =>
    usbAnswer 0xA1#8 0x02#8 14 (le 2 1 ++ le 4 s.well.rate ++ le 4 s.well.rate ++ le 4 0) s) s)

/-- SET_CUR_FREQUENCY (R315): accepted at the media rate; any other value is stalled with FE00. -/
def execSetCurFrequency (t : Nat) (hz : BitVec 32) (s : State) : Result :=
  .next (usbRequest t (fun s =>
    if hz.toNat = s.well.rate then
      { s with usb := { s.usb with reply := some [], xfer := some { bmType := 0x21#8, bRequest := 0x01#8 } } }
    else raise 0xFE00#16 0 (be 4 hz.toNat) (usbStall s)) s)

/-- GET_CUR_VALIDITY (R315): 1. -/
def execGetCurValidity (t : Nat) (s : State) : Result :=
  .next (usbRequest t (fun s => usbAnswer 0xA1#8 0x01#8 1 [1#8] s) s)

/-- UNSUPPORTED_USB_REQUEST (R315): stalled. -/
def execUnsupportedUsbRequest (t : Nat) (_p : UsbSetup) (s : State) : Result := .next (usbRequest t usbStall s)

/-- CONTROL_STATUS_COMPLETE (R316): what the transfer requested takes effect. -/
def execControlStatusComplete (t : Nat) (s : State) : Result :=
  let s := mediaNow (s.upTo t)
  match s.usb.xfer with
  | some x => .next { s with usb := { usbEffect x.effect s.usb with xfer := none } }
  | none => .next s

/-- USB_SUSPEND (R318): 3 ms without bus activity. -/
def execUsbSuspend (t : Nat) (s : State) : Result :=
  let s := mediaNow (s.upTo t)
  .next (if s.usb.attached then { s with usb := { s.usb with suspended := true } } else s)

/-- USB_RESUME (R318): streaming restarts with a refilled buffer. -/
def execUsbResume (t : Nat) (s : State) : Result :=
  let s := mediaNow (s.upTo t)
  .next (if s.usb.suspended then { s with usb := { s.usb.outFresh with suspended := false } } else s)

/-- An OUT packet taken in (R312): its sample frames enter the buffer, the oldest leaving where room is short; a packet too long or
not a whole number of sample frames is discarded. -/
def takePacket (b : List (BitVec 8)) (s : State) : State :=
  let s := mediaNow s
  let u := usbChannels (portsLvl s)
  let alt := s.usb.alt1
  if maxPacket u alt < b.length || b.length % (u * subslot alt) != 0 then usbFault 0 0 1 s
  else
    let q := s.usb.buf ++ packetFrames u alt b
    let lost := q.length - usbRoom s.well.rate
    let s := { s with usb := { s.usb with buf := q.drop lost } }
    if lost = 0 then s else usbFault 0 lost 0 s

/-- USB_OUT_PACKET (R120, R312): the packet crosses into SYS. -/
def execUsbOutPacket (t : Nat) (b : List (BitVec 8)) (s : State) : Result :=
  let s := s.upTo t
  .next (if usbOutOn s && !s.usb.full then crossIn 9 ((b.length + 7) / 8) (takePacket b) s else s)

/-- USB_SOF (R313, R314): the IN packet of the sample frames completed before this SOF, at most 13 of them; the media instants
since the last SOF are counted. -/
def execUsbSof (t : Nat) (s : State) : Result :=
  let s := mediaNow (s.upTo t)
  if !s.usb.attached then .next s
  else
    let u := s.usb
    let done := u.inQ.take u.ready
    let sent := done.drop (done.length - 13)
    let form (v : Int) : Int := if u.alt2 = 2 then v.fdiv 256 else v
    let u := { u with counts := (u.media :: u.counts).take 1024, media := 0, sofs := u.sofs + 1, sinceAlt := min 1024 (u.sinceAlt + 1) }
    .next (if usbInOn s then
      { s with usb := { u with inPacket := sent.map (fun f => f.map form), inQ := u.inQ.drop u.ready, ready := 0 } }
    else { s with usb := { u with inPacket := [] } })

/-- FEEDBACK_UPDATE (R314): at every eighth SOF, F = 64 N + C. -/
def execFeedbackUpdate (t : Nat) (s : State) : Result :=
  let s := mediaNow (s.upTo t)
  if !s.usb.attached || s.usb.alt1 = 0 || s.usb.sofs < 8 then .next s
  else
    let fs := s.well.rate
    let n : Nat := if s.usb.sinceAlt < 1024 then (65536 * fs * 2 + 8000) / 16000 else 64 * s.usb.counts.foldl (· + ·) 0
    let c : Int := max (-256) (min 256 (16 * ((usbTarget fs : Int) - s.usb.buf.length)))
    .next { s with usb := { s.usb with sofs := 0, feedback := ((n : Int) + c).toNat } }

end Sys2Proof.Machine
end

