-- ==== Sys2Proof/Machine/CmdWells.lean ====
section
/-! DEFINITION. The meanings of Wellspring's commands (chapter 6). -/

namespace Sys2Proof.Machine

open Sys2Proof

/-- START_REFERENCE_DEADLINE (R73): at t_latch + 10 s a device still waiting selects the highest-ordered qualified
reference, with F020 where it is not the first. -/
def execStartReferenceDeadline (s : State) : Result :=
  match s.well.refDeadline with
  | some d =>
    let s := s.upTo d
    .next (if awake s && s.well.atStart then deadlineSelect s else s)
  | none => .next s

/-- Whether a window's measurements meet a reference's frequency and stability conditions: ten sub-windows, each within
±200 ppm of nominal and within ±2 ppm of the window mean, in ppb (Table 6.3). -/
def steady (l : List Int) : Bool :=
  let sum := l.foldl (· + ·) 0
  l.length == 10 && l.all (fun x => decide (x.natAbs ≤ 200000) && decide ((10 * x - sum).natAbs ≤ 20000))

/-- Whether a frame rate belongs to a family (R127). -/
def familyRate (f441 : Bool) (rate : Nat) : Bool :=
  if f441 then rate == 44100 || rate == 88200 || rate == 176400 else rate == 48000 || rate == 96000 || rate == 192000

/-- The presence condition of Table 6.3. -/
def presentFor (r : Ref) (m : RefMeas) (s : State) : Bool :=
  match r with
  | .net =>
    let throughout := s.gptp.okSince.any (fun o => decide (o + sec1 ≤ s.now))
    if netLeader s then throughout && (s.gptp.synced || s.gptp.grandmaster)
    else throughout && s.gptp.synced && !s.well.crfGap && s.well.crfLast.any (fun l => decide (s.now ≤ l + 20 * ms1))
  | .bpi0 | .bpi1 | .wclk => m.present && familyRate s.well.family44 m.rate
  | .local => true

/-- A reference judged at the end of a window (R130, R132); the mean it was measured at is what a switch toward it aims at
(R142). -/
def judgeRef (r : Ref) (m : RefMeas) (s : State) : State :=
  match refIndex r with
  | none => s
  | some i =>
    let x := s.well.refs[i]
    if !(orderOf s).contains r then s
    else
      let x := if presentFor r m s then { x with mean := meanOf m.sub } else x
      let s := { s with well := { s.well with refs := s.well.refs.set i x } }
      if x.qualified || x.barred.isSome then s
      else if presentFor r m s && steady m.sub then
        let x := { x with qualified := true, since := s.now, ppb := meanOf m.sub, rate := m.rate }
        { s with well := { s.well with
          refs := s.well.refs.set i x
          crfQualRate := if r == .net then s.well.crfRate else s.well.crfQualRate } }
      else s

/-- In a frequency stage the output goes on toward what its reference was last measured at (R142). -/
def aimSwitch (s : State) : State :=
  match s.well.stage, s.well.selected with
  | .frequency, some r =>
    if r == .local then s
    else { s with well := { s.well with dcoGoal := dcoClamp (ppbToDco (refState s.well r).mean) } }
  | _, _ => s

/-- QUALIFICATION_WINDOW_END (R130): every reference of the order is judged; during a start the first of the order is
selected as it qualifies (R73). -/
def execQualificationWindowEnd (net bpi0 bpi1 wclk : RefMeas) (s : State) : Result :=
  match s.well.windowEnd with
  | none => .next s
  | some e =>
    let s := s.upTo e
    let s := aimSwitch (judgeRef .wclk wclk (judgeRef .bpi1 bpi1 (judgeRef .bpi0 bpi0 (judgeRef .net net s))))
    let fresh := match s.well.crfLast with
      | some l => decide (s.now ≤ l + 20 * ms1)
      | none => false
    let s := { s with well := { s.well with windowEnd := some (e + sec1), crfGap := !fresh } }
    match orderOf s with
    | r :: _ => .next (if s.well.atStart && (refState s.well r).qualified then startSelect r s else s)
    | [] => .next s

/-- REFERENCE_LOSS (R131): a loss condition of Table 6.4; `crf` where it is the absence of CRF frames. -/
def execReferenceLoss (t : Nat) (r : Ref) (crf : Bool) (s : State) : Result := .next (loseRef r crf (s.upTo t))

/-- REFERENCE_BAR_EXPIRY (R132): 60 s after its last loss a barred reference may qualify again. -/
def execReferenceBarExpiry (r : Ref) (s : State) : Result :=
  match refIndex r with
  | none => .next s
  | some i =>
    match s.well.refs[i].barred with
    | none => .next s
    | some b =>
      let s := s.upTo b
      .next { s with well := { s.well with refs := s.well.refs.set i { s.well.refs[i] with barred := none } } }

/-- The holdover limit: 1 h with a TCXO, 10 min with the crystal (R147). -/
def holdoverLimit (tcxo : Bool) : Nat := (if tcxo then 3600 else 600) * sec1

/-- HOLDOVER_LIMIT_EXPIRY (R147): the limit has passed; LOCAL is selected at the next boundary if it is in the order (R133). -/
def execHoldoverLimitExpiry (s : State) : Result :=
  if s.well.holdover then
    let s := s.upTo (s.well.holdoverFrom + holdoverLimit s.well.tcxo)
    .next { s with well := { s.well with limitPassed := true, limitAt := s.now } }
  else .next s

/-- Whether Wellspring runs: the core die is powered, and the mode is not SAFE, whose clock is the nominal ratio (R150). -/
def wellRuns (s : State) : Bool := powered s && !inMode .safe s

/-- HARDWARE_LOOP_UPDATE (R137): one comparison of the phase detector, its error in ns taken as R136 says; on LOCAL the report
of the synthesiser's own lock (Table 6.6). -/
def execHardwareLoopUpdate (t : Nat) (err : Int) (s : State) : Result :=
  let s := s.upTo t
  if s.well.holdover || !wellRuns s then .next s
  else
    match s.well.selected with
    | some .local => .next (if s.well.locked || s.well.stage != .idle then s else lockNow s)
    | some .net | none => .next s
    | some r =>
      .next (if s.well.stage == .frequency || s.well.stage == .phase then s
             else loopUpdate r (phaseMod (refRate s r) s.well.rate err) s)

/-- BANDWIDTH_STEP (R140): a halving is due, and is applied at the next block boundary. -/
def execBandwidthStep (s : State) : Result :=
  match s.well.nextHalf with
  | none => .next s
  | some d =>
    let s := s.upTo d
    .next { s with well := { s.well with halve := true, nextHalf := some (d + 2 * sec1) } }

/-- Whether the frequency stage is complete: the output within 0.01 ppm of the new reference's measured frequency; at the
nominal ratio itself for LOCAL (R142). -/
def frequencyReached (w : Wellspring) : Bool :=
  if w.selected == some .local then w.dco == 0 else decide ((w.dco - w.dcoGoal).natAbs ≤ 184467440737)

/-- SWITCH_FREQUENCY_STAGE_END (R142): once the output is within 0.01 ppm of the new reference a switch to LOCAL ends, and any
other pulls the phase error measured now, in ns; sooner the stage goes on. -/
def execSwitchFrequencyStageEnd (t : Nat) (err : Int) (s : State) : Result :=
  let s := s.upTo t
  if s.well.stage != .frequency || !frequencyReached s.well then .next s
  else
    match s.well.selected with
    | some .local => .next { s with well := { s.well with stage := .idle, locked := true } }
    | some r =>
      let err := phaseMod (refRate s r) s.well.rate err
      .next { s with well := { s.well with
        dcoGoal := s.well.dco, stage := .phase, phaseOff := 0, phaseLeft := err * 18446744073709551616 / 1000000 } }
    | none => .next s

/-- SWITCH_PHASE_STAGE_END (R142): once error and offset have reached zero together the loop closes at acquisition
bandwidth; sooner the stage goes on. -/
def execSwitchPhaseStageEnd (t : Nat) (s : State) : Result :=
  let s := s.upTo t
  if s.well.stage != .phase || s.well.phaseLeft != 0 || s.well.phaseOff != 0 then .next s
  else
    .next { s with well := { s.well with
      stage := .close, integ := s.well.dco
      bandwidth := match s.well.selected with
        | some r => bwAcquire r
        | none => s.well.bandwidth
      inCount := 0, outCount := 0 } }

/-- HISTORY_WINDOW_COMPLETE (R145): a window's mean ratio and temperature are kept, the last 16 windows of them, and a
NET window enters the aging day accumulator (R516). -/
def execHistoryWindowComplete (s : State) : Result :=
  match s.well.histAt, s.well.selected with
  | some d, some r =>
    let s := s.upTo d
    if !atTarget s.well || r == .local then .next s
    else
      let n : Int := if s.well.histCount = 0 then 1 else s.well.histCount
      let dco := (if s.well.histCount = 0 then s.well.dco else s.well.histSum / n) / 4294967296
      let temp := if s.well.histCount = 0 then s.plant.coreTemp else s.well.tempSum / n
      let h : HistWindow := { dco := dco, ref := r, tcxo := s.well.tcxo, temp := temp, day := s.gran.hours / 24 }
      let s := { s with
        history := (h :: s.history).take 16
        well := { s.well with histAt := some (d + 64 * sec1), histSum := 0, histCount := 0, tempSum := 0 } }
      .next (if r == .net && !s.gptp.grandmaster then
        { s with endur := { s.endur with
          accDco := s.endur.accDco + dco, accTemp := s.endur.accTemp + temp, accCount := s.endur.accCount + 1 } }
      else s)
  | _, _ => .next s

end Sys2Proof.Machine
end

