-- ==== Sys2Proof/Machine/Dispatch.lean ====
section
/-! DEFINITION. One arm for each command: a direct call of its meaning. -/

namespace Sys2Proof.Machine

open Sys2Proof

/-- The effect of a command on everything but the queue. -/
def exec (i : Instr) (s : State) : Host.Outcome State Fault Refusal :=
  match i with
  | .powerOnReset t aoLost tcxoIn => Sys2Proof.Machine.execPowerOnReset t aoLost tcxoIn s
  | .resetNAssert t lowNs => Sys2Proof.Machine.execResetNAssert t lowNs s
  | .resetRelease resetNRise porEnd => Sys2Proof.Machine.execResetRelease resetNRise porEnd s
  | .supplySupervisorReset t => Sys2Proof.Machine.execSupplySupervisorReset t s
  | .watchdogExpiry t => Sys2Proof.Machine.execWatchdogExpiry t s
  | .startDeadline => Sys2Proof.Machine.execStartDeadline s
  | .preStartPair t first second => Sys2Proof.Machine.execPreStartPair t first second s
  | .preconditionBeforeStart t vbatMv => Sys2Proof.Machine.execPreconditionBeforeStart t vbatMv s
  | .strapReading codes => Sys2Proof.Machine.execStrapReading codes s
  | .strapLatch => Sys2Proof.Machine.execStrapLatch s
  | .strapReread a b => Sys2Proof.Machine.execStrapReread a b s
  | .pairDebouncedChange t samples => Sys2Proof.Machine.execPairDebouncedChange t samples s
  | .pairHoldClear => Sys2Proof.Machine.execPairHoldClear s
  | .pairReleaseEarly t => Sys2Proof.Machine.execPairReleaseEarly t s
  | .flashBringup t tries => Sys2Proof.Machine.execFlashBringup t tries s
  | .imageVerify t spoil => Sys2Proof.Machine.execImageVerify t spoil s
  | .loftLoad t good => Sys2Proof.Machine.execLoftLoad t good s
  | .thresherSelfCheck t failing => Sys2Proof.Machine.execThresherSelfCheck t failing s
  | .psramBringup t tries => Sys2Proof.Machine.execPsramBringup t tries s
  | .dataPathSetup t entropyOk => Sys2Proof.Machine.execDataPathSetup t entropyOk s
  | .startReferenceDeadline => Sys2Proof.Machine.execStartReferenceDeadline s
  | .runningEntry t => Sys2Proof.Machine.execRunningEntry t s
  | .failedStartCounterClear => Sys2Proof.Machine.execFailedStartCounterClear s
  | .blockBoundary x => Sys2Proof.Machine.execBlockBoundary x s
  | .faultFoldExpiry code => Sys2Proof.Machine.execFaultFoldExpiry code s
  | .leaderAbsentTimeout n => Sys2Proof.Machine.execLeaderAbsentTimeout n s
  | .dieLinkLoss t => Sys2Proof.Machine.execDieLinkLoss t s
  | .dieLinkRestored t => Sys2Proof.Machine.execDieLinkRestored t s
  | .dieLinkRestoreTimeout => Sys2Proof.Machine.execDieLinkRestoreTimeout s
  | .clockMonitorLoss t domains => Sys2Proof.Machine.execClockMonitorLoss t domains s
  | .clockLossReset t => Sys2Proof.Machine.execClockLossReset t s
  | .slumberConditionsHeld since => Sys2Proof.Machine.execSlumberConditionsHeld since s
  | .slumberPowerDown t => Sys2Proof.Machine.execSlumberPowerDown t s
  | .beaconWindowOpen => Sys2Proof.Machine.execBeaconWindowOpen s
  | .beaconReceive t from_ stamp stayAwake => Sys2Proof.Machine.execBeaconReceive t from_ stamp stayAwake s
  | .beaconWindowClose => Sys2Proof.Machine.execBeaconWindowClose s
  | .beaconSearchFailed => Sys2Proof.Machine.execBeaconSearchFailed s
  | .partnerWakeAnswerTimeout => Sys2Proof.Machine.execPartnerWakeAnswerTimeout s
  | .wakeEvent t cause => Sys2Proof.Machine.execWakeEvent t cause s
  | .slumberResume x => Sys2Proof.Machine.execSlumberResume x s
  | .heartbeatSend => Sys2Proof.Machine.execHeartbeatSend s
  | .telemetrySend => Sys2Proof.Machine.execTelemetrySend s
  | .replaySend t => Sys2Proof.Machine.execReplaySend t s
  | .fumaroleQueueRoom t path => Sys2Proof.Machine.execFumaroleQueueRoom t path s
  | .fumaroleFrameReceive t f => Sys2Proof.Machine.execFumaroleFrameReceive t f s
  | .ashLogEntryWrite t failed => Sys2Proof.Machine.execAshLogEntryWrite t failed s
  | .ashLogFoldExpiry code => Sys2Proof.Machine.execAshLogFoldExpiry code s
  | .ashLogHourResume => Sys2Proof.Machine.execAshLogHourResume s
  | .qualificationWindowEnd net bpi0 bpi1 wclk => Sys2Proof.Machine.execQualificationWindowEnd net bpi0 bpi1 wclk s
  | .referenceLoss t r crf => Sys2Proof.Machine.execReferenceLoss t r crf s
  | .referenceBarExpiry r => Sys2Proof.Machine.execReferenceBarExpiry r s
  | .holdoverLimitExpiry => Sys2Proof.Machine.execHoldoverLimitExpiry s
  | .hardwareLoopUpdate t err => Sys2Proof.Machine.execHardwareLoopUpdate t err s
  | .bandwidthStep => Sys2Proof.Machine.execBandwidthStep s
  | .switchFrequencyStageEnd t err => Sys2Proof.Machine.execSwitchFrequencyStageEnd t err s
  | .switchPhaseStageEnd t => Sys2Proof.Machine.execSwitchPhaseStageEnd t s
  | .historyWindowComplete => Sys2Proof.Machine.execHistoryWindowComplete s
  | .cableDiagnostic a b => Sys2Proof.Machine.execCableDiagnostic a b s
  | .linkModeAlternate u page => Sys2Proof.Machine.execLinkModeAlternate u page s
  | .phyLinkChange t u up eee => Sys2Proof.Machine.execPhyLinkChange t u up eee s
  | .linkDeclare u => Sys2Proof.Machine.execLinkDeclare u s
  | .linkUpDeadline u => Sys2Proof.Machine.execLinkUpDeadline u s
  | .linkChangeQuiet u => Sys2Proof.Machine.execLinkChangeQuiet u s
  | .podlClassification t => Sys2Proof.Machine.execPodlClassification t s
  | .podlPowerApplied t volts24 pairMv => Sys2Proof.Machine.execPodlPowerApplied t volts24 pairMv s
  | .podlPowerTimeout => Sys2Proof.Machine.execPodlPowerTimeout s
  | .frameIngress t u f => Sys2Proof.Machine.execFrameIngress t u f s
  | .flowIdleExpiry src dst => Sys2Proof.Machine.execFlowIdleExpiry src dst s
  | .partnerAsleep t u => Sys2Proof.Machine.execPartnerAsleep t u s
  | .syncReceive t u gm => Sys2Proof.Machine.execSyncReceive t u gm s
  | .syncSend u => Sys2Proof.Machine.execSyncSend u s
  | .announceReceive t u v => Sys2Proof.Machine.execAnnounceReceive t u v s
  | .announceSend u => Sys2Proof.Machine.execAnnounceSend u s
  | .announceReceiptTimeout u => Sys2Proof.Machine.execAnnounceReceiptTimeout u s
  | .syncReceiptTimeout => Sys2Proof.Machine.execSyncReceiptTimeout s
  | .pdelayRequestSend u => Sys2Proof.Machine.execPdelayRequestSend u s
  | .pdelayResponseReceive t u seq rx tx => Sys2Proof.Machine.execPdelayResponseReceive t u seq rx tx s
  | .pdelayRequestReceive t u seq => Sys2Proof.Machine.execPdelayRequestReceive t u seq s
  | .priorityHoldExpiry => Sys2Proof.Machine.execPriorityHoldExpiry s
  | .gptpSyncHoldExpiry => Sys2Proof.Machine.execGptpSyncHoldExpiry s
  | .aafFrameSend k => Sys2Proof.Machine.execAafFrameSend k s
  | .crfFrameSend => Sys2Proof.Machine.execCrfFrameSend s
  | .aafFrameReceive t f => Sys2Proof.Machine.execAafFrameReceive t f s
  | .crfFrameReceive t f => Sys2Proof.Machine.execCrfFrameReceive t f s
  | .streamSourceTimeout kind n => Sys2Proof.Machine.execStreamSourceTimeout kind n s
  | .recoveryResetTimeout kind n => Sys2Proof.Machine.execRecoveryResetTimeout kind n s
  | .admissionEvaluation => Sys2Proof.Machine.execAdmissionEvaluation s
  | .tieSlotStart t => Sys2Proof.Machine.execTieSlotStart t s
  | .tieHeartbeat t x => Sys2Proof.Machine.execTieHeartbeat t x s
  | .tieBlock t b => Sys2Proof.Machine.execTieBlock t b s
  | .tieCheckpointChunk t x => Sys2Proof.Machine.execTieCheckpointChunk t x s
  | .resyncRequest t x => Sys2Proof.Machine.execResyncRequest t x s
  | .takeBackRequest t x => Sys2Proof.Machine.execTakeBackRequest t x s
  | .takeBackAccepted t x => Sys2Proof.Machine.execTakeBackAccepted t x s
  | .takeBackCommit t x => Sys2Proof.Machine.execTakeBackCommit t x s
  | .slumberProposal t x => Sys2Proof.Machine.execSlumberProposal t x s
  | .slumberAnswer t x => Sys2Proof.Machine.execSlumberAnswer t x s
  | .wakeRequest t x => Sys2Proof.Machine.execWakeRequest t x s
  | .blockFrameTimeout => Sys2Proof.Machine.execBlockFrameTimeout s
  | .tieDown => Sys2Proof.Machine.execTieDown s
  | .tieCollision t => Sys2Proof.Machine.execTieCollision t s
  | .resyncReplayComplete t => Sys2Proof.Machine.execResyncReplayComplete t s
  | .resyncTimeout => Sys2Proof.Machine.execResyncTimeout s
  | .partnerHeartbeatSend => Sys2Proof.Machine.execPartnerHeartbeatSend s
  | .partnerContactTimeout => Sys2Proof.Machine.execPartnerContactTimeout s
  | .checkpointTake t => Sys2Proof.Machine.execCheckpointTake t s
  | .checkpointComplete t => Sys2Proof.Machine.execCheckpointComplete t s
  | .checkpointStaleTimeout => Sys2Proof.Machine.execCheckpointStaleTimeout s
  | .partnerContactDeadline => Sys2Proof.Machine.execPartnerContactDeadline s
  | .leaderLost => Sys2Proof.Machine.execLeaderLost s
  | .checkpointRestoreComplete t => Sys2Proof.Machine.execCheckpointRestoreComplete t s
  | .takeBackEligible => Sys2Proof.Machine.execTakeBackEligible s
  | .takeBackRetry => Sys2Proof.Machine.execTakeBackRetry s
  | .takeBackRelease => Sys2Proof.Machine.execTakeBackRelease s
  | .reservationCommit t ann fails => Sys2Proof.Machine.execReservationCommit t ann fails s
  | .keyCreate spoil => Sys2Proof.Machine.execKeyCreate spoil s
  | .keyRenew spoil => Sys2Proof.Machine.execKeyRenew spoil s
  | .akDistributionSend => Sys2Proof.Machine.execAkDistributionSend s
  | .akDistributionReceive t f => Sys2Proof.Machine.execAkDistributionReceive t f s
  | .pairPress t heldNs => Sys2Proof.Machine.execPairPress t heldNs s
  | .pairListenExpiry => Sys2Proof.Machine.execPairListenExpiry s
  | .windowFrameSend => Sys2Proof.Machine.execWindowFrameSend s
  | .windowFrameReceive t f => Sys2Proof.Machine.execWindowFrameReceive t f s
  | .joinReceive t f => Sys2Proof.Machine.execJoinReceive t f s
  | .joinResend => Sys2Proof.Machine.execJoinResend s
  | .keyFrameReceive t f spoil fails => Sys2Proof.Machine.execKeyFrameReceive t f spoil fails s
  | .keyFrameTimeout => Sys2Proof.Machine.execKeyFrameTimeout s
  | .doneReceive t f fails => Sys2Proof.Machine.execDoneReceive t f fails s
  | .doneTimeout eui => Sys2Proof.Machine.execDoneTimeout eui s
  | .pairingWindowExpiry => Sys2Proof.Machine.execPairingWindowExpiry s
  | .biphaseFrameReceive t n f => Sys2Proof.Machine.execBiphaseFrameReceive t n f s
  | .biphaseInputLoss t n rateOut => Sys2Proof.Machine.execBiphaseInputLoss t n rateOut s
  | .tdmFrameJudged t p c fs data => Sys2Proof.Machine.execTdmFrameJudged t p c fs data s
  | .tdmFrameTimerExpiry p => Sys2Proof.Machine.execTdmFrameTimerExpiry p s
  | .tdmRateWindow t p => Sys2Proof.Machine.execTdmRateWindow t p s
  | .tdmQualifyDeadline p => Sys2Proof.Machine.execTdmQualifyDeadline p s
  | .micEnFall t lowNs => Sys2Proof.Machine.execMicEnFall t lowNs s
  | .micEnOpen since => Sys2Proof.Machine.execMicEnOpen since s
  | .pdmSettleExpiry line => Sys2Proof.Machine.execPdmSettleExpiry line s
  | .usbVbusChange t high => Sys2Proof.Machine.execUsbVbusChange t high s
  | .usbBusReset t full dataDone => Sys2Proof.Machine.execUsbBusReset t full dataDone s
  | .standardDeviceRequest t p => Sys2Proof.Machine.execStandardDeviceRequest t p s
  | .setFeatureRemoteWakeup t => Sys2Proof.Machine.execSetFeatureRemoteWakeup t s
  | .setFeatureTestMode t index => Sys2Proof.Machine.execSetFeatureTestMode t index s
  | .setConfiguration t value => Sys2Proof.Machine.execSetConfiguration t value s
  | .setInterface t itf alt => Sys2Proof.Machine.execSetInterface t itf alt s
  | .getCurFrequency t => Sys2Proof.Machine.execGetCurFrequency t s
  | .getRangeFrequency t => Sys2Proof.Machine.execGetRangeFrequency t s
  | .setCurFrequency t hz => Sys2Proof.Machine.execSetCurFrequency t hz s
  | .getCurValidity t => Sys2Proof.Machine.execGetCurValidity t s
  | .unsupportedUsbRequest t p => Sys2Proof.Machine.execUnsupportedUsbRequest t p s
  | .controlStatusComplete t => Sys2Proof.Machine.execControlStatusComplete t s
  | .usbSuspend t => Sys2Proof.Machine.execUsbSuspend t s
  | .usbResume t => Sys2Proof.Machine.execUsbResume t s
  | .usbOutPacket t b => Sys2Proof.Machine.execUsbOutPacket t b s
  | .usbSof t => Sys2Proof.Machine.execUsbSof t s
  | .feedbackUpdate t => Sys2Proof.Machine.execFeedbackUpdate t s
  | .asrcTrackingStart t u => Sys2Proof.Machine.execAsrcTrackingStart t u s
  | .asrcLock t u => Sys2Proof.Machine.execAsrcLock t u s
  | .asrcUnlock t u => Sys2Proof.Machine.execAsrcUnlock t u s
  | .asrcLockTimeout u ratioOut => Sys2Proof.Machine.execAsrcLockTimeout u ratioOut s
  | .asrcFixedRatioEntry t u k => Sys2Proof.Machine.execAsrcFixedRatioEntry t u k s
  | .startDetect t => Sys2Proof.Machine.execStartDetect t s
  | .startTimeout => Sys2Proof.Machine.execStartTimeout s
  | .muteNChange t low => Sys2Proof.Machine.execMuteNChange t low s
  | .jobComplete t ctx rerun => Sys2Proof.Machine.execJobComplete t ctx rerun s
  | .jobDeadlineExpiry => Sys2Proof.Machine.execJobDeadlineExpiry s
  | .stateCommit t ctx => Sys2Proof.Machine.execStateCommit t ctx s
  | .statePrefetch t ctx => Sys2Proof.Machine.execStatePrefetch t ctx s
  | .visibilityInstant => Sys2Proof.Machine.execVisibilityInstant s
  | .laneDriveTimeout => Sys2Proof.Machine.execLaneDriveTimeout s
  | .playoutDeadline t kind n => Sys2Proof.Machine.execPlayoutDeadline t kind n s
  | .selfCheckPass failing => Sys2Proof.Machine.execSelfCheckPass failing s
  | .flashReadTimeout t addr => Sys2Proof.Machine.execFlashReadTimeout t addr s
  | .flashOperationComplete t failed => Sys2Proof.Machine.execFlashOperationComplete t failed s
  | .flashSuspendRead t => Sys2Proof.Machine.execFlashSuspendRead t s
  | .siloTransactionTimeout t addr => Sys2Proof.Machine.execSiloTransactionTimeout t addr s
  | .busTransactionComplete t silo asked => Sys2Proof.Machine.execBusTransactionComplete t silo asked s
  | .dmaRegisterSetComplete t ch => Sys2Proof.Machine.execDmaRegisterSetComplete t ch s
  | .dmaPaceMark t ch fill => Sys2Proof.Machine.execDmaPaceMark t ch fill s
  | .dmaShadowWrite t ch set forBoundary => Sys2Proof.Machine.execDmaShadowWrite t ch set forBoundary s
  | .poweredHour fails => Sys2Proof.Machine.execPoweredHour fails s
  | .slotWriteStart t => Sys2Proof.Machine.execSlotWriteStart t s
  | .slotWriteComplete t marker fails spoil => Sys2Proof.Machine.execSlotWriteComplete t marker fails spoil s
  | .imageAdvertSend => Sys2Proof.Machine.execImageAdvertSend s
  | .imageAdvertReceive t f => Sys2Proof.Machine.execImageAdvertReceive t f s
  | .imageRequestReceive t f => Sys2Proof.Machine.execImageRequestReceive t f s
  | .imageChunkSend t => Sys2Proof.Machine.execImageChunkSend t s
  | .imageChunkReceive t f => Sys2Proof.Machine.execImageChunkReceive t f s
  | .imageRequestRetry => Sys2Proof.Machine.execImageRequestRetry s
  | .imageFetchAbandon => Sys2Proof.Machine.execImageFetchAbandon s
  | .vinValid t vinMv => Sys2Proof.Machine.execVinValid t vinMv s
  | .vinLost t vinMv meanMv => Sys2Proof.Machine.execVinLost t vinMv meanMv s
  | .vinRangeTimeout t vinMv => Sys2Proof.Machine.execVinRangeTimeout t vinMv s
  | .inputBudgetLoop t vinMv vinMa vsysMv => Sys2Proof.Machine.execInputBudgetLoop t vinMv vinMa vsysMv s
  | .batteryAbsentTimeout => Sys2Proof.Machine.execBatteryAbsentTimeout s
  | .requestedLimits t => Sys2Proof.Machine.execRequestedLimits t s
  | .fixedThresholdEntry => Sys2Proof.Machine.execFixedThresholdEntry s
  | .fixedThresholdExit => Sys2Proof.Machine.execFixedThresholdExit s
  | .chargeCompleteTimer => Sys2Proof.Machine.execChargeCompleteTimer s
  | .chargeTimerExpiry => Sys2Proof.Machine.execChargeTimerExpiry s
  | .preconditionTimeout => Sys2Proof.Machine.execPreconditionTimeout s
  | .batteryThermalUpdate t x => Sys2Proof.Machine.execBatteryThermalUpdate t x s
  | .dischargeCutoff t vbatMv => Sys2Proof.Machine.execDischargeCutoff t vbatMv s
  | .batterySwitchOpen => Sys2Proof.Machine.execBatterySwitchOpen s
  | .packOvervoltage t vbatMv => Sys2Proof.Machine.execPackOvervoltage t vbatMv s
  | .socRestRecalibrate => Sys2Proof.Machine.execSocRestRecalibrate s
  | .thermalModelRelease ch => Sys2Proof.Machine.execThermalModelRelease ch s
  | .speakerGuard t ch => Sys2Proof.Machine.execSpeakerGuard t ch s
  | .speakerOvercurrent t stage short => Sys2Proof.Machine.execSpeakerOvercurrent t stage short s
  | .openLoadDetect t ch cent => Sys2Proof.Machine.execOpenLoadDetect t ch cent s
  | .motorCommand t posMv pvddMv ma => Sys2Proof.Machine.execMotorCommand t posMv pvddMv ma s
  | .backEmfWindow t bemfMv => Sys2Proof.Machine.execBackEmfWindow t bemfMv s
  | .motorPeakCurrent t ma => Sys2Proof.Machine.execMotorPeakCurrent t ma s
  | .motPosOutOfRange => Sys2Proof.Machine.execMotPosOutOfRange s
  | .motorStall => Sys2Proof.Machine.execMotorStall s
  | .stallHoldExpiry => Sys2Proof.Machine.execStallHoldExpiry s
  | .plantDieTemperature t deg => Sys2Proof.Machine.execPlantDieTemperature t deg s
  | .coreDieOvertemp t deg => Sys2Proof.Machine.execCoreDieOvertemp t deg s
  | .sramCorrectedError t loft bank row => Sys2Proof.Machine.execSramCorrectedError t loft bank row s
  | .sramUncorrectableError t loft bank row word what => Sys2Proof.Machine.execSramUncorrectableError t loft bank row word what s
  | .scrubPass => Sys2Proof.Machine.execScrubPass s
  | .rowCopyComplete t bank row => Sys2Proof.Machine.execRowCopyComplete t bank row s
  | .loftRowFillComplete t bank row => Sys2Proof.Machine.execLoftRowFillComplete t bank row s
  | .extest t => Sys2Proof.Machine.execExtest t s
  | .idcode t => Sys2Proof.Machine.execIdcode t s
  | .samplePreload t => Sys2Proof.Machine.execSamplePreload t s
  | .highz t => Sys2Proof.Machine.execHighz t s
  | .clamp t => Sys2Proof.Machine.execClamp t s
  | .bypass t op => Sys2Proof.Machine.execBypass t op s
  | .tapReset t => Sys2Proof.Machine.execTapReset t s
  | .sharedNodeAddressQuiet => Sys2Proof.Machine.execSharedNodeAddressQuiet s
  | .chargerVoltageThreshold t vbatMv => Sys2Proof.Machine.execChargerVoltageThreshold t vbatMv s
  | .packConnected t x => Sys2Proof.Machine.execPackConnected t x s
  | .holdoverAgingCorrection => Sys2Proof.Machine.execHoldoverAgingCorrection s
  | .dataRegisterScan t pins tdi => Sys2Proof.Machine.execDataRegisterScan t pins tdi s

end Sys2Proof.Machine
end

