-- ==== Sys2Proof/Machine/Step.lean ====
section
/-! DEFINITION. One step: the command at the front of the queue, or one SYS period of idling. -/

namespace Sys2Proof.Machine

open Sys2Proof

/-- The nominal period of SYS, in ns (Table 5.1). -/
def sysPeriod : Nat := 4

/-- One step. On an empty queue one SYS period passes: device time runs and the paths and ports send (log entry 2). -/
def step (s : State) : Host.Outcome State Fault Refusal :=
  match s.pending with
  | [] => .next (s.advance sysPeriod)
  | c :: rest => exec c { s with pending := rest }

/-- The state with the command a word spells put at the front of its queue; unchanged where the word spells none. -/
def State.withFetchWord (s : State) (nbits w : Nat) : State :=
  match decodeTableWord nbits w with
  | some c => { s with pending := c :: s.pending }
  | none => s

end Sys2Proof.Machine
end

