-- ==== Sys2Proof/Safety.lean ====
section
/-! DEFINITION. What holds of every state a safe run goes through, in the terms the statements use. -/

namespace Sys2Proof.Machine

open Sys2Proof

/-- The flash, the PSRAM, the loft and the buffer SRAM are in canonical form. -/
def State.memWf (s : State) : Bool :=
  Memory.wf 0xFF#8 s.mem.flash && Memory.wf 0#8 s.mem.psram && Memory.wf 0#8 s.mem.loft && Memory.wf 0#8 s.mem.sram

/-- The next places of the flash's rings lie within them. -/
def State.ringsFit (s : State) : Prop :=
  s.log.nextSlot ≤ 2048 ∧ s.sec.recSlot ≤ 2048 ∧ s.gran.pairPlace ≤ 2048 ∧ s.gran.serviceAt ≤ 4096

/-- A command run from a state answers a next state, and what holds of that state. -/
def Runs (c : Instr) (s : State) (P : State → Prop) : Prop := ∃ u, exec c s = .next u ∧ P u

/-- A frame that reaches the endpoint at an instant: the switch offers it, SYS runs, and the checks of R246 find it good. -/
def Received (s : State) (t : Nat) (f : NetFrame) : Prop :=
  isOffered (s.upTo t) f = true ∧ sysStopped s = false ∧ verify (s.upTo t) f = .good

/-- A frame of the other device of a hot pair that comes in on TIE while the device is awake: it parses, and is of a kind. -/
def TieHeard (s : State) (b : TieFrame) (h : TieHead) (kind : Nat) : Prop :=
  usesTie s = true ∧ inMode .slumber s = false ∧ sysStopped s = false ∧ tieParse s b = some h ∧ h.kind = kind

/-! ### What each command may change -/

/-- The parts of the state a command may change. Time, which every command may let pass, is not among them. -/
inductive Part where
  /-- The device may be reset, which leaves it held. -/
  | reset
  /-- The counter of free values. -/
  | freeCtr
  /-- Start and modes. -/
  | start
  /-- The always-on domain. -/
  | aon
  /-- The straps. -/
  | straps
  /-- What the device tells, but for what time moves out of the serial paths. -/
  | status
  /-- The ash log in memory. -/
  | log
  /-- Wellspring. -/
  | well
  /-- The frequency history. -/
  | history
  /-- The ports, but for what time moves out of them. -/
  | ports
  /-- PoDL. -/
  | podl
  /-- The switch. -/
  | switch
  /-- gPTP and device time, but for the time that passes. -/
  | gptp
  /-- The streams. -/
  | streams
  /-- Routing. -/
  | routing
  /-- Pairs and TIE. -/
  | red
  /-- Key slots and signer records. -/
  | slots
  /-- Keys in use, packet numbers and pairing. -/
  | keys
  /-- Biphase inputs. -/
  | bpi
  /-- Biphase outputs. -/
  | bpo
  /-- TDM ports. -/
  | tdm
  /-- The microphone gate. -/
  | mic
  /-- The USB function. -/
  | usb
  /-- Block clock, ASRC pairs, START and MUTE_N. -/
  | blocks
  /-- Thresher. -/
  | thr
  /-- The bytes of the flash. -/
  | flash
  /-- The bytes of the PSRAM. -/
  | psram
  /-- The bytes of the loft. -/
  | loft
  /-- The bytes of the buffer SRAM. -/
  | sram
  /-- The memories' controllers, buses and DMA channels. -/
  | memory
  /-- The Granary. -/
  | gran
  /-- The clip player. -/
  | clips
  /-- Power path and battery. -/
  | plant
  /-- Loudspeaker stages. -/
  | spk
  /-- Motor bridge. -/
  | motor
  /-- Repair and aging. -/
  | endur
  /-- SLUMBER. -/
  | sleep
  /-- Input lands. -/
  | lands
  /-- The test access port. -/
  | jtag
  /-- The crossing queues. -/
  | cross
deriving DecidableEq, Repr

/-- A port without what time moves: its queues, the frame on the wire and the transmit stamp that frame takes. -/
def Port.bare (p : Port) : Port :=
  { p with
    gptpQ := [], wait := [], classA := [], best := [], credit := 0, busyA := false, busy := 0, wire := none
    pdelaySent := none }

/-- A port after time alone: it has sent frames from the front of its queues, and no frame was put into one. -/
def Port.sendsTo (p q : Port) : Prop :=
  q.bare = p.bare ∧ q.gptpQ ++ q.wait <:+ p.gptpQ ++ p.wait ∧ q.classA <:+ p.classA ∧ q.best <:+ p.best

/-- A part is as before. Passing time alone moves frames out of the serial paths and the ports, and runs device time, in one
span or in several that follow one another. -/
def Part.same (p : Part) (s u : State) : Prop :=
  match p with
  | .reset => True
  | .freeCtr => u.freeCtr = s.freeCtr
  | .start => u.start = s.start
  | .aon => u.aon = s.aon
  | .straps => u.straps = s.straps
  | .status => u.status = { s.status with stat := u.status.stat, bpo := u.status.bpo, lines := u.status.lines }
  | .log => u.log = s.log
  | .well => u.well = s.well
  | .history => u.history = s.history
  | .ports => ∀ i : Fin 2, s.ports[i].sendsTo u.ports[i]
  | .podl => u.podl = s.podl
  | .switch => u.switch = s.switch
  | .gptp => ∃ l : List Nat, l.sum = u.now - s.now ∧ u.gptp = l.foldl (fun g dt => g.tick dt) s.gptp
  | .streams => u.streams = s.streams
  | .routing => u.routing = s.routing
  | .red => u.red = s.red
  | .slots => u.sec.slots = s.sec.slots ∧ u.sec.signers = s.sec.signers
  | .keys => u.sec = { s.sec with slots := u.sec.slots, signers := u.sec.signers }
  | .bpi => u.bpi = s.bpi
  | .bpo => u.bpo = s.bpo
  | .tdm => u.tdm = s.tdm
  | .mic => u.mic = s.mic
  | .usb => u.usb = s.usb
  | .blocks => u.blocks = s.blocks
  | .thr => u.thr = s.thr
  | .flash => u.mem.flash = s.mem.flash
  | .psram => u.mem.psram = s.mem.psram
  | .loft => u.mem.loft = s.mem.loft
  | .sram => u.mem.sram = s.mem.sram
  | .memory => u.mem = { s.mem with flash := u.mem.flash, psram := u.mem.psram, loft := u.mem.loft, sram := u.mem.sram }
  | .gran => u.gran = s.gran
  | .clips => u.clips = s.clips
  | .plant => u.plant = s.plant
  | .spk => u.spk = s.spk
  | .motor => u.motor = s.motor
  | .endur => u.endur = s.endur
  | .sleep => u.sleep = s.sleep
  | .lands => u.lands = s.lands
  | .jtag => u.jtag = s.jtag
  | .cross => u.cross = s.cross

/-- The families of the commands. -/
inductive Family where
  /-- Resets, straps, start, blocks, the plant die's link, what the device tells, and SLUMBER. -/
  | start
  /-- Wellspring, gPTP and device time, ports, switch and streams. -/
  | network
  /-- Pairs and TIE. -/
  | pair
  /-- Keys, pairing, the Granary and the memories. -/
  | keys
  /-- Biphase, TDM, PDM, USB and the ASRC pairs. -/
  | audio
  /-- Thresher, jobs, repair and aging, power, loudspeakers, motor and the test access port. -/
  | plant
deriving DecidableEq, Repr

/-- The family of a command, and the parts it may change. -/
def footprint (c : Instr) : Family × List Part :=
  match c with
  | .powerOnReset _ _ _ => (.start, [.reset, .aon, .well, .history, .thr, .gran, .endur, .lands])
  | .resetNAssert _ _ => (.start, [.reset, .freeCtr, .lands])
  | .resetRelease _ _ => (.start, [.start, .gptp, .blocks, .endur, .lands])
  | .supplySupervisorReset _ => (.start, [.reset])
  | .watchdogExpiry _ => (.start, [.reset])
  | .startDeadline => (.start, [.reset, .aon, .status, .log])
  | .preStartPair _ _ _ => (.start, [.straps])
  | .preconditionBeforeStart _ _ => (.start, [.plant])
  | .strapReading _ => (.start, [.straps])
  | .strapLatch => (.start, [.start, .aon, .straps, .status, .log, .well, .history, .ports, .podl, .switch, .gptp,
      .streams, .routing, .red, .keys, .bpi, .bpo, .tdm, .mic, .usb, .blocks, .thr, .gran, .clips, .plant, .spk,
      .motor, .sleep])
  | .strapReread _ _ => (.start, [.straps, .status, .log])
  | .pairDebouncedChange _ _ => (.start, [.start, .lands])
  | .pairHoldClear => (.start, [.start, .aon, .status, .log, .well, .history, .ports])
  | .pairReleaseEarly _ => (.start, [.start, .status, .log, .well, .history, .ports, .switch, .gptp, .streams, .routing,
      .red, .keys, .bpi, .bpo, .tdm, .mic, .usb, .blocks, .thr, .gran, .clips, .plant, .spk, .motor, .sleep, .lands])
  | .flashBringup _ _ => (.keys, [.status, .log, .routing, .red, .keys, .memory, .gran])
  | .imageVerify _ _ => (.keys, [.start, .status, .log, .slots, .gran])
  | .loftLoad _ _ => (.keys, [.reset, .start, .aon, .status, .log, .thr, .loft, .memory, .gran, .sleep])
  | .thresherSelfCheck _ _ => (.plant, [.reset, .start, .aon, .status, .log, .thr])
  | .psramBringup _ _ => (.keys, [.reset, .start, .psram, .memory])
  | .dataPathSetup _ _ => (.start, [.reset, .start, .switch, .keys, .memory])
  | .startReferenceDeadline => (.network, [.status, .log, .well, .history])
  | .runningEntry _ => (.start, [.start, .status, .log, .well, .ports, .gptp, .streams, .red, .keys, .bpi, .tdm,
      .blocks, .thr, .psram, .gran, .plant, .sleep])
  | .failedStartCounterClear => (.start, [.start, .aon, .log])
  | .blockBoundary _ => (.start, [.start, .status, .log, .well, .history, .ports, .gptp, .streams, .routing, .red,
      .keys, .bpi, .bpo, .tdm, .mic, .usb, .blocks, .thr, .psram, .loft, .sram, .memory, .gran, .clips, .plant, .spk,
      .motor, .endur, .sleep, .lands])
  | .faultFoldExpiry _ => (.start, [.status])
  | .leaderAbsentTimeout _ => (.network, [.status, .log])
  | .dieLinkLoss _ => (.start, [.plant, .spk, .motor])
  | .dieLinkRestored _ => (.start, [.status, .log, .plant])
  | .dieLinkRestoreTimeout => (.start, [.reset])
  | .clockMonitorLoss _ _ => (.start, [.aon, .log])
  | .clockLossReset _ => (.start, [.reset, .aon])
  | .slumberConditionsHeld _ => (.start, [.ports, .streams, .red, .keys, .sleep])
  | .slumberPowerDown _ => (.start, [.freeCtr, .start, .status, .ports, .gptp, .streams, .keys, .loft, .sleep])
  | .beaconWindowOpen => (.start, [.sleep])
  | .beaconReceive _ _ _ _ => (.start, [.start, .status, .well, .gptp, .blocks, .memory, .sleep])
  | .beaconWindowClose => (.start, [.start, .status, .well, .history, .ports, .gptp, .streams, .red, .keys, .blocks,
      .memory, .sleep])
  | .beaconSearchFailed => (.start, [.start, .status, .well, .history, .ports, .gptp, .streams, .red, .keys, .blocks,
      .memory, .sleep])
  | .partnerWakeAnswerTimeout => (.start, [.red])
  | .wakeEvent _ _ => (.start, [.start, .status, .well, .gptp, .blocks, .memory, .sleep, .lands])
  | .slumberResume _ => (.start, [.start, .status, .log, .well, .history, .ports, .gptp, .streams, .routing, .red,
      .keys, .bpi, .bpo, .tdm, .mic, .usb, .blocks, .thr, .psram, .loft, .sram, .gran, .clips, .plant, .spk, .motor,
      .endur, .sleep, .lands])
  | .heartbeatSend => (.start, [.status, .ports, .streams, .keys, .sleep])
  | .telemetrySend => (.start, [.status, .ports, .streams, .keys, .thr, .spk, .motor])
  | .replaySend _ => (.start, [.status])
  | .fumaroleQueueRoom _ _ => (.start, [.status, .ports, .streams, .keys])
  | .fumaroleFrameReceive _ _ => (.network, [.status, .log, .keys, .sleep, .cross])
  | .ashLogEntryWrite _ _ => (.start, [.freeCtr, .status, .log, .flash])
  | .ashLogFoldExpiry _ => (.start, [.log])
  | .ashLogHourResume => (.start, [.status, .log])
  | .qualificationWindowEnd _ _ _ _ => (.network, [.status, .well, .history])
  | .referenceLoss _ _ _ => (.network, [.status, .log, .well, .history, .endur])
  | .referenceBarExpiry _ => (.network, [.well])
  | .holdoverLimitExpiry => (.network, [.well])
  | .hardwareLoopUpdate _ _ => (.network, [.status, .log, .well, .history, .blocks, .endur])
  | .bandwidthStep => (.network, [.well])
  | .switchFrequencyStageEnd _ _ => (.network, [.well])
  | .switchPhaseStageEnd _ => (.network, [.well])
  | .historyWindowComplete => (.network, [.well, .history, .endur])
  | .cableDiagnostic _ _ => (.network, [.status, .log, .ports])
  | .linkModeAlternate _ _ => (.network, [.ports])
  | .phyLinkChange _ _ _ _ => (.network, [.ports])
  | .linkDeclare _ => (.network, [.status, .log, .ports, .gptp])
  | .linkUpDeadline _ => (.network, [.status, .log])
  | .linkChangeQuiet _ => (.network, [.status, .ports])
  | .podlClassification _ => (.network, [.podl])
  | .podlPowerApplied _ _ _ => (.network, [.status, .podl, .plant])
  | .podlPowerTimeout => (.network, [.status, .log, .podl])
  | .frameIngress _ _ _ => (.network, [.status, .log, .ports, .switch, .red, .cross])
  | .flowIdleExpiry _ _ => (.network, [.switch])
  | .partnerAsleep _ _ => (.network, [.ports])
  | .syncReceive _ _ _ => (.network, [.status, .gptp, .streams, .red, .keys, .blocks, .gran, .cross])
  | .syncSend _ => (.network, [.ports, .gptp])
  | .announceReceive _ _ _ => (.network, [.status, .ports, .gptp, .cross])
  | .announceSend _ => (.network, [.ports, .gptp])
  | .announceReceiptTimeout _ => (.network, [.status, .ports, .gptp])
  | .syncReceiptTimeout => (.network, [.status, .ports, .gptp])
  | .pdelayRequestSend _ => (.network, [.ports])
  | .pdelayResponseReceive _ _ _ _ _ => (.network, [.ports, .cross])
  | .pdelayRequestReceive _ _ _ => (.network, [.ports, .cross])
  | .priorityHoldExpiry => (.network, [.status, .gptp])
  | .gptpSyncHoldExpiry => (.network, [.status, .log, .well, .history, .gptp, .endur])
  | .aafFrameSend _ => (.network, [.status, .log, .ports, .streams, .keys, .tdm, .usb, .blocks])
  | .crfFrameSend => (.network, [.ports, .streams, .keys])
  | .aafFrameReceive _ _ => (.network, [.status, .log, .streams, .keys, .blocks, .cross])
  | .crfFrameReceive _ _ => (.network, [.status, .log, .well, .streams, .red, .keys, .blocks, .cross])
  | .streamSourceTimeout _ _ => (.network, [.streams])
  | .recoveryResetTimeout _ _ => (.network, [.streams, .blocks])
  | .admissionEvaluation => (.network, [.status, .log, .streams])
  | .tieSlotStart _ => (.pair, [.status, .log, .red, .tdm, .usb, .blocks])
  | .tieHeartbeat _ _ => (.pair, [.status, .log, .ports, .gptp, .streams, .red, .keys, .blocks, .thr, .sleep, .cross])
  | .tieBlock _ _ => (.pair, [.status, .log, .ports, .streams, .routing, .red, .keys, .tdm, .usb, .blocks, .thr, .psram,
      .memory, .clips, .cross])
  | .tieCheckpointChunk _ _ => (.pair, [.status, .log, .ports, .streams, .red, .keys, .blocks, .thr, .psram, .memory,
      .cross])
  | .resyncRequest _ _ => (.pair, [.status, .log, .ports, .streams, .red, .keys, .blocks, .thr, .cross])
  | .takeBackRequest _ _ => (.pair, [.status, .log, .ports, .streams, .red, .keys, .blocks, .thr, .cross])
  | .takeBackAccepted _ _ => (.pair, [.status, .log, .ports, .streams, .red, .keys, .blocks, .thr, .cross])
  | .takeBackCommit _ _ => (.pair, [.status, .log, .ports, .streams, .red, .keys, .blocks, .thr, .cross])
  | .slumberProposal _ _ => (.pair, [.status, .log, .ports, .streams, .red, .keys, .blocks, .thr, .sleep, .cross])
  | .slumberAnswer _ _ => (.pair, [.status, .log, .ports, .streams, .red, .keys, .blocks, .thr, .sleep, .cross])
  | .wakeRequest _ _ => (.start, [.start, .status, .log, .well, .ports, .gptp, .streams, .red, .keys, .blocks, .thr,
      .memory, .sleep, .cross])
  | .blockFrameTimeout => (.pair, [.status, .log, .red])
  | .tieDown => (.pair, [.status, .log, .red])
  | .tieCollision _ => (.pair, [.red])
  | .resyncReplayComplete _ => (.pair, [.red, .thr, .psram])
  | .resyncTimeout => (.pair, [.status, .log, .ports, .streams, .red, .keys, .thr])
  | .partnerHeartbeatSend => (.pair, [.ports, .streams, .red, .keys])
  | .partnerContactTimeout => (.pair, [.status, .log, .red])
  | .checkpointTake _ => (.pair, [.ports, .streams, .red, .keys])
  | .checkpointComplete _ => (.pair, [.status, .log, .streams, .routing, .red, .thr, .psram, .clips])
  | .checkpointStaleTimeout => (.pair, [.status, .log])
  | .partnerContactDeadline => (.pair, [.status, .log])
  | .leaderLost => (.pair, [.red, .blocks])
  | .checkpointRestoreComplete _ => (.pair, [.streams, .routing, .red, .thr, .psram, .clips])
  | .takeBackEligible => (.pair, [.ports, .streams, .red, .keys])
  | .takeBackRetry => (.pair, [.ports, .streams, .red, .keys])
  | .takeBackRelease => (.pair, [.blocks])
  | .reservationCommit _ _ _ => (.keys, [.freeCtr, .status, .log, .keys, .flash])
  | .keyCreate _ => (.keys, [.freeCtr, .status, .log, .slots, .keys])
  | .keyRenew _ => (.keys, [.freeCtr, .status, .log, .slots, .keys])
  | .akDistributionSend => (.keys, [.ports, .streams, .keys])
  | .akDistributionReceive _ _ => (.keys, [.status, .log, .keys, .cross])
  | .pairPress _ _ => (.keys, [.status, .log, .keys])
  | .pairListenExpiry => (.keys, [.freeCtr, .status, .log, .ports, .streams, .keys])
  | .windowFrameSend => (.keys, [.freeCtr, .ports, .streams, .keys])
  | .windowFrameReceive _ _ => (.keys, [.freeCtr, .status, .log, .ports, .streams, .keys, .cross])
  | .joinReceive _ _ => (.keys, [.freeCtr, .status, .log, .ports, .streams, .keys, .cross])
  | .joinResend => (.keys, [.freeCtr, .ports, .streams, .keys])
  | .keyFrameReceive _ _ _ _ => (.keys, [.freeCtr, .status, .log, .ports, .streams, .routing, .red, .slots, .keys,
      .flash, .gran, .cross])
  | .keyFrameTimeout => (.keys, [.status, .log, .keys])
  | .doneReceive _ _ _ => (.keys, [.freeCtr, .status, .log, .routing, .red, .keys, .flash, .gran, .cross])
  | .doneTimeout _ => (.keys, [.status, .log, .keys])
  | .pairingWindowExpiry => (.keys, [.status, .log, .keys])
  | .biphaseFrameReceive _ _ _ => (.audio, [.status, .log, .bpi, .tdm, .usb, .blocks, .cross])
  | .biphaseInputLoss _ _ _ => (.audio, [.status, .log, .bpi, .tdm, .usb, .blocks])
  | .tdmFrameJudged _ _ _ _ _ => (.audio, [.status, .log, .tdm, .usb, .blocks, .cross])
  | .tdmFrameTimerExpiry _ => (.audio, [.status, .log, .tdm, .usb, .blocks])
  | .tdmRateWindow _ _ => (.audio, [.status, .log, .tdm, .usb, .blocks])
  | .tdmQualifyDeadline _ => (.audio, [.status, .log, .tdm])
  | .micEnFall _ _ => (.audio, [.freeCtr, .mic])
  | .micEnOpen _ => (.audio, [.mic])
  | .pdmSettleExpiry _ => (.audio, [.mic])
  | .usbVbusChange _ _ => (.audio, [.status, .log, .tdm, .usb, .blocks])
  | .usbBusReset _ _ _ => (.audio, [.status, .log, .tdm, .usb, .blocks])
  | .standardDeviceRequest _ _ => (.audio, [.usb])
  | .setFeatureRemoteWakeup _ => (.audio, [.usb])
  | .setFeatureTestMode _ _ => (.audio, [.usb])
  | .setConfiguration _ _ => (.audio, [.usb])
  | .setInterface _ _ _ => (.audio, [.usb])
  | .getCurFrequency _ => (.audio, [.usb])
  | .getRangeFrequency _ => (.audio, [.usb])
  | .setCurFrequency _ _ => (.audio, [.status, .log, .usb])
  | .getCurValidity _ => (.audio, [.usb])
  | .unsupportedUsbRequest _ _ => (.audio, [.usb])
  | .controlStatusComplete _ => (.audio, [.status, .log, .tdm, .usb, .blocks])
  | .usbSuspend _ => (.audio, [.status, .log, .tdm, .usb, .blocks])
  | .usbResume _ => (.audio, [.status, .log, .tdm, .usb, .blocks])
  | .usbOutPacket _ _ => (.audio, [.status, .log, .tdm, .usb, .blocks, .cross])
  | .usbSof _ => (.audio, [.status, .log, .tdm, .usb, .blocks])
  | .feedbackUpdate _ => (.audio, [.status, .log, .tdm, .usb, .blocks])
  | .asrcTrackingStart _ _ => (.audio, [.status, .log, .tdm, .usb, .blocks])
  | .asrcLock _ _ => (.audio, [.status, .log, .tdm, .usb, .blocks])
  | .asrcUnlock _ _ => (.audio, [.status, .log, .tdm, .usb, .blocks])
  | .asrcLockTimeout _ _ => (.audio, [.status, .log, .tdm, .usb, .blocks])
  | .asrcFixedRatioEntry _ _ _ => (.audio, [.blocks])
  | .startDetect _ => (.audio, [.status, .log, .blocks])
  | .startTimeout => (.audio, [.status, .log, .blocks])
  | .muteNChange _ _ => (.audio, [.blocks])
  | .jobComplete _ _ _ => (.plant, [.freeCtr, .status, .log, .thr, .psram, .memory, .spk, .motor])
  | .jobDeadlineExpiry => (.plant, [.status, .log, .thr])
  | .stateCommit _ _ => (.plant, [.thr, .psram, .memory])
  | .statePrefetch _ _ => (.plant, [.thr])
  | .visibilityInstant => (.plant, [.status, .log, .thr])
  | .laneDriveTimeout => (.plant, [.status, .log, .thr, .motor])
  | .playoutDeadline _ _ _ => (.network, [.status, .log, .streams, .blocks])
  | .selfCheckPass _ => (.plant, [.status, .log, .blocks, .thr])
  | .flashReadTimeout _ _ => (.keys, [.status, .log, .memory, .gran, .clips])
  | .flashOperationComplete _ _ => (.keys, [.freeCtr, .status, .log, .ports, .streams, .keys, .flash, .memory, .gran])
  | .flashSuspendRead _ => (.keys, [.memory])
  | .siloTransactionTimeout _ _ => (.keys, [.reset, .memory])
  | .busTransactionComplete _ _ _ => (.keys, [.memory])
  | .dmaRegisterSetComplete _ _ => (.keys, [.freeCtr, .flash, .psram, .loft, .sram, .memory])
  | .dmaPaceMark _ _ _ => (.keys, [.memory])
  | .dmaShadowWrite _ _ _ _ => (.keys, [.memory])
  | .poweredHour _ => (.plant, [.freeCtr, .status, .log, .flash, .gran, .endur])
  | .slotWriteStart _ => (.keys, [.status, .log, .ports, .streams, .keys, .memory, .gran])
  | .slotWriteComplete _ _ _ _ => (.keys, [.freeCtr, .status, .log, .ports, .streams, .routing, .red, .slots, .keys,
      .blocks, .flash, .memory, .gran])
  | .imageAdvertSend => (.keys, [.ports, .streams, .keys, .gran])
  | .imageAdvertReceive _ _ => (.keys, [.status, .log, .keys, .gran, .cross])
  | .imageRequestReceive _ _ => (.keys, [.status, .log, .keys, .gran, .cross])
  | .imageChunkSend _ => (.keys, [.ports, .streams, .keys, .gran])
  | .imageChunkReceive _ _ => (.keys, [.status, .log, .ports, .streams, .keys, .memory, .gran, .cross])
  | .imageRequestRetry => (.keys, [.ports, .streams, .keys, .gran])
  | .imageFetchAbandon => (.keys, [.status, .log, .gran])
  | .vinValid _ _ => (.plant, [.start, .status, .log, .well, .podl, .gptp, .blocks, .memory, .plant, .sleep])
  | .vinLost _ _ _ => (.plant, [.status, .log, .plant])
  | .vinRangeTimeout _ _ => (.plant, [.status, .log, .plant])
  | .inputBudgetLoop _ _ _ _ => (.plant, [.freeCtr, .status, .log, .plant])
  | .batteryAbsentTimeout => (.plant, [.status, .log])
  | .requestedLimits _ => (.plant, [.plant])
  | .fixedThresholdEntry => (.plant, [.status, .log, .plant])
  | .fixedThresholdExit => (.plant, [.status, .log, .plant])
  | .chargeCompleteTimer => (.plant, [.plant])
  | .chargeTimerExpiry => (.plant, [.status, .log, .plant])
  | .preconditionTimeout => (.plant, [.status, .log, .plant])
  | .batteryThermalUpdate _ _ => (.plant, [.status, .log, .plant])
  | .dischargeCutoff _ _ => (.plant, [.status, .log, .plant])
  | .batterySwitchOpen => (.plant, [.reset, .plant])
  | .packOvervoltage _ _ => (.plant, [.status, .log, .plant])
  | .socRestRecalibrate => (.plant, [.plant])
  | .thermalModelRelease _ => (.plant, [.status, .spk])
  | .speakerGuard _ _ => (.plant, [.spk])
  | .speakerOvercurrent _ _ _ => (.plant, [.status, .log, .spk])
  | .openLoadDetect _ _ _ => (.plant, [.status, .log, .spk])
  | .motorCommand _ _ _ _ => (.plant, [.status, .motor])
  | .backEmfWindow _ _ => (.plant, [.motor])
  | .motorPeakCurrent _ _ => (.plant, [.status, .log, .motor])
  | .motPosOutOfRange => (.plant, [.status, .log, .motor])
  | .motorStall => (.plant, [.status, .log, .motor])
  | .stallHoldExpiry => (.plant, [.motor])
  | .plantDieTemperature _ _ => (.plant, [.status, .log, .plant, .spk, .motor])
  | .coreDieOvertemp _ _ => (.plant, [.status, .log, .plant])
  | .sramCorrectedError _ _ _ _ => (.plant, [.status, .log, .blocks, .endur])
  | .sramUncorrectableError _ _ _ _ _ _ => (.plant, [.reset, .status, .log, .ports, .streams, .routing, .red, .tdm,
      .usb, .blocks, .thr, .clips, .endur])
  | .scrubPass => (.plant, [.endur])
  | .rowCopyComplete _ _ _ => (.plant, [.blocks, .endur])
  | .loftRowFillComplete _ _ _ => (.plant, [.blocks, .endur])
  | .extest _ => (.plant, [.reset, .jtag])
  | .idcode _ => (.plant, [.start, .gptp, .blocks, .endur, .jtag])
  | .samplePreload _ => (.plant, [.start, .gptp, .blocks, .endur, .jtag])
  | .highz _ => (.plant, [.reset, .jtag])
  | .clamp _ => (.plant, [.reset, .jtag])
  | .bypass _ _ => (.plant, [.start, .gptp, .blocks, .endur, .jtag])
  | .tapReset _ => (.plant, [.start, .gptp, .blocks, .endur, .jtag])
  | .sharedNodeAddressQuiet => (.network, [.status])
  | .chargerVoltageThreshold _ _ => (.plant, [.status, .log, .plant])
  | .packConnected _ _ => (.plant, [.status, .log, .podl, .plant])
  | .holdoverAgingCorrection => (.plant, [.well, .endur])
  | .dataRegisterScan _ _ _ => (.plant, [.freeCtr, .jtag])

/-- What a command leaves: a reset where it may reset the device; else every part outside its footprint is as before. -/
def Leaves (c : Instr) (s u : State) : Prop :=
  (.reset ∈ (footprint c).2 ∧ u.start.phase = .held) ∨ ∀ p : Part, p ∉ (footprint c).2 → p.same s u

end Sys2Proof.Machine
end

