-- ==== Sys2Proof/Certificates/Slice0/Obligations.lean ====
section
/-! DEFINITION. The statements for the provers. -/

open Sys2Proof Sys2Proof.Machine

/-- A step takes the command at the front of the queue and runs it on the machine with the queue's rest. On an empty queue one
SYS period passes: the time base and the device's clock run, what waits in the ports and the Fumarole paths goes on
leaving, and nothing else changes. That an empty queue idles so is the model's choice (log entry 2). -/
def Obligations.StepTakesFront : Prop :=
  (∀ (c : Instr) (s : State) (rest : List Instr), s.pending = c :: rest → step s = exec c { s with pending := rest })
  ∧ (∀ s : State, s.pending = [] → ∃ u, step s = .next u ∧ u.now = s.now + 4 ∧ u.status.active = s.status.active
      ∧ u = { s with now := u.now, status := u.status, ports := u.ports, gptp := u.gptp })

/-- The machine right after reset: no command waits, the first start is held, nothing is latched, no mode is entered, the
counter and its three codes read 0, the retention RAM is empty, device time is 0, the clock is not locked, no fault is
active, every key slot and signer record is blank, and the test port is in IDCODE. The retention RAM and the blank slots are
those of a device powered for the first time (log entries 8 and 9). -/
def Obligations.ResetState : Prop :=
  let s := State.reset
  s.pending = [] ∧ s.now = 0 ∧ awake s = false ∧ s.start.mode = none ∧ s.start.tLatch = none ∧ s.start.tRun = none
    ∧ s.aon.failed = 0 ∧ s.aon.last3 = #v[0#16, 0#16, 0#16]
    ∧ s.history = [] ∧ s.thr.retired = [] ∧ s.endur.map = []
    ∧ s.gptp.time = 0 ∧ s.well.locked = false ∧ s.status.active = [] ∧ s.status.counter = 0
    ∧ (∀ i : Fin 8, s.sec.slots[i] = .blank) ∧ (∀ i : Fin 2, s.sec.signers[i] = .blank)
    ∧ s.jtag.ir = .idcode ∧ s.jtag.hold = false

/-- The memories are in canonical form right after reset. -/
def Obligations.ResetMemoriesCanonical : Prop := State.reset.memWf = true

/-- Every step keeps the flash, the PSRAM, the loft and the buffer SRAM in canonical form, from every state in which they are. -/
def Obligations.MemoriesStayCanonical : Prop :=
  ∀ s t : State, s.memWf = true → step s = .next t → t.memWf = true

/-- No command changes the queue or the device's EUI-48, and none turns the model's time base back. -/
def Obligations.QueueIdentityAndTime : Prop :=
  ∀ (c : Instr) (s u : State), exec c s = .next u → u.pending = s.pending ∧ u.eui48 = s.eui48 ∧ s.now ≤ u.now

/-- Every command answers a next state, but a DMA register set that names an address outside every memory: the one fault. -/
def Obligations.EveryCommandRuns : Prop :=
  ∀ (c : Instr) (s : State), (∃ u, exec c s = .next u)
    ∨ ((∃ t ch, c = .dmaRegisterSetComplete t ch) ∧ ∃ a, exec c s = .fault (.dmaAddress a))

/-- A key slot or a signer record is written once: whatever a command does, one that is not blank stays as it is, and a slot
is written only where no lower slot is left blank (R252, R265). -/
def Obligations.KeySlotsAreWriteOnce : Prop :=
  ∀ (c : Instr) (s u : State), exec c s = .next u →
    (∀ i : Fin 8, s.sec.slots[i] ≠ .blank → u.sec.slots[i] = s.sec.slots[i])
      ∧ (∀ i : Fin 8, u.sec.slots[i] ≠ s.sec.slots[i] → ∀ j : Fin 8, j < i → u.sec.slots[j] ≠ .blank)
      ∧ (∀ i : Fin 2, s.sec.signers[i] ≠ .blank → u.sec.signers[i] = s.sec.signers[i])

/-- After t_latch no command changes a latched level, and so neither the tenant, the node address nor the role it stands for,
unless it resets the device; the plant die's latched copy is not changed by any command (R44). -/
def Obligations.LatchedLevelsAreFinal : Prop :=
  ∀ (c : Instr) (s u : State) (l : Nat), exec c s = .next u → s.start.tLatch = some l →
    (u.start.phase ≠ .active ∨ u.start.tLatch = none
      ∨ (u.straps.level = s.straps.level ∧ tenant u = tenant s ∧ node u = node s ∧ role u = role s))
    ∧ u.straps.plantBatt = s.straps.plantBatt ∧ u.straps.plantAmp = s.straps.plantAmp
    ∧ u.straps.plantMotor = s.straps.plantMotor

/-- What retention RAM, the key slots, the flash and the plant die hold survives every reset: after a command that ends with the
device held in reset, the frequency history, the retired columns, the remap list, the slots and signer records are as
before, unless the always-on domain lost its power. -/
def Obligations.RetentionSurvivesResets : Prop :=
  ∀ (c : Instr) (s u : State), exec c s = .next u → s.start.phase = .active → u.start.phase = .held →
    (∀ t tcxo, c ≠ .powerOnReset t true tcxo) →
      u.history = s.history ∧ u.sec.slots = s.sec.slots ∧ u.sec.signers = s.sec.signers
        ∧ (∀ k ∈ s.thr.retired, k ∈ u.thr.retired) ∧ (∀ e ∈ s.endur.map, e ∈ u.endur.map)
        ∧ (∀ a, peek 0xFF#8 u.mem.flash a = peek 0xFF#8 s.mem.flash a)

/-- Three bounds hold after every step where they held before it: the frequency history's 16 windows (R145), the flow table's
9216 flows, each with a window of at most 32 packet numbers (R163), and the next places of the flash's rings. -/
def Obligations.CapacitiesHold : Prop :=
  (∀ s t : State, s.history.length ≤ 16 → step s = .next t → t.history.length ≤ 16)
  ∧ (∀ s t : State, s.switch.flows.length ≤ 9216 → (∀ w ∈ s.switch.flows, w.seen.length ≤ 32) → step s = .next t →
      t.switch.flows.length ≤ 9216 ∧ ∀ w ∈ t.switch.flows, w.seen.length ≤ 32)
  ∧ (∀ s t : State, s.ringsFit → step s = .next t → t.ringsFit)

/-- A code belongs to level k exactly when its ratio lies within 1/45 of k/15, and is marginal when it lies further than 1/60
from it; a code of no level is indeterminate (R37). -/
def Obligations.StrapBands : Prop :=
  ∀ n : Fin 1024,
    (∀ k : Fin 16,
      (levelOf n = some k ↔
        (n.val : Rat) + 1 / 2 - 1024 * (k.val : Rat) / 15 ≤ 1024 / 45
          ∧ 1024 * (k.val : Rat) / 15 - ((n.val : Rat) + 1 / 2) ≤ 1024 / 45)
      ∧ (levelOf n = some k → (marginalIn k n = true ↔
        (1024 / 60 : Rat) < (n.val : Rat) + 1 / 2 - 1024 * (k.val : Rat) / 15
          ∨ (1024 / 60 : Rat) < 1024 * (k.val : Rat) / 15 - ((n.val : Rat) + 1 / 2))))
    ∧ (levelOf n = none ↔ ∀ k : Fin 16,
        (1024 / 45 : Rat) < (n.val : Rat) + 1 / 2 - 1024 * (k.val : Rat) / 15
          ∨ (1024 / 45 : Rat) < 1024 * (k.val : Rat) / 15 - ((n.val : Rat) + 1 / 2))

/-- At t_latch a strap's level is latched only where both readings fall in its band; an indeterminate reading raises F10S, two
different levels raise F11S, and an agreed reserved level raises F12S, which no other strap does (R43, R63). -/
def Obligations.StrapReadingsAgree : Prop :=
  ∀ (s : State) (a b : Vector (Fin 1024) 13), awake s = true → s.start.tLatch = none → s.straps.first = some a →
    s.straps.second = some b → s.status.active = [] → Runs .strapLatch s fun u => ∀ i : Fin 13,
      let f10 := isActive (BitVec.ofNat 16 (0xF100 + i.val)) 0 u
      let f11 := isActive (BitVec.ofNat 16 (0xF110 + i.val)) 0 u
      let f12 := isActive (BitVec.ofNat 16 (0xF120 + i.val)) 0 u
      match levelOf a[i], levelOf b[i] with
      | some k, some j =>
        if k = j then u.straps.level[i] = some k ∧ f10 = false ∧ (f12 = true ↔ reservedLevel i.val k.val = true)
        else u.straps.level[i] = none ∧ f10 = false ∧ f11 = true ∧ f12 = false
      | _, _ => u.straps.level[i] = none ∧ f10 = true ∧ f12 = false

/-- The counter is checked at t_latch, after the straps and only where no strap fault was found: at 3 the device enters SAFE with
F010, unless PAIR is asserted; then the start waits. Below 3 the start goes on. The counter stays as it is (R78). -/
def Obligations.CounterCheckedAtLatch : Prop :=
  ∀ (s : State) (a b : Vector (Fin 1024) 13), awake s = true → s.start.tLatch = none → s.start.mode = none →
    s.start.base = none → s.start.waitPair = false → s.straps.first = some a → s.straps.second = some b →
    s.status.active = [] →
    let level := Vector.ofFn (fun i : Fin 13 => agreed a[i] b[i])
    let hard := readingFaults a b s.straps.pre (preLevel s) ++ reservedFaults level a b ++ ruleFaults level
    Runs .strapLatch s fun u =>
      u.aon.failed = s.aon.failed ∧ u.aon.last3 = s.aon.last3
        ∧ (isActive 0xF010#16 0 u = true ↔ hard = [] ∧ s.aon.failed = 3 ∧ s.lands.pair = false)
        ∧ (hard = [] ∧ s.aon.failed = 3 ∧ s.lands.pair = false → u.start.mode = some .safe ∧ u.start.fault = 0xF010#16)
        ∧ (hard = [] ∧ s.aon.failed = 3 ∧ s.lands.pair = true →
            u.start.mode = none ∧ u.start.waitPair = true ∧ u.start.base = none)
        ∧ (hard = [] ∧ s.aon.failed ≠ 3 → u.start.mode = none ∧ u.start.waitPair = false ∧ u.start.base = u.start.tLatch)

/-- PAIR held during the first 5 s after t_reset, or while the device does not run, is no pairing press (R81). -/
def Obligations.PairingPressesOnlyWhileRunning : Prop :=
  ∀ (s : State) (t held : Nat),
    max s.now t < s.start.tReset + 5 * sec1 + held ∨ s.start.tRun = none ∨ s.start.mode = none →
      Runs (.pairPress t held) s fun u => u = s.upTo t

/-- A key drawn is programmed into the lowest blank slot alone. A slot found spoiled raises F601 with cause 4, and the next blank
slot is tried once, within the same exchange (R252). -/
def Obligations.KeyProgramming : Prop :=
  ∀ (s : State) (c : Nat) (i : Fin 8), s.sec.createAt = some c → strappedLeader (role s) = true →
    s.start.mode.isSome = true → inMode .safe s = false → s.sec.inForce = none → s.sec.nextForce = none →
    s.sec.slots[i] = .blank → (∀ j : Fin 8, j < i → s.sec.slots[j] ≠ .blank) →
    let d : KeyData := { tk := Config.random128 s.freeCtr, ak := 0#128, tenant := Fin.ofNat 16 (tenant s), origin := .created }
    let w : State := { s.upTo c with
      sec := { s.sec with createAt := none, slots := s.sec.slots.set i .spoiled }, freeCtr := s.freeCtr + 1 }
    (∀ y, Runs (.keyCreate (false, y)) s fun u => u.sec.slots = s.sec.slots.set i (.valid d) ∧ u.status.folds = s.status.folds)
    ∧ (∀ j : Fin 8, i < j → s.sec.slots[j] = .blank → (∀ k : Fin 8, i < k → k < j → s.sec.slots[k] ≠ .blank) →
        Runs (.keyCreate (true, false)) s (fun u =>
          u.sec.slots = (s.sec.slots.set i .spoiled).set j (.valid d)
            ∧ u.status = (raise 0xF601#16 0 [4#8, 255#8] w).status)
        ∧ Runs (.keyCreate (true, true)) s (fun u =>
          u.sec.slots = (s.sec.slots.set i .spoiled).set j .spoiled
            ∧ u.status = (raise 0xF601#16 0 [4#8, 255#8] (raise 0xF601#16 0 [4#8, 255#8] w)).status))
    ∧ ((∀ j : Fin 8, i < j → s.sec.slots[j] ≠ .blank) → ∀ y, Runs (.keyCreate (true, y)) s fun u =>
        u.sec.slots = s.sec.slots.set i .spoiled ∧ u.status = (raise 0xF601#16 0 [4#8, 255#8] w).status)

/-- With no blank slot a key is refused with F600 and the key in force stays; and F600 stays active, whatever the command, until
the device is reset (R253). -/
def Obligations.NoBlankSlotRefusesAKey : Prop :=
  (∀ (s : State) (c : Nat) (y : Bool × Bool), s.sec.createAt = some c → strappedLeader (role s) = true →
    s.start.mode.isSome = true → inMode .safe s = false → s.sec.inForce = none → s.sec.nextForce = none →
    (∀ i : Fin 8, s.sec.slots[i] ≠ .blank) → Runs (.keyCreate y) s fun u =>
      u.sec.slots = s.sec.slots ∧ u.sec.inForce = none ∧ u.sec.nextForce = none ∧ isActive 0xF600#16 0 u = true)
  ∧ (∀ (s : State) (y : Bool × Bool), s.lands.pair = true → s.now < s.lands.pairSince + 10 * sec1 →
    inMode .leader s = true → strappedLeader (role s) = true → s.sec.inForce.isSome = true →
    s.start.tReset + 5 * sec1 ≤ s.lands.pairSince → (∀ i : Fin 8, s.sec.slots[i] ≠ .blank) → Runs (.keyRenew y) s fun u =>
      u.sec.slots = s.sec.slots ∧ u.sec.inForce = s.sec.inForce ∧ u.sec.nextForce = s.sec.nextForce
        ∧ isActive 0xF600#16 0 u = true)
  ∧ (∀ (c : Instr) (s u : State), isActive 0xF600#16 0 s = true → exec c s = .next u →
      isActive 0xF600#16 0 u = true ∨ u.start.phase ≠ .active ∨ u.start.tReset ≠ s.start.tReset)

/-- A slot is in force only where it is the valid slot of the highest index whose tenant is the strap's and which is not retired
(R251): so the data-path set-up chooses it. -/
def Obligations.KeyInForceAtSetup : Prop :=
  ∀ (s : State) (t : Nat), awake s = true → s.start.mode = none → s.start.base.isSome = true → s.start.setupDone = false →
    s.start.checkDone = true → s.start.psramDone = true →
    let fits (i : Fin 8) : Prop :=
      ∃ d, s.sec.slots[i] = .valid d ∧ d.tenant.val = tenant s ∧ s.sec.retired[i] = false
    Runs (.dataPathSetup t true) s fun u =>
      u.sec.slots = s.sec.slots
        ∧ (∀ i : Fin 8, u.sec.inForce = some i ↔ fits i ∧ ∀ j : Fin 8, i < j → ¬ fits j)
        ∧ (u.sec.inForce = none ↔ ∀ i : Fin 8, ¬ fits i)

/-- The switch forwards a frame by its flow and packet number: one in the flow's window, or more than 32 below the highest number
in it, is dropped, and so is one whose flow finds the table full; any other is forwarded to the other port and put in
the window of the last 32. A flow idle for 20 ms is removed (R163). -/
def Obligations.FlowsForwardOnce : Prop :=
  (∀ (s : State) (t : Nat) (i : Fin 2) (f : NetFrame) (tag : SecTag), (∀ m, f.body ≠ .gptp m) → awake s = true →
      s.ports[i].up = true → s.ports[i].phy = true → s.ports[1 - i].up = true → sysStopped s = false →
      inMode .slumber s = false → s.switch.tables = true → switchAdmits f = true → f.src ≠ s.eui48 → f.sec = some tag →
      let flow := s.switch.flows.find? (fun w => w.src == f.src && w.dst == f.dst)
      let before := (s.upTo t).ports[1 - i]
      let put := Port.put f before
      (∀ w, flow = some w → tag.pn ∈ w.seen ∨ (∃ q ∈ w.seen, tag.pn + 32 < q) → Runs (.frameIngress t i f) s fun u =>
        u.switch.flows = s.switch.flows ∧ u.ports[1 - i] = before)
      ∧ (∀ w, flow = some w → tag.pn ∉ w.seen → (∀ q ∈ w.seen, q ≤ tag.pn + 32) → Runs (.frameIngress t i f) s fun u =>
        u.switch.flows.find? (fun x => x.src == f.src && x.dst == f.dst)
            = some { w with seen := (tag.pn :: w.seen).take 32, last := max s.now t }
          ∧ u.ports[1 - i] = put)
      ∧ (flow = none → s.switch.flows.length < 9216 → Runs (.frameIngress t i f) s fun u =>
        u.switch.flows = s.switch.flows ++ [{ src := f.src, dst := f.dst, seen := [tag.pn], last := max s.now t }]
          ∧ u.ports[1 - i] = put)
      ∧ (flow = none → s.switch.flows.length = 9216 → Runs (.frameIngress t i f) s fun u =>
        u.switch.flows = s.switch.flows ∧ u.ports[1 - i] = before))
  ∧ (∀ (s : State) (w : Flow), s.switch.flows.find? (fun x => x.src == w.src && x.dst == w.dst) = some w →
      Runs (.flowIdleExpiry w.src w.dst) s fun u =>
        u.now = max s.now (w.last + 20 * ms1)
          ∧ ∀ x, x ∈ u.switch.flows ↔ x ∈ s.switch.flows ∧ ¬ (x.src = w.src ∧ x.dst = w.dst))

/-- Recovery of a frame with sequence number q: after a reset it is passed; d = q - r from 1 to 31 passes it and counts the slots
shifted out unpassed; d from -31 to 0 passes it where its slot is empty; any other frame is a rogue, which does not restart the reset
timer of 20 ms. `has r x` says that the history holds x (R210). -/
def Obligations.RecoveryOfSequences : Prop :=
  (∀ (now : Nat) (q : BitVec 16) (r : Recovery),
    let d := (q - r.seq).toInt
    let has (r : Recovery) (x : BitVec 16) : Prop := (r.seq - x).toNat < 32 ∧ r.seen.getLsbD (r.seq - x).toNat = true
    let o := recover now q r
    (r.active = false → o.pass = true ∧ o.lost = 0 ∧ o.recov.active = true ∧ o.recov.seq = q ∧ o.recov.passedAt = now
        ∧ ∀ x, has o.recov x ↔ x = q)
    ∧ (r.active = true → 1 ≤ d → d ≤ 31 → o.pass = true ∧ o.recov.seq = q ∧ o.recov.passedAt = now
        ∧ (∀ x, has o.recov x ↔ x = q ∨ (has r x ∧ (q - x).toNat < 32))
        ∧ o.lost = ((List.range 32).filter (fun k =>
            decide (32 ≤ k + d.toNat) && !r.seen.getLsbD k)).length)
    ∧ (r.active = true → -31 ≤ d → d ≤ 0 → o.lost = 0 ∧ o.recov.seq = r.seq
        ∧ (o.pass = true ↔ ¬ has r q)
        ∧ (∀ x, has o.recov x ↔ x = q ∨ has r x)
        ∧ o.recov.passedAt = if o.pass then now else r.passedAt)
    ∧ (r.active = true → d ≤ -32 ∨ 32 ≤ d → o.pass = false ∧ o.lost = 0 ∧ o.recov = r))
  ∧ (∀ (s : State) (kind : Nat) (n : BitVec 8) (i : Nat) (x : RxStream), rxIndex s kind n = some i →
      s.streams.rx[i]? = some x → x.recov.active = true → Runs (.recoveryResetTimeout kind n) s fun u =>
        u.now = max s.now (x.recov.passedAt + 20 * ms1)
          ∧ ∃ y, u.streams.rx[i]? = some y ∧ y.recov.active = false)

/-- The identification code is 0x1644_05A7, shifted out of the identification register least significant bit first, with its
version, part number and manufacturer fields (R585). -/
def Obligations.IdentificationCode : Prop :=
  ∀ (s : State) (t : Nat) (pins : BitVec 62) (tdi : List Bool), s.jtag.ir = .idcode → tdi.length = 32 →
    Runs (.dataRegisterScan t pins tdi) s fun u =>
      u.jtag.tdo.length = 32
        ∧ ∃ code : BitVec 32, code = 0x164405A7#32 ∧ (∀ k : Fin 32, u.jtag.tdo[k.val]? = some (code.getLsbD k.val))
          ∧ code.extractLsb' 28 4 = 0x1#4 ∧ code.extractLsb' 12 16 = 0x6440#16 ∧ code.extractLsb' 1 11 = 0x2D3#11
          ∧ code.getLsbD 0 = true

/-- A binary16 value goes to FP32 and back unchanged: the conversion is exact, subnormals and both zeros with it (R344). -/
def Obligations.HalfConversionIsExact : Prop :=
  ∀ h : BitVec 16, h.toNat / 1024 % 32 ≠ 31 → halfOfFp (fpOfHalf h) = h

/-- The frame of the reset, strap, start, block-boundary, die-link, status, log and SLUMBER commands:
whatever each may change is in its footprint, and every other part of the state is as before, unless the device was reset. -/
def Obligations.FrameOfStartAndStatus : Prop :=
  ∀ (c : Instr) (s u : State), (footprint c).1 = .start → exec c s = .next u → Leaves c s u

/-- The frame of the Wellspring, gPTP, port, PoDL, switch and stream commands:
whatever each may change is in its footprint, and every other part of the state is as before, unless the device was reset. -/
def Obligations.FrameOfClocksAndNetwork : Prop :=
  ∀ (c : Instr) (s u : State), (footprint c).1 = .network → exec c s = .next u → Leaves c s u

/-- The frame of the TIE and pair commands:
whatever each may change is in its footprint, and every other part of the state is as before, unless the device was reset. -/
def Obligations.FrameOfPairs : Prop :=
  ∀ (c : Instr) (s u : State), (footprint c).1 = .pair → exec c s = .next u → Leaves c s u

/-- The frame of the key, pairing, Granary and memory commands:
whatever each may change is in its footprint, and every other part of the state is as before, unless the device was reset. -/
def Obligations.FrameOfKeysAndMemories : Prop :=
  ∀ (c : Instr) (s u : State), (footprint c).1 = .keys → exec c s = .next u → Leaves c s u

/-- The frame of the biphase, TDM, microphone, USB and ASRC commands:
whatever each may change is in its footprint, and every other part of the state is as before, unless the device was reset. -/
def Obligations.FrameOfAudioPorts : Prop :=
  ∀ (c : Instr) (s u : State), (footprint c).1 = .audio → exec c s = .next u → Leaves c s u

/-- The frame of the Thresher, job, repair, power, loudspeaker, motor and test-port commands:
whatever each may change is in its footprint, and every other part of the state is as before, unless the device was reset. -/
def Obligations.FrameOfThresherAndPlant : Prop :=
  ∀ (c : Instr) (s u : State), (footprint c).1 = .plant → exec c s = .next u → Leaves c s u

/-- What the commands that store leave of the memories: every byte outside the place stored to reads as before. A flash operation
writes its sector or its bytes; an ash-log entry, a reservation record, a pair record and a service record stay in their
rings; a checkpoint chunk stays in the two checkpoint buffers, a committed state in its entry and banks; a DMA register
set writes the addresses it names, and moves what its source held. -/
def Obligations.MemoryBytesOfStores : Prop :=
  (∀ (s u : State) (t : Nat) (failed : Option FlashCause) (o : FlashOp), s.memWf = true → s.mem.op = some o →
      exec (.flashOperationComplete t failed) s = .next u →
      ∀ a, (a < o.addr ∨ o.addr + (if o.erase then 4096 else o.data.length) ≤ a) →
        peek 0xFF#8 u.mem.flash a = peek 0xFF#8 s.mem.flash a)
  ∧ (∀ (s u : State) (c : Instr) (lo hi : Nat), s.memWf = true → s.ringsFit → exec c s = .next u →
      ((∃ t b, c = .ashLogEntryWrite t b ∧ lo = 0x10000 ∧ hi = 0x20000)
        ∨ (∃ t k l, c = .reservationCommit t k l ∧ lo = 0 ∧ hi = 0x8000)
        ∨ (∃ t f l, c = .doneReceive t f l ∧ lo = 0x8000 ∧ hi = 0x10000)
        ∨ (∃ l, c = .poweredHour l ∧ lo = 0x20000 ∧ hi = 0x30000)) →
      ∀ a, (a < lo ∨ hi ≤ a) → peek 0xFF#8 u.mem.flash a = peek 0xFF#8 s.mem.flash a)
  ∧ (∀ (s u : State) (t : Nat) (x : PairFrame), s.memWf = true → exec (.tieCheckpointChunk t x) s = .next u →
      ∀ a, (a < ckptAddr (loaded s) false ∨ ckptAddr (loaded s) true + ckptMax (loaded s) ≤ a) →
        peek 0#8 u.mem.psram a = peek 0#8 s.mem.psram a)
  ∧ (∀ (s u : State) (t : Nat) (k : Fin 16), s.memWf = true → exec (.stateCommit t k) s = .next u →
      ∀ a, (a < 0x1000 + 16 * k.val ∨ 0x1000 + 16 * k.val + 3 ≤ a) →
        (∀ bank w, s.thr.ctxs[k].waiting = some w →
          a < bankAddr (loaded s) k.val bank ∨ bankAddr (loaded s) k.val bank + w.length ≤ a) →
        peek 0#8 u.mem.psram a = peek 0#8 s.mem.psram a)
  ∧ (∀ (s u : State) (t : Nat) (ch : Fin 16), s.memWf = true → s.mem.dma[ch].active.valid = true →
      s.mem.dma[ch].active.kind = 0 → exec (.dmaRegisterSetComplete t ch) s = .next u →
      ∀ a, (∀ p ∈ dmaPairs s.mem.dma[ch].active, p.2 ≠ a) →
        (∀ o, dmaPlace s a = some (.loft o) → peek 0#8 u.mem.loft o = peek 0#8 s.mem.loft o)
        ∧ (∀ o, dmaPlace s a = some (.sram o) → peek 0#8 u.mem.sram o = peek 0#8 s.mem.sram o)
        ∧ (∀ o, dmaPlace s a = some (.psram o) → peek 0#8 u.mem.psram o = peek 0#8 s.mem.psram o)
        ∧ (∀ o, dmaPlace s a = some (.flash o) → peek 0xFF#8 u.mem.flash o = peek 0xFF#8 s.mem.flash o))
  ∧ (∀ (s : State) (t : Nat) (ch : Fin 16) (x y : Nat), s.memWf = true → s.mem.dma[ch].active.valid = true →
      s.mem.dma[ch].active.kind = 0 → s.mem.dma[ch].active.rows = 1 →
      s.mem.dma[ch].active.src.toNat = 0x20000000 + x → x + s.mem.dma[ch].active.rowLen ≤ 0x200000 →
      s.mem.dma[ch].active.dst.toNat = 0x40000000 + y →
      y + s.mem.dma[ch].active.rowLen ≤ s.mem.psramMiB * 1048576 → s.mem.psramMiB ≤ 512 →
      Runs (.dmaRegisterSetComplete t ch) s fun u =>
        ∀ j, j < s.mem.dma[ch].active.rowLen → peek 0#8 u.mem.psram (y + j) = peek 0#8 s.mem.sram (x + j))

/-- The resets run (R69, R9, R70, R76, R464, R123): what each holds, counts and records. -/
def Obligations.ResetsRun : Prop :=
  (∀ (s : State) (t : Nat) (aoLost tcxoIn : Bool), Runs (.powerOnReset t aoLost tcxoIn) s fun u =>
      u.now = max s.now t ∧ u.start.phase = .held ∧ u.start.mode = none ∧ u.start.cause = .powerOn ∧ u.well.tcxo = tcxoIn
        ∧ u.mem.flash = s.mem.flash
        ∧ (aoLost = true → u.aon.failed = 0 ∧ u.history = [] ∧ u.thr.retired = [] ∧ u.endur.map = [])
        ∧ (aoLost = false → u.aon = s.aon ∧ u.history = s.history ∧ u.thr.retired = s.thr.retired
            ∧ u.endur.map = s.endur.map))
  ∧ (∀ (s : State) (t lowNs : Nat),
      (10000 ≤ lowNs → Runs (.resetNAssert t lowNs) s fun u =>
        u.start.phase = .held ∧ u.start.cause = .resetN ∧ u.aon = s.aon ∧ u.lands.resetN = false ∧ u.status.active = [])
      ∧ (lowNs ≤ 1000 → Runs (.resetNAssert t lowNs) s fun u => u = s.upTo t))
  ∧ (∀ (s : State) (rise por : Nat), awake s = false → s.jtag.hold = false → s.plant.precond = false →
      Runs (.resetRelease rise por) s fun u =>
        u.start.phase = .active ∧ u.start.tReset = u.now ∧ u.now = max s.now (max rise por) ∧ u.gptp.time = 0
          ∧ u.aon = s.aon ∧ u.blocks.startLow = true)
  ∧ (∀ (s : State) (t : Nat), Runs (.supplySupervisorReset t) s fun u =>
      u.start.phase = .held ∧ u.start.cause = .supplySupervisor ∧ u.aon = s.aon)
  ∧ (∀ (s : State) (t a : Nat), awake s = true → s.start.armedAt = some a → a + 100 * ms1 ≤ max s.now t →
      inMode .safe s = false → s.start.tRun = none → Runs (.watchdogExpiry t) s fun u =>
        u.start.phase = .held ∧ u.start.cause = .watchdog ∧ u.aon.last3[0] = 0xF002#16
          ∧ (s.aon.failed.val < 3 → u.aon.failed = s.aon.failed + 1) ∧ (s.aon.failed = 3 → u.aon.failed = 3))
  ∧ (∀ (s : State) (t a r : Nat), awake s = true → s.start.armedAt = some a → a + 100 * ms1 ≤ max s.now t →
      s.start.tRun = some r → r + 60 * sec1 ≤ max s.now t → Runs (.watchdogExpiry t) s fun u =>
        u.start.phase = .held ∧ u.start.cause = .watchdog ∧ u.aon = s.aon)
  ∧ (∀ (s : State) (t : Nat), (s.start.armedAt = none ∨ ∃ a, s.start.armedAt = some a ∧ max s.now t < a + 100 * ms1) →
      Runs (.watchdogExpiry t) s fun u => u = s.upTo t)
  ∧ (∀ (s : State), awake s = true → s.start.mode = none → Runs .startDeadline s fun u =>
      u.now = max s.now (s.start.tReset + 30 * sec1) ∧ u.start.phase = .held ∧ u.start.cause = .startDeadline
        ∧ u.aon.last3[0] = 0xF001#16)
  ∧ (∀ (s : State) (t : Nat), s.aon.clockReset = true → Runs (.clockLossReset t) s fun u =>
      u.start.phase = .held ∧ u.start.cause = .clockMonitor ∧ u.aon.clockReset = false
        ∧ u.aon.clockFault = s.aon.clockFault)

/-- The straps are read, latched and re-read (R42, R43, R47, R593), and PAIR is debounced (R550). -/
def Obligations.StrapsRun : Prop :=
  (∀ (s : State) (t : Nat) (first second : StrapPin), awake s = false → s.plant.vinValid = true →
      Runs (.preStartPair t first second) s fun u => u.straps.pre = some (readPin 12 first, readPin 12 second))
  ∧ (∀ (i : Fin 13) (v : Nat), (readPin i { volts := v }).val = min 1023 (1024 * v / 1200000))
  ∧ (∀ (s : State) (pins : Vector StrapPin 13), awake s = true → s.start.tLatch = none →
      (s.straps.first = none → Runs (.strapReading pins) s fun u =>
        u.straps.first = some (readPins pins) ∧ pullups u = true ∧ u.now = max s.now (s.start.tReset + 10700000))
      ∧ (s.straps.first.isSome → Runs (.strapReading pins) s fun u =>
        u.straps.second = some (readPins pins) ∧ u.straps.first = s.straps.first
          ∧ u.now = max s.now (s.start.tReset + 20700000)))
  ∧ (∀ (s : State) (a b : Vector (Fin 1024) 13), awake s = true → s.start.tLatch = none → s.straps.first = some a →
      s.straps.second = some b →
      let level := Vector.ofFn (fun i : Fin 13 => agreed a[i] b[i])
      let hard := readingFaults a b s.straps.pre (preLevel s) ++ reservedFaults level a b ++ ruleFaults level
      (hard = [] → s.aon.failed ≠ 3 → Runs .strapLatch s fun u =>
        u.straps.level = level ∧ u.start.tLatch = some (max s.now (s.start.tReset + 20700000))
          ∧ (s.start.mode = none → pullups u = false) ∧ u.start.base = u.start.tLatch ∧ u.start.mode = s.start.mode)
      ∧ (hard ≠ [] → Runs .strapLatch s fun u =>
        u.straps.level = level ∧ u.start.mode = some .safe ∧ hard.head?.map (·.code) = some u.start.fault))
  ∧ (∀ (s : State) (a b : Vector StrapPin 13) (l : Nat), awake s = true → s.start.tLatch = some l → s.start.mode.isSome = true →
      Runs (.strapReread a b) s fun u =>
        u.straps.rereads = s.straps.rereads + 1 ∧ u.straps.level = s.straps.level ∧ u.start = s.start
          ∧ (inMode .slumber s = false →
              u.now = max s.now (l + (s.straps.rereads + 1) * 60 * sec1 + 15700000)))
  ∧ (∀ (s : State) (t : Nat) (samples : List Bool), samples.length = 20 → samples.all (· == !s.lands.pair) = true →
      Runs (.pairDebouncedChange t samples) s fun u =>
        u.lands.pair = !s.lands.pair ∧ u.lands.pairSince = u.now ∧ u.now = max s.now t)

/-- The failed-start counter and PAIR at a start (R76 to R78, R80), pre-conditioning (R473), the die link (R23) and the clock
monitors (R122). -/
def Obligations.StartGuardsRun : Prop :=
  (∀ (s : State), awake s = true → s.start.pairAtLatch = true → s.start.clearedByPair = false → Runs .pairHoldClear s fun u =>
      u.aon.failed = 0 ∧ u.start.clearedByPair = true
        ∧ (s.start.waitPair = true → u.start.base = some (max s.now (s.start.tReset + 5 * sec1))))
  ∧ (∀ (s : State) (t : Nat), awake s = true → s.start.waitPair = true → max s.now t < s.start.tReset + 5 * sec1 →
      Runs (.pairReleaseEarly t) s fun u =>
        u.start.mode = some .safe ∧ u.start.fault = 0xF010#16 ∧ u.start.safeCode = s.aon.last3[0] ∧ u.aon = s.aon)
  ∧ (∀ (s : State) (r : Nat), s.start.tRun = some r → s.start.counterPending = true → Runs .failedStartCounterClear s fun u =>
      u.aon.failed = 0 ∧ u.start.counterPending = false ∧ u.now = max s.now (r + 60 * sec1))
  ∧ (∀ (s : State) (t vbatMv : Nat) (b : BattSetup), awake s = false → (preLevel s).bind (fun k => battSetup k.val) = some b →
      s.plant.precond = false → s.plant.vinValid = true → (preRange b.lfp).1 ≤ vbatMv → vbatMv < (preRange b.lfp).2 →
      s.plant.preMs = 0 → Runs (.preconditionBeforeStart t vbatMv) s fun u =>
        u.plant.precond = true ∧ u.plant.state = 1 ∧ u.plant.vbatMv = vbatMv ∧ u.plant.fixed = true)
  ∧ (∀ (s : State) (t : Nat), Runs (.dieLinkLoss t) s fun u =>
      u.plant.linkLost = some (max s.now t) ∧ u.motor.driven = false ∧ (∀ i : Fin 2, u.spk.ch[i].on = false)
        ∧ u.plant.state = s.plant.state)
  ∧ (∀ (s : State) (t l : Nat), s.plant.linkLost = some l → max s.now t ≤ l + 10 * ms1 → Runs (.dieLinkRestored t) s fun u =>
      u.plant.linkLost = none ∧ u.start = s.start)
  ∧ (∀ (s : State) (l : Nat), s.plant.linkLost = some l → awake s = true → inMode .safe s = false → inMode .slumber s = false →
      Runs .dieLinkRestoreTimeout s fun u =>
        u.start.phase = .held ∧ u.start.cause = .dieLink ∧ u.now = max s.now (l + 10 * ms1))
  ∧ (∀ (s : State) (t : Nat) (domains : BitVec 18), awake s = true → s.sleep.down = false → s.aon.clockReset = false →
      domains &&& (if s.usb.vbus && !s.usb.suspended then ownDomains else 0b01_1100_0000_0001_1111#18) ≠ 0#18 →
      Runs (.clockMonitorLoss t domains) s fun u =>
        u.aon.clockReset = true ∧ u.aon.clockFault.isSome = true ∧ u.start = s.start
          ∧ (sysStopped u = true ↔ domains &&& coreFamily ≠ 0#18))
  ∧ (∀ (s : State) (t : Nat) (domains : BitVec 18), s.aon.clockReset = true →
      Runs (.clockMonitorLoss t domains) s fun u => u.aon = s.aon)

/-- What the device tells (R96 to R98, R100, R109, R111): folds end, heartbeats, telemetry and replay are generated, waiting
frames enter a queue, log entries are written. -/
def Obligations.StatusRuns : Prop :=
  (∀ (s : State) (f : Fold), s.status.folds.find? (fun g => g.code == f.code) = some f → 0 < f.count →
      Runs (.faultFoldExpiry f.code) s fun u =>
        u.status.counter = s.status.counter + 1 ∧ u.status.active = s.status.active ∧ u.now = max s.now f.until_
          ∧ (⟨f.code, f.until_ + sec1, 0, 0, []⟩ : Fold) ∈ u.status.folds)
  ∧ (∀ (s : State), powered s = true → s.start.mode.isSome = true → inMode .slumber s = false → Runs .heartbeatSend s fun u =>
      u.status.counter = s.status.counter + 1 ∧ u.status.sec = {} ∧ u.status.heartbeatAt = s.status.heartbeatAt + sec1
        ∧ u.status.heartbeats = s.status.heartbeats + 1)
  ∧ (∀ (s : State) (d : Nat) (rest : List Nat), s.status.telemetryAt = d :: rest → s.start.mode.isSome = true →
      inMode .slumber s = false → plantActive s = true → Runs .telemetrySend s fun u =>
        u.status.counter = s.status.counter + 1 ∧ u.status.telemetryAt = rest)
  ∧ (∀ (s : State) (t : Nat), s.status.replayDue = true → 0 < s.status.heartbeats → s.mem.flashUp = true →
      Runs (.replaySend t) s fun u =>
        u.status.replayDue = false
          ∧ u.status.counter = s.status.counter + BitVec.ofNat 16 (replayParts (s.status.replay.map replayBytes)).length)
  ∧ (∀ (s : State) (t : Nat), Runs (.fumaroleQueueRoom t .stat) s fun u =>
      u.status.stat = (s.upTo t).status.stat.refill ∧ u.status.counter = s.status.counter
        ∧ u.status.stat.queue ++ u.status.stat.waiting = (s.upTo t).status.stat.queue ++ (s.upTo t).status.stat.waiting)
  ∧ (∀ (s : State) (t : Nat) (e : LogEntry) (rest : List LogEntry), s.log.waiting = e :: rest → s.log.present = true →
      s.mem.flashUp = true → s.mem.flashAbsent = false →
      (Runs (.ashLogEntryWrite t none) s fun u =>
        u.log.waiting = rest ∧ u.log.nextSeq = s.log.nextSeq + 1
          ∧ u.mem.flash = logRing.program (nextPlace logRing s.mem.flash s.log.nextSlot).2
              (nextPlace logRing s.mem.flash s.log.nextSlot).1 (logBytes s.log.nextSeq e) true)
      ∧ (∀ c, s.log.retry = false → Runs (.ashLogEntryWrite t (some c)) s fun u =>
        e :: rest <+: u.log.waiting ∧ u.log.retry = true ∧ u.log.nextSeq = s.log.nextSeq))
  ∧ (∀ (s : State) (f : LogFold), s.log.folds.find? (fun g => g.code == f.code) = some f → f.count = 0 →
      Runs (.ashLogFoldExpiry f.code) s fun u =>
        u.log.folds = s.log.folds.filter (fun g => g.code != f.code) ∧ u.log.waiting = s.log.waiting)
  ∧ (∀ (s : State) (f : LogFold), s.log.folds.find? (fun g => g.code == f.code) = some f → 0 < f.count →
      s.mem.flashAbsent = false → s.log.hour = [] → Runs (.ashLogFoldExpiry f.code) s fun u =>
        ∃ e, u.log.waiting = s.log.waiting ++ [e] ∧ e.code = f.code ∧ e.occurrences = f.count ∧ e.kind = 1
          ∧ e.time = f.time)
  ∧ (∀ (s : State) (o : Nat), s.log.hour.getLast? = some o → s.log.hour.length ≤ 600 →
      s.log.dropped ≠ 0 → Runs .ashLogHourResume s fun u =>
      u.log.dropped = 0 ∧ u.now = max s.now (o + 3600 * sec1))

/-- SLUMBER (R83, R84, R86 to R89): entry is decided, the core die powers down, windows open and close, beacons and wake events
act. -/
def Obligations.SlumberRuns : Prop :=
  (∀ (s : State) (since : Nat), maySlumber (s.upTo (since + 60 * sec1)) = true →
      slumberState (s.upTo (since + 60 * sec1)) = true → s.sleep.brokenAt ≤ since → s.sleep.entryPending = false →
      (inMode .leader s = false ∨ s.red.contact = false) → Runs (.slumberConditionsHeld since) s fun u =>
        u.sleep.entryPending = true ∧ u.sleep.entryAt = u.now ∧ u.now = max s.now (since + 60 * sec1) ∧ u.start = s.start)
  ∧ (∀ (s : State) (t : Nat), inMode .slumber s = true → s.sleep.draining = true →
      (pathsEmpty (pump (s.upTo t)) = true ∨ s.sleep.enteredAt + 360 * ms1 ≤ max s.now t →
        Runs (.slumberPowerDown t) s fun u =>
          u.sleep.down = true ∧ u.sleep.draining = false ∧ u.mem.loft = [] ∧ u.mem.psram = s.mem.psram
            ∧ u.status.stat.queue = [] ∧ u.start.armedAt = none)
      ∧ (pathsEmpty (pump (s.upTo t)) = false → max s.now t < s.sleep.enteredAt + 360 * ms1 →
        Runs (.slumberPowerDown t) s fun u => u = pump (s.upTo t)))
  ∧ (∀ (s : State), inMode .slumber s = true → s.sleep.down = true → s.start.left ≠ some .leader → s.sleep.wakeAt = none →
      Runs .beaconWindowOpen s fun u =>
        u.sleep.window = some (s.sleep.beaconAt - windowWidth s.sleep.missed / 2, s.sleep.beaconAt + windowWidth s.sleep.missed / 2)
          ∧ u.sleep.got = false)
  ∧ (∀ (s : State) (t : Nat) (n : BitVec 8) (stamp a b : Nat), s.sleep.window = some (a, b) →
      a ≤ (s.upTo t).gptp.time → (s.upTo t).gptp.time ≤ b → netHears (s.upTo t) = true →
      ((∀ x ∈ s.status.heard, n ≤ x.1 ∨ x.2 + 3 * sec1 < max s.now t) →
        (Runs (.beaconReceive t n stamp false) s fun u =>
          u.gptp.time = stamp % 2 ^ 64 ∧ u.sleep.beaconAt = stamp + 8 * sec1 ∧ u.sleep.got = true ∧ u.sleep.missed = 0
            ∧ u.sleep.wakeAt = s.sleep.wakeAt ∧ u.status.leaderNode = some n)
        ∧ (inMode .slumber s = true → s.sleep.wakeAt = none → Runs (.beaconReceive t n stamp true) s fun u =>
          u.gptp.time = stamp % 2 ^ 64 ∧ u.sleep.wakeAt = some (max s.now t) ∧ u.mem.selfRefresh = false))
      ∧ (∀ flag, (∃ x ∈ s.status.heard, x.1 < n ∧ max s.now t ≤ x.2 + 3 * sec1) →
        Runs (.beaconReceive t n stamp flag) s fun u => u.gptp = (s.upTo t).gptp ∧ u.sleep = s.sleep))
  ∧ (∀ (s : State) (a b : Nat), s.sleep.window = some (a, b) →
      (s.sleep.got = true → Runs .beaconWindowClose s fun u => u.sleep.window = none ∧ u.sleep.missed = s.sleep.missed)
      ∧ (s.sleep.got = false → s.sleep.missed < 5 → Runs .beaconWindowClose s fun u =>
        u.sleep.window = none ∧ u.sleep.missed = s.sleep.missed + 1 ∧ u.sleep.beaconAt = s.sleep.beaconAt + 8 * sec1)
      ∧ (s.sleep.got = false → 5 ≤ s.sleep.missed → inMode .slumber s = true → s.sleep.wakeAt = none →
        Runs .beaconWindowClose s fun u => u.sleep.searchFailed = true ∧ u.sleep.wakeAt = some u.now))
  ∧ (∀ (s : State) (a b : Nat), s.sleep.window = some (a, b) → 5 ≤ s.sleep.missed → s.sleep.got = false →
      inMode .slumber s = true → s.sleep.wakeAt = none → s.start.left ≠ some .partner → Runs .beaconSearchFailed s fun u =>
        u.sleep.searchFailed = true ∧ u.sleep.wakeAt = some u.now ∧ u.blocks.startLow = true
          ∧ ((∀ l, orderOf s ≠ .local :: l) → u.well.selected = none))
  ∧ (∀ (s : State) (d : Nat), s.red.wakeAnswer = some d → Runs .partnerWakeAnswerTimeout s fun u =>
      u.red.wakeAnswer = none ∧ u.red.lastFrame = max s.now d ∧ u.red.lastSeen = max s.now d)
  ∧ (∀ (s : State) (t : Nat) (cause : WakeCause), inMode .slumber s = true → s.sleep.wakeAt = none →
      Runs (.wakeEvent t cause) s fun u =>
        u.sleep.wakeAt = some (max s.now t) ∧ u.sleep.down = false ∧ u.mem.selfRefresh = false ∧ u.blocks.startLow = true
          ∧ u.gptp.synced = false)

/-- The memories (R374, R403 to R411): bring-up, the loft load, retries, the suspend of an operation, a bus's next
transaction. -/
def Obligations.MemoriesRun : Prop :=
  (∀ (s : State) (t : Nat) (tries : List FlashTry), awake s = true → s.start.tLatch.isSome = true → s.mem.flashUp = false →
      s.mem.flashAbsent = false →
      (∀ cause, flashOutcome (tries.take 3) = .inl cause → Runs (.flashBringup t tries) s fun u =>
        u.mem.flashAbsent = true ∧ u.mem.flashUp = false ∧ u.mem.flash = s.mem.flash ∧ u.mem.upAt = some (max s.now t))
      ∧ (∀ mib, flashOutcome (tries.take 3) = .inr mib → Runs (.flashBringup t tries) s fun u =>
        u.mem.flashUp = true ∧ u.mem.flashMiB = mib ∧ u.mem.upAt = some (max s.now t)))
  ∧ (∀ (s : State) (t : Nat) (second : Bool), awake s = true → s.start.mode = none → s.start.imageDone = true →
      s.start.loftDone = false → Runs (.loftLoad t (true, second)) s fun u => u.start.loftDone = true)
  ∧ (∀ (s : State) (t w : Nat) (second : Bool), inMode .slumber s = true → s.sleep.wakeAt = some w →
      Runs (.loftLoad t (true, second)) s fun u =>
        u.sleep.loftBack = true ∧ u.mem.selfRefresh = false ∧ u.mem.loft = (loadLoft s).mem.loft ∧ u.start = s.start)
  ∧ (∀ (s : State) (t : Nat) (tries : List PsramTry) (x : PsramTry), awake s = true → s.start.mode = none →
      s.start.loftDone = true → s.start.psramDone = false →
      (tries.take 3).find? (fun y => (psramFails y).isNone) = some x → Runs (.psramBringup t tries) s fun u =>
        u.start.psramDone = true ∧ u.mem.psramMiB = psramSize x.mib ∧ u.mem.flash = s.mem.flash)
  ∧ (∀ (s : State) (t addr : Nat), flashReady s = true →
      (s.mem.readRetries < 3 → Runs (.flashReadTimeout t addr) s fun u =>
        u.mem.readRetries = s.mem.readRetries + 1 ∧ u.mem.flashUp = true)
      ∧ (3 ≤ s.mem.readRetries → Runs (.flashReadTimeout t addr) s fun u =>
        u.mem.flashAbsent = true ∧ u.mem.flashUp = false ∧ u.mem.op = none ∧ u.mem.flash = s.mem.flash))
  ∧ (∀ (s : State) (t : Nat), s.mem.op.isSome = true → Runs (.flashSuspendRead t) s fun u =>
      u.mem.resumedAt = some u.now ∧ u.mem.op = s.mem.op ∧ (∀ r, s.mem.resumedAt = some r → r + ms1 ≤ u.now))
  ∧ (∀ (s : State) (t addr : Nat), awake s = true → s.start.psramDone = true →
      (s.mem.siloRetry = false → Runs (.siloTransactionTimeout t addr) s fun u =>
        u.mem.siloRetry = true ∧ u.start = s.start)
      ∧ (s.mem.siloRetry = true → Runs (.siloTransactionTimeout t addr) s fun u =>
        u.start.phase = .held ∧ u.start.cause = .watchdog ∧ u.mem.psram = s.mem.psram))
  ∧ (∀ (s : State) (t : Nat) (asked : List BusAsk), Runs (.busTransactionComplete t true asked) s fun u =>
      u.mem.siloRetry = false ∧ u.mem.readRetries = s.mem.readRetries ∧ u.mem.psram = s.mem.psram)

/-- The DMA engine (R419 to R421): a mirrored or tabled set completes, marks start and stop a channel, a shadow set is
written or stalls; a single set with an address outside every memory faults. -/
def Obligations.DmaRuns : Prop :=
  (∀ (s : State) (t : Nat) (ch : Fin 16), s.mem.dma[ch].active.valid = true → s.mem.dma[ch].active.kind ≠ 0 →
      Runs (.dmaRegisterSetComplete t ch) s fun u =>
        u.mem.dma[ch] = dmaComplete (s.upTo t) s.mem.dma[ch] ∧ u.mem.sram = s.mem.sram
          ∧ (∀ k : Fin 16, k ≠ ch → u.mem.dma[k] = s.mem.dma[k]))
  ∧ (∀ (s : State) (t : Nat) (ch : Fin 16), s.mem.dma[ch].active.valid = true → s.mem.dma[ch].active.kind = 0 →
      badAddress (s.upTo t) s.mem.dma[ch].active = none → s.mem.dma[ch].shadow.valid = false →
      Runs (.dmaRegisterSetComplete t ch) s fun u =>
        u.mem.dma[ch].active.valid = false ∧ u.mem.dma[ch].active.count = s.mem.dma[ch].active.count + 1)
  ∧ (∀ (s : State) (t : Nat) (ch : Fin 16) (a : Nat), s.mem.dma[ch].active.valid = true → s.mem.dma[ch].active.kind = 0 →
      badAddress (s.upTo t) s.mem.dma[ch].active = some a → exec (.dmaRegisterSetComplete t ch) s = .fault (.dmaAddress a))
  ∧ (∀ (s : State) (t : Nat) (ch : Fin 16) (fill : Nat), s.mem.dma[ch].active.paced = true →
      s.mem.dma[ch].active.fill = true → Runs (.dmaPaceMark t ch fill) s fun u =>
        (s.mem.dma[ch].active.stopMark ≤ fill → u.mem.dma[ch].moving = false)
          ∧ (fill < s.mem.dma[ch].active.stopMark → fill ≤ s.mem.dma[ch].active.startMark → u.mem.dma[ch].moving = true)
          ∧ u.mem.dma[ch].active = s.mem.dma[ch].active)
  ∧ (∀ (s : State) (t : Nat) (ch : Fin 16) (set : List (BitVec 8)), channelKind ch = 0 → s.mem.dma[ch].active.valid = true →
      (s.mem.dma[ch].shadow.valid = true → Runs (.dmaShadowWrite t ch set false) s fun u =>
        u.mem.dma[ch].shadow = s.mem.dma[ch].shadow
          ∧ u.mem.dma[ch].stalled = some { regOf (padTo 32 0#8 set) with valid := true })
      ∧ (s.mem.dma[ch].shadow.valid = false → Runs (.dmaShadowWrite t ch set false) s fun u =>
        u.mem.dma[ch].shadow = { regOf (padTo 32 0#8 set) with valid := true }
          ∧ u.mem.dma[ch].active = s.mem.dma[ch].active))

/-- gPTP messages are sent and expire (R171, R172, R174). -/
def Obligations.GptpSendsRun : Prop :=
  (∀ (s : State) (i : Fin 2) (d : Nat), s.ports[i].syncAt = some d → gptpRuns s = true → masterPort (s.upTo d) i = true →
      s.gptp.grandmaster = true → Runs (.syncSend i) s fun u =>
        u.ports[i].syncAt = some (d + 125 * ms1) ∧ u.gptp.syncSeq = s.gptp.syncSeq + 1 ∧ u.now = max s.now d)
  ∧ (∀ (s : State) (i : Fin 2) (d : Nat), s.ports[i].announceAt = some d → gptpRuns s = true → masterPort (s.upTo d) i = true →
      Runs (.announceSend i) s fun u =>
        u.ports[i].announceAt = some (d + sec1) ∧ u.gptp.annSeq = s.gptp.annSeq + 1)
  ∧ (∀ (s : State) (i : Fin 2) (d : Nat), s.ports[i].annDeadline = some d → Runs (.announceReceiptTimeout i) s fun u =>
      u.ports[i].best1 = none ∧ u.ports[i].annDeadline = none ∧ u.now = max s.now d)
  ∧ (∀ (s : State) (i : Fin 2), s.gptp.slavePort = some i → Runs .syncReceiptTimeout s fun u =>
      u.ports[i].best1 = none ∧ u.gptp.slavePort ≠ some i
        ∧ u.now = max s.now (max s.gptp.slaveFrom (s.gptp.lastSync.getD 0) + 375 * ms1))
  ∧ (∀ (s : State) (i : Fin 2) (d : Nat), s.ports[i].pdelayAt = some d → gptpRuns s = true → s.ports[i].up = true →
      Runs (.pdelayRequestSend i) s fun u =>
        u.ports[i].pdelaySeq = s.ports[i].pdelaySeq + 1 ∧ u.ports[i].pdelaySent = none
          ∧ u.ports[i].pdelayAt = some (d + (if s.ports[i].pdelayDone < 15 then 125 * ms1 else sec1)))
  ∧ (∀ (s : State) (t : Nat) (i : Fin 2) (seq : BitVec 16), gptpRuns s = true → portHears s i = true →
      sysStopped s = false → Runs (.pdelayRequestReceive t i seq) s fun u =>
        u = sendPort i (gptpFrame s (.pdelayResp seq (s.upTo t).gptp.time (s.upTo t).gptp.time)) (s.upTo t))
  ∧ (∀ (s : State) (d : Nat), s.gptp.priority255 = some d → Runs .priorityHoldExpiry s fun u =>
      u.gptp.prioHeld = false ∧ u.gptp.priority255 = none ∧ u.now = max s.now d)
  ∧ (∀ (p : Port) (f : NetFrame) (q : BitVec 16) (r : Nat) (time : Nat) (a : Bool), p.asleep = false → p.phy = true →
      (f.body = .gptp (.pdelayReq q) → (p.begin_ time f a).pdelaySent = some time)
        ∧ (f.body = .gptp (.sync q r) → (p.begin_ time f a).wire = some { f with body := .gptp (.sync q time) })
        ∧ (∀ r', f.body = .gptp (.pdelayResp q r r') →
            (p.begin_ time f a).wire = some { f with body := .gptp (.pdelayResp q r time) }))
  ∧ (∀ (s : State) (l : Nat), s.gptp.holdFrom = some l → s.gptp.synced = true → s.gptp.grandmaster = false →
      Runs .gptpSyncHoldExpiry s fun u =>
        u.gptp.synced = false ∧ u.gptp.good = 0 ∧ u.now = max s.now (l + 3 * sec1))

/-- gPTP messages are received (R171 to R175). -/
def Obligations.GptpReceivesRun : Prop :=
  (∀ (s : State) (t : Nat) (i : Fin 2) (gm : Nat), gptpRuns s = true → portHears s i = true → sysStopped s = false →
      s.ports[i].asCapable = true → s.gptp.slavePort = some i → gm < 2 ^ 64 →
      (s.blocks.running = false → s.gptp.firstSet = false → Runs (.syncReceive t i gm) s fun u =>
        u.gptp.time = gm ∧ u.gptp.firstSet = true ∧ u.gptp.lastSync = some (max s.now t))
      ∧ (s.blocks.running = true → 10000 < ((gm : Int) - (s.upTo t).gptp.time).natAbs →
          Runs (.syncReceive t i gm) s fun u =>
            u.gptp.time = (s.upTo t).gptp.time ∧ u.gptp.rateGoal = s.gptp.rateGoal ∧ u.gptp.good = 0
              ∧ u.gptp.lastSync = some (max s.now t)
              ∧ (∃ d ∈ u.blocks.due, d.what = .timeStep ((gm : Int) - (s.upTo t).gptp.time)))
      ∧ (s.blocks.running = true → ((gm : Int) - (s.upTo t).gptp.time).natAbs ≤ 10000 →
          Runs (.syncReceive t i gm) s fun u =>
            u.gptp.time = (s.upTo t).gptp.time ∧ u.gptp.rate = (s.upTo t).gptp.rate
              ∧ u.gptp.rateGoal.natAbs ≤ 20000000000 ∧ u.gptp.lastSync = some (max s.now t)
              ∧ u.gptp.rateGoal = servoGoal (s.upTo t) ((gm : Int) - (s.upTo t).gptp.time)))
  ∧ (∀ (g : Gptp) (dt : Nat), ((g.tick dt).rate - g.rate).natAbs ≤ 2 * dt)
  ∧ (∀ (s : State) (t : Nat) (i : Fin 2) (v : GmVector), gptpRuns s = true → portHears s i = true → sysStopped s = false →
      s.ports[i].asCapable = true → v.sender ≠ clockIdentity s → v.identity ≠ clockIdentity s → s.ports[i].best1 = none →
      Runs (.announceReceive t i v) s fun u =>
        u.ports[i].best1 = some v ∧ u.ports[i].annDeadline = some (max s.now t + 2 * sec1))
  ∧ (∀ (s : State) (t : Nat) (i : Fin 2) (rx tx t1 : Nat), gptpRuns s = true → portHears s i = true → sysStopped s = false →
      (s.upTo t).ports[i].pdelaySent = some t1 → Runs (.pdelayResponseReceive t i s.ports[i].pdelaySeq rx tx) s fun u =>
        u.ports[i].delay = ((s.upTo t).gptp.time - t1 - (tx - rx)) / 2 ∧ u.ports[i].pdelaySent = none
          ∧ u.ports[i].pdelayLost = 0
          ∧ (u.ports[i].delay ≤ 800 → u.ports[i].pdelayOk = min 3 (s.ports[i].pdelayOk + 1))
          ∧ (800 < u.ports[i].delay → u.ports[i].pdelayOk = 0 ∧ u.ports[i].asCapable = false))

/-- Wellspring (R73, R130, R132, R137, R140, R142, R145, R147): references qualify, are lost and barred; the loop is stepped and
switched; history is kept. -/
def Obligations.WellspringRuns : Prop :=
  (∀ (s : State) (d : Nat) (r : Ref), s.well.refDeadline = some d → awake s = true → s.well.atStart = true →
      firstSuch (fun r => (refState s.well r).qualified) (orderOf s) = some r → Runs .startReferenceDeadline s fun u =>
        u.well.selected = some r ∧ u.well.atStart = false ∧ u.well.bandwidth = bwAcquire r ∧ u.well.holdover = false)
  ∧ (∀ (s : State) (e : Nat) (net bpi0 bpi1 wclk : RefMeas), s.well.windowEnd = some e → s.well.atStart = false →
      Runs (.qualificationWindowEnd net bpi0 bpi1 wclk) s fun u =>
        u.now = max s.now e ∧ u.well.windowEnd = some (e + sec1) ∧ u.well.selected = s.well.selected
          ∧ (∀ i : Fin 4, s.well.refs[i].qualified = true ∨ s.well.refs[i].barred.isSome = true →
              u.well.refs[i] = { s.well.refs[i] with mean := u.well.refs[i].mean }))
  ∧ (∀ (s : State) (t : Nat) (r : Ref) (crf : Bool) (i : Fin 4), refIndex r = some i → s.well.refs[i].qualified = true →
      Runs (.referenceLoss t r crf) s fun u =>
        u.well.refs[i].qualified = false
          ∧ (3 ≤ (lossesNow (max s.now t) s.well.refs[i].losses).length →
              u.well.refs[i].barred = some (max s.now t + 60 * sec1))
          ∧ (s.well.selected = some r → s.well.holdover = false → s.start.tRun.isSome = true →
              u.well.holdover = true ∧ u.well.locked = false ∧ u.well.lostRef = some r ∧ u.well.holdoverFrom = max s.now t))
  ∧ (∀ (s : State) (r : Ref) (i : Fin 4) (b : Nat), refIndex r = some i → s.well.refs[i].barred = some b →
      Runs (.referenceBarExpiry r) s fun u =>
        u.well.refs[i].barred = none ∧ u.well.refs[i].qualified = s.well.refs[i].qualified ∧ u.now = max s.now b
          ∧ (∀ j : Fin 4, j ≠ i → u.well.refs[j] = s.well.refs[j]))
  ∧ (∀ (s : State), s.well.holdover = true → Runs .holdoverLimitExpiry s fun u =>
      u.well.limitPassed = true ∧ u.well.holdover = true
        ∧ u.now = max s.now (s.well.holdoverFrom + (if s.well.tcxo then 3600 else 600) * sec1))
  ∧ (∀ (s : State) (t : Nat) (err : Int), s.well.holdover = false → s.well.selected = some .local → s.well.stage = .idle →
      s.well.locked = false → wellRuns s = true → inMode .slumber s = false → Runs (.hardwareLoopUpdate t err) s fun u =>
        u.well.locked = true ∧ u.well.mclk = true ∧ u.blocks.exists_ = true ∧ u.well.dco = s.well.dco)
  ∧ (∀ (s : State) (t : Nat) (err : Int) (r : Ref), s.well.holdover = false → s.well.selected = some r → r ≠ .local →
      r ≠ .net → s.well.stage ≠ .frequency → s.well.stage ≠ .phase → s.start.tRun.isSome = true → wellRuns s = true →
      let e := phaseMod (refRate (s.upTo t) r) s.well.rate err
      Runs (.hardwareLoopUpdate t err) s fun u =>
        u.well.dco = dcoClamp (loopFilter s.well.bandwidth (loopPeriod (s.upTo t) r) e s.well.integ).2
          ∧ (s.well.locked = false → 63 ≤ s.well.inCount → e.natAbs ≤ 200 → u.well.locked = true)
          ∧ (s.well.locked = true → e.natAbs ≤ 800 → u.well.locked = true))
  ∧ (∀ (s : State) (d : Nat), s.well.nextHalf = some d → Runs .bandwidthStep s fun u =>
      u.well.halve = true ∧ u.well.nextHalf = some (d + 2 * sec1) ∧ u.well.bandwidth = s.well.bandwidth)
  ∧ (∀ (s : State) (t : Nat) (err : Int), s.well.stage = .frequency →
      (s.well.selected = some .local → s.well.dco = 0 → Runs (.switchFrequencyStageEnd t err) s fun u =>
        u.well.dco = 0 ∧ u.well.stage = .idle ∧ u.well.locked = true)
      ∧ (∀ r, s.well.selected = some r → r ≠ .local → (s.well.dco - s.well.dcoGoal).natAbs ≤ 184467440737 →
          Runs (.switchFrequencyStageEnd t err) s fun u =>
            u.well.stage = .phase ∧ u.well.dco = s.well.dco ∧ u.well.dcoGoal = s.well.dco ∧ u.well.phaseOff = 0)
      ∧ (∀ r, s.well.selected = some r → (if r = .local then s.well.dco ≠ 0 else
            184467440737 < (s.well.dco - s.well.dcoGoal).natAbs) →
          Runs (.switchFrequencyStageEnd t err) s fun u => u = s.upTo t))
  ∧ (∀ (s : State) (t : Nat), s.well.stage = .phase → s.well.phaseLeft = 0 → s.well.phaseOff = 0 →
      Runs (.switchPhaseStageEnd t) s fun u =>
        u.well.stage = .close ∧ u.well.dco = s.well.dco ∧ u.well.integ = s.well.dco
          ∧ (∀ r, s.well.selected = some r → u.well.bandwidth = bwAcquire r))
  ∧ (∀ (s : State) (t : Nat), s.well.phaseLeft ≠ 0 ∨ s.well.phaseOff ≠ 0 →
      Runs (.switchPhaseStageEnd t) s fun u => u = s.upTo t)
  ∧ (∀ (s : State) (d : Nat) (r : Ref), s.well.histAt = some d → s.well.selected = some r → r ≠ .local →
      atTarget s.well = true → Runs .historyWindowComplete s fun u =>
        u.history.length ≤ 16 ∧ u.history.tail = s.history.take 15 ∧ (u.history.head?.map (·.ref)) = some r
          ∧ u.well.histAt = some (d + 64 * sec1) ∧ u.well.histCount = 0)

/-- The ports' PHYs and PoDL (R154 to R161, R168). -/
def Obligations.PortsRun : Prop :=
  (∀ (s : State) (l : Nat) (a b : Diag × Nat), s.start.base = some l → awake s = true → s.ports[0].enabled = true →
      s.ports[1].enabled = true →
      (s.ports[0].diag = .none → s.ports[1].diag = .none → Runs (.cableDiagnostic a b) s fun u =>
        u.ports[0].diag = a.1 ∧ u.ports[1].diag = b.1 ∧ u.ports[0].forced = false ∧ u.now = max s.now (l + 50 * ms1)
          ∧ (a.1 = .open ∨ a.1 = .short → isActive 0xF402#16 0 u = true))
      ∧ (s.ports[0].diag ≠ .none ∨ s.ports[1].diag ≠ .none → Runs (.cableDiagnostic a b) s fun u => u = s))
  ∧ (∀ (s : State) (i : Fin 2) (d : Nat) (page : Option AnPage), s.ports[i].altAt = some d → s.ports[i].enabled = true →
      s.ports[i].phy = false → s.ports[i].diag ≠ .none → s.ports[i].forced = true ∨ page = none →
      Runs (.linkModeAlternate i page) s fun u =>
        u.ports[i].forced = !s.ports[i].forced ∧ u.ports[i].altAt = some (d + 2 * sec1) ∧ u.now = max s.now d)
  ∧ (∀ (s : State) (i : Fin 2) (d : Nat) (page : AnPage), s.ports[i].altAt = some d → s.ports[i].enabled = true →
      s.ports[i].phy = false → s.ports[i].diag ≠ .none → s.ports[i].forced = false →
      Runs (.linkModeAlternate i (some page)) s fun u =>
        u.ports[i].forced = false ∧ u.ports[i].page = some page ∧ u.ports[i].altAt = some (d + 2 * sec1))
  ∧ (∀ (s : State) (t : Nat) (i : Fin 2), s.ports[i].enabled = true →
      (s.ports[i].phy = false → s.ports[i].diag ≠ .none → s.ports[i].forced = true → ∀ page,
        Runs (.phyLinkChange t i true page) s fun u =>
          u.ports[i].phy = true ∧ u.ports[i].phySince = max s.now t ∧ u.ports[i].up = s.ports[i].up
            ∧ u.ports[i].master = decide (i = 1) ∧ u.ports[i].eee = false ∧ u.ports[1 - i].phy = s.ports[1 - i].phy)
      ∧ (s.ports[i].phy = false → s.ports[i].diag ≠ .none → s.ports[i].forced = false → ∀ page : AnPage, page.same = true →
        Runs (.phyLinkChange t i true (some page)) s fun u =>
          u.ports[i].phy = true ∧ u.ports[i].page = some page ∧ u.ports[i].eee = page.eee
            ∧ (page.master ≠ decide (i = 1) → u.ports[i].master = decide (i = 1)))
      ∧ (s.ports[i].phy = true → ∀ page, Runs (.phyLinkChange t i false page) s fun u =>
          u.ports[i].phy = false ∧ u.ports[i].phySince = max s.now t ∧ u.ports[i].altAt = some (max s.now t + 2 * sec1)
            ∧ u.ports[i].up = s.ports[i].up ∧ u.ports[1 - i].phy = s.ports[1 - i].phy))
  ∧ (∀ (s : State) (i : Fin 2), s.ports[i].enabled = true → s.ports[i].phy ≠ s.ports[i].up → Runs (.linkDeclare i) s fun u =>
      u.ports[i].up = s.ports[i].phy ∧ u.ports[i].asCapable = false ∧ u.now = max s.now (s.ports[i].phySince + 200 * ms1)
        ∧ isActive 0xF400#16 i.val u = !s.ports[i].phy
        ∧ (4 ≤ (s.ports[i].changes.filter (fun c => decide (u.now < c + 60 * sec1))).length →
            isActive 0xF401#16 i.val u = true))
  ∧ (∀ (s : State) (i : Fin 2) (b : Nat), s.start.base = some b → s.ports[i].enabled = true → s.ports[i].diag = .good →
      s.ports[i].up = false → Runs (.linkUpDeadline i) s fun u =>
        isActive 0xF400#16 i.val u = true ∧ u.now = max s.now (b + 10 * sec1))
  ∧ (∀ (s : State) (i : Fin 2) (t : Nat) (l : List Nat), s.ports[i].changes = t :: l → Runs (.linkChangeQuiet i) s fun u =>
      isActive 0xF401#16 i.val u = false ∧ u.ports[i].changes = [] ∧ u.now = max s.now (t + 60 * sec1))
  ∧ (∀ (s : State) (t : Nat) (i : Fin 2), Runs (.partnerAsleep t i) s fun u =>
      u.ports[i].asleep = s.ports[i].phy ∧ u.ports[i].up = s.ports[i].up)
  ∧ (∀ (s : State) (t : Nat), s.podl.signature = true → Runs (.podlClassification t) s fun u =>
      u.podl.classifiedAt = some (max s.now t) ∧ u.podl.answer = [0, 1, 4, 5] ∧ u.podl.enable = s.podl.enable)
  ∧ (∀ (s : State) (t mv : Nat) (v : Bool), s.podl.signature = true → Runs (.podlPowerApplied t v mv) s fun u =>
      u.podl.enable = true ∧ u.podl.volts24 = v ∧ u.podl.classifiedAt = none ∧ anyActive 0xFA40#16 u = false
        ∧ u.plant.pairMv = mv)
  ∧ (∀ (s : State) (c : Nat), s.podl.classifiedAt = some c → s.start.tRun.isSome = true → linkPodl (lvlD s 6) = true →
      s.podl.enable = false → Runs .podlPowerTimeout s fun u =>
        anyActive 0xFA40#16 u = true ∧ u.podl.classifiedAt = none ∧ u.now = max s.now (c + 2 * sec1))

/-- The switch and what it sees (R162, R163, R591, R592), and the status frames heard (R103). -/
def Obligations.SwitchRuns : Prop :=
  (∀ (s : State) (t : Nat) (i : Fin 2) (f : NetFrame), (∀ m, f.body ≠ .gptp m) → switchAdmits f = false →
      Runs (.frameIngress t i f) s fun u => u.switch = s.switch ∧ u.streams = s.streams ∧ u.ports[i].asleep = false)
  ∧ (∀ (s : State) (t : Nat) (i : Fin 2) (f : NetFrame) (l : List Flow), (∀ m, f.body ≠ .gptp m) → awake s = true →
      s.ports[i].up = true → s.ports[i].phy = true → sysStopped s = false → inMode .slumber s = false →
      s.switch.tables = true → switchAdmits f = true → f.src ≠ s.eui48 →
      forwardFlow (max s.now t) f ((f.sec.map (·.pn)).getD 0) s.switch.flows = some l →
      Runs (.frameIngress t i f) s fun u => u.switch.flows = l ∧ u.well = s.well)
  ∧ (∀ (s : State) (w : Flow), s.switch.flows.find? (fun x => x.src == w.src && x.dst == w.dst) = some w →
      Runs (.flowIdleExpiry w.src w.dst) s fun u =>
        w ∉ u.switch.flows ∧ u.switch.flows.Sublist s.switch.flows ∧ u.now = max s.now (w.last + 20 * ms1))
  ∧ (∀ (s : State) (n : BitVec 8) (at_ : Nat), s.status.heard.find? (fun x => x.1 == n) = some (n, at_) →
      Runs (.leaderAbsentTimeout (some n)) s fun u =>
        u.status.heard = s.status.heard.filter (fun x => x.1 != n) ∧ u.now = max s.now (at_ + 3 * sec1)
          ∧ isActive 0xF500#16 n.toNat u = false)
  ∧ (∀ (s : State), s.status.heard = [] → inMode .member s = true → anyActive 0xF410#16 s = false →
      Runs (.leaderAbsentTimeout none) s fun u =>
        anyActive 0xF410#16 u = true ∧ u.now = max s.now (s.status.silentFrom + 3 * sec1))
  ∧ (∀ (s : State) (l : Nat), s.status.sharedSeen = some l → Runs .sharedNodeAddressQuiet s fun u =>
      anyActive 0xF411#16 u = false ∧ u.status.sharedSeen = none ∧ u.now = max s.now (l + 60 * sec1))
  ∧ (∀ (s : State) (t : Nat) (f : NetFrame) (e : BitVec 16) (b : List Byte), Received s t f → dstKind f.dst = 4 →
      f.body = .bytes e b → b.take 3 = [0xC3#8, 0x3C#8, 0x10#8] → at8 b 8 = 3#8 → Runs (.fumaroleFrameReceive t f) s fun u =>
        (at8 b 5, max s.now t) ∈ u.status.heard ∧ anyActive 0xF410#16 u = false)
  ∧ (∀ (s : State) (t : Nat) (f : NetFrame), isOffered (s.upTo t) f = true → sysStopped s = false → dstKind f.dst = 4 →
      verify (s.upTo t) f = .integrity → Runs (.fumaroleFrameReceive t f) s fun u =>
        u.status.heard = s.status.heard ∧ u.sec = s.sec ∧ u.sleep = s.sleep ∧ u.streams = s.streams)
  ∧ (∀ (s : State) (t : Nat) (f : NetFrame), isOffered (s.upTo t) f = true → sysStopped s = true → dstKind f.dst = 4 →
      Runs (.fumaroleFrameReceive t f) s fun u =>
        u.status = (s.upTo t).status ∧ u.sec = s.sec
          ∧ ∃ q : Fin 10, u.cross[q].words + u.cross[q].drops = s.cross[q].words + s.cross[q].drops + (f.octets + 7) / 8
              ∧ (s.cross[q].words ≤ 64 → u.cross[q].words ≤ 64))

/-- The streams (R179, R182, R184, R188, R194, R195, R210, R394): frames are sent and received, streams end, admission and
presentation are decided. -/
def Obligations.StreamsRun : Prop :=
  (∀ (s : State) (k : Fin 3), s.blocks.running = true → (txOf s k).next < 8 → Runs (.aafFrameSend k) s fun u =>
      let m := mediaNow (s.upToDevice (s.blocks.stamp + 125000 * ((txOf s k).next + 1)))
      (txOf u k).next = (txOf s k).next + 1
        ∧ (txOf u k).seq = (txOf s k).seq
            + (if m.gptp.synced && !(talkMix m k).isEmpty && channelReady m (k == 2) then 1 else 0))
  ∧ (∀ (s : State), s.streams.crf.next < 8 → Runs .crfFrameSend s fun u =>
      u.streams.crf.next = 8 ∧ u.streams.crf.stamp = s.streams.crf.stamp
        ∧ (u.streams.crf.seq = s.streams.crf.seq + 1
            ↔ s.blocks.running && s.gptp.synced && (inMode .leader s || hotInStep s) && channelReady s false))
  ∧ (∀ (s : State) (t : Nat) (f : NetFrame) (q : BitVec 16) (a : Aaf), f.body = .aaf (some q) a → powered s = true →
      inMode .slumber s = false → dstInRange f.dst = true → dstKind f.dst ≤ 2 → f.src ≠ s.eui48 →
      a.streamLow = streamLow (dstTenant f.dst) (dstKind f.dst) (dstNode f.dst) →
      listensTo s (dstKind f.dst) (dstTenant f.dst) = true →
      usesStream s (dstKind f.dst) (dstTenant f.dst) = true → Received s t f → aafChecks (dstKind f.dst) a = true →
      s.blocks.running = true → nsrRate a.nsr = s.well.rate → s.streams.rx = [] →
      Runs (.aafFrameReceive t f) s fun u => ∃ x, u.streams.rx = [x] ∧ x.kind = dstKind f.dst
        ∧ x.node.toNat = dstNode f.dst
        ∧ (if s.gptp.synced = true then
            x.recov.follow = some a.streamEui ∧ x.recov.seq = q ∧ x.recov.active = true
              ∧ u.status.sec.lost = s.status.sec.lost
          else x.recov.active = false ∧ u.status.sec.lost = sat16 (s.status.sec.lost + 1)))
  ∧ (∀ (s : State) (t : Nat) (f : NetFrame) (q : BitVec 16) (c : Crf), f.body = .crf (some q) c → powered s = true →
      inMode .member s = true → dstInRange f.dst = true → dstKind f.dst = 3 → f.src ≠ s.eui48 →
      c.streamLow = streamLow (dstTenant f.dst) 3 (dstNode f.dst) → dstTenant f.dst = tenant s →
      Received s t f → crfChecks s.well.family44 c = true → s.streams.rx = [] → s.status.heard = [] →
      strappedPartner (role s) = false → strappedLeader (role s) = false → Runs (.crfFrameReceive t f) s fun u =>
        if s.gptp.synced = true then
          u.well.crfLast = some (max s.now t) ∧ u.well.crfStamps = (c.stamp :: s.well.crfStamps).take 16
            ∧ u.well.crfRate = c.base
        else u.well = s.well ∧ u.status.sec.lost = sat16 (s.status.sec.lost + 1))
  ∧ (∀ (s : State) (kind : Nat) (n : BitVec 8) (i : Nat) (x : RxStream), rxIndex s kind n = some i →
      s.streams.rx[i]? = some x → Runs (.streamSourceTimeout kind n) s fun u =>
        u.streams.rx = s.streams.rx.set i { x with recov := { x.recov with follow := none } }
          ∧ u.now = max s.now (x.recov.followAt + 20 * ms1))
  ∧ (∀ (s : State) (kind : Nat) (n : BitVec 8) (i : Nat) (x : RxStream), rxIndex s kind n = some i →
      s.streams.rx[i]? = some x → x.recov.active = true → Runs (.recoveryResetTimeout kind n) s fun u =>
        u.streams.rx = s.streams.rx.set i { x with recov := { x.recov with active := false, seen := 0#32 } }
          ∧ u.now = max s.now (x.recov.passedAt + 20 * ms1))
  ∧ (∀ (s : State), s.blocks.running = true →
      (inMode .leader s = true → Runs .admissionEvaluation s fun u =>
        let r := admitAll 0 (candidates (s.upToDevice s.streams.admitAt))
        u.streams.nextAdmitted = some r.1 ∧ u.streams.refused = r.2 ∧ u.streams.admitAt = s.streams.admitAt + sec1
          ∧ u.streams.admitted = s.streams.admitted)
      ∧ (inMode .member s = true → (talkMix s 1).isEmpty = false → Runs .admissionEvaluation s fun u =>
        u.streams.selfRefused = (admitAll 0 (candidates (s.upToDevice s.streams.admitAt))).2.contains (BitVec.ofNat 8 (node s))
          ∧ u.streams.nextAdmitted = s.streams.nextAdmitted))
  ∧ (∀ (s : State) (t kind : Nat) (n : BitVec 8) (i : Nat) (x : RxStream), rxIndex s kind n = some i →
      s.streams.rx[i]? = some x → x.kind ≠ 3 → s.blocks.running = true → converted s x = false →
      Runs (.playoutDeadline t kind n) s fun u => ∃ y, u.streams.rx[i]? = some y
        ∧ y.ready.length = max x.ready.length (decidedBy (s.upTo t)) ∧ y.kind = x.kind ∧ y.recov = x.recov)

/-- TIE frames of a hot pair and partner frames of a cold one (R217, R221, R223 to R225, R228, R229). -/
def Obligations.PairFramesRun : Prop :=
  (∀ (s : State) (t : Nat) (b : TieFrame) (h : TieHead), TieHeard s b h 1 → Runs (.tieHeartbeat t (.tie b)) s fun u =>
        u.red.replyHeld = ofBe (slice 0 4 h.payload) ∧ u.red.lastFrame = max s.now t ∧ u.red.hbAt = max s.now t
          ∧ u.red.heardSlot = true ∧ u.red.peerLeader = h.flags.getLsbD 0 ∧ u.red.contact = (s.red.contact || !inMode .solo s))
  ∧ (∀ (s : State) (t : Nat) (f : NetFrame) (b : TieFrame) (r : PairRec) (h : TieHead), Received s t f →
      coldRole (role s) = true → inMode .slumber s = false → inMode .safe s = false → s.red.pair = some r → f.src = r.eui →
      dstKind f.dst = 5 → f.body = .bytes 0x88B6#16 b → tieParse s b = some h → h.kind = 1 → Runs (.tieHeartbeat t (.net f)) s fun u =>
        u.red.lastFrame = max s.now t ∧ u.red.hbAt = max s.now t ∧ u.red.peerLeader = h.flags.getLsbD 0)
  ∧ (∀ (s : State) (t : Nat) (b : TieFrame) (h : TieHead), TieHeard s b h 2 → inMode .partner s = true → s.red.contact = true →
      let info := blockRead s h.payload
      (s.red.closed.find? (fun c => c.number == info.step) = none → Runs (.tieBlock t b) s fun u =>
        u.red.held = some info ∧ u.red.closed = s.red.closed ∧ u.blocks = s.blocks)
      ∧ (∀ c, s.red.closed.find? (fun c => c.number == info.step) = some c → s.red.state = .inStep →
          s.blocks.number = info.step + 1 → Runs (.tieBlock t b) s fun u =>
            u.red.held = some info ∧ u.blocks.stamp = info.stamp + thisLen s * 1000000000 / s.well.rate))
  ∧ (∀ (s : State) (t : Nat), tieMay (s.upTo t) = true → slotOwner s = true → Runs (.tieSlotStart t) s fun u =>
      u.red.slot = s.red.slot + 1 ∧ u.red.heardSlot = false ∧ u.red.tie.frames ≠ []
        ∧ u.red.missed = (if s.red.heardSlot then 0 else min 4 (s.red.missed + 1)))
  ∧ (∀ (s : State) (t : Nat), tieMay (s.upTo t) = true → slotOwner s = false → Runs (.tieSlotStart t) s fun u =>
      u.red.slot = s.red.slot ∧ u.red.heardSlot = false ∧ u.red.tie.frames = []
        ∧ u.red.missed = (if s.red.heardSlot then 0 else min 4 (s.red.missed + 1)))
  ∧ (∀ (s : State) (t : Nat) (f : TieFrame), tieMay (s.upTo t) = true → s.red.tie.frames.getLast? = some f →
      (actsLeader s = true → s.red.peerLeader = false → Runs (.tieCollision t) s fun u =>
        u.red.tie.frames = s.red.tie.frames ∧ u.red.tie.retry = none ∧ u.now = max s.now (t + 2000))
      ∧ (actsLeader s = false → s.red.peerLeader = true → Runs (.tieCollision t) s fun u =>
        u.red.tie.frames = s.red.tie.frames.dropLast ∧ u.red.tie.retry = some f ∧ u.now = max s.now t))
  ∧ (∀ (s : State) (t : Nat) (b : TieFrame) (h : TieHead), TieHeard s b h 3 → inMode .partner s = true →
      s.red.contact = true → ofBe (slice 4 4 h.payload) ≤ ckptMax (loaded s) →
      ofBe (slice 0 4 h.payload) % 1024 = 0 →
      ofBe (slice 0 4 h.payload) + ((h.payload.drop 8).take 1024).length ≤ ofBe (slice 4 4 h.payload) →
      Runs (.tieCheckpointChunk t (.tie b)) s fun u =>
        ofBe (slice 0 4 h.payload) ∈ u.red.rxCkpt.got ∧ u.red.rxCkpt.total = ofBe (slice 4 4 h.payload)
          ∧ u.mem.psram = pokes 0#8 s.mem.psram (ckptAddr (loaded s) (fillBuffer s) + ofBe (slice 0 4 h.payload))
              ((h.payload.drop 8).take 1024))
  ∧ (∀ (s : State) (t : Nat) (b : TieFrame) (h : TieHead), TieHeard s b h 4 → inMode .leader s = true →
      s.red.contact = true → s.blocks.running = true → h.payload.take 1 = [1#8] →
      Runs (.resyncRequest t (.tie b)) s fun u => u.red.ckptDue = true ∧ u.red.lastFrame = max s.now t)

/-- Checkpoints, resync and contact of a pair (R220, R221, R225, R228, R229, R242). -/
def Obligations.PairStateRuns : Prop :=
  (∀ (s : State) (c : Nat), s.red.closeAt = some c → hotInStep s = true → s.red.leaveStep = none →
      Runs .blockFrameTimeout s fun u =>
        u.red.leaveStep = some 4 ∧ u.red.closeAt = none ∧ u.red.state = .inStep ∧ u.now = max s.now (c + 500000))
  ∧ (∀ (s : State), hotRole (role s) = true → s.red.contact = true → 4 ≤ s.red.missed → s.red.tieDown = false →
      Runs .tieDown s fun u =>
        u.red.contact = false ∧ u.red.tieDown = true ∧ anyActive 0xF521#16 u = true ∧ u.now = s.now
          ∧ (inMode .leader s = true → anyActive 0xF510#16 u = true))
  ∧ (∀ (s : State) (t : Nat), inMode .leader s = true → s.blocks.running = true → s.red.contact = true →
      sheafBoundary (s.upTo t) = true →
      (coldRole (role s) = false → s.red.ckptDue = true → Runs (.checkpointTake t) s fun u =>
        u.red.sending = some (checkpointOf (s.upTo t)) ∧ u.red.sendOff = 0 ∧ u.red.ckptDue = false)
      ∧ (coldRole (role s) = true → s.red.ckptNext ≤ (s.upTo t).gptp.time → Runs (.checkpointTake t) s fun u =>
        u.red.ckptNext = nextInstant (s.upTo t).gptp.time (offset s + 500 * ms1) sec1 ∧ u.red.ckptDue = false))
  ∧ (∀ (s : State) (t : Nat), inMode .partner s = true → ckptWhole s.red.rxCkpt = true → siloWritten 2 8 s = true →
      ckptIntact (ckptBytes s (fillBuffer s) s.red.rxCkpt.total) = true → coldRole (role s) = true → hotRole (role s) = false →
      (ckptFits s (ckptBytes s (fillBuffer s) s.red.rxCkpt.total) = true → Runs (.checkpointComplete t) s fun u =>
        u.red.current = some s.red.rxCkpt.total ∧ u.red.currentB = fillBuffer s ∧ u.red.ckptAt = max s.now t
          ∧ anyActive 0xF530#16 u = false ∧ u.red.rxCkpt = {})
      ∧ (ckptFits s (ckptBytes s (fillBuffer s) s.red.rxCkpt.total) = false → Runs (.checkpointComplete t) s fun u =>
        u.red.current = s.red.current ∧ u.red.currentB = s.red.currentB ∧ u.red.ckptAt = s.red.ckptAt))
  ∧ (∀ (s : State) (t : Nat), inMode .partner s = true → s.red.state = .joining → s.red.current.isSome = true →
      s.red.resyncAt.isSome = true → Runs (.resyncReplayComplete t) s fun u =>
        u.red.replayed = true ∧ u.thr.replay = [] ∧ u.red.state = .joining)
  ∧ (∀ (s : State) (r : Nat), s.red.resyncAt = some r → s.red.state = .joining → Runs .resyncTimeout s fun u =>
      u.red.state = .joining ∧ u.red.resyncAt = some (max s.now (r + 10 * sec1)) ∧ u.red.rxCkpt = {} ∧ u.red.ringUsed = 0)
  ∧ (∀ (s : State), inMode .partner s = true → coldRole (role s) = true → anyActive 0xF530#16 s = false →
      Runs .checkpointStaleTimeout s fun u =>
        anyActive 0xF530#16 u = true ∧ u.now = max s.now (s.red.ckptAt + 3 * sec1))
  ∧ (∀ (s : State), coldRole (role s) = true → s.red.pair.isSome = true → s.start.tRun.isSome = true →
      inMode .leader s = true → Runs .partnerHeartbeatSend s fun u =>
        u.red.hbNext = nextInstant (s.upToDevice s.red.hbNext).gptp.time
          (offset s + 5 * ms1 + (if slotOwner s then 0 else ms1)) (10 * ms1))
  ∧ (∀ (s : State), coldRole (role s) = true → s.red.contact = true → Runs .partnerContactTimeout s fun u =>
      u.red.contact = false ∧ u.now = max s.now (s.red.hbAt + 50 * ms1)
        ∧ (inMode .leader s = true → anyActive 0xF510#16 u = true))
  ∧ (∀ (s : State) (r : Nat), s.start.tRun = some r → pairRole (role s) = true → s.red.everContact = false →
      inMode .leader s = true → Runs .partnerContactDeadline s fun u =>
        anyActive 0xF510#16 u = true ∧ u.now = max s.now (r + 10 * sec1))

/-- Loss of a leader, takeover, take-back and SLUMBER of a pair (R83, R232 to R240). -/
def Obligations.PairHandoversRun : Prop :=
  (∀ (s : State) (r : Nat), s.start.tRun = some r → inMode .partner s = true → s.red.pair.isSome = true →
      pairRole (role s) = true → s.red.wakeAnswer = none → s.red.leaderLost = false → Runs .leaderLost s fun u =>
        u.red.leaderLost = true ∧ (∃ d ∈ u.blocks.due, d.what = .takeover)
          ∧ u.now = max s.now (max r (max s.red.lastFrame s.red.lastSeen) + if hotRole (role s) then ms1 else 50 * ms1))
  ∧ (∀ (s : State) (t : Nat), s.red.restoring = true → Runs (.checkpointRestoreComplete t) s fun u =>
      u.red.restoring = false ∧ u.red.startData = true ∧ u.now = max s.now t)
  ∧ (∀ (s : State) (r : Nat), s.start.tRun = some r → mayTakeBack r s = true → Runs .takeBackEligible s fun u =>
      u.red.takeBackB = some (stepNow (s.upTo (r + 5 * sec1)) + if hotRole (role s) then 8 else 100)
        ∧ u.red.takeAccepted = false ∧ u.red.takeCommit = false ∧ u.now = max s.now (r + 5 * sec1))
  ∧ (∀ (s : State) (t : Nat) (b : TieFrame) (h : TieHead), TieHeard s b h 4 → coldRole (role s) = false →
      inMode .leader s = true → strappedPartner (role s) = true → s.blocks.running = true → s.red.contact = true →
      h.payload.take 1 = [2#8] → s.blocks.number < ofBe (slice 2 4 h.payload) →
      Runs (.takeBackRequest t (.tie b)) s fun u =>
        u.red.takeBackB = some (ofBe (slice 2 4 h.payload)) ∧ u.red.takeCommit = false
          ∧ u.red.requests = s.red.requests ++ [requestBody 3 (ofBe (slice 2 4 h.payload))])
  ∧ (∀ (s : State) (t : Nat) (b : TieFrame) (h : TieHead) (n : Nat), TieHeard s b h 4 → coldRole (role s) = false →
      inMode .partner s = true → s.red.contact = true → h.payload.take 1 = [3#8] →
      s.red.takeBackB = some n → ofBe (slice 2 4 h.payload) = n → s.red.takeAccepted = false →
      (s.upTo t).gptp.time + 2 * ms1 ≤ stepAt s n → Runs (.takeBackAccepted t (.tie b)) s fun u =>
        u.red.takeAccepted = true ∧ u.red.takeCommit = true ∧ u.red.takeBackB = some n
          ∧ u.red.requests = s.red.requests ++ [requestBody 4 n])
  ∧ (∀ (s : State) (t : Nat) (b : TieFrame) (h : TieHead), TieHeard s b h 4 → inMode .leader s = true → s.red.contact = true →
      h.payload.take 1 = [4#8] →
      s.red.takeBackB = some (ofBe (slice 2 4 h.payload)) →
      (s.blocks.number < ofBe (slice 2 4 h.payload) → Runs (.takeBackCommit t (.tie b)) s fun u => u.red.takeCommit = true)
      ∧ (ofBe (slice 2 4 h.payload) ≤ s.blocks.number → Runs (.takeBackCommit t (.tie b)) s fun u =>
        u.red.takeCommit = s.red.takeCommit))
  ∧ (∀ (s : State) (n : Nat), s.red.takeBackB = some n → inMode .partner s = true → s.red.takeAccepted = false →
      Runs .takeBackRetry s fun u =>
        u.now = (s.upToDevice (stepAt s n - 2 * ms1)).now + sec1 ∧ u.red.takeBackB.isSome = true
          ∧ u.red.takeAccepted = false ∧ u.red.takeCommit = false)
  ∧ (∀ (s : State) (d : Nat) (r : PairRec), s.red.releaseAt = some d → s.red.pair = some r → yieldDue s = false →
      Runs .takeBackRelease s fun u =>
        u.now = (s.upToDevice (d - 500000)).now ∧ (∃ x ∈ u.blocks.due, x.what = .yield_ r.node ∧ x.at_ = u.now)
          ∧ u.start = s.start ∧ u.streams = s.streams)
  ∧ (∀ (s : State) (t : Nat) (b : TieFrame) (h : TieHead), TieHeard s b h 4 → powered s = true → coldRole (role s) = false →
      s.red.contact = true → h.payload.take 1 = [5#8] → inMode .partner s = true →
      (s.red.state ≠ .joining → role s = 7 ∨ role s = 8 → Runs (.slumberProposal t (.tie b)) s fun u =>
        u.sleep.entryB = some (ofBe (slice 2 4 h.payload)) ∧ u.red.requests = s.red.requests ++ [requestBody 6 1])
      ∧ (s.red.state = .joining → Runs (.slumberProposal t (.tie b)) s fun u =>
        u.sleep.entryB = s.sleep.entryB ∧ u.red.requests = s.red.requests ++ [requestBody 6 0]))
  ∧ (∀ (s : State) (t : Nat) (b : TieFrame) (h : TieHead) (n : Nat), TieHeard s b h 4 → s.red.contact = true →
      h.payload.take 1 = [6#8] → inMode .leader s = true → s.red.proposed = some n →
      (ofBe (slice 2 4 h.payload) = 1 → Runs (.slumberAnswer t (.tie b)) s fun u =>
        u.sleep.entryB = some n ∧ u.red.proposed = none)
      ∧ (ofBe (slice 2 4 h.payload) ≠ 1 → Runs (.slumberAnswer t (.tie b)) s fun u =>
        u.sleep.entryB = none ∧ u.sleep.condAt = none ∧ u.red.proposed = none))

/-- Keys (R248, R249, R252, R254, R256 to R258): reservations are committed, keys are drawn and renewed, AK is distributed. -/
def Obligations.KeysRun : Prop :=
  (∀ (s : State) (t : Nat) (i : Fin 8), s.sec.inForce = some i → flashReady s = true → s.sec.tenantChan.ready = false →
      (∀ e b, blockAfter (highestBlock s.mem.flash i.val 0) = some (e, b) → Runs (.reservationCommit t false []) s fun u =>
        u.sec.tenantChan = { ready := true, epoch := e, block := b, pn := b * 1048576 } ∧ u.sec.annChan = s.sec.annChan
          ∧ u.sec.recSeq = s.sec.recSeq + 1)
      ∧ (blockAfter (highestBlock s.mem.flash i.val 0) = none → Runs (.reservationCommit t false []) s fun u =>
        u.sec.retired = s.sec.retired.set i true ∧ u.mem.flash = s.mem.flash ∧ u.sec.slots = s.sec.slots))
  ∧ (∀ (s : State) (t : Nat) (i : Fin 8), s.sec.inForce = some i → flashReady s = true → s.sec.annChan.ready = false →
      ∀ e b, blockAfter (highestBlock s.mem.flash i.val 1) = some (e, b) → Runs (.reservationCommit t true []) s fun u =>
        u.sec.annChan = { ready := true, epoch := e, block := b, pn := b * 1048576 } ∧ u.sec.tenantChan = s.sec.tenantChan)
  ∧ (∀ (s : State) (c : Nat) (i : Fin 8) (second : Bool), s.sec.createAt = some c → strappedLeader (role s) = true →
      s.start.mode.isSome = true → inMode .safe s = false → s.sec.inForce = none → s.sec.nextForce = none →
      lowestBlank s = some i → Runs (.keyCreate (false, second)) s fun u =>
        u.sec.createAt = none ∧ u.now = max s.now c ∧ u.freeCtr = s.freeCtr + 1
          ∧ u.sec.slots = s.sec.slots.set i (.valid { tk := Config.random128 s.freeCtr, ak := 0#128,
                                                      tenant := Fin.ofNat 16 (tenant s), origin := .created }))
  ∧ (∀ (s : State) (i : Fin 8) (second : Bool), s.lands.pair = true → s.now < s.lands.pairSince + 10 * sec1 →
      inMode .leader s = true → strappedLeader (role s) = true → s.sec.inForce.isSome = true →
      s.start.tReset + 5 * sec1 ≤ s.lands.pairSince → lowestBlank s = some i → Runs (.keyRenew (false, second)) s fun u =>
        u.now = s.lands.pairSince + 10 * sec1 ∧ u.sec.inForce = s.sec.inForce
          ∧ u.sec.slots = s.sec.slots.set i (.valid { tk := Config.random128 s.freeCtr, ak := keptAk s,
                                                      tenant := Fin.ofNat 16 (tenant s), origin := .created }))
  ∧ (∀ (s : State) (ak : BitVec 128) (ll : Nat), s.sec.ak = some ak → fumaroleNode s = some ll → inMode .leader s = true →
      tenant s ≠ 0 → Runs .akDistributionSend s fun u =>
        u.sec.akAt = nextInstant (max s.sec.akAt s.gptp.time - 1) (offset s + 250 * ms1) sec1 + sec1 ∧ u.sec.ak = some ak)
  ∧ (∀ (s : State) (t : Nat) (f : NetFrame) (b : List Byte), pairBody 5 f s = some b → inMode .member s = true →
      tenant s ≠ 0 → dstTenant f.dst = tenant s → Received s t f → Runs (.akDistributionReceive t f) s fun u =>
        u.sec.nextAk = some (BitVec.ofNat 128 (ofBe (slice 32 16 b))) ∧ u.sec.ak = s.sec.ak)

/-- Presses of PAIR and the own pairing window (R259, R260). -/
def Obligations.PairingWindowRuns : Prop :=
  (∀ (s : State) (t held r : Nat), mayPair s = true → s.start.tRun = some r → 50 * ms1 ≤ held → held ≤ 5 * sec1 →
      r + held ≤ max s.now t → s.start.tReset + 5 * sec1 + held ≤ max s.now t →
      (s.sec.pairing.open_ = true → Runs (.pairPress t held) s fun u =>
        u.sec.pairing.open_ = false ∧ u.sec.pairing.exchanges = [])
      ∧ (s.sec.pairing.open_ = false → s.sec.pairing.listenUntil = none → Runs (.pairPress t held) s fun u =>
        u.sec.pairing.listenUntil = some (max s.now t + 2 * sec1) ∧ u.sec.pairing.open_ = false
          ∧ u.sec.pairing.pressAt = max s.now t)
      ∧ (s.sec.pairing.open_ = false → s.sec.pairing.listenUntil.isSome = true → Runs (.pairPress t held) s fun u =>
        u.sec = s.sec))
  ∧ (∀ (s : State) (d : Nat), s.sec.pairing.listenUntil = some d → s.sec.pairing.taking = none →
      (s.sec.pairing.heard = [] → s.sec.inForce.isSome = true → Runs .pairListenExpiry s fun u =>
        u.sec.pairing.open_ = true ∧ u.sec.pairing.windowEnd = max s.now d + 60 * sec1
          ∧ u.sec.pairing.windowNo = s.sec.pairing.windowNo + 1 ∧ u.sec.pairing.listenUntil = none)
      ∧ (s.sec.pairing.heard = [] → s.sec.inForce = none → Runs .pairListenExpiry s fun u =>
        u.sec.pairing.open_ = s.sec.pairing.open_ ∧ u.sec.pairing.listenUntil = none ∧ u.sec.pairing.taking = none)
      ∧ (∀ w, strappedLeader (role s) = true → tenant s ≠ 0 → s.sec.inForce.isSome = true →
          s.sec.pairing.heard.any (fun x => x.tenant.val == tenant s) = false → lowerWindow s.sec.pairing.heard = some w →
          Runs .pairListenExpiry s fun u =>
            u.sec.pairing.taking = some w ∧ u.sec.pairing.takingAk = true ∧ u.sec.pairing.joins = 1))
  ∧ (∀ (s : State), s.sec.pairing.open_ = true → Runs .windowFrameSend s fun u =>
      u.sec.pairing.windowNext = s.sec.pairing.windowNext + 250 * ms1 ∧ u.now = max s.now s.sec.pairing.windowNext
        ∧ u.sec.pairing.windowBody = windowBody (s.upTo s.sec.pairing.windowNext))
  ∧ (∀ (s : State), s.sec.pairing.open_ = true → Runs .pairingWindowExpiry s fun u =>
      u.sec.pairing.open_ = false ∧ u.sec.pairing.exchanges = [] ∧ u.now = max s.now s.sec.pairing.windowEnd)
  ∧ (∀ (s : State) (t : Nat) (f : NetFrame) (b : List Byte), pairBody 1 f s = some b →
      s.sec.pairing.listenUntil.isSome = true → mayPair s = true → (windowOf b).tenant.val = dstTenant f.dst →
      (windowOf b).tenant.val = tenant s → s.sec.pairing.taking = none → s.sec.pairing.heard = [] → Received s t f →
      Runs (.windowFrameReceive t f) s fun u =>
        u.sec.pairing.heard = [windowOf b]
          ∧ (slice 87 65 b ≠ identityKey →
              u.sec.pairing.taking = some (windowOf b) ∧ u.sec.pairing.takingAk = false ∧ u.sec.pairing.joins = 1)
          ∧ (slice 87 65 b = identityKey → u.sec.pairing.taking = none))

/-- The exchange of a pairing at the giver and at the taker (R260, R262). -/
def Obligations.PairingExchangeRuns : Prop :=
  (∀ (s : State) (t : Nat) (f : NetFrame) (b : List Byte) (d : KeyData), pairBody 2 f s = some b →
      s.sec.pairing.open_ = true → mayPair s = true → dstNode f.dst = node s → dstTenant f.dst = tenant s →
      ofBe (slice 10 2 (b.take 208)) = s.sec.pairing.windowNo.toNat → (at8 (b.take 208) 1).toNat = tenant s →
      at8 (b.take 208) 13 = 1#8 → Received s t f → s.sec.pairing.exchanges = [] → keyInForce s = some d →
      Runs (.joinReceive t f) s fun u =>
        let own := slice 79 65 (b.take 208) = identityKey
        let signed := ecdsaVerify (slice 79 65 (b.take 208)) (slice 144 64 (b.take 208))
          (windowPart s.sec.pairing.windowBody ++ slice 4 140 (b.take 208))
        (¬own → signed = true → ∃ x, u.sec.pairing.exchanges = [x] ∧ x.join = b.take 208 ∧ x.node = at8 (b.take 208) 2
            ∧ x.sentAt = max s.now t)
          ∧ (own ∨ signed = false → u.sec.pairing.exchanges = []))
  ∧ (∀ (s : State) (t : Nat) (f : NetFrame) (fails : List FlashCause) (b : List Byte) (x : Exchange),
      pairBody 4 f s = some b →
      s.sec.pairing.exchanges.find? (fun x => x.eui == BitVec.ofNat 48 (ofBe (slice 4 6 b))) = some x → Received s t f →
      Runs (.doneReceive t f fails) s fun u =>
        let mac := hmac16 (pairingMacKey x.window x.join (ecdh s.sec.pairing.giveEph (slice 14 65 x.join)))
          (doneMessage x.window x.join x.key (at8 b 12) (at8 b 13))
        u.sec.pairing.exchanges = s.sec.pairing.exchanges.filter (fun y => y.join != x.join)
          ∧ (mac = slice 14 16 b → u.sec.pairing.used = true ∧ u.sec.pairing.windowEnd = max s.now t + 60 * sec1)
          ∧ (mac ≠ slice 14 16 b → u.sec.pairing.used = s.sec.pairing.used))
  ∧ (∀ (s : State) (eui : BitVec 48) (x : Exchange), s.sec.pairing.exchanges.find? (fun x => x.eui == eui) = some x →
      Runs (.doneTimeout eui) s fun u =>
        u.sec.pairing.exchanges = s.sec.pairing.exchanges.filter (fun y => y.join != x.join)
          ∧ u.now = max s.now (x.sentAt + 2 * sec1) ∧ u.sec.pairing.open_ = s.sec.pairing.open_)
  ∧ (∀ (s : State) (w : PairWin), s.sec.pairing.taking = some w → s.sec.pairing.joins < 5 → Runs .joinResend s fun u =>
      u.sec.pairing.joins = s.sec.pairing.joins + 1 ∧ u.sec.pairing.joinAt = max s.now (s.sec.pairing.joinAt + 500 * ms1)
        ∧ u.sec.pairing.taking = some w)
  ∧ (∀ (s : State) (t : Nat) (f : NetFrame) (second : Bool) (fails : List FlashCause) (b : List Byte) (w : PairWin)
      (i : Fin 8), pairBody 3 f s = some b → s.sec.pairing.taking = some w → s.sec.pairing.takingAk = false →
      dstTenant f.dst = w.tenant.val → dstNode f.dst = node s → f.src = w.eui →
      ofBe (slice 10 2 (b.take 126)) = w.number.toNat → mayPair s = true → Received s t f → lowestBlank s = some i →
      Runs (.keyFrameReceive t f (false, second) fails) s fun u =>
        let signed := ecdsaVerify (slice 87 65 w.body) (slice 62 64 (b.take 126))
          (windowPart w.body ++ slice 4 204 s.sec.pairing.join ++ slice 4 58 (b.take 126))
        let key := keyUnwrap
          (pairingKek w.body s.sec.pairing.join (ecdh s.sec.pairing.takeEph (slice 22 65 w.body)))
          (slice 14 24 (b.take 126))
        u.sec.pairing.taking = none ∧ u.sec.inForce = s.sec.inForce
          ∧ (∀ k, signed = true → key = some k → (keyInForce s).map (·.tk) ≠ some k →
              u.sec.slots = s.sec.slots.set i (.valid { tk := k, ak := keptAk s, tenant := Fin.ofNat 16 (tenant s),
                                                        origin := .tkTaken, from_ := w.eui }))
          ∧ (signed = false ∨ key = none → u.sec.slots = s.sec.slots))
  ∧ (∀ (s : State) (w : PairWin), s.sec.pairing.taking = some w → Runs .keyFrameTimeout s fun u =>
      u.sec.pairing.taking = none ∧ u.sec.slots = s.sec.slots ∧ u.now = max s.now (s.sec.pairing.pressAt + 2500 * ms1))
  ∧ (∀ (s : State) (t : Nat) (b : TieFrame) (h : TieHead), usesTie s = true → inMode .slumber s = true →
      s.start.left = some .leader → s.red.contact = true → s.sleep.wakeAt = none → sysStopped s = false →
      tieParse s b = some h → h.kind = 4 →
      h.payload.take 1 = [7#8] → Runs (.wakeRequest t (.tie b)) s fun u =>
        u.sleep.wakeAt = some (max s.now t) ∧ u.sleep.stayAwake = true ∧ u.red.tie.frames ≠ [])

/-- The Granary (R440 to R443, R448 to R456): images are verified, written, offered and fetched. -/
def Obligations.GranaryRuns : Prop :=
  (∀ (s : State) (t : Nat) (spoil : Bool × Bool), awake s = true → s.start.mode = none → s.start.base.isSome = true →
      s.start.imageDone = false →
      (s.mem.flashAbsent = true → Runs (.imageVerify t spoil) s fun u =>
        u.start.imageDone = true ∧ u.gran.active = s.gran.active ∧ anyActive 0xF201#16 u = true)
      ∧ (∀ b l, s.mem.flashAbsent = false → s.mem.flashUp = true → s.gran.active = none → slotOrder s = b :: l →
          Runs (.imageVerify t spoil) s fun u =>
            u.start.imageDone = true ∧ slotInfo u b = checkImage (s.upTo t) false (slotBase s b)
              ∧ ((checkImage (s.upTo t) false (slotBase s b)).status = 0 → u.gran.active = some b)
              ∧ ((slotInfo u b).status ≠ 0 → (slotInfo u !b).status ≠ 0 → u.gran.active = none)))
  ∧ (∀ (s : State) (t r : Nat) (w : SlotWrite), s.start.tRun = some r → inMode .slumber s = false →
      s.start.mode.isSome = true → r + 60 * sec1 ≤ max s.now t → s.gran.write = none → s.mem.op = none → flashReady s = true →
      dueWrite (s.upTo t) = some w → Runs (.slotWriteStart t) s fun u =>
        u.mem.op = some { erase := true, addr := lastSector (slotBase s w.slotB) w.total } ∧ (slotInfo u w.slotB).status = 2
          ∧ u.gran.write.map (·.source) = some w.source ∧ u.gran.active ≠ some w.slotB)
  ∧ (∀ (s : State) (t : Nat) (o : FlashOp), s.mem.op = some o →
      Runs (.flashOperationComplete t none) s (fun u =>
        u.mem.flash = (if o.erase then wipe s.mem.flash o.addr 4096 else programs s.mem.flash o.addr o.data)
          ∧ anyActive 0xF920#16 u = false)
      ∧ (∀ c, (o.erase && !o.tried) = true → Runs (.flashOperationComplete t (some c)) s fun u =>
        u.mem.op = some { o with tried := true })
      ∧ (∀ c, (o.erase && !o.tried) = false → Runs (.flashOperationComplete t (some c)) s fun u =>
        u.mem.op = none ∧ u.gran.write = none))
  ∧ (∀ (s : State) (t : Nat) (fails : List FlashCause) (spoil : Bool × Bool) (w : SlotWrite), s.gran.write = some w →
      windowDone s w = true → windowCount w.total ≤ w.window + 1 →
      Runs (.slotWriteComplete t none fails spoil) s fun u =>
        u.gran.write = none
          ∧ ((checkImage (s.upTo t) true (slotBase s w.slotB)).status = 0 →
              slotInfo u w.slotB = checkImage (s.upTo t) true (slotBase s w.slotB))
          ∧ ((checkImage (s.upTo t) true (slotBase s w.slotB)).status ≠ 0 →
              (slotInfo u w.slotB).status = 2 ∧ u.mem.flash = s.mem.flash))
  ∧ (∀ (s : State) (i : SlotInfo), offeredImage s = some i → inMode .leader s = true → (keyInForce s).isSome = true →
      Runs .imageAdvertSend s fun u =>
        u.gran.advertAt = nextInstant u.gptp.time (offset s + 750 * ms1) sec1)
  ∧ (∀ (s : State) (t : Nat) (f : NetFrame) (b : List Byte),
      imageBody s ((followed s).map (·.toNat)) 1 f = some b → actsLeader s = false → inMode .slumber s = false →
      (keyInForce s).isSome = true → flashReady s = true → Received s t f → s.gran.active = none →
      s.gran.slotA.status ≠ 0 → s.gran.slotB.status ≠ 0 → headReadable (slotHead s false) = false →
      headReadable (slotHead s true) = false → s.gran.refused = [] → s.gran.write = none → (imageIds b).2.2 ≤ slotLen s →
      Runs (.imageAdvertReceive t f) s fun u =>
        u.gran.wantFetch = some (imageIds b) ∧ u.gran.wantNew = false ∧ u.gran.refused = [])
  ∧ (∀ (s : State) (t : Nat) (f : NetFrame) (b : List Byte) (i : SlotInfo), imageBody s (fumaroleNode s) 2 f = some b →
      offeredImage s = some i → inMode .leader s = true → (imageIds b).1 = i.identity → (imageIds b).2.1 = i.edition →
      ofBe (slice 16 4 b) % 1024 = 0 → ofBe (slice 16 4 b) < i.total → within 1 (ofBe (slice 20 2 b)) 64 = true →
      Received s t f → s.gran.requests = [] → Runs (.imageRequestReceive t f) s fun u =>
        u.gran.requests = [{ offset := ofBe (slice 16 4 b), count := ofBe (slice 20 2 b), identity := i.identity,
                             edition := i.edition }])
  ∧ (∀ (s : State) (t : Nat) (r : FetchReq) (rest : List FetchReq) (act : Bool), s.gran.requests = r :: rest →
      s.gran.active = some act → inMode .leader s = true →
      (s.gran.chunkTimes.filter (fun x => decide (max s.now t < x + sec1))).length < 2000 →
      Runs (.imageChunkSend t) s fun u =>
        u.gran.chunkTimes.head? = some (max s.now t)
          ∧ (r.count ≤ r.sent + 1 → u.gran.requests = rest)
          ∧ (r.sent + 1 < r.count → r.offset + 1024 * r.sent + 1024 < (slotInfo s act).total →
              u.gran.requests = { r with sent := r.sent + 1 } :: rest))
  ∧ (∀ (s : State) (t : Nat) (f : NetFrame) (b : List Byte) (w : SlotWrite), s.gran.write = some w → w.source = .leader →
      w.queue ≠ [] → imageBody s ((followed s).map (·.toNat)) 3 f = some b → Received s t f →
      (imageIds b).1 = w.identity → (imageIds b).2.1 = w.edition → ofBe (slice 16 4 b) ∈ windowChunks w →
      ofBe (slice 20 2 b) = min 1024 (w.total - ofBe (slice 16 4 b)) → ofBe (slice 16 4 b) ∉ w.got →
      Runs (.imageChunkReceive t f) s fun u => ∃ x, u.gran.write = some x ∧ x.got = ofBe (slice 16 4 b) :: w.got
        ∧ x.progress = max s.now t ∧ x.window = w.window)
  ∧ (∀ (s : State) (w : SlotWrite), s.gran.write = some w → w.source = .leader → missingRuns w ≠ [] →
      Runs .imageRequestRetry s fun u =>
        u.now = max s.now (max w.progress w.asked + 500 * ms1) ∧ u.gran.write = some { w with asked := u.now })
  ∧ (∀ (s : State) (w : SlotWrite), s.gran.write = some w → w.source = .leader → Runs .imageFetchAbandon s fun u =>
      u.gran.write = none ∧ (w.identity, w.edition) ∈ u.gran.refused ∧ u.now = max s.now (w.progress + 60 * sec1)
        ∧ u.mem.flash = s.mem.flash)

/-- Biphase inputs and TDM followers (R270, R272, R276, R293 to R298). -/
def Obligations.LandsRun : Prop :=
  (∀ (s : State) (t : Nat) (n : Fin 4) (f : BiphaseFrame), audioOn s = true → sysStopped s = false →
      Runs (.biphaseFrameReceive t n f) s fun u =>
      let m := followFrame n (mediaNow (s.upTo t))
      let run := if firstOk f.first && secondOk f.second && rateBand f.rate != 0 then min 64 (m.bpi[n].run + 1) else 0
      u.bpi[n].present = true ∧ u.bpi[n].rate = rateBand f.rate ∧ u.bpi[n].run = run ∧ u.bpi[n].held.isSome = true
        ∧ u.bpi[n].qualified = (m.bpi[n].qualified || (run == 64 && inputPairLocked m n))
        ∧ u.bpi[n].muteClock = !u.bpi[n].qualified)
  ∧ (∀ (s : State) (t : Nat) (n : Fin 4) (rateOut : Bool), audioOn s = true → Runs (.biphaseInputLoss t n rateOut) s fun u =>
      u.bpi[n].qualified = false ∧ u.bpi[n].run = 0 ∧ u.bpi[n].held = none ∧ u.bpi[n].muteClock = true
        ∧ u.bpi[n].present = rateOut
        ∧ ((mediaNow (s.upTo t)).bpi[n].qualified = true → isActive 0xF700#16 n.val u = true ∧ u.bpi[n].lost = true))
  ∧ (∀ (s : State) (t : Nat) (p : Fin 2) (data : List (BitVec 32)), tdmJudged s p = true → sysStopped s = false →
      let m := mediaNow (s.upTo t)
      m.tdm[p].waitFs = false →
      (m.tdm[p].qualified = false → m.tdm[p].needRate = false →
        Runs (.tdmFrameJudged t p (32 * m.tdm[p].slots) true data) s fun u =>
          u.tdm[p].qualified = true ∧ u.tdm[p].anyGood = true ∧ u.tdm[p].bad = 0 ∧ u.tdm[p].lost = false
            ∧ u.tdm[p].timer = some (max s.now t + halfFrames s 3))
      ∧ (∀ c, c < 32 * m.tdm[p].slots → m.tdm[p].qualified = false → Runs (.tdmFrameJudged t p c true data) s fun u =>
          u.tdm[p].qualified = false ∧ u.tdm[p].bad = min 3 (m.tdm[p].bad + 1))
      ∧ (∀ c, c < 32 * m.tdm[p].slots → m.tdm[p].qualified = true → 2 ≤ m.tdm[p].bad →
          Runs (.tdmFrameJudged t p c true data) s fun u =>
            u.tdm[p].qualified = false ∧ u.tdm[p].lost = true ∧ isActive 0xF711#16 p.val u = true)
      ∧ Runs (.tdmFrameJudged t p (32 * m.tdm[p].slots + 1) false data) s (fun u =>
          u.tdm[p].waitFs = true ∧ u.tdm[p].timer = some (max s.now t + halfFrames s 2)))
  ∧ (∀ (s : State) (p : Fin 2) (d : Nat), s.tdm[p].timer = some d → tdmJudged s p = true → Runs (.tdmFrameTimerExpiry p) s fun u =>
      u.tdm[p].timer = some (max s.now d + halfFrames s 2) ∧ u.now = max s.now d)
  ∧ (∀ (s : State) (t : Nat) (p : Fin 2), tdmJudged s p = true → Runs (.tdmRateWindow t p) s fun u =>
      let m := mediaNow (s.upTo t)
      let fits := decide (((m.tdm[p].fsCount : Int) - thisLen m).natAbs * 1000 ≤ thisLen m)
      u.tdm[p].fsCount = 0 ∧ u.tdm[p].rateOk = fits ∧ u.tdm[p].qualified = (m.tdm[p].qualified && fits))
  ∧ (∀ (s : State) (p : Fin 2) (d : Nat), s.tdm[p].deadline = some d → s.tdm[p].used = true → s.tdm[p].leader = false →
      s.tdm[p].anyGood = false → inMode .safe s = false → Runs (.tdmQualifyDeadline p) s fun u =>
        isActive 0xF711#16 p.val u = true ∧ u.tdm[p].lost = true ∧ u.tdm[p].deadline = none ∧ u.now = max s.now d)

/-- The microphone gate, START and MUTE_N (R302, R304, R305, R331 to R333, R337). -/
def Obligations.GateAndStartRun : Prop :=
  (∀ (s : State) (t n : Nat), 50 < n → Runs (.micEnFall t (some n)) s fun u =>
      u.mic.open_ = false ∧ u.mic.clk0 = false ∧ u.mic.clk1 = false ∧ u.mic.en = true
        ∧ u.mic.highSince = some (max s.now t + n) ∧ u.freeCtr = s.freeCtr)
  ∧ (∀ (s : State) (t n : Nat), n ≤ 50 → Runs (.micEnFall t (some n)) s fun u =>
      u.mic.open_ = (s.mic.open_ && Config.freeValue s.freeCtr % 2 != 1) ∧ u.freeCtr = s.freeCtr + 1)
  ∧ (∀ (s : State) (t : Nat), Runs (.micEnFall t none) s fun u =>
      u.mic.open_ = false ∧ u.mic.en = false ∧ u.mic.highSince = none)
  ∧ (∀ (s : State) (since : Nat), Runs (.micEnOpen since) s fun u =>
      let high := max since (s.mic.highSince.getD 0)
      let from_ := if s.start.cause == .powerOn then max high s.start.tReset else high
      u.mic.open_ = true ∧ u.mic.en = true ∧ u.now = max s.now (from_ + 10 * ms1)
        ∧ u.mic.clk0 = pdmAllowed u 0 ∧ u.mic.clk1 = pdmAllowed u 1)
  ∧ (∀ (s : State) (d : Nat), s.mic.settle0 = some d → Runs (.pdmSettleExpiry 0) s fun u =>
      u.mic.settle0 = none ∧ u.mic.pass0 = (sampleAfter (s.upTo d) 0, 1000) ∧ u.mic.pass1 = s.mic.pass1)
  ∧ (∀ (s : State) (d : Nat), s.mic.settle1 = some d → Runs (.pdmSettleExpiry 1) s fun u =>
      u.mic.settle1 = none ∧ u.mic.pass1 = (sampleAfter (s.upTo d) 0, 1000) ∧ u.mic.pass0 = s.mic.pass0)
  ∧ (∀ (s : State) (t : Nat), awaitsStart s = true → Runs (.startDetect t) s fun u =>
      u.blocks.te = some (s.upTo t).gptp.time ∧ u.blocks.lastAt = s.blocks.lastAt)
  ∧ (∀ (s : State) (r : Nat), s.blocks.releasedAt = some r → awaitsStart s = true → Runs .startTimeout s fun u =>
      u.blocks.te = some u.gptp.time ∧ u.now = max s.now (r + 2 * sec1))
  ∧ (∀ (s : State) (t : Nat) (low : Bool),
      (s.blocks.started = false → Runs (.muteNChange t low) s fun u => u.blocks.muteLow = low ∧ u.blocks.muteEdges = [])
      ∧ (s.blocks.started = true → inMode .slumber s = false → inMode .safe s = false → Runs (.muteNChange t low) s fun u =>
        u.blocks.muteLow = s.blocks.muteLow ∧ ∃ k, u.blocks.muteEdges = (k, low) :: s.blocks.muteEdges))

/-- Rate-conversion pairs (R322, R326). -/
def Obligations.AsrcRuns : Prop :=
  (∀ (s : State) (t i : Nat) (p : AsrcPair), (mediaNow (s.upTo t)).blocks.pairs[i]? = some p →
      (p.tracking = false → pairInput (mediaNow (s.upTo t)) p = true → Runs (.asrcTrackingStart t i) s fun u =>
        u.blocks.pairs[i]? = some { p with tracking := true, since := max s.now t, counting := true })
      ∧ (mayLock (mediaNow (s.upTo t)) p = true → Runs (.asrcLock t i) s fun u =>
        u.blocks.pairs[i]? = some { p with locked := true, counting := false } ∧ isActive 0xF740#16 i u = false)
      ∧ (p.locked = true → p.errorOut = true ∨ p.ratioOut = true → Runs (.asrcUnlock t i) s fun u =>
        u.blocks.pairs[i]? = some { p with
          locked := false, fixed := none, fixedNext := none, within := none, near := none, since := max s.now t
          counting := true }))
  ∧ (∀ (s : State) (i : Nat) (p : AsrcPair), s.blocks.pairs[i]? = some p → p.counting = true → p.locked = false →
      Runs (.asrcLockTimeout i p.ratioOut) s fun u =>
        (∃ q, u.blocks.pairs[i]? = some q ∧ q.counting = false ∧ q.locked = false) ∧ isActive 0xF740#16 i u = true
          ∧ u.now = max s.now (p.since + 200 * ms1))
  ∧ (∀ (s : State) (t i : Nat) (p : AsrcPair) (k : Int) (u : Nat), s.blocks.pairs[i]? = some p → p.locked = true →
      p.fixed = none → p.near = some (k, u) → u + sec1 ≤ max s.now t → Runs (.asrcFixedRatioEntry t i k) s fun v =>
        v.blocks.pairs[i]? = some { p with fixedNext := some k })

/-- USB (R307, R311 to R319): attachment, reset, suspend and resume, packets, SOFs, feedback. -/
def Obligations.UsbBusRuns : Prop :=
  (∀ (s : State) (t : Nat) (high : Bool), Runs (.usbVbusChange t high) s fun u =>
      u.usb.vbus = high ∧ u.usb.attached = usbMayAttach u ∧ (high = false → u.usb.attached = false))
  ∧ (∀ (s : State) (t : Nat) (full dataDone : Bool), (mediaNow (s.upTo t)).usb.attached = true →
      Runs (.usbBusReset t full dataDone) s fun u =>
        u.usb.full = full ∧ u.usb.config = 0 ∧ u.usb.alt1 = 0 ∧ u.usb.alt2 = 0 ∧ u.usb.xfer = none ∧ u.usb.address = 0
          ∧ u.usb.attached = true)
  ∧ (∀ (s : State) (t : Nat) (x : CtrlXfer), (mediaNow (s.upTo t)).usb.xfer = some x → Runs (.controlStatusComplete t) s fun u =>
      u.usb.xfer = none ∧ (∀ c, x.effect = .config c → u.usb.config = c ∧ u.usb.alt1 = 0 ∧ u.usb.alt2 = 0 ∧ u.usb.buf = [])
        ∧ (∀ a, x.effect = .address a → u.usb.address = a) ∧ (∀ a, x.effect = .alt 1 a → u.usb.alt1 = a ∧ u.usb.buf = [])
        ∧ (∀ a, x.effect = .alt 2 a → u.usb.alt2 = a))
  ∧ (∀ (s : State) (t : Nat), (mediaNow (s.upTo t)).usb.attached = true → Runs (.usbSuspend t) s fun u =>
      u.usb.suspended = true ∧ u.usb.attached = true)
  ∧ (∀ (s : State) (t : Nat), (mediaNow (s.upTo t)).usb.suspended = true → Runs (.usbResume t) s fun u =>
      u.usb.suspended = false ∧ u.usb.buf = [] ∧ u.usb.filling = true)
  ∧ (∀ (s : State) (t : Nat) (b : List (BitVec 8)),
      let m := mediaNow (s.upTo t)
      let u := usbChannels (portsLvl m)
      usbOutOn m = true → m.usb.full = false → sysStopped s = false →
      (maxPacket u m.usb.alt1 < b.length ∨ b.length % (u * subslot m.usb.alt1) ≠ 0 → Runs (.usbOutPacket t b) s fun v =>
        v.usb.buf = m.usb.buf)
      ∧ (b.length ≤ maxPacket u m.usb.alt1 → b.length % (u * subslot m.usb.alt1) = 0 → Runs (.usbOutPacket t b) s fun v =>
        v.usb.buf = (m.usb.buf ++ packetFrames u m.usb.alt1 b).drop
            ((m.usb.buf ++ packetFrames u m.usb.alt1 b).length - usbRoom m.well.rate)
          ∧ v.usb.buf.length ≤ usbRoom m.well.rate))
  ∧ (∀ (s : State) (t : Nat), (mediaNow (s.upTo t)).usb.attached = true → Runs (.usbSof t) s fun u =>
      u.usb.sofs = (mediaNow (s.upTo t)).usb.sofs + 1 ∧ u.usb.media = 0 ∧ u.usb.inPacket.length ≤ 13
        ∧ u.usb.counts.length ≤ 1024)
  ∧ (∀ (s : State) (t : Nat),
      let m := mediaNow (s.upTo t)
      m.usb.attached = true → m.usb.alt1 ≠ 0 → 8 ≤ m.usb.sofs → 1024 ≤ m.usb.sinceAlt → Runs (.feedbackUpdate t) s fun u =>
        u.usb.sofs = 0 ∧ 64 * m.usb.counts.foldl (· + ·) 0 ≤ u.usb.feedback + 256
          ∧ u.usb.feedback ≤ 64 * m.usb.counts.foldl (· + ·) 0 + 256
          ∧ (m.usb.buf.length = usbTarget m.well.rate → u.usb.feedback = 64 * m.usb.counts.foldl (· + ·) 0))

/-- USB control requests (R309, R315, R316). -/
def Obligations.UsbRequestsRun : Prop :=
  (∀ (s : State) (t : Nat) (p : UsbSetup), s.usb.attached = true →
      (p.bmType = 0x80#8 → p.bRequest = 6#8 → p.value = 0x0100#16 → Runs (.standardDeviceRequest t p) s fun u =>
        u.usb.reply = some (deviceDescriptor.take p.length.toNat) ∧ u.usb.config = s.usb.config)
      ∧ (p.bmType = 0x80#8 → p.bRequest = 8#8 → Runs (.standardDeviceRequest t p) s fun u =>
        u.usb.reply = some ((le 1 s.usb.config).take p.length.toNat))
      ∧ (p.bmType = 0x00#8 → p.bRequest = 5#8 → p.value.toNat ≤ 127 → Runs (.standardDeviceRequest t p) s fun u =>
        u.usb.reply = some [] ∧ u.usb.xfer.map (·.effect) = some (.address p.value.toNat) ∧ u.usb.address = s.usb.address))
  ∧ (∀ (s : State) (t : Nat), s.usb.attached = true → Runs (.setFeatureRemoteWakeup t) s fun u =>
      u.usb.reply = none ∧ u.usb.xfer = none)
  ∧ (∀ (s : State) (t : Nat) (p : UsbSetup), s.usb.attached = true → Runs (.unsupportedUsbRequest t p) s fun u =>
      u.usb.reply = none ∧ u.usb.xfer = none ∧ u.usb.config = s.usb.config)
  ∧ (∀ (s : State) (t : Nat) (i : BitVec 16), s.usb.attached = true →
      (i.toNat % 256 = 0 → 1 ≤ i.toNat / 256 → i.toNat / 256 ≤ 5 → Runs (.setFeatureTestMode t i) s fun u =>
        u.usb.reply = some [] ∧ u.usb.xfer.map (·.effect) = some (.test (i.toNat / 256)))
      ∧ (i.toNat % 256 ≠ 0 → Runs (.setFeatureTestMode t i) s fun u => u.usb.reply = none ∧ u.usb.xfer = none))
  ∧ (∀ (s : State) (t : Nat) (v : BitVec 16), s.usb.attached = true →
      (v.toNat ≤ 1 → Runs (.setConfiguration t v) s fun u =>
        u.usb.reply = some [] ∧ u.usb.xfer.map (·.effect) = some (.config v.toNat) ∧ u.usb.config = s.usb.config)
      ∧ (1 < v.toNat → Runs (.setConfiguration t v) s fun u => u.usb.reply = none ∧ u.usb.config = s.usb.config))
  ∧ (∀ (s : State) (t : Nat) (itf alt : BitVec 16), s.usb.attached = true → itf.toNat = 1 ∨ itf.toNat = 2 →
      (alt.toNat ≤ (if s.usb.full then 0 else 2) → Runs (.setInterface t itf alt) s fun u =>
        u.usb.reply = some [] ∧ u.usb.xfer.map (·.effect) = some (.alt itf.toNat alt.toNat))
      ∧ ((if s.usb.full then 0 else 2) < alt.toNat → Runs (.setInterface t itf alt) s fun u => u.usb.reply = none))
  ∧ (∀ (s : State) (t : Nat), s.usb.attached = true →
      Runs (.getCurFrequency t) s (fun u => u.usb.reply = some (le 4 s.well.rate))
      ∧ Runs (.getRangeFrequency t) s (fun u =>
        u.usb.reply = some (le 2 1 ++ le 4 s.well.rate ++ le 4 s.well.rate ++ le 4 0))
      ∧ Runs (.getCurValidity t) s (fun u => u.usb.reply = some [1#8]))
  ∧ (∀ (s : State) (t : Nat) (hz : BitVec 32), s.usb.attached = true →
      (hz.toNat = s.well.rate → Runs (.setCurFrequency t hz) s fun u => u.usb.reply = some [])
      ∧ (hz.toNat ≠ s.well.rate → Runs (.setCurFrequency t hz) s fun u => u.usb.reply = none ∧ u.usb.xfer = none))

/-- Thresher (R363, R364, R378, R383, R385, R393, R398, R414). -/
def Obligations.ThresherRuns : Prop :=
  (∀ (s : State) (t : Nat), awake s = true → s.start.mode = none → s.start.loftDone = true → s.start.checkDone = false →
      (s.thr.retired.length ≤ 2 → Runs (.thresherSelfCheck t []) s fun u =>
        u.start.checkDone = true ∧ u.thr.retired = s.thr.retired)
      ∧ (∀ c, c ∉ s.thr.retired → s.thr.retired.length ≤ 1 → Runs (.thresherSelfCheck t [c]) s fun u =>
        u.start.checkDone = true ∧ u.thr.retired = insertColumn c s.thr.retired)
      ∧ (2 < s.thr.retired.length → Runs (.thresherSelfCheck t []) s fun u =>
        u.start.phase = .held ∧ u.start.cause = .startStepFailure ∧ u.aon.last3[0] = 0xF005#16
          ∧ u.thr.retired = s.thr.retired))
  ∧ (∀ (s : State) (t : Nat) (ctx : Fin 16) (rerun : Bool) (j : Job) (h0 : List (BitVec 8)),
      s.thr.jobs.find? (fun j => j.ctx == ctx.val && j.rerun == rerun && !j.done) = some j → j.h0 = some h0 →
      ((s.upTo t).upToDevice (jobStart s j)).gptp.time ≤ windowEnd s → jobBlocked s ctx = false →
      Runs (.jobComplete t ctx rerun) s fun u =>
        u.thr.jobs.length = s.thr.jobs.length
          ∧ u.thr.jobs.all (fun x => !(x.ctx == ctx.val && x.rerun == rerun) || x.done) = true)
  ∧ (∀ (s : State), s.thr.jobs ≠ [] → Runs .jobDeadlineExpiry s fun u =>
      u.thr.jobs = [] ∧ u.now = (s.upToDevice (windowEnd s)).now)
  ∧ (∀ (s : State) (t : Nat) (ctx : Fin 16), s.thr.ctxs[ctx].commitDue = true → siloWritten 1 ctx.val s = true →
      (s.thr.ctxs[ctx].waiting = none → Runs (.stateCommit t ctx) s fun u =>
        u.thr.ctxs[ctx].commitDue = false ∧ u.thr.ctxs[ctx].final = none)
      ∧ (∀ b, s.thr.ctxs[ctx].waiting = some b → Runs (.stateCommit t ctx) s fun u =>
        u.thr.ctxs[ctx].waiting = none ∧ u.thr.ctxs[ctx].final = some b ∧ u.thr.ctxs[ctx].commitDue = true))
  ∧ (∀ (s : State) (t : Nat) (ctx : Fin 16), s.blocks.running = true → s.thr.ctxs[ctx].commitDue = false →
      partBusy s = false → s.thr.ctxs[ctx].h0 = none →
      (ctx.val == 15 || s.thr.ctxs[ctx].desc.any (fun d => (sheafAt d (s.blocks.number + 1) s.thr.first).isSome)) = true →
      Runs (.statePrefetch t ctx) s fun u => u.thr.ctxs[ctx].h0 = some (committedState s ctx.val) ∧ u.mem = s.mem)
  ∧ (∀ (s : State), s.blocks.running = true → Runs .visibilityInstant s fun u =>
      u.blocks.number = s.blocks.number ∧ ∀ (k : Fin 16) (d : CtxDesc) (o : StepOut), s.thr.ctxs[k].desc = some d →
        d.ahead = true → s.thr.ctxs[k].outs.find? (fun o => o.block == s.blocks.number + 1 && !o.shown) = some o →
        ∃ x ∈ u.thr.ctxs[k].outs, x.step = o.step ∧ x.shown = true
          ∧ x.cls = if o.cls == .speculative then .concealment else o.cls)
  ∧ (∀ (s : State) (d : Nat), s.thr.lane.driving = some d → s.thr.lane.confirmed = false → Runs .laneDriveTimeout s fun u =>
      u.thr.lane.driving = none ∧ u.thr.lane.withdrawn = true ∧ u.thr.lane.target = s.thr.lane.committed
        ∧ u.motor.target = s.thr.lane.committed)
  ∧ (∀ (s : State) (c : Nat) (failing : List (Fin 66)), s.thr.checkAt = some c → inMode .safe s = false →
      inMode .slumber s = false → s.start.mode.isSome = true → Runs (.selfCheckPass failing) s fun u =>
        u.thr.checkAt = some (c + 600 * sec1) ∧ (∀ x ∈ failing, x ∈ u.thr.retired) ∧ u.now = max s.now c
          ∧ (failing = [] → u.thr.retired = s.thr.retired ∧ u.blocks.due = s.blocks.due))

/-- The end of a start, block boundaries and the resumption from SLUMBER (R25, R27, R72, R89, R327, R328). -/
def Obligations.BoundariesRun : Prop :=
  (∀ (s : State) (t : Nat), awake s = true → s.start.mode = none → s.start.base.isSome = true → s.start.setupDone = false →
      s.start.checkDone = true → s.start.psramDone = true →
      Runs (.dataPathSetup t true) s (fun u =>
        u.start.setupDone = true ∧ u.switch.tables = true ∧ u.sec.inForce = chooseKey s ∧ u.sec.slots = s.sec.slots)
      ∧ Runs (.dataPathSetup t false) s (fun u => u.start.phase = .held ∧ u.start.cause = .watchdog))
  ∧ (∀ (s : State) (t : Nat), mayRun s = true → Runs (.runningEntry t) s fun u =>
      u.start.mode = some (entryMode s) ∧ u.start.tRun = some (max s.now t) ∧ u.start.counterPending = true
        ∧ u.well.rate = mediaRate s (entryMode s) ∧ u.blocks.startLow = false)
  ∧ (∀ (s : State) (x : BoundaryIn), powered s = true → s.blocks.exists_ = true → s.start.mode = none →
      Runs (.blockBoundary x) s fun u =>
        u.blocks.number = s.blocks.number + 1 ∧ u.blocks.stamp = (s.upTo x.t).gptp.time ∧ u.lands.cue = x.cue
          ∧ u.now = max s.now x.t)
  ∧ (∀ (s : State) (x : BoundaryIn), powered s = true → s.blocks.exists_ = true → inMode .safe s = true →
      Runs (.blockBoundary x) s fun u =>
        u.blocks.number = s.blocks.number + 1 ∧ u.blocks.due = [] ∧ u.start.mode = some .safe ∧ u.lands.wake = x.wake)
  ∧ (∀ (s : State) (x : BoundaryIn), powered s = true → s.blocks.exists_ = true → inMode .solo s = true →
      s.blocks.running = true → s.blocks.due = [] → Runs (.blockBoundary x) s fun u =>
        u.blocks.number = s.blocks.number + 1 ∧ u.blocks.stamp = (s.upTo x.t).gptp.time ∧ u.start.mode = some .solo)
  ∧ (∀ (s : State) (x : BoundaryIn) (w : Nat) (m : Mode), inMode .slumber s = true → s.sleep.wakeAt = some w →
      s.start.left = some m → w + 30 * ms1 < max s.now x.t → s.sleep.loftBack = true ∨ s.gran.modelSet = none →
      s.blocks.due = [] → Runs (.slumberResume x) s fun u =>
        u.start.mode = some m ∧ u.start.left = none ∧ u.sleep.wakeAt = none ∧ u.lands.cue = x.cue)

/-- Error correction, row repair, powered hours and aging (R429, R505 to R510, R516, R517). -/
def Obligations.EnduranceRuns : Prop :=
  (∀ (s : State) (t : Nat) (loft : Bool) (bank : Fin 16) (row : Fin 256), powered s = true →
      bankExists loft bank.val = true → trackOf (s.upTo t) loft bank.val row.val = none →
      Runs (.sramCorrectedError t loft bank row) s fun u =>
        u.status.sec.sram = sat16 (s.status.sec.sram + 1) ∧ u.endur.repairs = s.endur.repairs
          ∧ ({ loft := loft, bank := bank.val, row := row.val, first := max s.now t, count := 1 } : RowTrack) ∈ u.endur.tracks)
  ∧ (∀ (s : State) (t : Nat) (bank : Fin 16) (row : Fin 256) (x : RowTrack), powered s = true →
      bankExists false bank.val = true → trackOf (s.upTo t) false bank.val row.val = some x → x.count = 1 →
      sparesIn s.endur false bank.val < 32 → s.endur.repairs = [] → Runs (.sramCorrectedError t false bank row) s fun u =>
        u.endur.repairs = [{ loft := false, bank := bank.val, row := row.val, spare := sparesIn s.endur false bank.val }])
  ∧ (∀ (s : State) (t : Nat) (loft : Bool) (bank : Fin 16) (row : Fin 256) (word : Fin 128) (what : SramContent),
      powered s = true → bankExists loft bank.val = true → loft = true ∨ what ≠ .control →
      Runs (.sramUncorrectableError t loft bank row word what) s fun u =>
        (loft, bank.val, row.val, word.val) ∈ u.endur.bad ∧ u.start = s.start)
  ∧ (∀ (s : State) (t : Nat) (bank : Fin 16) (row : Fin 256) (word : Fin 128), powered s = true →
      bankExists false bank.val = true → Runs (.sramUncorrectableError t false bank row word .control) s fun u =>
        u.start.phase = .held ∧ u.start.cause = .watchdog)
  ∧ (∀ (s : State), powered s = true → Runs .scrubPass s fun u =>
      u.endur.scrubAt = s.endur.scrubAt + 3600 * sec1 ∧ u.now = max s.now s.endur.scrubAt)
  ∧ (∀ (s : State) (t spare : Nat) (bank : Fin 16) (row : Fin 256),
      s.endur.repairs = [{ loft := false, bank := bank.val, row := row.val, spare := spare }] →
      Runs (.rowCopyComplete t bank row) s fun u =>
        u.endur.repairs = [{ loft := false, bank := bank.val, row := row.val, spare := spare, readyAt := some (max s.now t) }]
          ∧ (∃ d ∈ u.blocks.due, d.what = .rowSwitch false bank.val row.val))
  ∧ (∀ (s : State) (t spare : Nat) (bank : Fin 16) (row : Fin 256),
      s.endur.repairs = [{ loft := true, bank := bank.val, row := row.val, spare := spare }] →
      Runs (.loftRowFillComplete t bank row) s fun u =>
        u.endur.repairs = [{ loft := true, bank := bank.val, row := row.val, spare := spare, readyAt := some (max s.now t) }]
          ∧ (∃ d ∈ u.blocks.due, d.what = .rowSwitch true bank.val row.val))
  ∧ (∀ (s : State) (fails : List FlashCause), Runs (.poweredHour fails) s fun u =>
      u.gran.hours = s.gran.hours + 1 ∧ u.gran.hourAt = s.gran.hourAt + 3600 * sec1 ∧ u.now = max s.now s.gran.hourAt
        ∧ ((s.gran.hours + 1) % 24 ≠ 0 → u.mem = s.mem ∧ u.endur = s.endur)
        ∧ ((s.gran.hours + 1) % 24 = 0 → u.endur.accCount = 0))
  ∧ (∀ (s : State), s.well.holdover = true → s.endur.valid = true → s.endur.hvRule1 = true →
      Runs .holdoverAgingCorrection s fun u =>
        u.endur.correctAt = s.endur.correctAt + sec1 ∧ u.now = max s.now s.endur.correctAt
          ∧ u.well.dcoGoal = dcoClamp (s.endur.hvRaw + agingShift s.endur (dayNow s) (tempNow s)))

/-- The test access port (R584 to R588). -/
def Obligations.JtagRuns : Prop :=
  (∀ (s : State) (t : Nat), s.jtag.hold = false →
      Runs (.extest t) s (fun u => u.jtag.ir = .extest ∧ u.jtag.hold = true ∧ u.jtag.drive = true ∧ u.start.phase = .held)
      ∧ Runs (.highz t) s (fun u => u.jtag.ir = .highz ∧ u.jtag.hold = true ∧ u.jtag.highZ = true ∧ u.start.phase = .held)
      ∧ Runs (.clamp t) s (fun u => u.jtag.ir = .clamp ∧ u.jtag.hold = true ∧ u.jtag.drive = true ∧ u.start.phase = .held))
  ∧ (∀ (s : State) (t : Nat), s.jtag.hold = false →
      Runs (.idcode t) s (fun u => u.jtag.ir = .idcode ∧ u.start = s.start)
      ∧ Runs (.samplePreload t) s (fun u => u.jtag.ir = .sample ∧ u.start = s.start)
      ∧ Runs (.tapReset t) s (fun u => u.jtag.ir = .idcode ∧ u.start = s.start)
      ∧ (∀ op : BitVec 5, 5 ≤ op.toNat → Runs (.bypass t op) s (fun u =>
          u.jtag.ir = .bypass ∧ u.jtag.irBits = op ∧ u.start = s.start)))
  ∧ (∀ (s : State) (t : Nat), s.jtag.hold = true → s.lands.resetN = true → s.plant.precond = false →
      Runs (.tapReset t) s fun u =>
        u.jtag.hold = false ∧ u.start.phase = .active ∧ u.start.tReset = max s.now t ∧ u.gptp.time = 0)
  ∧ (∀ (s : State) (t : Nat) (pins : BitVec 62) (tdi : List Bool),
      (s.jtag.ir = .idcode → Runs (.dataRegisterScan t pins tdi) s fun u =>
        u.jtag.tdo = (shiftReg 32 0x164405A7 tdi).1 ∧ u.jtag.boundary = s.jtag.boundary)
      ∧ (s.jtag.ir = .bypass → Runs (.dataRegisterScan t pins tdi) s fun u =>
        u.jtag.tdo = (shiftReg 1 0 tdi).1 ∧ u.jtag.boundary = s.jtag.boundary)
      ∧ (s.jtag.ir = .extest ∨ s.jtag.ir = .sample → Runs (.dataRegisterScan t pins tdi) s fun u =>
        u.jtag.boundary = u.jtag.shift ∧ u.jtag.tdo.length = tdi.length))

/-- The power path (R459 to R462, R465, R471). -/
def Obligations.PowerPathRuns : Prop :=
  (∀ (s : State) (t mv : Nat), Runs (.vinValid t mv) s fun u =>
      u.plant.vinValid = true ∧ u.plant.vinPath = true ∧ u.plant.sysGate = false ∧ u.plant.vsysMv = mv
        ∧ anyActive 0xFA01#16 u = false
        ∧ (inMode .slumber s = true → s.sleep.wakeAt = none → u.sleep.wakeAt = some (max s.now t)))
  ∧ (∀ (s : State) (t mv mean : Nat), s.plant.vinValid = true → Runs (.vinLost t mv mean) s fun u =>
      u.plant.vinValid = false ∧ u.plant.vinPath = false ∧ u.plant.vinLostAt = some (max s.now t)
        ∧ u.plant.sysGate = switchMay s ∧ u.plant.state = 0)
  ∧ (∀ (s : State) (t mv : Nat), s.plant.vinValid = false → 2000 < mv → awake s = true → Runs (.vinRangeTimeout t mv) s fun u =>
      anyActive 0xFA01#16 u = true ∧ u.plant.vinMv = mv)
  ∧ (∀ (s : State) (t vinMv vinMa vsysMv : Nat), s.plant.vinValid = true → Runs (.inputBudgetLoop t vinMv vinMa vsysMv) s fun u =>
      u.freeCtr = s.freeCtr + 1 ∧ u.plant.vsysMv = vsysMv
        ∧ (inputBudget s vinMv < vinMv * vinMa / 1000 → 0 < min s.plant.limitMa s.plant.applyMa →
            u.plant.limitMa < min s.plant.limitMa s.plant.applyMa)
        ∧ (vinMv * vinMa / 1000 ≤ inputBudget s vinMv → s.plant.plantCapMw = none → s.plant.limitMa ≤ 65535 →
            s.plant.limitMa ≤ u.plant.limitMa))
  ∧ (∀ (s : State) (l : Nat), s.start.tLatch = some l → s.plant.absent = true → (battSetup (lvlD s 12)).isSome = true →
      anyActive 0xFA10#16 s = false → awake s = true → Runs .batteryAbsentTimeout s fun u =>
        anyActive 0xFA10#16 u = true ∧ u.now = max s.now (max l (s.plant.absentAt.getD l) + sec1))
  ∧ (∀ (s : State) (t mv : Nat), s.plant.vinValid = false → s.plant.sysGate = true → s.plant.openAt = none →
      s.start.tLatch.isSome = true → mv < cutoffMv s → Runs (.dischargeCutoff t mv) s fun u =>
        u.plant.openAt = some (max s.now t + 20 * ms1) ∧ u.plant.vbatMv = mv ∧ u.plant.sysGate = true)
  ∧ (∀ (s : State) (a : Nat), s.plant.openAt = some a →
      (s.plant.vinValid = true → Runs .batterySwitchOpen s fun u =>
        u.plant.sysGate = false ∧ u.plant.switchOff = true ∧ u.plant.openAt = none ∧ u.start = s.start)
      ∧ (s.plant.vinValid = false → Runs .batterySwitchOpen s fun u =>
        u.start.phase = .held ∧ u.start.cause = .supplySupervisor))
  ∧ (∀ (s : State) (t : Nat) (x : PackReading), x.ntcPpm ≤ 970000 ∨ 2000 ≤ x.vbatMv → Runs (.packConnected t x) s fun u =>
      u.plant.absent = false ∧ u.plant.vbatMv = x.vbatMv ∧ anyActive 0xFA10#16 u = false)

/-- The charger (R465, R467 to R472). -/
def Obligations.ChargerRuns : Prop :=
  (∀ (s : State) (t : Nat), s.start.tRun.isSome = true → inMode .safe s = false → inMode .slumber s = false →
      s.plant.linkLost = none → s.thr.missRow = 0 → Runs (.requestedLimits t) s fun u =>
        u.plant.req = requestNow s ∧ u.plant.reqAt = some (max s.now t) ∧ u.plant.reqSince.isSome = true)
  ∧ (∀ (s : State) (a : Nat), s.plant.reqAt = some a → s.plant.fixed = false → Runs .fixedThresholdEntry s fun u =>
      u.plant.fixed = true ∧ u.plant.reqSince = none ∧ u.now = max s.now (a + 10 * ms1))
  ∧ (∀ (s : State) (a : Nat), s.plant.reqSince = some a → s.plant.fixed = true → inMode .safe s = false →
      Runs .fixedThresholdExit s fun u => u.plant.fixed = false ∧ u.now = max s.now (a + 100 * ms1))
  ∧ (∀ (s : State) (a : Nat), s.plant.taperAt = some a → s.plant.phase = 3 → Runs .chargeCompleteTimer s fun u =>
      u.plant.phase = 4 ∧ u.plant.state = 4 ∧ u.plant.soc = 100 ∧ u.now = max s.now (a + 60 * sec1))
  ∧ (∀ (s : State) (c : ChargeSet), chargeSet s = some c → s.plant.state = 2 → Runs .chargeTimerExpiry s fun u =>
      isActive 0xFA20#16 3 u = true ∧ 0xFA20 * 256 + 3 ∈ u.plant.suspend
        ∧ u.now = max s.now (s.plant.timerAt + (timerLimit c - s.plant.timerNs)))
  ∧ (∀ (s : State) (a : Nat), s.plant.preAt = some a → s.plant.phase = 1 → Runs .preconditionTimeout s fun u =>
      isActive 0xFA12#16 0 u = true ∧ 0xFA12 * 256 ∈ u.plant.suspend ∧ u.now = max s.now (a + 1800 * sec1))
  ∧ (∀ (s : State) (t : Nat) (x : PackReading) (c : ChargeSet), chargeSet s = some c → s.start.tLatch.isSome = true →
      inMode .slumber s = false → Runs (.batteryThermalUpdate t x) s fun u =>
        u.plant.vbatMv = x.vbatMv ∧ u.plant.packMa = x.packMa
          ∧ u.plant.thetaNk = riseStep c.tau (steadyRise c.lfp x.packMa) s.plant.thetaNk
          ∧ u.plant.restAt = if x.packMa.natAbs < 20 then some (s.plant.restAt.getD (max s.now t)) else none)
  ∧ (∀ (s : State) (t : Nat) (x : PackReading), inMode .slumber s = true → Runs (.batteryThermalUpdate t x) s fun u =>
      u.plant = { s.plant with vbatMv := x.vbatMv, packMa := x.packMa })
  ∧ (∀ (s : State) (t mv : Nat) (c : ChargeSet), chargeSet s = some c → s.plant.vinValid = true →
      s.start.tLatch.isSome = true → pack (c.cellMv + 50) < mv → Runs (.packOvervoltage t mv) s fun u =>
        isActive 0xFA13#16 0 u = true ∧ 0xFA13 * 256 ∈ u.plant.suspend)
  ∧ (∀ (s : State) (a : Nat) (c : ChargeSet), s.plant.restAt = some a → chargeSet s = some c →
      Runs .socRestRecalibrate s fun u =>
        u.plant.soc = restSoc s ∧ u.plant.restAt = some u.now ∧ u.now = max s.now (a + 1800 * sec1))
  ∧ (∀ (s : State) (t mv : Nat) (c : ChargeSet), chargeSet s = some c → chargerOff s = false → s.plant.suspend = [] →
      floorVolts ≤ mv → Runs (.chargerVoltageThreshold t mv) s fun u =>
        u.plant.vbatMv = mv ∧ u.plant.phase = nextPhase c mv (if s.plant.phase = 6 then 0 else s.plant.phase))

/-- Loudspeakers, motor and die temperatures (R484, R489 to R493, R495, R496, R498, R500, R503). -/
def Obligations.PlantRuns : Prop :=
  (∀ (s : State) (ch : Fin 2) (a : Nat), s.spk.ch[ch].saturated = true → s.spk.ch[ch].releaseAt = some a →
      Runs (.thermalModelRelease ch) s fun u =>
        u.spk.ch[ch].saturated = false ∧ u.spk.ch[ch].gP = -600 ∧ isActive 0xFB00#16 ch.val u = false
          ∧ u.now = max s.now (a + sec1))
  ∧ (∀ (s : State) (t : Nat) (ch : Fin 2), s.spk.ch[ch].on = true → monoAmp s = false →
      strapCeiling s * 12 < meanMw s.spk.ch[ch].secMw * 10 → Runs (.speakerGuard t ch) s fun u =>
        u.spk.ch[ch].guard = some (max s.now t + sec1) ∧ u.spk.ch[ch].on = true)
  ∧ (∀ (s : State) (t : Nat) (stage : Fin 2) (short : Bool), powered s = true → Runs (.speakerOvercurrent t stage short) s fun u =>
      u.spk.fault = true ∧ (∀ i : Fin 2, u.spk.ch[i].on = false) ∧ isActive 0xFB01#16 stage.val u = true)
  ∧ (∀ (s : State) (t cent : Nat) (ch : Fin 2), s.spk.ch[ch].on = true →
      (4 * nominalCent s < cent → s.spk.ch[ch].openLoad = false → Runs (.openLoadDetect t ch cent) s fun u =>
        u.spk.ch[ch].openLoad = true ∧ isActive 0xFB02#16 ch.val u = true)
      ∧ (cent ≤ 2 * nominalCent s → s.spk.ch[ch].openLoad = true → Runs (.openLoadDetect t ch cent) s fun u =>
        u.spk.ch[ch].openLoad = false ∧ isActive 0xFB02#16 ch.val u = false))
  ∧ (∀ (s : State) (t pos pvdd : Nat) (ma : Int), (motorSetup (lvlD s 11)).isSome = true → s.blocks.running = true →
      Runs (.motorCommand t pos pvdd ma) s fun u =>
        u.motor.ma = ma ∧ u.motor.posMv = pos ∧ u.motor.pvddMv = pvdd ∧ u.motor.driven = motorMay s)
  ∧ (∀ (s : State) (t : Nat) (mv : Int), s.motor.driven = true → closedLoop s = false → Runs (.backEmfWindow t mv) s fun u =>
      u.motor.bemfMv = mv ∧ u.motor.bemfAt = some u.now ∧ u.motor.floatUntil = u.now + 100000
        ∧ u.now = max s.now (max t ((s.motor.bemfAt.map (· + 10 * ms1)).getD t)))
  ∧ (∀ (s : State) (t : Nat) (ma : Int), s.motor.driven = true → 2500 ≤ ma.natAbs → Runs (.motorPeakCurrent t ma) s fun u =>
      anyActive 0xFB11#16 u = true ∧ u.motor.ma = ma ∧ u.motor.choppedSec = true)
  ∧ (∀ (s : State) (a : Nat), s.motor.posBadAt = some a → closedLoop s = true → s.motor.posFault = false →
      Runs .motPosOutOfRange s fun u =>
        u.motor.posFault = true ∧ u.motor.driven = false ∧ anyActive 0xFB12#16 u = true ∧ u.now = max s.now (a + 10 * ms1))
  ∧ (∀ (s : State) (a : Nat), s.motor.stallSince = some a → Runs .motorStall s fun u =>
      u.motor.driven = false ∧ anyActive 0xFB10#16 u = true ∧ u.now = max s.now (a + (motorSet s).stallMs * ms1)
        ∧ (3 ≤ (s.motor.stalls.filter (fun x => decide (u.now ≤ x + 60 * sec1))).length → u.motor.heldOff = true)
        ∧ ((s.motor.stalls.filter (fun x => decide (u.now ≤ x + 60 * sec1))).length < 3 →
            u.motor.holdUntil = some (u.now + 2 * sec1)))
  ∧ (∀ (s : State) (h : Nat), s.motor.holdUntil = some h → Runs .stallHoldExpiry s fun u =>
      u.motor.holdUntil = none ∧ u.motor.driven = motorMay u ∧ u.now = max s.now h)
  ∧ (∀ (s : State) (t : Nat) (deg : Int), powered s = true →
      (150 ≤ deg → s.plant.shut = false → Runs (.plantDieTemperature t deg) s fun u =>
        u.plant.shut = true ∧ u.motor.driven = false ∧ (∀ i : Fin 2, u.spk.ch[i].on = false) ∧ anyActive 0xFC00#16 u = true
          ∧ u.plant.dieTemp = deg)
      ∧ (135 ≤ deg → deg < 150 → s.plant.derate = false → Runs (.plantDieTemperature t deg) s fun u =>
        u.plant.derate = true ∧ anyActive 0xFC01#16 u = true ∧ u.spk = s.spk)
      ∧ (deg < 130 → Runs (.plantDieTemperature t deg) s fun u => u.plant.derate = false ∧ u.plant.shut = false))
  ∧ (∀ (s : State) (t : Nat) (deg : Int), powered s = true →
      (125 < deg → anyActive 0xFC10#16 s = false → Runs (.coreDieOvertemp t deg) s fun u =>
        anyActive 0xFC10#16 u = true ∧ u.plant.coreTemp = deg)
      ∧ (deg < 120 → Runs (.coreDieOvertemp t deg) s fun u => anyActive 0xFC10#16 u = false ∧ u.plant.coreTemp = deg))
end

