-- ==== Sys2Proof/Laws/Memory.lean ====
section
/-! SUPPORT. The laws of a memory: reading after writing, and that every operation keeps the canonical form. -/

namespace Sys2Proof.Machine

open Sys2Proof

theorem cellsFrom_mono (d : Byte) (m : List Host.Cell) {lo hi : Nat} (h : lo ≤ hi) (w : cellsFrom d hi m = true) :
    cellsFrom d lo m = true := by
  cases m with
  | nil => rfl
  | cons c m =>
    obtain ⟨a, b⟩ := c
    simp only [cellsFrom, Bool.and_eq_true, decide_eq_true_eq] at w ⊢
    exact ⟨⟨by omega, w.1.2⟩, w.2⟩

/-- What lies below every listed address reads as the default. -/
theorem peek_below (d : Byte) (m : List Host.Cell) {lo x : Nat} (h : x < lo) (w : cellsFrom d lo m = true) :
    peek d m x = d := by
  induction m generalizing lo with
  | nil => rfl
  | cons c m ih =>
    obtain ⟨a, b⟩ := c
    simp only [cellsFrom, Bool.and_eq_true, decide_eq_true_eq] at w
    have : x ≠ a := by omega
    simp only [peek, this, if_false]
    exact ih (by omega) w.2

/-- A write keeps the canonical form. -/
theorem poke_cells (d : Byte) (m : List Host.Cell) (lo x : Nat) (v : Byte) (h : lo ≤ x) (w : cellsFrom d lo m = true) :
    cellsFrom d lo (poke d m x v) = true := by
  induction m generalizing lo with
  | nil =>
    simp only [poke]
    split
    · rfl
    · rename_i hv; simp [cellsFrom, h, hv]
  | cons c m ih =>
    obtain ⟨a, b⟩ := c
    simp only [cellsFrom, Bool.and_eq_true, decide_eq_true_eq] at w
    simp only [poke]
    split
    · rename_i hx
      split
      · simp [cellsFrom, w.1.1, w.1.2, w.2]
      · rename_i hv
        simp [cellsFrom, h, hv, hx, w.1.2, w.2]
    · split
      · rename_i hx
        subst hx
        split
        · exact cellsFrom_mono d m (by omega) w.2
        · rename_i hv; simp [cellsFrom, h, hv, w.2]
      · rename_i h1 h2
        simp only [cellsFrom, Bool.and_eq_true, decide_eq_true_eq]
        exact ⟨w.1, ih (a + 1) (by omega) w.2⟩

@[simp] theorem poke_wf (d : Byte) (m : List Host.Cell) (x : Nat) (v : Byte) (w : Memory.wf d m = true) :
    Memory.wf d (poke d m x v) = true := poke_cells d m 0 x v (Nat.zero_le x) w

@[simp] theorem pokes_wf (d : Byte) (l : List Byte) (m : List Host.Cell) (a : Nat) (w : Memory.wf d m = true) :
    Memory.wf d (pokes d m a l) = true := by
  induction l generalizing m a with
  | nil => exact w
  | cons b l ih => exact ih _ _ (poke_wf d m a b w)

@[simp] theorem programs_wf (l : List Byte) (m : List Host.Cell) (a : Nat) (w : Memory.wf 0xFF#8 m = true) :
    Memory.wf 0xFF#8 (programs m a l) = true := by
  induction l generalizing m a with
  | nil => exact w
  | cons b l ih => exact ih _ _ (poke_wf _ m a _ w)

theorem filter_cells (d : Byte) (p : Host.Cell → Bool) (m : List Host.Cell) (lo : Nat) (w : cellsFrom d lo m = true) :
    cellsFrom d lo (m.filter p) = true := by
  induction m generalizing lo with
  | nil => rfl
  | cons c m ih =>
    obtain ⟨a, b⟩ := c
    simp only [cellsFrom, Bool.and_eq_true, decide_eq_true_eq] at w
    simp only [List.filter]
    split
    · simp only [cellsFrom, Bool.and_eq_true, decide_eq_true_eq]
      exact ⟨w.1, ih _ w.2⟩
    · exact ih lo (cellsFrom_mono d m (by omega) w.2)

@[simp] theorem filter_wf (d : Byte) (p : Host.Cell → Bool) (m : List Host.Cell) (w : Memory.wf d m = true) :
    Memory.wf d (m.filter p) = true := filter_cells d p m 0 w

@[simp] theorem wipe_wf (d : Byte) (m : List Host.Cell) (a n : Nat) (w : Memory.wf d m = true) :
    Memory.wf d (wipe m a n) = true := filter_wf d _ m w

/-- Reading back what was written. -/
theorem peek_poke_cells (d : Byte) (m : List Host.Cell) (lo x : Nat) (v : Byte) (w : cellsFrom d lo m = true) (y : Nat) :
    peek d (poke d m x v) y = if y = x then v else peek d m y := by
  induction m generalizing lo with
  | nil =>
    simp only [poke]
    split
    · rename_i hv; subst hv; simp [peek]
    · simp [peek]
  | cons c m ih =>
    obtain ⟨a, b⟩ := c
    simp only [cellsFrom, Bool.and_eq_true, decide_eq_true_eq] at w
    simp only [poke]
    split
    · rename_i hx
      split
      · rename_i hv
        subst hv
        by_cases hy : y = x
        · subst hy
          have : y ≠ a := by omega
          simp only [peek, this, if_false, if_true]
          exact peek_below _ m (lo := a + 1) (by omega) w.2
        · simp [hy]
      · simp [peek]
    · split
      · rename_i hx
        subst hx
        split
        · rename_i hv
          subst hv
          by_cases hy : y = x
          · subst hy
            simp only [if_true]
            exact peek_below _ m (lo := y + 1) (by omega) w.2
          · simp [peek, hy]
        · by_cases hy : y = x <;> simp [peek, hy]
      · rename_i h1 h2
        simp only [peek]
        by_cases hy : y = a
        · subst hy
          have : y ≠ x := by omega
          simp [this]
        · simp only [hy, if_false]
          exact ih (a + 1) w.2

/-- A read after a write, in a memory of canonical form. -/
theorem peek_poke (d : Byte) (m : List Host.Cell) (w : Memory.wf d m = true) (x y : Nat) (v : Byte) :
    peek d (poke d m x v) y = if y = x then v else peek d m y := peek_poke_cells d m 0 x v w y

end Sys2Proof.Machine
end

