-- ==== Sys2Proof/Laws/State.lean ====
section
/-! SUPPORT. What each shared operation leaves alone, one lemma per field of State, so that no proof unfolds it. -/

namespace Sys2Proof.Machine

open Sys2Proof

variable (s : State)

/-- An equation that holds by unfolding, used as a rewriting: what it unfolds is not unfolded again where it is used. -/
theorem keeps {α : Type} {a b : α} (h : a = b) : a = b := h

/-- What time passing leaves alone, moving on to device time leaves alone. -/
theorem upToDevice_aux {α : Type} (t : Nat) (g : State → α) (h : ∀ dt, g (s.advance dt) = g s) :
    g (s.upToDevice t) = g s := by
  exact h _

theorem sendTenant_aux {α : Type} (f : NetFrame) (g : State → α)
    (h : ∀ (a : Vector Port 2) (b : Streams) (c : Security), g { s with ports := a, streams := b, sec := c } = g s) :
    g (sendTenant f s) = g s := by
  unfold sendTenant
  split
  · split
    · exact h _ _ _
    · rfl
  · rfl

theorem sendAnnounce_aux {α : Type} (f : NetFrame) (g : State → α)
    (h : ∀ (a : Vector Port 2) (b : Streams) (c : Security), g { s with ports := a, streams := b, sec := c } = g s) :
    g (sendAnnounce f s) = g s := by
  unfold sendAnnounce
  split
  · split
    · exact h _ _ _
    · rfl
  · rfl

theorem pumpFrames_aux {α : Type} (nn : Nat) (q : List QFrame) (g : State → α)
    (h : ∀ (s : State) (a : Vector Port 2) (b : Streams) (c : Security) (d : Status),
      g { s with ports := a, streams := b, sec := c, status := d } = g s) (s : State) :
    g (pumpFrames nn q s) = g s := by
  induction q generalizing s with
  | nil => exact h s s.ports s.streams s.sec _
  | cons f q ih =>
    unfold pumpFrames
    split
    · rw [ih]
      exact sendTenant_aux s _ g (fun a b c => h s a b c s.status)
    · exact h s s.ports s.streams s.sec _

theorem pump_aux {α : Type} (g : State → α)
    (h : ∀ (s : State) (a : Vector Port 2) (b : Streams) (c : Security) (d : Status),
      g { s with ports := a, streams := b, sec := c, status := d } = g s) :
    g (pump s) = g s := by
  unfold pump
  simp only []
  split
  · rw [pumpFrames_aux _ _ g h]
    exact h s _ _ s.sec s.status
  · exact h s _ _ s.sec s.status

/-! Time passes: only the time base, device time, the paths and the ports move. -/

@[simp] theorem State.advance_pending (dt : Nat) : (s.advance dt).pending = s.pending := keeps rfl
@[simp] theorem State.advance_freeCtr (dt : Nat) : (s.advance dt).freeCtr = s.freeCtr := keeps rfl
@[simp] theorem State.advance_eui48 (dt : Nat) : (s.advance dt).eui48 = s.eui48 := keeps rfl
@[simp] theorem State.advance_start (dt : Nat) : (s.advance dt).start = s.start := keeps rfl
@[simp] theorem State.advance_aon (dt : Nat) : (s.advance dt).aon = s.aon := keeps rfl
@[simp] theorem State.advance_straps (dt : Nat) : (s.advance dt).straps = s.straps := keeps rfl
@[simp] theorem State.advance_log (dt : Nat) : (s.advance dt).log = s.log := keeps rfl
@[simp] theorem State.advance_well (dt : Nat) : (s.advance dt).well = s.well := keeps rfl
@[simp] theorem State.advance_history (dt : Nat) : (s.advance dt).history = s.history := keeps rfl
@[simp] theorem State.advance_podl (dt : Nat) : (s.advance dt).podl = s.podl := keeps rfl
@[simp] theorem State.advance_switch (dt : Nat) : (s.advance dt).switch = s.switch := keeps rfl
@[simp] theorem State.advance_streams (dt : Nat) : (s.advance dt).streams = s.streams := keeps rfl
@[simp] theorem State.advance_routing (dt : Nat) : (s.advance dt).routing = s.routing := keeps rfl
@[simp] theorem State.advance_red (dt : Nat) : (s.advance dt).red = s.red := keeps rfl
@[simp] theorem State.advance_sec (dt : Nat) : (s.advance dt).sec = s.sec := keeps rfl
@[simp] theorem State.advance_bpi (dt : Nat) : (s.advance dt).bpi = s.bpi := keeps rfl
@[simp] theorem State.advance_bpo (dt : Nat) : (s.advance dt).bpo = s.bpo := keeps rfl
@[simp] theorem State.advance_tdm (dt : Nat) : (s.advance dt).tdm = s.tdm := keeps rfl
@[simp] theorem State.advance_mic (dt : Nat) : (s.advance dt).mic = s.mic := keeps rfl
@[simp] theorem State.advance_usb (dt : Nat) : (s.advance dt).usb = s.usb := keeps rfl
@[simp] theorem State.advance_blocks (dt : Nat) : (s.advance dt).blocks = s.blocks := keeps rfl
@[simp] theorem State.advance_thr (dt : Nat) : (s.advance dt).thr = s.thr := keeps rfl
@[simp] theorem State.advance_mem (dt : Nat) : (s.advance dt).mem = s.mem := keeps rfl
@[simp] theorem State.advance_gran (dt : Nat) : (s.advance dt).gran = s.gran := keeps rfl
@[simp] theorem State.advance_clips (dt : Nat) : (s.advance dt).clips = s.clips := keeps rfl
@[simp] theorem State.advance_plant (dt : Nat) : (s.advance dt).plant = s.plant := keeps rfl
@[simp] theorem State.advance_spk (dt : Nat) : (s.advance dt).spk = s.spk := keeps rfl
@[simp] theorem State.advance_motor (dt : Nat) : (s.advance dt).motor = s.motor := keeps rfl
@[simp] theorem State.advance_endur (dt : Nat) : (s.advance dt).endur = s.endur := keeps rfl
@[simp] theorem State.advance_sleep (dt : Nat) : (s.advance dt).sleep = s.sleep := keeps rfl
@[simp] theorem State.advance_lands (dt : Nat) : (s.advance dt).lands = s.lands := keeps rfl
@[simp] theorem State.advance_jtag (dt : Nat) : (s.advance dt).jtag = s.jtag := keeps rfl
@[simp] theorem State.advance_cross (dt : Nat) : (s.advance dt).cross = s.cross := keeps rfl

/-! Moving on to an instant. -/

@[simp] theorem State.upTo_pending (t : Nat) : (s.upTo t).pending = s.pending := keeps rfl
@[simp] theorem State.upTo_freeCtr (t : Nat) : (s.upTo t).freeCtr = s.freeCtr := keeps rfl
@[simp] theorem State.upTo_eui48 (t : Nat) : (s.upTo t).eui48 = s.eui48 := keeps rfl
@[simp] theorem State.upTo_start (t : Nat) : (s.upTo t).start = s.start := keeps rfl
@[simp] theorem State.upTo_aon (t : Nat) : (s.upTo t).aon = s.aon := keeps rfl
@[simp] theorem State.upTo_straps (t : Nat) : (s.upTo t).straps = s.straps := keeps rfl
@[simp] theorem State.upTo_log (t : Nat) : (s.upTo t).log = s.log := keeps rfl
@[simp] theorem State.upTo_well (t : Nat) : (s.upTo t).well = s.well := keeps rfl
@[simp] theorem State.upTo_history (t : Nat) : (s.upTo t).history = s.history := keeps rfl
@[simp] theorem State.upTo_podl (t : Nat) : (s.upTo t).podl = s.podl := keeps rfl
@[simp] theorem State.upTo_switch (t : Nat) : (s.upTo t).switch = s.switch := keeps rfl
@[simp] theorem State.upTo_streams (t : Nat) : (s.upTo t).streams = s.streams := keeps rfl
@[simp] theorem State.upTo_routing (t : Nat) : (s.upTo t).routing = s.routing := keeps rfl
@[simp] theorem State.upTo_red (t : Nat) : (s.upTo t).red = s.red := keeps rfl
@[simp] theorem State.upTo_sec (t : Nat) : (s.upTo t).sec = s.sec := keeps rfl
@[simp] theorem State.upTo_bpi (t : Nat) : (s.upTo t).bpi = s.bpi := keeps rfl
@[simp] theorem State.upTo_bpo (t : Nat) : (s.upTo t).bpo = s.bpo := keeps rfl
@[simp] theorem State.upTo_tdm (t : Nat) : (s.upTo t).tdm = s.tdm := keeps rfl
@[simp] theorem State.upTo_mic (t : Nat) : (s.upTo t).mic = s.mic := keeps rfl
@[simp] theorem State.upTo_usb (t : Nat) : (s.upTo t).usb = s.usb := keeps rfl
@[simp] theorem State.upTo_blocks (t : Nat) : (s.upTo t).blocks = s.blocks := keeps rfl
@[simp] theorem State.upTo_thr (t : Nat) : (s.upTo t).thr = s.thr := keeps rfl
@[simp] theorem State.upTo_mem (t : Nat) : (s.upTo t).mem = s.mem := keeps rfl
@[simp] theorem State.upTo_gran (t : Nat) : (s.upTo t).gran = s.gran := keeps rfl
@[simp] theorem State.upTo_clips (t : Nat) : (s.upTo t).clips = s.clips := keeps rfl
@[simp] theorem State.upTo_plant (t : Nat) : (s.upTo t).plant = s.plant := keeps rfl
@[simp] theorem State.upTo_spk (t : Nat) : (s.upTo t).spk = s.spk := keeps rfl
@[simp] theorem State.upTo_motor (t : Nat) : (s.upTo t).motor = s.motor := keeps rfl
@[simp] theorem State.upTo_endur (t : Nat) : (s.upTo t).endur = s.endur := keeps rfl
@[simp] theorem State.upTo_sleep (t : Nat) : (s.upTo t).sleep = s.sleep := keeps rfl
@[simp] theorem State.upTo_lands (t : Nat) : (s.upTo t).lands = s.lands := keeps rfl
@[simp] theorem State.upTo_jtag (t : Nat) : (s.upTo t).jtag = s.jtag := keeps rfl
@[simp] theorem State.upTo_cross (t : Nat) : (s.upTo t).cross = s.cross := keeps rfl

/-! Moving on to an instant of device time. -/

@[simp] theorem State.upToDevice_pending (t : Nat) : (s.upToDevice t).pending = s.pending := upToDevice_aux s t (·.pending) (fun _ => rfl)
@[simp] theorem State.upToDevice_freeCtr (t : Nat) : (s.upToDevice t).freeCtr = s.freeCtr := upToDevice_aux s t (·.freeCtr) (fun _ => rfl)
@[simp] theorem State.upToDevice_eui48 (t : Nat) : (s.upToDevice t).eui48 = s.eui48 := upToDevice_aux s t (·.eui48) (fun _ => rfl)
@[simp] theorem State.upToDevice_start (t : Nat) : (s.upToDevice t).start = s.start := upToDevice_aux s t (·.start) (fun _ => rfl)
@[simp] theorem State.upToDevice_aon (t : Nat) : (s.upToDevice t).aon = s.aon := upToDevice_aux s t (·.aon) (fun _ => rfl)
@[simp] theorem State.upToDevice_straps (t : Nat) : (s.upToDevice t).straps = s.straps := upToDevice_aux s t (·.straps) (fun _ => rfl)
@[simp] theorem State.upToDevice_log (t : Nat) : (s.upToDevice t).log = s.log := upToDevice_aux s t (·.log) (fun _ => rfl)
@[simp] theorem State.upToDevice_well (t : Nat) : (s.upToDevice t).well = s.well := upToDevice_aux s t (·.well) (fun _ => rfl)
@[simp] theorem State.upToDevice_history (t : Nat) : (s.upToDevice t).history = s.history := upToDevice_aux s t (·.history) (fun _ => rfl)
@[simp] theorem State.upToDevice_podl (t : Nat) : (s.upToDevice t).podl = s.podl := upToDevice_aux s t (·.podl) (fun _ => rfl)
@[simp] theorem State.upToDevice_switch (t : Nat) : (s.upToDevice t).switch = s.switch := upToDevice_aux s t (·.switch) (fun _ => rfl)
@[simp] theorem State.upToDevice_streams (t : Nat) : (s.upToDevice t).streams = s.streams := upToDevice_aux s t (·.streams) (fun _ => rfl)
@[simp] theorem State.upToDevice_routing (t : Nat) : (s.upToDevice t).routing = s.routing := upToDevice_aux s t (·.routing) (fun _ => rfl)
@[simp] theorem State.upToDevice_red (t : Nat) : (s.upToDevice t).red = s.red := upToDevice_aux s t (·.red) (fun _ => rfl)
@[simp] theorem State.upToDevice_sec (t : Nat) : (s.upToDevice t).sec = s.sec := upToDevice_aux s t (·.sec) (fun _ => rfl)
@[simp] theorem State.upToDevice_bpi (t : Nat) : (s.upToDevice t).bpi = s.bpi := upToDevice_aux s t (·.bpi) (fun _ => rfl)
@[simp] theorem State.upToDevice_bpo (t : Nat) : (s.upToDevice t).bpo = s.bpo := upToDevice_aux s t (·.bpo) (fun _ => rfl)
@[simp] theorem State.upToDevice_tdm (t : Nat) : (s.upToDevice t).tdm = s.tdm := upToDevice_aux s t (·.tdm) (fun _ => rfl)
@[simp] theorem State.upToDevice_mic (t : Nat) : (s.upToDevice t).mic = s.mic := upToDevice_aux s t (·.mic) (fun _ => rfl)
@[simp] theorem State.upToDevice_usb (t : Nat) : (s.upToDevice t).usb = s.usb := upToDevice_aux s t (·.usb) (fun _ => rfl)
@[simp] theorem State.upToDevice_blocks (t : Nat) : (s.upToDevice t).blocks = s.blocks := upToDevice_aux s t (·.blocks) (fun _ => rfl)
@[simp] theorem State.upToDevice_thr (t : Nat) : (s.upToDevice t).thr = s.thr := upToDevice_aux s t (·.thr) (fun _ => rfl)
@[simp] theorem State.upToDevice_mem (t : Nat) : (s.upToDevice t).mem = s.mem := upToDevice_aux s t (·.mem) (fun _ => rfl)
@[simp] theorem State.upToDevice_gran (t : Nat) : (s.upToDevice t).gran = s.gran := upToDevice_aux s t (·.gran) (fun _ => rfl)
@[simp] theorem State.upToDevice_clips (t : Nat) : (s.upToDevice t).clips = s.clips := upToDevice_aux s t (·.clips) (fun _ => rfl)
@[simp] theorem State.upToDevice_plant (t : Nat) : (s.upToDevice t).plant = s.plant := upToDevice_aux s t (·.plant) (fun _ => rfl)
@[simp] theorem State.upToDevice_spk (t : Nat) : (s.upToDevice t).spk = s.spk := upToDevice_aux s t (·.spk) (fun _ => rfl)
@[simp] theorem State.upToDevice_motor (t : Nat) : (s.upToDevice t).motor = s.motor := upToDevice_aux s t (·.motor) (fun _ => rfl)
@[simp] theorem State.upToDevice_endur (t : Nat) : (s.upToDevice t).endur = s.endur := upToDevice_aux s t (·.endur) (fun _ => rfl)
@[simp] theorem State.upToDevice_sleep (t : Nat) : (s.upToDevice t).sleep = s.sleep := upToDevice_aux s t (·.sleep) (fun _ => rfl)
@[simp] theorem State.upToDevice_lands (t : Nat) : (s.upToDevice t).lands = s.lands := upToDevice_aux s t (·.lands) (fun _ => rfl)
@[simp] theorem State.upToDevice_jtag (t : Nat) : (s.upToDevice t).jtag = s.jtag := upToDevice_aux s t (·.jtag) (fun _ => rfl)
@[simp] theorem State.upToDevice_cross (t : Nat) : (s.upToDevice t).cross = s.cross := upToDevice_aux s t (·.cross) (fun _ => rfl)

/-! A generated frame: only the status paths and counter. -/

@[simp] theorem genFrame_now (k : Nat) (l : List Byte) : (genFrame k l s).now = s.now := keeps rfl
@[simp] theorem genFrame_pending (k : Nat) (l : List Byte) : (genFrame k l s).pending = s.pending := keeps rfl
@[simp] theorem genFrame_freeCtr (k : Nat) (l : List Byte) : (genFrame k l s).freeCtr = s.freeCtr := keeps rfl
@[simp] theorem genFrame_eui48 (k : Nat) (l : List Byte) : (genFrame k l s).eui48 = s.eui48 := keeps rfl
@[simp] theorem genFrame_start (k : Nat) (l : List Byte) : (genFrame k l s).start = s.start := keeps rfl
@[simp] theorem genFrame_aon (k : Nat) (l : List Byte) : (genFrame k l s).aon = s.aon := keeps rfl
@[simp] theorem genFrame_straps (k : Nat) (l : List Byte) : (genFrame k l s).straps = s.straps := keeps rfl
@[simp] theorem genFrame_log (k : Nat) (l : List Byte) : (genFrame k l s).log = s.log := keeps rfl
@[simp] theorem genFrame_well (k : Nat) (l : List Byte) : (genFrame k l s).well = s.well := keeps rfl
@[simp] theorem genFrame_history (k : Nat) (l : List Byte) : (genFrame k l s).history = s.history := keeps rfl
@[simp] theorem genFrame_ports (k : Nat) (l : List Byte) : (genFrame k l s).ports = s.ports := keeps rfl
@[simp] theorem genFrame_podl (k : Nat) (l : List Byte) : (genFrame k l s).podl = s.podl := keeps rfl
@[simp] theorem genFrame_switch (k : Nat) (l : List Byte) : (genFrame k l s).switch = s.switch := keeps rfl
@[simp] theorem genFrame_gptp (k : Nat) (l : List Byte) : (genFrame k l s).gptp = s.gptp := keeps rfl
@[simp] theorem genFrame_streams (k : Nat) (l : List Byte) : (genFrame k l s).streams = s.streams := keeps rfl
@[simp] theorem genFrame_routing (k : Nat) (l : List Byte) : (genFrame k l s).routing = s.routing := keeps rfl
@[simp] theorem genFrame_red (k : Nat) (l : List Byte) : (genFrame k l s).red = s.red := keeps rfl
@[simp] theorem genFrame_sec (k : Nat) (l : List Byte) : (genFrame k l s).sec = s.sec := keeps rfl
@[simp] theorem genFrame_bpi (k : Nat) (l : List Byte) : (genFrame k l s).bpi = s.bpi := keeps rfl
@[simp] theorem genFrame_bpo (k : Nat) (l : List Byte) : (genFrame k l s).bpo = s.bpo := keeps rfl
@[simp] theorem genFrame_tdm (k : Nat) (l : List Byte) : (genFrame k l s).tdm = s.tdm := keeps rfl
@[simp] theorem genFrame_mic (k : Nat) (l : List Byte) : (genFrame k l s).mic = s.mic := keeps rfl
@[simp] theorem genFrame_usb (k : Nat) (l : List Byte) : (genFrame k l s).usb = s.usb := keeps rfl
@[simp] theorem genFrame_blocks (k : Nat) (l : List Byte) : (genFrame k l s).blocks = s.blocks := keeps rfl
@[simp] theorem genFrame_thr (k : Nat) (l : List Byte) : (genFrame k l s).thr = s.thr := keeps rfl
@[simp] theorem genFrame_mem (k : Nat) (l : List Byte) : (genFrame k l s).mem = s.mem := keeps rfl
@[simp] theorem genFrame_gran (k : Nat) (l : List Byte) : (genFrame k l s).gran = s.gran := keeps rfl
@[simp] theorem genFrame_clips (k : Nat) (l : List Byte) : (genFrame k l s).clips = s.clips := keeps rfl
@[simp] theorem genFrame_plant (k : Nat) (l : List Byte) : (genFrame k l s).plant = s.plant := keeps rfl
@[simp] theorem genFrame_spk (k : Nat) (l : List Byte) : (genFrame k l s).spk = s.spk := keeps rfl
@[simp] theorem genFrame_motor (k : Nat) (l : List Byte) : (genFrame k l s).motor = s.motor := keeps rfl
@[simp] theorem genFrame_endur (k : Nat) (l : List Byte) : (genFrame k l s).endur = s.endur := keeps rfl
@[simp] theorem genFrame_sleep (k : Nat) (l : List Byte) : (genFrame k l s).sleep = s.sleep := keeps rfl
@[simp] theorem genFrame_lands (k : Nat) (l : List Byte) : (genFrame k l s).lands = s.lands := keeps rfl
@[simp] theorem genFrame_jtag (k : Nat) (l : List Byte) : (genFrame k l s).jtag = s.jtag := keeps rfl
@[simp] theorem genFrame_cross (k : Nat) (l : List Byte) : (genFrame k l s).cross = s.cross := keeps rfl

/-! An entry put in line: only the ash log. -/

@[simp] theorem logPut_now (e : LogEntry) : (logPut e s).now = s.now := keeps rfl
@[simp] theorem logPut_pending (e : LogEntry) : (logPut e s).pending = s.pending := keeps rfl
@[simp] theorem logPut_freeCtr (e : LogEntry) : (logPut e s).freeCtr = s.freeCtr := keeps rfl
@[simp] theorem logPut_eui48 (e : LogEntry) : (logPut e s).eui48 = s.eui48 := keeps rfl
@[simp] theorem logPut_start (e : LogEntry) : (logPut e s).start = s.start := keeps rfl
@[simp] theorem logPut_aon (e : LogEntry) : (logPut e s).aon = s.aon := keeps rfl
@[simp] theorem logPut_straps (e : LogEntry) : (logPut e s).straps = s.straps := keeps rfl
@[simp] theorem logPut_status (e : LogEntry) : (logPut e s).status = s.status := keeps rfl
@[simp] theorem logPut_well (e : LogEntry) : (logPut e s).well = s.well := keeps rfl
@[simp] theorem logPut_history (e : LogEntry) : (logPut e s).history = s.history := keeps rfl
@[simp] theorem logPut_ports (e : LogEntry) : (logPut e s).ports = s.ports := keeps rfl
@[simp] theorem logPut_podl (e : LogEntry) : (logPut e s).podl = s.podl := keeps rfl
@[simp] theorem logPut_switch (e : LogEntry) : (logPut e s).switch = s.switch := keeps rfl
@[simp] theorem logPut_gptp (e : LogEntry) : (logPut e s).gptp = s.gptp := keeps rfl
@[simp] theorem logPut_streams (e : LogEntry) : (logPut e s).streams = s.streams := keeps rfl
@[simp] theorem logPut_routing (e : LogEntry) : (logPut e s).routing = s.routing := keeps rfl
@[simp] theorem logPut_red (e : LogEntry) : (logPut e s).red = s.red := keeps rfl
@[simp] theorem logPut_sec (e : LogEntry) : (logPut e s).sec = s.sec := keeps rfl
@[simp] theorem logPut_bpi (e : LogEntry) : (logPut e s).bpi = s.bpi := keeps rfl
@[simp] theorem logPut_bpo (e : LogEntry) : (logPut e s).bpo = s.bpo := keeps rfl
@[simp] theorem logPut_tdm (e : LogEntry) : (logPut e s).tdm = s.tdm := keeps rfl
@[simp] theorem logPut_mic (e : LogEntry) : (logPut e s).mic = s.mic := keeps rfl
@[simp] theorem logPut_usb (e : LogEntry) : (logPut e s).usb = s.usb := keeps rfl
@[simp] theorem logPut_blocks (e : LogEntry) : (logPut e s).blocks = s.blocks := keeps rfl
@[simp] theorem logPut_thr (e : LogEntry) : (logPut e s).thr = s.thr := keeps rfl
@[simp] theorem logPut_mem (e : LogEntry) : (logPut e s).mem = s.mem := keeps rfl
@[simp] theorem logPut_gran (e : LogEntry) : (logPut e s).gran = s.gran := keeps rfl
@[simp] theorem logPut_clips (e : LogEntry) : (logPut e s).clips = s.clips := keeps rfl
@[simp] theorem logPut_plant (e : LogEntry) : (logPut e s).plant = s.plant := keeps rfl
@[simp] theorem logPut_spk (e : LogEntry) : (logPut e s).spk = s.spk := keeps rfl
@[simp] theorem logPut_motor (e : LogEntry) : (logPut e s).motor = s.motor := keeps rfl
@[simp] theorem logPut_endur (e : LogEntry) : (logPut e s).endur = s.endur := keeps rfl
@[simp] theorem logPut_sleep (e : LogEntry) : (logPut e s).sleep = s.sleep := keeps rfl
@[simp] theorem logPut_lands (e : LogEntry) : (logPut e s).lands = s.lands := keeps rfl
@[simp] theorem logPut_jtag (e : LogEntry) : (logPut e s).jtag = s.jtag := keeps rfl
@[simp] theorem logPut_cross (e : LogEntry) : (logPut e s).cross = s.cross := keeps rfl

/-! A fault raised: only the status and the ash log. -/

@[simp] theorem raiseAt_now (et : Nat) (c : BitVec 16) (u : Nat) (d : List Byte) : (raiseAt et c u d s).now = s.now := keeps rfl
@[simp] theorem raiseAt_pending (et : Nat) (c : BitVec 16) (u : Nat) (d : List Byte) : (raiseAt et c u d s).pending = s.pending := keeps rfl
@[simp] theorem raiseAt_freeCtr (et : Nat) (c : BitVec 16) (u : Nat) (d : List Byte) : (raiseAt et c u d s).freeCtr = s.freeCtr := keeps rfl
@[simp] theorem raiseAt_eui48 (et : Nat) (c : BitVec 16) (u : Nat) (d : List Byte) : (raiseAt et c u d s).eui48 = s.eui48 := keeps rfl
@[simp] theorem raiseAt_start (et : Nat) (c : BitVec 16) (u : Nat) (d : List Byte) : (raiseAt et c u d s).start = s.start := keeps rfl
@[simp] theorem raiseAt_aon (et : Nat) (c : BitVec 16) (u : Nat) (d : List Byte) : (raiseAt et c u d s).aon = s.aon := keeps rfl
@[simp] theorem raiseAt_straps (et : Nat) (c : BitVec 16) (u : Nat) (d : List Byte) : (raiseAt et c u d s).straps = s.straps := keeps rfl
@[simp] theorem raiseAt_well (et : Nat) (c : BitVec 16) (u : Nat) (d : List Byte) : (raiseAt et c u d s).well = s.well := keeps rfl
@[simp] theorem raiseAt_history (et : Nat) (c : BitVec 16) (u : Nat) (d : List Byte) : (raiseAt et c u d s).history = s.history := keeps rfl
@[simp] theorem raiseAt_ports (et : Nat) (c : BitVec 16) (u : Nat) (d : List Byte) : (raiseAt et c u d s).ports = s.ports := keeps rfl
@[simp] theorem raiseAt_podl (et : Nat) (c : BitVec 16) (u : Nat) (d : List Byte) : (raiseAt et c u d s).podl = s.podl := keeps rfl
@[simp] theorem raiseAt_switch (et : Nat) (c : BitVec 16) (u : Nat) (d : List Byte) : (raiseAt et c u d s).switch = s.switch := keeps rfl
@[simp] theorem raiseAt_gptp (et : Nat) (c : BitVec 16) (u : Nat) (d : List Byte) : (raiseAt et c u d s).gptp = s.gptp := keeps rfl
@[simp] theorem raiseAt_streams (et : Nat) (c : BitVec 16) (u : Nat) (d : List Byte) : (raiseAt et c u d s).streams = s.streams := keeps rfl
@[simp] theorem raiseAt_routing (et : Nat) (c : BitVec 16) (u : Nat) (d : List Byte) : (raiseAt et c u d s).routing = s.routing := keeps rfl
@[simp] theorem raiseAt_red (et : Nat) (c : BitVec 16) (u : Nat) (d : List Byte) : (raiseAt et c u d s).red = s.red := keeps rfl
@[simp] theorem raiseAt_sec (et : Nat) (c : BitVec 16) (u : Nat) (d : List Byte) : (raiseAt et c u d s).sec = s.sec := keeps rfl
@[simp] theorem raiseAt_bpi (et : Nat) (c : BitVec 16) (u : Nat) (d : List Byte) : (raiseAt et c u d s).bpi = s.bpi := keeps rfl
@[simp] theorem raiseAt_bpo (et : Nat) (c : BitVec 16) (u : Nat) (d : List Byte) : (raiseAt et c u d s).bpo = s.bpo := keeps rfl
@[simp] theorem raiseAt_tdm (et : Nat) (c : BitVec 16) (u : Nat) (d : List Byte) : (raiseAt et c u d s).tdm = s.tdm := keeps rfl
@[simp] theorem raiseAt_mic (et : Nat) (c : BitVec 16) (u : Nat) (d : List Byte) : (raiseAt et c u d s).mic = s.mic := keeps rfl
@[simp] theorem raiseAt_usb (et : Nat) (c : BitVec 16) (u : Nat) (d : List Byte) : (raiseAt et c u d s).usb = s.usb := keeps rfl
@[simp] theorem raiseAt_blocks (et : Nat) (c : BitVec 16) (u : Nat) (d : List Byte) : (raiseAt et c u d s).blocks = s.blocks := keeps rfl
@[simp] theorem raiseAt_thr (et : Nat) (c : BitVec 16) (u : Nat) (d : List Byte) : (raiseAt et c u d s).thr = s.thr := keeps rfl
@[simp] theorem raiseAt_mem (et : Nat) (c : BitVec 16) (u : Nat) (d : List Byte) : (raiseAt et c u d s).mem = s.mem := keeps rfl
@[simp] theorem raiseAt_gran (et : Nat) (c : BitVec 16) (u : Nat) (d : List Byte) : (raiseAt et c u d s).gran = s.gran := keeps rfl
@[simp] theorem raiseAt_clips (et : Nat) (c : BitVec 16) (u : Nat) (d : List Byte) : (raiseAt et c u d s).clips = s.clips := keeps rfl
@[simp] theorem raiseAt_plant (et : Nat) (c : BitVec 16) (u : Nat) (d : List Byte) : (raiseAt et c u d s).plant = s.plant := keeps rfl
@[simp] theorem raiseAt_spk (et : Nat) (c : BitVec 16) (u : Nat) (d : List Byte) : (raiseAt et c u d s).spk = s.spk := keeps rfl
@[simp] theorem raiseAt_motor (et : Nat) (c : BitVec 16) (u : Nat) (d : List Byte) : (raiseAt et c u d s).motor = s.motor := keeps rfl
@[simp] theorem raiseAt_endur (et : Nat) (c : BitVec 16) (u : Nat) (d : List Byte) : (raiseAt et c u d s).endur = s.endur := keeps rfl
@[simp] theorem raiseAt_sleep (et : Nat) (c : BitVec 16) (u : Nat) (d : List Byte) : (raiseAt et c u d s).sleep = s.sleep := keeps rfl
@[simp] theorem raiseAt_lands (et : Nat) (c : BitVec 16) (u : Nat) (d : List Byte) : (raiseAt et c u d s).lands = s.lands := keeps rfl
@[simp] theorem raiseAt_jtag (et : Nat) (c : BitVec 16) (u : Nat) (d : List Byte) : (raiseAt et c u d s).jtag = s.jtag := keeps rfl
@[simp] theorem raiseAt_cross (et : Nat) (c : BitVec 16) (u : Nat) (d : List Byte) : (raiseAt et c u d s).cross = s.cross := keeps rfl

/-! A fault raised now. -/

@[simp] theorem raise_now (c : BitVec 16) (u : Nat) (d : List Byte) : (raise c u d s).now = s.now := keeps rfl
@[simp] theorem raise_pending (c : BitVec 16) (u : Nat) (d : List Byte) : (raise c u d s).pending = s.pending := keeps rfl
@[simp] theorem raise_freeCtr (c : BitVec 16) (u : Nat) (d : List Byte) : (raise c u d s).freeCtr = s.freeCtr := keeps rfl
@[simp] theorem raise_eui48 (c : BitVec 16) (u : Nat) (d : List Byte) : (raise c u d s).eui48 = s.eui48 := keeps rfl
@[simp] theorem raise_start (c : BitVec 16) (u : Nat) (d : List Byte) : (raise c u d s).start = s.start := keeps rfl
@[simp] theorem raise_aon (c : BitVec 16) (u : Nat) (d : List Byte) : (raise c u d s).aon = s.aon := keeps rfl
@[simp] theorem raise_straps (c : BitVec 16) (u : Nat) (d : List Byte) : (raise c u d s).straps = s.straps := keeps rfl
@[simp] theorem raise_well (c : BitVec 16) (u : Nat) (d : List Byte) : (raise c u d s).well = s.well := keeps rfl
@[simp] theorem raise_history (c : BitVec 16) (u : Nat) (d : List Byte) : (raise c u d s).history = s.history := keeps rfl
@[simp] theorem raise_ports (c : BitVec 16) (u : Nat) (d : List Byte) : (raise c u d s).ports = s.ports := keeps rfl
@[simp] theorem raise_podl (c : BitVec 16) (u : Nat) (d : List Byte) : (raise c u d s).podl = s.podl := keeps rfl
@[simp] theorem raise_switch (c : BitVec 16) (u : Nat) (d : List Byte) : (raise c u d s).switch = s.switch := keeps rfl
@[simp] theorem raise_gptp (c : BitVec 16) (u : Nat) (d : List Byte) : (raise c u d s).gptp = s.gptp := keeps rfl
@[simp] theorem raise_streams (c : BitVec 16) (u : Nat) (d : List Byte) : (raise c u d s).streams = s.streams := keeps rfl
@[simp] theorem raise_routing (c : BitVec 16) (u : Nat) (d : List Byte) : (raise c u d s).routing = s.routing := keeps rfl
@[simp] theorem raise_red (c : BitVec 16) (u : Nat) (d : List Byte) : (raise c u d s).red = s.red := keeps rfl
@[simp] theorem raise_sec (c : BitVec 16) (u : Nat) (d : List Byte) : (raise c u d s).sec = s.sec := keeps rfl
@[simp] theorem raise_bpi (c : BitVec 16) (u : Nat) (d : List Byte) : (raise c u d s).bpi = s.bpi := keeps rfl
@[simp] theorem raise_bpo (c : BitVec 16) (u : Nat) (d : List Byte) : (raise c u d s).bpo = s.bpo := keeps rfl
@[simp] theorem raise_tdm (c : BitVec 16) (u : Nat) (d : List Byte) : (raise c u d s).tdm = s.tdm := keeps rfl
@[simp] theorem raise_mic (c : BitVec 16) (u : Nat) (d : List Byte) : (raise c u d s).mic = s.mic := keeps rfl
@[simp] theorem raise_usb (c : BitVec 16) (u : Nat) (d : List Byte) : (raise c u d s).usb = s.usb := keeps rfl
@[simp] theorem raise_blocks (c : BitVec 16) (u : Nat) (d : List Byte) : (raise c u d s).blocks = s.blocks := keeps rfl
@[simp] theorem raise_thr (c : BitVec 16) (u : Nat) (d : List Byte) : (raise c u d s).thr = s.thr := keeps rfl
@[simp] theorem raise_mem (c : BitVec 16) (u : Nat) (d : List Byte) : (raise c u d s).mem = s.mem := keeps rfl
@[simp] theorem raise_gran (c : BitVec 16) (u : Nat) (d : List Byte) : (raise c u d s).gran = s.gran := keeps rfl
@[simp] theorem raise_clips (c : BitVec 16) (u : Nat) (d : List Byte) : (raise c u d s).clips = s.clips := keeps rfl
@[simp] theorem raise_plant (c : BitVec 16) (u : Nat) (d : List Byte) : (raise c u d s).plant = s.plant := keeps rfl
@[simp] theorem raise_spk (c : BitVec 16) (u : Nat) (d : List Byte) : (raise c u d s).spk = s.spk := keeps rfl
@[simp] theorem raise_motor (c : BitVec 16) (u : Nat) (d : List Byte) : (raise c u d s).motor = s.motor := keeps rfl
@[simp] theorem raise_endur (c : BitVec 16) (u : Nat) (d : List Byte) : (raise c u d s).endur = s.endur := keeps rfl
@[simp] theorem raise_sleep (c : BitVec 16) (u : Nat) (d : List Byte) : (raise c u d s).sleep = s.sleep := keeps rfl
@[simp] theorem raise_lands (c : BitVec 16) (u : Nat) (d : List Byte) : (raise c u d s).lands = s.lands := keeps rfl
@[simp] theorem raise_jtag (c : BitVec 16) (u : Nat) (d : List Byte) : (raise c u d s).jtag = s.jtag := keeps rfl
@[simp] theorem raise_cross (c : BitVec 16) (u : Nat) (d : List Byte) : (raise c u d s).cross = s.cross := keeps rfl

/-! A counting fault raised. -/

@[simp] theorem raiseCount_now (c : BitVec 16) (u : Nat) (k r : List Byte) : (raiseCount c u k r s).now = s.now := keeps rfl
@[simp] theorem raiseCount_pending (c : BitVec 16) (u : Nat) (k r : List Byte) : (raiseCount c u k r s).pending = s.pending := keeps rfl
@[simp] theorem raiseCount_freeCtr (c : BitVec 16) (u : Nat) (k r : List Byte) : (raiseCount c u k r s).freeCtr = s.freeCtr := keeps rfl
@[simp] theorem raiseCount_eui48 (c : BitVec 16) (u : Nat) (k r : List Byte) : (raiseCount c u k r s).eui48 = s.eui48 := keeps rfl
@[simp] theorem raiseCount_start (c : BitVec 16) (u : Nat) (k r : List Byte) : (raiseCount c u k r s).start = s.start := keeps rfl
@[simp] theorem raiseCount_aon (c : BitVec 16) (u : Nat) (k r : List Byte) : (raiseCount c u k r s).aon = s.aon := keeps rfl
@[simp] theorem raiseCount_straps (c : BitVec 16) (u : Nat) (k r : List Byte) : (raiseCount c u k r s).straps = s.straps := keeps rfl
@[simp] theorem raiseCount_well (c : BitVec 16) (u : Nat) (k r : List Byte) : (raiseCount c u k r s).well = s.well := keeps rfl
@[simp] theorem raiseCount_history (c : BitVec 16) (u : Nat) (k r : List Byte) : (raiseCount c u k r s).history = s.history := keeps rfl
@[simp] theorem raiseCount_ports (c : BitVec 16) (u : Nat) (k r : List Byte) : (raiseCount c u k r s).ports = s.ports := keeps rfl
@[simp] theorem raiseCount_podl (c : BitVec 16) (u : Nat) (k r : List Byte) : (raiseCount c u k r s).podl = s.podl := keeps rfl
@[simp] theorem raiseCount_switch (c : BitVec 16) (u : Nat) (k r : List Byte) : (raiseCount c u k r s).switch = s.switch := keeps rfl
@[simp] theorem raiseCount_gptp (c : BitVec 16) (u : Nat) (k r : List Byte) : (raiseCount c u k r s).gptp = s.gptp := keeps rfl
@[simp] theorem raiseCount_streams (c : BitVec 16) (u : Nat) (k r : List Byte) : (raiseCount c u k r s).streams = s.streams := keeps rfl
@[simp] theorem raiseCount_routing (c : BitVec 16) (u : Nat) (k r : List Byte) : (raiseCount c u k r s).routing = s.routing := keeps rfl
@[simp] theorem raiseCount_red (c : BitVec 16) (u : Nat) (k r : List Byte) : (raiseCount c u k r s).red = s.red := keeps rfl
@[simp] theorem raiseCount_sec (c : BitVec 16) (u : Nat) (k r : List Byte) : (raiseCount c u k r s).sec = s.sec := keeps rfl
@[simp] theorem raiseCount_bpi (c : BitVec 16) (u : Nat) (k r : List Byte) : (raiseCount c u k r s).bpi = s.bpi := keeps rfl
@[simp] theorem raiseCount_bpo (c : BitVec 16) (u : Nat) (k r : List Byte) : (raiseCount c u k r s).bpo = s.bpo := keeps rfl
@[simp] theorem raiseCount_tdm (c : BitVec 16) (u : Nat) (k r : List Byte) : (raiseCount c u k r s).tdm = s.tdm := keeps rfl
@[simp] theorem raiseCount_mic (c : BitVec 16) (u : Nat) (k r : List Byte) : (raiseCount c u k r s).mic = s.mic := keeps rfl
@[simp] theorem raiseCount_usb (c : BitVec 16) (u : Nat) (k r : List Byte) : (raiseCount c u k r s).usb = s.usb := keeps rfl
@[simp] theorem raiseCount_blocks (c : BitVec 16) (u : Nat) (k r : List Byte) : (raiseCount c u k r s).blocks = s.blocks := keeps rfl
@[simp] theorem raiseCount_thr (c : BitVec 16) (u : Nat) (k r : List Byte) : (raiseCount c u k r s).thr = s.thr := keeps rfl
@[simp] theorem raiseCount_mem (c : BitVec 16) (u : Nat) (k r : List Byte) : (raiseCount c u k r s).mem = s.mem := keeps rfl
@[simp] theorem raiseCount_gran (c : BitVec 16) (u : Nat) (k r : List Byte) : (raiseCount c u k r s).gran = s.gran := keeps rfl
@[simp] theorem raiseCount_clips (c : BitVec 16) (u : Nat) (k r : List Byte) : (raiseCount c u k r s).clips = s.clips := keeps rfl
@[simp] theorem raiseCount_plant (c : BitVec 16) (u : Nat) (k r : List Byte) : (raiseCount c u k r s).plant = s.plant := keeps rfl
@[simp] theorem raiseCount_spk (c : BitVec 16) (u : Nat) (k r : List Byte) : (raiseCount c u k r s).spk = s.spk := keeps rfl
@[simp] theorem raiseCount_motor (c : BitVec 16) (u : Nat) (k r : List Byte) : (raiseCount c u k r s).motor = s.motor := keeps rfl
@[simp] theorem raiseCount_endur (c : BitVec 16) (u : Nat) (k r : List Byte) : (raiseCount c u k r s).endur = s.endur := keeps rfl
@[simp] theorem raiseCount_sleep (c : BitVec 16) (u : Nat) (k r : List Byte) : (raiseCount c u k r s).sleep = s.sleep := keeps rfl
@[simp] theorem raiseCount_lands (c : BitVec 16) (u : Nat) (k r : List Byte) : (raiseCount c u k r s).lands = s.lands := keeps rfl
@[simp] theorem raiseCount_jtag (c : BitVec 16) (u : Nat) (k r : List Byte) : (raiseCount c u k r s).jtag = s.jtag := keeps rfl
@[simp] theorem raiseCount_cross (c : BitVec 16) (u : Nat) (k r : List Byte) : (raiseCount c u k r s).cross = s.cross := keeps rfl

/-! A fault cleared: only the status. -/

@[simp] theorem clear_now (c : BitVec 16) (u : Nat) : (clear c u s).now = s.now := keeps rfl
@[simp] theorem clear_pending (c : BitVec 16) (u : Nat) : (clear c u s).pending = s.pending := keeps rfl
@[simp] theorem clear_freeCtr (c : BitVec 16) (u : Nat) : (clear c u s).freeCtr = s.freeCtr := keeps rfl
@[simp] theorem clear_eui48 (c : BitVec 16) (u : Nat) : (clear c u s).eui48 = s.eui48 := keeps rfl
@[simp] theorem clear_start (c : BitVec 16) (u : Nat) : (clear c u s).start = s.start := keeps rfl
@[simp] theorem clear_aon (c : BitVec 16) (u : Nat) : (clear c u s).aon = s.aon := keeps rfl
@[simp] theorem clear_straps (c : BitVec 16) (u : Nat) : (clear c u s).straps = s.straps := keeps rfl
@[simp] theorem clear_log (c : BitVec 16) (u : Nat) : (clear c u s).log = s.log := keeps rfl
@[simp] theorem clear_well (c : BitVec 16) (u : Nat) : (clear c u s).well = s.well := keeps rfl
@[simp] theorem clear_history (c : BitVec 16) (u : Nat) : (clear c u s).history = s.history := keeps rfl
@[simp] theorem clear_ports (c : BitVec 16) (u : Nat) : (clear c u s).ports = s.ports := keeps rfl
@[simp] theorem clear_podl (c : BitVec 16) (u : Nat) : (clear c u s).podl = s.podl := keeps rfl
@[simp] theorem clear_switch (c : BitVec 16) (u : Nat) : (clear c u s).switch = s.switch := keeps rfl
@[simp] theorem clear_gptp (c : BitVec 16) (u : Nat) : (clear c u s).gptp = s.gptp := keeps rfl
@[simp] theorem clear_streams (c : BitVec 16) (u : Nat) : (clear c u s).streams = s.streams := keeps rfl
@[simp] theorem clear_routing (c : BitVec 16) (u : Nat) : (clear c u s).routing = s.routing := keeps rfl
@[simp] theorem clear_red (c : BitVec 16) (u : Nat) : (clear c u s).red = s.red := keeps rfl
@[simp] theorem clear_sec (c : BitVec 16) (u : Nat) : (clear c u s).sec = s.sec := keeps rfl
@[simp] theorem clear_bpi (c : BitVec 16) (u : Nat) : (clear c u s).bpi = s.bpi := keeps rfl
@[simp] theorem clear_bpo (c : BitVec 16) (u : Nat) : (clear c u s).bpo = s.bpo := keeps rfl
@[simp] theorem clear_tdm (c : BitVec 16) (u : Nat) : (clear c u s).tdm = s.tdm := keeps rfl
@[simp] theorem clear_mic (c : BitVec 16) (u : Nat) : (clear c u s).mic = s.mic := keeps rfl
@[simp] theorem clear_usb (c : BitVec 16) (u : Nat) : (clear c u s).usb = s.usb := keeps rfl
@[simp] theorem clear_blocks (c : BitVec 16) (u : Nat) : (clear c u s).blocks = s.blocks := keeps rfl
@[simp] theorem clear_thr (c : BitVec 16) (u : Nat) : (clear c u s).thr = s.thr := keeps rfl
@[simp] theorem clear_mem (c : BitVec 16) (u : Nat) : (clear c u s).mem = s.mem := keeps rfl
@[simp] theorem clear_gran (c : BitVec 16) (u : Nat) : (clear c u s).gran = s.gran := keeps rfl
@[simp] theorem clear_clips (c : BitVec 16) (u : Nat) : (clear c u s).clips = s.clips := keeps rfl
@[simp] theorem clear_plant (c : BitVec 16) (u : Nat) : (clear c u s).plant = s.plant := keeps rfl
@[simp] theorem clear_spk (c : BitVec 16) (u : Nat) : (clear c u s).spk = s.spk := keeps rfl
@[simp] theorem clear_motor (c : BitVec 16) (u : Nat) : (clear c u s).motor = s.motor := keeps rfl
@[simp] theorem clear_endur (c : BitVec 16) (u : Nat) : (clear c u s).endur = s.endur := keeps rfl
@[simp] theorem clear_sleep (c : BitVec 16) (u : Nat) : (clear c u s).sleep = s.sleep := keeps rfl
@[simp] theorem clear_lands (c : BitVec 16) (u : Nat) : (clear c u s).lands = s.lands := keeps rfl
@[simp] theorem clear_jtag (c : BitVec 16) (u : Nat) : (clear c u s).jtag = s.jtag := keeps rfl
@[simp] theorem clear_cross (c : BitVec 16) (u : Nat) : (clear c u s).cross = s.cross := keeps rfl

/-! A fault cleared for every unit. -/

@[simp] theorem clearAll_now (c : BitVec 16) : (clearAll c s).now = s.now := keeps rfl
@[simp] theorem clearAll_pending (c : BitVec 16) : (clearAll c s).pending = s.pending := keeps rfl
@[simp] theorem clearAll_freeCtr (c : BitVec 16) : (clearAll c s).freeCtr = s.freeCtr := keeps rfl
@[simp] theorem clearAll_eui48 (c : BitVec 16) : (clearAll c s).eui48 = s.eui48 := keeps rfl
@[simp] theorem clearAll_start (c : BitVec 16) : (clearAll c s).start = s.start := keeps rfl
@[simp] theorem clearAll_aon (c : BitVec 16) : (clearAll c s).aon = s.aon := keeps rfl
@[simp] theorem clearAll_straps (c : BitVec 16) : (clearAll c s).straps = s.straps := keeps rfl
@[simp] theorem clearAll_log (c : BitVec 16) : (clearAll c s).log = s.log := keeps rfl
@[simp] theorem clearAll_well (c : BitVec 16) : (clearAll c s).well = s.well := keeps rfl
@[simp] theorem clearAll_history (c : BitVec 16) : (clearAll c s).history = s.history := keeps rfl
@[simp] theorem clearAll_ports (c : BitVec 16) : (clearAll c s).ports = s.ports := keeps rfl
@[simp] theorem clearAll_podl (c : BitVec 16) : (clearAll c s).podl = s.podl := keeps rfl
@[simp] theorem clearAll_switch (c : BitVec 16) : (clearAll c s).switch = s.switch := keeps rfl
@[simp] theorem clearAll_gptp (c : BitVec 16) : (clearAll c s).gptp = s.gptp := keeps rfl
@[simp] theorem clearAll_streams (c : BitVec 16) : (clearAll c s).streams = s.streams := keeps rfl
@[simp] theorem clearAll_routing (c : BitVec 16) : (clearAll c s).routing = s.routing := keeps rfl
@[simp] theorem clearAll_red (c : BitVec 16) : (clearAll c s).red = s.red := keeps rfl
@[simp] theorem clearAll_sec (c : BitVec 16) : (clearAll c s).sec = s.sec := keeps rfl
@[simp] theorem clearAll_bpi (c : BitVec 16) : (clearAll c s).bpi = s.bpi := keeps rfl
@[simp] theorem clearAll_bpo (c : BitVec 16) : (clearAll c s).bpo = s.bpo := keeps rfl
@[simp] theorem clearAll_tdm (c : BitVec 16) : (clearAll c s).tdm = s.tdm := keeps rfl
@[simp] theorem clearAll_mic (c : BitVec 16) : (clearAll c s).mic = s.mic := keeps rfl
@[simp] theorem clearAll_usb (c : BitVec 16) : (clearAll c s).usb = s.usb := keeps rfl
@[simp] theorem clearAll_blocks (c : BitVec 16) : (clearAll c s).blocks = s.blocks := keeps rfl
@[simp] theorem clearAll_thr (c : BitVec 16) : (clearAll c s).thr = s.thr := keeps rfl
@[simp] theorem clearAll_mem (c : BitVec 16) : (clearAll c s).mem = s.mem := keeps rfl
@[simp] theorem clearAll_gran (c : BitVec 16) : (clearAll c s).gran = s.gran := keeps rfl
@[simp] theorem clearAll_clips (c : BitVec 16) : (clearAll c s).clips = s.clips := keeps rfl
@[simp] theorem clearAll_plant (c : BitVec 16) : (clearAll c s).plant = s.plant := keeps rfl
@[simp] theorem clearAll_spk (c : BitVec 16) : (clearAll c s).spk = s.spk := keeps rfl
@[simp] theorem clearAll_motor (c : BitVec 16) : (clearAll c s).motor = s.motor := keeps rfl
@[simp] theorem clearAll_endur (c : BitVec 16) : (clearAll c s).endur = s.endur := keeps rfl
@[simp] theorem clearAll_sleep (c : BitVec 16) : (clearAll c s).sleep = s.sleep := keeps rfl
@[simp] theorem clearAll_lands (c : BitVec 16) : (clearAll c s).lands = s.lands := keeps rfl
@[simp] theorem clearAll_jtag (c : BitVec 16) : (clearAll c s).jtag = s.jtag := keeps rfl
@[simp] theorem clearAll_cross (c : BitVec 16) : (clearAll c s).cross = s.cross := keeps rfl

/-! The LEDs brought up to date. -/

@[simp] theorem refreshLeds_now : (refreshLeds s).now = s.now := keeps rfl
@[simp] theorem refreshLeds_pending : (refreshLeds s).pending = s.pending := keeps rfl
@[simp] theorem refreshLeds_freeCtr : (refreshLeds s).freeCtr = s.freeCtr := keeps rfl
@[simp] theorem refreshLeds_eui48 : (refreshLeds s).eui48 = s.eui48 := keeps rfl
@[simp] theorem refreshLeds_start : (refreshLeds s).start = s.start := keeps rfl
@[simp] theorem refreshLeds_aon : (refreshLeds s).aon = s.aon := keeps rfl
@[simp] theorem refreshLeds_straps : (refreshLeds s).straps = s.straps := keeps rfl
@[simp] theorem refreshLeds_log : (refreshLeds s).log = s.log := keeps rfl
@[simp] theorem refreshLeds_well : (refreshLeds s).well = s.well := keeps rfl
@[simp] theorem refreshLeds_history : (refreshLeds s).history = s.history := keeps rfl
@[simp] theorem refreshLeds_ports : (refreshLeds s).ports = s.ports := keeps rfl
@[simp] theorem refreshLeds_podl : (refreshLeds s).podl = s.podl := keeps rfl
@[simp] theorem refreshLeds_switch : (refreshLeds s).switch = s.switch := keeps rfl
@[simp] theorem refreshLeds_gptp : (refreshLeds s).gptp = s.gptp := keeps rfl
@[simp] theorem refreshLeds_streams : (refreshLeds s).streams = s.streams := keeps rfl
@[simp] theorem refreshLeds_routing : (refreshLeds s).routing = s.routing := keeps rfl
@[simp] theorem refreshLeds_red : (refreshLeds s).red = s.red := keeps rfl
@[simp] theorem refreshLeds_sec : (refreshLeds s).sec = s.sec := keeps rfl
@[simp] theorem refreshLeds_bpi : (refreshLeds s).bpi = s.bpi := keeps rfl
@[simp] theorem refreshLeds_bpo : (refreshLeds s).bpo = s.bpo := keeps rfl
@[simp] theorem refreshLeds_tdm : (refreshLeds s).tdm = s.tdm := keeps rfl
@[simp] theorem refreshLeds_mic : (refreshLeds s).mic = s.mic := keeps rfl
@[simp] theorem refreshLeds_usb : (refreshLeds s).usb = s.usb := keeps rfl
@[simp] theorem refreshLeds_blocks : (refreshLeds s).blocks = s.blocks := keeps rfl
@[simp] theorem refreshLeds_thr : (refreshLeds s).thr = s.thr := keeps rfl
@[simp] theorem refreshLeds_mem : (refreshLeds s).mem = s.mem := keeps rfl
@[simp] theorem refreshLeds_gran : (refreshLeds s).gran = s.gran := keeps rfl
@[simp] theorem refreshLeds_clips : (refreshLeds s).clips = s.clips := keeps rfl
@[simp] theorem refreshLeds_plant : (refreshLeds s).plant = s.plant := keeps rfl
@[simp] theorem refreshLeds_spk : (refreshLeds s).spk = s.spk := keeps rfl
@[simp] theorem refreshLeds_motor : (refreshLeds s).motor = s.motor := keeps rfl
@[simp] theorem refreshLeds_endur : (refreshLeds s).endur = s.endur := keeps rfl
@[simp] theorem refreshLeds_sleep : (refreshLeds s).sleep = s.sleep := keeps rfl
@[simp] theorem refreshLeds_lands : (refreshLeds s).lands = s.lands := keeps rfl
@[simp] theorem refreshLeds_jtag : (refreshLeds s).jtag = s.jtag := keeps rfl
@[simp] theorem refreshLeds_cross : (refreshLeds s).cross = s.cross := keeps rfl

/-! A mode change: only the start unit, the status and the ash log. -/

@[simp] theorem modeChange_now (et : Nat) (m : Mode) (c : BitVec 16) : (modeChange et m c s).now = s.now := keeps rfl
@[simp] theorem modeChange_pending (et : Nat) (m : Mode) (c : BitVec 16) : (modeChange et m c s).pending = s.pending := keeps rfl
@[simp] theorem modeChange_freeCtr (et : Nat) (m : Mode) (c : BitVec 16) : (modeChange et m c s).freeCtr = s.freeCtr := keeps rfl
@[simp] theorem modeChange_eui48 (et : Nat) (m : Mode) (c : BitVec 16) : (modeChange et m c s).eui48 = s.eui48 := keeps rfl
@[simp] theorem modeChange_aon (et : Nat) (m : Mode) (c : BitVec 16) : (modeChange et m c s).aon = s.aon := keeps rfl
@[simp] theorem modeChange_straps (et : Nat) (m : Mode) (c : BitVec 16) : (modeChange et m c s).straps = s.straps := keeps rfl
@[simp] theorem modeChange_well (et : Nat) (m : Mode) (c : BitVec 16) : (modeChange et m c s).well = s.well := keeps rfl
@[simp] theorem modeChange_history (et : Nat) (m : Mode) (c : BitVec 16) : (modeChange et m c s).history = s.history := keeps rfl
@[simp] theorem modeChange_ports (et : Nat) (m : Mode) (c : BitVec 16) : (modeChange et m c s).ports = s.ports := keeps rfl
@[simp] theorem modeChange_podl (et : Nat) (m : Mode) (c : BitVec 16) : (modeChange et m c s).podl = s.podl := keeps rfl
@[simp] theorem modeChange_switch (et : Nat) (m : Mode) (c : BitVec 16) : (modeChange et m c s).switch = s.switch := keeps rfl
@[simp] theorem modeChange_gptp (et : Nat) (m : Mode) (c : BitVec 16) : (modeChange et m c s).gptp = s.gptp := keeps rfl
@[simp] theorem modeChange_streams (et : Nat) (m : Mode) (c : BitVec 16) : (modeChange et m c s).streams = s.streams := keeps rfl
@[simp] theorem modeChange_routing (et : Nat) (m : Mode) (c : BitVec 16) : (modeChange et m c s).routing = s.routing := keeps rfl
@[simp] theorem modeChange_red (et : Nat) (m : Mode) (c : BitVec 16) : (modeChange et m c s).red = s.red := keeps rfl
@[simp] theorem modeChange_sec (et : Nat) (m : Mode) (c : BitVec 16) : (modeChange et m c s).sec = s.sec := keeps rfl
@[simp] theorem modeChange_bpi (et : Nat) (m : Mode) (c : BitVec 16) : (modeChange et m c s).bpi = s.bpi := keeps rfl
@[simp] theorem modeChange_bpo (et : Nat) (m : Mode) (c : BitVec 16) : (modeChange et m c s).bpo = s.bpo := keeps rfl
@[simp] theorem modeChange_tdm (et : Nat) (m : Mode) (c : BitVec 16) : (modeChange et m c s).tdm = s.tdm := keeps rfl
@[simp] theorem modeChange_mic (et : Nat) (m : Mode) (c : BitVec 16) : (modeChange et m c s).mic = s.mic := keeps rfl
@[simp] theorem modeChange_usb (et : Nat) (m : Mode) (c : BitVec 16) : (modeChange et m c s).usb = s.usb := keeps rfl
@[simp] theorem modeChange_blocks (et : Nat) (m : Mode) (c : BitVec 16) : (modeChange et m c s).blocks = s.blocks := keeps rfl
@[simp] theorem modeChange_thr (et : Nat) (m : Mode) (c : BitVec 16) : (modeChange et m c s).thr = s.thr := keeps rfl
@[simp] theorem modeChange_mem (et : Nat) (m : Mode) (c : BitVec 16) : (modeChange et m c s).mem = s.mem := keeps rfl
@[simp] theorem modeChange_gran (et : Nat) (m : Mode) (c : BitVec 16) : (modeChange et m c s).gran = s.gran := keeps rfl
@[simp] theorem modeChange_clips (et : Nat) (m : Mode) (c : BitVec 16) : (modeChange et m c s).clips = s.clips := keeps rfl
@[simp] theorem modeChange_plant (et : Nat) (m : Mode) (c : BitVec 16) : (modeChange et m c s).plant = s.plant := keeps rfl
@[simp] theorem modeChange_spk (et : Nat) (m : Mode) (c : BitVec 16) : (modeChange et m c s).spk = s.spk := keeps rfl
@[simp] theorem modeChange_motor (et : Nat) (m : Mode) (c : BitVec 16) : (modeChange et m c s).motor = s.motor := keeps rfl
@[simp] theorem modeChange_endur (et : Nat) (m : Mode) (c : BitVec 16) : (modeChange et m c s).endur = s.endur := keeps rfl
@[simp] theorem modeChange_sleep (et : Nat) (m : Mode) (c : BitVec 16) : (modeChange et m c s).sleep = s.sleep := keeps rfl
@[simp] theorem modeChange_lands (et : Nat) (m : Mode) (c : BitVec 16) : (modeChange et m c s).lands = s.lands := keeps rfl
@[simp] theorem modeChange_jtag (et : Nat) (m : Mode) (c : BitVec 16) : (modeChange et m c s).jtag = s.jtag := keeps rfl
@[simp] theorem modeChange_cross (et : Nat) (m : Mode) (c : BitVec 16) : (modeChange et m c s).cross = s.cross := keeps rfl

/-! A repair event. -/

@[simp] theorem repairEvent_now (a b c d e f : Nat) : (repairEvent a b c d e f s).now = s.now := keeps rfl
@[simp] theorem repairEvent_pending (a b c d e f : Nat) : (repairEvent a b c d e f s).pending = s.pending := keeps rfl
@[simp] theorem repairEvent_freeCtr (a b c d e f : Nat) : (repairEvent a b c d e f s).freeCtr = s.freeCtr := keeps rfl
@[simp] theorem repairEvent_eui48 (a b c d e f : Nat) : (repairEvent a b c d e f s).eui48 = s.eui48 := keeps rfl
@[simp] theorem repairEvent_start (a b c d e f : Nat) : (repairEvent a b c d e f s).start = s.start := keeps rfl
@[simp] theorem repairEvent_aon (a b c d e f : Nat) : (repairEvent a b c d e f s).aon = s.aon := keeps rfl
@[simp] theorem repairEvent_straps (a b c d e f : Nat) : (repairEvent a b c d e f s).straps = s.straps := keeps rfl
@[simp] theorem repairEvent_well (a b c d e f : Nat) : (repairEvent a b c d e f s).well = s.well := keeps rfl
@[simp] theorem repairEvent_history (a b c d e f : Nat) : (repairEvent a b c d e f s).history = s.history := keeps rfl
@[simp] theorem repairEvent_ports (a b c d e f : Nat) : (repairEvent a b c d e f s).ports = s.ports := keeps rfl
@[simp] theorem repairEvent_podl (a b c d e f : Nat) : (repairEvent a b c d e f s).podl = s.podl := keeps rfl
@[simp] theorem repairEvent_switch (a b c d e f : Nat) : (repairEvent a b c d e f s).switch = s.switch := keeps rfl
@[simp] theorem repairEvent_gptp (a b c d e f : Nat) : (repairEvent a b c d e f s).gptp = s.gptp := keeps rfl
@[simp] theorem repairEvent_streams (a b c d e f : Nat) : (repairEvent a b c d e f s).streams = s.streams := keeps rfl
@[simp] theorem repairEvent_routing (a b c d e f : Nat) : (repairEvent a b c d e f s).routing = s.routing := keeps rfl
@[simp] theorem repairEvent_red (a b c d e f : Nat) : (repairEvent a b c d e f s).red = s.red := keeps rfl
@[simp] theorem repairEvent_sec (a b c d e f : Nat) : (repairEvent a b c d e f s).sec = s.sec := keeps rfl
@[simp] theorem repairEvent_bpi (a b c d e f : Nat) : (repairEvent a b c d e f s).bpi = s.bpi := keeps rfl
@[simp] theorem repairEvent_bpo (a b c d e f : Nat) : (repairEvent a b c d e f s).bpo = s.bpo := keeps rfl
@[simp] theorem repairEvent_tdm (a b c d e f : Nat) : (repairEvent a b c d e f s).tdm = s.tdm := keeps rfl
@[simp] theorem repairEvent_mic (a b c d e f : Nat) : (repairEvent a b c d e f s).mic = s.mic := keeps rfl
@[simp] theorem repairEvent_usb (a b c d e f : Nat) : (repairEvent a b c d e f s).usb = s.usb := keeps rfl
@[simp] theorem repairEvent_blocks (a b c d e f : Nat) : (repairEvent a b c d e f s).blocks = s.blocks := keeps rfl
@[simp] theorem repairEvent_thr (a b c d e f : Nat) : (repairEvent a b c d e f s).thr = s.thr := keeps rfl
@[simp] theorem repairEvent_mem (a b c d e f : Nat) : (repairEvent a b c d e f s).mem = s.mem := keeps rfl
@[simp] theorem repairEvent_gran (a b c d e f : Nat) : (repairEvent a b c d e f s).gran = s.gran := keeps rfl
@[simp] theorem repairEvent_clips (a b c d e f : Nat) : (repairEvent a b c d e f s).clips = s.clips := keeps rfl
@[simp] theorem repairEvent_plant (a b c d e f : Nat) : (repairEvent a b c d e f s).plant = s.plant := keeps rfl
@[simp] theorem repairEvent_spk (a b c d e f : Nat) : (repairEvent a b c d e f s).spk = s.spk := keeps rfl
@[simp] theorem repairEvent_motor (a b c d e f : Nat) : (repairEvent a b c d e f s).motor = s.motor := keeps rfl
@[simp] theorem repairEvent_endur (a b c d e f : Nat) : (repairEvent a b c d e f s).endur = s.endur := keeps rfl
@[simp] theorem repairEvent_sleep (a b c d e f : Nat) : (repairEvent a b c d e f s).sleep = s.sleep := keeps rfl
@[simp] theorem repairEvent_lands (a b c d e f : Nat) : (repairEvent a b c d e f s).lands = s.lands := keeps rfl
@[simp] theorem repairEvent_jtag (a b c d e f : Nat) : (repairEvent a b c d e f s).jtag = s.jtag := keeps rfl
@[simp] theorem repairEvent_cross (a b c d e f : Nat) : (repairEvent a b c d e f s).cross = s.cross := keeps rfl

/-! An intervention put in line: only the block clock. -/

@[simp] theorem makeDue_now (w : Intervention) : (makeDue w s).now = s.now := keeps rfl
@[simp] theorem makeDue_pending (w : Intervention) : (makeDue w s).pending = s.pending := keeps rfl
@[simp] theorem makeDue_freeCtr (w : Intervention) : (makeDue w s).freeCtr = s.freeCtr := keeps rfl
@[simp] theorem makeDue_eui48 (w : Intervention) : (makeDue w s).eui48 = s.eui48 := keeps rfl
@[simp] theorem makeDue_start (w : Intervention) : (makeDue w s).start = s.start := keeps rfl
@[simp] theorem makeDue_aon (w : Intervention) : (makeDue w s).aon = s.aon := keeps rfl
@[simp] theorem makeDue_straps (w : Intervention) : (makeDue w s).straps = s.straps := keeps rfl
@[simp] theorem makeDue_status (w : Intervention) : (makeDue w s).status = s.status := keeps rfl
@[simp] theorem makeDue_log (w : Intervention) : (makeDue w s).log = s.log := keeps rfl
@[simp] theorem makeDue_well (w : Intervention) : (makeDue w s).well = s.well := keeps rfl
@[simp] theorem makeDue_history (w : Intervention) : (makeDue w s).history = s.history := keeps rfl
@[simp] theorem makeDue_ports (w : Intervention) : (makeDue w s).ports = s.ports := keeps rfl
@[simp] theorem makeDue_podl (w : Intervention) : (makeDue w s).podl = s.podl := keeps rfl
@[simp] theorem makeDue_switch (w : Intervention) : (makeDue w s).switch = s.switch := keeps rfl
@[simp] theorem makeDue_gptp (w : Intervention) : (makeDue w s).gptp = s.gptp := keeps rfl
@[simp] theorem makeDue_streams (w : Intervention) : (makeDue w s).streams = s.streams := keeps rfl
@[simp] theorem makeDue_routing (w : Intervention) : (makeDue w s).routing = s.routing := keeps rfl
@[simp] theorem makeDue_red (w : Intervention) : (makeDue w s).red = s.red := keeps rfl
@[simp] theorem makeDue_sec (w : Intervention) : (makeDue w s).sec = s.sec := keeps rfl
@[simp] theorem makeDue_bpi (w : Intervention) : (makeDue w s).bpi = s.bpi := keeps rfl
@[simp] theorem makeDue_bpo (w : Intervention) : (makeDue w s).bpo = s.bpo := keeps rfl
@[simp] theorem makeDue_tdm (w : Intervention) : (makeDue w s).tdm = s.tdm := keeps rfl
@[simp] theorem makeDue_mic (w : Intervention) : (makeDue w s).mic = s.mic := keeps rfl
@[simp] theorem makeDue_usb (w : Intervention) : (makeDue w s).usb = s.usb := keeps rfl
@[simp] theorem makeDue_thr (w : Intervention) : (makeDue w s).thr = s.thr := keeps rfl
@[simp] theorem makeDue_mem (w : Intervention) : (makeDue w s).mem = s.mem := keeps rfl
@[simp] theorem makeDue_gran (w : Intervention) : (makeDue w s).gran = s.gran := keeps rfl
@[simp] theorem makeDue_clips (w : Intervention) : (makeDue w s).clips = s.clips := keeps rfl
@[simp] theorem makeDue_plant (w : Intervention) : (makeDue w s).plant = s.plant := keeps rfl
@[simp] theorem makeDue_spk (w : Intervention) : (makeDue w s).spk = s.spk := keeps rfl
@[simp] theorem makeDue_motor (w : Intervention) : (makeDue w s).motor = s.motor := keeps rfl
@[simp] theorem makeDue_endur (w : Intervention) : (makeDue w s).endur = s.endur := keeps rfl
@[simp] theorem makeDue_sleep (w : Intervention) : (makeDue w s).sleep = s.sleep := keeps rfl
@[simp] theorem makeDue_lands (w : Intervention) : (makeDue w s).lands = s.lands := keeps rfl
@[simp] theorem makeDue_jtag (w : Intervention) : (makeDue w s).jtag = s.jtag := keeps rfl
@[simp] theorem makeDue_cross (w : Intervention) : (makeDue w s).cross = s.cross := keeps rfl

/-! The failed-start counter set. -/

@[simp] theorem setCounter_now (n : Fin 4) : (setCounter n s).now = s.now := by unfold setCounter; split <;> rfl
@[simp] theorem setCounter_pending (n : Fin 4) : (setCounter n s).pending = s.pending := by unfold setCounter; split <;> rfl
@[simp] theorem setCounter_freeCtr (n : Fin 4) : (setCounter n s).freeCtr = s.freeCtr := by unfold setCounter; split <;> rfl
@[simp] theorem setCounter_eui48 (n : Fin 4) : (setCounter n s).eui48 = s.eui48 := by unfold setCounter; split <;> rfl
@[simp] theorem setCounter_start (n : Fin 4) : (setCounter n s).start = s.start := by unfold setCounter; split <;> rfl
@[simp] theorem setCounter_straps (n : Fin 4) : (setCounter n s).straps = s.straps := by unfold setCounter; split <;> rfl
@[simp] theorem setCounter_status (n : Fin 4) : (setCounter n s).status = s.status := by unfold setCounter; split <;> rfl
@[simp] theorem setCounter_well (n : Fin 4) : (setCounter n s).well = s.well := by unfold setCounter; split <;> rfl
@[simp] theorem setCounter_history (n : Fin 4) : (setCounter n s).history = s.history := by unfold setCounter; split <;> rfl
@[simp] theorem setCounter_ports (n : Fin 4) : (setCounter n s).ports = s.ports := by unfold setCounter; split <;> rfl
@[simp] theorem setCounter_podl (n : Fin 4) : (setCounter n s).podl = s.podl := by unfold setCounter; split <;> rfl
@[simp] theorem setCounter_switch (n : Fin 4) : (setCounter n s).switch = s.switch := by unfold setCounter; split <;> rfl
@[simp] theorem setCounter_gptp (n : Fin 4) : (setCounter n s).gptp = s.gptp := by unfold setCounter; split <;> rfl
@[simp] theorem setCounter_streams (n : Fin 4) : (setCounter n s).streams = s.streams := by unfold setCounter; split <;> rfl
@[simp] theorem setCounter_routing (n : Fin 4) : (setCounter n s).routing = s.routing := by unfold setCounter; split <;> rfl
@[simp] theorem setCounter_red (n : Fin 4) : (setCounter n s).red = s.red := by unfold setCounter; split <;> rfl
@[simp] theorem setCounter_sec (n : Fin 4) : (setCounter n s).sec = s.sec := by unfold setCounter; split <;> rfl
@[simp] theorem setCounter_bpi (n : Fin 4) : (setCounter n s).bpi = s.bpi := by unfold setCounter; split <;> rfl
@[simp] theorem setCounter_bpo (n : Fin 4) : (setCounter n s).bpo = s.bpo := by unfold setCounter; split <;> rfl
@[simp] theorem setCounter_tdm (n : Fin 4) : (setCounter n s).tdm = s.tdm := by unfold setCounter; split <;> rfl
@[simp] theorem setCounter_mic (n : Fin 4) : (setCounter n s).mic = s.mic := by unfold setCounter; split <;> rfl
@[simp] theorem setCounter_usb (n : Fin 4) : (setCounter n s).usb = s.usb := by unfold setCounter; split <;> rfl
@[simp] theorem setCounter_blocks (n : Fin 4) : (setCounter n s).blocks = s.blocks := by unfold setCounter; split <;> rfl
@[simp] theorem setCounter_thr (n : Fin 4) : (setCounter n s).thr = s.thr := by unfold setCounter; split <;> rfl
@[simp] theorem setCounter_mem (n : Fin 4) : (setCounter n s).mem = s.mem := by unfold setCounter; split <;> rfl
@[simp] theorem setCounter_gran (n : Fin 4) : (setCounter n s).gran = s.gran := by unfold setCounter; split <;> rfl
@[simp] theorem setCounter_clips (n : Fin 4) : (setCounter n s).clips = s.clips := by unfold setCounter; split <;> rfl
@[simp] theorem setCounter_plant (n : Fin 4) : (setCounter n s).plant = s.plant := by unfold setCounter; split <;> rfl
@[simp] theorem setCounter_spk (n : Fin 4) : (setCounter n s).spk = s.spk := by unfold setCounter; split <;> rfl
@[simp] theorem setCounter_motor (n : Fin 4) : (setCounter n s).motor = s.motor := by unfold setCounter; split <;> rfl
@[simp] theorem setCounter_endur (n : Fin 4) : (setCounter n s).endur = s.endur := by unfold setCounter; split <;> rfl
@[simp] theorem setCounter_sleep (n : Fin 4) : (setCounter n s).sleep = s.sleep := by unfold setCounter; split <;> rfl
@[simp] theorem setCounter_lands (n : Fin 4) : (setCounter n s).lands = s.lands := by unfold setCounter; split <;> rfl
@[simp] theorem setCounter_jtag (n : Fin 4) : (setCounter n s).jtag = s.jtag := by unfold setCounter; split <;> rfl
@[simp] theorem setCounter_cross (n : Fin 4) : (setCounter n s).cross = s.cross := by unfold setCounter; split <;> rfl

/-! A start report. -/

@[simp] theorem startReport_now : (startReport s).now = s.now := keeps rfl
@[simp] theorem startReport_pending : (startReport s).pending = s.pending := keeps rfl
@[simp] theorem startReport_freeCtr : (startReport s).freeCtr = s.freeCtr := keeps rfl
@[simp] theorem startReport_eui48 : (startReport s).eui48 = s.eui48 := keeps rfl
@[simp] theorem startReport_start : (startReport s).start = s.start := keeps rfl
@[simp] theorem startReport_aon : (startReport s).aon = s.aon := keeps rfl
@[simp] theorem startReport_straps : (startReport s).straps = s.straps := keeps rfl
@[simp] theorem startReport_log : (startReport s).log = s.log := keeps rfl
@[simp] theorem startReport_well : (startReport s).well = s.well := keeps rfl
@[simp] theorem startReport_history : (startReport s).history = s.history := keeps rfl
@[simp] theorem startReport_ports : (startReport s).ports = s.ports := keeps rfl
@[simp] theorem startReport_podl : (startReport s).podl = s.podl := keeps rfl
@[simp] theorem startReport_switch : (startReport s).switch = s.switch := keeps rfl
@[simp] theorem startReport_gptp : (startReport s).gptp = s.gptp := keeps rfl
@[simp] theorem startReport_streams : (startReport s).streams = s.streams := keeps rfl
@[simp] theorem startReport_routing : (startReport s).routing = s.routing := keeps rfl
@[simp] theorem startReport_red : (startReport s).red = s.red := keeps rfl
@[simp] theorem startReport_sec : (startReport s).sec = s.sec := keeps rfl
@[simp] theorem startReport_bpi : (startReport s).bpi = s.bpi := keeps rfl
@[simp] theorem startReport_bpo : (startReport s).bpo = s.bpo := keeps rfl
@[simp] theorem startReport_tdm : (startReport s).tdm = s.tdm := keeps rfl
@[simp] theorem startReport_mic : (startReport s).mic = s.mic := keeps rfl
@[simp] theorem startReport_usb : (startReport s).usb = s.usb := keeps rfl
@[simp] theorem startReport_blocks : (startReport s).blocks = s.blocks := keeps rfl
@[simp] theorem startReport_thr : (startReport s).thr = s.thr := keeps rfl
@[simp] theorem startReport_mem : (startReport s).mem = s.mem := keeps rfl
@[simp] theorem startReport_gran : (startReport s).gran = s.gran := keeps rfl
@[simp] theorem startReport_clips : (startReport s).clips = s.clips := keeps rfl
@[simp] theorem startReport_plant : (startReport s).plant = s.plant := keeps rfl
@[simp] theorem startReport_spk : (startReport s).spk = s.spk := keeps rfl
@[simp] theorem startReport_motor : (startReport s).motor = s.motor := keeps rfl
@[simp] theorem startReport_endur : (startReport s).endur = s.endur := keeps rfl
@[simp] theorem startReport_sleep : (startReport s).sleep = s.sleep := keeps rfl
@[simp] theorem startReport_lands : (startReport s).lands = s.lands := keeps rfl
@[simp] theorem startReport_jtag : (startReport s).jtag = s.jtag := keeps rfl
@[simp] theorem startReport_cross : (startReport s).cross = s.cross := keeps rfl

/-! A heartbeat. -/

@[simp] theorem heartbeat_now (at_ : Nat) : (heartbeat at_ s).now = s.now := keeps rfl
@[simp] theorem heartbeat_pending (at_ : Nat) : (heartbeat at_ s).pending = s.pending := keeps rfl
@[simp] theorem heartbeat_freeCtr (at_ : Nat) : (heartbeat at_ s).freeCtr = s.freeCtr := keeps rfl
@[simp] theorem heartbeat_eui48 (at_ : Nat) : (heartbeat at_ s).eui48 = s.eui48 := keeps rfl
@[simp] theorem heartbeat_start (at_ : Nat) : (heartbeat at_ s).start = s.start := keeps rfl
@[simp] theorem heartbeat_aon (at_ : Nat) : (heartbeat at_ s).aon = s.aon := keeps rfl
@[simp] theorem heartbeat_straps (at_ : Nat) : (heartbeat at_ s).straps = s.straps := keeps rfl
@[simp] theorem heartbeat_log (at_ : Nat) : (heartbeat at_ s).log = s.log := keeps rfl
@[simp] theorem heartbeat_well (at_ : Nat) : (heartbeat at_ s).well = s.well := keeps rfl
@[simp] theorem heartbeat_history (at_ : Nat) : (heartbeat at_ s).history = s.history := keeps rfl
@[simp] theorem heartbeat_ports (at_ : Nat) : (heartbeat at_ s).ports = s.ports := keeps rfl
@[simp] theorem heartbeat_podl (at_ : Nat) : (heartbeat at_ s).podl = s.podl := keeps rfl
@[simp] theorem heartbeat_switch (at_ : Nat) : (heartbeat at_ s).switch = s.switch := keeps rfl
@[simp] theorem heartbeat_gptp (at_ : Nat) : (heartbeat at_ s).gptp = s.gptp := keeps rfl
@[simp] theorem heartbeat_streams (at_ : Nat) : (heartbeat at_ s).streams = s.streams := keeps rfl
@[simp] theorem heartbeat_routing (at_ : Nat) : (heartbeat at_ s).routing = s.routing := keeps rfl
@[simp] theorem heartbeat_red (at_ : Nat) : (heartbeat at_ s).red = s.red := keeps rfl
@[simp] theorem heartbeat_sec (at_ : Nat) : (heartbeat at_ s).sec = s.sec := keeps rfl
@[simp] theorem heartbeat_bpi (at_ : Nat) : (heartbeat at_ s).bpi = s.bpi := keeps rfl
@[simp] theorem heartbeat_bpo (at_ : Nat) : (heartbeat at_ s).bpo = s.bpo := keeps rfl
@[simp] theorem heartbeat_tdm (at_ : Nat) : (heartbeat at_ s).tdm = s.tdm := keeps rfl
@[simp] theorem heartbeat_mic (at_ : Nat) : (heartbeat at_ s).mic = s.mic := keeps rfl
@[simp] theorem heartbeat_usb (at_ : Nat) : (heartbeat at_ s).usb = s.usb := keeps rfl
@[simp] theorem heartbeat_blocks (at_ : Nat) : (heartbeat at_ s).blocks = s.blocks := keeps rfl
@[simp] theorem heartbeat_thr (at_ : Nat) : (heartbeat at_ s).thr = s.thr := keeps rfl
@[simp] theorem heartbeat_mem (at_ : Nat) : (heartbeat at_ s).mem = s.mem := keeps rfl
@[simp] theorem heartbeat_gran (at_ : Nat) : (heartbeat at_ s).gran = s.gran := keeps rfl
@[simp] theorem heartbeat_clips (at_ : Nat) : (heartbeat at_ s).clips = s.clips := keeps rfl
@[simp] theorem heartbeat_plant (at_ : Nat) : (heartbeat at_ s).plant = s.plant := keeps rfl
@[simp] theorem heartbeat_spk (at_ : Nat) : (heartbeat at_ s).spk = s.spk := keeps rfl
@[simp] theorem heartbeat_motor (at_ : Nat) : (heartbeat at_ s).motor = s.motor := keeps rfl
@[simp] theorem heartbeat_endur (at_ : Nat) : (heartbeat at_ s).endur = s.endur := keeps rfl
@[simp] theorem heartbeat_sleep (at_ : Nat) : (heartbeat at_ s).sleep = s.sleep := keeps rfl
@[simp] theorem heartbeat_lands (at_ : Nat) : (heartbeat at_ s).lands = s.lands := keeps rfl
@[simp] theorem heartbeat_jtag (at_ : Nat) : (heartbeat at_ s).jtag = s.jtag := keeps rfl
@[simp] theorem heartbeat_cross (at_ : Nat) : (heartbeat at_ s).cross = s.cross := keeps rfl

/-! A telemetry frame. -/

@[simp] theorem telemetry_now : (telemetry s).now = s.now := keeps rfl
@[simp] theorem telemetry_pending : (telemetry s).pending = s.pending := keeps rfl
@[simp] theorem telemetry_freeCtr : (telemetry s).freeCtr = s.freeCtr := keeps rfl
@[simp] theorem telemetry_eui48 : (telemetry s).eui48 = s.eui48 := keeps rfl
@[simp] theorem telemetry_start : (telemetry s).start = s.start := keeps rfl
@[simp] theorem telemetry_aon : (telemetry s).aon = s.aon := keeps rfl
@[simp] theorem telemetry_straps : (telemetry s).straps = s.straps := keeps rfl
@[simp] theorem telemetry_log : (telemetry s).log = s.log := keeps rfl
@[simp] theorem telemetry_well : (telemetry s).well = s.well := keeps rfl
@[simp] theorem telemetry_history : (telemetry s).history = s.history := keeps rfl
@[simp] theorem telemetry_ports : (telemetry s).ports = s.ports := keeps rfl
@[simp] theorem telemetry_podl : (telemetry s).podl = s.podl := keeps rfl
@[simp] theorem telemetry_switch : (telemetry s).switch = s.switch := keeps rfl
@[simp] theorem telemetry_gptp : (telemetry s).gptp = s.gptp := keeps rfl
@[simp] theorem telemetry_streams : (telemetry s).streams = s.streams := keeps rfl
@[simp] theorem telemetry_routing : (telemetry s).routing = s.routing := keeps rfl
@[simp] theorem telemetry_red : (telemetry s).red = s.red := keeps rfl
@[simp] theorem telemetry_sec : (telemetry s).sec = s.sec := keeps rfl
@[simp] theorem telemetry_bpi : (telemetry s).bpi = s.bpi := keeps rfl
@[simp] theorem telemetry_bpo : (telemetry s).bpo = s.bpo := keeps rfl
@[simp] theorem telemetry_tdm : (telemetry s).tdm = s.tdm := keeps rfl
@[simp] theorem telemetry_mic : (telemetry s).mic = s.mic := keeps rfl
@[simp] theorem telemetry_usb : (telemetry s).usb = s.usb := keeps rfl
@[simp] theorem telemetry_blocks : (telemetry s).blocks = s.blocks := keeps rfl
@[simp] theorem telemetry_mem : (telemetry s).mem = s.mem := keeps rfl
@[simp] theorem telemetry_gran : (telemetry s).gran = s.gran := keeps rfl
@[simp] theorem telemetry_clips : (telemetry s).clips = s.clips := keeps rfl
@[simp] theorem telemetry_endur : (telemetry s).endur = s.endur := keeps rfl
@[simp] theorem telemetry_sleep : (telemetry s).sleep = s.sleep := keeps rfl
@[simp] theorem telemetry_lands : (telemetry s).lands = s.lands := keeps rfl
@[simp] theorem telemetry_jtag : (telemetry s).jtag = s.jtag := keeps rfl
@[simp] theorem telemetry_cross : (telemetry s).cross = s.cross := keeps rfl

/-! An own frame handed to the ports. -/

@[simp] theorem sendOwn_now (f : NetFrame) : (sendOwn f s).now = s.now := keeps rfl
@[simp] theorem sendOwn_pending (f : NetFrame) : (sendOwn f s).pending = s.pending := keeps rfl
@[simp] theorem sendOwn_freeCtr (f : NetFrame) : (sendOwn f s).freeCtr = s.freeCtr := keeps rfl
@[simp] theorem sendOwn_eui48 (f : NetFrame) : (sendOwn f s).eui48 = s.eui48 := keeps rfl
@[simp] theorem sendOwn_start (f : NetFrame) : (sendOwn f s).start = s.start := keeps rfl
@[simp] theorem sendOwn_aon (f : NetFrame) : (sendOwn f s).aon = s.aon := keeps rfl
@[simp] theorem sendOwn_straps (f : NetFrame) : (sendOwn f s).straps = s.straps := keeps rfl
@[simp] theorem sendOwn_status (f : NetFrame) : (sendOwn f s).status = s.status := keeps rfl
@[simp] theorem sendOwn_log (f : NetFrame) : (sendOwn f s).log = s.log := keeps rfl
@[simp] theorem sendOwn_well (f : NetFrame) : (sendOwn f s).well = s.well := keeps rfl
@[simp] theorem sendOwn_history (f : NetFrame) : (sendOwn f s).history = s.history := keeps rfl
@[simp] theorem sendOwn_podl (f : NetFrame) : (sendOwn f s).podl = s.podl := keeps rfl
@[simp] theorem sendOwn_switch (f : NetFrame) : (sendOwn f s).switch = s.switch := keeps rfl
@[simp] theorem sendOwn_gptp (f : NetFrame) : (sendOwn f s).gptp = s.gptp := keeps rfl
@[simp] theorem sendOwn_routing (f : NetFrame) : (sendOwn f s).routing = s.routing := keeps rfl
@[simp] theorem sendOwn_red (f : NetFrame) : (sendOwn f s).red = s.red := keeps rfl
@[simp] theorem sendOwn_sec (f : NetFrame) : (sendOwn f s).sec = s.sec := keeps rfl
@[simp] theorem sendOwn_bpi (f : NetFrame) : (sendOwn f s).bpi = s.bpi := keeps rfl
@[simp] theorem sendOwn_bpo (f : NetFrame) : (sendOwn f s).bpo = s.bpo := keeps rfl
@[simp] theorem sendOwn_tdm (f : NetFrame) : (sendOwn f s).tdm = s.tdm := keeps rfl
@[simp] theorem sendOwn_mic (f : NetFrame) : (sendOwn f s).mic = s.mic := keeps rfl
@[simp] theorem sendOwn_usb (f : NetFrame) : (sendOwn f s).usb = s.usb := keeps rfl
@[simp] theorem sendOwn_blocks (f : NetFrame) : (sendOwn f s).blocks = s.blocks := keeps rfl
@[simp] theorem sendOwn_thr (f : NetFrame) : (sendOwn f s).thr = s.thr := keeps rfl
@[simp] theorem sendOwn_mem (f : NetFrame) : (sendOwn f s).mem = s.mem := keeps rfl
@[simp] theorem sendOwn_gran (f : NetFrame) : (sendOwn f s).gran = s.gran := keeps rfl
@[simp] theorem sendOwn_clips (f : NetFrame) : (sendOwn f s).clips = s.clips := keeps rfl
@[simp] theorem sendOwn_plant (f : NetFrame) : (sendOwn f s).plant = s.plant := keeps rfl
@[simp] theorem sendOwn_spk (f : NetFrame) : (sendOwn f s).spk = s.spk := keeps rfl
@[simp] theorem sendOwn_motor (f : NetFrame) : (sendOwn f s).motor = s.motor := keeps rfl
@[simp] theorem sendOwn_endur (f : NetFrame) : (sendOwn f s).endur = s.endur := keeps rfl
@[simp] theorem sendOwn_sleep (f : NetFrame) : (sendOwn f s).sleep = s.sleep := keeps rfl
@[simp] theorem sendOwn_lands (f : NetFrame) : (sendOwn f s).lands = s.lands := keeps rfl
@[simp] theorem sendOwn_jtag (f : NetFrame) : (sendOwn f s).jtag = s.jtag := keeps rfl
@[simp] theorem sendOwn_cross (f : NetFrame) : (sendOwn f s).cross = s.cross := keeps rfl

/-! A frame of the tenant channel. -/

@[simp] theorem sendTenant_now (f : NetFrame) : (sendTenant f s).now = s.now := sendTenant_aux s f (·.now) (fun _ _ _ => rfl)
@[simp] theorem sendTenant_pending (f : NetFrame) : (sendTenant f s).pending = s.pending := sendTenant_aux s f (·.pending) (fun _ _ _ => rfl)
@[simp] theorem sendTenant_freeCtr (f : NetFrame) : (sendTenant f s).freeCtr = s.freeCtr := sendTenant_aux s f (·.freeCtr) (fun _ _ _ => rfl)
@[simp] theorem sendTenant_eui48 (f : NetFrame) : (sendTenant f s).eui48 = s.eui48 := sendTenant_aux s f (·.eui48) (fun _ _ _ => rfl)
@[simp] theorem sendTenant_start (f : NetFrame) : (sendTenant f s).start = s.start := sendTenant_aux s f (·.start) (fun _ _ _ => rfl)
@[simp] theorem sendTenant_aon (f : NetFrame) : (sendTenant f s).aon = s.aon := sendTenant_aux s f (·.aon) (fun _ _ _ => rfl)
@[simp] theorem sendTenant_straps (f : NetFrame) : (sendTenant f s).straps = s.straps := sendTenant_aux s f (·.straps) (fun _ _ _ => rfl)
@[simp] theorem sendTenant_status (f : NetFrame) : (sendTenant f s).status = s.status := sendTenant_aux s f (·.status) (fun _ _ _ => rfl)
@[simp] theorem sendTenant_log (f : NetFrame) : (sendTenant f s).log = s.log := sendTenant_aux s f (·.log) (fun _ _ _ => rfl)
@[simp] theorem sendTenant_well (f : NetFrame) : (sendTenant f s).well = s.well := sendTenant_aux s f (·.well) (fun _ _ _ => rfl)
@[simp] theorem sendTenant_history (f : NetFrame) : (sendTenant f s).history = s.history := sendTenant_aux s f (·.history) (fun _ _ _ => rfl)
@[simp] theorem sendTenant_podl (f : NetFrame) : (sendTenant f s).podl = s.podl := sendTenant_aux s f (·.podl) (fun _ _ _ => rfl)
@[simp] theorem sendTenant_switch (f : NetFrame) : (sendTenant f s).switch = s.switch := sendTenant_aux s f (·.switch) (fun _ _ _ => rfl)
@[simp] theorem sendTenant_gptp (f : NetFrame) : (sendTenant f s).gptp = s.gptp := sendTenant_aux s f (·.gptp) (fun _ _ _ => rfl)
@[simp] theorem sendTenant_routing (f : NetFrame) : (sendTenant f s).routing = s.routing := sendTenant_aux s f (·.routing) (fun _ _ _ => rfl)
@[simp] theorem sendTenant_red (f : NetFrame) : (sendTenant f s).red = s.red := sendTenant_aux s f (·.red) (fun _ _ _ => rfl)
@[simp] theorem sendTenant_bpi (f : NetFrame) : (sendTenant f s).bpi = s.bpi := sendTenant_aux s f (·.bpi) (fun _ _ _ => rfl)
@[simp] theorem sendTenant_bpo (f : NetFrame) : (sendTenant f s).bpo = s.bpo := sendTenant_aux s f (·.bpo) (fun _ _ _ => rfl)
@[simp] theorem sendTenant_tdm (f : NetFrame) : (sendTenant f s).tdm = s.tdm := sendTenant_aux s f (·.tdm) (fun _ _ _ => rfl)
@[simp] theorem sendTenant_mic (f : NetFrame) : (sendTenant f s).mic = s.mic := sendTenant_aux s f (·.mic) (fun _ _ _ => rfl)
@[simp] theorem sendTenant_usb (f : NetFrame) : (sendTenant f s).usb = s.usb := sendTenant_aux s f (·.usb) (fun _ _ _ => rfl)
@[simp] theorem sendTenant_blocks (f : NetFrame) : (sendTenant f s).blocks = s.blocks := sendTenant_aux s f (·.blocks) (fun _ _ _ => rfl)
@[simp] theorem sendTenant_thr (f : NetFrame) : (sendTenant f s).thr = s.thr := sendTenant_aux s f (·.thr) (fun _ _ _ => rfl)
@[simp] theorem sendTenant_mem (f : NetFrame) : (sendTenant f s).mem = s.mem := sendTenant_aux s f (·.mem) (fun _ _ _ => rfl)
@[simp] theorem sendTenant_gran (f : NetFrame) : (sendTenant f s).gran = s.gran := sendTenant_aux s f (·.gran) (fun _ _ _ => rfl)
@[simp] theorem sendTenant_clips (f : NetFrame) : (sendTenant f s).clips = s.clips := sendTenant_aux s f (·.clips) (fun _ _ _ => rfl)
@[simp] theorem sendTenant_plant (f : NetFrame) : (sendTenant f s).plant = s.plant := sendTenant_aux s f (·.plant) (fun _ _ _ => rfl)
@[simp] theorem sendTenant_spk (f : NetFrame) : (sendTenant f s).spk = s.spk := sendTenant_aux s f (·.spk) (fun _ _ _ => rfl)
@[simp] theorem sendTenant_motor (f : NetFrame) : (sendTenant f s).motor = s.motor := sendTenant_aux s f (·.motor) (fun _ _ _ => rfl)
@[simp] theorem sendTenant_endur (f : NetFrame) : (sendTenant f s).endur = s.endur := sendTenant_aux s f (·.endur) (fun _ _ _ => rfl)
@[simp] theorem sendTenant_sleep (f : NetFrame) : (sendTenant f s).sleep = s.sleep := sendTenant_aux s f (·.sleep) (fun _ _ _ => rfl)
@[simp] theorem sendTenant_lands (f : NetFrame) : (sendTenant f s).lands = s.lands := sendTenant_aux s f (·.lands) (fun _ _ _ => rfl)
@[simp] theorem sendTenant_jtag (f : NetFrame) : (sendTenant f s).jtag = s.jtag := sendTenant_aux s f (·.jtag) (fun _ _ _ => rfl)
@[simp] theorem sendTenant_cross (f : NetFrame) : (sendTenant f s).cross = s.cross := sendTenant_aux s f (·.cross) (fun _ _ _ => rfl)

/-! A frame of the announcement channel. -/

@[simp] theorem sendAnnounce_now (f : NetFrame) : (sendAnnounce f s).now = s.now := sendAnnounce_aux s f (·.now) (fun _ _ _ => rfl)
@[simp] theorem sendAnnounce_pending (f : NetFrame) : (sendAnnounce f s).pending = s.pending := sendAnnounce_aux s f (·.pending) (fun _ _ _ => rfl)
@[simp] theorem sendAnnounce_freeCtr (f : NetFrame) : (sendAnnounce f s).freeCtr = s.freeCtr := sendAnnounce_aux s f (·.freeCtr) (fun _ _ _ => rfl)
@[simp] theorem sendAnnounce_eui48 (f : NetFrame) : (sendAnnounce f s).eui48 = s.eui48 := sendAnnounce_aux s f (·.eui48) (fun _ _ _ => rfl)
@[simp] theorem sendAnnounce_start (f : NetFrame) : (sendAnnounce f s).start = s.start := sendAnnounce_aux s f (·.start) (fun _ _ _ => rfl)
@[simp] theorem sendAnnounce_aon (f : NetFrame) : (sendAnnounce f s).aon = s.aon := sendAnnounce_aux s f (·.aon) (fun _ _ _ => rfl)
@[simp] theorem sendAnnounce_straps (f : NetFrame) : (sendAnnounce f s).straps = s.straps := sendAnnounce_aux s f (·.straps) (fun _ _ _ => rfl)
@[simp] theorem sendAnnounce_status (f : NetFrame) : (sendAnnounce f s).status = s.status := sendAnnounce_aux s f (·.status) (fun _ _ _ => rfl)
@[simp] theorem sendAnnounce_log (f : NetFrame) : (sendAnnounce f s).log = s.log := sendAnnounce_aux s f (·.log) (fun _ _ _ => rfl)
@[simp] theorem sendAnnounce_well (f : NetFrame) : (sendAnnounce f s).well = s.well := sendAnnounce_aux s f (·.well) (fun _ _ _ => rfl)
@[simp] theorem sendAnnounce_history (f : NetFrame) : (sendAnnounce f s).history = s.history := sendAnnounce_aux s f (·.history) (fun _ _ _ => rfl)
@[simp] theorem sendAnnounce_podl (f : NetFrame) : (sendAnnounce f s).podl = s.podl := sendAnnounce_aux s f (·.podl) (fun _ _ _ => rfl)
@[simp] theorem sendAnnounce_switch (f : NetFrame) : (sendAnnounce f s).switch = s.switch := sendAnnounce_aux s f (·.switch) (fun _ _ _ => rfl)
@[simp] theorem sendAnnounce_gptp (f : NetFrame) : (sendAnnounce f s).gptp = s.gptp := sendAnnounce_aux s f (·.gptp) (fun _ _ _ => rfl)
@[simp] theorem sendAnnounce_routing (f : NetFrame) : (sendAnnounce f s).routing = s.routing := sendAnnounce_aux s f (·.routing) (fun _ _ _ => rfl)
@[simp] theorem sendAnnounce_red (f : NetFrame) : (sendAnnounce f s).red = s.red := sendAnnounce_aux s f (·.red) (fun _ _ _ => rfl)
@[simp] theorem sendAnnounce_bpi (f : NetFrame) : (sendAnnounce f s).bpi = s.bpi := sendAnnounce_aux s f (·.bpi) (fun _ _ _ => rfl)
@[simp] theorem sendAnnounce_bpo (f : NetFrame) : (sendAnnounce f s).bpo = s.bpo := sendAnnounce_aux s f (·.bpo) (fun _ _ _ => rfl)
@[simp] theorem sendAnnounce_tdm (f : NetFrame) : (sendAnnounce f s).tdm = s.tdm := sendAnnounce_aux s f (·.tdm) (fun _ _ _ => rfl)
@[simp] theorem sendAnnounce_mic (f : NetFrame) : (sendAnnounce f s).mic = s.mic := sendAnnounce_aux s f (·.mic) (fun _ _ _ => rfl)
@[simp] theorem sendAnnounce_usb (f : NetFrame) : (sendAnnounce f s).usb = s.usb := sendAnnounce_aux s f (·.usb) (fun _ _ _ => rfl)
@[simp] theorem sendAnnounce_blocks (f : NetFrame) : (sendAnnounce f s).blocks = s.blocks := sendAnnounce_aux s f (·.blocks) (fun _ _ _ => rfl)
@[simp] theorem sendAnnounce_thr (f : NetFrame) : (sendAnnounce f s).thr = s.thr := sendAnnounce_aux s f (·.thr) (fun _ _ _ => rfl)
@[simp] theorem sendAnnounce_mem (f : NetFrame) : (sendAnnounce f s).mem = s.mem := sendAnnounce_aux s f (·.mem) (fun _ _ _ => rfl)
@[simp] theorem sendAnnounce_gran (f : NetFrame) : (sendAnnounce f s).gran = s.gran := sendAnnounce_aux s f (·.gran) (fun _ _ _ => rfl)
@[simp] theorem sendAnnounce_clips (f : NetFrame) : (sendAnnounce f s).clips = s.clips := sendAnnounce_aux s f (·.clips) (fun _ _ _ => rfl)
@[simp] theorem sendAnnounce_plant (f : NetFrame) : (sendAnnounce f s).plant = s.plant := sendAnnounce_aux s f (·.plant) (fun _ _ _ => rfl)
@[simp] theorem sendAnnounce_spk (f : NetFrame) : (sendAnnounce f s).spk = s.spk := sendAnnounce_aux s f (·.spk) (fun _ _ _ => rfl)
@[simp] theorem sendAnnounce_motor (f : NetFrame) : (sendAnnounce f s).motor = s.motor := sendAnnounce_aux s f (·.motor) (fun _ _ _ => rfl)
@[simp] theorem sendAnnounce_endur (f : NetFrame) : (sendAnnounce f s).endur = s.endur := sendAnnounce_aux s f (·.endur) (fun _ _ _ => rfl)
@[simp] theorem sendAnnounce_sleep (f : NetFrame) : (sendAnnounce f s).sleep = s.sleep := sendAnnounce_aux s f (·.sleep) (fun _ _ _ => rfl)
@[simp] theorem sendAnnounce_lands (f : NetFrame) : (sendAnnounce f s).lands = s.lands := sendAnnounce_aux s f (·.lands) (fun _ _ _ => rfl)
@[simp] theorem sendAnnounce_jtag (f : NetFrame) : (sendAnnounce f s).jtag = s.jtag := sendAnnounce_aux s f (·.jtag) (fun _ _ _ => rfl)
@[simp] theorem sendAnnounce_cross (f : NetFrame) : (sendAnnounce f s).cross = s.cross := sendAnnounce_aux s f (·.cross) (fun _ _ _ => rfl)

/-! The network path emptied into the ports. -/

@[simp] theorem pump_now : (pump s).now = s.now := pump_aux s (·.now) (fun _ _ _ _ _ => rfl)
@[simp] theorem pump_pending : (pump s).pending = s.pending := pump_aux s (·.pending) (fun _ _ _ _ _ => rfl)
@[simp] theorem pump_freeCtr : (pump s).freeCtr = s.freeCtr := pump_aux s (·.freeCtr) (fun _ _ _ _ _ => rfl)
@[simp] theorem pump_eui48 : (pump s).eui48 = s.eui48 := pump_aux s (·.eui48) (fun _ _ _ _ _ => rfl)
@[simp] theorem pump_start : (pump s).start = s.start := pump_aux s (·.start) (fun _ _ _ _ _ => rfl)
@[simp] theorem pump_aon : (pump s).aon = s.aon := pump_aux s (·.aon) (fun _ _ _ _ _ => rfl)
@[simp] theorem pump_straps : (pump s).straps = s.straps := pump_aux s (·.straps) (fun _ _ _ _ _ => rfl)
@[simp] theorem pump_log : (pump s).log = s.log := pump_aux s (·.log) (fun _ _ _ _ _ => rfl)
@[simp] theorem pump_well : (pump s).well = s.well := pump_aux s (·.well) (fun _ _ _ _ _ => rfl)
@[simp] theorem pump_history : (pump s).history = s.history := pump_aux s (·.history) (fun _ _ _ _ _ => rfl)
@[simp] theorem pump_podl : (pump s).podl = s.podl := pump_aux s (·.podl) (fun _ _ _ _ _ => rfl)
@[simp] theorem pump_switch : (pump s).switch = s.switch := pump_aux s (·.switch) (fun _ _ _ _ _ => rfl)
@[simp] theorem pump_gptp : (pump s).gptp = s.gptp := pump_aux s (·.gptp) (fun _ _ _ _ _ => rfl)
@[simp] theorem pump_routing : (pump s).routing = s.routing := pump_aux s (·.routing) (fun _ _ _ _ _ => rfl)
@[simp] theorem pump_red : (pump s).red = s.red := pump_aux s (·.red) (fun _ _ _ _ _ => rfl)
@[simp] theorem pump_bpi : (pump s).bpi = s.bpi := pump_aux s (·.bpi) (fun _ _ _ _ _ => rfl)
@[simp] theorem pump_bpo : (pump s).bpo = s.bpo := pump_aux s (·.bpo) (fun _ _ _ _ _ => rfl)
@[simp] theorem pump_tdm : (pump s).tdm = s.tdm := pump_aux s (·.tdm) (fun _ _ _ _ _ => rfl)
@[simp] theorem pump_mic : (pump s).mic = s.mic := pump_aux s (·.mic) (fun _ _ _ _ _ => rfl)
@[simp] theorem pump_usb : (pump s).usb = s.usb := pump_aux s (·.usb) (fun _ _ _ _ _ => rfl)
@[simp] theorem pump_blocks : (pump s).blocks = s.blocks := pump_aux s (·.blocks) (fun _ _ _ _ _ => rfl)
@[simp] theorem pump_thr : (pump s).thr = s.thr := pump_aux s (·.thr) (fun _ _ _ _ _ => rfl)
@[simp] theorem pump_mem : (pump s).mem = s.mem := pump_aux s (·.mem) (fun _ _ _ _ _ => rfl)
@[simp] theorem pump_gran : (pump s).gran = s.gran := pump_aux s (·.gran) (fun _ _ _ _ _ => rfl)
@[simp] theorem pump_clips : (pump s).clips = s.clips := pump_aux s (·.clips) (fun _ _ _ _ _ => rfl)
@[simp] theorem pump_plant : (pump s).plant = s.plant := pump_aux s (·.plant) (fun _ _ _ _ _ => rfl)
@[simp] theorem pump_spk : (pump s).spk = s.spk := pump_aux s (·.spk) (fun _ _ _ _ _ => rfl)
@[simp] theorem pump_motor : (pump s).motor = s.motor := pump_aux s (·.motor) (fun _ _ _ _ _ => rfl)
@[simp] theorem pump_endur : (pump s).endur = s.endur := pump_aux s (·.endur) (fun _ _ _ _ _ => rfl)
@[simp] theorem pump_sleep : (pump s).sleep = s.sleep := pump_aux s (·.sleep) (fun _ _ _ _ _ => rfl)
@[simp] theorem pump_lands : (pump s).lands = s.lands := pump_aux s (·.lands) (fun _ _ _ _ _ => rfl)
@[simp] theorem pump_jtag : (pump s).jtag = s.jtag := pump_aux s (·.jtag) (fun _ _ _ _ _ => rfl)
@[simp] theorem pump_cross : (pump s).cross = s.cross := pump_aux s (·.cross) (fun _ _ _ _ _ => rfl)

/-! A failed start counted. -/

@[simp] theorem countFailed_now (c : BitVec 16) : (countFailed c s).now = s.now := setCounter_now _ _
@[simp] theorem countFailed_pending (c : BitVec 16) : (countFailed c s).pending = s.pending := setCounter_pending _ _
@[simp] theorem countFailed_freeCtr (c : BitVec 16) : (countFailed c s).freeCtr = s.freeCtr := setCounter_freeCtr _ _
@[simp] theorem countFailed_eui48 (c : BitVec 16) : (countFailed c s).eui48 = s.eui48 := setCounter_eui48 _ _
@[simp] theorem countFailed_start (c : BitVec 16) : (countFailed c s).start = s.start := setCounter_start _ _
@[simp] theorem countFailed_straps (c : BitVec 16) : (countFailed c s).straps = s.straps := setCounter_straps _ _
@[simp] theorem countFailed_status (c : BitVec 16) : (countFailed c s).status = s.status := setCounter_status _ _
@[simp] theorem countFailed_well (c : BitVec 16) : (countFailed c s).well = s.well := setCounter_well _ _
@[simp] theorem countFailed_history (c : BitVec 16) : (countFailed c s).history = s.history := setCounter_history _ _
@[simp] theorem countFailed_ports (c : BitVec 16) : (countFailed c s).ports = s.ports := setCounter_ports _ _
@[simp] theorem countFailed_podl (c : BitVec 16) : (countFailed c s).podl = s.podl := setCounter_podl _ _
@[simp] theorem countFailed_switch (c : BitVec 16) : (countFailed c s).switch = s.switch := setCounter_switch _ _
@[simp] theorem countFailed_gptp (c : BitVec 16) : (countFailed c s).gptp = s.gptp := setCounter_gptp _ _
@[simp] theorem countFailed_streams (c : BitVec 16) : (countFailed c s).streams = s.streams := setCounter_streams _ _
@[simp] theorem countFailed_routing (c : BitVec 16) : (countFailed c s).routing = s.routing := setCounter_routing _ _
@[simp] theorem countFailed_red (c : BitVec 16) : (countFailed c s).red = s.red := setCounter_red _ _
@[simp] theorem countFailed_sec (c : BitVec 16) : (countFailed c s).sec = s.sec := setCounter_sec _ _
@[simp] theorem countFailed_bpi (c : BitVec 16) : (countFailed c s).bpi = s.bpi := setCounter_bpi _ _
@[simp] theorem countFailed_bpo (c : BitVec 16) : (countFailed c s).bpo = s.bpo := setCounter_bpo _ _
@[simp] theorem countFailed_tdm (c : BitVec 16) : (countFailed c s).tdm = s.tdm := setCounter_tdm _ _
@[simp] theorem countFailed_mic (c : BitVec 16) : (countFailed c s).mic = s.mic := setCounter_mic _ _
@[simp] theorem countFailed_usb (c : BitVec 16) : (countFailed c s).usb = s.usb := setCounter_usb _ _
@[simp] theorem countFailed_blocks (c : BitVec 16) : (countFailed c s).blocks = s.blocks := setCounter_blocks _ _
@[simp] theorem countFailed_thr (c : BitVec 16) : (countFailed c s).thr = s.thr := setCounter_thr _ _
@[simp] theorem countFailed_mem (c : BitVec 16) : (countFailed c s).mem = s.mem := setCounter_mem _ _
@[simp] theorem countFailed_gran (c : BitVec 16) : (countFailed c s).gran = s.gran := setCounter_gran _ _
@[simp] theorem countFailed_clips (c : BitVec 16) : (countFailed c s).clips = s.clips := setCounter_clips _ _
@[simp] theorem countFailed_plant (c : BitVec 16) : (countFailed c s).plant = s.plant := setCounter_plant _ _
@[simp] theorem countFailed_spk (c : BitVec 16) : (countFailed c s).spk = s.spk := setCounter_spk _ _
@[simp] theorem countFailed_motor (c : BitVec 16) : (countFailed c s).motor = s.motor := setCounter_motor _ _
@[simp] theorem countFailed_endur (c : BitVec 16) : (countFailed c s).endur = s.endur := setCounter_endur _ _
@[simp] theorem countFailed_sleep (c : BitVec 16) : (countFailed c s).sleep = s.sleep := setCounter_sleep _ _
@[simp] theorem countFailed_lands (c : BitVec 16) : (countFailed c s).lands = s.lands := setCounter_lands _ _
@[simp] theorem countFailed_jtag (c : BitVec 16) : (countFailed c s).jtag = s.jtag := setCounter_jtag _ _
@[simp] theorem countFailed_cross (c : BitVec 16) : (countFailed c s).cross = s.cross := setCounter_cross _ _

/-! What they do to the fields they write, where that is short. -/

@[simp] theorem State.advance_now (dt : Nat) : (s.advance dt).now = s.now + dt := keeps rfl
@[simp] theorem State.upTo_now (t : Nat) : (s.upTo t).now = max s.now t := by
  show s.now + (t - s.now) = max s.now t
  omega
theorem State.le_upTo (t : Nat) : s.now ≤ (s.upTo t).now := by rw [State.upTo_now]; exact Nat.le_max_left _ _

/-- What is told, but for what time moves out of the serial paths. -/
def Status.bare (st : Status) : Status :=
  { st with stat := {}, bpo := Vector.replicate 4 {}, lines := Vector.replicate 4 {} }

theorem Status.runBpo_bare (len dt : Nat) (bpo : Vector Bpo 4) (st : Status) (n : Fin 4) :
    (st.runBpo len dt bpo n).bare = st.bare := by
  unfold Status.runBpo
  split <;> rfl

/-- Time moves only the serial paths and the biphase outputs' frames. -/
theorem Status.drain_bare (len dt : Nat) (bpo : Vector Bpo 4) (st : Status) : (st.drain len dt bpo).bare = st.bare := by
  unfold Status.drain
  suffices h : ∀ (l : List (Fin 4)) (x : Status), (l.foldl (Status.runBpo len dt bpo) x).bare = x.bare from h _ _
  intro l
  induction l with
  | nil => intro x; rfl
  | cons n l ih => intro x; exact (ih _).trans (runBpo_bare len dt bpo x n)

theorem State.upTo_status_bare (t : Nat) : (s.upTo t).status.bare = s.status.bare := Status.drain_bare _ _ _ _

theorem Status.eq_of_bare {x y : Status} (h : x.bare = y.bare) : x = { y with stat := x.stat, bpo := x.bpo, lines := x.lines } := by
  cases x; cases y; simp_all [Status.bare]

@[simp] theorem State.upTo_bpoOpen (t : Nat) : (s.upTo t).status.bpoOpen = s.status.bpoOpen :=
  (congrArg Status.bpoOpen (upTo_status_bare s t) :)
@[simp] theorem State.upTo_counter (t : Nat) : (s.upTo t).status.counter = s.status.counter :=
  (congrArg Status.counter (upTo_status_bare s t) :)
@[simp] theorem State.upTo_active (t : Nat) : (s.upTo t).status.active = s.status.active :=
  (congrArg Status.active (upTo_status_bare s t) :)
@[simp] theorem State.upTo_leds (t : Nat) : (s.upTo t).status.leds = s.status.leds :=
  (congrArg Status.leds (upTo_status_bare s t) :)
@[simp] theorem State.upTo_leaderNode (t : Nat) : (s.upTo t).status.leaderNode = s.status.leaderNode :=
  (congrArg Status.leaderNode (upTo_status_bare s t) :)
@[simp] theorem genFrame_counter (k : Nat) (l : List Byte) : (genFrame k l s).status.counter = s.status.counter + 1 := keeps rfl
@[simp] theorem genFrame_active (k : Nat) (l : List Byte) : (genFrame k l s).status.active = s.status.active := keeps rfl
@[simp] theorem modeChange_mode (et : Nat) (m : Mode) (c : BitVec 16) : (modeChange et m c s).start.mode = some m := keeps rfl
@[simp] theorem State.upTo_rateGoal (t : Nat) : (s.upTo t).gptp.rateGoal = s.gptp.rateGoal := keeps rfl
@[simp] theorem State.upTo_synced (t : Nat) : (s.upTo t).gptp.synced = s.gptp.synced := keeps rfl
@[simp] theorem State.upTo_grandmaster (t : Nat) : (s.upTo t).gptp.grandmaster = s.gptp.grandmaster := keeps rfl

@[simp] theorem setCounter_failed (n : Fin 4) : (setCounter n s).aon.failed = n := by
  unfold setCounter
  by_cases h : s.aon.failed = n
  · rw [if_pos h]; exact h
  · rw [if_neg h]; rfl
@[simp] theorem setCounter_last3 (n : Fin 4) : (setCounter n s).aon.last3 = s.aon.last3 := by
  unfold setCounter
  by_cases h : s.aon.failed = n
  · rw [if_pos h]
  · rw [if_neg h]; rfl
@[simp] theorem setCounter_clockFault (n : Fin 4) : (setCounter n s).aon.clockFault = s.aon.clockFault := by
  unfold setCounter
  by_cases h : s.aon.failed = n
  · rw [if_pos h]
  · rw [if_neg h]; rfl
@[simp] theorem setCounter_clockReset (n : Fin 4) : (setCounter n s).aon.clockReset = s.aon.clockReset := by
  unfold setCounter
  by_cases h : s.aon.failed = n
  · rw [if_pos h]
  · rw [if_neg h]; rfl
@[simp] theorem countFailed_failed (c : BitVec 16) :
    (countFailed c s).aon.failed = if s.aon.failed.val < 3 then s.aon.failed + 1 else 3 := by
  unfold countFailed; exact setCounter_failed _ _
@[simp] theorem countFailed_last3 (c : BitVec 16) :
    (countFailed c s).aon.last3 = #v[c, s.aon.last3[0], s.aon.last3[1]] := by
  unfold countFailed; exact setCounter_last3 _ _
@[simp] theorem countFailed_clockFault (c : BitVec 16) : (countFailed c s).aon.clockFault = s.aon.clockFault := by
  unfold countFailed; exact setCounter_clockFault _ _
@[simp] theorem countFailed_clockReset (c : BitVec 16) : (countFailed c s).aon.clockReset = s.aon.clockReset := by
  unfold countFailed; exact setCounter_clockReset _ _

end Sys2Proof.Machine
end

