-- ==== Sys2Proof/Laws/Ports.lean ====
section
/-! SUPPORT. What time and queued frames leave of a port: all but its queues and what is being sent. -/

namespace Sys2Proof.Machine

open Sys2Proof

theorem Port.begin_bare (t : Nat) (f : NetFrame) (a : Bool) (p : Port) : (p.begin_ t f a).bare = p.bare := by
  unfold Port.begin_
  split <;> rfl

@[simp] theorem Port.begin_gptpQ (t : Nat) (f : NetFrame) (a : Bool) (p : Port) : (p.begin_ t f a).gptpQ = p.gptpQ := by
  unfold Port.begin_
  split <;> rfl
@[simp] theorem Port.begin_wait (t : Nat) (f : NetFrame) (a : Bool) (p : Port) : (p.begin_ t f a).wait = p.wait := by
  unfold Port.begin_
  split <;> rfl
@[simp] theorem Port.begin_classA (t : Nat) (f : NetFrame) (a : Bool) (p : Port) : (p.begin_ t f a).classA = p.classA := by
  unfold Port.begin_
  split <;> rfl
@[simp] theorem Port.begin_best (t : Nat) (f : NetFrame) (a : Bool) (p : Port) : (p.begin_ t f a).best = p.best := by
  unfold Port.begin_
  split <;> rfl

theorem Port.sendsTo_refl (p : Port) : p.sendsTo p :=
  ⟨rfl, List.suffix_refl _, List.suffix_refl _, List.suffix_refl _⟩

theorem Port.sendsTo_trans {p q r : Port} (h : p.sendsTo q) (k : q.sendsTo r) : p.sendsTo r :=
  ⟨k.1.trans h.1, k.2.1.trans h.2.1, k.2.2.1.trans h.2.2.1, k.2.2.2.trans h.2.2.2⟩

theorem take_one_tail {α : Type} (q w : List α) : q ++ w.take 1 ++ w.tail = q ++ w := by cases w <;> simp

/-- Time alone takes frames from the front of a port's queues and changes nothing else of it. -/
theorem Port.drain_sendsTo (clock : Nat → Nat) (n el dt : Nat) (p : Port) : p.sendsTo (p.drain clock n el dt) := by
  fun_induction Port.drain
  all_goals first
    | exact Port.sendsTo_refl _
    | exact ⟨rfl, List.suffix_refl _, List.suffix_refl _, List.suffix_refl _⟩
    | (rename_i ih
       refine Port.sendsTo_trans ?_ ih
       refine ⟨?_, ?_, ?_, ?_⟩
       · first | rfl | exact Port.begin_bare _ _ _ _
       all_goals simp_all [-List.append_assoc, take_one_tail])

theorem Port.drain_bare (clock : Nat → Nat) (n el dt : Nat) (p : Port) : (p.drain clock n el dt).bare = p.bare :=
  (drain_sendsTo clock n el dt p).1

theorem State.upTo_sendsTo (s : State) (t : Nat) (i : Fin 2) : s.ports[i].sendsTo (s.upTo t).ports[i] := by
  show s.ports[i].sendsTo ((Vector.ofFn fun i : Fin 2 =>
    s.ports[i].drain (fun k => (s.gptp.tick k).time) s.ports[i].events 0 (t - s.now))[i])
  simp only [Fin.getElem_fin, Vector.getElem_ofFn]
  exact Port.drain_sendsTo _ _ _ _ _

theorem State.upTo_bare (s : State) (t : Nat) (i : Fin 2) : ((s.upTo t).ports[i]).bare = s.ports[i].bare :=
  (upTo_sendsTo s t i).1

theorem State.upTo_gptp (s : State) (t : Nat) : (s.upTo t).gptp = s.gptp.tick (t - s.now) := rfl

/-- Device time after one span is what the statements call time passed. -/
theorem State.upTo_gptp_same (s : State) (t : Nat) : Part.gptp.same s (s.upTo t) :=
  ⟨[t - s.now], by simp [State.upTo], rfl⟩

/-- A frame put into a queue changes nothing else of the port. -/
theorem Port.put_bare (f : NetFrame) (p : Port) : (Port.put f p).bare = p.bare := by
  unfold Port.put
  split
  · rfl
  · split
    · rfl
    · split <;> rfl

@[simp] theorem Port.drain_enabled (c : Nat → Nat) (n el dt : Nat) (p : Port) : (p.drain c n el dt).enabled = p.enabled :=
  (congrArg Port.enabled (drain_bare c n el dt p) :)
@[simp] theorem Port.put_enabled (f : NetFrame) (p : Port) : (Port.put f p).enabled = p.enabled := (congrArg Port.enabled (put_bare f p) :)
@[simp] theorem State.upTo_port_enabled (s : State) (t : Nat) (i : Fin 2) : (s.upTo t).ports[i].enabled = s.ports[i].enabled :=
  (congrArg Port.enabled (upTo_bare s t i) :)
@[simp] theorem Port.drain_gigabit (c : Nat → Nat) (n el dt : Nat) (p : Port) : (p.drain c n el dt).gigabit = p.gigabit :=
  (congrArg Port.gigabit (drain_bare c n el dt p) :)
@[simp] theorem Port.put_gigabit (f : NetFrame) (p : Port) : (Port.put f p).gigabit = p.gigabit := (congrArg Port.gigabit (put_bare f p) :)
@[simp] theorem State.upTo_port_gigabit (s : State) (t : Nat) (i : Fin 2) : (s.upTo t).ports[i].gigabit = s.ports[i].gigabit :=
  (congrArg Port.gigabit (upTo_bare s t i) :)
@[simp] theorem Port.drain_diag (c : Nat → Nat) (n el dt : Nat) (p : Port) : (p.drain c n el dt).diag = p.diag :=
  (congrArg Port.diag (drain_bare c n el dt p) :)
@[simp] theorem Port.put_diag (f : NetFrame) (p : Port) : (Port.put f p).diag = p.diag := (congrArg Port.diag (put_bare f p) :)
@[simp] theorem State.upTo_port_diag (s : State) (t : Nat) (i : Fin 2) : (s.upTo t).ports[i].diag = s.ports[i].diag :=
  (congrArg Port.diag (upTo_bare s t i) :)
@[simp] theorem Port.drain_forced (c : Nat → Nat) (n el dt : Nat) (p : Port) : (p.drain c n el dt).forced = p.forced :=
  (congrArg Port.forced (drain_bare c n el dt p) :)
@[simp] theorem Port.put_forced (f : NetFrame) (p : Port) : (Port.put f p).forced = p.forced := (congrArg Port.forced (put_bare f p) :)
@[simp] theorem State.upTo_port_forced (s : State) (t : Nat) (i : Fin 2) : (s.upTo t).ports[i].forced = s.ports[i].forced :=
  (congrArg Port.forced (upTo_bare s t i) :)
@[simp] theorem Port.drain_page (c : Nat → Nat) (n el dt : Nat) (p : Port) : (p.drain c n el dt).page = p.page :=
  (congrArg Port.page (drain_bare c n el dt p) :)
@[simp] theorem Port.put_page (f : NetFrame) (p : Port) : (Port.put f p).page = p.page := (congrArg Port.page (put_bare f p) :)
@[simp] theorem State.upTo_port_page (s : State) (t : Nat) (i : Fin 2) : (s.upTo t).ports[i].page = s.ports[i].page :=
  (congrArg Port.page (upTo_bare s t i) :)
@[simp] theorem Port.drain_master (c : Nat → Nat) (n el dt : Nat) (p : Port) : (p.drain c n el dt).master = p.master :=
  (congrArg Port.master (drain_bare c n el dt p) :)
@[simp] theorem Port.put_master (f : NetFrame) (p : Port) : (Port.put f p).master = p.master := (congrArg Port.master (put_bare f p) :)
@[simp] theorem State.upTo_port_master (s : State) (t : Nat) (i : Fin 2) : (s.upTo t).ports[i].master = s.ports[i].master :=
  (congrArg Port.master (upTo_bare s t i) :)
@[simp] theorem Port.drain_altAt (c : Nat → Nat) (n el dt : Nat) (p : Port) : (p.drain c n el dt).altAt = p.altAt :=
  (congrArg Port.altAt (drain_bare c n el dt p) :)
@[simp] theorem Port.put_altAt (f : NetFrame) (p : Port) : (Port.put f p).altAt = p.altAt := (congrArg Port.altAt (put_bare f p) :)
@[simp] theorem State.upTo_port_altAt (s : State) (t : Nat) (i : Fin 2) : (s.upTo t).ports[i].altAt = s.ports[i].altAt :=
  (congrArg Port.altAt (upTo_bare s t i) :)
@[simp] theorem Port.drain_phy (c : Nat → Nat) (n el dt : Nat) (p : Port) : (p.drain c n el dt).phy = p.phy :=
  (congrArg Port.phy (drain_bare c n el dt p) :)
@[simp] theorem Port.put_phy (f : NetFrame) (p : Port) : (Port.put f p).phy = p.phy := (congrArg Port.phy (put_bare f p) :)
@[simp] theorem State.upTo_port_phy (s : State) (t : Nat) (i : Fin 2) : (s.upTo t).ports[i].phy = s.ports[i].phy :=
  (congrArg Port.phy (upTo_bare s t i) :)
@[simp] theorem Port.drain_phySince (c : Nat → Nat) (n el dt : Nat) (p : Port) : (p.drain c n el dt).phySince = p.phySince :=
  (congrArg Port.phySince (drain_bare c n el dt p) :)
@[simp] theorem Port.put_phySince (f : NetFrame) (p : Port) : (Port.put f p).phySince = p.phySince := (congrArg Port.phySince (put_bare f p) :)
@[simp] theorem State.upTo_port_phySince (s : State) (t : Nat) (i : Fin 2) : (s.upTo t).ports[i].phySince = s.ports[i].phySince :=
  (congrArg Port.phySince (upTo_bare s t i) :)
@[simp] theorem Port.drain_up (c : Nat → Nat) (n el dt : Nat) (p : Port) : (p.drain c n el dt).up = p.up :=
  (congrArg Port.up (drain_bare c n el dt p) :)
@[simp] theorem Port.put_up (f : NetFrame) (p : Port) : (Port.put f p).up = p.up := (congrArg Port.up (put_bare f p) :)
@[simp] theorem State.upTo_port_up (s : State) (t : Nat) (i : Fin 2) : (s.upTo t).ports[i].up = s.ports[i].up :=
  (congrArg Port.up (upTo_bare s t i) :)
@[simp] theorem Port.drain_changes (c : Nat → Nat) (n el dt : Nat) (p : Port) : (p.drain c n el dt).changes = p.changes :=
  (congrArg Port.changes (drain_bare c n el dt p) :)
@[simp] theorem Port.put_changes (f : NetFrame) (p : Port) : (Port.put f p).changes = p.changes := (congrArg Port.changes (put_bare f p) :)
@[simp] theorem State.upTo_port_changes (s : State) (t : Nat) (i : Fin 2) : (s.upTo t).ports[i].changes = s.ports[i].changes :=
  (congrArg Port.changes (upTo_bare s t i) :)
@[simp] theorem Port.drain_asleep (c : Nat → Nat) (n el dt : Nat) (p : Port) : (p.drain c n el dt).asleep = p.asleep :=
  (congrArg Port.asleep (drain_bare c n el dt p) :)
@[simp] theorem Port.put_asleep (f : NetFrame) (p : Port) : (Port.put f p).asleep = p.asleep := (congrArg Port.asleep (put_bare f p) :)
@[simp] theorem State.upTo_port_asleep (s : State) (t : Nat) (i : Fin 2) : (s.upTo t).ports[i].asleep = s.ports[i].asleep :=
  (congrArg Port.asleep (upTo_bare s t i) :)
@[simp] theorem Port.drain_eee (c : Nat → Nat) (n el dt : Nat) (p : Port) : (p.drain c n el dt).eee = p.eee :=
  (congrArg Port.eee (drain_bare c n el dt p) :)
@[simp] theorem Port.put_eee (f : NetFrame) (p : Port) : (Port.put f p).eee = p.eee := (congrArg Port.eee (put_bare f p) :)
@[simp] theorem State.upTo_port_eee (s : State) (t : Nat) (i : Fin 2) : (s.upTo t).ports[i].eee = s.ports[i].eee :=
  (congrArg Port.eee (upTo_bare s t i) :)
@[simp] theorem Port.drain_asCapable (c : Nat → Nat) (n el dt : Nat) (p : Port) : (p.drain c n el dt).asCapable = p.asCapable :=
  (congrArg Port.asCapable (drain_bare c n el dt p) :)
@[simp] theorem Port.put_asCapable (f : NetFrame) (p : Port) : (Port.put f p).asCapable = p.asCapable := (congrArg Port.asCapable (put_bare f p) :)
@[simp] theorem State.upTo_port_asCapable (s : State) (t : Nat) (i : Fin 2) : (s.upTo t).ports[i].asCapable = s.ports[i].asCapable :=
  (congrArg Port.asCapable (upTo_bare s t i) :)
@[simp] theorem Port.drain_pdelayOk (c : Nat → Nat) (n el dt : Nat) (p : Port) : (p.drain c n el dt).pdelayOk = p.pdelayOk :=
  (congrArg Port.pdelayOk (drain_bare c n el dt p) :)
@[simp] theorem Port.put_pdelayOk (f : NetFrame) (p : Port) : (Port.put f p).pdelayOk = p.pdelayOk := (congrArg Port.pdelayOk (put_bare f p) :)
@[simp] theorem State.upTo_port_pdelayOk (s : State) (t : Nat) (i : Fin 2) : (s.upTo t).ports[i].pdelayOk = s.ports[i].pdelayOk :=
  (congrArg Port.pdelayOk (upTo_bare s t i) :)
@[simp] theorem Port.drain_pdelayDone (c : Nat → Nat) (n el dt : Nat) (p : Port) : (p.drain c n el dt).pdelayDone = p.pdelayDone :=
  (congrArg Port.pdelayDone (drain_bare c n el dt p) :)
@[simp] theorem Port.put_pdelayDone (f : NetFrame) (p : Port) : (Port.put f p).pdelayDone = p.pdelayDone := (congrArg Port.pdelayDone (put_bare f p) :)
@[simp] theorem State.upTo_port_pdelayDone (s : State) (t : Nat) (i : Fin 2) : (s.upTo t).ports[i].pdelayDone = s.ports[i].pdelayDone :=
  (congrArg Port.pdelayDone (upTo_bare s t i) :)
@[simp] theorem Port.drain_pdelaySeq (c : Nat → Nat) (n el dt : Nat) (p : Port) : (p.drain c n el dt).pdelaySeq = p.pdelaySeq :=
  (congrArg Port.pdelaySeq (drain_bare c n el dt p) :)
@[simp] theorem Port.put_pdelaySeq (f : NetFrame) (p : Port) : (Port.put f p).pdelaySeq = p.pdelaySeq := (congrArg Port.pdelaySeq (put_bare f p) :)
@[simp] theorem State.upTo_port_pdelaySeq (s : State) (t : Nat) (i : Fin 2) : (s.upTo t).ports[i].pdelaySeq = s.ports[i].pdelaySeq :=
  (congrArg Port.pdelaySeq (upTo_bare s t i) :)
@[simp] theorem Port.drain_pdelayLost (c : Nat → Nat) (n el dt : Nat) (p : Port) : (p.drain c n el dt).pdelayLost = p.pdelayLost :=
  (congrArg Port.pdelayLost (drain_bare c n el dt p) :)
@[simp] theorem Port.put_pdelayLost (f : NetFrame) (p : Port) : (Port.put f p).pdelayLost = p.pdelayLost := (congrArg Port.pdelayLost (put_bare f p) :)
@[simp] theorem State.upTo_port_pdelayLost (s : State) (t : Nat) (i : Fin 2) : (s.upTo t).ports[i].pdelayLost = s.ports[i].pdelayLost :=
  (congrArg Port.pdelayLost (upTo_bare s t i) :)
@[simp] theorem Port.drain_pdelayAt (c : Nat → Nat) (n el dt : Nat) (p : Port) : (p.drain c n el dt).pdelayAt = p.pdelayAt :=
  (congrArg Port.pdelayAt (drain_bare c n el dt p) :)
@[simp] theorem Port.put_pdelayAt (f : NetFrame) (p : Port) : (Port.put f p).pdelayAt = p.pdelayAt := (congrArg Port.pdelayAt (put_bare f p) :)
@[simp] theorem State.upTo_port_pdelayAt (s : State) (t : Nat) (i : Fin 2) : (s.upTo t).ports[i].pdelayAt = s.ports[i].pdelayAt :=
  (congrArg Port.pdelayAt (upTo_bare s t i) :)
@[simp] theorem Port.drain_delay (c : Nat → Nat) (n el dt : Nat) (p : Port) : (p.drain c n el dt).delay = p.delay :=
  (congrArg Port.delay (drain_bare c n el dt p) :)
@[simp] theorem Port.put_delay (f : NetFrame) (p : Port) : (Port.put f p).delay = p.delay := (congrArg Port.delay (put_bare f p) :)
@[simp] theorem State.upTo_port_delay (s : State) (t : Nat) (i : Fin 2) : (s.upTo t).ports[i].delay = s.ports[i].delay :=
  (congrArg Port.delay (upTo_bare s t i) :)
@[simp] theorem Port.drain_best1 (c : Nat → Nat) (n el dt : Nat) (p : Port) : (p.drain c n el dt).best1 = p.best1 :=
  (congrArg Port.best1 (drain_bare c n el dt p) :)
@[simp] theorem Port.put_best1 (f : NetFrame) (p : Port) : (Port.put f p).best1 = p.best1 := (congrArg Port.best1 (put_bare f p) :)
@[simp] theorem State.upTo_port_best1 (s : State) (t : Nat) (i : Fin 2) : (s.upTo t).ports[i].best1 = s.ports[i].best1 :=
  (congrArg Port.best1 (upTo_bare s t i) :)
@[simp] theorem Port.drain_annDeadline (c : Nat → Nat) (n el dt : Nat) (p : Port) : (p.drain c n el dt).annDeadline = p.annDeadline :=
  (congrArg Port.annDeadline (drain_bare c n el dt p) :)
@[simp] theorem Port.put_annDeadline (f : NetFrame) (p : Port) : (Port.put f p).annDeadline = p.annDeadline := (congrArg Port.annDeadline (put_bare f p) :)
@[simp] theorem State.upTo_port_annDeadline (s : State) (t : Nat) (i : Fin 2) : (s.upTo t).ports[i].annDeadline = s.ports[i].annDeadline :=
  (congrArg Port.annDeadline (upTo_bare s t i) :)
@[simp] theorem Port.drain_syncAt (c : Nat → Nat) (n el dt : Nat) (p : Port) : (p.drain c n el dt).syncAt = p.syncAt :=
  (congrArg Port.syncAt (drain_bare c n el dt p) :)
@[simp] theorem Port.put_syncAt (f : NetFrame) (p : Port) : (Port.put f p).syncAt = p.syncAt := (congrArg Port.syncAt (put_bare f p) :)
@[simp] theorem State.upTo_port_syncAt (s : State) (t : Nat) (i : Fin 2) : (s.upTo t).ports[i].syncAt = s.ports[i].syncAt :=
  (congrArg Port.syncAt (upTo_bare s t i) :)
@[simp] theorem Port.drain_announceAt (c : Nat → Nat) (n el dt : Nat) (p : Port) : (p.drain c n el dt).announceAt = p.announceAt :=
  (congrArg Port.announceAt (drain_bare c n el dt p) :)
@[simp] theorem Port.put_announceAt (f : NetFrame) (p : Port) : (Port.put f p).announceAt = p.announceAt := (congrArg Port.announceAt (put_bare f p) :)
@[simp] theorem State.upTo_port_announceAt (s : State) (t : Nat) (i : Fin 2) : (s.upTo t).ports[i].announceAt = s.ports[i].announceAt :=
  (congrArg Port.announceAt (upTo_bare s t i) :)

end Sys2Proof.Machine
end

