-- ==== Sys2Proof/Laws/Runs.lean ====
section
/-! SUPPORT. How a statement that a command runs is taken apart, and what the first operations of most commands leave alone. -/

namespace Sys2Proof.Machine

open Sys2Proof

/-- A result is a next state of which something holds. -/
def Answers (r : Result) (P : State → Prop) : Prop := match r with | .next u => P u | _ => False

theorem runs_iff (c : Instr) (s : State) (P : State → Prop) : Runs c s P ↔ Answers (exec c s) P := by
  unfold Runs Answers
  cases exec c s with
  | next u => exact ⟨fun ⟨_, h, p⟩ => (Host.Outcome.next.inj h) ▸ p, fun p => ⟨u, rfl, p⟩⟩
  | fault r => exact ⟨fun ⟨_, h, _⟩ => (nomatch h), False.elim⟩
  | refused r => exact ⟨fun ⟨_, h, _⟩ => (nomatch h), False.elim⟩

@[simp] theorem answers_next (u : State) (P : State → Prop) : Answers (.next u) P ↔ P u := Iff.rfl

@[simp] theorem answers_ite (b : Prop) [Decidable b] (x y : Result) (P : State → Prop) :
    Answers (if b then x else y) P ↔ if b then Answers x P else Answers y P := by split <;> rfl

theorem Runs.of (c : Instr) (s u : State) {P : State → Prop} (h : exec c s = .next u) (p : P u) : Runs c s P := ⟨u, h, p⟩

@[simp] theorem awake_upTo (s : State) (t : Nat) : awake (s.upTo t) = awake s := keeps rfl
@[simp] theorem inMode_upTo (s : State) (t : Nat) (m : Mode) : inMode m (s.upTo t) = inMode m s := keeps rfl
@[simp] theorem powered_upTo (s : State) (t : Nat) : powered (s.upTo t) = powered s := keeps rfl
@[simp] theorem role_upTo (s : State) (t : Nat) : role (s.upTo t) = role s := keeps rfl
@[simp] theorem tenant_upTo (s : State) (t : Nat) : tenant (s.upTo t) = tenant s := keeps rfl
@[simp] theorem node_upTo (s : State) (t : Nat) : node (s.upTo t) = node s := keeps rfl

end Sys2Proof.Machine
end

