-- ==== Sys2Proof/Machine/Lands.lean ====
section
/-! DEFINITION. What stands on the output lands: in reset, under boundary scan, and as each land's home chapter has it (chapters 4, 7,
10, 13, 26 and 29). -/

namespace Sys2Proof.Machine

open Sys2Proof

/-! ### Lines of bits (R7) -/

/-- A byte's bits as they are sent, the least significant first (R7). -/
def byteBits (b : Byte) : List Bool := (List.range 8).map (fun i => b.getLsbD i)

/-- A character on STAT: a start bit, eight data bits, a stop bit (R91). -/
def charBits (b : Byte) : List Bool := false :: byteBits b ++ [true]

/-- The level of STAT: the bit of the oldest queued frame that its line time has reached, at 115 200 baud; high while none is queued
(R91, R553). -/
def statLine (p : FuPath) : Bool :=
  match p.queue with
  | f :: _ =>
    let k := p.spent * 9 / 78125
    ((charBits (at8 f.bytes (k / 10)))[k % 10]?).getD true
  | [] => true

/-- A bit on TIE as the levels of its two halves: a 0 falls at mid-bit, a 1 rises (R222). -/
def manchester (b : Bool) : Bool × Bool := (!b, b)

/-- A frame on TIE: seven bytes of 0x55, the delimiter 0xD5, then its bytes, each least significant bit first (R7, R222). -/
def tieWire (f : TieFrame) : List (Bool × Bool) :=
  ((List.replicate 7 0x55#8 ++ [0xD5#8] ++ f).flatMap byteBits).map manchester

/-- Time without a transition after which TIE is idle (R222). -/
def tieIdleNs : Nat := 40

/-- Bits received from TIE, each with a transition at mid-bit; none where one is missing (R222). -/
def tieBits : List (Bool × Bool) → Option (List Bool)
  | [] => some []
  | h :: l => if h.1 == h.2 then none else (tieBits l).map (fun r => h.2 :: r)

/-! ### LEDs (R107, Table 4.7) -/

/-- LED_LINK `e` ns into its pattern's cycle; a pattern of 50 % begins lit (log entry 150). -/
def LinkPat.litAt (e : Nat) : LinkPat → Bool
  | .dark => false
  | .slow => decide (e % sec1 < 500 * ms1)
  | .lit => true
  | .fast => decide (e % (250 * ms1) < 125 * ms1)

/-- `n` flashes of 100 ms, 200 ms apart, in a cycle of 2 s. -/
def roleFlash (n e : Nat) : Bool := decide (e % (2 * sec1) < n * (300 * ms1)) && decide (e % (2 * sec1) % (300 * ms1) < 100 * ms1)

/-- LED_ROLE `e` ns into its pattern's cycle. -/
def RolePat.litAt (e : Nat) : RolePat → Bool
  | .dark => false
  | .lit => true
  | .one => roleFlash 1 e
  | .two => roleFlash 2 e
  | .three => roleFlash 3 e
  | .fast => decide (e % (250 * ms1) < 125 * ms1)

/-- LED_FAULT of class `c`, `e` ns into its cycle: a flash of 1 s, or `c` flashes of 200 ms, 300 ms apart, then 2 s dark. -/
def faultLit (c e : Nat) : Bool :=
  if c = 0 then decide (e % (3 * sec1) < sec1)
  else
    let x := e % ((500 * c - 300) * ms1 + 2 * sec1)
    decide (x < (500 * c - 300) * ms1) && decide (x % (500 * ms1) < 200 * ms1)

/-- LED_LINK is lit now. -/
def ledLinkLit (s : State) : Bool := s.status.leds.link.litAt (s.now - s.status.leds.linkAt)
/-- LED_ROLE is lit now. -/
def ledRoleLit (s : State) : Bool := s.status.leds.role.litAt (s.now - s.status.leds.roleAt)
/-- LED_FAULT is lit now. -/
def ledFaultLit (s : State) : Bool := s.status.leds.fault.any (fun c => faultLit c.val (s.now - s.status.leds.faultAt))

/-! ### Clocks (R149, R288, R290, R302) -/

/-- The MEDIA clock's nominal frequency for a media rate. -/
def mediaHz (rate : Nat) : Nat := if rate % 44100 = 0 then 22579200 else 24576000

/-- A TDM port's bit clock (R288, Table 13.1). -/
def bclkHz (slots rate : Nat) : Nat := 32 * slots * rate

/-- The media clock lands run (Table 6.10). -/
def mclkRuns (s : State) : Bool := s.well.mclk && !inMode .slumber s && !inMode .safe s

/-- WCLK_OUT: each rising edge begins a sample period, with a duty of 50 % (R149). -/
def wclkHigh (s : State) : Bool := mclkRuns s && decide ((s.gptp.time - s.blocks.stamp) * 2 * s.well.rate / 1000000000 % 2 = 0)

/-! ### TDM lines (R286, R287, R300) -/

/-- FS in bit-clock period `k` of a leader port's frame: high in the last period, or with two slots from period 63 to period 30
(R287). -/
def fsHigh (slots k : Nat) : Bool := if slots = 2 then decide (k ≤ 30) || decide (k = 63) else decide (k + 1 = 32 * slots)

/-- The bit-clock period of the present block that its port is in, from the block's first (R287). -/
def tdmPeriod (s : State) (p : Fin 2) : Nat := (s.gptp.time - s.blocks.stamp) * bclkHz s.tdm[p].slots s.well.rate / 1000000000

/-- FS of a running leader port: the first pulse it drives is the one before its second frame (R287, R300). -/
def fsNow (s : State) (p : Fin 2) : Bool :=
  let t := s.tdm[p]
  let k := tdmPeriod s p % (32 * t.slots)
  if t.fresh && decide (tdmPeriod s p < 32 * t.slots) then decide (k + 1 = 32 * t.slots) else fsHigh t.slots k

/-- BCLK: DO and FS change as it falls, which begins a period, and it rises in the middle of it (R287). -/
def bclkHigh (s : State) (p : Fin 2) : Bool :=
  decide ((s.gptp.time - s.blocks.stamp) * 2 * bclkHz s.tdm[p].slots s.well.rate / 1000000000 % 2 = 1)

/-- A frame on DO: each slot's 24 bits, the most significant first, and 8 zeros (R286). -/
def doBits (frame : List Int) : List Bool :=
  frame.flatMap (fun v => ((List.range 24).map (fun i => (BitVec.ofInt 24 v).getLsbD (23 - i))) ++ List.replicate 8 false)

/-- The frame that port `p` sends: of a leader port the one of sample `i` of the block last completed, of a follower port the one its
framer read (R290, R292). -/
def doFrame (s : State) (p : Fin 2) (i : Nat) : List Int :=
  if asFollower s s.tdm[p] then s.tdm[p].sending.getD (List.replicate s.tdm[p].slots 0) else tdmOutFrame s p i

/-! ### Loudspeakers (R23, R329) -/

/-- The device time at which sample `i` of a block leaves the audio block for the die-to-die link, 125 µs ahead of its instant at the
loudspeaker lands (R23, R329). -/
def spkHandOver (s : State) (i : Nat) : Nat := instantOf s i - 125000

/-! ### Ports in low-power idle (R167, R168) -/

/-- A port holds low-power idle toward its partner: linked in SLUMBER, or with nothing to send to one that is asleep. -/
def portIdle (s : State) (i : Fin 2) : Bool :=
  let p := s.ports[i]
  p.phy && ((inMode .slumber s && !s.sleep.draining)
    || (p.asleep && decide (p.busy = 0) && p.gptpQ.isEmpty && p.classA.isEmpty && p.best.isEmpty))

/-- A port's full receive path is powered: in SLUMBER only over a forced link, else the low-power receiver alone is on (R167). -/
def receivePathOn (s : State) (i : Fin 2) : Bool := !(inMode .slumber s && !s.sleep.draining) || s.ports[i].forced

/-! ### The lands -/

/-- The output lands of Table 26.4. -/
inductive LandName where
  | podlEn
  | wclkOut
  | mclkOut
  | bpo (n : Fin 4)
  | bclk (p : Fin 2)
  | fs (p : Fin 2)
  | dout (p : Fin 2)
  | pdmClk (l : Fin 2)
  | micLed
  | usbPullUp
  | fSck
  | fCsN
  | fIo (n : Fin 8)
  | fRstN
  | sSck
  | sCsN
  | sIo (n : Fin 8)
  | sRstN
  | tie
  | start
  | stat
  | ledLink
  | ledRole
  | ledFault
  | sysGate
  | spk (n : Fin 2)
  | mot
deriving DecidableEq, Repr

/-- What stands on a land: driven low or high, high impedance, or driven by the signal that its chapter gives it. -/
inductive Level where
  | low
  | high
  | z
  | signal
deriving DecidableEq, Repr

/-- A driven level. -/
def Level.of (b : Bool) : Level := if b then .high else .low

/-- An open-drain land: driven low or released. -/
def Level.drain (low : Bool) : Level := if low then .low else .z

/-- A land that carries its signal or is low. -/
def Level.runs (b : Bool) : Level := if b then .signal else .low

/-- The reset state of a land (Table 26.4). -/
def resetLevel : LandName → Level
  | .podlEn | .wclkOut | .mclkOut | .bpo _ | .dout _ | .pdmClk _ | .start => .low
  | .stat => .high
  | .bclk _ | .fs _ | .micLed | .usbPullUp | .fSck | .fCsN | .fIo _ | .fRstN | .sSck | .sCsN | .sIo _ | .sRstN | .tie | .ledLink
  | .ledRole | .ledFault | .sysGate | .spk _ | .mot => .z

/-- The number of a land that the boundary register covers with an output cell (Tables 26.3 and 29.4). -/
def LandName.cell : LandName → Option Nat
  | .wclkOut => some 55 | .mclkOut => some 56 | .bpo n => some (60 + n.val)
  | .bclk p => some (108 + 5 * p.val) | .fs p => some (109 + 5 * p.val) | .dout p => some (111 + 5 * p.val)
  | .pdmClk l => some (pdmClkLand l)
  | .fSck => some 67 | .fCsN => some 66 | .fRstN => some 169
  | .fIo n => some (if n.val < 4 then 70 + n.val else 71 + n.val)
  | .sSck => some 123 | .sCsN => some 122 | .sRstN => some 170 | .sIo n => some (125 + n.val)
  | .start => some 167 | .stat => some 200 | .ledLink => some 201 | .ledRole => some 202 | .ledFault => some 203
  | .podlEn | .micLed | .usbPullUp | .tie | .sysGate | .spk _ | .mot => none

/-- Lands that are open-drain (Table 26.4). -/
def LandName.openDrain : LandName → Bool
  | .start | .ledLink | .ledRole | .ledFault | .micLed => true
  | _ => false

/-- A covered land under EXTEST or CLAMP: as its cells hold it, an open-drain one only low, a PDM clock through the gate (R586,
R587). -/
def scanLevel (s : State) (l : LandName) (k : Nat) : Level :=
  match l with
  | .pdmClk n => if !s.mic.open_ then .low else if cellHeld s k .enable then .of (pdmDriven s n) else .z
  | _ =>
    if !cellHeld s k .enable then .z
    else if l.openDrain then .drain (!cellHeld s k .output)
    else .of (cellHeld s k .output)

/-- A low pulse of `ns` at the start of each of three attempts 10 ms apart, the first at an instant. -/
def attemptPulse (s : State) (from_ ns : Nat) : Bool :=
  decide (s.now < from_ + 30 * ms1) && decide ((s.now - from_) % (10 * ms1) < ns)

/-- F_RST_N: driven from t_latch, low for the first 10 µs of each attempt to bring up the flash (R403, R563). -/
def flashReset (s : State) : Level :=
  match s.start.tLatch with
  | none => .z
  | some a => .of (s.mem.flashUp || s.mem.flashAbsent || !attemptPulse s a 10000)

/-- S_RST_N: driven from step 5 of R25, low for the first 1 µs of each attempt to bring up the PSRAM (R408, R563). -/
def siloReset (s : State) : Level :=
  if !s.start.loftDone then .z else .of (s.start.psramDone || !attemptPulse s s.start.loftAt 1000)

/-- A leader port's BCLK, FS or DO (Table 13.4); `x` while it runs. -/
def leaderLand (s : State) (p : Fin 2) (x : Level) : Level :=
  let t := s.tdm[p]
  if t.used && asFollower s t && s.start.mode.isSome && !inMode .slumber s && !inMode .safe s then .z
  else if t.drives && s.blocks.running then x
  else .low

/-- BCLK or FS: of a port that is no leader an input (Table 13.4). -/
def tdmClockLand (s : State) (p : Fin 2) (x : Level) : Level := if s.tdm[p].leader then leaderLand s p x else .z

/-- DO (Table 13.4). -/
def tdmDataLand (s : State) (p : Fin 2) : Level :=
  if s.tdm[p].leader then leaderLand s p .signal
  else .runs (s.tdm[p].sending.isSome && s.blocks.running && !inMode .partner s)

/-- A land of the core die out of reset, as its home chapter has it (R560). -/
def homeLevel (s : State) : LandName → Level
  | .wclkOut => .of (wclkHigh s)
  | .mclkOut => .runs (mclkRuns s)
  | .bpo n => .runs s.bpo[n].running
  | .bclk p => tdmClockLand s p (.of (bclkHigh s p))
  | .fs p => tdmClockLand s p (.of (fsNow s p))
  | .dout p => tdmDataLand s p
  | .pdmClk l => .runs (if l = 0 then s.mic.clk0 else s.mic.clk1)
  | .micLed => .drain (micLit s)
  | .usbPullUp => if s.usb.attached then .high else .z
  | .fSck | .fCsN | .fIo _ => if s.start.tLatch.isSome then .signal else .z
  | .fRstN => flashReset s
  | .sSck | .sCsN | .sIo _ => if s.start.loftDone then .signal else .z
  | .sRstN => siloReset s
  | .tie => if usesTie s then .signal else .z
  | .start => .drain s.blocks.startLow
  | .stat => .of (statLine s.status.stat)
  | .ledLink => .drain (ledLinkLit s)
  | .ledRole => .drain (ledRoleLit s)
  | .ledFault => .drain (ledFaultLit s)
  | .podlEn => .of s.podl.enable
  | .sysGate => .of s.plant.sysGate
  | .spk n => if s.spk.ch[n].on then .signal else .z
  | .mot => if s.motor.driven && decide (s.motor.floatUntil ≤ s.now) then .signal else .z

/-- A land of the plant die that acts whether or not the core die is in reset (R560, Table 26.4). -/
def LandName.plantOwn : LandName → Bool
  | .podlEn | .sysGate => true
  | _ => false

/-- What stands on a land now: under boundary scan what R586 to R588 give it, in reset its reset state, else what its home chapter gives
it (R447, R560). -/
def landNow (s : State) (l : LandName) : Level :=
  let own := if l.plantOwn || awake s then homeLevel s l else if l == .micLed then .drain (micLit s) else resetLevel l
  match l.cell with
  | some k => if s.jtag.drive then scanLevel s l k else if s.jtag.highZ then .z else own
  | none => own

end Sys2Proof.Machine
end

