-- ==== Sys2Proof/WellFormed.lean ====
section
/-! DEFINITION. Which commands are well formed: operands whose types are wider than what the lands and the wire can carry. -/

namespace Sys2Proof

/-- A value of `n` bits in two's complement. -/
def fitsSigned (n : Nat) (x : Int) : Bool := decide (-(2 : Int) ^ (n - 1) ≤ x) && decide (x < (2 : Int) ^ (n - 1))

/-- The fields of an AAF header fit their places, and every sample fits the widest format (Table 8.5). -/
def Aaf.wf (a : Aaf) : Bool :=
  decide (a.version < 8) && decide (a.format < 256) && decide (a.nsr < 16) && decide (a.channels < 1024)
    && decide (a.bitDepth < 256) && decide (a.dataLen < 65536) && a.samples.all (fun l => l.all (fitsSigned 32))

/-- The fields of a CRF header fit their places (R182). -/
def Crf.wf (c : Crf) : Bool :=
  decide (c.version < 8) && decide (c.type_ < 256) && decide (c.pull < 8) && decide (c.base < 2 ^ 29)
    && decide (c.dataLen < 65536) && decide (c.interval < 65536) && decide (c.stamp < 2 ^ 64)

/-- The fields of an Announce fit their places (R171). -/
def GmVector.wf (v : GmVector) : Bool :=
  decide (v.priority1 < 256) && decide (v.clockClass < 256) && decide (v.accuracy < 256) && decide (v.variance < 65536)
    && decide (v.priority2 < 256) && decide (v.steps < 65536) && decide (v.timeSource < 256)

/-- A device time is 64 bits wide (R9). -/
def timeFits (t : Nat) : Bool := decide (t < 2 ^ 64)

/-- The times and fields of a gPTP message fit their places (R9, R171). -/
def GptpMsg.wf : GptpMsg → Bool
  | .sync _ origin => timeFits origin
  | .announce _ v => v.wf
  | .pdelayReq _ => true
  | .pdelayResp _ rx tx => timeFits rx && timeFits tx

/-- What a frame carries after its tags is well formed. -/
def FrameBody.wf : FrameBody → Bool
  | .gptp m => m.wf
  | .aaf _ a => a.wf
  | .crf _ c => c.wf
  | _ => true

/-- A frame's tags and length fit the wire (R180, Table 11.2). -/
def NetFrame.wf (f : NetFrame) : Bool :=
  (f.vlan.all (fun v => decide (v.1 < 8) && decide (v.2 < 4096)))
    && f.sec.all (fun x => decide (x.pn < 2 ^ 32)) && decide (64 ≤ f.octets) && f.body.wf

/-- A frame of the other device of a pair. -/
def PairFrame.wf : PairFrame → Bool
  | .tie b => decide (b.length ≤ 65547)
  | .net f => f.wf

/-- The measured values of a reference: ten sub-windows (R130). -/
def RefMeas.wf (m : RefMeas) : Bool := m.sub.length == 10

/-- The operands of a boundary: two PDM lines at most, no more than 64 clock periods in a sample period (R301, R303), and no more than
16 slots in a TDM frame (Table 2.10). -/
def BoundaryIn.wf (x : BoundaryIn) : Bool :=
  decide (x.pdm.length ≤ 2) && x.pdm.all (fun l => l.all (fun p => decide (p.length ≤ 64)))
    && x.tdm0.all (fun l => decide (l.length ≤ 16)) && x.tdm1.all (fun l => decide (l.length ≤ 16))

/-- Whether a command is well formed. -/
def Instr.wf : Instr → Bool
  | .pairDebouncedChange _ samples => samples.length == 20
  | .blockBoundary x | .slumberResume x => x.wf
  | .fumaroleFrameReceive _ f | .aafFrameReceive _ f | .crfFrameReceive _ f | .frameIngress _ _ f | .akDistributionReceive _ f
  | .windowFrameReceive _ f | .joinReceive _ f | .keyFrameReceive _ f _ _ | .doneReceive _ f _ | .imageAdvertReceive _ f
  | .imageRequestReceive _ f | .imageChunkReceive _ f => f.wf
  | .tieHeartbeat _ x | .tieCheckpointChunk _ x | .resyncRequest _ x | .takeBackRequest _ x | .takeBackAccepted _ x
  | .takeBackCommit _ x | .slumberProposal _ x | .slumberAnswer _ x | .wakeRequest _ x => x.wf
  | .qualificationWindowEnd net bpi0 bpi1 wclk => net.wf && bpi0.wf && bpi1.wf && wclk.wf
  | .syncReceive _ _ gm => timeFits gm
  | .beaconReceive _ _ stamp _ => timeFits stamp
  | .pdelayResponseReceive _ _ _ rx tx => timeFits rx && timeFits tx
  | .announceReceive _ _ v => v.wf
  | .tdmFrameJudged _ _ _ _ data => decide (data.length ≤ 16)
  | .dmaShadowWrite _ _ set _ => set.length == 32
  | .usbOutPacket _ b => decide (b.length ≤ 1024)
  | _ => true

end Sys2Proof
end

