-- ==== Sys2Proof/Tests/Slice0.lean ====
section
/-! SUPPORT. Small tests: the checks of WellFormed, single steps against the tables of spec/, and a witness for the hypotheses of
each statement. -/

namespace Sys2Proof.Tests

open Sys2Proof Sys2Proof.Machine

set_option maxRecDepth 20000
set_option linter.unusedVariables false

/-! ### States the witnesses use -/

/-- An awake device before its mode, ten seconds after power. -/
def W.up : State := { now := 10 * sec1, start := { phase := .active } }

/-- The levels of a strap reading by place. -/
def W.levels (ten nodeHi nodeLo rol : Fin 16) : Vector (Option (Fin 16)) 13 :=
  #v[some ten, some nodeHi, some nodeLo, some rol, some (if 4 ≤ rol then 8 else 0), some 0, some 0, some 0, some 0, some 0, some 0, some 0, some 0]

/-- A device that runs in a mode, with a role: tenant 3, node 0x21, key slot 0 in force. -/
def W.run (m : Mode) (rol : Fin 16) : State :=
  { now := 40 * sec1, eui48 := 0x0291A0B0C0D0#48
    start := { phase := .active, mode := some m, tLatch := some 20700000, base := some 20700000, imageDone := true
               loftDone := true, checkDone := true, psramDone := true, setupDone := true, tRun := some (10 * sec1) }
    straps := { level := W.levels 3 2 1 rol }
    mem := { flashUp := true, upAt := some 30000000 }
    routing := { profile := if 4 ≤ rol then 8 else 0 }
    well := { selected := some .local, locked := true, everLocked := true, mclk := true }
    gptp := { time := 40 * sec1, synced := true, okSince := some 0 }
    sec := { slots := (Vector.replicate 8 .blank).set 0 (.valid { tenant := 3 }), inForce := some 0, ak := some 0
             tenantChan := { ready := true }, annChan := { ready := true } }
    blocks := { running := true, number := 40000, stamp := 40 * sec1, lastAt := 40 * sec1, exists_ := true, placed := true } }

/-- The code in the middle of a level's band. -/
def W.code (k : Nat) : Fin 1024 := Fin.ofNat 1024 (min 1023 (1024 * k / 15))

/-- Codes of tenant 3, node 0x21, role leader. -/
def W.codes : Vector (Fin 1024) 13 :=
  #v[W.code 3, W.code 2, W.code 1, W.code 4, W.code 8, W.code 0, W.code 0, W.code 0, W.code 0, W.code 0, W.code 0, W.code 0, W.code 0]

/-- Batteries, telemetry due. -/
def W.telem : State :=
  let s := W.run .leader 4
  { s with straps := { level := (W.levels 3 2 1 4).set 12 (some 3) }, status := { telemetryAt := [41 * sec1] } }

/-- A device asleep that left a mode with a role, on battery. -/
def W.asleep (m : Mode) (rol : Fin 16) : State :=
  let s := W.run .slumber rol
  { s with start := { s.start with left := some m }, blocks := { s.blocks with running := false }
           sleep := { down := true, beaconAt := 41 * sec1 }
           plant := { onBattery := true } }

/-- A device before its mode whose start has come to a step. -/
def W.starting : State :=
  { W.up with
    start := { phase := .active, tLatch := some 20700000, base := some 20700000, imageDone := true }
    straps := { level := W.levels 3 2 1 4 } }

/-- A state with a DMA channel in a set. -/
def W.dma (ch : Fin 16) (c : DmaChan) : State :=
  let s := W.run .leader 4
  { s with mem := { s.mem with dma := s.mem.dma.set ch c } }

/-- A device with both ports up and gPTP neighbours. -/
def W.on (s : State) : State :=
  { s with ports := Vector.replicate 2 { enabled := true, diag := .good, phy := true, phySince := 30 * sec1, up := true, asCapable := true }
           switch := { tables := true } }

/-- A running device with both ports up. -/
def W.linked (m : Mode) (rol : Fin 16) : State := W.on (W.run m rol)

/-- The SecTAG of a frame before its check value. -/
def W.tag (port : BitVec 16) (f : NetFrame) : SecTag := { pn := 7, sciEui := f.src, sciPort := port }

/-- The frame with the check value its key gives at an instant. -/
def W.sent (s : State) (t : Nat) (port : BitVec 16) (f : NetFrame) : NetFrame :=
  let g := W.tag port f
  { f with sec := some { g with icv := icvOf ((sakFor (s.upTo t) f g).getD 0) f g } }

/-- The frame with another check value. -/
def W.forged (s : State) (t : Nat) (port : BitVec 16) (f : NetFrame) : NetFrame :=
  let g := W.tag port f
  { f with sec := some { g with icv := icvOf ((sakFor (s.upTo t) f g).getD 0) f g + 1 } }

/-- A status frame of tenant 3 from another device. -/
def W.statusFrame (b : List (BitVec 8)) : NetFrame := { dst := dstOf 3 4 0x10, src := 0x0291A0000001, vlan := some (1, 771), body := .bytes 0x88B5 b }

/-- A stream frame another node of tenant 3 sends, with no protection read. -/
def W.plainFrame : NetFrame := { dst := dstOf 3 1 0x22, src := 0x02AA, vlan := some (3, 771), sec := some {}, body := .aaf (some 0) {} }

/-- A running device of a pair, the other device node 0x22, in contact. -/
def W.pair (m : Mode) (rol : Fin 16) : State :=
  { W.run m rol with
    red := { pair := some { eui := 0x0291A0000002, node := 0x22 }, contact := true, everContact := true, lastFrame := 40 * sec1
             hbAt := 40 * sec1, state := if rol = 7 || rol = 5 then .inStep else .cold } }

/-- The other device of that pair, in its role. -/
def W.peer (rol : Fin 16) : State := { W.run (if rol < 7 then .leader else .partner) rol with straps := { level := W.levels 3 2 2 rol } }

/-- A TIE frame of the other device. -/
def W.tie (kind : Nat) (payload : List (BitVec 8)) : TieFrame := tieFrame (W.peer 5) kind payload

/-- The head of that frame. -/
def W.head (kind : Nat) (payload : List (BitVec 8)) : TieHead := ⟨kind, tieFlags (W.peer 5), 0, payload⟩

/-- A frame of a stream of tenant 3 or 0. -/
def W.stream : Aaf := { streamEui := 0x0291A0000003, streamLow := streamLow 3 1 0x22, dataLen := 18, samples := List.replicate 6 [5] }

/-- The return stream of a node, received by a leader. -/
def W.rx : RxStream := { kind := 1, node := 0x22, recov := { follow := some 0x0291A0000003, followAt := 40 * sec1, active := true, passedAt := 40 * sec1 }, channels := 1 }

/-- A running device that receives that stream. -/
def W.hears (m : Mode) (rol : Fin 16) : State := { W.run m rol with streams := { rx := [W.rx] } }

/-- A checkpoint of tenant 3 that names a leader, its cyclic redundancy check good. -/
def W.ckpt (leader : Nat) : List (BitVec 8) :=
  let b := [0x53#8, 0x4B#8, 0x43#8, 0x50#8, 1#8, 0#8, 3#8, BitVec.ofNat 8 leader] ++ le 4 260 ++ List.replicate 18 0
    ++ [BitVec.ofNat 8 (rateCode 48000), 0#8] ++ List.replicate 6 0
    ++ (List.range 13).map (fun i => BitVec.ofNat 8 (if i = 0 then 3 else 0)) ++ List.replicate 205 0
  b ++ le 4 (crc32 b).toNat

/-- A cold partner that holds all of a checkpoint. -/
def W.holding (b : List (BitVec 8)) : State :=
  let s := W.pair .partner 8
  { s with mem := { s.mem with psram := pokes 0#8 [] (ckptAddr [] false) b }
           red := { s.red with rxCkpt := { total := 260, got := [0] } } }

/-- A kind 6 frame of tenant 3 to a node. -/
def W.pairing (nn : Nat) (b : List (BitVec 8)) : NetFrame := { dst := dstOf 3 6 nn, src := 0x0291A0000003, vlan := some (0, 771), body := .bytes 0x88B7 b }

/-- A window a giver at node 0x22 announces. -/
def W.window : List (BitVec 8) := be 1 1 ++ be 1 3 ++ be 1 0x22 ++ [0#8] ++ be 6 0x0291A0000003 ++ be 2 1 ++ List.replicate 140 5

/-- A device whose own pairing window is open. -/
def W.giving (xs : List Exchange) : State :=
  let s := W.run .leader 4
  { s with sec := { s.sec with pairing := { open_ := true, windowEnd := 60 * sec1, windowNo := 1, windowNext := 40 * sec1 + 1000, exchanges := xs } } }

/-- A device that takes a key through that window. -/
def W.taking : State :=
  let s := W.run .member 2
  { s with sec := { s.sec with pairing := { taking := some (windowOf W.window), joins := 1, joinAt := 40 * sec1, pressAt := 39 * sec1 } } }

/-- A device that listens for windows. -/
def W.listening (m : Mode) (rol : Fin 16) (heard : List PairWin) (force : Option (Fin 8)) : State :=
  let s := W.run m rol
  { s with sec := { s.sec with inForce := force, pairing := { listenUntil := some (41 * sec1), heard := heard, pressAt := 39 * sec1 } } }

/-- An exchange under way. -/
def W.exchange : Exchange := { node := 0x22, eui := 0x0291A0000003, join := [1#8], sentAt := 40 * sec1 }

/-- A join, a key frame and a done frame of that exchange. -/
def W.join : List (BitVec 8) := be 1 2 ++ be 1 3 ++ be 1 0x22 ++ [0#8] ++ be 6 0x0291A0000003 ++ be 2 1 ++ be 1 2 ++ be 1 1 ++ List.replicate 194 5
def W.keyFrame : List (BitVec 8) := be 1 3 ++ be 1 3 ++ be 1 0x22 ++ [0#8] ++ be 6 0x0291A0000003 ++ be 2 1 ++ be 1 2 ++ be 1 1 ++ List.replicate 112 5
def W.done : List (BitVec 8) := be 1 4 ++ be 1 3 ++ be 1 0x22 ++ [0#8] ++ be 6 0x0291A0000003 ++ be 2 1 ++ be 1 2 ++ be 1 1 ++ List.replicate 20 5

/-- A device whose key slot 0 has used up its last block. -/
def W.spent : State :=
  let s := W.run .leader 4
  { s with sec := { s.sec with tenantChan := {} }
           mem := { s.mem with flash := resRing.program [] 0 (record16 (reservationBody 0 0 0xFFE 4095 1)) true } }

/-- A device that holds a valid image in slot A. -/
def W.image (m : Mode) (rol : Fin 16) : State :=
  let s := W.run m rol
  { s with gran := { active := some false, slotA := { status := 0, identity := 77, edition := 3, total := 4096, empty := false } } }

/-- An image frame of tenant 3. -/
def W.imageFrame (nn : Nat) (b : List (BitVec 8)) : NetFrame := { dst := dstOf 3 7 nn, src := 0x0291A0000003, vlan := some (0, 771), body := .bytes 0x88B8 b }

/-- A fetch of an image of 4096 bytes under way. -/
def W.fetch : SlotWrite := { source := .leader, total := 4096, identity := 77, edition := 3, got := [0], queue := [{}], progress := 40 * sec1, asked := 40 * sec1 }

/-- A member that fetches it. -/
def W.fetching : State :=
  let s := W.run .member 2
  { s with status := { leaderNode := some 0x10 }, gran := { write := some W.fetch } }

/-- Image frames: an advert of 4096 bytes, a request, a chunk. -/
def W.advert : List (BitVec 8) := be 1 1 ++ be 1 3 ++ be 2 0 ++ be 4 77 ++ be 2 3 ++ be 2 0 ++ be 4 4096
def W.request : List (BitVec 8) := be 1 2 ++ be 1 3 ++ be 2 0 ++ be 4 77 ++ be 2 3 ++ be 2 0 ++ be 4 4096 ++ be 4 1024 ++ be 2 2
def W.chunk : List (BitVec 8) := be 1 3 ++ be 1 3 ++ be 2 0 ++ be 4 77 ++ be 2 3 ++ be 2 0 ++ be 4 4096 ++ be 4 1024 ++ be 2 1024 ++ List.replicate 1024 9

/-- A member that knows its leader and has no image. -/
def W.noImage : State :=
  let s := W.run .member 2
  { s with status := { leaderNode := some 0x10 }, gran := { slotA := { status := 1 }, slotB := { status := 1 } } }

/-- A running leader whose TDM port 0 follows an outside clock, of 8 slots. -/
def W.follower (p : TdmPort) : State :=
  let s := W.run .leader 4
  { s with tdm := #v[{ p with slots := 8, used := true }, {}] }

/-- A running leader with one rate-conversion pair. -/
def W.asrc (p : AsrcPair) : State :=
  let s := W.run .leader 4
  { s with blocks := { s.blocks with pairs := [p] } }

/-- A running leader with its USB function attached at high speed. -/
def W.usb (x : Usb) : State :=
  let s := W.run .leader 4
  { s with straps := { level := s.straps.level.set 9 (some 5) }, usb := { x with vbus := true, attached := true } }

/-- A running leader with a context under way. -/
def W.thr (x : Thresher) : State :=
  let s := W.run .leader 4
  { s with thr := { x with windowAt := 40 * sec1 } }

/-- Only the instant of a boundary given. -/
def W.edge (t : Nat) : BoundaryIn := { t := t }

/-- The set of charging values of SP_BATT level 3 without a profile. -/
def W.set : ChargeSet :=
  { lfp := false, cellMv := 4200, ma := 2000, preMa := 200, mah := none, r25 := 10000, beta := 3435, tMin := 0, tMax := 60
    tDis := 60, tau := 1800 }

/-- A running leader with a battery and a power path. -/
def W.batt (x : Plant) : State :=
  let s := W.run .leader 4
  { s with straps := { level := s.straps.level.set 12 (some 3) }, plant := x }

/-- A running member with a motor and two loudspeakers. -/
def W.driving (m : Motor) (c : SpkChan) : State :=
  let s := W.run .member 1
  { s with straps := { level := (s.straps.level.set 11 (some 9)).set 10 (some 3) }, motor := m, spk := { ch := #v[c, c] } }

/-! ### Protected frames and empty rings -/

/-- Whether the checks before the ICV let a frame through. -/
def W.fits (s : State) (f : NetFrame) (g : SecTag) : Bool :=
  g.tci == 0x2C#8 && g.sciEui == f.src && classFits f g && epochFits s g && pnFits s g

theorem W.verify_sealed (s : State) (f : NetFrame) (g : SecTag) (sak x : BitVec 128) (h : W.fits s f g = true)
    (hk : sakFor s f g = some sak) :
    verify s { f with sec := some { g with icv := x } } = if icvOf sak f g = x then .good else .integrity := by
  obtain ⟨tci, sl, pn, eui, port, icv⟩ := g
  simp only [W.fits, Bool.and_eq_true, beq_iff_eq] at h
  obtain ⟨⟨⟨⟨rfl, rfl⟩, h3⟩, h4⟩, h5⟩ := h
  have c1 : classFits { f with sec := some ⟨0x2C#8, sl, pn, f.src, port, x⟩ } ⟨0x2C#8, sl, pn, f.src, port, x⟩ = true := h3
  have c2 : epochFits s ⟨0x2C#8, sl, pn, f.src, port, x⟩ = true := h4
  have c3 : pnFits s ⟨0x2C#8, sl, pn, f.src, port, x⟩ = true := h5
  have c4 : sakFor s { f with sec := some ⟨0x2C#8, sl, pn, f.src, port, x⟩ } ⟨0x2C#8, sl, pn, f.src, port, x⟩ = some sak := hk
  simp only [verify, c1, c2, c3, c4, bne_self_eq_false, Bool.not_true, Bool.or_false, Bool.false_eq_true, if_false]
  rfl

theorem W.received (s : State) (t : Nat) (port : BitVec 16) (f : NetFrame) (sak : BitVec 128)
    (ho : isOffered (s.upTo t) (W.sent s t port f) = true) (hs : sysStopped s = false)
    (hf : W.fits (s.upTo t) f (W.tag port f) = true) (hk : sakFor (s.upTo t) f (W.tag port f) = some sak) :
    Received s t (W.sent s t port f) := by
  refine ⟨ho, hs, ?_⟩
  have h := W.verify_sealed (s.upTo t) f (W.tag port f) sak (icvOf sak f (W.tag port f)) hf hk
  simp only [W.sent, hk, Option.getD_some]
  rw [h, if_pos rfl]

theorem W.forged_bad (s : State) (t : Nat) (port : BitVec 16) (f : NetFrame) (sak : BitVec 128)
    (hf : W.fits (s.upTo t) f (W.tag port f) = true) (hk : sakFor (s.upTo t) f (W.tag port f) = some sak) :
    verify (s.upTo t) (W.forged s t port f) = .integrity := by
  have h := W.verify_sealed (s.upTo t) f (W.tag port f) sak (icvOf sak f (W.tag port f) + 1) hf hk
  simp only [W.forged, hk, Option.getD_some]
  rw [h, if_neg (by bv_omega)]

theorem reservation_empty (slot cls k : Nat) : reservation [] slot cls k = none := by
  have h : resRing.committed [] k = false := by
    simp [Ring.committed, Ring.bytes, peeks, peek, at8, resRing]
  simp [reservation, h]

theorem highestBlock_empty (slot cls : Nat) : highestBlock [] slot cls = none := by
  have h : ∀ l : List Nat, l.foldl (fun (best : Option (Nat × Nat)) k =>
      match reservation [] slot cls k, best with
      | some x, some y => if y.1 < x.1 ∨ (y.1 = x.1 ∧ y.2 < x.2) then some x else best
      | some x, none => some x
      | none, _ => best) none = none := by
    intro l
    induction l with
    | nil => rfl
    | cons a l ih => simp only [List.foldl_cons, reservation_empty]; exact ih
  exact h _

theorem firstBlock_empty (slot cls : Nat) : blockAfter (highestBlock [] slot cls) = some (0, 0) := by
  rw [highestBlock_empty]; rfl

/-! ### The checks of WellFormed: an ill-formed command for each is refused -/

/-- A stream frame that fits the wire. -/
def good : NetFrame := { vlan := some (3, 771), sec := some {}, body := .aaf (some 0) {}, octets := 64 }
/-- A clock frame that fits the wire but for its fields. -/
def crf (c : Crf) : Instr := .crfFrameReceive 0 { body := .crf none c, octets := 64 }
/-- A stream frame that fits the wire but for its fields. -/
def aaf (a : Aaf) : Instr := .aafFrameReceive 0 { body := .aaf none a, octets := 64 }

theorem test_wf_good : (Instr.aafFrameReceive 0 good).wf = true := by decide
theorem test_wf_pair_samples : (Instr.pairDebouncedChange 0 [true]).wf = false := by decide
theorem test_wf_boundary_mics : (Instr.blockBoundary { t := 0, pdm := List.replicate 5 {} }).wf = false := by decide
theorem test_wf_boundary_tdm0 : (Instr.blockBoundary { t := 0, tdm0 := [List.replicate 17 0] }).wf = false := by decide
theorem test_wf_boundary_tdm1 : (Instr.slumberResume { t := 0, tdm1 := [List.replicate 17 0] }).wf = false := by decide
theorem test_wf_boundary_pdm : (Instr.blockBoundary { t := 0, pdm := [[List.replicate 65 (true, true)]] }).wf = false := by decide
theorem test_wf_frame_priority : (Instr.frameIngress 0 0 { good with vlan := some (8, 771) }).wf = false := by decide
theorem test_wf_frame_vlan : (Instr.frameIngress 0 0 { good with vlan := some (3, 4096) }).wf = false := by decide
theorem test_wf_frame_pn : (Instr.frameIngress 0 0 { good with sec := some { pn := 4294967296 } }).wf = false := by decide
theorem test_wf_frame_short : (Instr.frameIngress 0 0 { good with octets := 63 }).wf = false := by decide
theorem test_wf_aaf_version : (aaf { version := 8 }).wf = false := by decide
theorem test_wf_aaf_format : (aaf { format := 256 }).wf = false := by decide
theorem test_wf_aaf_nsr : (aaf { nsr := 16 }).wf = false := by decide
theorem test_wf_aaf_channels : (aaf { channels := 1024 }).wf = false := by decide
theorem test_wf_aaf_depth : (aaf { bitDepth := 256 }).wf = false := by decide
theorem test_wf_aaf_length : (aaf { dataLen := 65536 }).wf = false := by decide
theorem test_wf_aaf_sample : (aaf { samples := [[2147483648]] }).wf = false := by decide
theorem test_wf_crf_version : (crf { version := 8 }).wf = false := by decide
theorem test_wf_crf_type : (crf { type_ := 256 }).wf = false := by decide
theorem test_wf_crf_pull : (crf { pull := 8 }).wf = false := by decide
theorem test_wf_crf_base : (crf { base := 536870912 }).wf = false := by decide
theorem test_wf_crf_length : (crf { dataLen := 65536 }).wf = false := by decide
theorem test_wf_crf_interval : (crf { interval := 65536 }).wf = false := by decide
theorem test_wf_crf_stamp : (crf { stamp := 2 ^ 64 }).wf = false := by decide
theorem test_wf_tie_length : (PairFrame.tie (List.replicate 65548 0#8)).wf = false := by
  show decide ((List.replicate 65548 0#8).length ≤ 65547) = false
  rw [List.length_replicate]; decide
theorem test_wf_pair_frame : (Instr.tieHeartbeat 0 (.net { good with octets := 63 })).wf = false := by decide
theorem test_wf_reference : (Instr.qualificationWindowEnd { sub := [] } { sub := [] } { sub := [] } { sub := [] }).wf = false := by
  decide
theorem test_wf_tdm_sample : (Instr.tdmFrameJudged 0 0 0 true (List.replicate 17 0)).wf = false := by decide
theorem test_wf_usb_packet : (Instr.usbOutPacket 0 (List.replicate 1025 0#8)).wf = false := by
  show decide ((List.replicate 1025 0#8).length ≤ 1024) = false
  rw [List.length_replicate]; decide
theorem test_wf_sync_time : (Instr.syncReceive 0 0 (2 ^ 64)).wf = false := by decide
theorem test_wf_beacon_time : (Instr.beaconReceive 0 2 (2 ^ 64) false).wf = false := by decide
theorem test_wf_pdelay_time : (Instr.pdelayResponseReceive 0 0 0 (2 ^ 64) 0).wf = false := by decide
theorem test_wf_announce : (Instr.announceReceive 0 0 { priority1 := 256 }).wf = false := by decide
theorem test_wf_announce_source : (Instr.announceReceive 0 0 { timeSource := 256 }).wf = false := by decide
theorem test_wf_frame_gptp : (Instr.frameIngress 0 0 { body := .gptp (.sync 0 (2 ^ 64)), octets := 64 }).wf = false := by decide
theorem test_wf_register_set : (Instr.dmaShadowWrite 0 9 [0#8] false).wf = false := by decide

/-! ### Single steps against the tables of spec/ -/

/-- Table 2.2: the ends of bands 0, 1, 7 and 15, and the codes beside them. -/
theorem test_bands : [0, 22, 23, 45, 46, 90, 91, 454, 455, 500, 501, 1000, 1001, 1023].map (fun n => levelOf (Fin.ofNat 1024 n))
    = [some 0, some 0, none, none, some 1, some 1, none, none, some 7, some 7, none, none, some 15, some 15] := by decide

/-- Table 29.3 and R585: IDCODE selects the identification register, whose low bits are 0x7 then 0xA, sent lowest first. -/
theorem test_idcode :
    (match exec (.dataRegisterScan 0 0 (List.replicate 8 false)) State.reset with
     | .next u => u.jtag.tdo
     | _ => []) = [true, true, true, false, false, true, false, true] := by decide

/-- Table 29.3: opcode 0b11111 is BYPASS. -/
theorem test_bypass :
    (match exec (.bypass 0 0b11111#5) State.reset with
     | .next u => decide (u.jtag.ir = .bypass)
     | _ => false) = true := by decide

/-- R344: 65 504 is the largest half; 2^16 in FP32 becomes it, and -2^-26 becomes the zero of its sign. -/
theorem test_half_saturates : halfOfFp 0x47800000#32 = 0x7BFF#16 ∧ halfOfFp 0xB2800000#32 = 0x8000#16 := by decide

/-- R190 and R210: 0x0000 follows 0xFFFF. -/
theorem test_recovery_wraps : (recover 9 0#16 { active := true, seq := 0xFFFF#16, seen := 1#32 }).pass = true := by decide

/-- R210: a gap of 31 lost frames makes the next one a rogue. -/
theorem test_recovery_rogue : (recover 9 42#16 { active := true, seq := 10#16, seen := 1#32 }).pass = false := by decide

/-- R163: a frame whose packet number its flow has seen is not forwarded again. -/
theorem test_switch_once :
    (match exec (.frameIngress 0 0 W.plainFrame) { W.linked .member 2 with
        switch := { tables := true, flows := [⟨W.plainFrame.src, W.plainFrame.dst, [0], 5⟩] } } with
     | .next u => u.switch.flows.map (·.last)
     | _ => []) = [5] := by decide

/-- R252: with slots 0 and 1 not blank, a key goes into slot 2. -/
theorem test_key_slot :
    (match exec (.keyCreate (true, true)) { W.run .leader 4 with
        sec := { createAt := some (41 * sec1), slots := ((Vector.replicate 8 .blank).set 0 .spoiled).set 1 (.valid {}) } } with
     | .next u => decide (u.sec.slots[2] = .spoiled ∧ u.sec.slots[3] = .spoiled ∧ u.sec.slots[4] = .blank)
     | _ => false) = true := by decide

/-- R77: the counter saturates at 3. -/
theorem test_counter_saturates :
    (match exec (.watchdogExpiry (100 * ms1)) { start := { phase := .active, armedAt := some 0 }, aon := { failed := 3 } } with
     | .next u => decide (u.aon.failed = 3 ∧ u.start.phase = .held)
     | _ => false) = true := by decide

/-- R405: an erased sector reads 0xFF, the byte after it as before. -/
theorem test_erase :
    (match exec (.flashOperationComplete 0 none) { mem := { op := some { erase := true, addr := 0 }, flash := [(4095, 1#8), (4096, 2#8)] } } with
     | .next u => u.mem.flash
     | _ => []) = [(4096, 2#8)] := by decide

/-- A step takes the front command only. -/
theorem test_step_front :
    (match step { pending := [.idcode 5, .tapReset 9] } with
     | .next u => decide (u.pending = [.tapReset 9] ∧ u.now = 5)
     | _ => false) = true := by decide

/-! ### Witnesses: each clause's hypotheses are met together -/

theorem witness_ResetsRun :
    (∃ (s : State) (t : Nat) (lowNs : Nat), 10000 ≤ lowNs)
    ∧ (∃ (s : State) (t : Nat) (lowNs : Nat), lowNs ≤ 1000)
    ∧ (∃ (s : State) (rise : Nat) (por : Nat), awake s = false ∧ s.jtag.hold = false ∧ s.plant.precond = false)
    ∧ (∃ (s : State) (t : Nat) (a : Nat), awake s = true ∧ s.start.armedAt = some a ∧ a + 100 * ms1 ≤ max s.now t ∧
      inMode .safe s = false ∧ s.start.tRun = none)
    ∧ (∃ (s : State) (t : Nat) (a : Nat) (r : Nat), awake s = true ∧ s.start.armedAt = some a ∧
      a + 100 * ms1 ≤ max s.now t ∧ s.start.tRun = some r ∧ r + 60 * sec1 ≤ max s.now t)
    ∧ (∃ (s : State) (t : Nat),
      (s.start.armedAt = none ∨ ∃ a, s.start.armedAt = some a ∧ max s.now t < a + 100 * ms1))
    ∧ (∃ (s : State), awake s = true ∧ s.start.mode = none)
    ∧ (∃ (s : State) (t : Nat), s.aon.clockReset = true) :=
  ⟨⟨(W.run .leader 4 : State), (50 * sec1 : Nat), (10000 : Nat), by decide⟩,
    ⟨(W.run .leader 4 : State), (50 * sec1 : Nat), (1000 : Nat), by decide⟩,
    ⟨({ now := 5 } : State), (3000000 : Nat), (2000000 : Nat), by decide⟩,
    ⟨({ W.up with start := { phase := .active, armedAt := some (10 * sec1) } } : State), (11 * sec1 : Nat),
      (10 * sec1 : Nat), by decide⟩,
    ⟨({ W.run .leader 4 with start := { (W.run .leader 4).start with armedAt := some (10 * sec1) } } : State),
      (70 * sec1 : Nat), (10 * sec1 : Nat), (10 * sec1 : Nat), by decide⟩,
    ⟨(W.up : State), (11 * sec1 : Nat), Or.inl rfl⟩,
    ⟨(W.up : State), by decide⟩,
    ⟨({ W.run .leader 4 with aon := { clockReset := true } } : State), (50 * sec1 : Nat), by decide⟩⟩

theorem witness_StrapsRun :
    (∃ (s : State) (t : Nat) (first : StrapPin) (second : StrapPin), awake s = false ∧ s.plant.vinValid = true)
    ∧ (∃ (s : State) (pins : Vector StrapPin 13), awake s = true ∧ s.start.tLatch = none ∧ s.straps.first = none)
    ∧ (∃ (s : State) (pins : Vector StrapPin 13), awake s = true ∧ s.start.tLatch = none ∧ s.straps.first.isSome)
    ∧ (∃ (s : State) (a : Vector (Fin 1024) 13) (b : Vector (Fin 1024) 13),
      let level := Vector.ofFn (fun i : Fin 13 => agreed a[i] b[i]);
      let hard := readingFaults a b s.straps.pre (preLevel s) ++ reservedFaults level a b ++ ruleFaults level;
      awake s = true ∧ s.start.tLatch = none ∧ s.straps.first = some a ∧ s.straps.second = some b ∧ hard = [] ∧
      s.aon.failed ≠ 3)
    ∧ (∃ (s : State) (a : Vector (Fin 1024) 13) (b : Vector (Fin 1024) 13),
      let level := Vector.ofFn (fun i : Fin 13 => agreed a[i] b[i]);
      let hard := readingFaults a b s.straps.pre (preLevel s) ++ reservedFaults level a b ++ ruleFaults level;
      awake s = true ∧ s.start.tLatch = none ∧ s.straps.first = some a ∧ s.straps.second = some b ∧ hard ≠ [])
    ∧ (∃ (s : State) (a : Vector StrapPin 13) (b : Vector StrapPin 13) (l : Nat), awake s = true ∧
      s.start.tLatch = some l ∧ s.start.mode.isSome = true)
    ∧ (∃ (s : State) (t : Nat) (samples : List Bool), samples.length = 20 ∧
      samples.all (· == !s.lands.pair) = true) :=
  ⟨⟨({ plant := { vinValid := true } } : State), (7 : Nat), ({ volts := 240000 } : StrapPin),
    ({ volts := 241000, later := [(20000, 239000)] } : StrapPin), by decide⟩,
    ⟨(W.up : State), (Vector.replicate 13 { volts := 500000 } : Vector StrapPin 13), by decide⟩,
    ⟨({ W.up with straps := { first := some (Vector.replicate 13 32) } } : State),
      (Vector.replicate 13 { volts := 500000 } : Vector StrapPin 13), by decide⟩,
    ⟨({ W.up with straps := { first := some W.codes, second := some W.codes } } : State),
      (W.codes : Vector (Fin 1024) 13), (W.codes : Vector (Fin 1024) 13), by decide⟩,
    ⟨({ W.up with straps := { first := some (Vector.replicate 13 1000), second := some (Vector.replicate 13 1000) } } : State),
      (Vector.replicate 13 1000 : Vector (Fin 1024) 13), (Vector.replicate 13 1000 : Vector (Fin 1024) 13),
      by decide⟩,
    ⟨(W.run .leader 4 : State), (Vector.replicate 13 { volts := 500000 } : Vector StrapPin 13),
      (Vector.replicate 13 { volts := 500000 } : Vector StrapPin 13), (20700000 : Nat), by decide⟩,
    ⟨(W.up : State), (11 * sec1 : Nat), (List.replicate 20 true : List Bool), by decide⟩⟩

theorem witness_StartGuardsRun :
    (∃ (s : State), awake s = true ∧ s.start.pairAtLatch = true ∧ s.start.clearedByPair = false)
    ∧ (∃ (s : State) (t : Nat), awake s = true ∧ s.start.waitPair = true ∧ max s.now t < s.start.tReset + 5 * sec1)
    ∧ (∃ (s : State) (r : Nat), s.start.tRun = some r ∧ s.start.counterPending = true)
    ∧ (∃ (s : State) (t : Nat) (vbatMv : Nat) (b : BattSetup), awake s = false ∧
      (preLevel s).bind (fun k => battSetup k.val) = some b ∧ s.plant.precond = false ∧ s.plant.vinValid = true ∧
      (preRange b.lfp).1 ≤ vbatMv ∧ vbatMv < (preRange b.lfp).2 ∧ s.plant.preMs = 0)
    ∧ (∃ (s : State) (t : Nat) (l : Nat), s.plant.linkLost = some l ∧ max s.now t ≤ l + 10 * ms1)
    ∧ (∃ (s : State) (l : Nat), s.plant.linkLost = some l ∧ awake s = true ∧ inMode .safe s = false ∧
      inMode .slumber s = false)
    ∧ (∃ (s : State) (t : Nat) (domains : BitVec 18), awake s = true ∧ s.sleep.down = false ∧
      s.aon.clockReset = false ∧
      domains &&& (if s.usb.vbus && !s.usb.suspended then ownDomains else 0b01_1100_0000_0001_1111#18) ≠ 0#18)
    ∧ (∃ (s : State) (t : Nat) (domains : BitVec 18), s.aon.clockReset = true) :=
  ⟨⟨({ W.up with start := { phase := .active, pairAtLatch := true, waitPair := true }, aon := { failed := 3 } } : State),
    by decide⟩,
    ⟨({ now := 1 * sec1, start := { phase := .active, pairAtLatch := true, waitPair := true }, aon := { failed := 3, last3 := #v[0xF001#16, 0#16, 0#16] } } : State),
      (2 * sec1 : Nat), by decide⟩,
    ⟨({ W.run .leader 4 with start := { (W.run .leader 4).start with counterPending := true } } : State),
      (10 * sec1 : Nat), by decide⟩,
    ⟨({ straps := { pre := some (W.code 3, W.code 3) }, plant := { vinValid := true } } : State), (5 : Nat),
      (4500 : Nat), (⟨false, 4200, 2000⟩ : BattSetup), by decide⟩,
    ⟨({ W.run .leader 4 with plant := { linkLost := some (40 * sec1) } } : State), (40 * sec1 + 10 * ms1 : Nat),
      (40 * sec1 : Nat), by decide⟩,
    ⟨({ W.run .leader 4 with plant := { linkLost := some (40 * sec1) } } : State), (40 * sec1 : Nat), by decide⟩,
    ⟨(W.run .leader 4 : State), (50 * sec1 : Nat), (coreFamily : BitVec 18), by decide⟩,
    ⟨({ W.run .leader 4 with aon := { clockReset := true } } : State), (50 * sec1 : Nat), (ownDomains : BitVec 18),
      by decide⟩⟩

theorem witness_StatusRuns :
    (∃ (s : State) (f : Fold), s.status.folds.find? (fun g => g.code == f.code) = some f ∧ 0 < f.count)
    ∧ (∃ (s : State), powered s = true ∧ s.start.mode.isSome = true ∧ inMode .slumber s = false)
    ∧ (∃ (s : State) (d : Nat) (rest : List Nat), s.status.telemetryAt = d :: rest ∧ s.start.mode.isSome = true ∧
      inMode .slumber s = false ∧ plantActive s = true)
    ∧ (∃ (s : State) (t : Nat), s.status.replayDue = true ∧ 0 < s.status.heartbeats ∧ s.mem.flashUp = true)
    ∧ (∃ (s : State) (t : Nat) (e : LogEntry) (rest : List LogEntry), s.log.waiting = e :: rest ∧
      s.log.present = true ∧ s.mem.flashUp = true ∧ s.mem.flashAbsent = false)
    ∧ (∃ (s : State) (t : Nat) (e : LogEntry) (rest : List LogEntry), s.log.waiting = e :: rest ∧
      s.log.present = true ∧ s.mem.flashUp = true ∧ s.mem.flashAbsent = false ∧ s.log.retry = false)
    ∧ (∃ (s : State) (f : LogFold), s.log.folds.find? (fun g => g.code == f.code) = some f ∧ f.count = 0)
    ∧ (∃ (s : State) (f : LogFold), s.log.folds.find? (fun g => g.code == f.code) = some f ∧ 0 < f.count ∧
      s.mem.flashAbsent = false ∧ s.log.hour = [])
    ∧ (∃ (s : State) (o : Nat), s.log.hour.getLast? = some o ∧ s.log.hour.length ≤ 600 ∧ s.log.dropped ≠ 0) :=
  ⟨⟨({ W.run .leader 4 with status := { folds := [⟨0xF410#16, 41 * sec1, 2, 40 * sec1, []⟩] } } : State),
    (⟨0xF410#16, 41 * sec1, 2, 40 * sec1, []⟩ : Fold), by decide⟩,
    ⟨(W.run .leader 4 : State), by decide⟩,
    ⟨(W.telem : State), (41 * sec1 : Nat), ([] : List Nat), by decide⟩,
    ⟨({ W.run .leader 4 with status := { replayDue := true, heartbeats := 1 } } : State), (41 * sec1 : Nat),
      by decide⟩,
    ⟨({ W.run .leader 4 with log := { present := true, waiting := [{ code := 0xF410#16 }] } } : State),
      (41 * sec1 : Nat), ({ code := 0xF410#16 } : LogEntry), ([] : List LogEntry), by decide⟩,
    ⟨({ W.run .leader 4 with log := { present := true, waiting := [{ code := 0xF410#16 }] } } : State),
      (41 * sec1 : Nat), ({ code := 0xF410#16 } : LogEntry), ([] : List LogEntry), by decide⟩,
    ⟨({ W.run .leader 4 with log := { folds := [{ code := 0xF410#16, until_ := 41 * sec1 }] } } : State),
      ({ code := 0xF410#16, until_ := 41 * sec1 } : LogFold), by decide⟩,
    ⟨({ W.run .leader 4 with log := { folds := [{ code := 0xF410#16, until_ := 41 * sec1, count := 3 }] } } : State),
      ({ code := 0xF410#16, until_ := 41 * sec1, count := 3 } : LogFold), by decide⟩,
    ⟨({ W.run .leader 4 with log := { hour := [39 * sec1, 38 * sec1], dropped := 4 } } : State), (38 * sec1 : Nat),
      by decide⟩⟩

theorem witness_SlumberRuns :
    (∃ (s : State) (since : Nat), maySlumber (s.upTo (since + 60 * sec1)) = true ∧
      slumberState (s.upTo (since + 60 * sec1)) = true ∧ s.sleep.brokenAt ≤ since ∧ s.sleep.entryPending = false ∧
      (inMode .leader s = false ∨ s.red.contact = false))
    ∧ (∃ (s : State) (t : Nat), inMode .slumber s = true ∧ s.sleep.draining = true ∧
      (pathsEmpty (pump (s.upTo t)) = true ∨ s.sleep.enteredAt + 360 * ms1 ≤ max s.now t))
    ∧ (∃ (s : State) (t : Nat), inMode .slumber s = true ∧ s.sleep.draining = true ∧
      pathsEmpty (pump (s.upTo t)) = false ∧ max s.now t < s.sleep.enteredAt + 360 * ms1)
    ∧ (∃ (s : State), inMode .slumber s = true ∧ s.sleep.down = true ∧ s.start.left ≠ some .leader ∧
      s.sleep.wakeAt = none)
    ∧ (∃ (s : State) (t : Nat) (n : BitVec 8) (stamp : Nat) (a : Nat) (b : Nat), s.sleep.window = some (a, b) ∧
      a ≤ (s.upTo t).gptp.time ∧ (s.upTo t).gptp.time ≤ b ∧ netHears (s.upTo t) = true ∧
      (∀ x ∈ s.status.heard, n ≤ x.1 ∨ x.2 + 3 * sec1 < max s.now t))
    ∧ (∃ (s : State) (t : Nat) (n : BitVec 8) (stamp : Nat) (a : Nat) (b : Nat), s.sleep.window = some (a, b) ∧
      a ≤ (s.upTo t).gptp.time ∧ (s.upTo t).gptp.time ≤ b ∧ netHears (s.upTo t) = true ∧
      (∀ x ∈ s.status.heard, n ≤ x.1 ∨ x.2 + 3 * sec1 < max s.now t) ∧ inMode .slumber s = true ∧
      s.sleep.wakeAt = none)
    ∧ (∃ (s : State) (t : Nat) (n : BitVec 8) (stamp : Nat) (a : Nat) (b : Nat), s.sleep.window = some (a, b) ∧
      a ≤ (s.upTo t).gptp.time ∧ (s.upTo t).gptp.time ≤ b ∧ netHears (s.upTo t) = true ∧
      (∃ x ∈ s.status.heard, x.1 < n ∧ max s.now t ≤ x.2 + 3 * sec1))
    ∧ (∃ (s : State) (a : Nat) (b : Nat), s.sleep.window = some (a, b) ∧ s.sleep.got = true)
    ∧ (∃ (s : State) (a : Nat) (b : Nat), s.sleep.window = some (a, b) ∧ s.sleep.got = false ∧ s.sleep.missed < 5)
    ∧ (∃ (s : State) (a : Nat) (b : Nat), s.sleep.window = some (a, b) ∧ s.sleep.got = false ∧ 5 ≤ s.sleep.missed ∧
      inMode .slumber s = true ∧ s.sleep.wakeAt = none)
    ∧ (∃ (s : State) (a : Nat) (b : Nat), s.sleep.window = some (a, b) ∧ 5 ≤ s.sleep.missed ∧ s.sleep.got = false ∧
      inMode .slumber s = true ∧ s.sleep.wakeAt = none ∧ s.start.left ≠ some .partner)
    ∧ (∃ (s : State) (d : Nat), s.red.wakeAnswer = some d)
    ∧ (∃ (s : State) (t : Nat) (cause : WakeCause), inMode .slumber s = true ∧ s.sleep.wakeAt = none) :=
  ⟨⟨({ W.run .member 2 with plant := { onBattery := true } } : State), (41 * sec1 : Nat), by decide⟩,
    ⟨({ W.asleep .member 2 with sleep := { draining := true } } : State), (41 * sec1 : Nat), by decide, by decide,
      Or.inr (by decide)⟩,
    ⟨({ W.asleep .member 2 with sleep := { draining := true, enteredAt := 40 * sec1 }, status := { stat := { queue := [{ bytes := [0xC3#8, 0x3C#8] }] } } } : State),
      (40 * sec1 + 100 : Nat), by decide⟩,
    ⟨(W.asleep .member 2 : State), by decide⟩,
    ⟨({ W.on (W.asleep .member 2) with sleep := { down := true, window := some (40995000000, 41005000000), beaconAt := 41 * sec1 } } : State),
      (41 * sec1 : Nat), (0x10 : BitVec 8), (41000000100 : Nat), (40995000000 : Nat), (41005000000 : Nat),
      by decide⟩,
    ⟨({ W.on (W.asleep .member 2) with status := { heard := [(0x10, 40 * sec1), (0x08, 33 * sec1)] }, sleep := { down := true, window := some (40995000000, 41005000000), beaconAt := 41 * sec1 } } : State),
      (41 * sec1 : Nat), (0x10 : BitVec 8), (41000000100 : Nat), (40995000000 : Nat), (41005000000 : Nat),
      by decide⟩,
    ⟨({ W.on (W.asleep .member 2) with status := { heard := [(0x08, 38 * sec1)] }, sleep := { down := true, window := some (40995000000, 41005000000), beaconAt := 41 * sec1 } } : State),
      (41 * sec1 : Nat), (0x10 : BitVec 8), (41000000100 : Nat), (40995000000 : Nat), (41005000000 : Nat),
      by decide⟩,
    ⟨({ W.asleep .member 2 with sleep := { down := true, window := some (40995000000, 41005000000), beaconAt := 41 * sec1, got := true } } : State),
      (40995000000 : Nat), (41005000000 : Nat), by decide⟩,
    ⟨({ W.asleep .member 2 with sleep := { down := true, window := some (40995000000, 41005000000), beaconAt := 41 * sec1, missed := 4 } } : State),
      (40995000000 : Nat), (41005000000 : Nat), by decide⟩,
    ⟨({ W.asleep .member 2 with sleep := { down := true, window := some (40995000000, 41005000000), beaconAt := 41 * sec1, missed := 5 } } : State),
      (40995000000 : Nat), (41005000000 : Nat), by decide⟩,
    ⟨({ W.asleep .member 2 with sleep := { down := true, window := some (40995000000, 41005000000), beaconAt := 41 * sec1, missed := 5 } } : State),
      (40995000000 : Nat), (41005000000 : Nat), by decide⟩,
    ⟨({ W.asleep .partner 7 with red := { wakeAnswer := some (41 * sec1) } } : State), (41 * sec1 : Nat),
      by decide⟩,
    ⟨(W.asleep .member 2 : State), (41 * sec1 : Nat), (.vin : WakeCause), by decide⟩⟩

theorem witness_MemoriesRun :
    (∃ (s : State) (t : Nat) (tries : List FlashTry) (cause : _), awake s = true ∧ s.start.tLatch.isSome = true ∧
      s.mem.flashUp = false ∧ s.mem.flashAbsent = false ∧ flashOutcome (tries.take 3) = .inl cause)
    ∧ (∃ (s : State) (t : Nat) (tries : List FlashTry) (mib : _), awake s = true ∧ s.start.tLatch.isSome = true ∧
      s.mem.flashUp = false ∧ s.mem.flashAbsent = false ∧ flashOutcome (tries.take 3) = .inr mib)
    ∧ (∃ (s : State) (t : Nat) (second : Bool), awake s = true ∧ s.start.mode = none ∧ s.start.imageDone = true ∧
      s.start.loftDone = false)
    ∧ (∃ (s : State) (t : Nat) (w : Nat) (second : Bool), inMode .slumber s = true ∧ s.sleep.wakeAt = some w)
    ∧ (∃ (s : State) (t : Nat) (tries : List PsramTry) (x : PsramTry), awake s = true ∧ s.start.mode = none ∧
      s.start.loftDone = true ∧ s.start.psramDone = false ∧
      (tries.take 3).find? (fun y => (psramFails y).isNone) = some x)
    ∧ (∃ (s : State) (t : Nat) (addr : Nat), flashReady s = true ∧ s.mem.readRetries < 3)
    ∧ (∃ (s : State) (t : Nat) (addr : Nat), flashReady s = true ∧ 3 ≤ s.mem.readRetries)
    ∧ (∃ (s : State) (t : Nat), s.mem.op.isSome = true)
    ∧ (∃ (s : State) (t : Nat) (addr : Nat), awake s = true ∧ s.start.psramDone = true ∧ s.mem.siloRetry = false)
    ∧ (∃ (s : State) (t : Nat) (addr : Nat), awake s = true ∧ s.start.psramDone = true ∧ s.mem.siloRetry = true) :=
  ⟨⟨({ W.starting with mem := {} } : State), (11 * sec1 : Nat),
    ([{ sfdp := false }, { sfdp := false }, { sfdp := false }] : List FlashTry), (0 : Nat), by decide⟩,
    ⟨({ W.starting with mem := {} } : State), (11 * sec1 : Nat), ([{ mib := 32 }] : List FlashTry), (32 : Nat),
      by decide⟩,
    ⟨(W.starting : State), (11 * sec1 : Nat), (true : Bool), by decide⟩,
    ⟨({ W.asleep .member 2 with sleep := { wakeAt := some (41 * sec1), beaconAt := 48 * sec1 } } : State),
      (41 * sec1 : Nat), (41 * sec1 : Nat), (true : Bool), by decide⟩,
    ⟨({ W.starting with start := { W.starting.start with loftDone := true } } : State), (11 * sec1 : Nat),
      ([{ mib := 16 }] : List PsramTry), ({ mib := 16 } : PsramTry), by decide⟩,
    ⟨({ W.run .leader 4 with mem := { flashUp := true, readRetries := 2 } } : State), (41 * sec1 : Nat),
      (4096 : Nat), by decide⟩,
    ⟨({ W.run .leader 4 with mem := { flashUp := true, readRetries := 3, op := some {} } } : State),
      (41 * sec1 : Nat), (4096 : Nat), by decide⟩,
    ⟨({ W.run .leader 4 with mem := { flashUp := true, op := some {}, resumedAt := some (41 * sec1) } } : State),
      (41 * sec1 : Nat), by decide⟩,
    ⟨(W.run .leader 4 : State), (41 * sec1 : Nat), (4096 : Nat), by decide⟩,
    ⟨({ W.run .leader 4 with mem := { flashUp := true, siloRetry := true } } : State), (41 * sec1 : Nat),
      (4096 : Nat), by decide⟩⟩

theorem witness_DmaRuns :
    (∃ (s : State) (t : Nat) (ch : Fin 16), s.mem.dma[ch].active.valid = true ∧ s.mem.dma[ch].active.kind ≠ 0)
    ∧ (∃ (s : State) (t : Nat) (ch : Fin 16), s.mem.dma[ch].active.valid = true ∧ s.mem.dma[ch].active.kind = 0 ∧
      badAddress (s.upTo t) s.mem.dma[ch].active = none ∧ s.mem.dma[ch].shadow.valid = false)
    ∧ (∃ (s : State) (t : Nat) (ch : Fin 16) (a : Nat), s.mem.dma[ch].active.valid = true ∧
      s.mem.dma[ch].active.kind = 0 ∧ badAddress (s.upTo t) s.mem.dma[ch].active = some a)
    ∧ (∃ (s : State) (t : Nat) (ch : Fin 16) (fill : Nat), s.mem.dma[ch].active.paced = true ∧
      s.mem.dma[ch].active.fill = true)
    ∧ (∃ (s : State) (t : Nat) (ch : Fin 16) (set : List (BitVec 8)), channelKind ch = 0 ∧
      s.mem.dma[ch].active.valid = true ∧ s.mem.dma[ch].shadow.valid = true)
    ∧ (∃ (s : State) (t : Nat) (ch : Fin 16) (set : List (BitVec 8)), channelKind ch = 0 ∧
      s.mem.dma[ch].active.valid = true ∧ s.mem.dma[ch].shadow.valid = false) :=
  ⟨⟨(W.dma 4 { active := { kind := 2, valid := true, table := 0x20000000, ring := 2 } } : State),
    (41 * sec1 : Nat), (4 : Fin 16), by decide⟩,
    ⟨(W.dma 8 { active := { kind := 0, valid := true, src := 0x20000000, dst := 0x20001000, rowLen := 4, rows := 1 } } : State),
      (41 * sec1 : Nat), (8 : Fin 16), by decide⟩,
    ⟨(W.dma 8 { active := { kind := 0, valid := true, src := 0x90000000, dst := 0x20001000, rowLen := 4, rows := 1 } } : State),
      (41 * sec1 : Nat), (8 : Fin 16), (0x90000000 : Nat), by decide⟩,
    ⟨(W.dma 3 { active := { kind := 1, valid := true, paced := true, fill := true, startMark := 2, stopMark := 8 } } : State),
      (41 * sec1 : Nat), (3 : Fin 16), (2 : Nat), by decide⟩,
    ⟨(W.dma 8 { active := { valid := true }, shadow := { valid := true } } : State), (41 * sec1 : Nat),
      (8 : Fin 16), ([0x80#8] : List (BitVec 8)), by decide⟩,
    ⟨(W.dma 8 { active := { valid := true } } : State), (41 * sec1 : Nat), (8 : Fin 16),
      ([0x80#8] : List (BitVec 8)), by decide⟩⟩

theorem witness_GptpSendsRun :
    (∃ (s : State) (i : Fin 2) (d : Nat), s.ports[i].syncAt = some d ∧ gptpRuns s = true ∧
      masterPort (s.upTo d) i = true ∧ s.gptp.grandmaster = true)
    ∧ (∃ (s : State) (i : Fin 2) (d : Nat), s.ports[i].announceAt = some d ∧ gptpRuns s = true ∧
      masterPort (s.upTo d) i = true)
    ∧ (∃ (s : State) (i : Fin 2) (d : Nat), s.ports[i].annDeadline = some d)
    ∧ (∃ (s : State) (i : Fin 2), s.gptp.slavePort = some i)
    ∧ (∃ (s : State) (i : Fin 2) (d : Nat), s.ports[i].pdelayAt = some d ∧ gptpRuns s = true ∧
      s.ports[i].up = true)
    ∧ (∃ (s : State) (t : Nat) (i : Fin 2) (seq : BitVec 16), gptpRuns s = true ∧ portHears s i = true ∧
      sysStopped s = false)
    ∧ (∃ (s : State) (d : Nat), s.gptp.priority255 = some d)
    ∧ (∃ (p : Port) (f : NetFrame) (q : BitVec 16) (r : Nat) (time : Nat) (a : Bool), p.asleep = false ∧
      p.phy = true)
    ∧ (∃ (s : State) (l : Nat), s.gptp.holdFrom = some l ∧ s.gptp.synced = true ∧ s.gptp.grandmaster = false) :=
  ⟨⟨(let s := W.linked .leader 4; { s with ports := s.ports.set 0 { s.ports[0] with syncAt := some (41 * sec1) }, gptp := { s.gptp with grandmaster := true } } : State),
    (0 : Fin 2), (41 * sec1 : Nat), by decide⟩,
    ⟨(let s := W.linked .leader 4; { s with ports := s.ports.set 0 { s.ports[0] with announceAt := some (41 * sec1) }, gptp := { s.gptp with grandmaster := true } } : State),
      (0 : Fin 2), (41 * sec1 : Nat), by decide⟩,
    ⟨(let s := W.linked .leader 4; { s with ports := s.ports.set 0 { s.ports[0] with annDeadline := some (41 * sec1), best1 := some {} } } : State),
      (0 : Fin 2), (41 * sec1 : Nat), by decide⟩,
    ⟨(let s := W.linked .member 2; { s with ports := s.ports.set 1 { s.ports[1] with best1 := some { priority1 := 1 }, annDeadline := some (42 * sec1) }, gptp := { s.gptp with slavePort := some 1, lastSync := some (40 * sec1) } } : State),
      (1 : Fin 2), by decide⟩,
    ⟨(let s := W.linked .member 2; { s with ports := s.ports.set 1 { s.ports[1] with pdelayAt := some (41 * sec1), pdelaySeq := 0xFFFF } } : State),
      (1 : Fin 2), (41 * sec1 : Nat), by decide⟩,
    ⟨(W.linked .member 2 : State), (41 * sec1 : Nat), (1 : Fin 2), (9 : BitVec 16), by decide⟩,
    ⟨(let s := W.linked .member 2; { s with gptp := { s.gptp with priority255 := some (41 * sec1) } } : State),
      (41 * sec1 : Nat), by decide⟩,
    ⟨({ phy := true } : Port), (W.plainFrame : NetFrame), (9 : BitVec 16), (40 * sec1 : Nat), (41 * sec1 : Nat),
      (true : Bool), by decide⟩,
    ⟨(let s := W.linked .member 2; { s with gptp := { s.gptp with holdFrom := some (40 * sec1), synced := true } } : State),
      (40 * sec1 : Nat), by decide⟩⟩

theorem witness_GptpReceivesRun :
    (∃ (s : State) (t : Nat) (i : Fin 2) (gm : Nat), gptpRuns s = true ∧ portHears s i = true ∧
      sysStopped s = false ∧ s.ports[i].asCapable = true ∧ s.gptp.slavePort = some i ∧ gm < 2 ^ 64 ∧
      s.blocks.running = false ∧ s.gptp.firstSet = false)
    ∧ (∃ (s : State) (t : Nat) (i : Fin 2) (gm : Nat), gptpRuns s = true ∧ portHears s i = true ∧
      sysStopped s = false ∧ s.ports[i].asCapable = true ∧ s.gptp.slavePort = some i ∧ gm < 2 ^ 64 ∧
      s.blocks.running = true ∧ 10000 < ((gm : Int) - (s.upTo t).gptp.time).natAbs)
    ∧ (∃ (s : State) (t : Nat) (i : Fin 2) (gm : Nat), gptpRuns s = true ∧ portHears s i = true ∧
      sysStopped s = false ∧ s.ports[i].asCapable = true ∧ s.gptp.slavePort = some i ∧ gm < 2 ^ 64 ∧
      s.blocks.running = true ∧ ((gm : Int) - (s.upTo t).gptp.time).natAbs ≤ 10000)
    ∧ (∃ (s : State) (t : Nat) (i : Fin 2) (v : GmVector), gptpRuns s = true ∧ portHears s i = true ∧
      sysStopped s = false ∧ s.ports[i].asCapable = true ∧ v.sender ≠ clockIdentity s ∧
      v.identity ≠ clockIdentity s ∧ s.ports[i].best1 = none)
    ∧ (∃ (s : State) (t : Nat) (i : Fin 2) (rx : Nat) (tx : Nat) (t1 : Nat), gptpRuns s = true ∧
      portHears s i = true ∧ sysStopped s = false ∧ (s.upTo t).ports[i].pdelaySent = some t1) :=
  ⟨⟨(let s := W.linked .member 2; { s with gptp := { s.gptp with slavePort := some 0 }, blocks := {} } : State),
    (41 * sec1 : Nat), (0 : Fin 2), (5 : Nat), by decide⟩,
    ⟨(let s := W.linked .member 2; { s with gptp := { s.gptp with slavePort := some 0 } } : State),
      (41 * sec1 : Nat), (0 : Fin 2), (5 : Nat), by decide⟩,
    ⟨(let s := W.linked .member 2; { s with gptp := { s.gptp with slavePort := some 0 } } : State),
      (41 * sec1 : Nat), (0 : Fin 2), (41 * sec1 + 10000 : Nat), by decide⟩,
    ⟨(W.linked .member 2 : State), (41 * sec1 : Nat), (0 : Fin 2),
      ({ priority1 := 1, identity := 7, sender := 7 } : GmVector), by decide⟩,
    ⟨(let s := W.linked .member 2; { s with ports := s.ports.set 0 { s.ports[0] with pdelaySent := some (40 * sec1) } } : State),
      (40 * sec1 + 2600 : Nat), (0 : Fin 2), (100 : Nat), (1100 : Nat), (40 * sec1 : Nat), by decide⟩⟩

theorem witness_WellspringRuns :
    (∃ (s : State) (d : Nat) (r : Ref), s.well.refDeadline = some d ∧ awake s = true ∧ s.well.atStart = true ∧
      firstSuch (fun r => (refState s.well r).qualified) (orderOf s) = some r)
    ∧ (∃ (s : State) (e : Nat) (net : RefMeas) (bpi0 : RefMeas) (bpi1 : RefMeas) (wclk : RefMeas),
      s.well.windowEnd = some e ∧ s.well.atStart = false)
    ∧ (∃ (s : State) (t : Nat) (r : Ref) (crf : Bool) (i : Fin 4), refIndex r = some i ∧
      s.well.refs[i].qualified = true)
    ∧ (∃ (s : State) (r : Ref) (i : Fin 4) (b : Nat), refIndex r = some i ∧ s.well.refs[i].barred = some b)
    ∧ (∃ (s : State), s.well.holdover = true)
    ∧ (∃ (s : State) (t : Nat) (err : Int), s.well.holdover = false ∧ s.well.selected = some .local ∧
      s.well.stage = .idle ∧ s.well.locked = false ∧ wellRuns s = true ∧ inMode .slumber s = false)
    ∧ (∃ (s : State) (t : Nat) (err : Int) (r : Ref), s.well.holdover = false ∧ s.well.selected = some r ∧
      r ≠ .local ∧ r ≠ .net ∧ s.well.stage ≠ .frequency ∧ s.well.stage ≠ .phase ∧ s.start.tRun.isSome = true ∧
      wellRuns s = true)
    ∧ (∃ (s : State) (d : Nat), s.well.nextHalf = some d)
    ∧ (∃ (s : State) (t : Nat) (err : Int), s.well.stage = .frequency ∧ s.well.selected = some .local ∧
      s.well.dco = 0)
    ∧ (∃ (s : State) (t : Nat) (err : Int) (r : _), s.well.stage = .frequency ∧ s.well.selected = some r ∧
      r ≠ .local ∧ (s.well.dco - s.well.dcoGoal).natAbs ≤ 184467440737)
    ∧ (∃ (s : State) (t : Nat) (err : Int) (r : _), s.well.stage = .frequency ∧ s.well.selected = some r ∧
      (if r = .local then s.well.dco ≠ 0 else 184467440737 < (s.well.dco - s.well.dcoGoal).natAbs))
    ∧ (∃ (s : State) (t : Nat), s.well.stage = .phase ∧ s.well.phaseLeft = 0 ∧ s.well.phaseOff = 0)
    ∧ (∃ (s : State) (t : Nat), (s.well.phaseLeft ≠ 0 ∨ s.well.phaseOff ≠ 0))
    ∧ (∃ (s : State) (d : Nat) (r : Ref), s.well.histAt = some d ∧ s.well.selected = some r ∧ r ≠ .local ∧
      atTarget s.well = true) :=
  ⟨⟨({ W.starting with well := { atStart := true, refDeadline := some (15 * sec1) } } : State), (15 * sec1 : Nat),
    (.local : Ref), by decide⟩,
    ⟨(let s := W.run .leader 4; { s with well := { s.well with windowEnd := some (41 * sec1), refs := #v[{ qualified := true }, { barred := some (50 * sec1) }, {}, {}] } } : State),
      (41 * sec1 : Nat), ({} : RefMeas), ({} : RefMeas), ({} : RefMeas), ({} : RefMeas), by decide⟩,
    ⟨(let s := W.run .member 2; { s with well := { s.well with selected := some .wclk, refs := #v[{}, {}, {}, { qualified := true, losses := [39 * sec1, 38 * sec1] }] } } : State),
      (41 * sec1 : Nat), (.wclk : Ref), (false : Bool), (3 : Fin 4), by decide⟩,
    ⟨(let s := W.run .member 2; { s with well := { s.well with refs := #v[{}, {}, {}, { barred := some (50 * sec1) }] } } : State),
      (.wclk : Ref), (3 : Fin 4), (50 * sec1 : Nat), by decide⟩,
    ⟨(let s := W.run .member 2; { s with well := { s.well with holdover := true, holdoverFrom := 40 * sec1 } } : State),
      by decide⟩,
    ⟨(let s := W.run .member 2; { s with well := { s.well with locked := false } } : State), (41 * sec1 : Nat),
      (3 : Int), by decide⟩,
    ⟨(let s := W.run .member 2; { s with well := { s.well with selected := some .wclk, locked := false } } : State),
      (41 * sec1 : Nat), (3 : Int), (.wclk : Ref), by decide⟩,
    ⟨(let s := W.run .member 2; { s with well := { s.well with nextHalf := some (41 * sec1) } } : State),
      (41 * sec1 : Nat), by decide⟩,
    ⟨(let s := W.run .member 2; { s with well := { s.well with stage := .frequency } } : State), (41 * sec1 : Nat),
      (500 : Int), by decide⟩,
    ⟨(let s := W.run .member 2; { s with well := { s.well with stage := .frequency, selected := some .wclk, dco := 184467440737 } } : State),
      (41 * sec1 : Nat), (500 : Int), (.wclk : Ref), by decide⟩,
    ⟨(let s := W.run .member 2; { s with well := { s.well with stage := .frequency, selected := some .wclk, dco := 184467440738 } } : State),
      (41 * sec1 : Nat), (500 : Int), (.wclk : Ref), by decide⟩,
    ⟨(let s := W.run .member 2; { s with well := { s.well with stage := .phase, selected := some .wclk } } : State),
      (41 * sec1 : Nat), by decide⟩,
    ⟨(let s := W.run .member 2; { s with well := { s.well with stage := .phase, selected := some .wclk, phaseLeft := 4 } } : State),
      (41 * sec1 : Nat), by decide⟩,
    ⟨(let s := W.run .member 2; { s with well := { s.well with selected := some .wclk, histAt := some (41 * sec1), bandwidth := 100000, histCount := 1 }, history := List.replicate 16 {} } : State),
      (41 * sec1 : Nat), (.wclk : Ref), by decide⟩⟩

theorem witness_PortsRun :
    (∃ (s : State) (l : Nat) (a : Diag × Nat) (b : Diag × Nat), s.start.base = some l ∧ awake s = true ∧
      s.ports[0].enabled = true ∧ s.ports[1].enabled = true ∧ s.ports[0].diag = .none ∧ s.ports[1].diag = .none)
    ∧ (∃ (s : State) (l : Nat) (a : Diag × Nat) (b : Diag × Nat), s.start.base = some l ∧ awake s = true ∧
      s.ports[0].enabled = true ∧ s.ports[1].enabled = true ∧ (s.ports[0].diag ≠ .none ∨ s.ports[1].diag ≠ .none))
    ∧ (∃ (s : State) (i : Fin 2) (d : Nat) (page : Option AnPage), s.ports[i].altAt = some d ∧
      s.ports[i].enabled = true ∧ s.ports[i].phy = false ∧ s.ports[i].diag ≠ .none ∧
      (s.ports[i].forced = true ∨ page = none))
    ∧ (∃ (s : State) (i : Fin 2) (d : Nat) (page : AnPage), s.ports[i].altAt = some d ∧ s.ports[i].enabled = true ∧
      s.ports[i].phy = false ∧ s.ports[i].diag ≠ .none ∧ s.ports[i].forced = false)
    ∧ (∃ (s : State) (t : Nat) (i : Fin 2), s.ports[i].enabled = true ∧ s.ports[i].phy = false ∧
      s.ports[i].diag ≠ .none ∧ s.ports[i].forced = true)
    ∧ (∃ (s : State) (t : Nat) (i : Fin 2) (page : AnPage), s.ports[i].enabled = true ∧ s.ports[i].phy = false ∧
      s.ports[i].diag ≠ .none ∧ s.ports[i].forced = false ∧ page.same = true)
    ∧ (∃ (s : State) (t : Nat) (i : Fin 2), s.ports[i].enabled = true ∧ s.ports[i].phy = true)
    ∧ (∃ (s : State) (i : Fin 2), s.ports[i].enabled = true ∧ s.ports[i].phy ≠ s.ports[i].up)
    ∧ (∃ (s : State) (i : Fin 2) (b : Nat), s.start.base = some b ∧ s.ports[i].enabled = true ∧
      s.ports[i].diag = .good ∧ s.ports[i].up = false)
    ∧ (∃ (s : State) (i : Fin 2) (t : Nat) (l : List Nat), s.ports[i].changes = t :: l)
    ∧ (∃ (s : State) (t : Nat), s.podl.signature = true)
    ∧ (∃ (s : State) (t : Nat) (mv : Nat) (v : Bool), s.podl.signature = true)
    ∧ (∃ (s : State) (c : Nat), s.podl.classifiedAt = some c ∧ s.start.tRun.isSome = true ∧
      linkPodl (lvlD s 6) = true ∧ s.podl.enable = false) :=
  ⟨⟨({ W.starting with ports := Vector.replicate 2 { enabled := true } } : State), (20700000 : Nat),
    ((.open, 4) : Diag × Nat), ((.good, 0) : Diag × Nat), by decide⟩,
    ⟨({ W.starting with ports := Vector.replicate 2 { enabled := true, diag := .good } } : State),
      (20700000 : Nat), ((.open, 4) : Diag × Nat), ((.good, 0) : Diag × Nat), by decide⟩,
    ⟨(let s := W.linked .member 2; { s with ports := s.ports.set 0 { enabled := true, diag := .good, altAt := some (41 * sec1) } } : State),
      (0 : Fin 2), (41 * sec1 : Nat), (none : Option AnPage), by decide⟩,
    ⟨(let s := W.linked .member 2; { s with ports := s.ports.set 0 { enabled := true, diag := .good, forced := false, altAt := some (41 * sec1) } } : State),
      (0 : Fin 2), (41 * sec1 : Nat), ({} : AnPage), by decide⟩,
    ⟨(let s := W.linked .member 2; { s with ports := s.ports.set 0 { enabled := true, diag := .good, forced := true } } : State),
      (41 * sec1 : Nat), (0 : Fin 2), by decide⟩,
    ⟨(let s := W.linked .member 2; { s with ports := s.ports.set 0 { enabled := true, diag := .good, forced := false } } : State),
      (41 * sec1 : Nat), (0 : Fin 2), ({ eee := false } : AnPage), by decide⟩,
    ⟨(W.linked .member 2 : State), (41 * sec1 : Nat), (0 : Fin 2), by decide⟩,
    ⟨(let s := W.linked .member 2; { s with ports := s.ports.set 0 { enabled := true, phy := false, up := true, phySince := 41 * sec1, changes := [41 * sec1, 40 * sec1, 39 * sec1, 38 * sec1] } } : State),
      (0 : Fin 2), by decide⟩,
    ⟨(let s := W.linked .member 2; { s with ports := s.ports.set 0 { enabled := true, diag := .good } } : State),
      (0 : Fin 2), (20700000 : Nat), by decide⟩,
    ⟨(let s := W.linked .member 2; { s with ports := s.ports.set 0 { enabled := true, changes := [39 * sec1, 38 * sec1] }, status := { active := [⟨0xF401#16, 2, 0⟩] } } : State),
      (0 : Fin 2), (39 * sec1 : Nat), ([38 * sec1] : List Nat), by decide⟩,
    ⟨(W.linked .member 2 : State), (41 * sec1 : Nat), by decide⟩,
    ⟨(W.linked .member 2 : State), (41 * sec1 : Nat), (24000 : Nat), (true : Bool), by decide⟩,
    ⟨(let s := W.linked .member 2; { s with podl := { classifiedAt := some (41 * sec1) } } : State),
      (41 * sec1 : Nat), by decide⟩⟩

theorem witness_SwitchRuns :
    (∃ (s : State) (t : Nat) (i : Fin 2) (f : NetFrame), (∀ m, f.body ≠ .gptp m) ∧ switchAdmits f = false)
    ∧ (∃ (s : State) (t : Nat) (i : Fin 2) (f : NetFrame) (l : List Flow), (∀ m, f.body ≠ .gptp m) ∧
      awake s = true ∧ s.ports[i].up = true ∧ s.ports[i].phy = true ∧ sysStopped s = false ∧
      inMode .slumber s = false ∧ s.switch.tables = true ∧ switchAdmits f = true ∧ f.src ≠ s.eui48 ∧
      forwardFlow (max s.now t) f ((f.sec.map (·.pn)).getD 0) s.switch.flows = some l)
    ∧ (∃ (s : State) (w : Flow), s.switch.flows.find? (fun x => x.src == w.src && x.dst == w.dst) = some w)
    ∧ (∃ (s : State) (n : BitVec 8) (at_ : Nat), s.status.heard.find? (fun x => x.1 == n) = some (n, at_))
    ∧ (∃ (s : State), s.status.heard = [] ∧ inMode .member s = true ∧ anyActive 0xF410#16 s = false)
    ∧ (∃ (s : State) (l : Nat), s.status.sharedSeen = some l)
    ∧ (∃ (s : State) (t : Nat) (f : NetFrame) (e : BitVec 16) (b : List Byte), Received s t f ∧ dstKind f.dst = 4 ∧
      f.body = .bytes e b ∧ b.take 3 = [0xC3#8, 0x3C#8, 0x10#8] ∧ at8 b 8 = 3#8)
    ∧ (∃ (s : State) (t : Nat) (f : NetFrame), isOffered (s.upTo t) f = true ∧ sysStopped s = false ∧
      dstKind f.dst = 4 ∧ verify (s.upTo t) f = .integrity)
    ∧ (∃ (s : State) (t : Nat) (f : NetFrame), isOffered (s.upTo t) f = true ∧ sysStopped s = true ∧
      dstKind f.dst = 4) :=
  ⟨⟨(W.linked .member 2 : State), (41 * sec1 : Nat), (0 : Fin 2), ({ dst := 0x112233445566 } : NetFrame),
    fun _ => nofun, by decide⟩,
    ⟨(W.linked .member 2 : State), (41 * sec1 : Nat), (0 : Fin 2), (W.plainFrame : NetFrame),
      ([{ src := 0x02AA, dst := dstOf 3 1 0x22, seen := [0], last := 41 * sec1 }] : List Flow), fun _ => nofun,
      by decide, by decide, by decide, by decide, by decide, by decide, by decide, by decide, by decide⟩,
    ⟨({ W.linked .member 2 with switch := { tables := true, flows := [{ src := 2, dst := 3, seen := [7], last := 40 * sec1 }] } } : State),
      ({ src := 2, dst := 3, seen := [7], last := 40 * sec1 } : Flow), by decide⟩,
    ⟨({ W.linked .member 2 with status := { heard := [(0x10, 39 * sec1), (0x11, 40 * sec1)], active := [⟨0xF500#16, 2, 0x10⟩] } } : State),
      (0x10 : BitVec 8), (39 * sec1 : Nat), by decide⟩,
    ⟨(W.linked .member 2 : State), by decide⟩,
    ⟨({ W.linked .member 2 with status := { sharedSeen := some (39 * sec1), active := [⟨0xF411#16, 2, 0⟩] } } : State),
      (39 * sec1 : Nat), by decide⟩,
    ⟨(W.linked .member 2 : State), (41 * sec1 : Nat),
      (W.sent (W.linked .member 2) (41 * sec1) 0x0000 (W.statusFrame [0xC3#8, 0x3C#8, 0x10#8, 0#8, 3#8, 0x10#8, 0#8, 1#8, 3#8]) : NetFrame),
      (0x88B5 : BitVec 16), ([0xC3#8, 0x3C#8, 0x10#8, 0#8, 3#8, 0x10#8, 0#8, 1#8, 3#8] : List Byte),
      W.received _ _ _ _ _ (by decide) rfl (by decide) rfl, by decide, by decide, by decide, by decide⟩,
    ⟨(W.linked .member 2 : State), (41 * sec1 : Nat),
      (W.forged (W.linked .member 2) (41 * sec1) 0x0000 (W.statusFrame [0xC3#8, 0x3C#8, 0x10#8]) : NetFrame),
      by decide, by decide, by decide, W.forged_bad _ _ _ _ _ (by decide) rfl⟩,
    ⟨({ W.linked .member 2 with aon := { clockReset := true, lost := 0b100#18 } } : State), (41 * sec1 : Nat),
      ({ W.statusFrame [0xC3#8, 0x3C#8, 0x10#8] with sec := some {} } : NetFrame), by decide⟩⟩

theorem witness_StreamsRun :
    (∃ (s : State) (k : Fin 3), s.blocks.running = true ∧ (txOf s k).next < 8)
    ∧ (∃ (s : State), s.streams.crf.next < 8)
    ∧ (∃ (s : State) (t : Nat) (f : NetFrame) (q : BitVec 16) (a : Aaf), f.body = .aaf (some q) a ∧
      powered s = true ∧ inMode .slumber s = false ∧ dstInRange f.dst = true ∧ dstKind f.dst ≤ 2 ∧
      f.src ≠ s.eui48 ∧ a.streamLow = streamLow (dstTenant f.dst) (dstKind f.dst) (dstNode f.dst) ∧
      listensTo s (dstKind f.dst) (dstTenant f.dst) = true ∧
      usesStream s (dstKind f.dst) (dstTenant f.dst) = true ∧ Received s t f ∧ aafChecks (dstKind f.dst) a = true ∧
      s.blocks.running = true ∧ nsrRate a.nsr = s.well.rate ∧ s.streams.rx = [])
    ∧ (∃ (s : State) (t : Nat) (f : NetFrame) (q : BitVec 16) (c : Crf), f.body = .crf (some q) c ∧
      powered s = true ∧ inMode .member s = true ∧ dstInRange f.dst = true ∧ dstKind f.dst = 3 ∧ f.src ≠ s.eui48 ∧
      c.streamLow = streamLow (dstTenant f.dst) 3 (dstNode f.dst) ∧ dstTenant f.dst = tenant s ∧ Received s t f ∧
      crfChecks s.well.family44 c = true ∧ s.streams.rx = [] ∧ s.status.heard = [] ∧
      strappedPartner (role s) = false ∧ strappedLeader (role s) = false)
    ∧ (∃ (s : State) (kind : Nat) (n : BitVec 8) (i : Nat) (x : RxStream), rxIndex s kind n = some i ∧
      s.streams.rx[i]? = some x)
    ∧ (∃ (s : State) (kind : Nat) (n : BitVec 8) (i : Nat) (x : RxStream), rxIndex s kind n = some i ∧
      s.streams.rx[i]? = some x ∧ x.recov.active = true)
    ∧ (∃ (s : State), s.blocks.running = true ∧ inMode .leader s = true)
    ∧ (∃ (s : State), s.blocks.running = true ∧ inMode .member s = true ∧ (talkMix s 1).isEmpty = false)
    ∧ (∃ (s : State) (t : Nat) (kind : Nat) (n : BitVec 8) (i : Nat) (x : RxStream), rxIndex s kind n = some i ∧
      s.streams.rx[i]? = some x ∧ x.kind ≠ 3 ∧ s.blocks.running = true ∧ converted s x = false) :=
  ⟨⟨(let s := W.linked .leader 4; { s with gptp := { s.gptp with synced := true }, streams := { program := { next := 0 } } } : State),
    (0 : Fin 3), by decide⟩,
    ⟨(let s := W.linked .leader 4; { s with gptp := { s.gptp with synced := true }, streams := { crf := { next := 0, stamp := 40 * sec1 } } } : State),
      by decide⟩,
    ⟨(W.linked .leader 4 : State), (40 * sec1 + 200 : Nat),
      (W.sent (W.linked .leader 4) (40 * sec1 + 200) 0 { dst := dstOf 3 1 0x22, src := 0x0291A0000003, vlan := some (3, 771), body := .aaf (some 9) W.stream } : NetFrame),
      (9 : BitVec 16), (W.stream : Aaf), by decide, by decide, by decide, by decide, by decide, by decide,
      by decide, by decide, by decide, W.received _ _ _ _ _ (by decide) rfl (by decide) rfl, by decide, by decide,
      by decide, by decide⟩,
    ⟨(W.linked .member 2 : State), (40 * sec1 + 200 : Nat),
      (W.sent (W.linked .member 2) (40 * sec1 + 200) 0 { dst := dstOf 3 3 0x22, src := 0x0291A0000003, vlan := some (3, 771), body := .crf (some 9) { streamLow := streamLow 3 3 0x22, stamp := 40 * sec1 } } : NetFrame),
      (9 : BitVec 16), ({ streamLow := streamLow 3 3 0x22, stamp := 40 * sec1 } : Crf), by decide, by decide,
      by decide, by decide, by decide, by decide, by decide, by decide,
      W.received _ _ _ _ _ (by decide) rfl (by decide) rfl, by decide, by decide, by decide, by decide, by decide⟩,
    ⟨(W.hears .leader 4 : State), (1 : Nat), (0x22 : BitVec 8), (0 : Nat), (W.rx : RxStream), by decide⟩,
    ⟨(W.hears .leader 4 : State), (1 : Nat), (0x22 : BitVec 8), (0 : Nat), (W.rx : RxStream), by decide⟩,
    ⟨({ W.hears .leader 4 with streams := { rx := [{ W.rx with lastAccepted := some (40 * sec1) }], admitAt := 40 * sec1 + 100 } } : State),
      by decide⟩,
    ⟨(let s := W.hears .member 1; { s with streams := { admitAt := 40 * sec1 + 100 }, routing := { profile := 1 } } : State),
      by decide⟩,
    ⟨(W.hears .leader 4 : State), (40 * sec1 + 100000 : Nat), (1 : Nat), (0x22 : BitVec 8), (0 : Nat),
      (W.rx : RxStream), by decide⟩⟩

theorem witness_PairFramesRun :
    (∃ (s : State) (t : Nat) (b : TieFrame) (h : TieHead), TieHeard s b h 1)
    ∧ (∃ (s : State) (t : Nat) (f : NetFrame) (b : TieFrame) (r : PairRec) (h : TieHead), Received s t f ∧
      coldRole (role s) = true ∧ inMode .slumber s = false ∧ inMode .safe s = false ∧ s.red.pair = some r ∧
      f.src = r.eui ∧ dstKind f.dst = 5 ∧ f.body = .bytes 0x88B6#16 b ∧ tieParse s b = some h ∧ h.kind = 1)
    ∧ (∃ (s : State) (t : Nat) (b : TieFrame) (h : TieHead), let info := blockRead s h.payload; TieHeard s b h 2 ∧
      inMode .partner s = true ∧ s.red.contact = true ∧ s.red.closed.find? (fun c => c.number == info.step) = none)
    ∧ (∃ (s : State) (t : Nat) (b : TieFrame) (h : TieHead) (c : _), let info := blockRead s h.payload;
      TieHeard s b h 2 ∧ inMode .partner s = true ∧ s.red.contact = true ∧
      s.red.closed.find? (fun c => c.number == info.step) = some c ∧ s.red.state = .inStep ∧
      s.blocks.number = info.step + 1)
    ∧ (∃ (s : State) (t : Nat), tieMay (s.upTo t) = true ∧ slotOwner s = true)
    ∧ (∃ (s : State) (t : Nat), tieMay (s.upTo t) = true ∧ slotOwner s = false)
    ∧ (∃ (s : State) (t : Nat) (f : TieFrame), tieMay (s.upTo t) = true ∧ s.red.tie.frames.getLast? = some f ∧
      actsLeader s = true ∧ s.red.peerLeader = false)
    ∧ (∃ (s : State) (t : Nat) (f : TieFrame), tieMay (s.upTo t) = true ∧ s.red.tie.frames.getLast? = some f ∧
      actsLeader s = false ∧ s.red.peerLeader = true)
    ∧ (∃ (s : State) (t : Nat) (b : TieFrame) (h : TieHead), TieHeard s b h 3 ∧ inMode .partner s = true ∧
      s.red.contact = true ∧ ofBe (slice 4 4 h.payload) ≤ ckptMax (loaded s) ∧
      ofBe (slice 0 4 h.payload) % 1024 = 0 ∧
      ofBe (slice 0 4 h.payload) + ((h.payload.drop 8).take 1024).length ≤ ofBe (slice 4 4 h.payload))
    ∧ (∃ (s : State) (t : Nat) (b : TieFrame) (h : TieHead), TieHeard s b h 4 ∧ inMode .leader s = true ∧
      s.red.contact = true ∧ s.blocks.running = true ∧ h.payload.take 1 = [1#8]) :=
  ⟨⟨(W.pair .leader 5 : State), (40 * sec1 + 200 : Nat), (W.tie 1 [0#8, 0#8, 1#8, 2#8] : TieFrame),
    (W.head 1 [0#8, 0#8, 1#8, 2#8] : TieHead), ⟨by decide, by decide, by decide, by decide, by decide⟩⟩,
    ⟨(W.on (W.pair .leader 6) : State), (40 * sec1 + 200 : Nat),
      (W.sent (W.on (W.pair .leader 6)) (40 * sec1 + 200) 0 { dst := dstOf 3 5 0x21, src := 0x0291A0000002, vlan := some (1, 771), body := .bytes 0x88B6 (W.tie 1 [0#8, 0#8, 1#8, 2#8]) } : NetFrame),
      (W.tie 1 [0#8, 0#8, 1#8, 2#8] : TieFrame), ({ eui := 0x0291A0000002, node := 0x22 } : PairRec),
      (W.head 1 [0#8, 0#8, 1#8, 2#8] : TieHead), W.received _ _ _ _ _ (by decide) rfl (by decide) rfl, by decide,
      by decide, by decide, by decide, by decide, by decide, by decide, by decide, by decide⟩,
    ⟨(let s := W.pair .partner 7; { s with red := { s.red with state := .joining } } : State),
      (40 * sec1 + 200 : Nat), (W.tie 2 (be 4 39999 ++ be 8 39999000000 ++ List.replicate 30 0) : TieFrame),
      (W.head 2 (be 4 39999 ++ be 8 39999000000 ++ List.replicate 30 0) : TieHead),
      ⟨by decide, by decide, by decide, by decide, by decide⟩, by decide, by decide, by decide⟩,
    ⟨(let s := W.pair .partner 7; { s with red := { s.red with state := .inStep, closed := [{ number := 39999 }] } } : State),
      (40 * sec1 + 200 : Nat), (W.tie 2 (be 4 39999 ++ be 8 39999000000 ++ List.replicate 30 0) : TieFrame),
      (W.head 2 (be 4 39999 ++ be 8 39999000000 ++ List.replicate 30 0) : TieHead), ({ number := 39999 } : Closed),
      ⟨by decide, by decide, by decide, by decide, by decide⟩, by decide, by decide, by decide, by decide,
      by decide⟩,
    ⟨(let s := W.pair .leader 5; { s with red := { s.red with missed := 3 } } : State), (40 * sec1 + 200 : Nat),
      by decide⟩,
    ⟨(let s := W.pair .partner 7; { s with red := { s.red with missed := 4, peerLeader := true } } : State),
      (40 * sec1 + 200 : Nat), by decide⟩,
    ⟨(let s := W.pair .leader 5; { s with red := { s.red with tie := { frames := [W.tie 1 [], W.tie 2 []] } } } : State),
      (40 * sec1 + 200 : Nat), (W.tie 2 [] : TieFrame), by decide⟩,
    ⟨(let s := W.pair .partner 7; { s with red := { s.red with peerLeader := true, tie := { frames := [W.tie 1 [], W.tie 2 []] } } } : State),
      (40 * sec1 + 200 : Nat), (W.tie 2 [] : TieFrame), by decide⟩,
    ⟨(W.pair .partner 7 : State), (40 * sec1 + 200 : Nat),
      (W.tie 3 (be 4 0 ++ be 4 260 ++ List.replicate 16 7) : TieFrame),
      (W.head 3 (be 4 0 ++ be 4 260 ++ List.replicate 16 7) : TieHead),
      ⟨by decide, by decide, by decide, by decide, by decide⟩, by decide, by decide, by decide, by decide,
      by decide⟩,
    ⟨(W.pair .leader 5 : State), (40 * sec1 + 200 : Nat), (W.tie 4 (requestBody 1 0) : TieFrame),
      (W.head 4 (requestBody 1 0) : TieHead), ⟨by decide, by decide, by decide, by decide, by decide⟩, by decide,
      by decide, by decide, by decide⟩⟩

theorem witness_PairStateRuns :
    (∃ (s : State) (c : Nat), s.red.closeAt = some c ∧ hotInStep s = true ∧ s.red.leaveStep = none)
    ∧ (∃ (s : State), hotRole (role s) = true ∧ s.red.contact = true ∧ 4 ≤ s.red.missed ∧ s.red.tieDown = false)
    ∧ (∃ (s : State) (t : Nat), inMode .leader s = true ∧ s.blocks.running = true ∧ s.red.contact = true ∧
      sheafBoundary (s.upTo t) = true ∧ coldRole (role s) = false ∧ s.red.ckptDue = true)
    ∧ (∃ (s : State) (t : Nat), inMode .leader s = true ∧ s.blocks.running = true ∧ s.red.contact = true ∧
      sheafBoundary (s.upTo t) = true ∧ coldRole (role s) = true ∧ s.red.ckptNext ≤ (s.upTo t).gptp.time)
    ∧ (∃ (s : State) (t : Nat), inMode .partner s = true ∧ ckptWhole s.red.rxCkpt = true ∧
      siloWritten 2 8 s = true ∧ ckptIntact (ckptBytes s (fillBuffer s) s.red.rxCkpt.total) = true ∧
      coldRole (role s) = true ∧ hotRole (role s) = false ∧
      ckptFits s (ckptBytes s (fillBuffer s) s.red.rxCkpt.total) = true)
    ∧ (∃ (s : State) (t : Nat), inMode .partner s = true ∧ ckptWhole s.red.rxCkpt = true ∧
      siloWritten 2 8 s = true ∧ ckptIntact (ckptBytes s (fillBuffer s) s.red.rxCkpt.total) = true ∧
      coldRole (role s) = true ∧ hotRole (role s) = false ∧
      ckptFits s (ckptBytes s (fillBuffer s) s.red.rxCkpt.total) = false)
    ∧ (∃ (s : State) (t : Nat), inMode .partner s = true ∧ s.red.state = .joining ∧ s.red.current.isSome = true ∧
      s.red.resyncAt.isSome = true)
    ∧ (∃ (s : State) (r : Nat), s.red.resyncAt = some r ∧ s.red.state = .joining)
    ∧ (∃ (s : State), inMode .partner s = true ∧ coldRole (role s) = true ∧ anyActive 0xF530#16 s = false)
    ∧ (∃ (s : State), coldRole (role s) = true ∧ s.red.pair.isSome = true ∧ s.start.tRun.isSome = true ∧
      inMode .leader s = true)
    ∧ (∃ (s : State), coldRole (role s) = true ∧ s.red.contact = true)
    ∧ (∃ (s : State) (r : Nat), s.start.tRun = some r ∧ pairRole (role s) = true ∧ s.red.everContact = false ∧
      inMode .leader s = true) :=
  ⟨⟨(let s := W.pair .partner 7; { s with red := { s.red with closeAt := some (40 * sec1 + 100000) } } : State),
    (40 * sec1 + 100000 : Nat), by decide⟩,
    ⟨(let s := W.pair .leader 5; { s with red := { s.red with missed := 4 } } : State), by decide⟩,
    ⟨(let s := W.pair .leader 5; { s with red := { s.red with ckptDue := true } } : State), (40 * sec1 : Nat),
      by decide⟩,
    ⟨(W.pair .leader 6 : State), (40 * sec1 : Nat), by decide⟩,
    ⟨(W.holding (W.ckpt 0x22) : State), (40 * sec1 + 200 : Nat), by decide +kernel⟩,
    ⟨(W.holding (W.ckpt 0x30) : State), (40 * sec1 + 200 : Nat), by decide +kernel⟩,
    ⟨(let s := W.pair .partner 7; { s with red := { s.red with state := .joining, current := some 260, resyncAt := some (39 * sec1) } } : State),
      (40 * sec1 + 200 : Nat), by decide⟩,
    ⟨(let s := W.pair .partner 7; { s with red := { s.red with state := .joining, resyncAt := some (39 * sec1) } } : State),
      (39 * sec1 : Nat), by decide⟩,
    ⟨(W.pair .partner 8 : State), by decide⟩,
    ⟨(let s := W.pair .leader 6; { s with red := { s.red with hbNext := 40 * sec1 } } : State), by decide⟩,
    ⟨(W.pair .leader 6 : State), by decide⟩,
    ⟨(let s := W.pair .leader 6; { s with red := { pair := s.red.pair } } : State), (10 * sec1 : Nat), by decide⟩⟩

theorem witness_PairHandoversRun :
    (∃ (s : State) (r : Nat), s.start.tRun = some r ∧ inMode .partner s = true ∧ s.red.pair.isSome = true ∧
      pairRole (role s) = true ∧ s.red.wakeAnswer = none ∧ s.red.leaderLost = false)
    ∧ (∃ (s : State) (t : Nat), s.red.restoring = true)
    ∧ (∃ (s : State) (r : Nat), s.start.tRun = some r ∧ mayTakeBack r s = true)
    ∧ (∃ (s : State) (t : Nat) (b : TieFrame) (h : TieHead), TieHeard s b h 4 ∧ coldRole (role s) = false ∧
      inMode .leader s = true ∧ strappedPartner (role s) = true ∧ s.blocks.running = true ∧ s.red.contact = true ∧
      h.payload.take 1 = [2#8] ∧ s.blocks.number < ofBe (slice 2 4 h.payload))
    ∧ (∃ (s : State) (t : Nat) (b : TieFrame) (h : TieHead) (n : Nat), TieHeard s b h 4 ∧
      coldRole (role s) = false ∧ inMode .partner s = true ∧ s.red.contact = true ∧ h.payload.take 1 = [3#8] ∧
      s.red.takeBackB = some n ∧ ofBe (slice 2 4 h.payload) = n ∧ s.red.takeAccepted = false ∧
      (s.upTo t).gptp.time + 2 * ms1 ≤ stepAt s n)
    ∧ (∃ (s : State) (t : Nat) (b : TieFrame) (h : TieHead), TieHeard s b h 4 ∧ inMode .leader s = true ∧
      s.red.contact = true ∧ h.payload.take 1 = [4#8] ∧ s.red.takeBackB = some (ofBe (slice 2 4 h.payload)) ∧
      s.blocks.number < ofBe (slice 2 4 h.payload))
    ∧ (∃ (s : State) (t : Nat) (b : TieFrame) (h : TieHead), TieHeard s b h 4 ∧ inMode .leader s = true ∧
      s.red.contact = true ∧ h.payload.take 1 = [4#8] ∧ s.red.takeBackB = some (ofBe (slice 2 4 h.payload)) ∧
      ofBe (slice 2 4 h.payload) ≤ s.blocks.number)
    ∧ (∃ (s : State) (n : Nat), s.red.takeBackB = some n ∧ inMode .partner s = true ∧ s.red.takeAccepted = false)
    ∧ (∃ (s : State) (d : Nat) (r : PairRec), s.red.releaseAt = some d ∧ s.red.pair = some r ∧ yieldDue s = false)
    ∧ (∃ (s : State) (t : Nat) (b : TieFrame) (h : TieHead), TieHeard s b h 4 ∧ powered s = true ∧
      coldRole (role s) = false ∧ s.red.contact = true ∧ h.payload.take 1 = [5#8] ∧ inMode .partner s = true ∧
      s.red.state ≠ .joining ∧ (role s = 7 ∨ role s = 8))
    ∧ (∃ (s : State) (t : Nat) (b : TieFrame) (h : TieHead), TieHeard s b h 4 ∧ powered s = true ∧
      coldRole (role s) = false ∧ s.red.contact = true ∧ h.payload.take 1 = [5#8] ∧ inMode .partner s = true ∧
      s.red.state = .joining)
    ∧ (∃ (s : State) (t : Nat) (b : TieFrame) (h : TieHead) (n : Nat), TieHeard s b h 4 ∧ s.red.contact = true ∧
      h.payload.take 1 = [6#8] ∧ inMode .leader s = true ∧ s.red.proposed = some n ∧
      ofBe (slice 2 4 h.payload) = 1)
    ∧ (∃ (s : State) (t : Nat) (b : TieFrame) (h : TieHead) (n : Nat), TieHeard s b h 4 ∧ s.red.contact = true ∧
      h.payload.take 1 = [6#8] ∧ inMode .leader s = true ∧ s.red.proposed = some n ∧
      ofBe (slice 2 4 h.payload) ≠ 1) :=
  ⟨⟨(W.pair .partner 7 : State), (10 * sec1 : Nat), by decide⟩,
    ⟨(let s := W.pair .partner 8; { s with red := { s.red with restoring := true } } : State),
      (40 * sec1 + 200 : Nat), by decide⟩,
    ⟨(W.pair .partner 5 : State), (10 * sec1 : Nat), by decide⟩,
    ⟨(W.pair .leader 7 : State), (40 * sec1 + 200 : Nat), (W.tie 4 (requestBody 2 40100) : TieFrame),
      (W.head 4 (requestBody 2 40100) : TieHead), ⟨by decide, by decide, by decide, by decide, by decide⟩,
      by decide, by decide, by decide, by decide, by decide, by decide, by decide⟩,
    ⟨(let s := W.pair .partner 5; { s with red := { s.red with takeBackB := some 40100 } } : State),
      (40 * sec1 + 200 : Nat), (W.tie 4 (requestBody 3 40100) : TieFrame),
      (W.head 4 (requestBody 3 40100) : TieHead), (40100 : Nat),
      ⟨by decide, by decide, by decide, by decide, by decide⟩, by decide, by decide, by decide, by decide,
      by decide, by decide, by decide, by decide⟩,
    ⟨(let s := W.pair .leader 7; { s with red := { s.red with takeBackB := some 40100 } } : State),
      (40 * sec1 + 200 : Nat), (W.tie 4 (requestBody 4 40100) : TieFrame),
      (W.head 4 (requestBody 4 40100) : TieHead), ⟨by decide, by decide, by decide, by decide, by decide⟩,
      by decide, by decide, by decide, by decide, by decide⟩,
    ⟨(let s := W.pair .leader 7; { s with red := { s.red with takeBackB := some 40000 } } : State),
      (40 * sec1 + 200 : Nat), (W.tie 4 (requestBody 4 40000) : TieFrame),
      (W.head 4 (requestBody 4 40000) : TieHead), ⟨by decide, by decide, by decide, by decide, by decide⟩,
      by decide, by decide, by decide, by decide, by decide⟩,
    ⟨(let s := W.pair .partner 5; { s with red := { s.red with takeBackB := some 40010 } } : State), (40010 : Nat),
      by decide⟩,
    ⟨(let s := W.pair .leader 7; { s with red := { s.red with releaseAt := some (40 * sec1 + 200) } } : State),
      (40 * sec1 + 200 : Nat), ({ eui := 0x0291A0000002, node := 0x22 } : PairRec), by decide⟩,
    ⟨(W.pair .partner 7 : State), (40 * sec1 + 200 : Nat), (W.tie 4 (requestBody 5 41000) : TieFrame),
      (W.head 4 (requestBody 5 41000) : TieHead), ⟨by decide, by decide, by decide, by decide, by decide⟩,
      by decide, by decide, by decide, by decide, by decide, by decide, by decide⟩,
    ⟨(let s := W.pair .partner 7; { s with red := { s.red with state := .joining } } : State),
      (40 * sec1 + 200 : Nat), (W.tie 4 (requestBody 5 41000) : TieFrame),
      (W.head 4 (requestBody 5 41000) : TieHead), ⟨by decide, by decide, by decide, by decide, by decide⟩,
      by decide, by decide, by decide, by decide, by decide, by decide⟩,
    ⟨(let s := W.pair .leader 5; { s with red := { s.red with proposed := some 41000 } } : State),
      (40 * sec1 + 200 : Nat), (W.tie 4 (requestBody 6 1) : TieFrame), (W.head 4 (requestBody 6 1) : TieHead),
      (41000 : Nat), ⟨by decide, by decide, by decide, by decide, by decide⟩, by decide, by decide, by decide,
      by decide, by decide⟩,
    ⟨(let s := W.pair .leader 5; { s with red := { s.red with proposed := some 41000 } } : State),
      (40 * sec1 + 200 : Nat), (W.tie 4 (requestBody 6 0) : TieFrame), (W.head 4 (requestBody 6 0) : TieHead),
      (41000 : Nat), ⟨by decide, by decide, by decide, by decide, by decide⟩, by decide, by decide, by decide,
      by decide, by decide⟩⟩

theorem witness_KeysRun :
    (∃ (s : State) (t : Nat) (i : Fin 8) (e : _) (b : _), s.sec.inForce = some i ∧ flashReady s = true ∧
      s.sec.tenantChan.ready = false ∧ blockAfter (highestBlock s.mem.flash i.val 0) = some (e, b))
    ∧ (∃ (s : State) (t : Nat) (i : Fin 8), s.sec.inForce = some i ∧ flashReady s = true ∧
      s.sec.tenantChan.ready = false ∧ blockAfter (highestBlock s.mem.flash i.val 0) = none)
    ∧ (∃ (s : State) (t : Nat) (i : Fin 8) (e : _) (b : _), s.sec.inForce = some i ∧ flashReady s = true ∧
      s.sec.annChan.ready = false ∧ blockAfter (highestBlock s.mem.flash i.val 1) = some (e, b))
    ∧ (∃ (s : State) (c : Nat) (i : Fin 8) (second : Bool), s.sec.createAt = some c ∧
      strappedLeader (role s) = true ∧ s.start.mode.isSome = true ∧ inMode .safe s = false ∧ s.sec.inForce = none ∧
      s.sec.nextForce = none ∧ lowestBlank s = some i)
    ∧ (∃ (s : State) (i : Fin 8) (second : Bool), s.lands.pair = true ∧ s.now < s.lands.pairSince + 10 * sec1 ∧
      inMode .leader s = true ∧ strappedLeader (role s) = true ∧ s.sec.inForce.isSome = true ∧
      s.start.tReset + 5 * sec1 ≤ s.lands.pairSince ∧ lowestBlank s = some i)
    ∧ (∃ (s : State) (ak : BitVec 128) (ll : Nat), s.sec.ak = some ak ∧ fumaroleNode s = some ll ∧
      inMode .leader s = true ∧ tenant s ≠ 0)
    ∧ (∃ (s : State) (t : Nat) (f : NetFrame) (b : List Byte), pairBody 5 f s = some b ∧ inMode .member s = true ∧
      tenant s ≠ 0 ∧ dstTenant f.dst = tenant s ∧ Received s t f) :=
  ⟨⟨(let s := W.run .leader 4; { s with sec := { s.sec with tenantChan := {} } } : State), (41 * sec1 : Nat),
    (0 : Fin 8), (0 : Nat), (0 : Nat), by decide, by decide, by decide, firstBlock_empty _ _⟩,
    ⟨(W.spent : State), (41 * sec1 : Nat), (0 : Fin 8), by decide +kernel⟩,
    ⟨(let s := W.run .leader 4; { s with sec := { s.sec with annChan := {} } } : State), (41 * sec1 : Nat),
      (0 : Fin 8), (0 : Nat), (0 : Nat), by decide, by decide, by decide, firstBlock_empty _ _⟩,
    ⟨(let s := W.run .leader 4; { s with sec := { createAt := some (41 * sec1) } } : State), (41 * sec1 : Nat),
      (0 : Fin 8), (false : Bool), by decide⟩,
    ⟨(let s := W.run .leader 4; { s with lands := { pair := true, pairSince := 35 * sec1 } } : State), (1 : Fin 8),
      (false : Bool), by decide⟩,
    ⟨(W.run .leader 4 : State), (0 : BitVec 128), (0x21 : Nat), by decide⟩,
    ⟨(W.linked .member 2 : State), (41 * sec1 : Nat),
      (W.sent (W.linked .member 2) (41 * sec1) 0 (W.pairing 0x10 (be 1 5 ++ List.replicate 47 7)) : NetFrame),
      (be 1 5 ++ List.replicate 47 7 : List Byte), by decide, by decide, by decide, by decide,
      W.received _ _ _ _ _ (by decide) rfl (by decide) rfl⟩⟩

theorem witness_PairingWindowRuns :
    (∃ (s : State) (t : Nat) (held : Nat) (r : Nat), mayPair s = true ∧ s.start.tRun = some r ∧ 50 * ms1 ≤ held ∧
      held ≤ 5 * sec1 ∧ r + held ≤ max s.now t ∧ s.start.tReset + 5 * sec1 + held ≤ max s.now t ∧
      s.sec.pairing.open_ = true)
    ∧ (∃ (s : State) (t : Nat) (held : Nat) (r : Nat), mayPair s = true ∧ s.start.tRun = some r ∧ 50 * ms1 ≤ held ∧
      held ≤ 5 * sec1 ∧ r + held ≤ max s.now t ∧ s.start.tReset + 5 * sec1 + held ≤ max s.now t ∧
      s.sec.pairing.open_ = false ∧ s.sec.pairing.listenUntil = none)
    ∧ (∃ (s : State) (t : Nat) (held : Nat) (r : Nat), mayPair s = true ∧ s.start.tRun = some r ∧ 50 * ms1 ≤ held ∧
      held ≤ 5 * sec1 ∧ r + held ≤ max s.now t ∧ s.start.tReset + 5 * sec1 + held ≤ max s.now t ∧
      s.sec.pairing.open_ = false ∧ s.sec.pairing.listenUntil.isSome = true)
    ∧ (∃ (s : State) (d : Nat), s.sec.pairing.listenUntil = some d ∧ s.sec.pairing.taking = none ∧
      s.sec.pairing.heard = [] ∧ s.sec.inForce.isSome = true)
    ∧ (∃ (s : State) (d : Nat), s.sec.pairing.listenUntil = some d ∧ s.sec.pairing.taking = none ∧
      s.sec.pairing.heard = [] ∧ s.sec.inForce = none)
    ∧ (∃ (s : State) (d : Nat) (w : _), s.sec.pairing.listenUntil = some d ∧ s.sec.pairing.taking = none ∧
      strappedLeader (role s) = true ∧ tenant s ≠ 0 ∧ s.sec.inForce.isSome = true ∧
      s.sec.pairing.heard.any (fun x => x.tenant.val == tenant s) = false ∧
      lowerWindow s.sec.pairing.heard = some w)
    ∧ (∃ (s : State), s.sec.pairing.open_ = true)
    ∧ (∃ (s : State), s.sec.pairing.open_ = true)
    ∧ (∃ (s : State) (t : Nat) (f : NetFrame) (b : List Byte), pairBody 1 f s = some b ∧
      s.sec.pairing.listenUntil.isSome = true ∧ mayPair s = true ∧ (windowOf b).tenant.val = dstTenant f.dst ∧
      (windowOf b).tenant.val = tenant s ∧ s.sec.pairing.taking = none ∧ s.sec.pairing.heard = [] ∧ Received s t f) :=
  ⟨⟨(W.giving [] : State), (41 * sec1 : Nat), (50 * ms1 : Nat), (10 * sec1 : Nat), by decide⟩,
    ⟨(W.run .leader 4 : State), (41 * sec1 : Nat), (5 * sec1 : Nat), (10 * sec1 : Nat), by decide⟩,
    ⟨(W.listening .leader 4 [] (some 0) : State), (40 * sec1 : Nat), (50 * ms1 : Nat), (10 * sec1 : Nat),
      by decide⟩,
    ⟨(W.listening .leader 4 [] (some 0) : State), (41 * sec1 : Nat), by decide⟩,
    ⟨(W.listening .leader 4 [] none : State), (41 * sec1 : Nat), by decide⟩,
    ⟨(W.listening .leader 4 [{ node := 0x22 }] (some 0) : State), (41 * sec1 : Nat), ({ node := 0x22 } : PairWin),
      by decide⟩,
    ⟨(W.giving [] : State), by decide⟩,
    ⟨(W.giving [] : State), by decide⟩,
    ⟨(W.on (W.listening .member 2 [] none) : State), (40 * sec1 : Nat),
      (W.sent (W.on (W.listening .member 2 [] none)) (40 * sec1) 0x7FFF (W.pairing 0xFF W.window) : NetFrame),
      (W.window : List Byte), by decide, by decide, by decide, by decide, by decide, by decide, by decide,
      W.received _ _ _ _ _ (by decide) rfl (by decide) rfl⟩⟩

theorem witness_PairingExchangeRuns :
    (∃ (s : State) (t : Nat) (f : NetFrame) (b : List Byte) (d : KeyData), pairBody 2 f s = some b ∧
      s.sec.pairing.open_ = true ∧ mayPair s = true ∧ dstNode f.dst = node s ∧ dstTenant f.dst = tenant s ∧
      ofBe (slice 10 2 (b.take 208)) = s.sec.pairing.windowNo.toNat ∧ (at8 (b.take 208) 1).toNat = tenant s ∧
      at8 (b.take 208) 13 = 1#8 ∧ Received s t f ∧ s.sec.pairing.exchanges = [] ∧ keyInForce s = some d)
    ∧ (∃ (s : State) (t : Nat) (f : NetFrame) (fails : List FlashCause) (b : List Byte) (x : Exchange),
      pairBody 4 f s = some b ∧
      s.sec.pairing.exchanges.find? (fun x => x.eui == BitVec.ofNat 48 (ofBe (slice 4 6 b))) = some x ∧
      Received s t f)
    ∧ (∃ (s : State) (eui : BitVec 48) (x : Exchange),
      s.sec.pairing.exchanges.find? (fun x => x.eui == eui) = some x)
    ∧ (∃ (s : State) (w : PairWin), s.sec.pairing.taking = some w ∧ s.sec.pairing.joins < 5)
    ∧ (∃ (s : State) (t : Nat) (f : NetFrame) (second : Bool) (fails : List FlashCause) (b : List Byte) (w : PairWin) (i : Fin 8),
      pairBody 3 f s = some b ∧ s.sec.pairing.taking = some w ∧ s.sec.pairing.takingAk = false ∧
      dstTenant f.dst = w.tenant.val ∧ dstNode f.dst = node s ∧ f.src = w.eui ∧
      ofBe (slice 10 2 (b.take 126)) = w.number.toNat ∧ mayPair s = true ∧ Received s t f ∧ lowestBlank s = some i)
    ∧ (∃ (s : State) (w : PairWin), s.sec.pairing.taking = some w)
    ∧ (∃ (s : State) (t : Nat) (b : TieFrame) (h : TieHead), usesTie s = true ∧ inMode .slumber s = true ∧
      s.start.left = some .leader ∧ s.red.contact = true ∧ s.sleep.wakeAt = none ∧ sysStopped s = false ∧
      tieParse s b = some h ∧ h.kind = 4 ∧ h.payload.take 1 = [7#8]) :=
  ⟨⟨(W.on (W.giving []) : State), (41 * sec1 : Nat),
    (W.sent (W.on (W.giving [])) (41 * sec1) 0x7FFF (W.pairing 0x21 W.join) : NetFrame), (W.join : List Byte),
    ({ tenant := 3 } : KeyData), by decide, by decide, by decide, by decide, by decide, by decide, by decide,
    by decide, W.received _ _ _ _ _ (by decide) rfl (by decide) rfl, by decide, by decide⟩,
    ⟨(W.on (W.giving [W.exchange]) : State), (41 * sec1 : Nat),
      (W.sent (W.on (W.giving [W.exchange])) (41 * sec1) 0x7FFF (W.pairing 0x22 W.done) : NetFrame),
      ([] : List FlashCause), (W.done : List Byte), (W.exchange : Exchange), by decide, by decide,
      W.received _ _ _ _ _ (by decide) rfl (by decide) rfl⟩,
    ⟨(W.giving [W.exchange] : State), (0x0291A0000003 : BitVec 48), (W.exchange : Exchange), by decide⟩,
    ⟨(W.taking : State), (windowOf W.window : PairWin), by decide⟩,
    ⟨(W.on W.taking : State), (41 * sec1 : Nat),
      (W.sent (W.on W.taking) (41 * sec1) 0x7FFF (W.pairing 0x21 W.keyFrame) : NetFrame), (false : Bool),
      ([] : List FlashCause), (W.keyFrame : List Byte), (windowOf W.window : PairWin), (1 : Fin 8), by decide,
      by decide, by decide, by decide, by decide, by decide, by decide, by decide,
      W.received _ _ _ _ _ (by decide) rfl (by decide) rfl, by decide⟩,
    ⟨(W.taking : State), (windowOf W.window : PairWin), by decide⟩,
    ⟨(let s := W.pair .slumber 5; { s with start := { s.start with left := some .leader }, gptp := { time := 40 * sec1 + 187500000 } } : State),
      (40 * sec1 + 200 : Nat), (W.tie 4 (requestBody 7 0) : TieFrame), (W.head 4 (requestBody 7 0) : TieHead),
      by decide⟩⟩

theorem witness_GranaryRuns :
    (∃ (s : State) (t : Nat) (spoil : Bool × Bool), awake s = true ∧ s.start.mode = none ∧
      s.start.base.isSome = true ∧ s.start.imageDone = false ∧ s.mem.flashAbsent = true)
    ∧ (∃ (s : State) (t : Nat) (spoil : Bool × Bool) (b : _) (l : _), awake s = true ∧ s.start.mode = none ∧
      s.start.base.isSome = true ∧ s.start.imageDone = false ∧ s.mem.flashAbsent = false ∧ s.mem.flashUp = true ∧
      s.gran.active = none ∧ slotOrder s = b :: l)
    ∧ (∃ (s : State) (t : Nat) (r : Nat) (w : SlotWrite), s.start.tRun = some r ∧ inMode .slumber s = false ∧
      s.start.mode.isSome = true ∧ r + 60 * sec1 ≤ max s.now t ∧ s.gran.write = none ∧ s.mem.op = none ∧
      flashReady s = true ∧ dueWrite (s.upTo t) = some w)
    ∧ (∃ (s : State) (t : Nat) (o : FlashOp), s.mem.op = some o)
    ∧ (∃ (s : State) (t : Nat) (o : FlashOp), s.mem.op = some o ∧ (o.erase && !o.tried) = true)
    ∧ (∃ (s : State) (t : Nat) (o : FlashOp), s.mem.op = some o ∧ (o.erase && !o.tried) = false)
    ∧ (∃ (s : State) (t : Nat) (fails : List FlashCause) (spoil : Bool × Bool) (w : SlotWrite),
      s.gran.write = some w ∧ windowDone s w = true ∧ windowCount w.total ≤ w.window + 1)
    ∧ (∃ (s : State) (i : SlotInfo), offeredImage s = some i ∧ inMode .leader s = true ∧
      (keyInForce s).isSome = true)
    ∧ (∃ (s : State) (t : Nat) (f : NetFrame) (b : List Byte),
      imageBody s ((followed s).map (·.toNat)) 1 f = some b ∧ actsLeader s = false ∧ inMode .slumber s = false ∧
      (keyInForce s).isSome = true ∧ flashReady s = true ∧ Received s t f ∧ s.gran.active = none ∧
      s.gran.slotA.status ≠ 0 ∧ s.gran.slotB.status ≠ 0 ∧ headReadable (slotHead s false) = false ∧
      headReadable (slotHead s true) = false ∧ s.gran.refused = [] ∧ s.gran.write = none ∧
      (imageIds b).2.2 ≤ slotLen s)
    ∧ (∃ (s : State) (t : Nat) (f : NetFrame) (b : List Byte) (i : SlotInfo),
      imageBody s (fumaroleNode s) 2 f = some b ∧ offeredImage s = some i ∧ inMode .leader s = true ∧
      (imageIds b).1 = i.identity ∧ (imageIds b).2.1 = i.edition ∧ ofBe (slice 16 4 b) % 1024 = 0 ∧
      ofBe (slice 16 4 b) < i.total ∧ within 1 (ofBe (slice 20 2 b)) 64 = true ∧ Received s t f ∧
      s.gran.requests = [])
    ∧ (∃ (s : State) (t : Nat) (r : FetchReq) (rest : List FetchReq) (act : Bool), s.gran.requests = r :: rest ∧
      s.gran.active = some act ∧ inMode .leader s = true ∧
      (s.gran.chunkTimes.filter (fun x => decide (max s.now t < x + sec1))).length < 2000)
    ∧ (∃ (s : State) (t : Nat) (f : NetFrame) (b : List Byte) (w : SlotWrite), s.gran.write = some w ∧
      w.source = .leader ∧ w.queue ≠ [] ∧ imageBody s ((followed s).map (·.toNat)) 3 f = some b ∧ Received s t f ∧
      (imageIds b).1 = w.identity ∧ (imageIds b).2.1 = w.edition ∧ ofBe (slice 16 4 b) ∈ windowChunks w ∧
      ofBe (slice 20 2 b) = min 1024 (w.total - ofBe (slice 16 4 b)) ∧ ofBe (slice 16 4 b) ∉ w.got)
    ∧ (∃ (s : State) (w : SlotWrite), s.gran.write = some w ∧ w.source = .leader ∧ missingRuns w ≠ [])
    ∧ (∃ (s : State) (w : SlotWrite), s.gran.write = some w ∧ w.source = .leader) :=
  ⟨⟨({ W.starting with start := { W.starting.start with imageDone := false }, mem := { flashAbsent := true, upAt := some 30000000 } } : State),
    (11 * sec1 : Nat), ((false, false) : Bool × Bool), by decide⟩,
    ⟨({ W.starting with start := { W.starting.start with imageDone := false }, mem := { flashUp := true, upAt := some 30000000 } } : State),
      (11 * sec1 : Nat), ((false, false) : Bool × Bool), (true : Bool), ([false] : List Bool), by decide⟩,
    ⟨(let s := W.image .leader 4; { s with gran := { s.gran with slotB := { status := 2 } } } : State),
      (70 * sec1 : Nat), (10 * sec1 : Nat),
      ({ slotB := true, total := 4096, identity := 77, edition := 3 } : SlotWrite), by decide⟩,
    ⟨(let s := W.run .leader 4; { s with mem := { s.mem with op := some { erase := true, addr := 0x40000 } } } : State),
      (41 * sec1 : Nat), ({ erase := true, addr := 0x40000 } : FlashOp), by decide⟩,
    ⟨(let s := W.run .leader 4; { s with mem := { s.mem with op := some { erase := true, addr := 0x40000 } } } : State),
      (41 * sec1 : Nat), ({ erase := true, addr := 0x40000 } : FlashOp), by decide⟩,
    ⟨(let s := W.run .leader 4; { s with mem := { s.mem with op := some { erase := true, addr := 0x40000, tried := true } } } : State),
      (41 * sec1 : Nat), ({ erase := true, addr := 0x40000, tried := true } : FlashOp), by decide⟩,
    ⟨(let s := W.fetching; { s with gran := { s.gran with write := some { W.fetch with queue := [], got := [0, 1024, 2048, 3072] } } } : State),
      (41 * sec1 : Nat), ([] : List FlashCause), ((false, false) : Bool × Bool),
      ({ W.fetch with queue := [], got := [0, 1024, 2048, 3072] } : SlotWrite), by decide⟩,
    ⟨(W.image .leader 4 : State),
      ({ status := 0, identity := 77, edition := 3, total := 4096, empty := false } : SlotInfo), by decide⟩,
    ⟨(W.on W.noImage : State), (41 * sec1 : Nat),
      (W.sent (W.on W.noImage) (41 * sec1) 0 (W.imageFrame 0x10 W.advert) : NetFrame), (W.advert : List Byte),
      by decide, by decide, by decide, by decide, by decide, W.received _ _ _ _ _ (by decide) rfl (by decide) rfl,
      by decide, by decide, by decide, by decide, by decide, by decide, by decide, by decide⟩,
    ⟨(W.on (W.image .leader 4) : State), (41 * sec1 : Nat),
      (W.sent (W.on (W.image .leader 4)) (41 * sec1) 0 (W.imageFrame 0x21 W.request) : NetFrame),
      (W.request : List Byte),
      ({ status := 0, identity := 77, edition := 3, total := 4096, empty := false } : SlotInfo), by decide,
      by decide, by decide, by decide, by decide, by decide, by decide, by decide,
      W.received _ _ _ _ _ (by decide) rfl (by decide) rfl, by decide⟩,
    ⟨(let s := W.image .leader 4; { s with gran := { s.gran with requests := [{ offset := 1024, count := 2, identity := 77, edition := 3 }, {}] } } : State),
      (41 * sec1 : Nat), ({ offset := 1024, count := 2, identity := 77, edition := 3 } : FetchReq),
      ([{}] : List FetchReq), (false : Bool), by decide⟩,
    ⟨(W.on W.fetching : State), (41 * sec1 : Nat),
      (W.sent (W.on W.fetching) (41 * sec1) 0 (W.imageFrame 0x10 W.chunk) : NetFrame), (W.chunk : List Byte),
      (W.fetch : SlotWrite), by decide, by decide, by decide, by decide,
      W.received _ _ _ _ _ (by decide) rfl (by decide) rfl, by decide, by decide, by decide, by decide, by decide⟩,
    ⟨(W.fetching : State), (W.fetch : SlotWrite), by decide⟩,
    ⟨(W.fetching : State), (W.fetch : SlotWrite), by decide⟩⟩

theorem witness_LandsRun :
    (∃ (s : State) (t : Nat) (n : Fin 4) (f : BiphaseFrame), audioOn s = true ∧ sysStopped s = false)
    ∧ (∃ (s : State) (t : Nat) (n : Fin 4) (rateOut : Bool), audioOn s = true)
    ∧ (∃ (s : State) (t : Nat) (p : Fin 2) (data : List (BitVec 32)), let m := mediaNow (s.upTo t);
      tdmJudged s p = true ∧ sysStopped s = false ∧ m.tdm[p].waitFs = false ∧ m.tdm[p].qualified = false ∧
      m.tdm[p].needRate = false)
    ∧ (∃ (s : State) (t : Nat) (p : Fin 2) (data : List (BitVec 32)) (c : _), let m := mediaNow (s.upTo t);
      tdmJudged s p = true ∧ sysStopped s = false ∧ m.tdm[p].waitFs = false ∧ c < 32 * m.tdm[p].slots ∧
      m.tdm[p].qualified = false)
    ∧ (∃ (s : State) (t : Nat) (p : Fin 2) (data : List (BitVec 32)) (c : _), let m := mediaNow (s.upTo t);
      tdmJudged s p = true ∧ sysStopped s = false ∧ m.tdm[p].waitFs = false ∧ c < 32 * m.tdm[p].slots ∧
      m.tdm[p].qualified = true ∧ 2 ≤ m.tdm[p].bad)
    ∧ (∃ (s : State) (t : Nat) (p : Fin 2) (data : List (BitVec 32)), let m := mediaNow (s.upTo t);
      tdmJudged s p = true ∧ sysStopped s = false ∧ m.tdm[p].waitFs = false)
    ∧ (∃ (s : State) (p : Fin 2) (d : Nat), s.tdm[p].timer = some d ∧ tdmJudged s p = true)
    ∧ (∃ (s : State) (t : Nat) (p : Fin 2), tdmJudged s p = true)
    ∧ (∃ (s : State) (p : Fin 2) (d : Nat), s.tdm[p].deadline = some d ∧ s.tdm[p].used = true ∧
      s.tdm[p].leader = false ∧ s.tdm[p].anyGood = false ∧ inMode .safe s = false) :=
  ⟨⟨(let s := W.run .leader 4; { s with bpi := s.bpi.set 0 { run := 63 } } : State), (40 * sec1 + 100 : Nat),
    (0 : Fin 4), ({ rate := 48000000 } : BiphaseFrame), by decide⟩,
    ⟨(let s := W.run .leader 4; { s with bpi := s.bpi.set 0 { run := 64, qualified := true } } : State),
      (40 * sec1 + 100 : Nat), (0 : Fin 4), (false : Bool), by decide⟩,
    ⟨(W.follower {} : State), (40 * sec1 + 100 : Nat), (0 : Fin 2), ([] : List (BitVec 32)), by decide⟩,
    ⟨(W.follower {} : State), (40 * sec1 + 100 : Nat), (0 : Fin 2), ([] : List (BitVec 32)), (255 : Nat),
      by decide⟩,
    ⟨(W.follower { qualified := true, bad := 2 } : State), (40 * sec1 + 100 : Nat), (0 : Fin 2),
      ([] : List (BitVec 32)), (255 : Nat), by decide⟩,
    ⟨(W.follower {} : State), (40 * sec1 + 100 : Nat), (0 : Fin 2), ([] : List (BitVec 32)), by decide⟩,
    ⟨(W.follower { qualified := true, timer := some (40 * sec1 + 31250) } : State), (0 : Fin 2),
      (40 * sec1 + 31250 : Nat), by decide⟩,
    ⟨(W.follower { qualified := true, fsCount := 48 } : State), (40 * sec1 + 100 : Nat), (0 : Fin 2), by decide⟩,
    ⟨(W.follower { deadline := some (41 * sec1) } : State), (0 : Fin 2), (41 * sec1 : Nat), by decide⟩⟩

theorem witness_GateAndStartRun :
    (∃ (s : State) (t : Nat) (n : Nat), 50 < n)
    ∧ (∃ (s : State) (t : Nat) (n : Nat), n ≤ 50)
    ∧ (∃ (s : State) (d : Nat), s.mic.settle0 = some d)
    ∧ (∃ (s : State) (d : Nat), s.mic.settle1 = some d)
    ∧ (∃ (s : State) (t : Nat), awaitsStart s = true)
    ∧ (∃ (s : State) (r : Nat), s.blocks.releasedAt = some r ∧ awaitsStart s = true)
    ∧ (∃ (s : State) (t : Nat) (low : Bool), s.blocks.started = false)
    ∧ (∃ (s : State) (t : Nat) (low : Bool), s.blocks.started = true ∧ inMode .slumber s = false ∧
      inMode .safe s = false) :=
  ⟨⟨(let s := W.run .leader 4; { s with mic := { en := true, open_ := true } } : State), (41 * sec1 : Nat),
    (51 : Nat), by decide⟩,
    ⟨(let s := W.run .leader 4; { s with mic := { en := true, open_ := true } } : State), (41 * sec1 : Nat),
      (50 : Nat), by decide⟩,
    ⟨(let s := W.run .leader 4; { s with mic := { settle0 := some (41 * sec1) } } : State), (41 * sec1 : Nat),
      by decide⟩,
    ⟨(let s := W.run .leader 4; { s with mic := { settle1 := some (41 * sec1) } } : State), (41 * sec1 : Nat),
      by decide⟩,
    ⟨(let s := W.run .leader 4; { s with blocks := { s.blocks with releasedAt := some (40 * sec1), startLow := false } } : State),
      (41 * sec1 : Nat), by decide⟩,
    ⟨(let s := W.run .leader 4; { s with blocks := { s.blocks with releasedAt := some (40 * sec1), startLow := false } } : State),
      (40 * sec1 : Nat), by decide⟩,
    ⟨(W.run .leader 4 : State), (41 * sec1 : Nat), (true : Bool), by decide⟩,
    ⟨(let s := W.run .leader 4; { s with blocks := { s.blocks with started := true } } : State),
      (40 * sec1 + 100 : Nat), (true : Bool), by decide⟩⟩

theorem witness_AsrcRuns :
    (∃ (s : State) (t : Nat) (i : Nat) (p : AsrcPair), (mediaNow (s.upTo t)).blocks.pairs[i]? = some p ∧
      p.tracking = false ∧ pairInput (mediaNow (s.upTo t)) p = true)
    ∧ (∃ (s : State) (t : Nat) (i : Nat) (p : AsrcPair), (mediaNow (s.upTo t)).blocks.pairs[i]? = some p ∧
      mayLock (mediaNow (s.upTo t)) p = true)
    ∧ (∃ (s : State) (t : Nat) (i : Nat) (p : AsrcPair), (mediaNow (s.upTo t)).blocks.pairs[i]? = some p ∧
      p.locked = true ∧ (p.errorOut = true ∨ p.ratioOut = true))
    ∧ (∃ (s : State) (i : Nat) (p : AsrcPair), s.blocks.pairs[i]? = some p ∧ p.counting = true ∧ p.locked = false)
    ∧ (∃ (s : State) (t : Nat) (i : Nat) (p : AsrcPair) (k : Int) (u : Nat), s.blocks.pairs[i]? = some p ∧
      p.locked = true ∧ p.fixed = none ∧ p.near = some (k, u) ∧ u + sec1 ≤ max s.now t) :=
  ⟨⟨(let s := W.asrc { use_ := 4 }; { s with bpi := s.bpi.set 0 { run := 64, qualified := true } } : State),
    (40 * sec1 + 100 : Nat), (0 : Nat), ({ use_ := 4 } : AsrcPair), by decide⟩,
    ⟨(W.asrc { use_ := 4, tracking := true, since := 39 * sec1, within := some (39950000100) } : State),
      (40 * sec1 + 100 : Nat), (0 : Nat),
      ({ use_ := 4, tracking := true, since := 39 * sec1, within := some (39950000100) } : AsrcPair), by decide⟩,
    ⟨(W.asrc { use_ := 4, tracking := true, locked := true, error := 4294967297 } : State),
      (40 * sec1 + 100 : Nat), (0 : Nat),
      ({ use_ := 4, tracking := true, locked := true, error := 4294967297 } : AsrcPair), by decide⟩,
    ⟨(W.asrc { use_ := 4, tracking := true, counting := true, since := 40 * sec1 } : State), (0 : Nat),
      ({ use_ := 4, tracking := true, counting := true, since := 40 * sec1 } : AsrcPair), by decide⟩,
    ⟨(W.asrc { use_ := 4, tracking := true, locked := true, near := some (-2, 39 * sec1) } : State),
      (40 * sec1 : Nat), (0 : Nat),
      ({ use_ := 4, tracking := true, locked := true, near := some (-2, 39 * sec1) } : AsrcPair), (-2 : Int),
      (39 * sec1 : Nat), by decide⟩⟩

theorem witness_UsbBusRuns :
    (∃ (s : State) (t : Nat) (full : Bool) (dataDone : Bool), (mediaNow (s.upTo t)).usb.attached = true)
    ∧ (∃ (s : State) (t : Nat) (x : CtrlXfer), (mediaNow (s.upTo t)).usb.xfer = some x)
    ∧ (∃ (s : State) (t : Nat), (mediaNow (s.upTo t)).usb.attached = true)
    ∧ (∃ (s : State) (t : Nat), (mediaNow (s.upTo t)).usb.suspended = true)
    ∧ (∃ (s : State) (t : Nat) (b : List (BitVec 8)), let m := mediaNow (s.upTo t);
      let u := usbChannels (portsLvl m); usbOutOn m = true ∧ m.usb.full = false ∧ sysStopped s = false ∧
      (maxPacket u m.usb.alt1 < b.length ∨ b.length % (u * subslot m.usb.alt1) ≠ 0))
    ∧ (∃ (s : State) (t : Nat) (b : List (BitVec 8)), let m := mediaNow (s.upTo t);
      let u := usbChannels (portsLvl m); usbOutOn m = true ∧ m.usb.full = false ∧ sysStopped s = false ∧
      b.length ≤ maxPacket u m.usb.alt1 ∧ b.length % (u * subslot m.usb.alt1) = 0)
    ∧ (∃ (s : State) (t : Nat), (mediaNow (s.upTo t)).usb.attached = true)
    ∧ (∃ (s : State) (t : Nat), let m := mediaNow (s.upTo t); m.usb.attached = true ∧ m.usb.alt1 ≠ 0 ∧
      8 ≤ m.usb.sofs ∧ 1024 ≤ m.usb.sinceAlt) :=
  ⟨⟨(W.usb { config := 1, alt1 := 2 } : State), (40 * sec1 + 100 : Nat), (true : Bool), (false : Bool), by decide⟩,
    ⟨(W.usb { xfer := some { effect := .config 1 } } : State), (40 * sec1 + 100 : Nat),
      ({ effect := .config 1 } : CtrlXfer), by decide⟩,
    ⟨(W.usb {} : State), (40 * sec1 + 100 : Nat), by decide⟩,
    ⟨(W.usb { suspended := true } : State), (40 * sec1 + 100 : Nat), by decide⟩,
    ⟨(W.usb { config := 1, alt1 := 1 } : State), (40 * sec1 + 100 : Nat), ([1#8] : List (BitVec 8)), by decide⟩,
    ⟨(W.usb { config := 1, alt1 := 1 } : State), (40 * sec1 + 100 : Nat), (List.replicate 12 1 : List (BitVec 8)),
      by decide⟩,
    ⟨(W.usb { config := 1, alt1 := 1, media := 48 } : State), (40 * sec1 + 100 : Nat), by decide⟩,
    ⟨(W.usb { config := 1, alt1 := 1, sofs := 8, sinceAlt := 1024, counts := List.replicate 1024 6 } : State),
      (40 * sec1 + 100 : Nat), by decide⟩⟩

theorem witness_UsbRequestsRun :
    (∃ (s : State) (t : Nat) (p : UsbSetup), s.usb.attached = true ∧ p.bmType = 0x80#8 ∧ p.bRequest = 6#8 ∧
      p.value = 0x0100#16)
    ∧ (∃ (s : State) (t : Nat) (p : UsbSetup), s.usb.attached = true ∧ p.bmType = 0x80#8 ∧ p.bRequest = 8#8)
    ∧ (∃ (s : State) (t : Nat) (p : UsbSetup), s.usb.attached = true ∧ p.bmType = 0x00#8 ∧ p.bRequest = 5#8 ∧
      p.value.toNat ≤ 127)
    ∧ (∃ (s : State) (t : Nat), s.usb.attached = true)
    ∧ (∃ (s : State) (t : Nat) (p : UsbSetup), s.usb.attached = true)
    ∧ (∃ (s : State) (t : Nat) (i : BitVec 16), s.usb.attached = true ∧ i.toNat % 256 = 0 ∧ 1 ≤ i.toNat / 256 ∧
      i.toNat / 256 ≤ 5)
    ∧ (∃ (s : State) (t : Nat) (i : BitVec 16), s.usb.attached = true ∧ i.toNat % 256 ≠ 0)
    ∧ (∃ (s : State) (t : Nat) (v : BitVec 16), s.usb.attached = true ∧ v.toNat ≤ 1)
    ∧ (∃ (s : State) (t : Nat) (v : BitVec 16), s.usb.attached = true ∧ 1 < v.toNat)
    ∧ (∃ (s : State) (t : Nat) (itf : BitVec 16) (alt : BitVec 16), s.usb.attached = true ∧
      (itf.toNat = 1 ∨ itf.toNat = 2) ∧ alt.toNat ≤ (if s.usb.full then 0 else 2))
    ∧ (∃ (s : State) (t : Nat) (itf : BitVec 16) (alt : BitVec 16), s.usb.attached = true ∧
      (itf.toNat = 1 ∨ itf.toNat = 2) ∧ (if s.usb.full then 0 else 2) < alt.toNat)
    ∧ (∃ (s : State) (t : Nat), s.usb.attached = true)
    ∧ (∃ (s : State) (t : Nat), s.usb.attached = true)
    ∧ (∃ (s : State) (t : Nat), s.usb.attached = true)
    ∧ (∃ (s : State) (t : Nat) (hz : BitVec 32), s.usb.attached = true ∧ hz.toNat = s.well.rate)
    ∧ (∃ (s : State) (t : Nat) (hz : BitVec 32), s.usb.attached = true ∧ hz.toNat ≠ s.well.rate) :=
  ⟨⟨(W.usb {} : State), (40 * sec1 + 100 : Nat),
    ({ bmType := 0x80, bRequest := 6, value := 0x0100, length := 8 } : UsbSetup), by decide⟩,
    ⟨(W.usb { config := 1 } : State), (40 * sec1 + 100 : Nat),
      ({ bmType := 0x80, bRequest := 8, length := 1 } : UsbSetup), by decide⟩,
    ⟨(W.usb {} : State), (40 * sec1 + 100 : Nat), ({ bmType := 0, bRequest := 5, value := 127 } : UsbSetup),
      by decide⟩,
    ⟨(W.usb {} : State), (40 * sec1 + 100 : Nat), by decide⟩,
    ⟨(W.usb {} : State), (40 * sec1 + 100 : Nat), ({} : UsbSetup), by decide⟩,
    ⟨(W.usb {} : State), (40 * sec1 + 100 : Nat), (0x0500 : BitVec 16), by decide⟩,
    ⟨(W.usb {} : State), (40 * sec1 + 100 : Nat), (0x0501 : BitVec 16), by decide⟩,
    ⟨(W.usb {} : State), (40 * sec1 + 100 : Nat), (1 : BitVec 16), by decide⟩,
    ⟨(W.usb {} : State), (40 * sec1 + 100 : Nat), (2 : BitVec 16), by decide⟩,
    ⟨(W.usb { config := 1 } : State), (40 * sec1 + 100 : Nat), (1 : BitVec 16), (2 : BitVec 16), by decide⟩,
    ⟨(W.usb { config := 1 } : State), (40 * sec1 + 100 : Nat), (2 : BitVec 16), (3 : BitVec 16), by decide⟩,
    ⟨(W.usb {} : State), (40 * sec1 + 100 : Nat), by decide⟩,
    ⟨(W.usb {} : State), (40 * sec1 + 100 : Nat), by decide⟩,
    ⟨(W.usb {} : State), (40 * sec1 + 100 : Nat), by decide⟩,
    ⟨(W.usb {} : State), (40 * sec1 + 100 : Nat), (48000 : BitVec 32), by decide⟩,
    ⟨(W.usb {} : State), (40 * sec1 + 100 : Nat), (48001 : BitVec 32), by decide⟩⟩

theorem witness_ThresherRuns :
    (∃ (s : State) (t : Nat), awake s = true ∧ s.start.mode = none ∧ s.start.loftDone = true ∧
      s.start.checkDone = false ∧ s.thr.retired.length ≤ 2)
    ∧ (∃ (s : State) (t : Nat) (c : _), awake s = true ∧ s.start.mode = none ∧ s.start.loftDone = true ∧
      s.start.checkDone = false ∧ c ∉ s.thr.retired ∧ s.thr.retired.length ≤ 1)
    ∧ (∃ (s : State) (t : Nat), awake s = true ∧ s.start.mode = none ∧ s.start.loftDone = true ∧
      s.start.checkDone = false ∧ 2 < s.thr.retired.length)
    ∧ (∃ (s : State) (t : Nat) (ctx : Fin 16) (rerun : Bool) (j : Job) (h0 : List (BitVec 8)),
      s.thr.jobs.find? (fun j => j.ctx == ctx.val && j.rerun == rerun && !j.done) = some j ∧ j.h0 = some h0 ∧
      ((s.upTo t).upToDevice (jobStart s j)).gptp.time ≤ windowEnd s ∧ jobBlocked s ctx = false)
    ∧ (∃ (s : State), s.thr.jobs ≠ [])
    ∧ (∃ (s : State) (t : Nat) (ctx : Fin 16), s.thr.ctxs[ctx].commitDue = true ∧ siloWritten 1 ctx.val s = true ∧
      s.thr.ctxs[ctx].waiting = none)
    ∧ (∃ (s : State) (t : Nat) (ctx : Fin 16) (b : _), s.thr.ctxs[ctx].commitDue = true ∧
      siloWritten 1 ctx.val s = true ∧ s.thr.ctxs[ctx].waiting = some b)
    ∧ (∃ (s : State) (t : Nat) (ctx : Fin 16), s.blocks.running = true ∧ s.thr.ctxs[ctx].commitDue = false ∧
      partBusy s = false ∧ s.thr.ctxs[ctx].h0 = none ∧
      (ctx.val == 15 || s.thr.ctxs[ctx].desc.any (fun d => (sheafAt d (s.blocks.number + 1) s.thr.first).isSome)) = true)
    ∧ (∃ (s : State), s.blocks.running = true)
    ∧ (∃ (s : State) (d : Nat), s.thr.lane.driving = some d ∧ s.thr.lane.confirmed = false)
    ∧ (∃ (s : State) (c : Nat) (failing : List (Fin 66)), s.thr.checkAt = some c ∧ inMode .safe s = false ∧
      inMode .slumber s = false ∧ s.start.mode.isSome = true) :=
  ⟨⟨({ W.starting with start := { W.starting.start with loftDone := true }, thr := { retired := [3, 65] } } : State),
    (11 * sec1 : Nat), by decide⟩,
    ⟨({ W.starting with start := { W.starting.start with loftDone := true }, thr := { retired := [3] } } : State),
      (11 * sec1 : Nat), (2 : Fin 66), by decide⟩,
    ⟨({ W.starting with start := { W.starting.start with loftDone := true }, thr := { retired := [3, 4, 5] } } : State),
      (11 * sec1 : Nat), by decide⟩,
    ⟨(W.thr { jobs := [{ ctx := 2, block := 40001, h0 := some [] }] } : State), (40 * sec1 + 100 : Nat),
      (2 : Fin 16), (false : Bool), ({ ctx := 2, block := 40001, h0 := some [] } : Job), ([] : List (BitVec 8)),
      by decide⟩,
    ⟨(W.thr { jobs := [{ ctx := 2, block := 40001 }] } : State), by decide⟩,
    ⟨(W.thr { ctxs := (Vector.replicate 16 {}).set 15 { commitDue := true, final := some [1#8] } } : State),
      (40 * sec1 + 100 : Nat), (15 : Fin 16), by decide⟩,
    ⟨(W.thr { ctxs := (Vector.replicate 16 {}).set 15 { commitDue := true, final := some [1#8], waiting := some [2#8] } } : State),
      (40 * sec1 + 100 : Nat), (15 : Fin 16), ([2#8] : List Byte), by decide⟩,
    ⟨(W.thr {} : State), (40 * sec1 + 100 : Nat), (15 : Fin 16), by decide⟩,
    ⟨(W.thr { ctxs := (Vector.replicate 16 {}).set 2 { desc := some { ctx := 2, ahead := true }, outs := [{ step := 9, block := 40001, cls := .speculative }] } } : State),
      by decide⟩,
    ⟨(W.thr { lane := { driving := some 9, committed := 5, target := 8 } } : State), (9 : Nat), by decide⟩,
    ⟨(W.thr { checkAt := some (41 * sec1) } : State), (41 * sec1 : Nat), ([7] : List (Fin 66)), by decide⟩⟩

theorem witness_BoundariesRun :
    (∃ (s : State) (t : Nat), awake s = true ∧ s.start.mode = none ∧ s.start.base.isSome = true ∧
      s.start.setupDone = false ∧ s.start.checkDone = true ∧ s.start.psramDone = true)
    ∧ (∃ (s : State) (t : Nat), awake s = true ∧ s.start.mode = none ∧ s.start.base.isSome = true ∧
      s.start.setupDone = false ∧ s.start.checkDone = true ∧ s.start.psramDone = true)
    ∧ (∃ (s : State) (t : Nat), mayRun s = true)
    ∧ (∃ (s : State) (x : BoundaryIn), powered s = true ∧ s.blocks.exists_ = true ∧ s.start.mode = none)
    ∧ (∃ (s : State) (x : BoundaryIn), powered s = true ∧ s.blocks.exists_ = true ∧ inMode .safe s = true)
    ∧ (∃ (s : State) (x : BoundaryIn), powered s = true ∧ s.blocks.exists_ = true ∧ inMode .solo s = true ∧
      s.blocks.running = true ∧ s.blocks.due = [])
    ∧ (∃ (s : State) (x : BoundaryIn) (w : Nat) (m : Mode), inMode .slumber s = true ∧ s.sleep.wakeAt = some w ∧
      s.start.left = some m ∧ w + 30 * ms1 < max s.now x.t ∧ (s.sleep.loftBack = true ∨ s.gran.modelSet = none) ∧
      s.blocks.due = []) :=
  ⟨⟨({ W.starting with start := { W.starting.start with checkDone := true, psramDone := true } } : State),
    (11 * sec1 : Nat), by decide⟩,
    ⟨({ W.starting with start := { W.starting.start with checkDone := true, psramDone := true } } : State),
      (11 * sec1 : Nat), by decide⟩,
    ⟨({ W.starting with start := { W.starting.start with imageDone := true, loftDone := true, checkDone := true, psramDone := true, setupDone := true }, well := { selected := some .local, locked := true } } : State),
      (11 * sec1 : Nat), by decide⟩,
    ⟨({ W.starting with blocks := { exists_ := true } } : State), (W.edge (11 * sec1) : BoundaryIn), by decide⟩,
    ⟨({ W.run .safe 4 with lands := { wake := true } } : State), (W.edge (40 * sec1 + 1000000) : BoundaryIn),
      by decide⟩,
    ⟨(W.run .solo 0 : State), (W.edge (40 * sec1 + 1000000) : BoundaryIn), by decide⟩,
    ⟨({ W.asleep .member 2 with sleep := { wakeAt := some (41 * sec1), loftBack := true, beaconAt := 48 * sec1 } } : State),
      (W.edge (41 * sec1 + 30 * ms1 + 1) : BoundaryIn), (41 * sec1 : Nat), (.member : Mode), by decide⟩⟩

theorem witness_EnduranceRuns :
    (∃ (s : State) (t : Nat) (loft : Bool) (bank : Fin 16) (row : Fin 256), powered s = true ∧
      bankExists loft bank.val = true ∧ trackOf (s.upTo t) loft bank.val row.val = none)
    ∧ (∃ (s : State) (t : Nat) (bank : Fin 16) (row : Fin 256) (x : RowTrack), powered s = true ∧
      bankExists false bank.val = true ∧ trackOf (s.upTo t) false bank.val row.val = some x ∧ x.count = 1 ∧
      sparesIn s.endur false bank.val < 32 ∧ s.endur.repairs = [])
    ∧ (∃ (s : State) (t : Nat) (loft : Bool) (bank : Fin 16) (row : Fin 256) (word : Fin 128) (what : SramContent),
      powered s = true ∧ bankExists loft bank.val = true ∧ (loft = true ∨ what ≠ .control))
    ∧ (∃ (s : State) (t : Nat) (bank : Fin 16) (row : Fin 256) (word : Fin 128), powered s = true ∧
      bankExists false bank.val = true)
    ∧ (∃ (s : State), powered s = true)
    ∧ (∃ (s : State) (t : Nat) (spare : Nat) (bank : Fin 16) (row : Fin 256),
      s.endur.repairs = [{ loft := false, bank := bank.val, row := row.val, spare := spare }])
    ∧ (∃ (s : State) (t : Nat) (spare : Nat) (bank : Fin 16) (row : Fin 256),
      s.endur.repairs = [{ loft := true, bank := bank.val, row := row.val, spare := spare }])
    ∧ (∃ (s : State), s.well.holdover = true ∧ s.endur.valid = true ∧ s.endur.hvRule1 = true) :=
  ⟨⟨(W.run .leader 4 : State), (41 * sec1 : Nat), (true : Bool), (15 : Fin 16), (255 : Fin 256), by decide⟩,
    ⟨(let s := W.run .leader 4; { s with endur := { tracks := [{ bank := 7, row := 9, first := 40 * sec1, count := 1 }] } } : State),
      (41 * sec1 : Nat), (7 : Fin 16), (9 : Fin 256),
      ({ bank := 7, row := 9, first := 40 * sec1, count := 1 } : RowTrack), by decide⟩,
    ⟨(W.run .leader 4 : State), (41 * sec1 : Nat), (false : Bool), (7 : Fin 16), (9 : Fin 256), (3 : Fin 128),
      (.tie : SramContent), by decide⟩,
    ⟨(W.run .leader 4 : State), (41 * sec1 : Nat), (7 : Fin 16), (9 : Fin 256), (3 : Fin 128), by decide⟩,
    ⟨(let s := W.run .leader 4; { s with endur := { scrubAt := 41 * sec1 } } : State), by decide⟩,
    ⟨(let s := W.run .leader 4; { s with endur := { repairs := [{ bank := 7, row := 9, spare := 2 }] } } : State),
      (41 * sec1 : Nat), (2 : Nat), (7 : Fin 16), (9 : Fin 256), by decide⟩,
    ⟨(let s := W.run .leader 4; { s with endur := { repairs := [{ loft := true, bank := 7, row := 9, spare := 2 }] } } : State),
      (41 * sec1 : Nat), (2 : Nat), (7 : Fin 16), (9 : Fin 256), by decide⟩,
    ⟨(let s := W.run .leader 4; { s with well := { s.well with holdover := true, holdoverFrom := 39 * sec1 }, endur := { valid := true, hvRule1 := true, correctAt := 41 * sec1 } } : State),
      by decide⟩⟩

theorem witness_JtagRuns :
    (∃ (s : State) (t : Nat), s.jtag.hold = false)
    ∧ (∃ (s : State) (t : Nat), s.jtag.hold = false)
    ∧ (∃ (s : State) (t : Nat), s.jtag.hold = false)
    ∧ (∃ (s : State) (t : Nat), s.jtag.hold = false)
    ∧ (∃ (s : State) (t : Nat), s.jtag.hold = false)
    ∧ (∃ (s : State) (t : Nat), s.jtag.hold = false)
    ∧ (∃ (s : State) (t : Nat) (op : BitVec 5), s.jtag.hold = false ∧ 5 ≤ op.toNat)
    ∧ (∃ (s : State) (t : Nat), s.jtag.hold = true ∧ s.lands.resetN = true ∧ s.plant.precond = false)
    ∧ (∃ (s : State) (t : Nat) (pins : BitVec 62) (tdi : List Bool), s.jtag.ir = .idcode)
    ∧ (∃ (s : State) (t : Nat) (pins : BitVec 62) (tdi : List Bool), s.jtag.ir = .bypass)
    ∧ (∃ (s : State) (t : Nat) (pins : BitVec 62) (tdi : List Bool), (s.jtag.ir = .extest ∨ s.jtag.ir = .sample)) :=
  ⟨⟨(W.run .leader 4 : State), (41 * sec1 : Nat), by decide⟩,
    ⟨(W.run .leader 4 : State), (41 * sec1 : Nat), by decide⟩,
    ⟨(W.run .leader 4 : State), (41 * sec1 : Nat), by decide⟩,
    ⟨(W.run .leader 4 : State), (41 * sec1 : Nat), by decide⟩,
    ⟨(W.run .leader 4 : State), (41 * sec1 : Nat), by decide⟩,
    ⟨(W.run .leader 4 : State), (41 * sec1 : Nat), by decide⟩,
    ⟨(W.run .leader 4 : State), (41 * sec1 : Nat), (5 : BitVec 5), by decide⟩,
    ⟨({ now := 10 * sec1, jtag := { ir := .highz, hold := true } } : State), (41 * sec1 : Nat), by decide⟩,
    ⟨(W.run .leader 4 : State), (41 * sec1 : Nat), (5 : BitVec 62), (List.replicate 32 false : List Bool),
      by decide⟩,
    ⟨({ W.run .leader 4 with jtag := { ir := .bypass } } : State), (41 * sec1 : Nat), (5 : BitVec 62),
      ([true, false] : List Bool), by decide⟩,
    ⟨({ W.run .leader 4 with jtag := { ir := .sample } } : State), (41 * sec1 : Nat), (5 : BitVec 62),
      ([true, false] : List Bool), by decide⟩⟩

theorem witness_PowerPathRuns :
    (∃ (s : State) (t : Nat) (mv : Nat) (mean : Nat), s.plant.vinValid = true)
    ∧ (∃ (s : State) (t : Nat) (mv : Nat), s.plant.vinValid = false ∧ 2000 < mv ∧ awake s = true)
    ∧ (∃ (s : State) (t : Nat) (vinMv : Nat) (vinMa : Nat) (vsysMv : Nat), s.plant.vinValid = true)
    ∧ (∃ (s : State) (l : Nat), s.start.tLatch = some l ∧ s.plant.absent = true ∧
      (battSetup (lvlD s 12)).isSome = true ∧ anyActive 0xFA10#16 s = false ∧ awake s = true)
    ∧ (∃ (s : State) (t : Nat) (mv : Nat), s.plant.vinValid = false ∧ s.plant.sysGate = true ∧
      s.plant.openAt = none ∧ s.start.tLatch.isSome = true ∧ mv < cutoffMv s)
    ∧ (∃ (s : State) (a : Nat), s.plant.openAt = some a ∧ s.plant.vinValid = true)
    ∧ (∃ (s : State) (a : Nat), s.plant.openAt = some a ∧ s.plant.vinValid = false)
    ∧ (∃ (s : State) (t : Nat) (x : PackReading), (x.ntcPpm ≤ 970000 ∨ 2000 ≤ x.vbatMv)) :=
  ⟨⟨(W.batt { vinValid := true, absent := false, vbatMv := 11000 } : State), (41 * sec1 : Nat), (900 : Nat),
    (4000 : Nat), by decide⟩,
    ⟨(W.batt {} : State), (41 * sec1 : Nat), (2001 : Nat), by decide⟩,
    ⟨(W.batt { vinValid := true, limitMa := 2000, applyMa := 2000 } : State), (41 * sec1 : Nat), (12000 : Nat),
      (5001 : Nat), (11000 : Nat), by decide⟩,
    ⟨(W.batt { absentAt := some (39 * sec1) } : State), (20700000 : Nat), by decide⟩,
    ⟨(W.batt { sysGate := true } : State), (41 * sec1 : Nat), (8000 : Nat), by decide⟩,
    ⟨(W.batt { vinValid := true, openAt := some (41 * sec1) } : State), (41 * sec1 : Nat), by decide⟩,
    ⟨(W.batt { openAt := some (41 * sec1) } : State), (41 * sec1 : Nat), by decide⟩,
    ⟨(W.batt {} : State), (41 * sec1 : Nat), ({ ntcPpm := 990000, vbatMv := 2000 } : PackReading), by decide⟩⟩

theorem witness_ChargerRuns :
    (∃ (s : State) (t : Nat), s.start.tRun.isSome = true ∧ inMode .safe s = false ∧ inMode .slumber s = false ∧
      s.plant.linkLost = none ∧ s.thr.missRow = 0)
    ∧ (∃ (s : State) (a : Nat), s.plant.reqAt = some a ∧ s.plant.fixed = false)
    ∧ (∃ (s : State) (a : Nat), s.plant.reqSince = some a ∧ s.plant.fixed = true ∧ inMode .safe s = false)
    ∧ (∃ (s : State) (a : Nat), s.plant.taperAt = some a ∧ s.plant.phase = 3)
    ∧ (∃ (s : State) (c : ChargeSet), chargeSet s = some c ∧ s.plant.state = 2)
    ∧ (∃ (s : State) (a : Nat), s.plant.preAt = some a ∧ s.plant.phase = 1)
    ∧ (∃ (s : State) (t : Nat) (x : PackReading) (c : ChargeSet), chargeSet s = some c ∧
      s.start.tLatch.isSome = true ∧ inMode .slumber s = false)
    ∧ (∃ (s : State) (t : Nat) (x : PackReading), inMode .slumber s = true)
    ∧ (∃ (s : State) (t : Nat) (mv : Nat) (c : ChargeSet), chargeSet s = some c ∧ s.plant.vinValid = true ∧
      s.start.tLatch.isSome = true ∧ pack (c.cellMv + 50) < mv)
    ∧ (∃ (s : State) (a : Nat) (c : ChargeSet), s.plant.restAt = some a ∧ chargeSet s = some c)
    ∧ (∃ (s : State) (t : Nat) (mv : Nat) (c : ChargeSet), chargeSet s = some c ∧ chargerOff s = false ∧
      s.plant.suspend = [] ∧ floorVolts ≤ mv) :=
  ⟨⟨(W.batt { vinValid := true, absent := false } : State), (41 * sec1 : Nat), by decide⟩,
    ⟨(W.batt { reqAt := some (40 * sec1), fixed := false } : State), (40 * sec1 : Nat), by decide⟩,
    ⟨(W.batt { reqSince := some (40 * sec1) } : State), (40 * sec1 : Nat), by decide⟩,
    ⟨(W.batt { vinValid := true, absent := false, taperAt := some (40 * sec1), phase := 3, state := 3 } : State),
      (40 * sec1 : Nat), by decide⟩,
    ⟨(W.batt { vinValid := true, absent := false, state := 2, timerAt := 39 * sec1 } : State), (W.set : ChargeSet),
      by decide⟩,
    ⟨(W.batt { vinValid := true, absent := false, preAt := some (39 * sec1), phase := 1, state := 1 } : State),
      (39 * sec1 : Nat), by decide⟩,
    ⟨(W.batt { vinValid := true, absent := false } : State), (41 * sec1 : Nat),
      ({ ntcPpm := 500000, vbatMv := 11000, packMa := 19 } : PackReading), (W.set : ChargeSet), by decide⟩,
    ⟨(W.asleep .member 2 : State), (41 * sec1 : Nat),
      ({ ntcPpm := 500000, vbatMv := 11000, packMa := 19 } : PackReading), by decide⟩,
    ⟨(W.batt { vinValid := true, absent := false } : State), (41 * sec1 : Nat), (12751 : Nat), (W.set : ChargeSet),
      by decide⟩,
    ⟨(W.batt { restAt := some (39 * sec1) } : State), (39 * sec1 : Nat), (W.set : ChargeSet), by decide⟩,
    ⟨(W.batt { vinValid := true, absent := false, phase := 6 } : State), (41 * sec1 : Nat), (4500 : Nat),
      (W.set : ChargeSet), by decide⟩⟩

theorem witness_PlantRuns :
    (∃ (s : State) (ch : Fin 2) (a : Nat), s.spk.ch[ch].saturated = true ∧ s.spk.ch[ch].releaseAt = some a)
    ∧ (∃ (s : State) (t : Nat) (ch : Fin 2), s.spk.ch[ch].on = true ∧ monoAmp s = false ∧
      strapCeiling s * 12 < meanMw s.spk.ch[ch].secMw * 10)
    ∧ (∃ (s : State) (t : Nat) (stage : Fin 2) (short : Bool), powered s = true)
    ∧ (∃ (s : State) (t : Nat) (cent : Nat) (ch : Fin 2), s.spk.ch[ch].on = true ∧ 4 * nominalCent s < cent ∧
      s.spk.ch[ch].openLoad = false)
    ∧ (∃ (s : State) (t : Nat) (cent : Nat) (ch : Fin 2), s.spk.ch[ch].on = true ∧ cent ≤ 2 * nominalCent s ∧
      s.spk.ch[ch].openLoad = true)
    ∧ (∃ (s : State) (t : Nat) (pos : Nat) (pvdd : Nat) (ma : Int), (motorSetup (lvlD s 11)).isSome = true ∧
      s.blocks.running = true)
    ∧ (∃ (s : State) (t : Nat) (mv : Int), s.motor.driven = true ∧ closedLoop s = false)
    ∧ (∃ (s : State) (t : Nat) (ma : Int), s.motor.driven = true ∧ 2500 ≤ ma.natAbs)
    ∧ (∃ (s : State) (a : Nat), s.motor.posBadAt = some a ∧ closedLoop s = true ∧ s.motor.posFault = false)
    ∧ (∃ (s : State) (a : Nat), s.motor.stallSince = some a)
    ∧ (∃ (s : State) (h : Nat), s.motor.holdUntil = some h)
    ∧ (∃ (s : State) (t : Nat) (deg : Int), powered s = true ∧ 150 ≤ deg ∧ s.plant.shut = false)
    ∧ (∃ (s : State) (t : Nat) (deg : Int), powered s = true ∧ 135 ≤ deg ∧ deg < 150 ∧ s.plant.derate = false)
    ∧ (∃ (s : State) (t : Nat) (deg : Int), powered s = true ∧ deg < 130)
    ∧ (∃ (s : State) (t : Nat) (deg : Int), powered s = true ∧ 125 < deg ∧ anyActive 0xFC10#16 s = false)
    ∧ (∃ (s : State) (t : Nat) (deg : Int), powered s = true ∧ deg < 120) :=
  ⟨⟨(W.driving {} { saturated := true, releaseAt := some (40 * sec1), on := true } : State), (1 : Fin 2),
    (40 * sec1 : Nat), by decide⟩,
    ⟨(W.driving {} { on := true, secMw := [20000] } : State), (41 * sec1 : Nat), (0 : Fin 2), by decide⟩,
    ⟨(W.driving {} { on := true } : State), (41 * sec1 : Nat), (1 : Fin 2), (true : Bool), by decide⟩,
    ⟨(W.driving {} { on := true } : State), (41 * sec1 : Nat), (1601 : Nat), (0 : Fin 2), by decide⟩,
    ⟨(W.driving {} { on := true, openLoad := true } : State), (41 * sec1 : Nat), (800 : Nat), (0 : Fin 2),
      by decide⟩,
    ⟨(W.driving {} {} : State), (41 * sec1 : Nat), (900 : Nat), (12000 : Nat), (-30 : Int), by decide⟩,
    ⟨(let s := W.driving { driven := true } {}; { s with straps := { level := s.straps.level.set 11 (some 2) } } : State),
      (41 * sec1 : Nat), (-250 : Int), by decide⟩,
    ⟨(W.driving { driven := true } {} : State), (41 * sec1 : Nat), (-2500 : Int), by decide⟩,
    ⟨(W.driving { driven := true, posBadAt := some (40 * sec1) } {} : State), (40 * sec1 : Nat), by decide⟩,
    ⟨(W.driving { driven := true, stallSince := some (40 * sec1), stalls := [39 * sec1, 38 * sec1] } {} : State),
      (40 * sec1 : Nat), by decide⟩,
    ⟨(W.driving { holdUntil := some (41 * sec1) } {} : State), (41 * sec1 : Nat), by decide⟩,
    ⟨(W.driving { driven := true } { on := true } : State), (41 * sec1 : Nat), (150 : Int), by decide⟩,
    ⟨(W.driving { driven := true } { on := true } : State), (41 * sec1 : Nat), (149 : Int), by decide⟩,
    ⟨(W.driving { driven := true } { on := true } : State), (41 * sec1 : Nat), (129 : Int), by decide⟩,
    ⟨(W.run .leader 4 : State), (41 * sec1 : Nat), (126 : Int), by decide⟩,
    ⟨(W.run .leader 4 : State), (41 * sec1 : Nat), (119 : Int), by decide⟩⟩

/-- A command waits at the front of a queue, and a queue is empty. -/
theorem witness_StepTakesFront :
    (∃ (c : Instr) (s : State) (rest : List Instr), s.pending = c :: rest) ∧ ∃ s : State, s.pending = [] :=
  ⟨⟨.idcode 5, { pending := [.idcode 5] }, [], rfl⟩, State.reset, rfl⟩

/-- A step that writes the flash, from a machine whose memories are canonical. -/
theorem witness_MemoriesStayCanonical :
    ∃ s t : State, s.memWf = true ∧ step s = .next t ∧ t.mem.flash ≠ [] :=
  ⟨{ W.run .leader 4 with
      pending := [.flashOperationComplete 5 none], mem := { (W.run .leader 4).mem with op := some { addr := 7, data := [1#8] } } },
    _, by decide, rfl, by decide⟩

theorem witness_QueueIdentityAndTime : ∃ (c : Instr) (s u : State), exec c s = .next u := ⟨.idcode 5, State.reset, _, rfl⟩

/-- A command on a device with a slot and a signer record written, and one that writes the lowest blank slot. -/
theorem witness_KeySlotsAreWriteOnce :
    (∃ (c : Instr) (s u : State) (i : Fin 8) (j : Fin 2), exec c s = .next u ∧ s.sec.slots[i] ≠ .blank ∧ s.sec.signers[j] ≠ .blank)
    ∧ ∃ (c : Instr) (s u : State) (i j : Fin 8), exec c s = .next u ∧ u.sec.slots[i] ≠ s.sec.slots[i] ∧ j < i :=
  ⟨⟨.idcode 5, { sec := { slots := (Vector.replicate 8 .blank).set 0 .spoiled, signers := (Vector.replicate 2 .blank).set 0 .spoiled } },
      _, 0, 0, rfl, by decide, by decide⟩,
    .keyCreate (true, true), { W.run .leader 4 with sec := { createAt := some (41 * sec1), slots := (Vector.replicate 8 .blank).set 0 .spoiled } },
      _, 1, 0, rfl, by decide, by decide⟩

theorem witness_LatchedLevelsAreFinal :
    ∃ (c : Instr) (s u : State) (l : Nat), exec c s = .next u ∧ s.start.tLatch = some l ∧ u.start.phase = .active :=
  ⟨.idcode 5, W.run .leader 4, _, 20700000, rfl, rfl, rfl⟩

theorem witness_RetentionSurvivesResets :
    ∃ (c : Instr) (s u : State), exec c s = .next u ∧ s.start.phase = .active ∧ u.start.phase = .held
      ∧ ∀ t tcxo, c ≠ .powerOnReset t true tcxo :=
  ⟨.supplySupervisorReset 5, W.run .leader 4, _, rfl, rfl, rfl, fun _ _ => nofun⟩

/-- A full history, a full flow window, and rings at their last places. -/
theorem witness_CapacitiesHold :
    (∃ s t : State, s.history.length = 16 ∧ step s = .next t)
    ∧ (∃ s t : State, s.switch.flows.length ≤ 9216 ∧ (∃ w ∈ s.switch.flows, w.seen.length = 32)
        ∧ (∀ w ∈ s.switch.flows, w.seen.length ≤ 32) ∧ step s = .next t)
    ∧ ∃ s t : State, s.log.nextSlot = 2048 ∧ s.ringsFit ∧ step s = .next t :=
  ⟨⟨{ history := List.replicate 16 {} }, _, rfl, rfl⟩,
    ⟨{ switch := { flows := [{ src := 2, dst := 3, seen := List.range 32, last := 0 }] } }, _, by decide, by decide, by decide, rfl⟩,
    { log := { nextSlot := 2048 } }, _, rfl, ⟨by decide, by decide, by decide, by decide⟩, rfl⟩

/-- Readings that agree, that differ, and that no band holds, with a reserved level among those that agree. -/
theorem witness_StrapReadingsAgree :
    ∃ (s : State) (a b : Vector (Fin 1024) 13), awake s = true ∧ s.start.tLatch = none ∧ s.straps.first = some a
      ∧ s.straps.second = some b ∧ s.status.active = [] ∧ levelOf a[0] = levelOf b[0] ∧ levelOf a[1] ≠ levelOf b[1]
      ∧ levelOf a[2] = none ∧ levelOf a[3] = some 10 ∧ levelOf b[3] = some 10 :=
  let a : Vector (Fin 1024) 13 := ((W.codes.set 1 0).set 2 34).set 3 683
  ⟨{ W.up with straps := { first := some a, second := some (a.set 1 1023) } }, a, a.set 1 1023,
    rfl, rfl, rfl, rfl, rfl, by decide, by decide, by decide, by decide, by decide⟩

/-- A counter of 3 with every strap good, with and without PAIR; and a counter of 2. -/
theorem witness_CounterCheckedAtLatch :
    ∀ p : Bool × Fin 4, ∃ (s : State) (a : Vector (Fin 1024) 13), awake s = true ∧ s.start.tLatch = none ∧ s.start.mode = none
      ∧ s.start.base = none ∧ s.start.waitPair = false ∧ s.straps.first = some a ∧ s.straps.second = some a
      ∧ s.status.active = [] ∧ s.aon.failed = p.2 ∧ s.lands.pair = p.1 :=
  fun p => ⟨{ W.up with
      straps := { first := some W.codes, second := some W.codes }, aon := { failed := p.2 }, lands := { pair := p.1 } }, W.codes,
    rfl, rfl, rfl, rfl, rfl, rfl, rfl, rfl, rfl, rfl⟩

/-- A press begun within the first 5 s, one of a device that does not run, and one of a device in no mode. -/
theorem witness_PairingPressesOnlyWhileRunning :
    (∃ (s : State) (t held : Nat), max s.now t < s.start.tReset + 5 * sec1 + held ∧ s.start.tRun.isSome = true)
    ∧ (∃ s : State, s.start.tRun = none) ∧ ∃ s : State, s.start.mode = none :=
  ⟨⟨W.run .leader 4, 41 * sec1, 37 * sec1, by decide, by decide⟩, ⟨W.up, rfl⟩, W.up, rfl⟩

/-- A key due with slot 1 the lowest blank one and slot 3 the next; and with slot 7 the last. -/
theorem witness_KeyProgramming :
    ∀ i : Fin 8, ∃ (s : State) (c : Nat), s.sec.createAt = some c ∧ strappedLeader (role s) = true ∧ s.start.mode.isSome = true
      ∧ inMode .safe s = false ∧ s.sec.inForce = none ∧ s.sec.nextForce = none ∧ s.sec.slots[i] = .blank
      ∧ (∀ j : Fin 8, j < i → s.sec.slots[j] ≠ .blank) ∧ (∀ j : Fin 8, i < j → (s.sec.slots[j] = .blank ↔ 3 ≤ j)) :=
  fun i => ⟨{ W.run .leader 4 with sec := { createAt := some (41 * sec1)
                                            slots := Vector.ofFn (fun j => if j = i ∨ i < j ∧ 3 ≤ j then .blank else .spoiled) } },
    41 * sec1, rfl, rfl, rfl, rfl, rfl, rfl, by revert i; decide, by revert i; decide, by revert i; decide⟩

theorem witness_NoBlankSlotRefusesAKey :
    (∃ (s : State) (c : Nat), s.sec.createAt = some c ∧ strappedLeader (role s) = true ∧ s.start.mode.isSome = true
      ∧ inMode .safe s = false ∧ s.sec.inForce = none ∧ s.sec.nextForce = none ∧ ∀ i : Fin 8, s.sec.slots[i] ≠ .blank)
    ∧ (∃ s : State, s.lands.pair = true ∧ s.now < s.lands.pairSince + 10 * sec1 ∧ inMode .leader s = true
      ∧ strappedLeader (role s) = true ∧ s.sec.inForce.isSome = true ∧ s.start.tReset + 5 * sec1 ≤ s.lands.pairSince
      ∧ ∀ i : Fin 8, s.sec.slots[i] ≠ .blank)
    ∧ ∃ (c : Instr) (s u : State), isActive 0xF600#16 0 s = true ∧ exec c s = .next u :=
  ⟨⟨{ W.run .leader 4 with sec := { createAt := some (41 * sec1), slots := Vector.replicate 8 .spoiled } }, 41 * sec1,
      by decide⟩,
    ⟨{ W.run .leader 4 with
        sec := { inForce := some 0, slots := Vector.replicate 8 (.valid {}) }, lands := { pair := true, pairSince := 35 * sec1 } },
      by decide⟩,
    .idcode 5, { status := { active := [⟨0xF600#16, 0, 0⟩] } }, _, by decide, rfl⟩

/-- Set-up with two slots that fit, one of another tenant above them. -/
theorem witness_KeyInForceAtSetup :
    ∃ s : State, awake s = true ∧ s.start.mode = none ∧ s.start.base.isSome = true ∧ s.start.setupDone = false
      ∧ s.start.checkDone = true ∧ s.start.psramDone = true ∧ s.sec.slots[0] = .valid { tenant := 3 }
      ∧ s.sec.slots[1] = .valid { tenant := 3 } ∧ s.sec.slots[2] = .valid { tenant := 4 } ∧ tenant s = 3 :=
  let v : Vector KeySlot 8 :=
    (((Vector.replicate 8 .blank).set 0 (.valid { tenant := 3 })).set 1 (.valid { tenant := 3 })).set 2 (.valid { tenant := 4 })
  ⟨{ W.starting with start := { W.starting.start with checkDone := true, psramDone := true }, sec := { slots := v } }, by decide⟩

/-- A member between two links, with flows in its table. -/
def W.flowing (l : List Flow) : State := { W.linked .member 2 with switch := { tables := true, flows := l } }

theorem W.flow_base (l : List Flow) :
    let s := W.flowing l; let f := W.plainFrame; let i : Fin 2 := 0; let tag : SecTag := {}
    (∀ m, f.body ≠ .gptp m) ∧ awake s = true ∧ s.ports[i].up = true ∧ s.ports[i].phy = true ∧ s.ports[1 - i].up = true
      ∧ sysStopped s = false ∧ inMode .slumber s = false ∧ s.switch.tables = true ∧ switchAdmits f = true ∧ f.src ≠ s.eui48
      ∧ f.sec = some tag :=
  ⟨fun _ => nofun, rfl, rfl, rfl, rfl, rfl, rfl, rfl, by decide, show (0x02AA#48 : BitVec 48) ≠ 0x0291A0B0C0D0#48 by decide, rfl⟩

/-- A flow of the plain frame with one packet number seen. -/
def W.flow (n : Nat) : Flow := ⟨W.plainFrame.src, W.plainFrame.dst, [n], 0⟩

/-- Each clause at its ends: a number seen, one just below the window, one at the window's end, no flow yet, and a full table. -/
theorem witness_FlowsForwardOnce :
    (∀ n ∈ [0, 33], ∃ (s : State) (i : Fin 2) (f : NetFrame) (tag : SecTag) (w : Flow), ((∀ m, f.body ≠ .gptp m) ∧ awake s = true ∧ s.ports[i].up = true ∧ s.ports[i].phy = true ∧ s.ports[1 - i].up = true
      ∧ sysStopped s = false ∧ inMode .slumber s = false ∧ s.switch.tables = true ∧ switchAdmits f = true ∧ f.src ≠ s.eui48
      ∧ f.sec = some tag)
      ∧ s.switch.flows.find? (fun w => w.src == f.src && w.dst == f.dst) = some w
      ∧ (tag.pn ∈ w.seen ∨ ∃ q ∈ w.seen, tag.pn + 32 < q) ∧ w.seen = [n])
    ∧ (∃ (s : State) (i : Fin 2) (f : NetFrame) (tag : SecTag) (w : Flow), ((∀ m, f.body ≠ .gptp m) ∧ awake s = true ∧ s.ports[i].up = true ∧ s.ports[i].phy = true ∧ s.ports[1 - i].up = true
      ∧ sysStopped s = false ∧ inMode .slumber s = false ∧ s.switch.tables = true ∧ switchAdmits f = true ∧ f.src ≠ s.eui48
      ∧ f.sec = some tag)
      ∧ s.switch.flows.find? (fun w => w.src == f.src && w.dst == f.dst) = some w
      ∧ tag.pn ∉ w.seen ∧ (∀ q ∈ w.seen, q ≤ tag.pn + 32))
    ∧ (∃ (s : State) (i : Fin 2) (f : NetFrame) (tag : SecTag), ((∀ m, f.body ≠ .gptp m) ∧ awake s = true ∧ s.ports[i].up = true ∧ s.ports[i].phy = true ∧ s.ports[1 - i].up = true
      ∧ sysStopped s = false ∧ inMode .slumber s = false ∧ s.switch.tables = true ∧ switchAdmits f = true ∧ f.src ≠ s.eui48
      ∧ f.sec = some tag)
      ∧ s.switch.flows.find? (fun w => w.src == f.src && w.dst == f.dst) = none ∧ s.switch.flows.length < 9216)
    ∧ ∃ (s : State) (i : Fin 2) (f : NetFrame) (tag : SecTag), ((∀ m, f.body ≠ .gptp m) ∧ awake s = true ∧ s.ports[i].up = true ∧ s.ports[i].phy = true ∧ s.ports[1 - i].up = true
      ∧ sysStopped s = false ∧ inMode .slumber s = false ∧ s.switch.tables = true ∧ switchAdmits f = true ∧ f.src ≠ s.eui48
      ∧ f.sec = some tag)
      ∧ s.switch.flows.find? (fun w => w.src == f.src && w.dst == f.dst) = none ∧ s.switch.flows.length = 9216 := by
  refine ⟨fun n hn => ⟨W.flowing [W.flow n], 0, W.plainFrame, {}, W.flow n, W.flow_base _, by revert n; decide, ?_, rfl⟩,
    ⟨W.flowing [W.flow 32], 0, W.plainFrame, {}, W.flow 32, W.flow_base _, by decide, by decide, by decide⟩,
    ⟨W.flowing [], 0, W.plainFrame, {}, W.flow_base _, by decide, by decide⟩,
    ⟨W.flowing (List.replicate 9216 ⟨1, 2, [], 0⟩), 0, W.plainFrame, {}, W.flow_base _,
      List.find?_replicate_of_neg (by decide), List.length_replicate⟩⟩
  revert n; decide

/-- The expiry of a flow. -/
theorem witness_FlowsForwardOnce_expiry :
    ∃ (s : State) (w : Flow), s.switch.flows.find? (fun x => x.src == w.src && x.dst == w.dst) = some w :=
  ⟨{ switch := { flows := [⟨2, 3, [7], 40⟩] } }, ⟨2, 3, [7], 40⟩, by decide⟩

/-- Every distance recovery tells apart, at its ends. -/
theorem witness_RecoveryOfSequences :
    ∀ d ∈ ([-32768, -32, -31, 0, 1, 31, 32, 32767] : List Int), ∃ (q : BitVec 16) (r : Recovery),
      r.active = true ∧ (q - r.seq).toInt = d :=
  fun d h => ⟨BitVec.ofInt 16 d, { active := true }, rfl, by revert d; decide⟩

theorem witness_RecoveryOfSequences_reset :
    ∃ (s : State) (kind : Nat) (n : BitVec 8) (i : Nat) (x : RxStream), rxIndex s kind n = some i ∧ s.streams.rx[i]? = some x
      ∧ x.recov.active = true :=
  ⟨{ streams := { rx := [{ kind := 1, node := 7, recov := { active := true } }] } }, 1, 7, 0,
    { kind := 1, node := 7, recov := { active := true } }, by decide⟩

theorem witness_IdentificationCode :
    ∃ (s : State) (tdi : List Bool), s.jtag.ir = .idcode ∧ tdi.length = 32 := ⟨State.reset, List.replicate 32 true, rfl, rfl⟩

theorem witness_HalfConversionIsExact : ∃ h : BitVec 16, h.toNat / 1024 % 32 ≠ 31 := ⟨0x7BFF#16, by decide⟩

/-- A command of each family answers a next state. -/
theorem witness_Frames :
    ∀ f : Family, ∃ (c : Instr) (s u : State), (footprint c).1 = f ∧ exec c s = .next u := by
  intro f
  cases f
  · exact ⟨.beaconWindowClose, W.asleep .member 2, _, by decide, rfl⟩
  · exact ⟨.syncSend 0, State.reset, _, by decide, rfl⟩
  · exact ⟨.checkpointTake 5, W.run .leader 4, _, by decide, rfl⟩
  · exact ⟨.dmaPaceMark 5 0 9, W.run .leader 4, _, by decide, rfl⟩
  · exact ⟨.micEnOpen 5, State.reset, _, by decide, rfl⟩
  · exact ⟨.idcode 5, State.reset, _, by decide, rfl⟩

/-- An operation of the flash in progress, erase and program; each ring's command; a chunk, a commit and a register set. -/
theorem witness_MemoryBytesOfStores :
    (∀ e : Bool, ∃ (s u : State) (o : FlashOp), s.memWf = true ∧ s.mem.op = some o ∧ o.erase = e
      ∧ exec (.flashOperationComplete 5 none) s = .next u)
    ∧ (∃ (s u : State), s.memWf = true ∧ s.ringsFit ∧ exec (.ashLogEntryWrite 5 none) s = .next u ∧ u.mem.flash ≠ [])
    ∧ (∃ (s u : State) (x : PairFrame), s.memWf = true ∧ exec (.tieCheckpointChunk 5 x) s = .next u)
    ∧ (∃ (s u : State) (k : Fin 16), s.memWf = true ∧ exec (.stateCommit 5 k) s = .next u ∧ u.mem.psram ≠ [])
    ∧ ∃ (s : State) (ch : Fin 16) (x y : Nat), s.memWf = true ∧ s.mem.dma[ch].active.valid = true ∧ s.mem.dma[ch].active.kind = 0
      ∧ s.mem.dma[ch].active.rows = 1 ∧ s.mem.dma[ch].active.src.toNat = 0x20000000 + x
      ∧ x + s.mem.dma[ch].active.rowLen ≤ 0x200000 ∧ s.mem.dma[ch].active.dst.toNat = 0x40000000 + y
      ∧ y + s.mem.dma[ch].active.rowLen ≤ s.mem.psramMiB * 1048576 ∧ s.mem.psramMiB ≤ 512 ∧ 0 < s.mem.dma[ch].active.rowLen := by
  refine ⟨fun e => ?_, ?_, ?_, ?_, ?_⟩
  · exact ⟨{ W.run .leader 4 with mem := { (W.run .leader 4).mem with op := some { erase := e, addr := 0, data := [1#8] } } }, _, _,
      by revert e; decide, rfl, rfl, rfl⟩
  · exact ⟨{ W.run .leader 4 with log := { present := true, waiting := [{}] } }, _, by decide,
      ⟨by decide, by decide, by decide, by decide⟩, rfl, by decide⟩
  · exact ⟨W.pair .partner 7, _, .tie [], by decide, rfl⟩
  · exact ⟨{ W.run .leader 4 with thr := { ctxs := (Vector.replicate 16 {}).set 3 { commitDue := true, waiting := some [7#8] } } },
      _, 3, by decide, rfl, by decide⟩
  · exact ⟨W.dma 9 { active := { kind := 0, valid := true, rows := 1, rowLen := 64, src := 0x20000000, dst := 0x40000000 } },
      9, 0, 0, by decide⟩

end Sys2Proof.Tests
end

/-! # The straps are final after t_latch

Which operations leave the straps alone: all of them but the readings before t_latch, the latch itself, the re-reads' report and
a reset. One rule for each operation of the model, in the model's order, then one for each command. -/

section
namespace Sys2Proof.Machine

open Sys2Proof

/-! ### What a command leaves -/

/-- What holds of the state a command leaves, where it leaves one. -/
def After (P : State → Prop) : Result → Prop
  | .next u => P u
  | .fault _ => True
  | .refused _ => True

@[simp] theorem after_next (P : State → Prop) (u : State) : After P (.next u) ↔ P u := Iff.rfl

@[simp] theorem after_fault (P : State → Prop) (r : Fault) : After P (.fault r) := trivial

@[simp] theorem after_ite (P : State → Prop) (c : Prop) [Decidable c] (x y : Result) :
    After P (if c then x else y) ↔ if c then After P x else After P y := by
  split <;> rfl

theorem After.imp {P Q : State → Prop} (h : ∀ u, P u → Q u) : ∀ {r : Result}, After P r → After Q r
  | .next u, p => h u p
  | .fault _, _ => trivial
  | .refused _, _ => trivial

/-- A command's result leaves the straps as they were. -/
abbrev KeepsStraps (s : State) (r : Result) : Prop := After (fun u => u.straps = s.straps) r

/-- What each step of a fold leaves alone, the fold leaves alone. -/
theorem foldl_keeps {α β : Type} (g : State → β) (f : State → α → State) (h : ∀ s a, g (f s a) = g s) (l : List α) (s : State) :
    g (l.foldl f s) = g s := by
  induction l generalizing s with
  | nil => rfl
  | cons a l ih => rw [List.foldl_cons, ih, h]

@[simp] theorem foldl_straps {α : Type} (f : State → α → State) (h : ∀ s a, (f s a).straps = s.straps) (l : List α)
    (s : State) : (l.foldl f s).straps = s.straps :=
  foldl_keeps State.straps f h l s

theorem iter_straps (f : State → State) (h : ∀ s, (f s).straps = s.straps) (n : Nat) (s : State) :
    (iter f n s).straps = s.straps := by
  induction n generalizing s with
  | zero => rfl
  | succ n ih => rw [iter, ih, h]

@[simp] theorem straps_ite (c : Prop) [Decidable c] (s t : State) :
    (if c then s else t).straps = if c then s.straps else t.straps :=
  apply_ite State.straps c s t

/-! ### The shared operations (Machine/Ops.lean) -/

@[simp] theorem crossIn_straps (q words work) (s : State) (h : ∀ s, (work s).straps = s.straps) :
    (crossIn q words work s).straps = s.straps := by
  simp [crossIn, h]
@[simp] theorem forwardTo_straps (i f) (s : State) : (forwardTo i f s).straps = s.straps := by simp [forwardTo]
@[simp] theorem sendPort_straps (i f) (s : State) : (sendPort i f s).straps = s.straps := by simp [sendPort]
@[simp] theorem sendPairing_straps (f) (s : State) : (sendPairing f s).straps = s.straps := by simp [sendPairing]
@[simp] theorem pumpFrames_straps (nn q) (s : State) : (pumpFrames nn q s).straps = s.straps :=
  pumpFrames_aux nn q (·.straps) (fun _ _ _ _ _ => rfl) s
@[simp] theorem modeFrame_straps (et left m code) (s : State) :
    (modeFrame et left m code s).straps = s.straps := by simp [modeFrame]
@[simp] theorem modeSet_straps (et m code) (s : State) : (modeSet et m code s).straps = s.straps := by simp [modeSet]
@[simp] theorem drawFree_straps (s : State) : (drawFree s).2.straps = s.straps := by simp [drawFree]
@[simp] theorem freeBytes_straps (n) (s : State) : (freeBytes n s).2.straps = s.straps := by simp [freeBytes]

/-! ### The best master clock algorithm -/

@[simp] theorem endSearch_straps (s : State) : (endSearch s).straps = s.straps := by simp [endSearch]
@[simp] theorem runBmca_straps (s : State) : (runBmca s).straps = s.straps := by simp [runBmca]

/-! ### Wellspring -/

@[simp] theorem selectClears_straps (r) (s : State) : (selectClears r s).straps = s.straps := by simp [selectClears]
@[simp] theorem seedDco_straps (r) (s : State) : (seedDco r s).straps = s.straps := by simp [seedDco]
@[simp] theorem startSelect_straps (r) (s : State) : (startSelect r s).straps = s.straps := by simp [startSelect]
@[simp] theorem deadlineSelect_straps (s : State) : (deadlineSelect s).straps = s.straps := by
  unfold deadlineSelect; split <;> simp
@[simp] theorem wellBegin_straps (t) (s : State) : (wellBegin t s).straps = s.straps := by
  unfold wellBegin; dsimp only; (repeat' split) <;> simp
@[simp] theorem enterHoldover_straps (loss r) (s : State) :
    (enterHoldover loss r s).straps = s.straps := by simp [enterHoldover]
@[simp] theorem loseRef_straps (r crf) (s : State) : (loseRef r crf s).straps = s.straps := by
  unfold loseRef; dsimp only; (repeat' split) <;> simp
@[simp] theorem switchTo_straps (et r fallBack) (s : State) : (switchTo et r fallBack s).straps = s.straps := by
  unfold switchTo
  rw [selectClears_straps, straps_ite, raiseAt_straps, ite_self]
@[simp] theorem wellCheck_straps (t et) (s : State) : (wellCheck t et s).straps = s.straps := by
  unfold wellCheck; dsimp only; (repeat' split) <;> simp
@[simp] theorem lockNow_straps (s : State) : (lockNow s).straps = s.straps := by simp [lockNow]
@[simp] theorem loopUpdate_straps (r err) (s : State) : (loopUpdate r err s).straps = s.straps := by simp [loopUpdate]
@[simp] theorem wellBlock_straps (s : State) : (wellBlock s).straps = s.straps := by
  unfold wellBlock; dsimp only; (repeat' split) <;> simp

/-! ### Faults that reset, SAFE and the frames of a start -/

@[simp] theorem applyLimits_straps (s : State) : (applyLimits s).straps = s.straps := by
  unfold applyLimits; split <;> simp
@[simp] theorem stopForSafe_straps (s : State) : (stopForSafe s).straps = s.straps := by simp [stopForSafe]
@[simp] theorem releaseStart_straps (s : State) : (releaseStart s).straps = s.straps := by simp [releaseStart]
@[simp] theorem safeState_straps (et cause code) (s : State) :
    (safeState et cause code s).straps = s.straps := by simp [safeState]
@[simp] theorem reschedule_straps (s : State) : (reschedule s).straps = s.straps := by simp [reschedule]
@[simp] theorem enterSafe_straps (et code) (s : State) :
    (enterSafe et code s).straps = s.straps := by simp [enterSafe]
@[simp] theorem readKeys_straps (s : State) : (readKeys s).straps = s.straps := by simp [readKeys]
@[simp] theorem safeAtStart_straps (cause code faults) (s : State) (h : ∀ s, (faults s).straps = s.straps) :
    (safeAtStart cause code faults s).straps = s.straps := by
  simp [safeAtStart, h]

/-! ### What a listener does with frames -/

@[simp] theorem noteSci_straps (f) (s : State) : (noteSci f s).straps = s.straps := by
  unfold noteSci; split <;> rfl
@[simp] theorem integrityFault_straps (f) (s : State) :
    (integrityFault f s).straps = s.straps := by simp [integrityFault]
@[simp] theorem verified_straps (f k) (s : State) (h : ∀ s, (k s).straps = s.straps) :
    (verified f k s).straps = s.straps := by
  unfold verified; split <;> simp [h]
@[simp] theorem hearLeader_straps (teaches n) (s : State) :
    (hearLeader teaches n s).straps = s.straps := by simp [hearLeader]
@[simp] theorem leaderAbsent_straps (n) (s : State) : (leaderAbsent n s).straps = s.straps := by simp [leaderAbsent]
@[simp] theorem countLost_straps (i n) (s : State) : (countLost i n s).straps = s.straps := by
  unfold countLost; split <;> simp
@[simp] theorem countDiscard_straps (s : State) : (countDiscard s).straps = s.straps := by simp [countDiscard]
@[simp] theorem withRx_straps (kind n) (s : State) : (withRx kind n s).1.straps = s.straps := by
  unfold withRx; split <;> rfl
@[simp] theorem endpointIn_straps (f work) (s : State) (h : ∀ s, (work s).straps = s.straps) :
    (endpointIn f work s).straps = s.straps := by
  simp [endpointIn, h]
theorem endpointIn_verified_straps (f k) (s : State) (h : ∀ s, (k s).straps = s.straps) :
    (endpointIn f (verified f k) s).straps = s.straps := by simp [h]

/-! ### The audio path of one block -/

@[simp] theorem setTdm_straps (p t) (s : State) : (setTdm p t s).straps = s.straps := by simp [setTdm]
@[simp] theorem tdmFault_straps (p cause) (s : State) : (tdmFault p cause s).straps = s.straps := by simp [tdmFault]
@[simp] theorem tdmSlip_straps (p r) (s : State) : (tdmSlip p r s).straps = s.straps := by simp [tdmSlip]
@[simp] theorem tdmInstant_straps (i) (s : State) (p) : (tdmInstant i s p).straps = s.straps := by simp [tdmInstant]
@[simp] theorem usbFault_straps (under overx thrown) (s : State) :
    (usbFault under overx thrown s).straps = s.straps := by simp [usbFault]
@[simp] theorem usbInstant_straps (s : State) : (usbInstant s).straps = s.straps := by
  unfold usbInstant; dsimp only; (repeat' split) <;> simp
@[simp] theorem stopPairs_straps (use) (s : State) : (stopPairs use s).straps = s.straps := by simp [stopPairs]
@[simp] theorem mediaInstant_straps (s : State) (i) : (mediaInstant s i).straps = s.straps := by simp [mediaInstant]
@[simp] theorem mediaTo_straps (m) (s : State) : (mediaTo m s).straps = s.straps := by
  simp [mediaTo, foldl_straps]
@[simp] theorem mediaNow_straps (s : State) : (mediaNow s).straps = s.straps := by simp [mediaNow]
@[simp] theorem concealFaults_straps (x old) (s : State) : (concealFaults x old s).straps = s.straps := by
  unfold concealFaults
  simp only []
  rw [foldl_straps, foldl_straps]
  all_goals intro s ch; split <;> simp
@[simp] theorem presentStream_straps (m) (s : State) (k) : (presentStream m s k).straps = s.straps := by
  unfold presentStream; split <;> simp
@[simp] theorem presentNow_straps (s : State) : (presentNow s).straps = s.straps := by
  simp [presentNow, foldl_straps]
@[simp] theorem admitNodes_straps (l) (s : State) : (admitNodes l s).straps = s.straps := by simp [admitNodes]

/-! ### Commands of the rate-conversion pairs, START and MUTE_N -/

@[simp] theorem withPair_straps (i f) (s : State) : (withPair i f s).straps = s.straps := by simp [withPair]
theorem execAsrcTrackingStart_keepsStraps (t i) (s : State) : KeepsStraps s (execAsrcTrackingStart t i s) := by
  unfold execAsrcTrackingStart; dsimp only; split <;> simp
theorem execAsrcLock_keepsStraps (t i) (s : State) : KeepsStraps s (execAsrcLock t i s) := by
  unfold execAsrcLock; dsimp only; split <;> simp
theorem execAsrcUnlock_keepsStraps (t i) (s : State) : KeepsStraps s (execAsrcUnlock t i s) := by
  unfold execAsrcUnlock; dsimp only; split <;> simp
theorem execAsrcLockTimeout_keepsStraps (i ratioOut) (s : State) :
    KeepsStraps s (execAsrcLockTimeout i ratioOut s) := by
  unfold execAsrcLockTimeout; split <;> simp
theorem execAsrcFixedRatioEntry_keepsStraps (t i k) (s : State) :
    KeepsStraps s (execAsrcFixedRatioEntry t i k s) := by
  unfold execAsrcFixedRatioEntry; dsimp only; (repeat' split) <;> simp
theorem execStartDetect_keepsStraps (t) (s : State) : KeepsStraps s (execStartDetect t s) := by simp [execStartDetect]
theorem execStartTimeout_keepsStraps (s : State) : KeepsStraps s (execStartTimeout s) := by
  unfold execStartTimeout; split <;> simp
theorem execMuteNChange_keepsStraps (t low) (s : State) :
    KeepsStraps s (execMuteNChange t low s) := by simp [execMuteNChange]

/-! ### Biphase frames -/

@[simp] theorem keepFrames_straps (s : State) : (keepFrames s).straps = s.straps := by simp [keepFrames]
@[simp] theorem biphaseErrors_straps (n pre par len) (s : State) :
    (biphaseErrors n pre par len s).straps = s.straps := by simp [biphaseErrors]
@[simp] theorem trackFrame_straps (n rate timed) (s : State) :
    (trackFrame n rate timed s).straps = s.straps := by simp [trackFrame]
@[simp] theorem followFrame_straps (n) (s : State) : (followFrame n s).straps = s.straps := by simp [followFrame]
@[simp] theorem releaseHeld_straps (n) (s : State) : (releaseHeld n s).straps = s.straps := by
  unfold releaseHeld; split <;> rfl

/-! ### Commands of the biphase inputs -/

@[simp] theorem nonAudioFault_straps (n burst) (s : State) :
    (nonAudioFault n burst s).straps = s.straps := by simp [nonAudioFault]
@[simp] theorem takeFrame_straps (n f) (s : State) : (takeFrame n f s).straps = s.straps := by simp [takeFrame]
theorem execBiphaseFrameReceive_keepsStraps (t n f) (s : State) :
    KeepsStraps s (execBiphaseFrameReceive t n f s) := by simp [execBiphaseFrameReceive]
theorem execBiphaseInputLoss_keepsStraps (t n rateOut) (s : State) :
    KeepsStraps s (execBiphaseInputLoss t n rateOut s) := by simp [execBiphaseInputLoss]

/-! ### The Granary image -/

@[simp] theorem missingProfile_straps (s : State) (k differs) (x) :
    (missingProfile s k differs x).straps = x.straps := by simp [missingProfile]
@[simp] theorem loadProfiles_straps (s : State) : (loadProfiles s).straps = s.straps := by simp [loadProfiles]
@[simp] theorem speakerFault_straps (s : State) : (speakerFault s).straps = s.straps := by simp [speakerFault]
@[simp] theorem loadModels_straps (s : State) : (loadModels s).straps = s.straps := by simp [loadModels]
@[simp] theorem checkModelRate_straps (s : State) : (checkModelRate s).straps = s.straps := by
  unfold checkModelRate; split <;> simp
@[simp] theorem loadClips_straps (s : State) : (loadClips s).straps = s.straps := by simp [loadClips]
@[simp] theorem setupContexts_straps (s : State) : (setupContexts s).straps = s.straps := by simp [setupContexts]
@[simp] theorem loadLoft_straps (s : State) : (loadLoft s).straps = s.straps := by
  unfold loadLoft; split <;> rfl
@[simp] theorem setupSilo_straps (s : State) : (setupSilo s).straps = s.straps := by simp [setupSilo]
@[simp] theorem writeBank_straps (k b) (s : State) : (writeBank k b s).straps = s.straps := by simp [writeBank]
@[simp] theorem writeEntry_straps (k) (s : State) : (writeEntry k s).straps = s.straps := by simp [writeEntry]

/-! ### The Silo and flash buses -/

@[simp] theorem requestTags_straps (l) (s : State) : (requestTags l s).straps = s.straps := by simp [requestTags]
@[simp] theorem completeBus_straps (silo) (s : State) :
    (completeBus silo s).straps = s.straps := by simp [completeBus]
@[simp] theorem askBus_straps (l) (s : State) : (askBus l s).straps = s.straps := by simp [askBus]
@[simp] theorem siloWrite_straps (cls owner addr len) (s : State) :
    (siloWrite cls owner addr len s).straps = s.straps := by simp [siloWrite]

/-! ### The power path and the charger -/

@[simp] theorem podlYield_straps (s : State) : (podlYield s).straps = s.straps := by simp [podlYield]
@[simp] theorem podlLatch_straps (s : State) : (podlLatch s).straps = s.straps := by simp [podlLatch]
@[simp] theorem setSwitch_straps (s : State) : (setSwitch s).straps = s.straps := by simp [setSwitch]
@[simp] theorem suspendBy_straps (code cause) (s : State) :
    (suspendBy code cause s).straps = s.straps := by simp [suspendBy]
@[simp] theorem unsuspend_straps (code cause) (s : State) :
    (unsuspend code cause s).straps = s.straps := by simp [unsuspend]
@[simp] theorem chargeTick_straps (s : State) : (chargeTick s).straps = s.straps := by simp [chargeTick]
@[simp] theorem cutoffClear_straps (s : State) : (cutoffClear s).straps = s.straps := by simp [cutoffClear]
@[simp] theorem chargerUpdate_straps (s : State) : (chargerUpdate s).straps = s.straps := by
  have h : (chargeTick (cutoffClear s)).straps = s.straps := by simp
  unfold chargerUpdate
  generalize chargeTick (cutoffClear s) = u at h ⊢
  rw [← h]
  dsimp only; (repeat' split) <;> simp
@[simp] theorem packHeat_straps (cause) (s : State) : (packHeat cause s).straps = s.straps := by simp [packHeat]
@[simp] theorem setSoc_straps (percent) (s : State) : (setSoc percent s).straps = s.straps := by simp [setSoc]
@[simp] theorem countSoc_straps (ma) (s : State) : (countSoc ma s).straps = s.straps := by
  unfold countSoc; split <;> rfl
@[simp] theorem powerBoundary_straps (et) (s : State) :
    (powerBoundary et s).straps = s.straps := by simp [powerBoundary]

/-! ### The loudspeaker stages -/

@[simp] theorem mapSpk_straps (k f) (s : State) : (mapSpk k f s).straps = s.straps := by simp [mapSpk]
@[simp] theorem driveStage_straps (s : State) (k) : (driveStage s k).straps = s.straps := by simp [driveStage]
@[simp] theorem gainBoundary_straps (s : State) (k) : (gainBoundary s k).straps = s.straps := by
  unfold gainBoundary; dsimp only; (repeat' split) <;> simp
@[simp] theorem speakersEnd_straps (x0 x1) (s : State) :
    (speakersEnd x0 x1 s).straps = s.straps := by simp [speakersEnd]
@[simp] theorem speakersBegin_straps (pvdd) (s : State) :
    (speakersBegin pvdd s).straps = s.straps := by simp [speakersBegin]
@[simp] theorem plantJob_straps (s : State) : (plantJob s).straps = s.straps := by simp [plantJob]

/-! ### Thresher's job windows -/

@[simp] theorem setCtx_straps (k c) (s : State) : (setCtx k c s).straps = s.straps := by simp [setCtx]
@[simp] theorem mapCtx_straps (k f) (s : State) : (mapCtx k f s).straps = s.straps := by simp [mapCtx]
@[simp] theorem refreshOutstanding_straps (s : State) :
    (refreshOutstanding s).straps = s.straps := by simp [refreshOutstanding]
@[simp] theorem keepInputs_straps (s : State) : (keepInputs s).straps = s.straps := by simp [keepInputs]
@[simp] theorem plantWindow_straps (s : State) : (plantWindow s).straps = s.straps := by simp [plantWindow]
@[simp] theorem contextWindow_straps (s : State) : (contextWindow s).straps = s.straps := by simp [contextWindow]
@[simp] theorem sendBank_straps (k b) (s : State) : (sendBank k b s).straps = s.straps := by simp [sendBank]
@[simp] theorem commitState_straps (k block b) (s : State) :
    (commitState k block b s).straps = s.straps := by simp [commitState]
@[simp] theorem withdrawLane_straps (cause) (s : State) :
    (withdrawLane cause s).straps = s.straps := by simp [withdrawLane]
@[simp] theorem settleRecompute_straps (d j outs) (s : State) :
    (settleRecompute d j outs s).straps = s.straps := by simp [settleRecompute]
@[simp] theorem setJob_straps (j) (s : State) : (setJob j s).straps = s.straps := by simp [setJob]
@[simp] theorem finishJob_straps (j h0) (s : State) : (finishJob j h0 s).straps = s.straps := by
  unfold finishJob; dsimp only; (repeat' split) <;> simp
@[simp] theorem missFault_straps (ctx ahead) (s : State) :
    (missFault ctx ahead s).straps = s.straps := by simp [missFault]
@[simp] theorem missJob_straps (s : State) (j) : (missJob s j).straps = s.straps := by
  unfold missJob; dsimp only; (repeat' split) <;> simp
@[simp] theorem endWindow_straps (s : State) : (endWindow s).straps = s.straps := by simp [endWindow]
@[simp] theorem promote_straps (k point) (s : State) : (promote k point s).straps = s.straps := by simp [promote]
@[simp] theorem driveLane_straps (o) (s : State) : (driveLane o s).straps = s.straps := by simp [driveLane]
@[simp] theorem showOut_straps (k o) (s : State) : (showOut k o s).straps = s.straps := by simp [showOut]
@[simp] theorem showNext_straps (s : State) : (showNext s).straps = s.straps :=
  foldl_straps _ (fun s k => by dsimp only; split <;> simp) _ s
@[simp] theorem dropOuts_straps (s : State) : (dropOuts s).straps = s.straps := by simp [dropOuts]
@[simp] theorem replayJob_straps (s : State) (j) : (replayJob s j).straps = s.straps := by
  unfold replayJob; dsimp only; (repeat' split) <;> simp
@[simp] theorem replayAll_straps (s : State) : (replayAll s).straps = s.straps :=
  foldl_straps _ (fun s c => by simp) _ s
@[simp] theorem columnsSpent_straps (n) (s : State) : (columnsSpent n s).straps = s.straps := by simp [columnsSpent]
@[simp] theorem retireAtStart_straps (s : State) (c) :
    (retireAtStart s c).straps = s.straps := by simp [retireAtStart]
@[simp] theorem retireInService_straps (s : State) (c) :
    (retireInService s c).straps = s.straps := by simp [retireInService]

/-! ### The clip player -/

@[simp] theorem clipMix_straps (s : State) : (clipMix s).straps = s.straps := by simp [clipMix]
@[simp] theorem settleCue_straps (c) (s : State) : (settleCue c s).straps = s.straps := by
  unfold settleCue; dsimp only; (repeat' split) <;> simp
@[simp] theorem clipBoundary_straps (cue) (s : State) :
    (clipBoundary cue s).straps = s.straps := by simp [clipBoundary]
@[simp] theorem clipStart_straps (s : State) : (clipStart s).straps = s.straps := by simp [clipStart]

/-! ### Commands of the TDM followers and the microphone gate -/

@[simp] theorem loseTdm_straps (p cause) (s : State) : (loseTdm p cause s).straps = s.straps := by simp [loseTdm]
@[simp] theorem badFrame_straps (p cause) (s : State) : (badFrame p cause s).straps = s.straps := by simp [badFrame]
@[simp] theorem goodFrame_straps (p data) (s : State) : (goodFrame p data s).straps = s.straps := by simp [goodFrame]
@[simp] theorem frameStart_straps (p) (s : State) : (frameStart p s).straps = s.straps := by simp [frameStart]
@[simp] theorem judgeFrame_straps (p c fs data) (s : State) :
    (judgeFrame p c fs data s).straps = s.straps := by simp [judgeFrame]
theorem execTdmFrameJudged_keepsStraps (t p c fs data) (s : State) :
    KeepsStraps s (execTdmFrameJudged t p c fs data s) := by simp [execTdmFrameJudged]
theorem execTdmFrameTimerExpiry_keepsStraps (p) (s : State) : KeepsStraps s (execTdmFrameTimerExpiry p s) := by
  unfold execTdmFrameTimerExpiry; split <;> simp
theorem execTdmRateWindow_keepsStraps (t p) (s : State) :
    KeepsStraps s (execTdmRateWindow t p s) := by simp [execTdmRateWindow]
theorem execTdmQualifyDeadline_keepsStraps (p) (s : State) : KeepsStraps s (execTdmQualifyDeadline p s) := by
  unfold execTdmQualifyDeadline; split <;> simp
@[simp] theorem pdmClocks_straps (s : State) : (pdmClocks s).straps = s.straps := by simp [pdmClocks]
@[simp] theorem closeGate_straps (s : State) : (closeGate s).straps = s.straps := by simp [closeGate]
theorem execMicEnFall_keepsStraps (t lowNs) (s : State) : KeepsStraps s (execMicEnFall t lowNs s) := by
  unfold execMicEnFall; split <;> simp
theorem execMicEnOpen_keepsStraps (since) (s : State) :
    KeepsStraps s (execMicEnOpen since s) := by simp [execMicEnOpen]
theorem execPdmSettleExpiry_keepsStraps (line) (s : State) : KeepsStraps s (execPdmSettleExpiry line s) := by
  unfold execPdmSettleExpiry; split <;> rfl

/-! ### The motor bridge -/

@[simp] theorem mapMotor_straps (f) (s : State) : (mapMotor f s).straps = s.straps := by simp [mapMotor]
@[simp] theorem setDriven_straps (s : State) : (setDriven s).straps = s.straps := by simp [setDriven]
@[simp] theorem motorBoundary_straps (s : State) : (motorBoundary s).straps = s.straps := by simp [motorBoundary]

/-! ### The streams a device talks -/

@[simp] theorem setTx_straps (k x) (s : State) : (setTx k x s).straps = s.straps := by simp [setTx]
@[simp] theorem sendAaf_straps (k) (s : State) : (sendAaf k s).straps = s.straps := by simp [sendAaf]
@[simp] theorem sendCrf_straps (s : State) : (sendCrf s).straps = s.straps := by simp [sendCrf]
@[simp] theorem flushTalkers_straps (s : State) : (flushTalkers s).straps = s.straps := by
  simp [flushTalkers, iter_straps]

/-! ### The conditions of SLUMBER -/

@[simp] theorem breakSlumber_straps (s : State) : (breakSlumber s).straps = s.straps := by simp [breakSlumber]
@[simp] theorem noteSlumber_straps (s : State) : (noteSlumber s).straps = s.straps := by simp [noteSlumber]

/-! ### The two devices of a pair -/

@[simp] theorem tiePut_straps (f) (s : State) : (tiePut f s).straps = s.straps := by simp [tiePut]
@[simp] theorem sendPartner_straps (pcp f) (s : State) : (sendPartner pcp f s).straps = s.straps := by
  unfold sendPartner; split <;> simp
@[simp] theorem ask_straps (code arg) (s : State) : (ask code arg s).straps = s.straps := by simp [ask]
@[simp] theorem startResync_straps (s : State) : (startResync s).straps = s.straps := by simp [startResync]
@[simp] theorem checkProfile_straps (s : State) : (checkProfile s).straps = s.straps := by
  unfold checkProfile; split <;> simp
@[simp] theorem contactWork_straps (s : State) : (contactWork s).straps = s.straps := by simp [contactWork]
@[simp] theorem makeContact_straps (s : State) : (makeContact s).straps = s.straps := by simp [makeContact]
@[simp] theorem loseContact_straps (s : State) : (loseContact s).straps = s.straps := by simp [loseContact]
@[simp] theorem learnYield_straps (flags) (s : State) : (learnYield flags s).straps = s.straps := by
  unfold learnYield; split <;> simp
@[simp] theorem pairHeard_straps (h) (s : State) : (pairHeard h s).straps = s.straps := by
  unfold pairHeard; dsimp only; (repeat' split) <;> simp
@[simp] theorem receivePair_straps (x kind k) (s : State) (h : ∀ i s, (k i s).straps = s.straps) :
    (receivePair x kind k s).straps = s.straps := by
  unfold receivePair
  extract_lets go
  have hgo (b s) : (go b s).straps = s.straps := by
    simp only [go]; split <;> simp [h]
  clear_value go
  split
  · simp [hgo]
  · split <;> simp [hgo]
@[simp] theorem backFrom_straps (now after : State) : (backFrom now after).straps = now.straps := keeps rfl
@[simp] theorem followConceal_straps (b c) (s : State) :
    (followConceal b c s).straps = s.straps := by simp [followConceal]
@[simp] theorem leaveStep_straps (cause step) (s : State) :
    (leaveStep cause step s).straps = s.straps := by simp [leaveStep]
@[simp] theorem admitLike_straps (b) (s : State) : (admitLike b s).straps = s.straps := by simp [admitLike]
@[simp] theorem runClosed_straps (b c) (s : State) : (runClosed b c s).straps = s.straps := by simp [runClosed]
@[simp] theorem joinClosed_straps (b c) (s : State) : (joinClosed b c s).straps = s.straps := by simp [joinClosed]
@[simp] theorem flushOwn_straps (s : State) : (flushOwn s).straps = s.straps :=
  foldl_straps _ (fun s c => by simp) _ s
@[simp] theorem restoreCkpt_straps (b) (s : State) : (restoreCkpt b s).straps = s.straps := by simp [restoreCkpt]
@[simp] theorem setNumbers_straps (n) (s : State) : (setNumbers n s).straps = s.straps := by simp [setNumbers]

/-! ### The rings of the flash -/

@[simp] theorem ringProgram_straps (r m k body failed) (s : State) :
    (ringProgram r m k body failed s).straps = s.straps := by
  unfold ringProgram; split <;> rfl
@[simp] theorem scanLog_straps (s : State) : (scanLog s).straps = s.straps := by simp [scanLog]

/-! ### The records of the rings and the key slots -/

@[simp] theorem ringAttempt_straps (r body next failed) (s : State) :
    (ringAttempt r body next failed s).2.straps = s.straps := by
  unfold ringAttempt; dsimp only; split <;> simp
@[simp] theorem ringWrite_straps (r body next fails) (s : State) :
    (ringWrite r body next fails s).2.2.straps = s.straps := by
  unfold ringWrite; split <;> simp
@[simp] theorem scanReservations_straps (s : State) :
    (scanReservations s).straps = s.straps := by simp [scanReservations]
@[simp] theorem partnerProfile_straps (s : State) : (partnerProfile s).straps = s.straps := by
  unfold partnerProfile; split <;> simp
@[simp] theorem scanPairs_straps (s : State) : (scanPairs s).straps = s.straps := by
  unfold scanPairs; dsimp only; (repeat' split) <;> simp
@[simp] theorem writePair_straps (eui n profile fails) (s : State) :
    (writePair eui n profile fails s).straps = s.straps := by simp [writePair]
@[simp] theorem scanService_straps (s : State) : (scanService s).straps = s.straps := by simp [scanService]
@[simp] theorem writeService_straps (kind slot fails) (s : State) :
    (writeService kind slot fails s).straps = s.straps := by simp [writeService]
@[simp] theorem pairingFault_straps (cause node) (s : State) :
    (pairingFault cause node s).straps = s.straps := by simp [pairingFault]
@[simp] theorem programOnce_straps (d spoil node) (s : State) : (programOnce d spoil node s).2.straps = s.straps := by
  unfold programOnce; dsimp only; (repeat' split) <;> simp
@[simp] theorem programKey_straps (d spoil node) (s : State) : (programKey d spoil node s).2.straps = s.straps := by
  unfold programKey; dsimp only; (repeat' split) <;> simp
@[simp] theorem slotsUsed_straps (s : State) : (slotsUsed s).straps = s.straps := by simp [slotsUsed]
@[simp] theorem keylessFault_straps (cause) (s : State) :
    (keylessFault cause s).straps = s.straps := by simp [keylessFault]
@[simp] theorem retireSlot_straps (i) (s : State) : (retireSlot i s).straps = s.straps := by
  unfold retireSlot; dsimp only; (repeat' split) <;> simp
@[simp] theorem keyAtBoundary_straps (s : State) : (keyAtBoundary s).straps = s.straps := by
  unfold keyAtBoundary; dsimp only; (repeat' split) <;> simp
@[simp] theorem commitReservation_straps (ann fails) (s : State) :
    (commitReservation ann fails s).straps = s.straps := by
  unfold commitReservation; dsimp only; (repeat' split) <;> simp
@[simp] theorem rewriteReservation_straps (s : State) (x) : (rewriteReservation s x).straps = s.straps := by
  unfold rewriteReservation; split <;> simp
@[simp] theorem rewriteRecords_straps (s : State) : (rewriteRecords s).straps = s.straps := by
  unfold rewriteRecords; dsimp only; (repeat' split) <;> simp

/-! ### The USB function -/

@[simp] theorem usbAttach_straps (s : State) : (usbAttach s).straps = s.straps := by simp [usbAttach]
@[simp] theorem usbStall_straps (s : State) : (usbStall s).straps = s.straps := by simp [usbStall]
@[simp] theorem usbAccept_straps (bmType bRequest e) (s : State) :
    (usbAccept bmType bRequest e s).straps = s.straps := by simp [usbAccept]
@[simp] theorem usbAnswer_straps (bmType bRequest length b) (s : State) :
    (usbAnswer bmType bRequest length b s).straps = s.straps := by simp [usbAnswer]
@[simp] theorem usbRequest_straps (t k) (s : State) (h : ∀ s, (k s).straps = s.straps) :
    (usbRequest t k s).straps = s.straps := by
  simp [usbRequest, h]
@[simp] theorem setConfiguration_straps (value) (s : State) :
    (setConfiguration value s).straps = s.straps := by simp [setConfiguration]
@[simp] theorem setInterface_straps (itf alt) (s : State) :
    (setInterface itf alt s).straps = s.straps := by simp [setInterface]
@[simp] theorem setTestMode_straps (index) (s : State) :
    (setTestMode index s).straps = s.straps := by simp [setTestMode]
@[simp] theorem standardRequest_straps (p) (s : State) : (standardRequest p s).straps = s.straps := by
  unfold standardRequest; dsimp only; (repeat' split) <;> simp

/-! ### One block of the data path -/

@[simp] theorem finishOutputs_straps (g1) (s : State) :
    (finishOutputs g1 s).straps = s.straps := by simp [finishOutputs]
@[simp] theorem closeStep_straps (g1) (s : State) : (closeStep g1 s).straps = s.straps := by simp [closeStep]
@[simp] theorem keepClosed_straps (g1) (s : State) : (keepClosed g1 s).straps = s.straps := by simp [keepClosed]
@[simp] theorem pairEnd_straps (g1) (s : State) : (pairEnd g1 s).straps = s.straps := by simp [pairEnd]
@[simp] theorem dropBlock_straps (n) (s : State) : (dropBlock n s).straps = s.straps := by simp [dropBlock]
@[simp] theorem endLines_straps (s : State) : (endLines s).straps = s.straps := by simp [endLines]
@[simp] theorem endBlock_straps (x) (s : State) : (endBlock x s).straps = s.straps := by simp [endBlock]
@[simp] theorem placeBlock_straps (s : State) : (placeBlock s).straps = s.straps := by simp [placeBlock]
@[simp] theorem startPath_straps (nums) (s : State) : (startPath nums s).straps = s.straps := by
  unfold startPath; dsimp only; (repeat' split) <;> simp
@[simp] theorem bpoBoundary_straps (s : State) : (bpoBoundary s).straps = s.straps := by simp [bpoBoundary]
@[simp] theorem micBoundary_straps (x) (s : State) : (micBoundary x s).straps = s.straps := by simp [micBoundary]
@[simp] theorem tdmBoundary_straps (x) (s : State) : (tdmBoundary x s).straps = s.straps := by simp [tdmBoundary]
@[simp] theorem talkersBegin_straps (s : State) : (talkersBegin s).straps = s.straps := by
  unfold talkersBegin
  cases s.streams.nextAdmitted <;> simp
@[simp] theorem startBoundary_straps (prior) (s : State) :
    (startBoundary prior s).straps = s.straps := by simp [startBoundary]
@[simp] theorem beginBlock_straps (x prior) (s : State) :
    (beginBlock x prior s).straps = s.straps := by simp [beginBlock]

/-! ### Commands of gPTP and device time -/

@[simp] theorem gptpIn_straps (i work) (s : State) (h : ∀ s, (work s).straps = s.straps) :
    (gptpIn i work s).straps = s.straps := by
  simp [gptpIn, crossIn_straps, h]
@[simp] theorem loseSync_straps (s : State) : (loseSync s).straps = s.straps := by simp [loseSync]
@[simp] theorem countSync_straps (left) (s : State) : (countSync left s).straps = s.straps := by simp [countSync]
@[simp] theorem setTime_straps (x) (s : State) : (setTime x s).straps = s.straps := by simp [setTime]
@[simp] theorem takeSync_straps (gm) (s : State) : (takeSync gm s).straps = s.straps := by simp [takeSync]
theorem execSyncReceive_keepsStraps (t i gm) (s : State) :
    KeepsStraps s (execSyncReceive t i gm s) := by simp [execSyncReceive]
theorem execSyncSend_keepsStraps (i) (s : State) : KeepsStraps s (execSyncSend i s) := by
  unfold execSyncSend; split <;> simp
theorem execAnnounceReceive_keepsStraps (t i v) (s : State) :
    KeepsStraps s (execAnnounceReceive t i v s) := by simp [execAnnounceReceive]
theorem execAnnounceSend_keepsStraps (i) (s : State) : KeepsStraps s (execAnnounceSend i s) := by
  unfold execAnnounceSend; split <;> simp
@[simp] theorem forgetMaster_straps (i) (s : State) : (forgetMaster i s).straps = s.straps := by simp [forgetMaster]
theorem execAnnounceReceiptTimeout_keepsStraps (i) (s : State) : KeepsStraps s (execAnnounceReceiptTimeout i s) := by
  unfold execAnnounceReceiptTimeout; split <;> simp
theorem execSyncReceiptTimeout_keepsStraps (s : State) : KeepsStraps s (execSyncReceiptTimeout s) := by
  unfold execSyncReceiptTimeout; split <;> simp
theorem execPdelayRequestSend_keepsStraps (i) (s : State) : KeepsStraps s (execPdelayRequestSend i s) := by
  unfold execPdelayRequestSend; split <;> simp
theorem execPdelayResponseReceive_keepsStraps (t i seq rx tx) (s : State) :
    KeepsStraps s (execPdelayResponseReceive t i seq rx tx s) := by
  unfold execPdelayResponseReceive; dsimp only; split <;> simp
theorem execPdelayRequestReceive_keepsStraps (t i seq) (s : State) :
    KeepsStraps s (execPdelayRequestReceive t i seq s) := by simp [execPdelayRequestReceive]
theorem execPriorityHoldExpiry_keepsStraps (s : State) : KeepsStraps s (execPriorityHoldExpiry s) := by
  unfold execPriorityHoldExpiry; split <;> simp
theorem execGptpSyncHoldExpiry_keepsStraps (s : State) : KeepsStraps s (execGptpSyncHoldExpiry s) := by
  unfold execGptpSyncHoldExpiry; split <;> simp

/-! ### Flash operations and the DMA engine -/

@[simp] theorem flashFault_straps (cause addr) (s : State) :
    (flashFault cause addr s).straps = s.straps := by simp [flashFault]
@[simp] theorem failWrite_straps (s : State) : (failWrite s).straps = s.straps := by
  unfold failWrite; split <;> rfl
@[simp] theorem loseFlash_straps (cause addr) (s : State) :
    (loseFlash cause addr s).straps = s.straps := by simp [loseFlash]
@[simp] theorem issueOp_straps (s : State) : (issueOp s).straps = s.straps := by
  unfold issueOp; dsimp only; (repeat' split) <;> simp
@[simp] theorem applyOp_straps (o) (s : State) : (applyOp o s).straps = s.straps := by simp [applyOp]
@[simp] theorem spoilOp_straps (o) (s : State) : (spoilOp o s).straps = s.straps := by simp [spoilOp]
@[simp] theorem opFault_straps (erase c addr) (s : State) :
    (opFault erase c addr s).straps = s.straps := by simp [opFault]
@[simp] theorem opGood_straps (s : State) : (opGood s).straps = s.straps := by simp [opGood]
@[simp] theorem dmaWrite_straps (v) (s : State) (a) : (dmaWrite v s a).straps = s.straps := by
  unfold dmaWrite; split <;> rfl
@[simp] theorem dmaMove_straps (r) (s : State) : (dmaMove r s).straps = s.straps :=
  foldl_straps _ (fun s p => by split <;> simp) _ s
@[simp] theorem dmaSetup_straps (s : State) : (dmaSetup s).straps = s.straps := by simp [dmaSetup]

/-! ### Commands of the end of a start -/

@[simp] theorem startTimers_straps (et) (s : State) : (startTimers et s).straps = s.straps := by simp [startTimers]
@[simp] theorem keyAtRun_straps (s : State) : (keyAtRun s).straps = s.straps := by simp [keyAtRun]
theorem execRunningEntry_keepsStraps (t) (s : State) :
    KeepsStraps s (execRunningEntry t s) := by simp [execRunningEntry]

/-! ### Commands of the pair -/

@[simp] theorem fillSlot_straps (used n) (s : State) : (fillSlot used n s).straps = s.straps := by
  induction n generalizing used s with
  | zero => rfl
  | succ n ih =>
    unfold fillSlot
    split
    · simp [ih]
    · split <;> simp [ih]
theorem execTieSlotStart_keepsStraps (t) (s : State) :
    KeepsStraps s (execTieSlotStart t s) := by simp [execTieSlotStart]
@[simp] theorem tieReply_straps (frame) (s : State) : (tieReply frame s).straps = s.straps := by simp [tieReply]
theorem execTieHeartbeat_keepsStraps (t x) (s : State) : KeepsStraps s (execTieHeartbeat t x s) := by
  unfold execTieHeartbeat
  extract_lets work
  have hw (h s) : (work h s).straps = s.straps := by
    simp only [work, straps_ite]
    split
    · split <;> simp
    · simp
  clear_value work
  simp [hw]
@[simp] theorem partnerWindow_straps (info c) (s : State) :
    (partnerWindow info c s).straps = s.straps := by simp [partnerWindow]
@[simp] theorem recordStep_straps (info c) (s : State) :
    (recordStep info c s).straps = s.straps := by simp [recordStep]
@[simp] theorem takeStep_straps (info c) (s : State) : (takeStep info c s).straps = s.straps := by simp [takeStep]
@[simp] theorem takeHeld_straps (s : State) : (takeHeld s).straps = s.straps := by
  unfold takeHeld
  split
  · rfl
  · split
    · split <;> simp
    · rfl
theorem execTieBlock_keepsStraps (t b) (s : State) : KeepsStraps s (execTieBlock t b s) := by simp [execTieBlock]
theorem execBlockFrameTimeout_keepsStraps (s : State) : KeepsStraps s (execBlockFrameTimeout s) := by
  unfold execBlockFrameTimeout; split <;> simp
theorem execTieDown_keepsStraps (s : State) : KeepsStraps s (execTieDown s) := by simp [execTieDown]
theorem execTieCollision_keepsStraps (t) (s : State) : KeepsStraps s (execTieCollision t s) := by
  unfold execTieCollision; dsimp only; split <;> simp
theorem execTieCheckpointChunk_keepsStraps (t x) (s : State) :
    KeepsStraps s (execTieCheckpointChunk t x s) := by simp [execTieCheckpointChunk]
theorem execResyncRequest_keepsStraps (t x) (s : State) :
    KeepsStraps s (execResyncRequest t x s) := by simp [execResyncRequest]
@[simp] theorem takeCheckpoint_straps (s : State) : (takeCheckpoint s).straps = s.straps := by simp [takeCheckpoint]
theorem execCheckpointTake_keepsStraps (t) (s : State) :
    KeepsStraps s (execCheckpointTake t s) := by simp [execCheckpointTake]
theorem execCheckpointComplete_keepsStraps (t) (s : State) :
    KeepsStraps s (execCheckpointComplete t s) := by simp [execCheckpointComplete]
theorem execResyncReplayComplete_keepsStraps (t) (s : State) :
    KeepsStraps s (execResyncReplayComplete t s) := by simp [execResyncReplayComplete]
theorem execResyncTimeout_keepsStraps (s : State) : KeepsStraps s (execResyncTimeout s) := by
  unfold execResyncTimeout; split <;> simp
theorem execCheckpointStaleTimeout_keepsStraps (s : State) :
    KeepsStraps s (execCheckpointStaleTimeout s) := by simp [execCheckpointStaleTimeout]
theorem execPartnerHeartbeatSend_keepsStraps (s : State) :
    KeepsStraps s (execPartnerHeartbeatSend s) := by simp [execPartnerHeartbeatSend]
theorem execPartnerContactTimeout_keepsStraps (s : State) :
    KeepsStraps s (execPartnerContactTimeout s) := by simp [execPartnerContactTimeout]
theorem execPartnerContactDeadline_keepsStraps (s : State) : KeepsStraps s (execPartnerContactDeadline s) := by
  unfold execPartnerContactDeadline; split <;> simp
theorem execLeaderLost_keepsStraps (s : State) : KeepsStraps s (execLeaderLost s) := by
  unfold execLeaderLost; split <;> simp
theorem execCheckpointRestoreComplete_keepsStraps (t) (s : State) :
    KeepsStraps s (execCheckpointRestoreComplete t s) := by
  unfold execCheckpointRestoreComplete; dsimp only; (repeat' split) <;> simp
@[simp] theorem requestTakeBack_straps (s : State) :
    (requestTakeBack s).straps = s.straps := by simp [requestTakeBack]
theorem execTakeBackEligible_keepsStraps (s : State) : KeepsStraps s (execTakeBackEligible s) := by
  unfold execTakeBackEligible; split <;> simp
theorem execTakeBackRequest_keepsStraps (t x) (s : State) :
    KeepsStraps s (execTakeBackRequest t x s) := by simp [execTakeBackRequest]
theorem execTakeBackAccepted_keepsStraps (t x) (s : State) : KeepsStraps s (execTakeBackAccepted t x s) := by
  unfold execTakeBackAccepted
  extract_lets work
  have hw (h s) : (work h s).straps = s.straps := by
    simp only [work]; split <;> simp
  clear_value work
  simp [hw]
theorem execTakeBackCommit_keepsStraps (t x) (s : State) :
    KeepsStraps s (execTakeBackCommit t x s) := by simp [execTakeBackCommit]
theorem execTakeBackRetry_keepsStraps (s : State) : KeepsStraps s (execTakeBackRetry s) := by
  unfold execTakeBackRetry; split <;> simp
theorem execTakeBackRelease_keepsStraps (s : State) : KeepsStraps s (execTakeBackRelease s) := by
  unfold execTakeBackRelease; split <;> simp
theorem execSlumberProposal_keepsStraps (t x) (s : State) :
    KeepsStraps s (execSlumberProposal t x s) := by simp [execSlumberProposal]
theorem execSlumberAnswer_keepsStraps (t x) (s : State) :
    KeepsStraps s (execSlumberAnswer t x s) := by simp [execSlumberAnswer]

/-! ### Row repair and aging -/

@[simp] theorem idleContexts_straps (bank row) (s : State) :
    (idleContexts bank row s).straps = s.straps := by simp [idleContexts]
@[simp] theorem decideRemap_straps (loft bank row) (s : State) :
    (decideRemap loft bank row s).straps = s.straps := by simp [decideRemap]
@[simp] theorem countCorrected_straps (loft bank row) (s : State) :
    (countCorrected loft bank row s).straps = s.straps := by
  unfold countCorrected; dsimp only; (repeat' split) <;> simp
@[simp] theorem loseSample_straps (s : State) (a) : (loseSample s a).straps = s.straps := by
  unfold loseSample; split <;> rfl
@[simp] theorem loseClip_straps (s : State) (x) : (loseClip s x).straps = s.straps := by simp [loseClip]
@[simp] theorem rowContent_straps (r) (s : State) : (rowContent r s).straps = s.straps := by
  unfold rowContent; dsimp only; (repeat' split) <;> simp
@[simp] theorem switchRow_straps (et) (s : State) (r) : (switchRow et s r).straps = s.straps := by simp [switchRow]
@[simp] theorem switchRows_straps (t et) (s : State) : (switchRows t et s).straps = s.straps :=
  foldl_straps _ (fun s c => by simp) _ s
@[simp] theorem closeDay_straps (s : State) : (closeDay s).straps = s.straps := by simp [closeDay]
@[simp] theorem refit_straps (s : State) : (refit s).straps = s.straps := by simp [refit]

/-! ### Verification, slot writes and fetching -/

@[simp] theorem setSlot_straps (b i) (s : State) : (setSlot b i s).straps = s.straps := by simp [setSlot]
@[simp] theorem recordSigner_straps (h spoil) (s : State) :
    (recordSigner h spoil s).straps = s.straps := by simp [recordSigner]
@[simp] theorem signerFault_straps (b occasion h) (s : State) :
    (signerFault b occasion h s).straps = s.straps := by simp [signerFault]
@[simp] theorem slotFault_straps (b i) (s : State) : (slotFault b i s).straps = s.straps := by simp [slotFault]
@[simp] theorem noImageFault_straps (s : State) : (noImageFault s).straps = s.straps := by simp [noImageFault]
@[simp] theorem verifySlot_straps (spoil) (s : State) (b) :
    (verifySlot spoil s b).straps = s.straps := by simp [verifySlot]
@[simp] theorem verifyBoth_straps (spoil) (s : State) : (verifyBoth spoil s).straps = s.straps := by
  unfold verifyBoth; dsimp only; (repeat' split) <;> simp
@[simp] theorem sendImage_straps (body) (s : State) : (sendImage body s).straps = s.straps := by
  unfold sendImage; split <;> simp
@[simp] theorem sendRequest_straps (w) (s : State) (r) :
    (sendRequest w s r).straps = s.straps := by simp [sendRequest]
@[simp] theorem requestMissing_straps (s : State) : (requestMissing s).straps = s.straps := by
  unfold requestMissing; split <;> simp
@[simp] theorem openRange_straps (s : State) : (openRange s).straps = s.straps := by
  unfold openRange; split <;> simp
@[simp] theorem beginWrite_straps (w) (s : State) : (beginWrite w s).straps = s.straps := by simp [beginWrite]
@[simp] theorem advanceWrite_straps (s : State) : (advanceWrite s).straps = s.straps := by
  unfold advanceWrite; split <;> simp
@[simp] theorem checkFault_straps (w i) (s : State) : (checkFault w i s).straps = s.straps := by simp [checkFault]
@[simp] theorem healedClears_straps (s : State) : (healedClears s).straps = s.straps :=
  foldl_straps _ (fun s c => by simp) _ s
@[simp] theorem completeWrite_straps (w i fails) (s : State) :
    (completeWrite w i fails s).straps = s.straps := by simp [completeWrite]
@[simp] theorem resetSilo_straps (change) (s : State) (h : ∀ s, (change s).straps = s.straps) :
    (resetSilo change s).straps = s.straps := by
  simp [resetSilo, h]
@[simp] theorem slotLoad_straps (s : State) : (slotLoad s).straps = s.straps := by simp [slotLoad]

/-! ### What is applied at a block boundary -/

@[simp] theorem enterRole_straps (m code) (s : State) : (enterRole m code s).straps = s.straps := by simp [enterRole]
@[simp] theorem takeNet_straps (s : State) : (takeNet s).straps = s.straps := by simp [takeNet]
@[simp] theorem takeover_straps (s : State) : (takeover s).straps = s.straps := by
  unfold takeover
  extract_lets et kind own nums s₁ s₂ s₃ s₄
  have h₂ : s₂.straps = s.straps := by simp [s₁, s₂]
  have h₃ : s₃.straps = s₂.straps := by simp only [s₃]; split <;> simp
  have h₄ : s₄.straps = s₃.straps := by simp [s₄]
  rw [takeNet_straps]
  exact h₄.trans (h₃.trans h₂)
@[simp] theorem leaveLead_straps (s : State) : (leaveLead s).straps = s.straps := by simp [leaveLead]
@[simp] theorem yieldRole_straps (leader) (s : State) : (yieldRole leader s).straps = s.straps := by simp [yieldRole]
@[simp] theorem takeBack_straps (b) (s : State) : (takeBack b s).straps = s.straps := by
  unfold takeBack; dsimp only; (repeat' split) <;> simp
@[simp] theorem giveBack_straps (s : State) : (giveBack s).straps = s.straps := by simp [giveBack]
@[simp] theorem takeBackStep_straps (s : State) : (takeBackStep s).straps = s.straps := by
  unfold takeBackStep; split <;> simp
@[simp] theorem comeInStep_straps (s : State) : (comeInStep s).straps = s.straps := by
  unfold comeInStep; split <;> simp
@[simp] theorem partnerBoundary_straps (s : State) :
    (partnerBoundary s).straps = s.straps := by simp [partnerBoundary]
@[simp] theorem pathBoundary_straps (s : State) : (pathBoundary s).straps = s.straps := by simp [pathBoundary]
@[simp] theorem applyStep_straps (e) (s : State) : (applyStep e s).straps = s.straps := by simp [applyStep]
@[simp] theorem applyColumn_straps (c) (s : State) : (applyColumn c s).straps = s.straps := by simp [applyColumn]
@[simp] theorem applyRole_straps (s : State) (d) : (applyRole s d).straps = s.straps := by
  unfold applyRole; split <;> simp
@[simp] theorem applyTime_straps (s : State) (d) : (applyTime s d).straps = s.straps := by
  unfold applyTime; split <;> simp
@[simp] theorem applyRepair_straps (s : State) (d) : (applyRepair s d).straps = s.straps := by
  unfold applyRepair; split <;> simp
@[simp] theorem commitAll_straps (s : State) : (commitAll s).straps = s.straps :=
  foldl_straps _ (fun s c => by simp) _ s
@[simp] theorem enterSlumber_straps (s : State) : (enterSlumber s).straps = s.straps := by simp [enterSlumber]
@[simp] theorem intervene_straps (s : State) : (intervene s).straps = s.straps := by
  unfold intervene; dsimp only; (repeat' split) <;> simp
@[simp] theorem senseBoundary_straps (x) (s : State) :
    (senseBoundary x s).straps = s.straps := by simp [senseBoundary]
@[simp] theorem openPaths_straps (s : State) : (openPaths s).straps = s.straps := by simp [openPaths]
@[simp] theorem firstPlant_straps (s : State) : (firstPlant s).straps = s.straps := by simp [firstPlant]
@[simp] theorem boundary_straps (x) (s : State) : (boundary x s).straps = s.straps := by simp [boundary]

/-! ### Commands of the block boundary -/

theorem execBlockBoundary_keepsStraps (x) (s : State) :
    KeepsStraps s (execBlockBoundary x s) := by simp [execBlockBoundary]
@[simp] theorem resumeWells_straps (failed) (s : State) : (resumeWells failed s).straps = s.straps := by
  unfold resumeWells; dsimp only; (repeat' split) <;> simp
@[simp] theorem exitSlumber_straps (m) (s : State) : (exitSlumber m s).straps = s.straps := by
  unfold exitSlumber
  extract_lets et failed _ s₁ s₂ _ s₃ _ s₄ _ _ _ s₅
  have h₃ : s₃.straps = s₂.straps := by simp [s₃]
  have h₅ : s₅.straps = s₃.straps := by simp [s₅, s₄]
  rw [straps_ite, contactWork_straps, ite_self, h₅, h₃]
  simp [s₂, s₁]
theorem execSlumberResume_keepsStraps (x) (s : State) : KeepsStraps s (execSlumberResume x s) := by
  unfold execSlumberResume; dsimp only; split <;> simp

/-! ### Commands of endurance and the powered hour -/

theorem execSramCorrectedError_keepsStraps (t loft bank row) (s : State) :
    KeepsStraps s (execSramCorrectedError t loft bank row s) := by simp [execSramCorrectedError]
theorem execScrubPass_keepsStraps (s : State) : KeepsStraps s (execScrubPass s) := by simp [execScrubPass]
@[simp] theorem repairReady_straps (loft bank row) (s : State) :
    (repairReady loft bank row s).straps = s.straps := by simp [repairReady]
theorem execRowCopyComplete_keepsStraps (t bank row) (s : State) :
    KeepsStraps s (execRowCopyComplete t bank row s) := by simp [execRowCopyComplete]
theorem execLoftRowFillComplete_keepsStraps (t bank row) (s : State) :
    KeepsStraps s (execLoftRowFillComplete t bank row s) := by simp [execLoftRowFillComplete]
theorem execPoweredHour_keepsStraps (fails) (s : State) :
    KeepsStraps s (execPoweredHour fails s) := by simp [execPoweredHour]
theorem execHoldoverAgingCorrection_keepsStraps (s : State) :
    KeepsStraps s (execHoldoverAgingCorrection s) := by simp [execHoldoverAgingCorrection]

/-! ### Commands of the memories and the DMA engine -/

theorem execFlashBringup_keepsStraps (t tries) (s : State) : KeepsStraps s (execFlashBringup t tries s) := by
  unfold execFlashBringup; split <;> simp
theorem execFlashReadTimeout_keepsStraps (t addr) (s : State) :
    KeepsStraps s (execFlashReadTimeout t addr s) := by simp [execFlashReadTimeout]
theorem execFlashSuspendRead_keepsStraps (t) (s : State) : KeepsStraps s (execFlashSuspendRead t s) := by
  unfold execFlashSuspendRead; dsimp only; (repeat' split) <;> simp
theorem execBusTransactionComplete_keepsStraps (t silo asked) (s : State) :
    KeepsStraps s (execBusTransactionComplete t silo asked s) := by simp [execBusTransactionComplete]
theorem execDmaRegisterSetComplete_keepsStraps (t ch) (s : State) :
    KeepsStraps s (execDmaRegisterSetComplete t ch s) := by
  unfold execDmaRegisterSetComplete; dsimp only; (repeat' split) <;> simp
theorem execDmaPaceMark_keepsStraps (t ch fill) (s : State) :
    KeepsStraps s (execDmaPaceMark t ch fill s) := by simp [execDmaPaceMark]
theorem execDmaShadowWrite_keepsStraps (t ch set forBoundary) (s : State) :
    KeepsStraps s (execDmaShadowWrite t ch set forBoundary s) := by simp [execDmaShadowWrite]

/-! ### Commands of the Granary -/

theorem execImageVerify_keepsStraps (t spoil) (s : State) :
    KeepsStraps s (execImageVerify t spoil s) := by simp [execImageVerify]
theorem execSlotWriteStart_keepsStraps (t) (s : State) : KeepsStraps s (execSlotWriteStart t s) := by
  unfold execSlotWriteStart; dsimp only; (repeat' split) <;> simp
theorem execFlashOperationComplete_keepsStraps (t failed) (s : State) :
    KeepsStraps s (execFlashOperationComplete t failed s) := by
  unfold execFlashOperationComplete; dsimp only; (repeat' split) <;> simp
theorem execSlotWriteComplete_keepsStraps (t marker fails spoil) (s : State) :
    KeepsStraps s (execSlotWriteComplete t marker fails spoil s) := by
  unfold execSlotWriteComplete; dsimp only; (repeat' split) <;> simp
theorem execImageAdvertSend_keepsStraps (s : State) : KeepsStraps s (execImageAdvertSend s) := by
  unfold execImageAdvertSend; split <;> simp
@[simp] theorem refuseImage_straps (cause id edition) (s : State) :
    (refuseImage cause id edition s).straps = s.straps := by simp [refuseImage]
@[simp] theorem judgeAdvert_straps (b) (s : State) : (judgeAdvert b s).straps = s.straps := by simp [judgeAdvert]
theorem execImageAdvertReceive_keepsStraps (t f) (s : State) : KeepsStraps s (execImageAdvertReceive t f s) := by
  unfold execImageAdvertReceive; dsimp only; split <;> simp
theorem execImageRequestReceive_keepsStraps (t f) (s : State) : KeepsStraps s (execImageRequestReceive t f s) := by
  unfold execImageRequestReceive; dsimp only; split <;> simp
theorem execImageChunkSend_keepsStraps (t) (s : State) : KeepsStraps s (execImageChunkSend t s) := by
  unfold execImageChunkSend; dsimp only; split <;> simp
@[simp] theorem takeChunk_straps (b) (s : State) : (takeChunk b s).straps = s.straps := by
  unfold takeChunk; split <;> simp
theorem execImageChunkReceive_keepsStraps (t f) (s : State) : KeepsStraps s (execImageChunkReceive t f s) := by
  unfold execImageChunkReceive; dsimp only; split <;> simp
theorem execImageRequestRetry_keepsStraps (s : State) : KeepsStraps s (execImageRequestRetry s) := by
  unfold execImageRequestRetry; split <;> simp
theorem execImageFetchAbandon_keepsStraps (s : State) : KeepsStraps s (execImageFetchAbandon s) := by
  unfold execImageFetchAbandon; split <;> simp

/-! ### The test access port -/

@[simp] theorem releaseReset_straps (s : State) : (releaseReset s).straps = s.straps := by simp [releaseReset]
@[simp] theorem irScan_straps (s : State) : (irScan s).straps = s.straps := by simp [irScan]
@[simp] theorem quietInstr_straps (ir bits) (s : State) :
    (quietInstr ir bits s).straps = s.straps := by simp [quietInstr]

/-! ### Commands of the test access port -/

theorem execIdcode_keepsStraps (t) (s : State) : KeepsStraps s (execIdcode t s) := by simp [execIdcode]
theorem execSamplePreload_keepsStraps (t) (s : State) :
    KeepsStraps s (execSamplePreload t s) := by simp [execSamplePreload]
theorem execBypass_keepsStraps (t op) (s : State) : KeepsStraps s (execBypass t op s) := by simp [execBypass]
theorem execTapReset_keepsStraps (t) (s : State) : KeepsStraps s (execTapReset t s) := by simp [execTapReset]
theorem execDataRegisterScan_keepsStraps (t pins tdi) (s : State) :
    KeepsStraps s (execDataRegisterScan t pins tdi s) := by
  unfold execDataRegisterScan; dsimp only; split <;> simp

/-! ### Commands of keys and pairing -/

theorem execReservationCommit_keepsStraps (t ann fails) (s : State) :
    KeepsStraps s (execReservationCommit t ann fails s) := by simp [execReservationCommit]
@[simp] theorem createKey_straps (spoil) (s : State) : (createKey spoil s).straps = s.straps := by
  unfold createKey; split <;> simp
theorem execKeyCreate_keepsStraps (spoil) (s : State) : KeepsStraps s (execKeyCreate spoil s) := by
  unfold execKeyCreate; split <;> simp
theorem execKeyRenew_keepsStraps (spoil) (s : State) : KeepsStraps s (execKeyRenew spoil s) := by simp [execKeyRenew]
theorem execAkDistributionSend_keepsStraps (s : State) : KeepsStraps s (execAkDistributionSend s) := by
  unfold execAkDistributionSend; split <;> simp
theorem execAkDistributionReceive_keepsStraps (t f) (s : State) :
    KeepsStraps s (execAkDistributionReceive t f s) := by
  unfold execAkDistributionReceive; dsimp only; split <;> simp
@[simp] theorem closeWindow_straps (s : State) : (closeWindow s).straps = s.straps := by simp [closeWindow]
theorem execPairPress_keepsStraps (t heldNs) (s : State) :
    KeepsStraps s (execPairPress t heldNs s) := by simp [execPairPress]
@[simp] theorem sendJoin_straps (w ak) (s : State) : (sendJoin w ak s).straps = s.straps := by simp [sendJoin]
theorem execPairListenExpiry_keepsStraps (s : State) : KeepsStraps s (execPairListenExpiry s) := by
  unfold execPairListenExpiry; dsimp only; (repeat' split) <;> simp
theorem execWindowFrameSend_keepsStraps (s : State) :
    KeepsStraps s (execWindowFrameSend s) := by simp [execWindowFrameSend]
theorem execWindowFrameReceive_keepsStraps (t f) (s : State) : KeepsStraps s (execWindowFrameReceive t f s) := by
  unfold execWindowFrameReceive; dsimp only; split <;> simp
@[simp] theorem pairRecord_straps (otherRole eui n otherProfile fails) (s : State) :
    (pairRecord otherRole eui n otherProfile fails s).straps = s.straps := by simp [pairRecord]
theorem execJoinReceive_keepsStraps (t f) (s : State) : KeepsStraps s (execJoinReceive t f s) := by
  unfold execJoinReceive
  extract_lets s'
  split
  · rfl
  · extract_lets j n e ak mine fits id
    split
    · rfl
    · refine (endpointIn_verified_straps f _ _ fun s => ?_ :)
      extract_lets p
      split
      · simp
      · split
        · rfl
        · split
          · simp
          · split <;> simp
@[simp] theorem endExchange_straps (x) (s : State) : (endExchange x s).straps = s.straps := by simp [endExchange]
theorem execDoneReceive_keepsStraps (t f fails) (s : State) : KeepsStraps s (execDoneReceive t f fails s) := by
  unfold execDoneReceive; dsimp only; (repeat' split) <;> simp
theorem execDoneTimeout_keepsStraps (eui) (s : State) : KeepsStraps s (execDoneTimeout eui s) := by
  unfold execDoneTimeout; split <;> simp
theorem execPairingWindowExpiry_keepsStraps (s : State) :
    KeepsStraps s (execPairingWindowExpiry s) := by simp [execPairingWindowExpiry]
theorem execJoinResend_keepsStraps (s : State) : KeepsStraps s (execJoinResend s) := by
  unfold execJoinResend; split <;> simp
@[simp] theorem endTaking_straps (s : State) : (endTaking s).straps = s.straps := by simp [endTaking]
@[simp] theorem sendDone_straps (w key mac result slot) (s : State) :
    (sendDone w key mac result slot s).straps = s.straps := by simp [sendDone]
@[simp] theorem storeKey_straps (w k spoil) (s : State) : (storeKey w k spoil s).2.2.straps = s.straps := by
  unfold storeKey; dsimp only; (repeat' split) <;> simp
theorem execKeyFrameReceive_keepsStraps (t f spoil fails) (s : State) :
    KeepsStraps s (execKeyFrameReceive t f spoil fails s) := by
  unfold execKeyFrameReceive
  extract_lets s'
  split
  · next w _ _ =>
    extract_lets k
    split
    · rfl
    · refine (endpointIn_verified_straps f _ _ fun s => ?_ :)
      extract_lets p signed shared kek s₁
      have h₁ : s₁.straps = s.straps := endTaking_straps s
      split
      · simp [h₁]
      · split
        · simp [h₁]
        · next x _ =>
          have h₂ := storeKey_straps w x spoil s₁
          generalize storeKey w x spoil s₁ = r at h₂ ⊢
          simp [h₁, h₂]
  · rfl
theorem execKeyFrameTimeout_keepsStraps (s : State) : KeepsStraps s (execKeyFrameTimeout s) := by
  unfold execKeyFrameTimeout; split <;> simp

/-! ### Commands of the loudspeakers, the motor and the die temperatures -/

theorem execThermalModelRelease_keepsStraps (ch) (s : State) : KeepsStraps s (execThermalModelRelease ch s) := by
  unfold execThermalModelRelease; dsimp only; split <;> simp
theorem execSpeakerGuard_keepsStraps (t ch) (s : State) :
    KeepsStraps s (execSpeakerGuard t ch s) := by simp [execSpeakerGuard]
theorem execSpeakerOvercurrent_keepsStraps (t stage short) (s : State) :
    KeepsStraps s (execSpeakerOvercurrent t stage short s) := by simp [execSpeakerOvercurrent]
theorem execOpenLoadDetect_keepsStraps (t ch cent) (s : State) :
    KeepsStraps s (execOpenLoadDetect t ch cent s) := by simp [execOpenLoadDetect]
@[simp] theorem motorReading_straps (posMv pvddMv ma) (s : State) :
    (motorReading posMv pvddMv ma s).straps = s.straps := by simp [motorReading]
@[simp] theorem motorSettle_straps (s : State) : (motorSettle s).straps = s.straps := by simp [motorSettle]
theorem execMotorCommand_keepsStraps (t posMv pvddMv ma) (s : State) :
    KeepsStraps s (execMotorCommand t posMv pvddMv ma s) := by simp [execMotorCommand]
theorem execBackEmfWindow_keepsStraps (t bemfMv) (s : State) :
    KeepsStraps s (execBackEmfWindow t bemfMv s) := by simp [execBackEmfWindow]
theorem execMotorPeakCurrent_keepsStraps (t ma) (s : State) :
    KeepsStraps s (execMotorPeakCurrent t ma s) := by simp [execMotorPeakCurrent]
theorem execMotPosOutOfRange_keepsStraps (s : State) : KeepsStraps s (execMotPosOutOfRange s) := by
  unfold execMotPosOutOfRange; split <;> simp
theorem execMotorStall_keepsStraps (s : State) : KeepsStraps s (execMotorStall s) := by
  unfold execMotorStall; split <;> simp
theorem execStallHoldExpiry_keepsStraps (s : State) : KeepsStraps s (execStallHoldExpiry s) := by
  unfold execStallHoldExpiry; split <;> simp
theorem execPlantDieTemperature_keepsStraps (t deg) (s : State) :
    KeepsStraps s (execPlantDieTemperature t deg s) := by simp [execPlantDieTemperature]
theorem execCoreDieOvertemp_keepsStraps (t deg) (s : State) :
    KeepsStraps s (execCoreDieOvertemp t deg s) := by simp [execCoreDieOvertemp]

/-! ### Commands of the network ports -/

@[simp] theorem setPort_straps (i f) (s : State) : (setPort i f s).straps = s.straps := by simp [setPort]
@[simp] theorem diagnose_straps (i r) (s : State) : (diagnose i r s).straps = s.straps := by
  unfold diagnose; dsimp only; (repeat' split) <;> simp
theorem execCableDiagnostic_keepsStraps (a b) (s : State) : KeepsStraps s (execCableDiagnostic a b s) := by
  unfold execCableDiagnostic; split <;> simp
theorem execLinkModeAlternate_keepsStraps (i page) (s : State) : KeepsStraps s (execLinkModeAlternate i page s) := by
  unfold execLinkModeAlternate; split <;> simp
theorem execPhyLinkChange_keepsStraps (t i up page) (s : State) :
    KeepsStraps s (execPhyLinkChange t i up page s) := by simp [execPhyLinkChange]
theorem execLinkDeclare_keepsStraps (i) (s : State) : KeepsStraps s (execLinkDeclare i s) := by simp [execLinkDeclare]
theorem execLinkUpDeadline_keepsStraps (i) (s : State) : KeepsStraps s (execLinkUpDeadline i s) := by
  unfold execLinkUpDeadline; split <;> simp
theorem execLinkChangeQuiet_keepsStraps (i) (s : State) : KeepsStraps s (execLinkChangeQuiet i s) := by
  unfold execLinkChangeQuiet; split <;> simp
theorem execPodlClassification_keepsStraps (t) (s : State) :
    KeepsStraps s (execPodlClassification t s) := by simp [execPodlClassification]
theorem execPodlPowerApplied_keepsStraps (t volts24 pairMv) (s : State) :
    KeepsStraps s (execPodlPowerApplied t volts24 pairMv s) := by simp [execPodlPowerApplied]
theorem execPodlPowerTimeout_keepsStraps (s : State) : KeepsStraps s (execPodlPowerTimeout s) := by
  unfold execPodlPowerTimeout; split <;> simp
@[simp] theorem checkShared_straps (f) (s : State) : (checkShared f s).straps = s.straps := by
  unfold checkShared; split <;> simp
@[simp] theorem seePair_straps (f) (s : State) : (seePair f s).straps = s.straps := by
  unfold seePair; split <;> simp
@[simp] theorem forwardFrame_straps (i f) (s : State) : (forwardFrame i f s).straps = s.straps := by
  unfold forwardFrame; split <;> simp
@[simp] theorem switchIn_straps (i f) (s : State) : (switchIn i f s).straps = s.straps := by
  unfold switchIn; split <;> simp
theorem execFrameIngress_keepsStraps (t i f) (s : State) :
    KeepsStraps s (execFrameIngress t i f s) := by simp [execFrameIngress]
theorem execFlowIdleExpiry_keepsStraps (src dst) (s : State) : KeepsStraps s (execFlowIdleExpiry src dst s) := by
  unfold execFlowIdleExpiry; split <;> simp
theorem execPartnerAsleep_keepsStraps (t i) (s : State) :
    KeepsStraps s (execPartnerAsleep t i s) := by simp [execPartnerAsleep]
theorem execLeaderAbsentTimeout_keepsStraps (n) (s : State) : KeepsStraps s (execLeaderAbsentTimeout n s) := by
  unfold execLeaderAbsentTimeout
  cases n with
  | none => simp
  | some n => dsimp only; split <;> simp
theorem execSharedNodeAddressQuiet_keepsStraps (s : State) : KeepsStraps s (execSharedNodeAddressQuiet s) := by
  unfold execSharedNodeAddressQuiet; split <;> simp
@[simp] theorem takeHeartbeat_straps (addressed b) (s : State) :
    (takeHeartbeat addressed b s).straps = s.straps := by simp [takeHeartbeat]
theorem execFumaroleFrameReceive_keepsStraps (t f) (s : State) : KeepsStraps s (execFumaroleFrameReceive t f s) := by
  unfold execFumaroleFrameReceive; dsimp only; (repeat' split) <;> simp

/-! ### Commands of SLUMBER -/

theorem execSlumberConditionsHeld_keepsStraps (since) (s : State) :
    KeepsStraps s (execSlumberConditionsHeld since s) := by simp [execSlumberConditionsHeld]
theorem execSlumberPowerDown_keepsStraps (t) (s : State) :
    KeepsStraps s (execSlumberPowerDown t s) := by simp [execSlumberPowerDown]
theorem execBeaconWindowOpen_keepsStraps (s : State) :
    KeepsStraps s (execBeaconWindowOpen s) := by simp [execBeaconWindowOpen]
@[simp] theorem wakeWells_straps (s : State) : (wakeWells s).straps = s.straps := by
  unfold wakeWells; dsimp only; (repeat' split) <;> simp
@[simp] theorem wakeNow_straps (s : State) : (wakeNow s).straps = s.straps := by simp [wakeNow]
theorem execBeaconReceive_keepsStraps (t fromx stamp stayAwake) (s : State) :
    KeepsStraps s (execBeaconReceive t fromx stamp stayAwake s) := by
  unfold execBeaconReceive; dsimp only; split <;> simp
@[simp] theorem searchFails_straps (s : State) : (searchFails s).straps = s.straps := by
  unfold searchFails; dsimp only; (repeat' split) <;> simp
theorem execBeaconWindowClose_keepsStraps (s : State) : KeepsStraps s (execBeaconWindowClose s) := by
  unfold execBeaconWindowClose; split <;> simp
theorem execBeaconSearchFailed_keepsStraps (s : State) : KeepsStraps s (execBeaconSearchFailed s) := by
  unfold execBeaconSearchFailed; split <;> simp
theorem execPartnerWakeAnswerTimeout_keepsStraps (s : State) : KeepsStraps s (execPartnerWakeAnswerTimeout s) := by
  unfold execPartnerWakeAnswerTimeout; split <;> rfl
theorem execWakeEvent_keepsStraps (t cause) (s : State) : KeepsStraps s (execWakeEvent t cause s) := by
  unfold execWakeEvent; split <;> simp
theorem execWakeRequest_keepsStraps (t x) (s : State) :
    KeepsStraps s (execWakeRequest t x s) := by simp [execWakeRequest]

/-! ### Commands of the power path -/

@[simp] theorem withPlant_straps (f) (s : State) : (withPlant f s).straps = s.straps := by simp [withPlant]
theorem execVinValid_keepsStraps (t vinMv) (s : State) :
    KeepsStraps s (execVinValid t vinMv s) := by simp [execVinValid]
theorem execVinLost_keepsStraps (t vinMv meanMv) (s : State) :
    KeepsStraps s (execVinLost t vinMv meanMv s) := by simp [execVinLost]
theorem execVinRangeTimeout_keepsStraps (t vinMv) (s : State) :
    KeepsStraps s (execVinRangeTimeout t vinMv s) := by simp [execVinRangeTimeout]
theorem execInputBudgetLoop_keepsStraps (t vinMv vinMa vsysMv) (s : State) :
    KeepsStraps s (execInputBudgetLoop t vinMv vinMa vsysMv s) := by simp [execInputBudgetLoop]
theorem execBatteryAbsentTimeout_keepsStraps (s : State) : KeepsStraps s (execBatteryAbsentTimeout s) := by
  unfold execBatteryAbsentTimeout; split <;> simp
theorem execRequestedLimits_keepsStraps (t) (s : State) :
    KeepsStraps s (execRequestedLimits t s) := by simp [execRequestedLimits]
theorem execFixedThresholdEntry_keepsStraps (s : State) : KeepsStraps s (execFixedThresholdEntry s) := by
  unfold execFixedThresholdEntry; split <;> simp
theorem execFixedThresholdExit_keepsStraps (s : State) : KeepsStraps s (execFixedThresholdExit s) := by
  unfold execFixedThresholdExit; split <;> simp
theorem execChargeCompleteTimer_keepsStraps (s : State) : KeepsStraps s (execChargeCompleteTimer s) := by
  unfold execChargeCompleteTimer; split <;> simp
theorem execChargeTimerExpiry_keepsStraps (s : State) : KeepsStraps s (execChargeTimerExpiry s) := by
  unfold execChargeTimerExpiry; split <;> simp
theorem execPreconditionTimeout_keepsStraps (s : State) : KeepsStraps s (execPreconditionTimeout s) := by
  unfold execPreconditionTimeout; split <;> simp
@[simp] theorem senseFault_straps (cause bad) (s : State) :
    (senseFault cause bad s).straps = s.straps := by simp [senseFault]
@[simp] theorem zoneClear_straps (c) (s : State) : (zoneClear c s).straps = s.straps := by simp [zoneClear]
@[simp] theorem zoneUpdate_straps (c) (s : State) : (zoneUpdate c s).straps = s.straps := by simp [zoneUpdate]
@[simp] theorem takeReading_straps (c x) (s : State) : (takeReading c x s).straps = s.straps := by simp [takeReading]
theorem execBatteryThermalUpdate_keepsStraps (t x) (s : State) : KeepsStraps s (execBatteryThermalUpdate t x s) := by
  unfold execBatteryThermalUpdate; dsimp only; split <;> simp
theorem execDischargeCutoff_keepsStraps (t vbatMv) (s : State) :
    KeepsStraps s (execDischargeCutoff t vbatMv s) := by simp [execDischargeCutoff]
theorem execPackOvervoltage_keepsStraps (t vbatMv) (s : State) : KeepsStraps s (execPackOvervoltage t vbatMv s) := by
  unfold execPackOvervoltage; dsimp only; split <;> simp
theorem execSocRestRecalibrate_keepsStraps (s : State) : KeepsStraps s (execSocRestRecalibrate s) := by
  unfold execSocRestRecalibrate; split <;> simp
theorem execChargerVoltageThreshold_keepsStraps (t vbatMv) (s : State) :
    KeepsStraps s (execChargerVoltageThreshold t vbatMv s) := by simp [execChargerVoltageThreshold]
theorem execPackConnected_keepsStraps (t x) (s : State) : KeepsStraps s (execPackConnected t x s) := by
  unfold execPackConnected; dsimp only; (repeat' split) <;> simp

/-! ### Commands of the start -/

theorem execResetRelease_keepsStraps (resetNRise porEnd) (s : State) :
    KeepsStraps s (execResetRelease resetNRise porEnd s) := by simp [execResetRelease]
theorem execPreconditionBeforeStart_keepsStraps (t vbatMv) (s : State) :
    KeepsStraps s (execPreconditionBeforeStart t vbatMv s) := by
  unfold execPreconditionBeforeStart; dsimp only; (repeat' split) <;> simp
@[simp] theorem raiseAll_straps (l) (s : State) : (raiseAll l s).straps = s.straps :=
  foldl_straps _ (fun s c => by simp) _ s
@[simp] theorem portsBegin_straps (s : State) : (portsBegin s).straps = s.straps := by simp [portsBegin]
@[simp] theorem startFrom_straps (t) (s : State) : (startFrom t s).straps = s.straps := by simp [startFrom]
@[simp] theorem safeLinks_straps (s : State) : (safeLinks s).straps = s.straps := by simp [safeLinks]
theorem execPairDebouncedChange_keepsStraps (t samples) (s : State) :
    KeepsStraps s (execPairDebouncedChange t samples s) := by simp [execPairDebouncedChange]
theorem execPairHoldClear_keepsStraps (s : State) : KeepsStraps s (execPairHoldClear s) := by simp [execPairHoldClear]
theorem execPairReleaseEarly_keepsStraps (t) (s : State) :
    KeepsStraps s (execPairReleaseEarly t s) := by simp [execPairReleaseEarly]
theorem execFailedStartCounterClear_keepsStraps (s : State) : KeepsStraps s (execFailedStartCounterClear s) := by
  unfold execFailedStartCounterClear; split <;> simp
theorem execDieLinkLoss_keepsStraps (t) (s : State) : KeepsStraps s (execDieLinkLoss t s) := by simp [execDieLinkLoss]
theorem execDieLinkRestored_keepsStraps (t) (s : State) : KeepsStraps s (execDieLinkRestored t s) := by
  unfold execDieLinkRestored; dsimp only; split <;> simp
theorem execClockMonitorLoss_keepsStraps (t domains) (s : State) :
    KeepsStraps s (execClockMonitorLoss t domains s) := by simp [execClockMonitorLoss]

/-! ### Commands of what the device tells -/

theorem execFaultFoldExpiry_keepsStraps (code) (s : State) : KeepsStraps s (execFaultFoldExpiry code s) := by
  unfold execFaultFoldExpiry; split <;> simp
@[simp] theorem beaconFrame_straps (instant) (s : State) : (beaconFrame instant s).straps = s.straps := by
  unfold beaconFrame; dsimp only; (repeat' split) <;> simp
theorem execHeartbeatSend_keepsStraps (s : State) : KeepsStraps s (execHeartbeatSend s) := by simp [execHeartbeatSend]
theorem execTelemetrySend_keepsStraps (s : State) : KeepsStraps s (execTelemetrySend s) := by
  unfold execTelemetrySend; split <;> simp
theorem execReplaySend_keepsStraps (t) (s : State) : KeepsStraps s (execReplaySend t s) := by simp [execReplaySend]
theorem execFumaroleQueueRoom_keepsStraps (t path) (s : State) :
    KeepsStraps s (execFumaroleQueueRoom t path s) := by simp [execFumaroleQueueRoom]
theorem execAshLogEntryWrite_keepsStraps (t failed) (s : State) :
    KeepsStraps s (execAshLogEntryWrite t failed s) := by
  unfold execAshLogEntryWrite; dsimp only; (repeat' split) <;> simp
theorem execAshLogFoldExpiry_keepsStraps (code) (s : State) : KeepsStraps s (execAshLogFoldExpiry code s) := by
  unfold execAshLogFoldExpiry; split <;> simp
theorem execAshLogHourResume_keepsStraps (s : State) : KeepsStraps s (execAshLogHourResume s) := by
  unfold execAshLogHourResume; split <;> simp

/-! ### Commands of the streams -/

theorem execAafFrameSend_keepsStraps (k) (s : State) :
    KeepsStraps s (execAafFrameSend k s) := by simp [execAafFrameSend]
theorem execCrfFrameSend_keepsStraps (s : State) : KeepsStraps s (execCrfFrameSend s) := by simp [execCrfFrameSend]
@[simp] theorem yieldIfDue_straps (f) (s : State) : (yieldIfDue f s).straps = s.straps := by
  unfold yieldIfDue; split <;> simp
@[simp] theorem judgeAaf_straps (i kind a) (s : State) : (judgeAaf i kind a s).straps = s.straps := by
  unfold judgeAaf; split <;> simp
@[simp] theorem notePassed_straps (i a) (s : State) : (notePassed i a s).straps = s.straps := by
  unfold notePassed; split <;> rfl
@[simp] theorem takeAaf_straps (kind nn tag a) (s : State) : (takeAaf kind nn tag a s).straps = s.straps := by
  unfold takeAaf; dsimp only; (repeat' split) <;> simp
theorem execAafFrameReceive_keepsStraps (t f) (s : State) : KeepsStraps s (execAafFrameReceive t f s) := by
  unfold execAafFrameReceive; split <;> simp
@[simp] theorem keepCrf_straps (q c) (s : State) : (keepCrf q c s).straps = s.straps := by
  unfold keepCrf; dsimp only; (repeat' split) <;> simp
@[simp] theorem takeCrf_straps (nn tag c) (s : State) : (takeCrf nn tag c s).straps = s.straps := by
  unfold takeCrf; dsimp only; (repeat' split) <;> simp
theorem execCrfFrameReceive_keepsStraps (t f) (s : State) : KeepsStraps s (execCrfFrameReceive t f s) := by
  unfold execCrfFrameReceive; split <;> simp
theorem execStreamSourceTimeout_keepsStraps (kind n) (s : State) :
    KeepsStraps s (execStreamSourceTimeout kind n s) := by
  unfold execStreamSourceTimeout; dsimp only; (repeat' split) <;> simp
theorem execRecoveryResetTimeout_keepsStraps (kind n) (s : State) :
    KeepsStraps s (execRecoveryResetTimeout kind n s) := by
  unfold execRecoveryResetTimeout; dsimp only; (repeat' split) <;> simp
theorem execAdmissionEvaluation_keepsStraps (s : State) : KeepsStraps s (execAdmissionEvaluation s) := by
  unfold execAdmissionEvaluation; dsimp only; (repeat' split) <;> simp
theorem execPlayoutDeadline_keepsStraps (t kind n) (s : State) : KeepsStraps s (execPlayoutDeadline t kind n s) := by
  unfold execPlayoutDeadline; dsimp only; split <;> simp

/-! ### Commands of Thresher -/

theorem execJobComplete_keepsStraps (t ctx rerun) (s : State) : KeepsStraps s (execJobComplete t ctx rerun s) := by
  unfold execJobComplete; dsimp only; (repeat' split) <;> simp
theorem execJobDeadlineExpiry_keepsStraps (s : State) :
    KeepsStraps s (execJobDeadlineExpiry s) := by simp [execJobDeadlineExpiry]
theorem execStateCommit_keepsStraps (t ctx) (s : State) : KeepsStraps s (execStateCommit t ctx s) := by
  unfold execStateCommit; dsimp only; (repeat' split) <;> simp
theorem execStatePrefetch_keepsStraps (t ctx) (s : State) :
    KeepsStraps s (execStatePrefetch t ctx s) := by simp [execStatePrefetch]
theorem execVisibilityInstant_keepsStraps (s : State) :
    KeepsStraps s (execVisibilityInstant s) := by simp [execVisibilityInstant]
theorem execLaneDriveTimeout_keepsStraps (s : State) : KeepsStraps s (execLaneDriveTimeout s) := by
  unfold execLaneDriveTimeout; split <;> simp
theorem execSelfCheckPass_keepsStraps (failing) (s : State) : KeepsStraps s (execSelfCheckPass failing s) := by
  unfold execSelfCheckPass; split <;> simp

/-! ### Commands of the USB function -/

theorem execUsbVbusChange_keepsStraps (t high) (s : State) :
    KeepsStraps s (execUsbVbusChange t high s) := by simp [execUsbVbusChange]
theorem execUsbBusReset_keepsStraps (t full dataDone) (s : State) :
    KeepsStraps s (execUsbBusReset t full dataDone s) := by
  unfold execUsbBusReset; dsimp only; (repeat' split) <;> simp
theorem execStandardDeviceRequest_keepsStraps (t p) (s : State) :
    KeepsStraps s (execStandardDeviceRequest t p s) := by simp [execStandardDeviceRequest]
theorem execSetFeatureRemoteWakeup_keepsStraps (t) (s : State) :
    KeepsStraps s (execSetFeatureRemoteWakeup t s) := by simp [execSetFeatureRemoteWakeup]
theorem execSetFeatureTestMode_keepsStraps (t index) (s : State) :
    KeepsStraps s (execSetFeatureTestMode t index s) := by simp [execSetFeatureTestMode]
theorem execSetConfiguration_keepsStraps (t value) (s : State) :
    KeepsStraps s (execSetConfiguration t value s) := by simp [execSetConfiguration]
theorem execSetInterface_keepsStraps (t itf alt) (s : State) :
    KeepsStraps s (execSetInterface t itf alt s) := by simp [execSetInterface]
theorem execGetCurFrequency_keepsStraps (t) (s : State) :
    KeepsStraps s (execGetCurFrequency t s) := by simp [execGetCurFrequency]
theorem execGetRangeFrequency_keepsStraps (t) (s : State) :
    KeepsStraps s (execGetRangeFrequency t s) := by simp [execGetRangeFrequency]
theorem execSetCurFrequency_keepsStraps (t hz) (s : State) :
    KeepsStraps s (execSetCurFrequency t hz s) := by simp [execSetCurFrequency]
theorem execGetCurValidity_keepsStraps (t) (s : State) :
    KeepsStraps s (execGetCurValidity t s) := by simp [execGetCurValidity]
theorem execUnsupportedUsbRequest_keepsStraps (t _p) (s : State) :
    KeepsStraps s (execUnsupportedUsbRequest t _p s) := by simp [execUnsupportedUsbRequest]
theorem execControlStatusComplete_keepsStraps (t) (s : State) : KeepsStraps s (execControlStatusComplete t s) := by
  unfold execControlStatusComplete; dsimp only; split <;> simp
theorem execUsbSuspend_keepsStraps (t) (s : State) : KeepsStraps s (execUsbSuspend t s) := by simp [execUsbSuspend]
theorem execUsbResume_keepsStraps (t) (s : State) : KeepsStraps s (execUsbResume t s) := by simp [execUsbResume]
@[simp] theorem takePacket_straps (b) (s : State) : (takePacket b s).straps = s.straps := by simp [takePacket]
theorem execUsbOutPacket_keepsStraps (t b) (s : State) :
    KeepsStraps s (execUsbOutPacket t b s) := by simp [execUsbOutPacket]
theorem execUsbSof_keepsStraps (t) (s : State) : KeepsStraps s (execUsbSof t s) := by simp [execUsbSof]
theorem execFeedbackUpdate_keepsStraps (t) (s : State) :
    KeepsStraps s (execFeedbackUpdate t s) := by simp [execFeedbackUpdate]

/-! ### Commands of Wellspring -/

theorem execStartReferenceDeadline_keepsStraps (s : State) : KeepsStraps s (execStartReferenceDeadline s) := by
  unfold execStartReferenceDeadline; split <;> simp
@[simp] theorem judgeRef_straps (r m) (s : State) : (judgeRef r m s).straps = s.straps := by
  unfold judgeRef; split <;> simp
@[simp] theorem aimSwitch_straps (s : State) : (aimSwitch s).straps = s.straps := by
  unfold aimSwitch; split <;> simp
theorem execQualificationWindowEnd_keepsStraps (net bpi0 bpi1 wclk) (s : State) :
    KeepsStraps s (execQualificationWindowEnd net bpi0 bpi1 wclk s) := by
  unfold execQualificationWindowEnd; dsimp only; (repeat' split) <;> simp
theorem execReferenceLoss_keepsStraps (t r crf) (s : State) :
    KeepsStraps s (execReferenceLoss t r crf s) := by simp [execReferenceLoss]
theorem execReferenceBarExpiry_keepsStraps (r) (s : State) : KeepsStraps s (execReferenceBarExpiry r s) := by
  unfold execReferenceBarExpiry; dsimp only; (repeat' split) <;> simp
theorem execHoldoverLimitExpiry_keepsStraps (s : State) :
    KeepsStraps s (execHoldoverLimitExpiry s) := by simp [execHoldoverLimitExpiry]
theorem execHardwareLoopUpdate_keepsStraps (t err) (s : State) : KeepsStraps s (execHardwareLoopUpdate t err s) := by
  unfold execHardwareLoopUpdate; dsimp only; (repeat' split) <;> simp
theorem execBandwidthStep_keepsStraps (s : State) : KeepsStraps s (execBandwidthStep s) := by
  unfold execBandwidthStep; split <;> rfl
theorem execSwitchFrequencyStageEnd_keepsStraps (t err) (s : State) :
    KeepsStraps s (execSwitchFrequencyStageEnd t err s) := by
  unfold execSwitchFrequencyStageEnd; dsimp only; (repeat' split) <;> simp
theorem execSwitchPhaseStageEnd_keepsStraps (t) (s : State) :
    KeepsStraps s (execSwitchPhaseStageEnd t s) := by simp [execSwitchPhaseStageEnd]
theorem execHistoryWindowComplete_keepsStraps (s : State) : KeepsStraps s (execHistoryWindowComplete s) := by
  unfold execHistoryWindowComplete; split <;> simp

/-! ### Commands that reset the device or read the straps -/

/-- The plant die's latched copy of SP_BATT, SP_AMP and SP_MOTOR. -/
def State.plantLatch (s : State) : Option (Fin 16) × Option (Fin 16) × Option (Fin 16) :=
  (s.straps.plantBatt, s.straps.plantAmp, s.straps.plantMotor)

/-- What R44 asks of the state a command leaves: the device is reset or the levels are as latched, and the plant die's copy is. -/
def LatchFinal (s u : State) : Prop :=
  (u.start.phase = .held ∨ u.straps.level = s.straps.level) ∧ u.plantLatch = s.plantLatch
variable {s u : State}


theorem LatchFinal.of_straps (h : u.straps = s.straps) : LatchFinal s u := by
  simp [LatchFinal, State.plantLatch, h]

theorem KeepsStraps.latchFinal {r : Result} (h : KeepsStraps s r) : After (LatchFinal s) r := h.imp fun _ => .of_straps

theorem resetDevice_latchFinal (cause keepLog) (h : u.straps = s.straps) : LatchFinal s (resetDevice cause keepLog u) :=
  ⟨.inl rfl, by simp [State.plantLatch, resetDevice, h]⟩

theorem watchdogReset_latchFinal (cause code detail) (h : u.straps = s.straps) :
    LatchFinal s (watchdogReset cause code detail u) :=
  resetDevice_latchFinal _ _ (by simp [h])

theorem failStep_latchFinal (code unit detail) (h : u.straps = s.straps) : LatchFinal s (failStep code unit detail u) :=
  resetDevice_latchFinal _ _ (by simp [h])

theorem resetLow_latchFinal (h : u.straps = s.straps) : LatchFinal s (resetLow u) :=
  resetDevice_latchFinal .resetN false h

theorem holdInstr_latchFinal (ir bits drive) (h : u.straps = s.straps) : LatchFinal s (holdInstr ir bits drive u) := by
  unfold holdInstr
  extract_lets v
  have hv : LatchFinal s v := by
    simp only [v]
    split
    · exact .of_straps h
    · exact resetDevice_latchFinal _ _ h
  exact hv

theorem loseContent_latchFinal (what) (h : u.straps = s.straps) : LatchFinal s (loseContent what u) := by
  cases what with
  | control => exact watchdogReset_latchFinal _ _ _ h
  | samples l => exact LatchFinal.of_straps (by simpa [loseContent] using h)
  | clip l => exact LatchFinal.of_straps (by simpa [loseContent] using h)
  | talker f => exact LatchFinal.of_straps h
  | received => exact LatchFinal.of_straps h
  | staging k => exact LatchFinal.of_straps h
  | fumarole p k => exact LatchFinal.of_straps h
  | tie => exact LatchFinal.of_straps h
  | loft => exact LatchFinal.of_straps h


theorem execPowerOnReset_latchFinal (t aoLost tcxoIn) (s : State) : After (LatchFinal s) (execPowerOnReset t aoLost tcxoIn s) := by
  unfold execPowerOnReset
  extract_lets s₁ _ _ s₂
  have h : LatchFinal s s₂ := resetDevice_latchFinal .powerOn false (State.upTo_straps s t)
  rw [after_next]
  split
  · exact h
  · split <;> exact h

theorem execResetNAssert_latchFinal (t lowNs) (s : State) : After (LatchFinal s) (execResetNAssert t lowNs s) := by
  unfold execResetNAssert
  dsimp only
  split
  · exact resetLow_latchFinal (by simp)
  · split
    · exact LatchFinal.of_straps (by simp)
    · rw [after_next]
      split
      · exact resetLow_latchFinal (by simp)
      · exact LatchFinal.of_straps (by simp)

theorem execSupplySupervisorReset_latchFinal (t) (s : State) : After (LatchFinal s) (execSupplySupervisorReset t s) :=
  resetDevice_latchFinal _ _ (State.upTo_straps s t)

theorem execWatchdogExpiry_latchFinal (t) (s : State) : After (LatchFinal s) (execWatchdogExpiry t s) := by
  unfold execWatchdogExpiry
  dsimp only
  split
  · exact LatchFinal.of_straps (by simp)
  · exact watchdogReset_latchFinal _ _ _ (by simp)

theorem execStartDeadline_latchFinal (s : State) : After (LatchFinal s) (execStartDeadline s) := by
  unfold execStartDeadline
  split
  · exact resetDevice_latchFinal _ _ (by simp)
  · exact LatchFinal.of_straps rfl

theorem execLoftLoad_latchFinal (t good) (s : State) : After (LatchFinal s) (execLoftLoad t good s) := by
  unfold execLoftLoad
  extract_lets s₁ loaded _ _ s₂ s₃ _
  have h₁ : s₁.straps = s.straps := State.upTo_straps s t
  have h₂ : s₂.straps = s.straps := by simp [s₂, h₁]
  clear_value s₁ s₂
  split
  · split
    · exact LatchFinal.of_straps (by simp [loaded, h₁])
    · exact watchdogReset_latchFinal _ _ _ h₁
  · split
    · exact LatchFinal.of_straps h₁
    · split
      · exact LatchFinal.of_straps (by simp [s₃, h₂])
      · exact resetDevice_latchFinal _ _ (by simp [h₂])

theorem execThresherSelfCheck_latchFinal (t failing) (s : State) : After (LatchFinal s) (execThresherSelfCheck t failing s) := by
  unfold execThresherSelfCheck
  dsimp only
  split
  · exact LatchFinal.of_straps (by simp)
  · split
    · exact resetDevice_latchFinal _ _ (by simp)
    · exact LatchFinal.of_straps (by simp)

theorem execPsramBringup_latchFinal (t tries) (s : State) : After (LatchFinal s) (execPsramBringup t tries s) := by
  unfold execPsramBringup
  dsimp only
  split
  · exact LatchFinal.of_straps (by simp)
  · split
    · exact LatchFinal.of_straps (by simp)
    · exact failStep_latchFinal _ _ _ (by simp)

theorem execDataPathSetup_latchFinal (t entropyOk) (s : State) : After (LatchFinal s) (execDataPathSetup t entropyOk s) := by
  unfold execDataPathSetup
  dsimp only
  split
  · exact LatchFinal.of_straps (by simp)
  · split
    · exact watchdogReset_latchFinal _ _ _ (by simp)
    · exact LatchFinal.of_straps (by simp)

theorem execDieLinkRestoreTimeout_latchFinal (s : State) : After (LatchFinal s) (execDieLinkRestoreTimeout s) := by
  unfold execDieLinkRestoreTimeout
  split
  · extract_lets s₁
    split
    · exact watchdogReset_latchFinal _ _ _ (by simp [s₁])
    · exact LatchFinal.of_straps (by simp [s₁])
  · exact LatchFinal.of_straps rfl

theorem execClockLossReset_latchFinal (t) (s : State) : After (LatchFinal s) (execClockLossReset t s) := by
  unfold execClockLossReset
  dsimp only
  split
  · exact resetDevice_latchFinal _ _ (by simp)
  · exact LatchFinal.of_straps (by simp)

theorem execSiloTransactionTimeout_latchFinal (t addr) (s : State) : After (LatchFinal s) (execSiloTransactionTimeout t addr s) := by
  unfold execSiloTransactionTimeout
  dsimp only
  split
  · exact LatchFinal.of_straps (by simp)
  · split
    · exact LatchFinal.of_straps (by simp)
    · exact watchdogReset_latchFinal _ _ _ (by simp)

theorem execBatterySwitchOpen_latchFinal (s : State) : After (LatchFinal s) (execBatterySwitchOpen s) := by
  unfold execBatterySwitchOpen
  split
  · extract_lets s₁
    split
    · exact LatchFinal.of_straps (by simp [s₁])
    · exact resetDevice_latchFinal _ _ (by simp [s₁])
  · exact LatchFinal.of_straps rfl

theorem execSramUncorrectableError_latchFinal (t loft bank row word what) (s : State) :
    After (LatchFinal s) (execSramUncorrectableError t loft bank row word what s) := by
  unfold execSramUncorrectableError
  dsimp only
  split
  · exact LatchFinal.of_straps (by simp)
  · exact loseContent_latchFinal _ (by simp)

theorem execExtest_latchFinal (t) (s : State) : After (LatchFinal s) (execExtest t s) :=
  holdInstr_latchFinal _ _ _ (by simp)

theorem execHighz_latchFinal (t) (s : State) : After (LatchFinal s) (execHighz t s) :=
  holdInstr_latchFinal _ _ _ (by simp)

theorem execClamp_latchFinal (t) (s : State) : After (LatchFinal s) (execClamp t s) :=
  holdInstr_latchFinal _ _ _ (by simp)

theorem execPreStartPair_latchFinal (t first second) (s : State) : After (LatchFinal s) (execPreStartPair t first second s) := by
  unfold execPreStartPair
  dsimp only
  split
  · exact LatchFinal.of_straps (by simp)
  · simp [LatchFinal, State.plantLatch]

theorem execStrapReading_latchFinal (pins) (s : State) (h : s.start.tLatch.isSome) :
    After (LatchFinal s) (execStrapReading pins s) := by
  simp only [execStrapReading, h, Bool.or_true, if_true]
  exact LatchFinal.of_straps rfl

theorem execStrapLatch_latchFinal (s : State) (h : s.start.tLatch.isSome) : After (LatchFinal s) (execStrapLatch s) := by
  unfold execStrapLatch
  split
  · simp only [h, Bool.or_true, if_true]
    exact LatchFinal.of_straps rfl
  · exact LatchFinal.of_straps rfl

/-- The report of a changed strap leaves what was latched (R48). -/
theorem reportStrap_level (a b) (s : State) (i) : (reportStrap a b s i).straps.level = s.straps.level := by
  unfold reportStrap
  split <;> simp

theorem reportStrap_plantLatch (a b) (s : State) (i) : (reportStrap a b s i).plantLatch = s.plantLatch := by
  unfold reportStrap
  split <;> simp [State.plantLatch]

theorem execStrapReread_latchFinal (a b) (s : State) : After (LatchFinal s) (execStrapReread a b s) := by
  unfold execStrapReread
  split
  · exact LatchFinal.of_straps rfl
  · split
    · exact LatchFinal.of_straps rfl
    · refine ⟨.inr ?_, ?_⟩
      · exact (foldl_keeps (·.straps.level) _ (reportStrap_level _ _) _ _).trans (by simp)
      · exact (foldl_keeps State.plantLatch _ (reportStrap_plantLatch _ _) _ _).trans (by simp [State.plantLatch])

/-! ### Every command -/

/-- After t_latch every command leaves the latched levels and the plant die's copy, or resets the device (R44). -/
theorem exec_latchFinal (c : Instr) (s : State) (h : s.start.tLatch.isSome) : After (LatchFinal s) (exec c s) :=
  match c with
  | .powerOnReset t aoLost tcxoIn => execPowerOnReset_latchFinal t aoLost tcxoIn s
  | .resetNAssert t lowNs => execResetNAssert_latchFinal t lowNs s
  | .resetRelease resetNRise porEnd => (execResetRelease_keepsStraps resetNRise porEnd s).latchFinal
  | .supplySupervisorReset t => execSupplySupervisorReset_latchFinal t s
  | .watchdogExpiry t => execWatchdogExpiry_latchFinal t s
  | .startDeadline => execStartDeadline_latchFinal s
  | .preStartPair t first second => execPreStartPair_latchFinal t first second s
  | .preconditionBeforeStart t vbatMv => (execPreconditionBeforeStart_keepsStraps t vbatMv s).latchFinal
  | .strapReading codes => execStrapReading_latchFinal codes s h
  | .strapLatch => execStrapLatch_latchFinal s h
  | .strapReread a b => execStrapReread_latchFinal a b s
  | .pairDebouncedChange t samples => (execPairDebouncedChange_keepsStraps t samples s).latchFinal
  | .pairHoldClear => (execPairHoldClear_keepsStraps s).latchFinal
  | .pairReleaseEarly t => (execPairReleaseEarly_keepsStraps t s).latchFinal
  | .flashBringup t tries => (execFlashBringup_keepsStraps t tries s).latchFinal
  | .imageVerify t spoil => (execImageVerify_keepsStraps t spoil s).latchFinal
  | .loftLoad t good => execLoftLoad_latchFinal t good s
  | .thresherSelfCheck t failing => execThresherSelfCheck_latchFinal t failing s
  | .psramBringup t tries => execPsramBringup_latchFinal t tries s
  | .dataPathSetup t entropyOk => execDataPathSetup_latchFinal t entropyOk s
  | .startReferenceDeadline => (execStartReferenceDeadline_keepsStraps s).latchFinal
  | .runningEntry t => (execRunningEntry_keepsStraps t s).latchFinal
  | .failedStartCounterClear => (execFailedStartCounterClear_keepsStraps s).latchFinal
  | .blockBoundary x => (execBlockBoundary_keepsStraps x s).latchFinal
  | .faultFoldExpiry code => (execFaultFoldExpiry_keepsStraps code s).latchFinal
  | .leaderAbsentTimeout n => (execLeaderAbsentTimeout_keepsStraps n s).latchFinal
  | .dieLinkLoss t => (execDieLinkLoss_keepsStraps t s).latchFinal
  | .dieLinkRestored t => (execDieLinkRestored_keepsStraps t s).latchFinal
  | .dieLinkRestoreTimeout => execDieLinkRestoreTimeout_latchFinal s
  | .clockMonitorLoss t domains => (execClockMonitorLoss_keepsStraps t domains s).latchFinal
  | .clockLossReset t => execClockLossReset_latchFinal t s
  | .slumberConditionsHeld since => (execSlumberConditionsHeld_keepsStraps since s).latchFinal
  | .slumberPowerDown t => (execSlumberPowerDown_keepsStraps t s).latchFinal
  | .beaconWindowOpen => (execBeaconWindowOpen_keepsStraps s).latchFinal
  | .beaconReceive t from_ stamp stayAwake => (execBeaconReceive_keepsStraps t from_ stamp stayAwake s).latchFinal
  | .beaconWindowClose => (execBeaconWindowClose_keepsStraps s).latchFinal
  | .beaconSearchFailed => (execBeaconSearchFailed_keepsStraps s).latchFinal
  | .partnerWakeAnswerTimeout => (execPartnerWakeAnswerTimeout_keepsStraps s).latchFinal
  | .wakeEvent t cause => (execWakeEvent_keepsStraps t cause s).latchFinal
  | .slumberResume x => (execSlumberResume_keepsStraps x s).latchFinal
  | .heartbeatSend => (execHeartbeatSend_keepsStraps s).latchFinal
  | .telemetrySend => (execTelemetrySend_keepsStraps s).latchFinal
  | .replaySend t => (execReplaySend_keepsStraps t s).latchFinal
  | .fumaroleQueueRoom t path => (execFumaroleQueueRoom_keepsStraps t path s).latchFinal
  | .fumaroleFrameReceive t f => (execFumaroleFrameReceive_keepsStraps t f s).latchFinal
  | .ashLogEntryWrite t failed => (execAshLogEntryWrite_keepsStraps t failed s).latchFinal
  | .ashLogFoldExpiry code => (execAshLogFoldExpiry_keepsStraps code s).latchFinal
  | .ashLogHourResume => (execAshLogHourResume_keepsStraps s).latchFinal
  | .qualificationWindowEnd net bpi0 bpi1 wclk => (execQualificationWindowEnd_keepsStraps net bpi0 bpi1 wclk s).latchFinal
  | .referenceLoss t r crf => (execReferenceLoss_keepsStraps t r crf s).latchFinal
  | .referenceBarExpiry r => (execReferenceBarExpiry_keepsStraps r s).latchFinal
  | .holdoverLimitExpiry => (execHoldoverLimitExpiry_keepsStraps s).latchFinal
  | .hardwareLoopUpdate t err => (execHardwareLoopUpdate_keepsStraps t err s).latchFinal
  | .bandwidthStep => (execBandwidthStep_keepsStraps s).latchFinal
  | .switchFrequencyStageEnd t err => (execSwitchFrequencyStageEnd_keepsStraps t err s).latchFinal
  | .switchPhaseStageEnd t => (execSwitchPhaseStageEnd_keepsStraps t s).latchFinal
  | .historyWindowComplete => (execHistoryWindowComplete_keepsStraps s).latchFinal
  | .cableDiagnostic a b => (execCableDiagnostic_keepsStraps a b s).latchFinal
  | .linkModeAlternate u page => (execLinkModeAlternate_keepsStraps u page s).latchFinal
  | .phyLinkChange t u up eee => (execPhyLinkChange_keepsStraps t u up eee s).latchFinal
  | .linkDeclare u => (execLinkDeclare_keepsStraps u s).latchFinal
  | .linkUpDeadline u => (execLinkUpDeadline_keepsStraps u s).latchFinal
  | .linkChangeQuiet u => (execLinkChangeQuiet_keepsStraps u s).latchFinal
  | .podlClassification t => (execPodlClassification_keepsStraps t s).latchFinal
  | .podlPowerApplied t volts24 pairMv => (execPodlPowerApplied_keepsStraps t volts24 pairMv s).latchFinal
  | .podlPowerTimeout => (execPodlPowerTimeout_keepsStraps s).latchFinal
  | .frameIngress t u f => (execFrameIngress_keepsStraps t u f s).latchFinal
  | .flowIdleExpiry src dst => (execFlowIdleExpiry_keepsStraps src dst s).latchFinal
  | .partnerAsleep t u => (execPartnerAsleep_keepsStraps t u s).latchFinal
  | .syncReceive t u gm => (execSyncReceive_keepsStraps t u gm s).latchFinal
  | .syncSend u => (execSyncSend_keepsStraps u s).latchFinal
  | .announceReceive t u v => (execAnnounceReceive_keepsStraps t u v s).latchFinal
  | .announceSend u => (execAnnounceSend_keepsStraps u s).latchFinal
  | .announceReceiptTimeout u => (execAnnounceReceiptTimeout_keepsStraps u s).latchFinal
  | .syncReceiptTimeout => (execSyncReceiptTimeout_keepsStraps s).latchFinal
  | .pdelayRequestSend u => (execPdelayRequestSend_keepsStraps u s).latchFinal
  | .pdelayResponseReceive t u seq rx tx => (execPdelayResponseReceive_keepsStraps t u seq rx tx s).latchFinal
  | .pdelayRequestReceive t u seq => (execPdelayRequestReceive_keepsStraps t u seq s).latchFinal
  | .priorityHoldExpiry => (execPriorityHoldExpiry_keepsStraps s).latchFinal
  | .gptpSyncHoldExpiry => (execGptpSyncHoldExpiry_keepsStraps s).latchFinal
  | .aafFrameSend k => (execAafFrameSend_keepsStraps k s).latchFinal
  | .crfFrameSend => (execCrfFrameSend_keepsStraps s).latchFinal
  | .aafFrameReceive t f => (execAafFrameReceive_keepsStraps t f s).latchFinal
  | .crfFrameReceive t f => (execCrfFrameReceive_keepsStraps t f s).latchFinal
  | .streamSourceTimeout kind n => (execStreamSourceTimeout_keepsStraps kind n s).latchFinal
  | .recoveryResetTimeout kind n => (execRecoveryResetTimeout_keepsStraps kind n s).latchFinal
  | .admissionEvaluation => (execAdmissionEvaluation_keepsStraps s).latchFinal
  | .tieSlotStart t => (execTieSlotStart_keepsStraps t s).latchFinal
  | .tieHeartbeat t x => (execTieHeartbeat_keepsStraps t x s).latchFinal
  | .tieBlock t b => (execTieBlock_keepsStraps t b s).latchFinal
  | .tieCheckpointChunk t x => (execTieCheckpointChunk_keepsStraps t x s).latchFinal
  | .resyncRequest t x => (execResyncRequest_keepsStraps t x s).latchFinal
  | .takeBackRequest t x => (execTakeBackRequest_keepsStraps t x s).latchFinal
  | .takeBackAccepted t x => (execTakeBackAccepted_keepsStraps t x s).latchFinal
  | .takeBackCommit t x => (execTakeBackCommit_keepsStraps t x s).latchFinal
  | .slumberProposal t x => (execSlumberProposal_keepsStraps t x s).latchFinal
  | .slumberAnswer t x => (execSlumberAnswer_keepsStraps t x s).latchFinal
  | .wakeRequest t x => (execWakeRequest_keepsStraps t x s).latchFinal
  | .blockFrameTimeout => (execBlockFrameTimeout_keepsStraps s).latchFinal
  | .tieDown => (execTieDown_keepsStraps s).latchFinal
  | .tieCollision t => (execTieCollision_keepsStraps t s).latchFinal
  | .resyncReplayComplete t => (execResyncReplayComplete_keepsStraps t s).latchFinal
  | .resyncTimeout => (execResyncTimeout_keepsStraps s).latchFinal
  | .partnerHeartbeatSend => (execPartnerHeartbeatSend_keepsStraps s).latchFinal
  | .partnerContactTimeout => (execPartnerContactTimeout_keepsStraps s).latchFinal
  | .checkpointTake t => (execCheckpointTake_keepsStraps t s).latchFinal
  | .checkpointComplete t => (execCheckpointComplete_keepsStraps t s).latchFinal
  | .checkpointStaleTimeout => (execCheckpointStaleTimeout_keepsStraps s).latchFinal
  | .partnerContactDeadline => (execPartnerContactDeadline_keepsStraps s).latchFinal
  | .leaderLost => (execLeaderLost_keepsStraps s).latchFinal
  | .checkpointRestoreComplete t => (execCheckpointRestoreComplete_keepsStraps t s).latchFinal
  | .takeBackEligible => (execTakeBackEligible_keepsStraps s).latchFinal
  | .takeBackRetry => (execTakeBackRetry_keepsStraps s).latchFinal
  | .takeBackRelease => (execTakeBackRelease_keepsStraps s).latchFinal
  | .reservationCommit t ann fails => (execReservationCommit_keepsStraps t ann fails s).latchFinal
  | .keyCreate spoil => (execKeyCreate_keepsStraps spoil s).latchFinal
  | .keyRenew spoil => (execKeyRenew_keepsStraps spoil s).latchFinal
  | .akDistributionSend => (execAkDistributionSend_keepsStraps s).latchFinal
  | .akDistributionReceive t f => (execAkDistributionReceive_keepsStraps t f s).latchFinal
  | .pairPress t heldNs => (execPairPress_keepsStraps t heldNs s).latchFinal
  | .pairListenExpiry => (execPairListenExpiry_keepsStraps s).latchFinal
  | .windowFrameSend => (execWindowFrameSend_keepsStraps s).latchFinal
  | .windowFrameReceive t f => (execWindowFrameReceive_keepsStraps t f s).latchFinal
  | .joinReceive t f => (execJoinReceive_keepsStraps t f s).latchFinal
  | .joinResend => (execJoinResend_keepsStraps s).latchFinal
  | .keyFrameReceive t f spoil fails => (execKeyFrameReceive_keepsStraps t f spoil fails s).latchFinal
  | .keyFrameTimeout => (execKeyFrameTimeout_keepsStraps s).latchFinal
  | .doneReceive t f fails => (execDoneReceive_keepsStraps t f fails s).latchFinal
  | .doneTimeout eui => (execDoneTimeout_keepsStraps eui s).latchFinal
  | .pairingWindowExpiry => (execPairingWindowExpiry_keepsStraps s).latchFinal
  | .biphaseFrameReceive t n f => (execBiphaseFrameReceive_keepsStraps t n f s).latchFinal
  | .biphaseInputLoss t n rateOut => (execBiphaseInputLoss_keepsStraps t n rateOut s).latchFinal
  | .tdmFrameJudged t p c fs data => (execTdmFrameJudged_keepsStraps t p c fs data s).latchFinal
  | .tdmFrameTimerExpiry p => (execTdmFrameTimerExpiry_keepsStraps p s).latchFinal
  | .tdmRateWindow t p => (execTdmRateWindow_keepsStraps t p s).latchFinal
  | .tdmQualifyDeadline p => (execTdmQualifyDeadline_keepsStraps p s).latchFinal
  | .micEnFall t lowNs => (execMicEnFall_keepsStraps t lowNs s).latchFinal
  | .micEnOpen since => (execMicEnOpen_keepsStraps since s).latchFinal
  | .pdmSettleExpiry line => (execPdmSettleExpiry_keepsStraps line s).latchFinal
  | .usbVbusChange t high => (execUsbVbusChange_keepsStraps t high s).latchFinal
  | .usbBusReset t full dataDone => (execUsbBusReset_keepsStraps t full dataDone s).latchFinal
  | .standardDeviceRequest t p => (execStandardDeviceRequest_keepsStraps t p s).latchFinal
  | .setFeatureRemoteWakeup t => (execSetFeatureRemoteWakeup_keepsStraps t s).latchFinal
  | .setFeatureTestMode t index => (execSetFeatureTestMode_keepsStraps t index s).latchFinal
  | .setConfiguration t value => (execSetConfiguration_keepsStraps t value s).latchFinal
  | .setInterface t itf alt => (execSetInterface_keepsStraps t itf alt s).latchFinal
  | .getCurFrequency t => (execGetCurFrequency_keepsStraps t s).latchFinal
  | .getRangeFrequency t => (execGetRangeFrequency_keepsStraps t s).latchFinal
  | .setCurFrequency t hz => (execSetCurFrequency_keepsStraps t hz s).latchFinal
  | .getCurValidity t => (execGetCurValidity_keepsStraps t s).latchFinal
  | .unsupportedUsbRequest t p => (execUnsupportedUsbRequest_keepsStraps t p s).latchFinal
  | .controlStatusComplete t => (execControlStatusComplete_keepsStraps t s).latchFinal
  | .usbSuspend t => (execUsbSuspend_keepsStraps t s).latchFinal
  | .usbResume t => (execUsbResume_keepsStraps t s).latchFinal
  | .usbOutPacket t b => (execUsbOutPacket_keepsStraps t b s).latchFinal
  | .usbSof t => (execUsbSof_keepsStraps t s).latchFinal
  | .feedbackUpdate t => (execFeedbackUpdate_keepsStraps t s).latchFinal
  | .asrcTrackingStart t u => (execAsrcTrackingStart_keepsStraps t u s).latchFinal
  | .asrcLock t u => (execAsrcLock_keepsStraps t u s).latchFinal
  | .asrcUnlock t u => (execAsrcUnlock_keepsStraps t u s).latchFinal
  | .asrcLockTimeout u ratioOut => (execAsrcLockTimeout_keepsStraps u ratioOut s).latchFinal
  | .asrcFixedRatioEntry t u k => (execAsrcFixedRatioEntry_keepsStraps t u k s).latchFinal
  | .startDetect t => (execStartDetect_keepsStraps t s).latchFinal
  | .startTimeout => (execStartTimeout_keepsStraps s).latchFinal
  | .muteNChange t low => (execMuteNChange_keepsStraps t low s).latchFinal
  | .jobComplete t ctx rerun => (execJobComplete_keepsStraps t ctx rerun s).latchFinal
  | .jobDeadlineExpiry => (execJobDeadlineExpiry_keepsStraps s).latchFinal
  | .stateCommit t ctx => (execStateCommit_keepsStraps t ctx s).latchFinal
  | .statePrefetch t ctx => (execStatePrefetch_keepsStraps t ctx s).latchFinal
  | .visibilityInstant => (execVisibilityInstant_keepsStraps s).latchFinal
  | .laneDriveTimeout => (execLaneDriveTimeout_keepsStraps s).latchFinal
  | .playoutDeadline t kind n => (execPlayoutDeadline_keepsStraps t kind n s).latchFinal
  | .selfCheckPass failing => (execSelfCheckPass_keepsStraps failing s).latchFinal
  | .flashReadTimeout t addr => (execFlashReadTimeout_keepsStraps t addr s).latchFinal
  | .flashOperationComplete t failed => (execFlashOperationComplete_keepsStraps t failed s).latchFinal
  | .flashSuspendRead t => (execFlashSuspendRead_keepsStraps t s).latchFinal
  | .siloTransactionTimeout t addr => execSiloTransactionTimeout_latchFinal t addr s
  | .busTransactionComplete t silo asked => (execBusTransactionComplete_keepsStraps t silo asked s).latchFinal
  | .dmaRegisterSetComplete t ch => (execDmaRegisterSetComplete_keepsStraps t ch s).latchFinal
  | .dmaPaceMark t ch fill => (execDmaPaceMark_keepsStraps t ch fill s).latchFinal
  | .dmaShadowWrite t ch set forBoundary => (execDmaShadowWrite_keepsStraps t ch set forBoundary s).latchFinal
  | .poweredHour fails => (execPoweredHour_keepsStraps fails s).latchFinal
  | .slotWriteStart t => (execSlotWriteStart_keepsStraps t s).latchFinal
  | .slotWriteComplete t marker fails spoil => (execSlotWriteComplete_keepsStraps t marker fails spoil s).latchFinal
  | .imageAdvertSend => (execImageAdvertSend_keepsStraps s).latchFinal
  | .imageAdvertReceive t f => (execImageAdvertReceive_keepsStraps t f s).latchFinal
  | .imageRequestReceive t f => (execImageRequestReceive_keepsStraps t f s).latchFinal
  | .imageChunkSend t => (execImageChunkSend_keepsStraps t s).latchFinal
  | .imageChunkReceive t f => (execImageChunkReceive_keepsStraps t f s).latchFinal
  | .imageRequestRetry => (execImageRequestRetry_keepsStraps s).latchFinal
  | .imageFetchAbandon => (execImageFetchAbandon_keepsStraps s).latchFinal
  | .vinValid t vinMv => (execVinValid_keepsStraps t vinMv s).latchFinal
  | .vinLost t vinMv meanMv => (execVinLost_keepsStraps t vinMv meanMv s).latchFinal
  | .vinRangeTimeout t vinMv => (execVinRangeTimeout_keepsStraps t vinMv s).latchFinal
  | .inputBudgetLoop t vinMv vinMa vsysMv => (execInputBudgetLoop_keepsStraps t vinMv vinMa vsysMv s).latchFinal
  | .batteryAbsentTimeout => (execBatteryAbsentTimeout_keepsStraps s).latchFinal
  | .requestedLimits t => (execRequestedLimits_keepsStraps t s).latchFinal
  | .fixedThresholdEntry => (execFixedThresholdEntry_keepsStraps s).latchFinal
  | .fixedThresholdExit => (execFixedThresholdExit_keepsStraps s).latchFinal
  | .chargeCompleteTimer => (execChargeCompleteTimer_keepsStraps s).latchFinal
  | .chargeTimerExpiry => (execChargeTimerExpiry_keepsStraps s).latchFinal
  | .preconditionTimeout => (execPreconditionTimeout_keepsStraps s).latchFinal
  | .batteryThermalUpdate t x => (execBatteryThermalUpdate_keepsStraps t x s).latchFinal
  | .dischargeCutoff t vbatMv => (execDischargeCutoff_keepsStraps t vbatMv s).latchFinal
  | .batterySwitchOpen => execBatterySwitchOpen_latchFinal s
  | .packOvervoltage t vbatMv => (execPackOvervoltage_keepsStraps t vbatMv s).latchFinal
  | .socRestRecalibrate => (execSocRestRecalibrate_keepsStraps s).latchFinal
  | .thermalModelRelease ch => (execThermalModelRelease_keepsStraps ch s).latchFinal
  | .speakerGuard t ch => (execSpeakerGuard_keepsStraps t ch s).latchFinal
  | .speakerOvercurrent t stage short => (execSpeakerOvercurrent_keepsStraps t stage short s).latchFinal
  | .openLoadDetect t ch cent => (execOpenLoadDetect_keepsStraps t ch cent s).latchFinal
  | .motorCommand t posMv pvddMv ma => (execMotorCommand_keepsStraps t posMv pvddMv ma s).latchFinal
  | .backEmfWindow t bemfMv => (execBackEmfWindow_keepsStraps t bemfMv s).latchFinal
  | .motorPeakCurrent t ma => (execMotorPeakCurrent_keepsStraps t ma s).latchFinal
  | .motPosOutOfRange => (execMotPosOutOfRange_keepsStraps s).latchFinal
  | .motorStall => (execMotorStall_keepsStraps s).latchFinal
  | .stallHoldExpiry => (execStallHoldExpiry_keepsStraps s).latchFinal
  | .plantDieTemperature t deg => (execPlantDieTemperature_keepsStraps t deg s).latchFinal
  | .coreDieOvertemp t deg => (execCoreDieOvertemp_keepsStraps t deg s).latchFinal
  | .sramCorrectedError t loft bank row => (execSramCorrectedError_keepsStraps t loft bank row s).latchFinal
  | .sramUncorrectableError t loft bank row word what => execSramUncorrectableError_latchFinal t loft bank row word what s
  | .scrubPass => (execScrubPass_keepsStraps s).latchFinal
  | .rowCopyComplete t bank row => (execRowCopyComplete_keepsStraps t bank row s).latchFinal
  | .loftRowFillComplete t bank row => (execLoftRowFillComplete_keepsStraps t bank row s).latchFinal
  | .extest t => execExtest_latchFinal t s
  | .idcode t => (execIdcode_keepsStraps t s).latchFinal
  | .samplePreload t => (execSamplePreload_keepsStraps t s).latchFinal
  | .highz t => execHighz_latchFinal t s
  | .clamp t => execClamp_latchFinal t s
  | .bypass t op => (execBypass_keepsStraps t op s).latchFinal
  | .tapReset t => (execTapReset_keepsStraps t s).latchFinal
  | .sharedNodeAddressQuiet => (execSharedNodeAddressQuiet_keepsStraps s).latchFinal
  | .chargerVoltageThreshold t vbatMv => (execChargerVoltageThreshold_keepsStraps t vbatMv s).latchFinal
  | .packConnected t x => (execPackConnected_keepsStraps t x s).latchFinal
  | .holdoverAgingCorrection => (execHoldoverAgingCorrection_keepsStraps s).latchFinal
  | .dataRegisterScan t pins tdi => (execDataRegisterScan_keepsStraps t pins tdi s).latchFinal

/-- The tenant, the node address and the role are what the latched levels say. -/
theorem strapped_of_level {s u : State} (h : u.straps.level = s.straps.level) :
    tenant u = tenant s ∧ node u = node s ∧ role u = role s := by
  simp [tenant, node, role, lvlD, lvl, h]

/-- Settles O8: a command that leaves the device running keeps the latched levels. -/
theorem latchedLevelsAreFinal : Obligations.LatchedLevelsAreFinal := by
  intro c s u l hu hl
  have hfinal : LatchFinal s u := by
    have h := exec_latchFinal c s (by simp [hl])
    rwa [hu, after_next] at h
  obtain ⟨hlevel, hplant⟩ := hfinal
  obtain ⟨hbatt, hamp, hmotor⟩ : _ = _ ∧ _ = _ ∧ _ = _ := by simpa [State.plantLatch] using hplant
  refine ⟨?_, hbatt, hamp, hmotor⟩
  rcases hlevel with hheld | hlevel
  · exact .inl (by simp [hheld])
  · exact .inr (.inr ⟨hlevel, strapped_of_level hlevel⟩)

end Sys2Proof.Machine
end

/-! # The bands of the straps (chapter 2)

The ratio of a code against k/15, brought to whole numbers: 90 (N + 1/2 - 1024 k/15) = 90 N + 45 - 6144 k. -/

section
namespace Sys2Proof.Machine

open Sys2Proof

/-- Ninety times the distance of a code from the centre of level `k`, in codes. -/
def bandOffset (n : Fin 1024) (k : Fin 16) : Int := 90 * (n.val : Int) + 45 - 6144 * (k.val : Int)

theorem bandOffset_cast (n : Fin 1024) (k : Fin 16) :
    (bandOffset n k : Rat) = 90 * ((n.val : Rat) + 1 / 2 - 1024 * (k.val : Rat) / 15) := by
  simp only [bandOffset]
  push_cast
  ring

/-- The bands do not overlap: their centres lie 6144 apart and each reaches 2048 to a side. -/
theorem band_unique (n : Fin 1024) (j k : Fin 16) (hj : (bandOffset n j).natAbs ≤ 2048) (hk : (bandOffset n k).natAbs ≤ 2048) :
    j = k := by
  simp only [bandOffset] at hj hk
  omega

theorem levelOf_eq_some_iff (n : Fin 1024) (k : Fin 16) : levelOf n = some k ↔ (bandOffset n k).natAbs ≤ 2048 := by
  constructor
  · intro h
    simpa [bandOffset] using List.find?_some h
  · intro hk
    cases h : levelOf n with
    | none =>
      have := List.find?_eq_none.mp h k (List.mem_finRange k)
      simp only [decide_eq_true_eq] at this
      exact absurd hk this
    | some j =>
      have hj : (bandOffset n j).natAbs ≤ 2048 := by simpa [bandOffset] using List.find?_some h
      rw [band_unique n j k hj hk]

theorem levelOf_eq_none_iff (n : Fin 1024) : levelOf n = none ↔ ∀ k, 2048 < (bandOffset n k).natAbs := by
  simp only [Option.eq_none_iff_forall_ne_some, ne_eq, levelOf_eq_some_iff, not_le]

theorem marginalIn_iff (k : Fin 16) (n : Fin 1024) : marginalIn k n = true ↔ 1536 < (bandOffset n k).natAbs := by
  simp [marginalIn, bandOffset]

/-- A distance of at most `m` ninetieths, as the two inequalities of R37. -/
theorem natAbs_bandOffset_le_iff (n : Fin 1024) (k : Fin 16) (m : Nat) :
    (bandOffset n k).natAbs ≤ m ↔
      (n.val : Rat) + 1 / 2 - 1024 * (k.val : Rat) / 15 ≤ m / 90
        ∧ 1024 * (k.val : Rat) / 15 - ((n.val : Rat) + 1 / 2) ≤ m / 90 := by
  have hcast : (bandOffset n k).natAbs ≤ m ↔ (bandOffset n k : Rat) ≤ m ∧ -(m : Rat) ≤ bandOffset n k := by
    rw [← Int.cast_natCast (R := Rat) m, ← Int.cast_neg, Int.cast_le, Int.cast_le]
    omega
  rw [hcast, bandOffset_cast]
  constructor <;> rintro ⟨h₁, h₂⟩ <;> constructor <;> linarith

theorem lt_natAbs_bandOffset_iff (n : Fin 1024) (k : Fin 16) (m : Nat) :
    m < (bandOffset n k).natAbs ↔
      (m / 90 : Rat) < (n.val : Rat) + 1 / 2 - 1024 * (k.val : Rat) / 15
        ∨ (m / 90 : Rat) < 1024 * (k.val : Rat) / 15 - ((n.val : Rat) + 1 / 2) := by
  rw [← not_le, natAbs_bandOffset_le_iff, not_and_or, not_le, not_le]

/-- Settles O11: R37's 1024/45 and 1024/60 are 2048 and 1536 ninetieths. -/
theorem strapBands : Obligations.StrapBands := by
  have h45 : ((2048 : Nat) : Rat) / 90 = 1024 / 45 := by norm_num
  have h60 : ((1536 : Nat) : Rat) / 90 = 1024 / 60 := by norm_num
  intro n
  refine ⟨fun k => ⟨?_, fun _ => ?_⟩, ?_⟩
  · rw [levelOf_eq_some_iff, natAbs_bandOffset_le_iff, h45]
  · rw [marginalIn_iff, lt_natAbs_bandOffset_iff, h60]
  · simp only [levelOf_eq_none_iff, lt_natAbs_bandOffset_iff, h45]

end Sys2Proof.Machine
end

/-! # What the latch raises (chapters 2 and 4)

Which faults are active after t_latch: those of the strap lists whose codes stay, whatever way the start goes on. -/

section
namespace Sys2Proof.Machine

open Sys2Proof

/-! ### Active faults -/

theorem isActive_iff (x : BitVec 16) (unit : Nat) (s : State) :
    isActive x unit s = true ↔ ∃ a ∈ s.status.active, a.code = x ∧ a.unit = unit := by
  simp [isActive]

theorem isActive_congr {s u : State} (h : u.status.active = s.status.active) (x : BitVec 16) (unit : Nat) :
    isActive x unit u = isActive x unit s := by
  rw [isActive, isActive, h]

theorem faultEvent_active (et code detail) (s : State) : (faultEvent et code detail s).status.active = s.status.active := by
  simp only [faultEvent, faultEventStatus]
  split <;> rfl

theorem raise_active (code unit detail) (s : State) :
    (raise code unit detail s).status.active
      = if faultStays code then
          ⟨code, faultEffect code, unit⟩ :: s.status.active.filter (fun a => !(a.code == code && a.unit == unit))
        else s.status.active := by
  rw [← faultEvent_active s.gptp.time code detail s]
  rfl

/-- A raised fault is active from then on where it stays, and no other fault's activity changes (R107). -/
theorem isActive_raise (x code : BitVec 16) (unit detail) (s : State) :
    isActive x unit (raise code unit detail s) = true ↔ faultStays code = true ∧ code = x ∨ isActive x unit s = true := by
  rw [isActive_iff, isActive_iff, raise_active]
  cases faultStays code
  · simp
  · by_cases hx : code = x
    · simp [hx]
    · have hother (a : ActiveFault) : a.code = x → a.code ≠ code := fun h h' => hx (h'.symm.trans h)
      simp only [if_true, List.mem_cons, List.mem_filter]
      grind

/-- A clearing event of another code leaves a fault as it is. -/
theorem isActive_clearAll {x code : BitVec 16} (h : x ≠ code) (unit : Nat) (s : State) :
    isActive x unit (clearAll code s) = isActive x unit s := by
  have hactive : (clearAll code s).status.active = s.status.active.filter (fun a => a.code != code) := rfl
  rw [Bool.eq_iff_iff, isActive_iff, isActive_iff, hactive]
  grind

theorem isActive_ite (c : Prop) [Decidable c] (x : BitVec 16) (unit : Nat) (s u : State) :
    isActive x unit (if c then s else u) = if c then isActive x unit s else isActive x unit u :=
  apply_ite (isActive x unit) c s u

/-- Faults raised in order: those of the list are active, and those active before. -/
theorem isActive_raiseAll {x : BitVec 16} (hx : faultStays x = true) (l : List StrapFault) (s : State) :
    isActive x 0 (raiseAll l s) = true ↔ x ∈ l.map (·.code) ∨ isActive x 0 s = true := by
  induction l generalizing s with
  | nil => simp [raiseAll]
  | cons f l ih =>
    have hcons : raiseAll (f :: l) s = raiseAll l (raise f.code 0 f.detail s) := rfl
    have hstays : faultStays f.code = true ∧ f.code = x ↔ x = f.code := by
      constructor
      · exact fun h => h.2.symm
      · rintro rfl
        exact ⟨hx, rfl⟩
    rw [hcons, ih, isActive_raise, hstays, List.map_cons, List.mem_cons]
    tauto

theorem isActive_startReport (x : BitVec 16) (unit : Nat) (s : State) :
    isActive x unit (startReport s) = isActive x unit s := rfl

theorem isActive_heartbeats (x : BitVec 16) (unit : Nat) (s : State) (at_ beats : Nat) (replay : Bool) :
    isActive x unit { s with status := { s.status with heartbeatAt := at_, replayDue := replay, heartbeats := beats } }
      = isActive x unit s := rfl

/-! ### The strap codes -/

/-- A code of class 1, the straps' (Table 4.9). -/
def StrapClass (x : BitVec 16) : Prop := x.toNat / 256 = 0xF1

/-- No clearing event of a start's other classes touches a strap fault. -/
theorem StrapClass.ne {x code : BitVec 16} (hx : StrapClass x) (h : code.toNat / 256 ≠ 0xF1) : x ≠ code := by
  rintro rfl
  exact h hx

/-- A code of class 1 stays active: its effect is SAFE or a warning (Table 2.15). -/
theorem StrapClass.stays {x : BitVec 16} (hx : StrapClass x) : faultStays x = true := by
  have hclass : faultDigits x / 256 = 1 := by
    have h : x.toNat / 256 = 0xF1 := hx
    simp only [faultDigits]
    omega
  simp only [faultStays, faultEffect, hclass, if_true, bne_iff_ne, ne_eq]
  split <;> decide

theorem strapClass_ofNat {n : Nat} (h : n < 256) : StrapClass (BitVec.ofNat 16 (0xF100 + n)) := by
  simp only [StrapClass, BitVec.toNat_ofNat]
  omega

theorem applyLimits_status (s : State) : (applyLimits s).status = s.status := by
  unfold applyLimits
  dsimp only
  (repeat' split) <;> rfl

section
variable {x : BitVec 16} (hx : StrapClass x) (s : State)
include hx

theorem isActive_endSearch : isActive x 0 (endSearch s) = isActive x 0 s := by
  rw [endSearch, isActive_ite, isActive_clearAll (hx.ne (by decide)), ite_self]

theorem isActive_runBmca : isActive x 0 (runBmca s) = isActive x 0 s := by
  unfold runBmca
  extract_lets own g wins port
  split
  · rw [isActive_endSearch hx, isActive_clearAll (hx.ne (by decide))]
    rfl
  · rfl

theorem isActive_selectClears (r) : isActive x 0 (selectClears r s) = isActive x 0 s := by
  have h301 := isActive_clearAll (hx.ne (code := 0xF301#16) (by decide)) 0
  have h300 := isActive_clearAll (hx.ne (code := 0xF300#16) (by decide)) 0
  have h020 := isActive_clearAll (hx.ne (code := 0xF020#16) (by decide)) 0
  simp only [selectClears, isActive_ite, h301, h300, h020, ite_self]

theorem isActive_startFrom (t) : isActive x 0 (startFrom t s) = isActive x 0 s := by
  unfold startFrom wellBegin
  extract_lets
  split
  · exact isActive_selectClears hx _ _
  · rfl

theorem isActive_safeState (et cause code) : isActive x 0 (safeState et cause code s) = isActive x 0 s := by
  have hleds (u : State) : isActive x 0 (refreshLeds u) = isActive x 0 u := rfl
  have hrelease (u : State) : isActive x 0 (releaseStart u) = isActive x 0 u := rfl
  have hlimits (u : State) : isActive x 0 (applyLimits u) = isActive x 0 u :=
    isActive_congr (congrArg Status.active (applyLimits_status u)) _ _
  have hstop (u : State) : isActive x 0 (stopForSafe u) = isActive x 0 u := rfl
  have hmode (u : State) : isActive x 0 (modeSet et .safe cause u) = isActive x 0 u := rfl
  unfold safeState
  rw [hleds, hrelease, hlimits, isActive_runBmca hx, hstop, hmode]
  rfl

theorem isActive_safeAtStart (cause code faults) :
    isActive x 0 (safeAtStart cause code faults s)
      = isActive x 0 (faults (modeFrame s.gptp.time 0 .safe cause (readKeys s))) :=
  (isActive_heartbeats x 0 _ _ _ _).trans ((isActive_startReport x 0 _).trans (isActive_safeState hx _ _ _ _))

end

/-! ### The codes of the lists -/

theorem ofNat16_inj {m n : Nat} (hm : m < 65536) (hn : n < 65536) : BitVec.ofNat 16 m = BitVec.ofNat 16 n ↔ m = n := by
  rw [← BitVec.toNat_inj, BitVec.toNat_ofNat, BitVec.toNat_ofNat, Nat.mod_eq_of_lt hm, Nat.mod_eq_of_lt hn]

/-- The code of the F10S, F11S or F12S of a strap (Table 4.9). -/
abbrev f10 (i : Fin 13) : BitVec 16 := BitVec.ofNat 16 (0xF100 + i.val)
abbrev f11 (i : Fin 13) : BitVec 16 := BitVec.ofNat 16 (0xF110 + i.val)
abbrev f12 (i : Fin 13) : BitVec 16 := BitVec.ofNat 16 (0xF120 + i.val)

/-- A reading of a strap lies in no band. -/
def indeterminate (a b : Fin 1024) : Bool := (levelOf a).isNone || (levelOf b).isNone

section
variable {a b : Fin 1024}

theorem agreed_of_some {k j : Fin 16} (ha : levelOf a = some k) (hb : levelOf b = some j) :
    agreed a b = if k = j then some k else none := by
  simp [agreed, ha, hb]

theorem not_indeterminate_of_some {k j : Fin 16} (ha : levelOf a = some k) (hb : levelOf b = some j) :
    ¬ indeterminate a b = true := by
  simp [indeterminate, ha, hb]

theorem agreed_of_indeterminate (h : indeterminate a b = true) : agreed a b = none := by
  unfold agreed
  split
  · next ha hb => exact absurd h (not_indeterminate_of_some ha hb)
  · rfl

theorem indeterminate_of_not_some (h : ∀ k j, levelOf a = some k → levelOf b = some j → False) : indeterminate a b = true := by
  cases ha : levelOf a with
  | none => simp [indeterminate, ha]
  | some k =>
    cases hb : levelOf b with
    | none => simp [indeterminate, hb]
    | some j => exact (h k j ha hb).elim

end

/-- The code of a strap whose readings agree on no level (R43). -/
def disagreement (a b : Vector (Fin 1024) 13) (i : Fin 13) : BitVec 16 := if indeterminate a[i] b[i] then f10 i else f11 i

section
variable {a b : Vector (Fin 1024) 13} {pre : Option (Fin 1024 × Fin 1024)} {p : Option (Fin 16)} {x : BitVec 16}
  {level : Vector (Option (Fin 16)) 13}

theorem mem_readingFaults (h : x ∈ (readingFaults a b pre p).map (·.code)) :
    (∃ i, agreed a[i] b[i] = none ∧ x = disagreement a b i) ∨ (x = f11 12 ∧ (agreed a[(12 : Fin 13)] b[(12 : Fin 13)]).isSome) := by
  simp only [readingFaults, List.mem_map, List.mem_flatMap, List.mem_finRange, true_and] at h
  obtain ⟨f, ⟨i, hf⟩, rfl⟩ := h
  split at hf
  · next k hk =>
    split at hf
    · split at hf
      · next hi =>
        obtain rfl : i = 12 := Fin.ext hi.1
        rw [List.mem_singleton] at hf
        exact .inr ⟨by rw [hf]; rfl, by rw [hk]; rfl⟩
      · simp at hf
    · simp at hf
  · next hk =>
    refine .inl ⟨i, hk, ?_⟩
    unfold disagreement indeterminate
    split at hf
    · next h =>
      rw [List.mem_singleton] at hf
      rw [hf, if_pos h]
    · next h =>
      rw [List.mem_singleton] at hf
      rw [hf, if_neg h]

theorem disagreement_mem_readingFaults (i : Fin 13) (h : agreed a[i] b[i] = none) :
    disagreement a b i ∈ (readingFaults a b pre p).map (·.code) := by
  simp only [readingFaults, List.mem_map, List.mem_flatMap, List.mem_finRange, true_and]
  refine ⟨⟨disagreement a b i, strapDetail i.val a[i].val b[i].val 0⟩, ⟨i, ?_⟩, rfl⟩
  simp only [h]
  split
  · next hind =>
    have hcode : disagreement a b i = f10 i := if_pos hind
    rw [hcode]
    exact List.mem_singleton_self _
  · next hind =>
    have hcode : disagreement a b i = f11 i := if_neg hind
    rw [hcode]
    exact List.mem_singleton_self _

theorem mem_reservedFaults :
    x ∈ (reservedFaults level a b).map (·.code) ↔ ∃ i k, level[i] = some k ∧ reservedLevel i.val k.val = true ∧ x = f12 i := by
  simp only [reservedFaults, List.mem_map, List.mem_flatMap, List.mem_finRange, true_and]
  constructor
  · rintro ⟨f, ⟨i, hf⟩, rfl⟩
    split at hf
    · next k hk =>
      split at hf
      · next hres =>
        rw [List.mem_singleton] at hf
        exact ⟨i, k, hk, hres, by rw [hf]⟩
      · simp at hf
    · simp at hf
  · rintro ⟨i, k, hk, hres, rfl⟩
    refine ⟨⟨f12 i, strapDetail i.val a[i].val b[i].val 0⟩, ⟨i, ?_⟩, rfl⟩
    simp [hk, hres]

theorem mem_ruleFaults (h : x ∈ (ruleFaults level).map (·.code)) : ∃ n ≤ 7, x = BitVec.ofNat 16 (0xF130 + n) := by
  simp only [ruleFaults, List.mem_map, List.mem_flatMap] at h
  obtain ⟨f, ⟨n, hn, hf⟩, rfl⟩ := h
  refine ⟨n, by simp at hn; omega, ?_⟩
  split at hf
  · split at hf
    · rw [List.mem_singleton] at hf
      rw [hf]
    · simp at hf
  · simp at hf

theorem mem_strapWarnings (h : x ∈ (strapWarnings level a b).map (·.code)) :
    (∃ i : Fin 13, x = BitVec.ofNat 16 (0xF150 + i.val)) ∨ x = 0xF160#16 := by
  simp only [strapWarnings, List.map_append, List.mem_append] at h
  rcases h with h | h
  · simp only [List.mem_map, List.mem_flatMap, List.mem_finRange, true_and] at h
    obtain ⟨f, ⟨i, hf⟩, rfl⟩ := h
    refine .inl ⟨i, ?_⟩
    split at hf
    · split at hf
      · rw [List.mem_singleton] at hf
        rw [hf]
      · simp at hf
    · simp at hf
  · right
    split at h
    · simpa using h
    · simp at h

end

/-- The levels latched from two readings (R43). -/
def latchedLevels (a b : Vector (Fin 1024) 13) : Vector (Option (Fin 16)) 13 := Vector.ofFn fun i : Fin 13 => agreed a[i] b[i]

theorem latchedLevels_get (a b : Vector (Fin 1024) 13) (i : Fin 13) : (latchedLevels a b)[i] = agreed a[i] b[i] := by
  simp [latchedLevels]

/-- The faults of the straps that keep a start from going on, in the order of R65. -/
def hardFaults (a b : Vector (Fin 1024) 13) (pre : Option (Fin 1024 × Fin 1024)) (p : Option (Fin 16)) : List StrapFault :=
  readingFaults a b pre p ++ reservedFaults (latchedLevels a b) a b ++ ruleFaults (latchedLevels a b)

/-- All that the latch raises of the straps. -/
def latchFaults (a b : Vector (Fin 1024) 13) (pre : Option (Fin 1024 × Fin 1024)) (p : Option (Fin 16)) : List StrapFault :=
  hardFaults a b pre p ++ strapWarnings (latchedLevels a b) a b

section
variable {a b : Vector (Fin 1024) 13} {pre : Option (Fin 1024 × Fin 1024)} {p : Option (Fin 16)} {x : BitVec 16}

/-- Whence a code that the latch raises comes. -/
theorem mem_latchFaults_iff :
    x ∈ (latchFaults a b pre p).map (·.code) ↔
      x ∈ (readingFaults a b pre p).map (·.code) ∨ x ∈ (reservedFaults (latchedLevels a b) a b).map (·.code)
        ∨ x ∈ (ruleFaults (latchedLevels a b)).map (·.code) ∨ x ∈ (strapWarnings (latchedLevels a b) a b).map (·.code) := by
  simp only [latchFaults, hardFaults, List.map_append, List.mem_append, or_assoc]

/-- A code below 0xF130 is none of a rule or a warning. -/
theorem mem_latchFaults_of_low {n : Nat} (hn : n < 0xF130) :
    BitVec.ofNat 16 n ∈ (latchFaults a b pre p).map (·.code) ↔
      BitVec.ofNat 16 n ∈ (readingFaults a b pre p).map (·.code)
        ∨ BitVec.ofNat 16 n ∈ (reservedFaults (latchedLevels a b) a b).map (·.code) := by
  rw [mem_latchFaults_iff]
  have hrule : BitVec.ofNat 16 n ∉ (ruleFaults (latchedLevels a b)).map (·.code) := fun h => by
    obtain ⟨m, hm, hcode⟩ := mem_ruleFaults h
    rw [ofNat16_inj (by omega) (by omega)] at hcode
    omega
  have hwarn : BitVec.ofNat 16 n ∉ (strapWarnings (latchedLevels a b) a b).map (·.code) := fun h => by
    rcases mem_strapWarnings h with ⟨i, hcode⟩ | hcode
    · rw [ofNat16_inj (by omega) (by omega)] at hcode
      omega
    · rw [ofNat16_inj (n := 0xF160) (by omega) (by omega)] at hcode
      omega
  simp only [hrule, hwarn, or_false]

theorem f10_mem_latchFaults (i : Fin 13) :
    f10 i ∈ (latchFaults a b pre p).map (·.code) ↔ indeterminate a[i] b[i] = true := by
  rw [mem_latchFaults_of_low (by omega)]
  constructor
  · rintro (h | h)
    · rcases mem_readingFaults h with ⟨j, -, hcode⟩ | ⟨hcode, -⟩
      · unfold disagreement at hcode
        split at hcode
        · next hind =>
          rw [ofNat16_inj (by omega) (by omega)] at hcode
          obtain rfl : i = j := by omega
          exact hind
        · rw [ofNat16_inj (by omega) (by omega)] at hcode
          omega
      · rw [ofNat16_inj (by omega) (by decide)] at hcode
        omega
    · obtain ⟨j, k, -, -, hcode⟩ := mem_reservedFaults.mp h
      rw [ofNat16_inj (by omega) (by omega)] at hcode
      omega
  · intro hind
    have h := disagreement_mem_readingFaults (pre := pre) (p := p) i (agreed_of_indeterminate hind)
    rw [disagreement, if_pos hind] at h
    exact .inl h

theorem f11_mem_latchFaults (i : Fin 13) (hnone : agreed a[i] b[i] = none) (hind : ¬ indeterminate a[i] b[i] = true) :
    f11 i ∈ (latchFaults a b pre p).map (·.code) := by
  have h := disagreement_mem_readingFaults (pre := pre) (p := p) i hnone
  rw [disagreement, if_neg hind] at h
  exact mem_latchFaults_iff.mpr (.inl h)

theorem f12_mem_latchFaults (i : Fin 13) :
    f12 i ∈ (latchFaults a b pre p).map (·.code) ↔ ∃ k, agreed a[i] b[i] = some k ∧ reservedLevel i.val k.val = true := by
  rw [mem_latchFaults_of_low (by omega)]
  constructor
  · rintro (h | h)
    · rcases mem_readingFaults h with ⟨j, -, hcode⟩ | ⟨hcode, -⟩
      · unfold disagreement at hcode
        split at hcode <;> rw [ofNat16_inj (by omega) (by omega)] at hcode <;> omega
      · rw [ofNat16_inj (by omega) (by decide)] at hcode
        have : ((12 : Fin 13) : Nat) = 12 := rfl
        omega
    · obtain ⟨j, k, hlevel, hres, hcode⟩ := mem_reservedFaults.mp h
      rw [ofNat16_inj (by omega) (by omega)] at hcode
      obtain rfl : i = j := by omega
      exact ⟨k, by rwa [latchedLevels_get] at hlevel, hres⟩
  · rintro ⟨k, hlevel, hres⟩
    exact .inr (mem_reservedFaults.mpr ⟨i, k, by rwa [latchedLevels_get], hres, rfl⟩)

end

/-! ### The latch -/

theorem isActive_none {s : State} (h : s.status.active = []) (x : BitVec 16) (unit : Nat) : isActive x unit s = false := by
  rw [isActive, h, List.any_nil]

/-- Strap faults raised where none was active: those of the list are. -/
theorem isActive_raiseAll_of_none {x : BitVec 16} (hx : StrapClass x) (l : List StrapFault) {s : State}
    (h : isActive x 0 s = false) : isActive x 0 (raiseAll l s) = true ↔ x ∈ l.map (·.code) := by
  simp [isActive_raiseAll hx.stays, h]

theorem podlLatch_active (s : State) : (podlLatch s).status.active = s.status.active := by
  unfold podlLatch podlYield
  split <;> rfl

theorem preLevel_congr {s u : State} (h : s.straps.pre = u.straps.pre) : preLevel s = preLevel u := by
  rw [preLevel, preLevel, h]

theorem isActive_safeEntry (x : BitVec 16) (s : State) (et cause) :
    isActive x 0 (modeFrame et 0 .safe cause (readKeys (safeLinks s))) = isActive x 0 s := rfl

/-- However the start goes on from t_latch, the levels are those both readings agree on, and the strap faults active are those the
latch raised (R43, R65). -/
theorem strapLatch_outcome (s : State) (a b : Vector (Fin 1024) 13) (hawake : awake s = true) (hlatch : s.start.tLatch = none)
    (hfirst : s.straps.first = some a) (hsecond : s.straps.second = some b) (hactive : s.status.active = []) :
    Answers (execStrapLatch s) fun u => u.straps.level = latchedLevels a b ∧ ∀ x, StrapClass x →
      (isActive x 0 u = true ↔ x ∈ (latchFaults a b s.straps.pre (preLevel s)).map (·.code)) := by
  unfold execStrapLatch
  split
  · next a' b' ha hb =>
    obtain rfl : a = a' := Option.some.inj (hfirst.symm.trans ha)
    obtain rfl : b = b' := Option.some.inj (hsecond.symm.trans hb)
    rw [if_neg (by simp [hawake, hlatch])]
    extract_lets s₁ level _ _ s₂ hard warn s₃ field _ _ s₄ et _ s₅ s₆ raised _
    have hpre₁ : s₁.straps.pre = s.straps.pre := congrArg Straps.pre (State.upTo_straps s _)
    have hactive₁ : s₁.status.active = [] := (State.upTo_active s _).trans hactive
    clear_value s₁
    have hlevel₂ : s₂.straps.level = latchedLevels a b := rfl
    have hactive₂ : s₂.status.active = [] := hactive₁
    have hpre : preLevel s = preLevel s₂ := preLevel_congr hpre₁.symm
    have hall : latchFaults a b s.straps.pre (preLevel s) = hard ++ warn := by
      rw [hpre, ← hpre₁]
      rfl
    rw [hall]
    clear_value s₂ hard warn
    have hlevel₃ : s₃.straps.level = latchedLevels a b := by simpa [s₃] using hlevel₂
    have hactive₃ : s₃.status.active = [] := (podlLatch_active _).trans hactive₂
    clear_value s₃ field
    have hlevel₄ : s₄.straps.level = latchedLevels a b := hlevel₃
    have hactive₄ : s₄.status.active = [] := hactive₃
    clear_value s₄
    have hlevel₅ : s₅.straps.level = latchedLevels a b := by
      dsimp only [s₅]
      split
      · exact hlevel₄
      · exact hlevel₄
    have hactive₅ : s₅.status.active = [] := by
      dsimp only [s₅]
      split
      · exact hactive₄
      · exact hactive₄
    clear_value s₅
    have hlevel₆ : s₆.straps.level = latchedLevels a b := hlevel₅
    have hnone (x : BitVec 16) : isActive x 0 s₆ = false := isActive_none hactive₅ x 0
    clear_value s₆
    cases hard with
    | cons f l =>
      refine ⟨by simpa using hlevel₆, fun x hx => ?_⟩
      rw [isActive_safeAtStart hx, isActive_raiseAll_of_none hx]
      exact (isActive_safeEntry x s₆ _ _).trans (hnone x)
    | nil =>
      have hwarn (x : BitVec 16) (hx : StrapClass x) := isActive_raiseAll_of_none hx warn (hnone x)
      dsimp only [List.nil_append]
      split
      · split
        · exact ⟨by simpa [raised] using hlevel₆, hwarn⟩
        · refine ⟨by simpa using hlevel₆, fun x hx => ?_⟩
          have hne : 0xF010#16 ≠ x := (hx.ne (by decide)).symm
          rw [isActive_safeAtStart hx, isActive_raise, isActive_raiseAll_of_none hx]
          · simp only [hne, and_false, false_or]
          · exact (isActive_safeEntry x s₆ _ _).trans (hnone x)
      · refine ⟨by simpa using hlevel₆, fun x hx => ?_⟩
        rw [isActive_startFrom hx]
        exact hwarn x hx
  · next h => exact (h a b hfirst hsecond).elim

theorem Answers.imp {r : Result} {P Q : State → Prop} (h : Answers r P) (hPQ : ∀ u, P u → Q u) : Answers r Q := by
  cases r
  case next u => exact hPQ u h
  all_goals exact h.elim

/-- Settles O12: the levels and the active strap faults after the latch are those of the lists of R65, and each list's codes are its
straps'. -/
theorem strapReadingsAgree : Obligations.StrapReadingsAgree := by
  intro s a b hawake hlatch hfirst hsecond hactive
  rw [runs_iff]
  refine Answers.imp (strapLatch_outcome s a b hawake hlatch hfirst hsecond hactive) ?_
  rintro u ⟨hlevel, hfaults⟩ i
  have hlevelAt : u.straps.level[i] = agreed a[i] b[i] := by rw [hlevel, latchedLevels_get]
  have hclass11 : StrapClass (f11 i) := by
    rw [f11, show 0xF110 + i.val = 0xF100 + (16 + i.val) by omega]
    exact strapClass_ofNat (by omega)
  have hclass12 : StrapClass (f12 i) := by
    rw [f12, show 0xF120 + i.val = 0xF100 + (32 + i.val) by omega]
    exact strapClass_ofNat (by omega)
  have h10 := (hfaults (f10 i) (strapClass_ofNat (by omega))).trans (f10_mem_latchFaults i)
  have h12 := (hfaults (f12 i) hclass12).trans (f12_mem_latchFaults i)
  have hno12 (hnone : agreed a[i] b[i] = none) : isActive (f12 i) 0 u = false := by
    refine Bool.eq_false_iff.mpr fun hf12 => ?_
    obtain ⟨k, hk, -⟩ := h12.mp hf12
    rw [hnone] at hk
    contradiction
  split
  · next k j ha hb =>
    have hagreed := agreed_of_some ha hb
    have hdet := not_indeterminate_of_some ha hb
    have hno10 : isActive (f10 i) 0 u = false := Bool.eq_false_iff.mpr fun hf10 => hdet (h10.mp hf10)
    split
    · next heq =>
      rw [if_pos heq] at hagreed
      refine ⟨hlevelAt.trans hagreed, hno10, h12.trans ⟨?_, fun hres => ⟨k, hagreed, hres⟩⟩⟩
      rintro ⟨m, hm, hres⟩
      rwa [Option.some.inj (hagreed.symm.trans hm)]
    · next hne =>
      rw [if_neg hne] at hagreed
      exact ⟨hlevelAt.trans hagreed, hno10, (hfaults _ hclass11).mpr (f11_mem_latchFaults i hagreed hdet), hno12 hagreed⟩
  · next hnot =>
    have hind := indeterminate_of_not_some hnot
    have hnone := agreed_of_indeterminate hind
    exact ⟨hlevelAt.trans hnone, h10.mpr hind, hno12 hnone⟩

end Sys2Proof.Machine
end

/-! # PAIR at a start (chapter 3)

When a press counts, and what the failed-start counter makes of a start at t_latch. -/

section
namespace Sys2Proof.Machine

open Sys2Proof

/-! ### Presses -/

theorem mode_ne_none_of_mayPair {s : State} (h : mayPair s = true) : s.start.mode ≠ none := by
  intro hmode
  simp [mayPair, inMode, hmode] at h

/-- A hold of PAIR that began before t_run, or within 5 s of t_reset, only moves the time base on (R81). -/
theorem execPairPress_of_early (t held : Nat) (s : State)
    (h : max s.now t < s.start.tReset + 5 * sec1 + held ∨ s.start.tRun = none ∨ s.start.mode = none) :
    execPairPress t held s = .next (s.upTo t) := by
  unfold execPairPress
  extract_lets v began
  refine if_pos ?_
  simp only [Bool.or_eq_true, Bool.not_eq_true', decide_eq_false_iff_not]
  rcases h with hearly | hrun | hmode
  · have hnot : ¬ began := fun hbegan => by
      have hsince := hbegan.2
      rw [State.upTo_now, State.upTo_start] at hsince
      omega
    exact .inr hnot
  · have hnone : v.start.tRun.isNone = true := by simp [v, hrun]
    exact .inl (.inl (.inl (.inr hnone)))
  · have hno : mayPair v = false := by
      refine Bool.eq_false_iff.mpr fun hmay => mode_ne_none_of_mayPair hmay ?_
      simp [v, hmode]
    exact .inl (.inl (.inl (.inl hno)))

/-- Settles O14: each of the three cases fails one of the conditions under which a press counts. -/
theorem pairingPressesOnlyWhileRunning : Obligations.PairingPressesOnlyWhileRunning := by
  intro s t held h
  exact ⟨s.upTo t, execPairPress_of_early t held s h, rfl⟩

/-! ### The record of the start -/

/-- What a start writes down of itself: its own fields and the always-on domain's. -/
def State.startRecord (s : State) : StartUnit × AlwaysOn := (s.start, s.aon)

theorem State.of_startRecord {s : State} {r : StartUnit} {a : AlwaysOn} (h : s.startRecord = (r, a)) : s.start = r ∧ s.aon = a :=
  Prod.mk.inj h

theorem startRecord_ite (c : Prop) [Decidable c] (s u : State) :
    (if c then s else u).startRecord = if c then s.startRecord else u.startRecord :=
  apply_ite State.startRecord c s u

section
variable (s : State)

theorem endSearch_startRecord : (endSearch s).startRecord = s.startRecord := by
  unfold endSearch
  split <;> rfl

theorem runBmca_startRecord : (runBmca s).startRecord = s.startRecord := by
  unfold runBmca
  extract_lets own g wins port
  split
  · rw [endSearch_startRecord]
    rfl
  · rfl

theorem selectClears_startRecord (r) : (selectClears r s).startRecord = s.startRecord := by
  have hclear (c) (u : State) : (clearAll c u).startRecord = u.startRecord := rfl
  simp only [selectClears, startRecord_ite, hclear, ite_self]

theorem wellBegin_startRecord (t) : (wellBegin t s).startRecord = s.startRecord := by
  unfold wellBegin
  extract_lets
  split
  · exact selectClears_startRecord _ _
  · rfl

theorem applyLimits_startRecord : (applyLimits s).startRecord = s.startRecord := by
  unfold applyLimits
  dsimp only
  (repeat' split) <;> rfl

theorem raise_startRecord (code unit detail) : (raise code unit detail s).startRecord = s.startRecord := by
  simp only [State.startRecord, raise_start, raise_aon]

theorem raiseAll_startRecord (l) : (raiseAll l s).startRecord = s.startRecord := by
  rw [raiseAll, foldl_keeps State.startRecord]
  exact fun u f => raise_startRecord u _ _ _

theorem startReport_startRecord : (startReport s).startRecord = s.startRecord := by
  simp only [State.startRecord, startReport_start, startReport_aon]

theorem modeFrame_startRecord (et left m code) : (modeFrame et left m code s).startRecord = s.startRecord := by
  simp only [State.startRecord, modeFrame, genFrame_start, genFrame_aon]

/-- A start that goes on has its base instant, waits for no PAIR, and keeps the rest of its record (R80). -/
theorem startFrom_startRecord (t) :
    (startFrom t s).startRecord = ({ s.start with base := some t, waitPair := false }, s.aon) :=
  wellBegin_startRecord _ t

/-- SAFE entered has its mode, its code and its cause, and leaves what the always-on domain holds (R79). -/
theorem safeState_startRecord (et cause code) :
    (safeState et cause code s).startRecord
      = ({ s.start with safeCode := code, fault := cause, mode := some .safe, bpoNext := true }, s.aon) := by
  have hleds (u : State) : (refreshLeds u).startRecord = u.startRecord := rfl
  have hrelease (u : State) : (releaseStart u).startRecord = u.startRecord := rfl
  unfold safeState
  rw [hleds, hrelease, applyLimits_startRecord, runBmca_startRecord]
  rfl

theorem safeAtStart_startRecord (cause code) {faults : State → State} (h : ∀ u, (faults u).startRecord = u.startRecord) :
    (safeAtStart cause code faults s).startRecord
      = ({ s.start with safeCode := code, fault := cause, mode := some .safe, bpoNext := true }, s.aon) := by
  have hkeys : (readKeys s).startRecord = s.startRecord := rfl
  have hstatus (u : State) (st : Status) : ({ u with status := st } : State).startRecord = u.startRecord := rfl
  have hfaults := h (modeFrame s.gptp.time 0 .safe cause (readKeys s))
  rw [modeFrame_startRecord, hkeys] at hfaults
  obtain ⟨hstart, haon⟩ := State.of_startRecord hfaults
  rw [safeAtStart, hstatus, startReport_startRecord, safeState_startRecord, hstart, haon]

end

/-! ### What the start's steps leave of an active fault -/

/-- The codes whose active faults the steps of a start may end: gPTP's, and those that a selection of a reference ends (R135).
Whatever other code is active stays so. -/
def startClears : List (BitVec 16) := [0xF310#16, 0xF470#16, 0xF301#16, 0xF300#16, 0xF020#16]

section
variable {x : BitVec 16} (hx : x ∉ startClears) (s : State)
include hx

theorem isActive_clearAll_of_startClears {code : BitVec 16} (hcode : code ∈ startClears) :
    isActive x 0 (clearAll code s) = isActive x 0 s :=
  isActive_clearAll (ne_of_mem_of_not_mem hcode hx).symm 0 s

theorem isActive_endSearch_of_not_startClears : isActive x 0 (endSearch s) = isActive x 0 s := by
  rw [endSearch, isActive_ite, isActive_clearAll_of_startClears hx _ (by decide), ite_self]

theorem isActive_runBmca_of_not_startClears : isActive x 0 (runBmca s) = isActive x 0 s := by
  unfold runBmca
  extract_lets own g wins port
  split
  · rw [isActive_endSearch_of_not_startClears hx, isActive_clearAll_of_startClears hx _ (by decide)]
    rfl
  · rfl

theorem isActive_selectClears_of_not_startClears (r) : isActive x 0 (selectClears r s) = isActive x 0 s := by
  have hclear (code) (hcode : code ∈ startClears) (u : State) := isActive_clearAll_of_startClears hx u hcode
  simp only [selectClears, isActive_ite, hclear 0xF301#16 (by decide), hclear 0xF300#16 (by decide),
    hclear 0xF020#16 (by decide), ite_self]

theorem isActive_startFrom_of_not_startClears (t) : isActive x 0 (startFrom t s) = isActive x 0 s := by
  unfold startFrom wellBegin
  extract_lets
  split
  · exact isActive_selectClears_of_not_startClears hx _ _
  · rfl

theorem isActive_safeState_of_not_startClears (et cause code) :
    isActive x 0 (safeState et cause code s) = isActive x 0 s := by
  have hleds (u : State) : isActive x 0 (refreshLeds u) = isActive x 0 u := rfl
  have hrelease (u : State) : isActive x 0 (releaseStart u) = isActive x 0 u := rfl
  have hlimits (u : State) : isActive x 0 (applyLimits u) = isActive x 0 u :=
    isActive_congr (congrArg Status.active (applyLimits_status u)) _ _
  unfold safeState
  rw [hleds, hrelease, hlimits, isActive_runBmca_of_not_startClears hx]
  rfl

theorem isActive_safeAtStart_of_not_startClears (cause code faults) :
    isActive x 0 (safeAtStart cause code faults s)
      = isActive x 0 (faults (modeFrame s.gptp.time 0 .safe cause (readKeys s))) :=
  (isActive_heartbeats x 0 _ _ _ _).trans
    ((isActive_startReport x 0 _).trans (isActive_safeState_of_not_startClears hx _ _ _ _))

end

theorem strapClass_of_between {n : Nat} (hlow : 0xF100 ≤ n) (hhigh : n < 0xF200) : StrapClass (BitVec.ofNat 16 n) := by
  simp only [StrapClass, BitVec.toNat_ofNat]
  omega

/-- The latch raises codes of class 1 alone (R65). -/
theorem strapClass_of_mem_latchFaults {a b : Vector (Fin 1024) 13} {pre p} {x : BitVec 16}
    (hmem : x ∈ (latchFaults a b pre p).map (·.code)) : StrapClass x := by
  rcases mem_latchFaults_iff.mp hmem with h | h | h | h
  · rcases mem_readingFaults h with ⟨i, -, rfl⟩ | ⟨rfl, -⟩
    · unfold disagreement
      split
      · exact strapClass_of_between (by omega) (by omega)
      · exact strapClass_of_between (by omega) (by omega)
    · exact strapClass_of_between (by decide) (by decide)
  · obtain ⟨i, k, -, -, rfl⟩ := mem_reservedFaults.mp h
    exact strapClass_of_between (by omega) (by omega)
  · obtain ⟨n, hn, rfl⟩ := mem_ruleFaults h
    exact strapClass_of_between (by omega) (by omega)
  · rcases mem_strapWarnings h with ⟨i, rfl⟩ | rfl
    · exact strapClass_of_between (by omega) (by omega)
    · exact strapClass_of_between (n := 0xF160) (by decide) (by decide)

/-- Strap faults raised leave a fault of another class as it is. -/
theorem isActive_raiseAll_of_strapClass {x : BitVec 16} (hx : ¬ StrapClass x) (hstays : faultStays x = true) {l : List StrapFault}
    (hl : ∀ y ∈ l.map (·.code), StrapClass y) (s : State) : isActive x 0 (raiseAll l s) = isActive x 0 s := by
  rw [Bool.eq_iff_iff, isActive_raiseAll hstays]
  exact or_iff_right fun hmem => hx (hl x hmem)

/-! ### The counter at t_latch -/

/-- What holds of the state from which a start goes its way at t_latch: the instant is noted, and no fault is active yet. -/
structure AtLatch (s v : State) : Prop where
  failed : v.aon.failed = s.aon.failed
  last3 : v.aon.last3 = s.aon.last3
  pair : v.lands.pair = s.lands.pair
  mode : v.start.mode = s.start.mode
  base : v.start.base = s.start.base
  tLatch : v.start.tLatch = some v.now
  active : v.status.active = []

/-- The way a start goes from t_latch: SAFE for a strap's fault, else the check of the counter (R66, R78). -/
def latchWay (hard warn : List StrapFault) (v : State) : State :=
  match hard with
  | f :: _ => safeAtStart f.code f.code (raiseAll (hard ++ warn)) (safeLinks v)
  | [] =>
    if v.aon.failed = 3 then
      if v.lands.pair then { raiseAll warn v with start := { (raiseAll warn v).start with waitPair := true } }
      else safeAtStart 0xF010#16 v.aon.last3[0] (fun u => raise 0xF010#16 0 [] (raiseAll warn u)) (safeLinks v)
    else startFrom v.now (raiseAll warn v)

theorem AtLatch.podlLatch {s v : State} (h : AtLatch s v) : AtLatch s (podlLatch v) := by
  unfold Machine.podlLatch podlYield
  split
  · exact { h with }
  · exact { h with }

/-- The latch notes its instant and what is logged there, and then the start goes its way (R43, R65). -/
theorem execStrapLatch_way (s : State) (a b : Vector (Fin 1024) 13) (hawake : awake s = true) (hlatch : s.start.tLatch = none)
    (hfirst : s.straps.first = some a) (hsecond : s.straps.second = some b) (hactive : s.status.active = []) :
    Answers (execStrapLatch s) fun u => ∃ v, AtLatch s v
      ∧ u = latchWay (hardFaults a b s.straps.pre (preLevel s)) (strapWarnings (latchedLevels a b) a b) v := by
  unfold execStrapLatch
  split
  · next a' b' ha hb =>
    obtain rfl : a = a' := Option.some.inj (hfirst.symm.trans ha)
    obtain rfl : b = b' := Option.some.inj (hsecond.symm.trans hb)
    rw [if_neg (by simp [hawake, hlatch])]
    extract_lets s₁ level _ _ s₂ hard warn s₃ field _ _ s₄ et _ s₅ s₆ raised _
    have hpre₁ : s₁.straps.pre = s.straps.pre := congrArg Straps.pre (State.upTo_straps s _)
    have hstart₁ : s₁.start = s.start := State.upTo_start s _
    have haon₁ : s₁.aon = s.aon := State.upTo_aon s _
    have hlands₁ : s₁.lands = s.lands := State.upTo_lands s _
    have hactive₁ : s₁.status.active = [] := (State.upTo_active s _).trans hactive
    clear_value s₁
    have h₂ : AtLatch s s₂ :=
      { failed := (congrArg AlwaysOn.failed haon₁ :), last3 := (congrArg AlwaysOn.last3 haon₁ :), pair := (congrArg LandsIn.pair hlands₁ :)
        mode := (congrArg StartUnit.mode hstart₁ :), base := (congrArg StartUnit.base hstart₁ :)
        tLatch := rfl, active := hactive₁ }
    have hhard : hardFaults a b s.straps.pre (preLevel s) = hard := by
      rw [preLevel_congr (u := s₂) hpre₁.symm, ← hpre₁]
      rfl
    have hwarn : strapWarnings (latchedLevels a b) a b = warn := rfl
    rw [hhard, hwarn]
    clear_value s₂ hard warn
    have h₃ : AtLatch s s₃ := AtLatch.podlLatch { h₂ with }
    clear_value s₃ field
    have h₄ : AtLatch s s₄ := { h₃ with }
    clear_value s₄
    have h₅ : AtLatch s s₅ := by
      dsimp only [s₅]
      split
      · exact { h₄ with }
      · exact h₄
    clear_value s₅
    have h₆ : AtLatch s s₆ := { h₅ with }
    clear_value s₆
    unfold latchWay
    cases hard with
    | cons f l => exact ⟨s₆, h₆, rfl⟩
    | nil =>
      dsimp only
      split
      · split
        · next hfailed hpair => exact ⟨s₆, h₆, by rw [if_pos hfailed, if_pos hpair]⟩
        · next hfailed hpair => exact ⟨s₆, h₆, by rw [if_pos hfailed, if_neg hpair]⟩
      · next hfailed => exact ⟨s₆, h₆, by rw [if_neg hfailed]⟩
  · next h => exact (h a b hfirst hsecond).elim

section
variable (hard warn : List StrapFault) (v : State)

theorem latchWay_strapFault (f : StrapFault) :
    latchWay (f :: hard) warn v = safeAtStart f.code f.code (raiseAll (f :: hard ++ warn)) (safeLinks v) := rfl

theorem latchWay_safe (hfailed : v.aon.failed = 3) (hpair : v.lands.pair = false) :
    latchWay [] warn v
      = safeAtStart 0xF010#16 v.aon.last3[0] (fun u => raise 0xF010#16 0 [] (raiseAll warn u)) (safeLinks v) := by
  simp only [latchWay, hfailed, hpair, if_true, Bool.false_eq_true, if_false]

theorem latchWay_wait (hfailed : v.aon.failed = 3) (hpair : v.lands.pair = true) :
    latchWay [] warn v = { raiseAll warn v with start := { (raiseAll warn v).start with waitPair := true } } := by
  simp only [latchWay, hfailed, hpair, if_true]

theorem latchWay_goesOn (hfailed : v.aon.failed ≠ 3) : latchWay [] warn v = startFrom v.now (raiseAll warn v) := by
  simp only [latchWay, hfailed, if_false]

/-- A start sent to SAFE by the counter records the mode and F010 (R78). -/
theorem latchWay_safe_startRecord (hfailed : v.aon.failed = 3) (hpair : v.lands.pair = false) :
    (latchWay [] warn v).startRecord
      = ({ v.start with
            base := some v.now, safeCode := v.aon.last3[0], fault := 0xF010#16, mode := some .safe, bpoNext := true }, v.aon) := by
  rw [latchWay_safe warn v hfailed hpair, safeAtStart_startRecord]
  · rfl
  · intro u
    rw [raise_startRecord, raiseAll_startRecord]

/-- A start that waits for PAIR records that alone (R78). -/
theorem latchWay_wait_startRecord (hfailed : v.aon.failed = 3) (hpair : v.lands.pair = true) :
    (latchWay [] warn v).startRecord = ({ v.start with waitPair := true }, v.aon) := by
  obtain ⟨hstart, haon⟩ := State.of_startRecord (raiseAll_startRecord v warn)
  rw [latchWay_wait warn v hfailed hpair, State.startRecord, hstart, haon]

/-- A start that goes on counts from t_latch (R78, Table 3.4). -/
theorem latchWay_goesOn_startRecord (hfailed : v.aon.failed ≠ 3) :
    (latchWay [] warn v).startRecord = ({ v.start with base := some v.now, waitPair := false }, v.aon) := by
  obtain ⟨hstart, haon⟩ := State.of_startRecord (raiseAll_startRecord v warn)
  rw [latchWay_goesOn warn v hfailed, startFrom_startRecord, hstart, haon]

/-- Whichever way the start goes, the counter stays as it is (R78). -/
theorem latchWay_aon : (latchWay hard warn v).aon = v.aon := by
  cases hard with
  | cons f l =>
    have hrecord := safeAtStart_startRecord (safeLinks v) f.code f.code (faults := raiseAll (f :: l ++ warn))
      fun u => raiseAll_startRecord u _
    rw [latchWay_strapFault, (State.of_startRecord hrecord).2]
    rfl
  | nil =>
    by_cases hfailed : v.aon.failed = 3
    · cases hpair : v.lands.pair with
      | true => exact (State.of_startRecord (latchWay_wait_startRecord warn v hfailed hpair)).2
      | false => exact (State.of_startRecord (latchWay_safe_startRecord warn v hfailed hpair)).2
    · exact (State.of_startRecord (latchWay_goesOn_startRecord warn v hfailed)).2

variable (hclass : ∀ x ∈ (hard ++ warn).map (·.code), StrapClass x) (hactive : v.status.active = [])
include hclass hactive

/-- F010 is active after the latch where the counter sent the start to SAFE, and there alone (R78). -/
theorem isActive_latchWay_F010 :
    isActive 0xF010#16 0 (latchWay hard warn v) = true ↔ hard = [] ∧ v.aon.failed = 3 ∧ v.lands.pair = false := by
  have hkeeps : 0xF010#16 ∉ startClears := by decide
  have hother : ¬ StrapClass 0xF010#16 := by unfold StrapClass; decide
  have hraise (l) (hl : ∀ x ∈ l.map StrapFault.code, StrapClass x) (u : State) (hu : u.status.active = []) :
      isActive 0xF010#16 0 (raiseAll l u) = false :=
    (isActive_raiseAll_of_strapClass hother (by decide) hl u).trans (isActive_none hu _ _)
  cases hard with
  | cons f l =>
    rw [latchWay_strapFault, isActive_safeAtStart_of_not_startClears hkeeps, hraise _ hclass]
    · simp
    · exact hactive
  | nil =>
    by_cases hfailed : v.aon.failed = 3
    · cases hpair : v.lands.pair with
      | true =>
        have hno : isActive 0xF010#16 0 (latchWay [] warn v) = false := by
          rw [latchWay_wait warn v hfailed hpair]
          exact hraise warn hclass v hactive
        simp [hno]
      | false =>
        have hyes : isActive 0xF010#16 0 (latchWay [] warn v) = true := by
          rw [latchWay_safe warn v hfailed hpair, isActive_safeAtStart_of_not_startClears hkeeps, isActive_raise]
          exact .inl ⟨by decide, rfl⟩
        simp [hyes, hfailed]
    · have hno : isActive 0xF010#16 0 (latchWay [] warn v) = false := by
        rw [latchWay_goesOn warn v hfailed, isActive_startFrom_of_not_startClears hkeeps, hraise warn hclass v hactive]
      simp [hno, hfailed]

end

/-- Settles O13: each way a start can go from t_latch has its own record, and one alone raises F010. -/
theorem counterCheckedAtLatch : Obligations.CounterCheckedAtLatch := by
  intro s a b hawake hlatch hmode hbase _ hfirst hsecond hactive level hard
  rw [runs_iff]
  change Answers (execStrapLatch s) _
  have hway := execStrapLatch_way s a b hawake hlatch hfirst hsecond hactive
  refine hway.imp ?_
  rintro u ⟨v, hv, rfl⟩
  have hhard : hardFaults a b s.straps.pre (preLevel s) = hard := rfl
  have hclass (x) (hmem : x ∈ (hard ++ strapWarnings (latchedLevels a b) a b).map (·.code)) : StrapClass x :=
    strapClass_of_mem_latchFaults hmem
  rw [hhard, latchWay_aon, isActive_latchWay_F010 hard _ v hclass hv.active, hv.failed, hv.last3, hv.pair]
  refine ⟨rfl, rfl, Iff.rfl, ?_, ?_, ?_⟩
  · rintro ⟨hnone, hfailed, hpair⟩
    obtain ⟨hstart, -⟩ := State.of_startRecord
      (latchWay_safe_startRecord (strapWarnings (latchedLevels a b) a b) v (hv.failed.trans hfailed) (hv.pair.trans hpair))
    rw [hnone, hstart]
    exact ⟨rfl, rfl⟩
  · rintro ⟨hnone, hfailed, hpair⟩
    obtain ⟨hstart, -⟩ := State.of_startRecord
      (latchWay_wait_startRecord (strapWarnings (latchedLevels a b) a b) v (hv.failed.trans hfailed) (hv.pair.trans hpair))
    rw [hnone, hstart]
    exact ⟨hv.mode.trans hmode, rfl, hv.base.trans hbase⟩
  · rintro ⟨hnone, hfailed⟩
    obtain ⟨hstart, -⟩ := State.of_startRecord
      (latchWay_goesOn_startRecord (strapWarnings (latchedLevels a b) a b) v (hv.failed ▸ hfailed))
    rw [hnone, hstart]
    exact ⟨hv.mode.trans hmode, rfl, hv.tLatch.symm⟩

end Sys2Proof.Machine
end

/-! # The switch forwards a frame once (chapter 7)

What R163 makes of a flow's window and of the flow table, and how a frame that passes the rules of R162 comes to it. -/

section
namespace Sys2Proof.Machine

open Sys2Proof

/-! ### The flow table -/

theorem foldl_max_le_iff (l : List Nat) (a b : Nat) : l.foldl max a ≤ b ↔ a ≤ b ∧ ∀ q ∈ l, q ≤ b := by
  induction l generalizing a with
  | nil => simp
  | cons x l ih => rw [List.foldl_cons, ih, max_le_iff, List.forall_mem_cons, and_assoc]

theorem flowAdmits_iff (w : Flow) (pn : Nat) : flowAdmits w pn = true ↔ pn ∉ w.seen ∧ ∀ q ∈ w.seen, q ≤ pn + 32 := by
  simp [flowAdmits, foldl_max_le_iff]

/-- A flow that has forwarded a packet number at an instant (R163). -/
def Flow.passed (now pn : Nat) (w : Flow) : Flow := { w with seen := (pn :: w.seen).take 32, last := now }

/-- The flow of a frame in a table: the one of its source and destination addresses (R163). -/
abbrev flowOf (f : NetFrame) (l : List Flow) : Option Flow := l.find? (fun w => w.src == f.src && w.dst == f.dst)

section
variable {f : NetFrame} {l : List Flow} (now pn : Nat)

theorem forwardFlow_of_refused {w : Flow} (hflow : flowOf f l = some w) (hrefuses : flowAdmits w pn = false) : forwardFlow now f pn l = none := by
  simp [forwardFlow, hflow, hrefuses]

theorem forwardFlow_of_full (hflow : flowOf f l = none) (hfull : 9216 ≤ l.length) :
    forwardFlow now f pn l = none := by
  simp [forwardFlow, hflow, hfull]

theorem forwardFlow_of_new (hflow : flowOf f l = none) (hroom : l.length < 9216) :
    forwardFlow now f pn l = some (l ++ [{ src := f.src, dst := f.dst, seen := [pn], last := now }]) := by
  simp [forwardFlow, hflow, hroom]

/-- The frame's flow is the one whose addresses stay, so it is still the one found, with the packet number in its window. -/
theorem forwardFlow_of_admitted {w : Flow} (hflow : flowOf f l = some w) (hadmits : flowAdmits w pn = true) :
    ∃ l', forwardFlow now f pn l = some l' ∧ flowOf f l' = some (w.passed now pn) := by
  refine ⟨l.map (fun x => if x.src == f.src && x.dst == f.dst then x.passed now pn else x), ?_, ?_⟩
  · simp [forwardFlow, hflow, hadmits, Flow.passed]
  · have hkeeps (x : Flow) (c : Bool) : (if c then x.passed now pn else x).src = x.src
        ∧ (if c then x.passed now pn else x).dst = x.dst := by cases c <;> exact ⟨rfl, rfl⟩
    have hfound := List.find?_some hflow
    simp only [List.find?_map, Function.comp_def, hkeeps, hflow, Option.map_some]
    rw [if_pos hfound]

end

/-! ### The way to the flow table (R162) -/

/-- What forwarding reads and writes: the instant, the ports and the flow table. -/
def State.flowView (s : State) : Nat × Vector Port 2 × List Flow := (s.now, s.ports, s.switch.flows)

theorem raise_flowView (code unit detail) (s : State) : (raise code unit detail s).flowView = s.flowView := by
  simp only [State.flowView, raise_now, raise_ports, raise_switch]

theorem flowView_ite (c : Prop) [Decidable c] (s u : State) :
    (if c then s else u).flowView = if c then s.flowView else u.flowView :=
  apply_ite State.flowView c s u

theorem checkShared_flowView (f) (s : State) : (checkShared f s).flowView = s.flowView := by
  have hstatus (st) (u : State) : { u with status := st }.flowView = u.flowView := rfl
  unfold checkShared
  split
  · rfl
  · simp only [flowView_ite, raise_flowView, hstatus, ite_self]

/-- The other device of a pair, seen or not, is all that `seePair` notes. -/
theorem seePair_eq (f) (s : State) : ∃ r, seePair f s = { s with red := r } := by
  unfold seePair
  split
  · exact ⟨s.red, rfl⟩
  · split
    · exact ⟨_, rfl⟩
    · exact ⟨s.red, rfl⟩

theorem forwardFrame_of_dropped {f : NetFrame} {s : State} (i : Fin 2)
    (hdrop : forwardFlow s.now f ((f.sec.map (·.pn)).getD 0) s.switch.flows = none) : forwardFrame i f s = s := by
  simp only [forwardFrame, hdrop]

theorem forwardFrame_of_forwarded {f : NetFrame} {s : State} {i : Fin 2} {l : List Flow}
    (hpass : forwardFlow s.now f ((f.sec.map (·.pn)).getD 0) s.switch.flows = some l) (hup : s.ports[1 - i].up = true) :
    forwardFrame i f s = forwardTo (1 - i) f { s with switch := { s.switch with flows := l } } := by
  simp only [forwardFrame, hpass, hup, if_true]

/-- A frame that comes in at a port and passes rules 1 to 3 of R162, with its SecTAG, while the device runs and the other port is up. -/
structure Forwardable (s : State) (i : Fin 2) (f : NetFrame) (tag : SecTag) : Prop where
  body : ∀ m, f.body ≠ .gptp m
  awake : awake s = true
  up : s.ports[i].up = true
  phy : s.ports[i].phy = true
  otherUp : s.ports[1 - i].up = true
  sys : sysStopped s = false
  mode : inMode .slumber s = false
  tables : s.switch.tables = true
  admitted : switchAdmits f = true
  foreign : f.src ≠ s.eui48
  sec : f.sec = some tag

/-- A frame that passes the rules before the last of R162 is forwarded from a state with the same ports and flow table. -/
theorem switchIn_eq_forwardFrame {f : NetFrame} {s : State} (i : Fin 2) (hbody : ∀ m, f.body ≠ .gptp m)
    (hmode : inMode .slumber s = false) (htables : s.switch.tables = true) (hadmitted : switchAdmits f = true)
    (hforeign : f.src ≠ s.eui48) : ∃ v, v.flowView = s.flowView ∧ switchIn i f s = forwardFrame i f v := by
  obtain ⟨r, hsee⟩ := seePair_eq f s
  have hview : (seePair f s).flowView = s.flowView := by rw [hsee]; rfl
  have hpass : ¬ (inMode .slumber (seePair f s) || !(seePair f s).switch.tables || !switchAdmits f
      || f.src == (seePair f s).eui48) = true := by
    rw [hsee]
    simp [show inMode .slumber { s with red := r } = false from hmode, htables, hadmitted, hforeign]
  unfold switchIn
  generalize seePair f s = v at hview hpass
  have hshared := (checkShared_flowView f v).trans hview
  dsimp only
  split
  · next m hm => exact absurd hm (hbody m)
  · rw [if_neg hpass]
    split <;> refine ⟨_, ?_, rfl⟩ <;> exact hshared

section
variable {s : State} {i : Fin 2} {f : NetFrame} {tag : SecTag} (t : Nat)

/-- The state in which a frame's words come in: its port is awake (R168). -/
def State.ingress (t : Nat) (i : Fin 2) (s : State) : State := setPort i (fun p => { p with asleep := false }) (s.upTo t)

theorem execFrameIngress_eq (t i f) (s : State) : execFrameIngress t i f s =
    if !awake (s.ingress t i) || !(s.ingress t i).ports[i].up || !(s.ingress t i).ports[i].phy then .next (s.ingress t i)
    else .next (crossIn ⟨i.val, by omega⟩ (frameWords f) (switchIn i f) (s.ingress t i)) := rfl

theorem setPort_port_same (i : Fin 2) (g : Port → Port) (s : State) : (setPort i g s).ports[i] = g s.ports[i] := by
  simp [setPort]

theorem setPort_port_other (i : Fin 2) (g : Port → Port) (s : State) : (setPort i g s).ports[1 - i] = s.ports[1 - i] := by
  have hne : i.val ≠ (1 - i).val := by omega
  simp [setPort, Vector.getElem_set_ne _ _ hne]

/-- Such a frame is taken to the flow table as it stood, at the instant it came in. -/
theorem execFrameIngress_eq_forwardFrame (h : Forwardable s i f tag) :
    ∃ v, forwardFlow v.now f ((f.sec.map (·.pn)).getD 0) v.switch.flows = forwardFlow (max s.now t) f tag.pn s.switch.flows
      ∧ v.switch.flows = s.switch.flows ∧ v.ports[1 - i] = (s.upTo t).ports[1 - i]
      ∧ exec (.frameIngress t i f) s = .next (forwardFrame i f v) := by
  obtain ⟨v, hview, hswitch⟩ := switchIn_eq_forwardFrame (s := s.ingress t i) i h.body h.mode h.tables h.admitted h.foreign
  obtain ⟨hnow, hports, hflows⟩ : v.now = (s.upTo t).now ∧ v.ports = (s.ingress t i).ports ∧ v.switch.flows = s.switch.flows :=
    ⟨congrArg (·.1) hview, congrArg (·.2.1) hview, congrArg (·.2.2) hview⟩
  refine ⟨v, by rw [hnow, hflows, State.upTo_now, h.sec]; rfl, hflows, by rw [hports]; exact setPort_port_other i _ _, ?_⟩
  have hup : (s.ingress t i).ports[i].up = true := by
    rw [State.ingress, setPort_port_same]
    exact (State.upTo_port_up s t i).trans h.up
  have hphy : (s.ingress t i).ports[i].phy = true := by
    rw [State.ingress, setPort_port_same]
    exact (State.upTo_port_phy s t i).trans h.phy
  have hawake : awake (s.ingress t i) = true := h.awake
  have hsys : sysStopped (s.ingress t i) = false := h.sys
  change execFrameIngress t i f s = _
  rw [← hswitch, execFrameIngress_eq, if_neg (by simp [-Fin.getElem_fin, hawake, hup, hphy]), crossIn, if_neg (by simp [hsys])]

/-- A frame that the flow table drops leaves the table and the other port. -/
theorem frameIngress_of_dropped (h : Forwardable s i f tag)
    (hdrop : forwardFlow (max s.now t) f tag.pn s.switch.flows = none) :
    Runs (.frameIngress t i f) s fun u => u.switch.flows = s.switch.flows ∧ u.ports[1 - i] = (s.upTo t).ports[1 - i] := by
  obtain ⟨v, hdecides, hflows, hother, hexec⟩ := execFrameIngress_eq_forwardFrame t h
  rw [forwardFrame_of_dropped i (hdecides.trans hdrop)] at hexec
  exact ⟨v, hexec, hflows, hother⟩

/-- A frame that the flow table passes leaves the table so changed, and is put on the other port. -/
theorem frameIngress_of_forwarded {l : List Flow} (h : Forwardable s i f tag)
    (hpass : forwardFlow (max s.now t) f tag.pn s.switch.flows = some l) :
    Runs (.frameIngress t i f) s fun u => u.switch.flows = l ∧ u.ports[1 - i] = Port.put f (s.upTo t).ports[1 - i] := by
  obtain ⟨v, hdecides, -, hother, hexec⟩ := execFrameIngress_eq_forwardFrame t h
  have hup : v.ports[1 - i].up = true := by
    rw [hother]
    exact (State.upTo_port_up s t (1 - i)).trans h.otherUp
  rw [forwardFrame_of_forwarded (hdecides.trans hpass) hup] at hexec
  exact ⟨_, hexec, rfl, by rw [← hother]; simp [forwardTo]⟩

end

/-! ### The end of a flow -/

theorem flowIdleExpiry_removes {s : State} {w : Flow}
    (hflow : s.switch.flows.find? (fun x => x.src == w.src && x.dst == w.dst) = some w) :
    Runs (.flowIdleExpiry w.src w.dst) s fun u =>
      u.now = max s.now (w.last + 20 * ms1) ∧ ∀ x, x ∈ u.switch.flows ↔ x ∈ s.switch.flows ∧ ¬ (x.src = w.src ∧ x.dst = w.dst) := by
  rw [runs_iff]
  change Answers (execFlowIdleExpiry w.src w.dst s) _
  unfold execFlowIdleExpiry
  rw [hflow]
  exact ⟨State.upTo_now _ _, fun x => by simp [List.mem_filter, -not_and, not_and_or]⟩

/-- Settles O18: each clause is one outcome of the flow table's decision, which the switch follows. -/
theorem flowsForwardOnce : Obligations.FlowsForwardOnce := by
  refine ⟨fun s t i f tag hbody hawake hup hphy hother hsys hmode htables hadmitted hforeign hsec => ?_,
    fun s w hflow => flowIdleExpiry_removes hflow⟩
  have h : Forwardable s i f tag := ⟨hbody, hawake, hup, hphy, hother, hsys, hmode, htables, hadmitted, hforeign, hsec⟩
  refine ⟨fun w hflow hseen => ?_, fun w hflow hnew hnear => ?_, fun hflow hroom => ?_, fun hflow hfull => ?_⟩
  · have hrefuses : flowAdmits w tag.pn = false := by
      rw [Bool.eq_false_iff, Ne, flowAdmits_iff]
      rintro ⟨hnot, hall⟩
      rcases hseen with hin | ⟨q, hq, hfar⟩
      · exact hnot hin
      · exact absurd (hall q hq) (by omega)
    exact frameIngress_of_dropped t h (forwardFlow_of_refused _ _ hflow hrefuses)
  · obtain ⟨l, hpass, hfound⟩ := forwardFlow_of_admitted (max s.now t) tag.pn hflow ((flowAdmits_iff w tag.pn).mpr ⟨hnew, hnear⟩)
    obtain ⟨u, hexec, hflows, hport⟩ := frameIngress_of_forwarded t h hpass
    exact ⟨u, hexec, by rw [hflows]; exact hfound, hport⟩
  · exact frameIngress_of_forwarded t h (forwardFlow_of_new _ _ hflow hroom)
  · exact frameIngress_of_dropped t h (forwardFlow_of_full _ _ hflow hfull.ge)

end Sys2Proof.Machine
end

/-! # A stream's sequence numbers are recovered (chapter 10)

What R210 makes of the history of 32 numbers, a rule for each range of the distance of an arriving number from the highest one
passed, and the reset of a recovery 20 ms after its last passed frame. -/

section
namespace Sys2Proof.Machine

open Sys2Proof

/-! ### The history -/

/-- A recovery's history holds a number: it is one of the 32 up to the highest passed, and its slot is set (R210). -/
def Recovery.Has (r : Recovery) (x : BitVec 16) : Prop := (r.seq - x).toNat < 32 ∧ r.seen.getLsbD (r.seq - x).toNat = true

/-- The slots that a shift by `d` moves out are the ones at 32 - d and above. -/
theorem unset_eq (h : BitVec 32) {d : Nat} (hd : d ≤ 32) :
    unset h d = ((List.range 32).filter (fun k => decide (32 ≤ k + d) && !h.getLsbD k)).length := by
  have hstay : (List.range (32 - d)).filter (fun k => decide (32 ≤ k + d) && !h.getLsbD k) = [] := by
    simp only [List.filter_eq_nil_iff, List.mem_range, Bool.and_eq_true, decide_eq_true_eq]
    omega
  have hout (i : Nat) : 32 ≤ 32 - d + i + d := by omega
  have hsplit : List.range 32 = List.range (32 - d) ++ (List.range d).map (32 - d + ·) := by
    rw [← List.range_add, Nat.sub_add_cancel hd]
  rw [hsplit, List.filter_append, hstay, List.nil_append, List.filter_map, List.length_map]
  simp [unset, Function.comp_def, hout]

section
variable {r : Recovery} {q : BitVec 16} (now : Nat) (x : BitVec 16)

theorem has_of_first : Recovery.Has { r with active := true, seq := q, seen := 1#32, passedAt := now } x ↔ x = q := by
  have hnew : x = q ↔ (q - x).toNat = 0 := by bv_omega
  simp only [Recovery.Has, BitVec.getLsbD_one, hnew]
  simp +contextual

/-- A number that stood at place k of the history stands at k + d after a shift by d, and is held there while k + d < 32. -/
theorem has_of_shift {d : Nat} (hd : (q - r.seq).toNat = d) (hlow : 1 ≤ d) (hhigh : d ≤ 31) :
    Recovery.Has { r with seq := q, seen := (r.seen <<< d) ||| 1#32, passedAt := now } x
      ↔ x = q ∨ (r.Has x ∧ (q - x).toNat < 32) := by
  have hnew : x = q ↔ (q - x).toNat = 0 := by bv_omega
  have hplace : (r.seq - x).toNat = ((q - x).toNat + 65536 - d) % 65536 := by subst hd; bv_omega
  have hbound : (q - x).toNat < 65536 := (q - x).isLt
  simp only [Recovery.Has, BitVec.getLsbD_or, BitVec.getLsbD_shiftLeft, BitVec.getLsbD_one, hnew, hplace]
  generalize (q - x).toNat = k at *
  by_cases hk : d ≤ k
  · have hold : (k + 65536 - d) % 65536 = k - d := by omega
    rw [hold]
    grind
  · have hout : ¬ (k + 65536 - d) % 65536 < 32 := by omega
    grind

/-- A number within the history takes its slot. -/
theorem has_of_set (hslot : (r.seq - q).toNat < 32) :
    Recovery.Has { r with seen := r.seen ||| (1#32 <<< (r.seq - q).toNat), passedAt := now } x ↔ x = q ∨ r.Has x := by
  have hnew : x = q ↔ (r.seq - x).toNat = (r.seq - q).toNat := by bv_omega
  simp only [Recovery.Has, BitVec.getLsbD_or, ← BitVec.twoPow_eq, BitVec.getLsbD_twoPow, hnew]
  generalize (r.seq - x).toNat = k at *
  generalize (r.seq - q).toNat = j at *
  grind

end

/-! ### What recovery does, by the distance of the arriving number -/

section
variable {r : Recovery} {q : BitVec 16} (now : Nat)

theorem recover_of_inactive (hactive : r.active = false) :
    recover now q r = ⟨true, 0, { r with active := true, seq := q, seen := 1#32, passedAt := now }⟩ := by
  simp [recover, hactive]

theorem recover_of_rogue (hactive : r.active = true) (hfar : (q - r.seq).toInt ≤ -32 ∨ 32 ≤ (q - r.seq).toInt) :
    recover now q r = ⟨false, 0, r⟩ := by
  simp [recover, hactive, hfar.symm, -BitVec.toInt_sub]

theorem recover_of_ahead (hactive : r.active = true) (hlow : 1 ≤ (q - r.seq).toInt) (hhigh : (q - r.seq).toInt ≤ 31) :
    recover now q r = ⟨true, unset r.seen (q - r.seq).toInt.toNat,
      { r with seq := q, seen := (r.seen <<< (q - r.seq).toInt.toNat) ||| 1#32, passedAt := now }⟩ := by
  have hnear : ¬ (32 ≤ (q - r.seq).toInt ∨ (q - r.seq).toInt ≤ -32) := by omega
  have hahead : 0 < (q - r.seq).toInt := hlow
  simp [recover, hactive, hnear, hahead, -BitVec.toInt_sub]

section
variable (hactive : r.active = true) (hlow : -31 ≤ (q - r.seq).toInt) (hhigh : (q - r.seq).toInt ≤ 0)
include hlow hhigh

/-- The slot of a number that is not ahead of the highest passed is its distance behind it. -/
theorem slot_of_behind : (-(q - r.seq).toInt).toNat = (r.seq - q).toNat ∧ (r.seq - q).toNat < 32 := by
  have hsign := BitVec.toInt_eq_toNat_cond (q - r.seq)
  have hback : (r.seq - q).toNat = (65536 - (q - r.seq).toNat) % 65536 := by bv_omega
  split at hsign <;> omega

include hactive

theorem recover_of_behind : recover now q r = if r.seen.getLsbD (r.seq - q).toNat then ⟨false, 0, r⟩
    else ⟨true, 0, { r with seen := r.seen ||| (1#32 <<< (r.seq - q).toNat), passedAt := now }⟩ := by
  have hnear : ¬ (32 ≤ (q - r.seq).toInt ∨ (q - r.seq).toInt ≤ -32) := by omega
  have hbehind : ¬ 0 < (q - r.seq).toInt := by omega
  obtain ⟨hslot, -⟩ := slot_of_behind hlow hhigh
  simp [recover, hactive, hnear, hbehind, hslot, -BitVec.toInt_sub, -BitVec.toNat_sub]

theorem recover_of_held (hheld : r.Has q) : recover now q r = ⟨false, 0, r⟩ := by
  rw [recover_of_behind now hactive hlow hhigh, if_pos hheld.2]

theorem recover_of_missing (hmissing : ¬ r.Has q) : recover now q r =
    ⟨true, 0, { r with seen := r.seen ||| (1#32 <<< (r.seq - q).toNat), passedAt := now }⟩ := by
  have hempty : ¬ r.seen.getLsbD (r.seq - q).toNat = true := fun hset => hmissing ⟨(slot_of_behind hlow hhigh).2, hset⟩
  rw [recover_of_behind now hactive hlow hhigh, if_neg hempty]

end

end

/-! ### The reset timer -/

@[simp] theorem stopPairs_now (use) (s : State) : (stopPairs use s).now = s.now := rfl
@[simp] theorem stopPairs_streams (use) (s : State) : (stopPairs use s).streams = s.streams := rfl

/-- 20 ms after the stream's last passed frame its recovery is reset; the other streams listened to stay as they are. -/
theorem recoveryResetTimeout_resets {s : State} {kind : Nat} {n : BitVec 8} {i : Nat} {x : RxStream}
    (hindex : rxIndex s kind n = some i) (hstream : s.streams.rx[i]? = some x) (hactive : x.recov.active = true) :
    Runs (.recoveryResetTimeout kind n) s fun u =>
      u.streams.rx = s.streams.rx.set i { x with recov := { x.recov with active := false, seen := 0#32 } }
        ∧ u.now = max s.now (x.recov.passedAt + 20 * ms1) := by
  rw [runs_iff]
  change Answers (execRecoveryResetTimeout kind n s) _
  simp only [execRecoveryResetTimeout, hindex, hstream, hactive, Bool.not_true, Bool.false_eq_true, if_false, answers_next]
  split <;> simp

/-- Settles O19: each range of the distance is one outcome of `recover`, and what the history then holds is a rule of its own. -/
theorem recoveryOfSequences : Obligations.RecoveryOfSequences := by
  refine ⟨fun now q r => ⟨fun hactive => ?_, fun hactive hlow hhigh => ?_, fun hactive hlow hhigh => ?_, fun hactive hfar => ?_⟩,
    fun s kind n i x hindex hstream hactive => ?_⟩
  · rw [recover_of_inactive now hactive]
    exact ⟨rfl, rfl, rfl, rfl, rfl, has_of_first now⟩
  · rw [recover_of_ahead now hactive hlow hhigh]
    have hplaces : (q - r.seq).toInt.toNat = (q - r.seq).toNat :=
      BitVec.toNat_toInt_of_msb _ (by rw [BitVec.msb_eq_toInt, decide_eq_false (by omega)])
    exact ⟨rfl, rfl, rfl, fun x => has_of_shift now x hplaces.symm (by omega) (by omega), unset_eq r.seen (by omega)⟩
  · by_cases hheld : r.Has q
    · rw [recover_of_held now hactive hlow hhigh hheld]
      refine ⟨rfl, rfl, ?_, fun x => ?_, rfl⟩
      · exact ⟨fun hpass => absurd hpass Bool.false_ne_true, fun hmissing => absurd hheld hmissing⟩
      · exact ⟨.inr, fun h => h.elim (fun hx => hx ▸ hheld) id⟩
    · rw [recover_of_missing now hactive hlow hhigh hheld]
      obtain ⟨-, hslot⟩ := slot_of_behind hlow hhigh
      exact ⟨rfl, rfl, ⟨fun _ => hheld, fun _ => rfl⟩, fun x => has_of_set now x hslot, rfl⟩
  · rw [recover_of_rogue now hactive hfar]
    exact ⟨rfl, rfl, rfl⟩
  · obtain ⟨u, hexec, hrx, hnow⟩ := recoveryResetTimeout_resets hindex hstream hactive
    obtain ⟨hi, -⟩ := List.getElem?_eq_some_iff.mp hstream
    exact ⟨u, hexec, hnow, _, by rw [hrx, List.getElem?_set_self hi], rfl⟩

end Sys2Proof.Machine
end

/-! # A key goes into the lowest blank slot (chapter 11)

What R252 makes of the key slots: which slot is the lowest blank one, what programming it does, a rule for each way the slot reads
back, and the second try of the same exchange. -/

section
namespace Sys2Proof.Machine

open Sys2Proof

/-! ### One slot written -/

/-- A key slot written: the change of state that programming a slot makes (R252). -/
def State.setSlot (i : Fin 8) (k : KeySlot) (s : State) : State :=
  { s with sec := { s.sec with slots := s.sec.slots.set i k } }

section
variable (i : Fin 8) (k : KeySlot) (s : State)

@[simp] theorem State.setSlot_slots : (s.setSlot i k).sec.slots = s.sec.slots.set i k := rfl
@[simp] theorem State.setSlot_inForce : (s.setSlot i k).sec.inForce = s.sec.inForce := rfl
@[simp] theorem State.setSlot_status : (s.setSlot i k).status = s.status := rfl

end

/-! ### The lowest blank slot -/

section
variable {s : State} {i j : Fin 8} {k : KeySlot}

theorem lowestBlank_eq_some :
    lowestBlank s = some i ↔ s.sec.slots[i] = .blank ∧ ∀ j : Fin 8, j < i → s.sec.slots[j] ≠ .blank := by
  rw [lowestBlank, ← Fin.find?_eq_find?_finRange, Fin.find?_eq_some_iff]
  simp only [beq_iff_eq, beq_eq_false_iff_ne]

theorem lowestBlank_eq_none : lowestBlank s = none ↔ ∀ j : Fin 8, s.sec.slots[j] ≠ .blank := by
  rw [lowestBlank, ← Fin.find?_eq_find?_finRange, Fin.find?_eq_none_iff]
  simp only [beq_eq_false_iff_ne]

/-- Once the lowest blank slot is written, the slots up to it are not blank, and those above it are as before. -/
theorem setSlot_blank_iff (hlow : lowestBlank s = some i) (hk : k ≠ .blank) :
    (s.setSlot i k).sec.slots[j] = .blank ↔ i < j ∧ s.sec.slots[j] = .blank := by
  obtain ⟨-, hbelow⟩ := lowestBlank_eq_some.mp hlow
  simp only [State.setSlot_slots, Fin.getElem_fin, Vector.getElem_set, Fin.val_inj]
  split
  case isTrue heq => simp [heq, hk]
  case isFalse hne =>
    exact ⟨fun hblank => ⟨lt_of_le_of_ne (not_lt.mp fun hlt => hbelow j hlt hblank) hne, hblank⟩, And.right⟩

theorem lowestBlank_setSlot_of_next (hlow : lowestBlank s = some i) (hk : k ≠ .blank) (hij : i < j)
    (hblank : s.sec.slots[j] = .blank) (hbetween : ∀ m : Fin 8, i < m → m < j → s.sec.slots[m] ≠ .blank) :
    lowestBlank (s.setSlot i k) = some j := by
  refine lowestBlank_eq_some.mpr ⟨(setSlot_blank_iff hlow hk).mpr ⟨hij, hblank⟩, fun m hmj hm => ?_⟩
  obtain ⟨him, hmblank⟩ := (setSlot_blank_iff hlow hk).mp hm
  exact hbetween m him hmj hmblank

theorem lowestBlank_setSlot_of_last (hlow : lowestBlank s = some i) (hk : k ≠ .blank)
    (habove : ∀ j : Fin 8, i < j → s.sec.slots[j] ≠ .blank) : lowestBlank (s.setSlot i k) = none :=
  lowestBlank_eq_none.mpr fun j hj =>
    let ⟨hij, hblank⟩ := (setSlot_blank_iff hlow hk).mp hj
    habove j hij hblank

end

/-! ### F601 -/

section
variable (cause node : Nat) (s : State)

@[simp] theorem pairingFault_sec : (pairingFault cause node s).sec = s.sec := raise_sec ..

@[simp] theorem lowestBlank_pairingFault : lowestBlank (pairingFault cause node s) = lowestBlank s := by
  simp only [lowestBlank, pairingFault_sec]

end

/-- A slot that reads back spoiled: it is no longer blank, and F601 is raised with cause 4 (R252). -/
def spoilSlot (node : Nat) (i : Fin 8) (s : State) : State := pairingFault 4 node (s.setSlot i .spoiled)

theorem lowestBlank_spoilSlot (node : Nat) (i : Fin 8) (s : State) :
    lowestBlank (spoilSlot node i s) = lowestBlank (s.setSlot i .spoiled) := lowestBlank_pairingFault ..

/-- A fault's status reads of the slots only whether a key is in force, which opens the network path. -/
theorem raise_setSlot_status (code : BitVec 16) (unit : Nat) (detail : List Byte) (i : Fin 8) (k : KeySlot) {s : State}
    (hforce : s.sec.inForce = none) : (raise code unit detail (s.setSlot i k)).status = (raise code unit detail s).status := by
  have hkey : keyInForce (s.setSlot i k) = keyInForce s := by
    simp only [keyInForce, State.setSlot_inForce, hforce, Option.bind_none]
  have hnet : netOpen (s.setSlot i k) = netOpen s := by
    unfold netOpen
    rw [hkey]
    rfl
  have hframe (n : Nat) (tail : List Byte) : (genFrame n tail (s.setSlot i k)).status = (genFrame n tail s).status := by
    unfold genFrame
    rw [hnet]
    rfl
  have hevent (et : Nat) : faultEventStatus et code detail (s.setSlot i k) = faultEventStatus et code detail s := by
    unfold faultEventStatus
    rw [hframe]
    rfl
  unfold raise raiseAt faultEvent
  rw [hevent]
  rfl

/-! ### Programming a slot -/

section
variable (d : KeyData) (node : Nat) {s : State} {i : Fin 8}

theorem programOnce_good (hlow : lowestBlank s = some i) : programOnce d false node s = (some i, s.setSlot i (.valid d)) := by
  simp only [programOnce, hlow, Bool.false_eq_true, if_false, State.setSlot]

theorem programOnce_spoiled (hlow : lowestBlank s = some i) :
    programOnce d true node s = (none, spoilSlot node i s) := by
  simp only [programOnce, hlow, if_true, spoilSlot, State.setSlot]

theorem programOnce_full (hnone : lowestBlank s = none) (spoil : Bool) : programOnce d spoil node s = (none, s) := by
  simp only [programOnce, hnone]

/-- A slot that reads back valid ends the exchange, and the block boundary's choice of a key touches no slot. -/
theorem programKey_good (hlow : lowestBlank s = some i) (second : Bool) :
    (programKey d (false, second) node s).2.sec.slots = s.sec.slots.set i (.valid d)
      ∧ (programKey d (false, second) node s).2.status = s.status := by
  simp [programKey, programOnce_good d node hlow]

/-- A slot that reads back spoiled leaves the exchange to one more try. -/
theorem programKey_spoiled (hlow : lowestBlank s = some i) (second : Bool) :
    let retry := programOnce d second node (spoilSlot node i s)
    (programKey d (true, second) node s).2.sec.slots = retry.2.sec.slots
      ∧ (programKey d (true, second) node s).2.status = retry.2.status := by
  simp only [programKey, programOnce_spoiled d node hlow, hlow, Option.isSome_some, if_true]
  split <;> exact ⟨rfl, rfl⟩

end

/-! ### KEY_CREATE -/

/-- The key that KEY_CREATE draws (R256). -/
def drawnKey (s : State) : KeyData :=
  { tk := Config.random128 s.freeCtr, ak := 0#128, tenant := Fin.ofNat 16 (tenant s), origin := .created }

theorem createKey_of_blank {s : State} {i : Fin 8} (spoil : Bool × Bool) (hforce : s.sec.inForce = none)
    (hlow : lowestBlank s = some i) :
    createKey spoil s = (programKey (drawnKey s) spoil 255 { s with freeCtr := s.freeCtr + 1 }).2 := by
  simp only [createKey, hlow, keptAk, keyInForce, hforce]
  rfl

/-- The state at the instant KEY_CREATE was due for, no key drawn yet. -/
def keyDueAt (c : Nat) (s : State) : State := { s.upTo c with sec := { s.sec with createAt := none } }

/-- A strapped leader in a mode other than SAFE, with no key in force or to come, draws the key that is due (R256). -/
theorem exec_keyCreate_of_due {s : State} {c : Nat} (spoil : Bool × Bool) (hdue : s.sec.createAt = some c)
    (hleader : strappedLeader (role s) = true) (hmode : s.start.mode.isSome = true) (hsafe : inMode .safe s = false)
    (hforce : s.sec.inForce = none) (hnext : s.sec.nextForce = none) :
    exec (.keyCreate spoil) s = .next (createKey spoil (keyDueAt c s)) := by
  change execKeyCreate spoil s = _
  have hguard : (strappedLeader (role s) && s.start.mode.isSome && !inMode .safe s
      && s.sec.inForce.isNone && s.sec.nextForce.isNone) = true := by
    simp [hleader, hmode, hsafe, hforce, hnext]
  simp only [execKeyCreate, hdue]
  exact if_pos hguard

/-- The state in which the first slot is tried: the key due is drawn. -/
def keyDrawnAt (c : Nat) (s : State) : State := { keyDueAt c s with freeCtr := s.freeCtr + 1 }

@[simp] theorem lowestBlank_keyDrawnAt (c : Nat) (s : State) : lowestBlank (keyDrawnAt c s) = lowestBlank s := rfl

theorem State.upTo_folds (s : State) (t : Nat) : (s.upTo t).status.folds = s.status.folds :=
  (congrArg Status.folds (State.upTo_status_bare s t) :)

/-- Settles O15: each way the lowest blank slot reads back is a rule of `programKey`, and the second try is a `programOnce` with the
first slot spoiled. -/
theorem keyProgramming : Obligations.KeyProgramming := by
  intro s c i hdue hleader hmode hsafe hforce hnext hblank hbelow d w
  have hlow : lowestBlank s = some i := lowestBlank_eq_some.mpr ⟨hblank, hbelow⟩
  have hdrawn : lowestBlank (keyDrawnAt c s) = some i := (lowestBlank_keyDrawnAt c s).trans hlow
  have hexec (spoil) : exec (.keyCreate spoil) s = .next (programKey d spoil 255 (keyDrawnAt c s)).2 :=
    (exec_keyCreate_of_due spoil hdue hleader hmode hsafe hforce hnext).trans
      (congrArg Host.Outcome.next (createKey_of_blank (s := keyDueAt c s) spoil hforce hlow))
  have hfirst : spoilSlot 255 i (keyDrawnAt c s) = raise 0xF601#16 0 [4#8, 255#8] w := rfl
  have hretry (y) := programKey_spoiled d 255 hdrawn y
  refine ⟨fun y => .of _ _ _ (hexec _) ?good, fun j hij hj hbetween => ?next, fun habove y => .of _ _ _ (hexec _) ?last⟩
  case good =>
    obtain ⟨hslots, hstatus⟩ := programKey_good d 255 hdrawn y
    exact ⟨hslots, (congrArg Status.folds hstatus).trans (s.upTo_folds c)⟩
  case next =>
    have hsecond : lowestBlank (spoilSlot 255 i (keyDrawnAt c s)) = some j :=
      (lowestBlank_spoilSlot ..).trans (lowestBlank_setSlot_of_next hdrawn nofun hij hj hbetween)
    refine ⟨.of _ _ _ (hexec _) ?_, .of _ _ _ (hexec _) ?_⟩
    · obtain ⟨hslots, hstatus⟩ := hretry false
      rw [programOnce_good d 255 hsecond] at hslots hstatus
      exact ⟨hslots, hstatus⟩
    · obtain ⟨hslots, hstatus⟩ := hretry true
      rw [programOnce_spoiled d 255 hsecond] at hslots hstatus
      refine ⟨hslots, hstatus.trans ?_⟩
      rw [← hfirst]
      exact raise_setSlot_status _ _ _ _ _ hforce
  case last =>
    obtain ⟨hslots, hstatus⟩ := hretry y
    have hfull : lowestBlank (spoilSlot 255 i (keyDrawnAt c s)) = none :=
      (lowestBlank_spoilSlot ..).trans (lowestBlank_setSlot_of_last hdrawn nofun habove)
    rw [programOnce_full d 255 hfull] at hslots hstatus
    exact ⟨hslots, hstatus⟩

end Sys2Proof.Machine
end

/-! # The identification register is shifted out (chapter 29)

What a shift through a data register puts on TDO, and the identification code of R585 that a scan in IDCODE puts there. -/

section
namespace Sys2Proof.Machine

open Sys2Proof

/-! ### A register shifted -/

section
variable (n v : Nat) (b : Bool) (tdi : List Bool)

/-- One clock of TCK: bit 0 goes out at TDO, the others move down, and the bit of TDI goes in at the top. -/
theorem shiftReg_cons_tdo :
    (shiftReg n v (b :: tdi)).1 = v.testBit 0 :: (shiftReg n (v / 2 + b.toNat * 2 ^ (n - 1)) tdi).1 := by
  rw [Nat.testBit_zero]
  rfl

@[simp] theorem shiftReg_tdo_length : (shiftReg n v tdi).1.length = tdi.length := by
  induction tdi generalizing v with
  | nil => rfl
  | cons b tdi ih => rw [shiftReg_cons_tdo, List.length_cons, ih, List.length_cons]

end

/-- The bit of TDI that goes in at the top leaves the bits that move down below it as they were. -/
theorem testBit_shiftedIn (v : Nat) (b : Bool) {n k : Nat} (hk : k + 1 < n) :
    (v / 2 + b.toNat * 2 ^ (n - 1)).testBit k = v.testBit (k + 1) := by
  have hmod (x : Nat) : (x % 2 ^ (n - 1)).testBit k = x.testBit k := by
    rw [Nat.testBit_mod_two_pow, decide_eq_true (Nat.lt_sub_of_add_lt hk), Bool.true_and]
  rw [← hmod, Nat.add_mul_mod_self_right, hmod, ← Nat.testBit_add_one]

/-- The first `n` bits out of a register of `n` bits are what it captured, the least significant first, whatever comes in. -/
theorem shiftReg_tdo_getElem? (v : Nat) {n k : Nat} {tdi : List Bool} (hn : k < n) (hk : k < tdi.length) :
    (shiftReg n v tdi).1[k]? = some (v.testBit k) := by
  induction tdi generalizing v k with
  | nil => exact absurd hk (Nat.not_lt_zero k)
  | cons b tdi ih =>
    rw [shiftReg_cons_tdo]
    cases k with
    | zero => rfl
    | succ k =>
      rw [List.getElem?_cons_succ, ih _ (Nat.lt_of_succ_lt hn) (Nat.lt_of_succ_lt_succ hk), testBit_shiftedIn v b hn]

/-! ### A scan in IDCODE -/

/-- In IDCODE a data register scan shifts the identification register; the rest of the state only moves on to its instant (R585). -/
theorem exec_dataRegisterScan_of_idcode {s : State} (t : Nat) (pins : BitVec 62) (tdi : List Bool) (hir : s.jtag.ir = .idcode) :
    exec (.dataRegisterScan t pins tdi) s
      = .next { s.upTo t with jtag := { s.jtag with tdo := (shiftReg 32 idcodeValue tdi).1 } } := by
  change execDataRegisterScan t pins tdi s = _
  simp only [execDataRegisterScan, State.upTo_jtag, hir]

/-- Settles O20: a scan of 32 bits puts the 32 bits of `idcodeValue` on TDO in their order, and the fields are cut from that code. -/
theorem identificationCode : Obligations.IdentificationCode := by
  intro s t pins tdi hir hlen
  refine .of _ _ _ (exec_dataRegisterScan_of_idcode t pins tdi hir) ⟨?length, BitVec.ofNat 32 idcodeValue, rfl, ?bits, ?fields⟩
  case length => exact (shiftReg_tdo_length ..).trans hlen
  case bits =>
    intro k
    rw [BitVec.getLsbD_ofNat, decide_eq_true k.isLt, Bool.true_and]
    exact shiftReg_tdo_getElem? idcodeValue k.isLt (k.isLt.trans_eq hlen.symm)
  case fields => decide

end Sys2Proof.Machine
end

/-! # What an operation leaves alone

The state without the parts an operation may change, `view`: two states with the same view agree in every other part. Each
operation of the model has one rule, that it keeps the view without its own parts. -/

section
namespace Sys2Proof.Machine

open Sys2Proof

/-- A value, unless it is hidden. -/
def hide {α : Type} (b : Bool) (x : α) : Option α := if b then none else some x

/-- The next places of the flash's rings. -/
def ringPlaces (l : AshLog) (k : Security) (g : Granary) : Nat × Nat × Nat × Nat := (l.nextSlot, k.recSlot, g.pairPlace, g.serviceAt)

/-- Whether F600 is among the active faults. -/
def keyRefused (l : List ActiveFault) : Bool := l.any (fun a => a.code == 0xF600#16 && a.unit == 0)

/-- The state without some of its parts. F600 is hidden with the key slots, and the rings' next places with the flash; what only
a reset or its end changes is hidden with the reset. -/
structure View where
  now : Nat
  pending : List Instr
  eui48 : BitVec 48
  phase : Option Phase
  keyRefused : Option Bool
  rings : Option (Nat × Nat × Nat × Nat)
  freeCtr : Option Nat
  start : Option StartUnit
  aon : Option AlwaysOn
  cross : Option (Vector Crossing 10)
  straps : Option Straps
  status : Option Status
  log : Option AshLog
  well : Option Wellspring
  history : Option (List HistWindow)
  ports : Option (Vector Port 2)
  podl : Option Podl
  switch : Option Switch
  gptp : Option Gptp
  streams : Option Streams
  routing : Option Routing
  red : Option Redundancy
  slots : Option (Vector KeySlot 8 × Vector SignerRec 2)
  keys : Option Security
  bpi : Option (Vector Bpi 4)
  bpo : Option (Vector Bpo 4)
  tdm : Option (Vector TdmPort 2)
  mic : Option MicGate
  usb : Option Usb
  blocks : Option Blocks
  thr : Option Thresher
  flash : Option (List Host.Cell)
  psram : Option (List Host.Cell)
  loft : Option (List Host.Cell)
  sram : Option (List Host.Cell)
  memory : Option Memories
  gran : Option Granary
  clips : Option Clips
  plant : Option Plant
  spk : Option Speakers
  motor : Option Motor
  endur : Option Endurance
  sleep : Option Sleep
  lands : Option LandsIn
  jtag : Option Jtag

/-- What the operations that may change the parts in `P` leave alone. -/
def view (P : Part → Bool) (s : State) : View where
  now := s.now
  pending := s.pending
  eui48 := s.eui48
  phase := hide (P .reset) s.start.phase
  keyRefused := hide (P .slots || P .reset) (keyRefused s.status.active)
  rings := hide (P .flash || P .reset) (ringPlaces s.log s.sec s.gran)
  freeCtr := hide (P .freeCtr) s.freeCtr
  start := hide (P .start) s.start
  aon := hide (P .aon) s.aon
  cross := hide (P .cross) s.cross
  straps := hide (P .straps) s.straps
  status := hide (P .status) s.status
  log := hide (P .log) s.log
  well := hide (P .well) s.well
  history := hide (P .history) s.history
  ports := hide (P .ports) s.ports
  podl := hide (P .podl) s.podl
  switch := hide (P .switch) s.switch
  gptp := hide (P .gptp) s.gptp
  streams := hide (P .streams) s.streams
  routing := hide (P .routing) s.routing
  red := hide (P .red) s.red
  slots := hide (P .slots) (s.sec.slots, s.sec.signers)
  keys := hide (P .keys) { s.sec with slots := .replicate 8 .blank, signers := .replicate 2 .blank }
  bpi := hide (P .bpi) s.bpi
  bpo := hide (P .bpo) s.bpo
  tdm := hide (P .tdm) s.tdm
  mic := hide (P .mic) s.mic
  usb := hide (P .usb) s.usb
  blocks := hide (P .blocks) s.blocks
  thr := hide (P .thr) s.thr
  flash := hide (P .flash) s.mem.flash
  psram := hide (P .psram) s.mem.psram
  loft := hide (P .loft) s.mem.loft
  sram := hide (P .sram) s.mem.sram
  memory := hide (P .memory) { s.mem with flash := [], psram := [], loft := [], sram := [] }
  gran := hide (P .gran) s.gran
  clips := hide (P .clips) s.clips
  plant := hide (P .plant) s.plant
  spk := hide (P .spk) s.spk
  motor := hide (P .motor) s.motor
  endur := hide (P .endur) s.endur
  sleep := hide (P .sleep) s.sleep
  lands := hide (P .lands) s.lands
  jtag := hide (P .jtag) s.jtag

theorem hide_congr {α : Type} {b : Bool} {p : Prop} {x y : α} (h : if b then True else p) (hp : p → x = y) :
    hide b x = hide b y := by
  unfold hide
  split
  · rfl
  · rename_i hb; rw [hp (by rwa [if_neg hb] at h)]

/-- A record update keeps the view without the parts it changes. -/
theorem view_update {P : Part → Bool} {s : State}
    {freeCtr' : Nat}
    {start' : StartUnit}
    {aon' : AlwaysOn}
    {cross' : Vector Crossing 10}
    {straps' : Straps}
    {status' : Status}
    {log' : AshLog}
    {well' : Wellspring}
    {history' : List HistWindow}
    {ports' : Vector Port 2}
    {podl' : Podl}
    {switch' : Switch}
    {gptp' : Gptp}
    {streams' : Streams}
    {routing' : Routing}
    {red' : Redundancy}
    {sec' : Security}
    {bpi' : Vector Bpi 4}
    {bpo' : Vector Bpo 4}
    {tdm' : Vector TdmPort 2}
    {mic' : MicGate}
    {usb' : Usb}
    {blocks' : Blocks}
    {thr' : Thresher}
    {mem' : Memories}
    {gran' : Granary}
    {clips' : Clips}
    {plant' : Plant}
    {spk' : Speakers}
    {motor' : Motor}
    {endur' : Endurance}
    {sleep' : Sleep}
    {lands' : LandsIn}
    {jtag' : Jtag}
    (hfreeCtr : if P .freeCtr then True else freeCtr' = s.freeCtr)
    (hstart : if P .start then True else start' = s.start)
    (haon : if P .aon then True else aon' = s.aon)
    (hcross : if P .cross then True else cross' = s.cross)
    (hstraps : if P .straps then True else straps' = s.straps)
    (hstatus : if P .status then True else status' = s.status)
    (hlog : if P .log then True else log' = s.log)
    (hwell : if P .well then True else well' = s.well)
    (hhistory : if P .history then True else history' = s.history)
    (hports : if P .ports then True else ports' = s.ports)
    (hpodl : if P .podl then True else podl' = s.podl)
    (hswitch : if P .switch then True else switch' = s.switch)
    (hgptp : if P .gptp then True else gptp' = s.gptp)
    (hstreams : if P .streams then True else streams' = s.streams)
    (hrouting : if P .routing then True else routing' = s.routing)
    (hred : if P .red then True else red' = s.red)
    (hslots : if P .slots then True else (sec'.slots = s.sec.slots ∧ sec'.signers = s.sec.signers))
    (hkeys : if P .keys then True else sec' = { s.sec with slots := sec'.slots, signers := sec'.signers })
    (hbpi : if P .bpi then True else bpi' = s.bpi)
    (hbpo : if P .bpo then True else bpo' = s.bpo)
    (htdm : if P .tdm then True else tdm' = s.tdm)
    (hmic : if P .mic then True else mic' = s.mic)
    (husb : if P .usb then True else usb' = s.usb)
    (hblocks : if P .blocks then True else blocks' = s.blocks)
    (hthr : if P .thr then True else thr' = s.thr)
    (hflash : if P .flash then True else mem'.flash = s.mem.flash)
    (hpsram : if P .psram then True else mem'.psram = s.mem.psram)
    (hloft : if P .loft then True else mem'.loft = s.mem.loft)
    (hsram : if P .sram then True else mem'.sram = s.mem.sram)
    (hmemory : if P .memory then True else mem' = { s.mem with flash := mem'.flash, psram := mem'.psram, loft := mem'.loft, sram := mem'.sram })
    (hgran : if P .gran then True else gran' = s.gran)
    (hclips : if P .clips then True else clips' = s.clips)
    (hplant : if P .plant then True else plant' = s.plant)
    (hspk : if P .spk then True else spk' = s.spk)
    (hmotor : if P .motor then True else motor' = s.motor)
    (hendur : if P .endur then True else endur' = s.endur)
    (hsleep : if P .sleep then True else sleep' = s.sleep)
    (hlands : if P .lands then True else lands' = s.lands)
    (hjtag : if P .jtag then True else jtag' = s.jtag)
    (hphase : if P .reset then True else start'.phase = s.start.phase)
    (hrefused : if (P .slots || P .reset) then True else keyRefused status'.active = keyRefused s.status.active)
    (hrings : if (P .flash || P .reset) then True else ringPlaces log' sec' gran' = ringPlaces s.log s.sec s.gran)
    : view P
               { now := s.now, pending := s.pending, eui48 := s.eui48
                 freeCtr := freeCtr', start := start', aon := aon', cross := cross', straps := straps', status := status'
                 log := log', well := well', history := history', ports := ports', podl := podl', switch := switch'
                 gptp := gptp', streams := streams', routing := routing', red := red', sec := sec', bpi := bpi'
                 bpo := bpo', tdm := tdm', mic := mic', usb := usb', blocks := blocks', thr := thr'
                 mem := mem', gran := gran', clips := clips', plant := plant', spk := spk', motor := motor'
                 endur := endur', sleep := sleep', lands := lands', jtag := jtag' }
      = view P s := by
  unfold view
  congr 1
  · exact hide_congr hphase id
  · exact hide_congr hrefused id
  · exact hide_congr hrings id
  · exact hide_congr hfreeCtr id
  · exact hide_congr hstart id
  · exact hide_congr haon id
  · exact hide_congr hcross id
  · exact hide_congr hstraps id
  · exact hide_congr hstatus id
  · exact hide_congr hlog id
  · exact hide_congr hwell id
  · exact hide_congr hhistory id
  · exact hide_congr hports id
  · exact hide_congr hpodl id
  · exact hide_congr hswitch id
  · exact hide_congr hgptp id
  · exact hide_congr hstreams id
  · exact hide_congr hrouting id
  · exact hide_congr hred id
  · exact hide_congr hslots fun h => by rw [h.1, h.2]
  · exact hide_congr hkeys fun h => by rw [h]
  · exact hide_congr hbpi id
  · exact hide_congr hbpo id
  · exact hide_congr htdm id
  · exact hide_congr hmic id
  · exact hide_congr husb id
  · exact hide_congr hblocks id
  · exact hide_congr hthr id
  · exact hide_congr hflash id
  · exact hide_congr hpsram id
  · exact hide_congr hloft id
  · exact hide_congr hsram id
  · exact hide_congr hmemory fun h => by rw [h]
  · exact hide_congr hgran id
  · exact hide_congr hclips id
  · exact hide_congr hplant id
  · exact hide_congr hspk id
  · exact hide_congr hmotor id
  · exact hide_congr hendur id
  · exact hide_congr hsleep id
  · exact hide_congr hlands id
  · exact hide_congr hjtag id

theorem view_ite (P : Part → Bool) (c : Prop) [Decidable c] (s t : State) :
    view P (if c then s else t) = if c then view P s else view P t :=
  apply_ite (view P) c s t

section
variable {P : Part → Bool}

theorem foldl_view {α : Type} (f : State → α → State) (h : ∀ s a, view P (f s a) = view P s) (l : List α) (s : State) :
    view P (l.foldl f s) = view P s := foldl_keeps (view P) f h l s

theorem iter_view (f : State → State) (h : ∀ s, view P (f s) = view P s) (n : Nat) (s : State) :
    view P (iter f n s) = view P s := by
  induction n generalizing s with
  | zero => rfl
  | succ n ih => rw [iter, ih, h]

end

/-! ### Time and the parts -/

/-- What is left alone, over time too, by the operations that may change the parts in `P`. -/
structure Evolves (P : Part → Bool) (s u : State) : Prop where
  now : s.now ≤ u.now
  pending : u.pending = s.pending
  eui48 : u.eui48 = s.eui48
  phase : P .reset = false → u.start.phase = s.start.phase
  same : ∀ p, P p = false → p.same s u
  keyRefused : (P .slots || P .reset) = false → keyRefused u.status.active = keyRefused s.status.active
  rings : (P .flash || P .reset) = false → ringPlaces u.log u.sec u.gran = ringPlaces s.log s.sec s.gran

section
variable {P : Part → Bool} {s t u v : State}

theorem eq_of_hide {α : Type} {b : Bool} {x y : α} (h : hide b x = hide b y) (hb : b = false) : x = y := by
  simpa [hide, hb] using h

/-- A part that is not hidden is as in any state of the same view. -/
theorem Part.same_of_view (p : Part) (h : view P u = view P v) (hp : P p = false) (hs : p.same s v) : p.same s u := by
  have hnow : u.now = v.now := congrArg View.now h
  cases p with
  | reset => trivial
  | status =>
    have heq : u.status = v.status := eq_of_hide (congrArg View.status h) hp
    simpa only [Part.same, heq] using hs
  | ports =>
    have heq : u.ports = v.ports := eq_of_hide (congrArg View.ports h) hp
    simpa only [Part.same, heq] using hs
  | gptp =>
    have heq : u.gptp = v.gptp := eq_of_hide (congrArg View.gptp h) hp
    simpa only [Part.same, heq, hnow] using hs
  | slots =>
    have heq := eq_of_hide (congrArg View.slots h) hp
    obtain ⟨hslots, hsigners⟩ := Prod.mk.injEq .. ▸ heq
    exact ⟨hslots.trans hs.1, hsigners.trans hs.2⟩
  | keys =>
    have heq := congrArg (fun k : Security => { k with slots := u.sec.slots, signers := u.sec.signers })
      (eq_of_hide (congrArg View.keys h) hp)
    exact heq.trans (congrArg (fun k : Security => { k with slots := u.sec.slots, signers := u.sec.signers }) hs)
  | memory =>
    have heq := congrArg
      (fun m : Memories => { m with flash := u.mem.flash, psram := u.mem.psram, loft := u.mem.loft, sram := u.mem.sram })
      (eq_of_hide (congrArg View.memory h) hp)
    exact heq.trans (congrArg
      (fun m : Memories => { m with flash := u.mem.flash, psram := u.mem.psram, loft := u.mem.loft, sram := u.mem.sram }) hs)
  | freeCtr => exact (eq_of_hide (congrArg View.freeCtr h) hp).trans hs
  | start => exact (eq_of_hide (congrArg View.start h) hp).trans hs
  | aon => exact (eq_of_hide (congrArg View.aon h) hp).trans hs
  | straps => exact (eq_of_hide (congrArg View.straps h) hp).trans hs
  | log => exact (eq_of_hide (congrArg View.log h) hp).trans hs
  | well => exact (eq_of_hide (congrArg View.well h) hp).trans hs
  | history => exact (eq_of_hide (congrArg View.history h) hp).trans hs
  | podl => exact (eq_of_hide (congrArg View.podl h) hp).trans hs
  | switch => exact (eq_of_hide (congrArg View.switch h) hp).trans hs
  | streams => exact (eq_of_hide (congrArg View.streams h) hp).trans hs
  | routing => exact (eq_of_hide (congrArg View.routing h) hp).trans hs
  | red => exact (eq_of_hide (congrArg View.red h) hp).trans hs
  | bpi => exact (eq_of_hide (congrArg View.bpi h) hp).trans hs
  | bpo => exact (eq_of_hide (congrArg View.bpo h) hp).trans hs
  | tdm => exact (eq_of_hide (congrArg View.tdm h) hp).trans hs
  | mic => exact (eq_of_hide (congrArg View.mic h) hp).trans hs
  | usb => exact (eq_of_hide (congrArg View.usb h) hp).trans hs
  | blocks => exact (eq_of_hide (congrArg View.blocks h) hp).trans hs
  | thr => exact (eq_of_hide (congrArg View.thr h) hp).trans hs
  | gran => exact (eq_of_hide (congrArg View.gran h) hp).trans hs
  | clips => exact (eq_of_hide (congrArg View.clips h) hp).trans hs
  | plant => exact (eq_of_hide (congrArg View.plant h) hp).trans hs
  | spk => exact (eq_of_hide (congrArg View.spk h) hp).trans hs
  | motor => exact (eq_of_hide (congrArg View.motor h) hp).trans hs
  | endur => exact (eq_of_hide (congrArg View.endur h) hp).trans hs
  | sleep => exact (eq_of_hide (congrArg View.sleep h) hp).trans hs
  | lands => exact (eq_of_hide (congrArg View.lands h) hp).trans hs
  | jtag => exact (eq_of_hide (congrArg View.jtag h) hp).trans hs
  | cross => exact (eq_of_hide (congrArg View.cross h) hp).trans hs
  | flash => exact (eq_of_hide (congrArg View.flash h) hp).trans hs
  | psram => exact (eq_of_hide (congrArg View.psram h) hp).trans hs
  | loft => exact (eq_of_hide (congrArg View.loft h) hp).trans hs
  | sram => exact (eq_of_hide (congrArg View.sram h) hp).trans hs

theorem Part.same_refl (p : Part) (s : State) : p.same s s := by
  cases p with
  | reset => trivial
  | ports => exact fun _ => Port.sendsTo_refl _
  | gptp => exact ⟨[], by simp, rfl⟩
  | slots => exact ⟨rfl, rfl⟩
  | _ => rfl

theorem Part.same_trans (p : Part) (h : p.same s t) (k : p.same t u) (hs : s.now ≤ t.now) (ht : t.now ≤ u.now) : p.same s u := by
  cases p with
  | reset => trivial
  | ports => exact fun i => Port.sendsTo_trans (h i) (k i)
  | gptp =>
    obtain ⟨l, hl, hgptp⟩ := h
    obtain ⟨m, hm, hgptp'⟩ := k
    refine ⟨l ++ m, ?_, ?_⟩
    · rw [List.sum_append, hl, hm]
      omega
    · rw [List.foldl_append, ← hgptp, hgptp']
  | slots => exact ⟨k.1.trans h.1, k.2.trans h.2⟩
  | status => exact k.trans (congrArg
      (fun st : Status => { st with stat := u.status.stat, bpo := u.status.bpo, lines := u.status.lines }) h)
  | keys => exact k.trans (congrArg (fun k : Security => { k with slots := u.sec.slots, signers := u.sec.signers }) h)
  | memory => exact k.trans (congrArg
      (fun m : Memories => { m with flash := u.mem.flash, psram := u.mem.psram, loft := u.mem.loft, sram := u.mem.sram }) h)
  | _ => exact Eq.trans k h

/-- The status over time: the paths send, and nothing else changes. -/
theorem Status.drain_same (len dt : Nat) (bpo : Vector Bpo 4) (st : Status) :
    st.drain len dt bpo = { st with
      stat := (st.drain len dt bpo).stat, bpo := (st.drain len dt bpo).bpo, lines := (st.drain len dt bpo).lines } := by
  have hrun (st : Status) (n) : Status.runBpo len dt bpo st n = { st with
      bpo := (Status.runBpo len dt bpo st n).bpo, lines := (Status.runBpo len dt bpo st n).lines } := by
    unfold Status.runBpo
    split <;> rfl
  have hfold (l : List (Fin 4)) (st : Status) : l.foldl (Status.runBpo len dt bpo) st = { st with
      bpo := (l.foldl (Status.runBpo len dt bpo) st).bpo, lines := (l.foldl (Status.runBpo len dt bpo) st).lines } := by
    induction l generalizing st with
    | nil => rfl
    | cons n l ih =>
      rw [List.foldl_cons, ih]
      exact congrArg (fun x : Status => { x with
        bpo := (l.foldl (Status.runBpo len dt bpo) (Status.runBpo len dt bpo st n)).bpo
        lines := (l.foldl (Status.runBpo len dt bpo) (Status.runBpo len dt bpo st n)).lines }) (hrun st n)
  unfold Status.drain
  rw [hfold]

theorem Part.same_advance (p : Part) (dt : Nat) (s : State) : p.same s (s.advance dt) := by
  cases p with
  | reset => trivial
  | status => exact Status.drain_same _ _ _ _
  | ports =>
    intro i
    simp only [State.advance, Fin.getElem_fin, Vector.getElem_ofFn]
    exact Port.drain_sendsTo _ _ _ _ _
  | gptp => exact ⟨[dt], by simp [State.advance], rfl⟩
  | slots => exact ⟨rfl, rfl⟩
  | _ => rfl

theorem Evolves.refl (s : State) : Evolves P s s where
  now := le_rfl
  pending := rfl
  eui48 := rfl
  phase _ := rfl
  same p _ := p.same_refl s
  keyRefused _ := rfl
  rings _ := rfl

theorem Evolves.trans (h : Evolves P s t) (k : Evolves P t u) : Evolves P s u where
  now := h.now.trans k.now
  pending := k.pending.trans h.pending
  eui48 := k.eui48.trans h.eui48
  phase hP := (k.phase hP).trans (h.phase hP)
  same p hp := p.same_trans (h.same p hp) (k.same p hp) h.now k.now
  keyRefused hP := (k.keyRefused hP).trans (h.keyRefused hP)
  rings hP := (k.rings hP).trans (h.rings hP)

theorem Evolves.advance (dt : Nat) (s : State) : Evolves P s (s.advance dt) where
  now := Nat.le_add_right _ _
  pending := rfl
  eui48 := rfl
  phase _ := rfl
  same p _ := p.same_advance dt s
  keyRefused _ :=
    (congrArg (fun st : Status => Machine.keyRefused st.active) (Status.drain_same (thisLen s) dt s.bpo s.status) :)
  rings _ := rfl

theorem Evolves.of_view (h : view P u = view P v) (k : Evolves P s v) : Evolves P s u where
  now := k.now.trans_eq (congrArg View.now h).symm
  pending := (congrArg View.pending h).trans k.pending
  eui48 := (congrArg View.eui48 h).trans k.eui48
  phase hP := (eq_of_hide (congrArg View.phase h) hP).trans (k.phase hP)
  same p hp := p.same_of_view h hp (k.same p hp)
  keyRefused hP := (eq_of_hide (congrArg View.keyRefused h) hP).trans (k.keyRefused hP)
  rings hP := (eq_of_hide (congrArg View.rings h) hP).trans (k.rings hP)

/-- A view that operations which may change the parts in `P` reach from a state. -/
def Reach (P : Part → Bool) (s : State) (v : View) : Prop := ∃ u, Evolves P s u ∧ view P u = v

theorem Reach.evolves (h : Reach P s (view P u)) : Evolves P s u := by
  obtain ⟨v, hv, h⟩ := h
  exact .of_view h.symm hv

@[simp] theorem reach_self : Reach P s (view P s) := ⟨s, .refl s, rfl⟩

@[simp] theorem reach_advance (dt) (h : Reach P s (view P u)) : Reach P s (view P (u.advance dt)) :=
  ⟨u.advance dt, h.evolves.trans (.advance dt u), rfl⟩

@[simp] theorem reach_upTo (t) (h : Reach P s (view P u)) : Reach P s (view P (u.upTo t)) := reach_advance _ h

@[simp] theorem reach_upToDevice (t) (h : Reach P s (view P u)) : Reach P s (view P (u.upToDevice t)) := reach_advance _ h

/-- A command answers a next state, and has changed only the parts in `P`. -/
def Within (P : Part → Bool) (s : State) (r : Result) : Prop := Answers r fun u => Reach P s (view P u)

@[simp] theorem within_next : Within P s (.next u) ↔ Reach P s (view P u) := Iff.rfl

@[simp] theorem within_ite (c : Prop) [Decidable c] (x y : Result) :
    Within P s (if c then x else y) ↔ if c then Within P s x else Within P s y := by split <;> rfl

end
end Sys2Proof.Machine
end

/-! # Frame rules: status, device time, references

Each shared operation keeps the view without its own parts (chapters 4, 6 and 8). -/

section
namespace Sys2Proof.Machine

open Sys2Proof

variable {P : Part → Bool} (s : State)

theorem crossIn_view (q words) {work : State → State} (hP : List.all [.cross] P) (hw : view P (work s) = view P s) :
    view P (crossIn q words work s) = view P s := by
  simp at hP
  simp [crossIn, ↓view_update, ↓view_ite, hw, hP]

theorem sendOwn_view (f) (hP : List.all [.ports, .streams] P) : view P (sendOwn f s) = view P s := by
  simp at hP
  dsimp only [sendOwn]
  simp [↓view_update, ringPlaces, hP]

theorem forwardTo_view (i f) (hP : List.all [.ports] P) : view P (forwardTo i f s) = view P s := by
  simp at hP
  dsimp only [forwardTo]
  simp [↓view_update, ringPlaces, hP]

theorem sendPort_view (i f) (hP : List.all [.ports] P) : view P (sendPort i f s) = view P s := by
  simp at hP
  dsimp only [sendPort]
  simp [↓view_update, ringPlaces, hP]

theorem sendTenant_view (f) (hP : List.all [.ports, .streams, .keys] P) : view P (sendTenant f s) = view P s := by
  simp at hP
  unfold sendTenant
  (repeat' split) <;> simp [↓view_update, ↓sendOwn_view, ringPlaces, hP]

theorem sendAnnounce_view (f) (hP : List.all [.ports, .streams, .keys] P) : view P (sendAnnounce f s) = view P s := by
  simp at hP
  unfold sendAnnounce
  (repeat' split) <;> simp [↓view_update, ↓sendOwn_view, ringPlaces, hP]

theorem sendPairing_view (f) (hP : List.all [.freeCtr, .ports, .streams] P) : view P (sendPairing f s) = view P s := by
  simp at hP
  dsimp only [sendPairing]
  simp [↓view_update, ↓sendOwn_view, ringPlaces, hP]

theorem genFrame_view (kind tail) (hP : List.all [.status] P) : view P (genFrame kind tail s) = view P s := by
  simp at hP
  dsimp only [genFrame]
  simp [↓view_update, ringPlaces, hP]

theorem pumpFrames_view (nn q) (hP : List.all [.status, .ports, .streams, .keys] P) :
    view P (pumpFrames nn q s) = view P s := by
  simp at hP
  induction q generalizing s with
  | nil => simp [pumpFrames, ↓view_update, hP]
  | cons f q ih => simp [pumpFrames, ↓view_update, ↓view_ite, ↓sendTenant_view, hP, ih]

theorem pump_view (hP : List.all [.status, .ports, .streams, .keys] P) : view P (pump s) = view P s := by
  simp at hP
  unfold pump
  dsimp only
  split <;> simp [↓view_update, ↓pumpFrames_view, hP]

theorem refreshLeds_view (hP : List.all [.status] P) : view P (refreshLeds s) = view P s := by
  simp at hP
  dsimp only [refreshLeds]
  simp [↓view_update, ringPlaces, hP]

@[simp] theorem logPut_nextSlot (e) : (logPut e s).log.nextSlot = s.log.nextSlot := by
  simp only [logPut]
  (repeat' split) <;> rfl

theorem logPut_view (e) (hP : List.all [.log] P) : view P (logPut e s) = view P s := by
  simp at hP
  rw [show logPut e s = { s with log := (logPut e s).log } from rfl]
  simp [↓view_update, ringPlaces, hP]

@[simp] theorem logFaultLog_nextSlot (et c d) : (logFaultLog et c d s).nextSlot = s.log.nextSlot := by
  simp only [logFaultLog]
  split
  · rfl
  · exact logPut_nextSlot s _

theorem logFault_view (et code detail) (hP : List.all [.log] P) : view P (logFault et code detail s) = view P s := by
  simp at hP
  simp [logFault, ↓view_update, ringPlaces, hP]

@[simp] theorem faultEventStatus_active (et c d) : (faultEventStatus et c d s).active = s.status.active := by
  simp only [faultEventStatus]
  split <;> rfl

theorem faultEvent_view (et code detail) (hP : List.all [.status] P) :
    view P (faultEvent et code detail s) = view P s := by
  simp at hP
  simp [faultEvent, ↓view_update, hP]

/-- Taking out of the active faults others than F600 leaves F600 as it was. -/
theorem keyRefused_filter {p : ActiveFault → Bool} {l : List ActiveFault} (hp : ∀ a, a.code = 0xF600#16 → a.unit = 0 → p
    a = true) : keyRefused (l.filter p) = keyRefused l := by
  simp only [keyRefused, List.any_filter]
  congr 1
  funext a
  by_cases ha : a.code = 0xF600#16 <;> by_cases hu : a.unit = 0 <;> simp [ha, hu, hp]

theorem raiseAt_view (et) {code} (unit detail) (hP : List.all [.status, .log] P) (hcode : code ≠ 0xF600#16) :
    view P (raiseAt et code unit detail s) = view P s := by
  simp at hP
  simp only [raiseAt]
  rw [refreshLeds_view _ (by simp [hP]), view_update, logFault_view _ _ _ _ (by simp [hP]), faultEvent_view _ _ _ _ (by
      simp [hP])]
  case hrefused =>
    have hkeeps (l : List ActiveFault) : keyRefused (l.filter fun a => !(a.code == code && a.unit == unit)) = keyRefused
        l :=
      keyRefused_filter fun a ha _ => by simp [ha, hcode.symm]
    have hcons (l : List ActiveFault) (e) : keyRefused (⟨code, e, unit⟩ :: l) = keyRefused l := by simp [keyRefused,
        hcode]
    split
    · trivial
    · dsimp only
      split <;> simp only [hcons, hkeeps]
  all_goals simp [hP]

theorem raise_view {code} (unit detail) (hP : List.all [.status, .log] P) (hcode : code ≠ 0xF600#16) :
    view P (raise code unit detail s) = view P s := raiseAt_view s _ unit detail hP hcode

theorem raiseCount_view {code} (unit key rest) (hP : List.all [.status, .log] P) (hcode : code ≠ 0xF600#16) :
    view P (raiseCount code unit key rest s) = view P s := by
  simp at hP
  dsimp only [raiseCount]
  simp [↓view_update, ↓raise_view, hP, hcode]

theorem clear_view {code} (unit) (hP : List.all [.status] P) (hcode : code ≠ 0xF600#16) :
    view P (clear code unit s) = view P s := by
  simp at hP
  have hkeeps : keyRefused (s.status.active.filter fun a => !(a.code == code && a.unit == unit)) = keyRefused
      s.status.active :=
    keyRefused_filter fun a ha _ => by simp [ha, hcode.symm]
  dsimp only [clear]
  rw [refreshLeds_view _ (by simp [hP]), view_update]
  case hrefused => simp only [hkeeps, ite_self]
  all_goals simp [hP]

theorem clearAll_view {code} (hP : List.all [.status] P) (hcode : code ≠ 0xF600#16) :
    view P (clearAll code s) = view P s := by
  simp at hP
  have hkeeps : keyRefused (s.status.active.filter fun a => a.code != code) = keyRefused s.status.active :=
    keyRefused_filter fun a ha _ => by simp [ha, hcode.symm]
  dsimp only [clearAll]
  simp [↓refreshLeds_view, ↓view_update, hP, hkeeps]

theorem modeFrame_view (et left m code) (hP : List.all [.status] P) :
    view P (modeFrame et left m code s) = view P s := by
  simp at hP
  dsimp only [modeFrame]
  simp [↓genFrame_view, hP]

theorem modeSet_view (et m code) (hP : List.all [.start, .status, .log] P) :
    view P (modeSet et m code s) = view P s := by
  simp at hP
  dsimp only [modeSet]
  simp [↓view_update, ↓logPut_view, ↓refreshLeds_view, ringPlaces, hP]

theorem modeChange_view (et m code) (hP : List.all [.start, .status, .log] P) :
    view P (modeChange et m code s) = view P s := by
  simp at hP
  dsimp only [modeChange]
  simp [↓modeFrame_view, ↓modeSet_view, hP]

theorem repairEvent_view (et kind unit index spares outcome) (hP : List.all [.status, .log] P) :
    view P (repairEvent et kind unit index spares outcome s) = view P s := by
  simp at hP
  dsimp only [repairEvent]
  simp [↓logPut_view, ↓genFrame_view, hP]

theorem makeDue_view (w) (hP : List.all [.blocks] P) : view P (makeDue w s) = view P s := by
  simp at hP
  dsimp only [makeDue]
  simp [↓view_update, ringPlaces, hP]

theorem drawFree_view (hP : List.all [.freeCtr] P) : view P (drawFree s).2 = view P s := by
  simp at hP
  dsimp only [drawFree]
  simp [↓view_update, ringPlaces, hP]

theorem freeBytes_view (n) (hP : List.all [.freeCtr] P) : view P (freeBytes n s).2 = view P s := by
  simp at hP
  dsimp only [freeBytes]
  simp [↓view_update, ringPlaces, hP]

theorem endSearch_view (hP : List.all [.status] P) : view P (endSearch s) = view P s := by
  simp at hP
  dsimp only [endSearch]
  simp [↓clearAll_view, ↓view_ite, hP]

theorem runBmca_view (hP : List.all [.status, .gptp] P) : view P (runBmca s) = view P s := by
  simp at hP
  dsimp only [runBmca]
  simp [↓view_update, ↓endSearch_view, ↓clearAll_view, ringPlaces, ↓view_ite, hP]

theorem selectClears_view (r) (hP : List.all [.status] P) : view P (selectClears r s) = view P s := by
  simp at hP
  dsimp only [selectClears]
  simp [↓clearAll_view, ↓view_ite, hP]

theorem seedDco_view (r) (hP : List.all [.well] P) : view P (seedDco r s) = view P s := by
  simp at hP
  dsimp only [seedDco]
  simp [↓view_update, ringPlaces, hP]

theorem startSelect_view (r) (hP : List.all [.status, .well, .history] P) : view P (startSelect r s) = view P s := by
  simp at hP
  dsimp only [startSelect]
  simp [↓view_update, ↓seedDco_view, ↓selectClears_view, ringPlaces, hP]

theorem deadlineSelect_view (hP : List.all [.status, .log, .well, .history] P) :
    view P (deadlineSelect s) = view P s := by
  simp at hP
  dsimp only [deadlineSelect]
  (repeat' split) <;> simp [↓startSelect_view, ↓raise_view, hP]

theorem wellBegin_view (t) (hP : List.all [.status, .well, .history] P) : view P (wellBegin t s) = view P s := by
  simp at hP
  dsimp only [wellBegin]
  (repeat' split) <;> simp [↓view_update, ↓startSelect_view, ringPlaces, hP]

theorem enterHoldover_view (loss r) (hP : List.all [.well, .endur] P) : view P (enterHoldover loss r s) = view P s := by
  simp at hP
  dsimp only [enterHoldover]
  simp [↓view_update, ringPlaces, hP]

theorem loseRef_view (r crf) (hP : List.all [.status, .log, .well, .history, .endur] P) :
    view P (loseRef r crf s) = view P s := by
  simp at hP
  dsimp only [loseRef]
  (repeat' split) <;> simp [↓view_update, ↓raise_view, ↓deadlineSelect_view, ↓enterHoldover_view, ringPlaces, hP]

theorem switchTo_view (et r fallBack) (hP : List.all [.status, .log, .well, .history] P) :
    view P (switchTo et r fallBack s) = view P s := by
  simp at hP
  dsimp only [switchTo]
  simp [↓view_update, ↓selectClears_view, ↓raiseAt_view, ringPlaces, ↓view_ite, hP]

theorem wellCheck_view (t et) (hP : List.all [.status, .log, .well, .history] P) :
    view P (wellCheck t et s) = view P s := by
  simp at hP
  dsimp only [wellCheck]
  (repeat' split) <;> simp [↓switchTo_view, hP]

theorem lockNow_view (hP : List.all [.well, .blocks] P) : view P (lockNow s) = view P s := by
  simp at hP
  dsimp only [lockNow]
  simp [↓view_update, ringPlaces, hP]

theorem loopUpdate_view (r err) (hP : List.all [.status, .log, .well, .history, .blocks, .endur] P) :
    view P (loopUpdate r err s) = view P s := by
  simp at hP
  dsimp only [loopUpdate]
  simp [↓view_update, ↓lockNow_view, ↓loseRef_view, ringPlaces, ↓view_ite, hP]

theorem wellBlock_view (hP : List.all [.status, .log, .well, .history, .blocks, .endur] P) :
    view P (wellBlock s) = view P s := by
  simp at hP
  dsimp only [wellBlock]
  (repeat' split) <;> simp [↓view_update, ↓loopUpdate_view, ringPlaces, hP]

end Sys2Proof.Machine
end

/-! # Frame rules: modes, network, paths, images

Start and modes, ports, sample paths and the Granary's images (chapters 3, 7, 12, 15 and 20). -/

section
namespace Sys2Proof.Machine

open Sys2Proof

variable {P : Part → Bool} (s : State)

theorem resetDevice_view (cause keepLog) (hP : List.all [.reset, .start, .straps, .status, .log, .well, .ports, .podl,
    .switch, .gptp, .streams, .routing, .red, .keys, .bpi, .bpo, .tdm, .mic, .usb, .blocks, .thr, .memory, .gran,
    .clips, .plant, .spk, .motor, .endur, .sleep, .jtag, .cross] P) :
    view P (resetDevice cause keepLog s) = view P s := by
  simp at hP
  dsimp only [resetDevice]
  simp [↓view_update, hP]

theorem setCounter_view (n) (hP : List.all [.aon, .log] P) : view P (setCounter n s) = view P s := by
  simp at hP
  dsimp only [setCounter]
  simp [↓view_update, ↓logPut_view, ringPlaces, ↓view_ite, hP]

theorem countFailed_view (code) (hP : List.all [.aon, .log] P) : view P (countFailed code s) = view P s := by
  simp at hP
  dsimp only [countFailed]
  simp [↓view_update, ↓setCounter_view, ringPlaces, hP]

theorem watchdogReset_view (cause) {code} (detail) (hP : List.all [.reset, .start, .aon, .straps, .status, .log, .well,
    .ports, .podl, .switch, .gptp, .streams, .routing, .red, .keys, .bpi, .bpo, .tdm, .mic, .usb, .blocks, .thr,
    .memory, .gran, .clips, .plant, .spk, .motor, .endur, .sleep, .jtag, .cross] P) (hcode : code ≠ 0xF600#16) :
    view P (watchdogReset cause code detail s) = view P s := by
  simp at hP
  dsimp only [watchdogReset]
  simp [↓resetDevice_view, ↓view_ite, ↓countFailed_view, ↓raise_view, hP, hcode]

theorem startReport_view (hP : List.all [.status] P) : view P (startReport s) = view P s := by
  simp at hP
  dsimp only [startReport]
  simp [↓genFrame_view, hP]

theorem heartbeat_view (instant) (hP : List.all [.status] P) : view P (heartbeat instant s) = view P s := by
  simp at hP
  dsimp only [heartbeat]
  simp [↓view_update, ↓genFrame_view, ringPlaces, hP]

theorem telemetry_view (hP : List.all [.status, .thr, .spk, .motor] P) : view P (telemetry s) = view P s := by
  simp at hP
  dsimp only [telemetry]
  simp [↓view_update, ↓genFrame_view, ringPlaces, hP]

theorem applyLimits_view (hP : List.all [.plant] P) : view P (applyLimits s) = view P s := by
  simp at hP
  dsimp only [applyLimits]
  (repeat' split) <;> simp [↓view_update, ringPlaces, hP]

theorem stopForSafe_view (hP : List.all [.start, .status, .well, .history, .streams, .routing, .red, .keys, .bpi, .bpo,
    .tdm, .mic, .usb, .blocks, .thr, .gran, .clips, .plant, .spk, .motor, .sleep] P) :
    view P (stopForSafe s) = view P s := by
  simp at hP
  dsimp only [stopForSafe]
  simp [↓view_update, ringPlaces, hP]

theorem releaseStart_view (hP : List.all [.blocks] P) : view P (releaseStart s) = view P s := by
  simp at hP
  dsimp only [releaseStart]
  simp [↓view_update, ringPlaces, hP]

theorem safeState_view (et cause code) (hP : List.all [.start, .status, .log, .well, .history, .gptp, .streams,
    .routing, .red, .keys, .bpi, .bpo, .tdm, .mic, .usb, .blocks, .thr, .gran, .clips, .plant, .spk, .motor, .sleep] P)
    :
    view P (safeState et cause code s) = view P s := by
  simp at hP
  dsimp only [safeState]
  simp [↓view_update, ↓modeSet_view, ↓refreshLeds_view, ↓releaseStart_view, ↓applyLimits_view, ↓runBmca_view,
      ↓stopForSafe_view, ringPlaces, hP]

theorem reschedule_view (hP : List.all [.status, .streams, .red, .keys, .gran] P) :
    view P (reschedule s) = view P s := by
  simp at hP
  dsimp only [reschedule]
  simp [↓view_update, ringPlaces, hP]

theorem enterSafe_view (et code) (hP : List.all [.start, .status, .log, .well, .history, .gptp, .streams, .routing,
    .red, .keys, .bpi, .bpo, .tdm, .mic, .usb, .blocks, .thr, .gran, .clips, .plant, .spk, .motor, .sleep] P) :
    view P (enterSafe et code s) = view P s := by
  simp at hP
  dsimp only [enterSafe]
  simp [↓view_update, ↓startReport_view, ↓modeFrame_view, ↓safeState_view, ringPlaces, hP]

theorem readKeys_view (hP : List.all [.keys] P) : view P (readKeys s) = view P s := by
  simp at hP
  dsimp only [readKeys]
  simp [↓view_update, ringPlaces, hP]

theorem safeAtStart_view (cause code) {faults : State → State} (hP : List.all [.start, .status, .log, .well, .history,
    .gptp, .streams, .routing, .red, .keys, .bpi, .bpo, .tdm, .mic, .usb, .blocks, .thr, .gran, .clips, .plant, .spk,
    .motor, .sleep] P) (hfaults : ∀ s, view P (faults s) = view P s) :
    view P (safeAtStart cause code faults s) = view P s := by
  simp at hP
  dsimp only [safeAtStart]
  simp [↓view_update, ↓startReport_view, ↓safeState_view, ↓modeFrame_view, ↓readKeys_view, hP, hfaults]

theorem noteSci_view (f) (hP : List.all [.keys] P) : view P (noteSci f s) = view P s := by
  simp at hP
  dsimp only [noteSci]
  (repeat' split) <;> simp [↓view_update, ringPlaces, hP]

theorem integrityFault_view (f) (hP : List.all [.status, .log] P) : view P (integrityFault f s) = view P s := by
  simp at hP
  dsimp only [integrityFault]
  simp [↓raise_view, hP]

theorem verified_view (f) {k : State → State} (hP : List.all [.status, .log, .keys] P)
    (hk : ∀ s, view P (k s) = view P s) :
    view P (verified f k s) = view P s := by
  simp at hP
  dsimp only [verified]
  split <;> simp [↓noteSci_view, ↓integrityFault_view, hP, hk]

theorem hearLeader_view (teaches n) (hP : List.all [.status, .log] P) : view P (hearLeader teaches n s) = view P s := by
  simp at hP
  dsimp only [hearLeader]
  simp [↓view_update, ↓clearAll_view, ↓raise_view, ringPlaces, ↓view_ite, hP]

theorem leaderAbsent_view (n) (hP : List.all [.status, .log] P) : view P (leaderAbsent n s) = view P s := by
  simp at hP
  dsimp only [leaderAbsent]
  simp [↓view_update, ↓clear_view, ↓raise_view, ringPlaces, ↓view_ite, hP]

theorem countLost_view (i n) (hP : List.all [.status, .log, .streams] P) : view P (countLost i n s) = view P s := by
  simp at hP
  dsimp only [countLost]
  (repeat' split) <;> simp [↓view_update, ↓raiseCount_view, ringPlaces, hP]

theorem countDiscard_view (hP : List.all [.status] P) : view P (countDiscard s) = view P s := by
  simp at hP
  dsimp only [countDiscard]
  simp [↓view_update, ringPlaces, hP]

theorem withRx_view (kind n) (hP : List.all [.streams] P) : view P (withRx kind n s).1 = view P s := by
  simp at hP
  dsimp only [withRx]
  (repeat' split) <;> simp [↓view_update, ringPlaces, hP]

theorem endpointIn_view (f) {work : State → State} (hP : List.all [.cross] P) (hw : view P (work s) = view P s) :
    view P (endpointIn f work s) = view P s := by
  simp at hP
  dsimp only [endpointIn]
  simp [↓view_ite, ↓crossIn_view, hP, hw]

/-- A frame that is verified where it is offered to the endpoint. -/
theorem endpointIn_verified_view (f) {k : State → State} (hP : List.all [.cross, .status, .log, .keys] P)
    (hk : ∀ s, view P (k s) = view P s) :
    view P (endpointIn f (verified f k) s) = view P s := by
  simp at hP
  exact endpointIn_view s f (by simp [hP]) (verified_view s f (by simp [hP]) hk)

theorem setTdm_view (p t) (hP : List.all [.tdm] P) : view P (setTdm p t s) = view P s := by
  simp at hP
  dsimp only [setTdm]
  simp [↓view_update, ringPlaces, hP]

theorem tdmFault_view (p cause) (hP : List.all [.status, .log, .tdm] P) : view P (tdmFault p cause s) = view P s := by
  simp at hP
  dsimp only [tdmFault]
  simp [↓raiseCount_view, ↓setTdm_view, hP]

theorem tdmSlip_view (p r) (hP : List.all [.status, .log, .tdm] P) : view P (tdmSlip p r s) = view P s := by
  simp at hP
  dsimp only [tdmSlip]
  simp [↓tdmFault_view, ↓setTdm_view, ↓view_ite, hP]

theorem tdmInstant_view (i p) (hP : List.all [.status, .log, .tdm] P) : view P (tdmInstant i s p) = view P s := by
  simp at hP
  dsimp only [tdmInstant]
  simp [↓tdmSlip_view, ↓view_ite, hP]

theorem usbFault_view (under over_ thrown) (hP : List.all [.status, .log, .usb] P) :
    view P (usbFault under over_ thrown s) = view P s := by
  simp at hP
  dsimp only [usbFault]
  simp [↓view_update, ↓raiseCount_view, ringPlaces, hP]

theorem usbInstant_view (hP : List.all [.status, .log, .usb] P) : view P (usbInstant s) = view P s := by
  simp at hP
  dsimp only [usbInstant]
  (repeat' split) <;> simp [↓view_update, ↓usbFault_view, ringPlaces, hP]

theorem stopPairs_view (use) (hP : List.all [.blocks] P) : view P (stopPairs use s) = view P s := by
  simp at hP
  dsimp only [stopPairs]
  simp [↓view_update, ringPlaces, hP]

theorem mediaInstant_view (i) (hP : List.all [.status, .log, .tdm, .usb, .blocks] P) :
    view P (mediaInstant s i) = view P s := by
  simp at hP
  dsimp only [mediaInstant]
  simp [↓view_update, ↓usbInstant_view, ↓tdmInstant_view, ringPlaces, hP]

theorem mediaTo_view (k) (hP : List.all [.status, .log, .tdm, .usb, .blocks] P) : view P (mediaTo k s) = view P s := by
  simp at hP
  dsimp only [mediaTo]
  simp [↓mediaInstant_view, ↓view_ite, ↓foldl_view, hP]

theorem mediaNow_view (hP : List.all [.status, .log, .tdm, .usb, .blocks] P) : view P (mediaNow s) = view P s := by
  simp at hP
  dsimp only [mediaNow]
  simp [↓mediaTo_view, hP]

theorem concealFaults_view (x old) (hP : List.all [.status, .log] P) : view P (concealFaults x old s) = view P s := by
  simp at hP
  dsimp only [concealFaults]
  rw [foldl_view, foldl_view]
  all_goals
    intro s ch
    split <;> simp [↓view_ite, ↓raise_view, ↓clear_view, hP]

theorem presentStream_view (m k) (hP : List.all [.status, .log, .streams, .blocks] P) :
    view P (presentStream m s k) = view P s := by
  simp at hP
  dsimp only [presentStream]
  (repeat' split) <;> simp [↓view_update, ↓concealFaults_view, ringPlaces, hP]

theorem presentNow_view (hP : List.all [.status, .log, .streams, .blocks] P) : view P (presentNow s) = view P s := by
  simp at hP
  dsimp only [presentNow]
  simp [↓presentStream_view, ↓foldl_view, hP]

theorem admitNodes_view (l) (hP : List.all [.streams] P) : view P (admitNodes l s) = view P s := by
  simp at hP
  dsimp only [admitNodes]
  simp [↓view_update, ringPlaces, hP]

theorem withPair_view (i f) (hP : List.all [.blocks] P) : view P (withPair i f s) = view P s := by
  simp at hP
  dsimp only [withPair]
  simp [↓view_update, ringPlaces, hP]

theorem execAsrcTrackingStart_within (t i) (hP : List.all [.status, .log, .tdm, .usb, .blocks] P) :
    Within P s (execAsrcTrackingStart t i s) := by
  simp at hP
  dsimp only [execAsrcTrackingStart]
  (repeat' split) <;> simp [↓within_next, ↓mediaNow_view, ↓withPair_view, hP]

theorem execAsrcLock_within (t i) (hP : List.all [.status, .log, .tdm, .usb, .blocks] P) :
    Within P s (execAsrcLock t i s) := by
  simp at hP
  dsimp only [execAsrcLock]
  (repeat' split) <;> simp [↓within_next, ↓mediaNow_view, ↓withPair_view, ↓clear_view, hP]

theorem execAsrcUnlock_within (t i) (hP : List.all [.status, .log, .tdm, .usb, .blocks] P) :
    Within P s (execAsrcUnlock t i s) := by
  simp at hP
  dsimp only [execAsrcUnlock]
  (repeat' split) <;> simp [↓within_next, ↓mediaNow_view, ↓withPair_view, hP]

theorem execAsrcLockTimeout_within (i ratioOut) (hP : List.all [.status, .log, .tdm, .usb, .blocks] P) :
    Within P s (execAsrcLockTimeout i ratioOut s) := by
  simp at hP
  dsimp only [execAsrcLockTimeout]
  (repeat' split) <;> simp [↓within_next, ↓mediaNow_view, ↓withPair_view, ↓raise_view, hP]

theorem execAsrcFixedRatioEntry_within (t i k) (hP : List.all [.blocks] P) :
    Within P s (execAsrcFixedRatioEntry t i k s) := by
  simp at hP
  dsimp only [execAsrcFixedRatioEntry]
  (repeat' split) <;> simp [↓within_next, ↓withPair_view, hP]

theorem execStartDetect_within (t) (hP : List.all [.status, .log, .blocks] P) : Within P s (execStartDetect t s) := by
  simp at hP
  dsimp only [execStartDetect]
  simp [↓within_next, ↓within_ite, ↓view_update, ↓raise_view, ringPlaces, ↓view_ite, hP]

theorem execStartTimeout_within (hP : List.all [.status, .log, .blocks] P) : Within P s (execStartTimeout s) := by
  simp at hP
  dsimp only [execStartTimeout]
  (repeat' split) <;> simp [↓within_next, ↓view_update, ↓raise_view, ringPlaces, hP]

theorem execMuteNChange_within (t low) (hP : List.all [.blocks] P) : Within P s (execMuteNChange t low s) := by
  simp at hP
  dsimp only [execMuteNChange]
  simp [↓within_next, ↓within_ite, ↓view_update, ringPlaces, hP]

theorem keepFrames_view (hP : List.all [.status, .bpo] P) : view P (keepFrames s) = view P s := by
  simp at hP
  dsimp only [keepFrames]
  simp [↓view_update, ringPlaces, hP]

theorem biphaseErrors_view (n pre par len) (hP : List.all [.status, .log, .bpi] P) :
    view P (biphaseErrors n pre par len s) = view P s := by
  simp at hP
  dsimp only [biphaseErrors]
  simp [↓view_update, ↓raiseCount_view, ringPlaces, ↓view_ite, hP]

theorem toPair_view (n f) (hP : List.all [.blocks] P) : view P (toPair n f s) = view P s := by
  simp at hP
  dsimp only [toPair]
  simp [↓view_update, ringPlaces, hP]

theorem trackFrame_view (n rate timed) (hP : List.all [.blocks] P) : view P (trackFrame n rate timed s) = view P s := by
  simp at hP
  dsimp only [trackFrame]
  simp [↓view_update, ringPlaces, hP]

theorem followFrame_view (n) (hP : List.all [.status, .blocks] P) : view P (followFrame n s) = view P s := by
  simp at hP
  dsimp only [followFrame]
  simp [↓view_update, ↓view_ite, Status.setBpo, hP]

theorem releaseHeld_view (n) (hP : List.all [.bpi, .blocks] P) : view P (releaseHeld n s) = view P s := by
  simp at hP
  dsimp only [releaseHeld]
  (repeat' split) <;> simp [↓view_update, ↓toPair_view, ringPlaces, hP]

theorem nonAudioFault_view (n burst) (hP : List.all [.status, .log] P) :
    view P (nonAudioFault n burst s) = view P s := by
  simp at hP
  dsimp only [nonAudioFault]
  simp [↓raise_view, hP]

theorem takeFrame_view (n f) (hP : List.all [.status, .log, .bpi, .tdm, .usb, .blocks] P) :
    view P (takeFrame n f s) = view P s := by
  simp at hP
  dsimp only [takeFrame]
  simp [↓view_update, ↓followFrame_view, ↓mediaNow_view, ↓trackFrame_view, ↓releaseHeld_view, ↓biphaseErrors_view,
      ↓nonAudioFault_view, ↓clear_view, ringPlaces, ↓view_ite, hP]

theorem execBiphaseFrameReceive_within (t n f) (hP : List.all [.status, .log, .bpi, .tdm, .usb, .blocks, .cross] P) :
    Within P s (execBiphaseFrameReceive t n f s) := by
  simp at hP
  dsimp only [execBiphaseFrameReceive]
  simp [↓within_next, ↓crossIn_view, ↓takeFrame_view, ↓view_ite, hP]

theorem execBiphaseInputLoss_within (t n rateOut) (hP : List.all [.status, .log, .bpi, .tdm, .usb, .blocks] P) :
    Within P s (execBiphaseInputLoss t n rateOut s) := by
  simp at hP
  dsimp only [execBiphaseInputLoss]
  simp [↓within_next, ↓within_ite, ↓view_update, ↓releaseHeld_view, ↓mediaNow_view, ↓stopPairs_view, ↓raise_view,
      ringPlaces, ↓view_ite, hP]

theorem missingProfile_view (x : State) (k differs) (hP : List.all [.status, .log] P) :
    view P (missingProfile x k differs s) = view P s := by
  simp at hP
  simp [missingProfile, ↓raise_view, hP]

theorem loadProfiles_view (hP : List.all [.start, .status, .log, .gran] P) : view P (loadProfiles s) = view P s := by
  simp at hP
  dsimp only [loadProfiles]
  simp [↓view_update, ↓missingProfile_view, ringPlaces, ↓view_ite, hP]

theorem speakerFault_view (hP : List.all [.status, .log] P) : view P (speakerFault s) = view P s := by
  simp at hP
  dsimp only [speakerFault]
  simp [↓raise_view, ↓view_ite, hP]

theorem loadModels_view (hP : List.all [.status, .log, .gran] P) : view P (loadModels s) = view P s := by
  simp at hP
  dsimp only [loadModels]
  simp [↓view_update, ↓raise_view, ↓speakerFault_view, ringPlaces, ↓view_ite, hP]

theorem checkModelRate_view (hP : List.all [.status, .log, .gran] P) : view P (checkModelRate s) = view P s := by
  simp at hP
  dsimp only [checkModelRate]
  (repeat' split) <;> simp [↓view_update, ↓raise_view, ↓speakerFault_view, ringPlaces, hP]

theorem loadClips_view (hP : List.all [.gran] P) : view P (loadClips s) = view P s := by
  simp at hP
  dsimp only [loadClips]
  simp [↓view_update, ringPlaces, hP]

theorem setupContexts_view (hP : List.all [.thr] P) : view P (setupContexts s) = view P s := by
  simp at hP
  dsimp only [setupContexts]
  simp [↓view_update, ringPlaces, hP]

theorem loadLoft_view (hP : List.all [.loft] P) : view P (loadLoft s) = view P s := by
  simp at hP
  dsimp only [loadLoft]
  (repeat' split) <;> simp [↓view_update, ringPlaces, hP]

theorem setupSilo_view (hP : List.all [.psram] P) : view P (setupSilo s) = view P s := by
  simp at hP
  dsimp only [setupSilo]
  simp [↓view_update, ringPlaces, hP]

theorem writeBank_view (k b) (hP : List.all [.psram] P) : view P (writeBank k b s) = view P s := by
  simp at hP
  dsimp only [writeBank]
  simp [↓view_update, ringPlaces, hP]

theorem writeEntry_view (k) (hP : List.all [.psram] P) : view P (writeEntry k s) = view P s := by
  simp at hP
  dsimp only [writeEntry]
  simp [↓view_update, ringPlaces, hP]

theorem requestTags_view (l) (hP : List.all [.memory] P) : view P (requestTags l s) = view P s := by
  simp at hP
  dsimp only [requestTags]
  simp [↓view_update, ringPlaces, hP]

theorem completeBus_view (silo) (hP : List.all [.memory] P) : view P (completeBus silo s) = view P s := by
  simp at hP
  dsimp only [completeBus]
  simp [↓view_update, ↓requestTags_view, ringPlaces, hP]

theorem askBus_view (l) (hP : List.all [.memory] P) : view P (askBus l s) = view P s := by
  simp at hP
  dsimp only [askBus]
  simp [↓requestTags_view, hP]

theorem siloWrite_view (cls owner addr len) (hP : List.all [.memory] P) :
    view P (siloWrite cls owner addr len s) = view P s := by
  simp at hP
  dsimp only [siloWrite]
  simp [↓requestTags_view, hP]

theorem podlYield_view (hP : List.all [.podl] P) : view P (podlYield s) = view P s := by
  simp at hP
  dsimp only [podlYield]
  simp [↓view_update, ringPlaces, ↓view_ite, hP]

theorem podlLatch_view (hP : List.all [.podl] P) : view P (podlLatch s) = view P s := by
  simp at hP
  dsimp only [podlLatch]
  simp [↓view_update, ↓podlYield_view, ringPlaces, hP]

theorem setSwitch_view (hP : List.all [.plant] P) : view P (setSwitch s) = view P s := by
  simp at hP
  dsimp only [setSwitch]
  simp [↓view_update, ringPlaces, hP]

theorem suspendBy_view (code cause) (hP : List.all [.plant] P) : view P (suspendBy code cause s) = view P s := by
  simp at hP
  dsimp only [suspendBy]
  simp [↓view_update, ringPlaces, hP]

theorem unsuspend_view (code cause) (hP : List.all [.plant] P) : view P (unsuspend code cause s) = view P s := by
  simp at hP
  dsimp only [unsuspend]
  simp [↓view_update, ringPlaces, hP]

theorem chargeTick_view (hP : List.all [.plant] P) : view P (chargeTick s) = view P s := by
  simp at hP
  dsimp only [chargeTick]
  simp [↓view_update, ringPlaces, hP]

theorem cutoffClear_view (hP : List.all [.status] P) : view P (cutoffClear s) = view P s := by
  simp at hP
  dsimp only [cutoffClear]
  simp [↓clear_view, ↓view_ite, hP]

theorem chargerUpdate_view (hP : List.all [.status, .log, .plant] P) : view P (chargerUpdate s) = view P s := by
  simp at hP
  dsimp only [chargerUpdate]
  (repeat' split) <;> simp [↓view_update, ↓chargeTick_view, ↓cutoffClear_view, ↓applyLimits_view, ↓suspendBy_view,
      ↓raise_view, ↓unsuspend_view, ↓clear_view, ringPlaces, hP]

theorem packHeat_view (cause) (hP : List.all [.status, .log] P) : view P (packHeat cause s) = view P s := by
  simp at hP
  dsimp only [packHeat]
  simp [↓raise_view, hP]

theorem setSoc_view (percent) (hP : List.all [.plant] P) : view P (setSoc percent s) = view P s := by
  simp at hP
  dsimp only [setSoc]
  simp [↓view_update, ringPlaces, hP]

theorem countSoc_view (ma) (hP : List.all [.plant] P) : view P (countSoc ma s) = view P s := by
  simp at hP
  dsimp only [countSoc]
  (repeat' split) <;> simp [↓view_update, ringPlaces, hP]

theorem powerBoundary_view (et) (hP : List.all [.status, .log, .plant] P) : view P (powerBoundary et s) = view P s := by
  simp at hP
  dsimp only [powerBoundary]
  simp [↓view_update, ↓raiseAt_view, ↓clearAll_view, ringPlaces, ↓view_ite, hP]

end Sys2Proof.Machine
end

/-! # Frame rules: power, Thresher, motor, pairs

The plant, Thresher, the clip player, and the pair's shared operations (chapters 10, 16, 21 and 22). -/

section
namespace Sys2Proof.Machine

open Sys2Proof

variable {P : Part → Bool} (s : State)

theorem mapSpk_view (k f) (hP : List.all [.spk] P) : view P (mapSpk k f s) = view P s := by
  simp at hP
  dsimp only [mapSpk]
  simp [↓view_update, ringPlaces, hP]

theorem driveStage_view (k) (hP : List.all [.spk] P) : view P (driveStage s k) = view P s := by
  simp at hP
  dsimp only [driveStage]
  simp [↓mapSpk_view, ↓view_ite, hP]

theorem gainBoundary_view (k) (hP : List.all [.status, .log, .spk] P) : view P (gainBoundary s k) = view P s := by
  simp at hP
  dsimp only [gainBoundary]
  (repeat' split) <;> simp [↓mapSpk_view, ↓raise_view, hP]

theorem speakersEnd_view (x0 x1) (hP : List.all [.spk] P) : view P (speakersEnd x0 x1 s) = view P s := by
  simp at hP
  dsimp only [speakersEnd]
  simp [↓driveStage_view, ↓mapSpk_view, hP]

theorem speakersBegin_view (pvdd) (hP : List.all [.status, .log, .spk] P) :
    view P (speakersBegin pvdd s) = view P s := by
  simp at hP
  dsimp only [speakersBegin]
  simp [↓view_update, ↓gainBoundary_view, ringPlaces, ↓view_ite, hP]

theorem plantJob_view (hP : List.all [.spk] P) : view P (plantJob s) = view P s := by
  simp at hP
  dsimp only [plantJob]
  simp [↓mapSpk_view, ↓view_ite, hP]

theorem setCtx_view (k c) (hP : List.all [.thr] P) : view P (setCtx k c s) = view P s := by
  simp at hP
  dsimp only [setCtx]
  simp [↓view_update, ringPlaces, hP]

theorem mapCtx_view (k f) (hP : List.all [.thr] P) : view P (mapCtx k f s) = view P s := by
  simp at hP
  dsimp only [mapCtx]
  simp [↓setCtx_view, hP]

theorem refreshOutstanding_view (hP : List.all [.thr] P) : view P (refreshOutstanding s) = view P s := by
  simp at hP
  dsimp only [refreshOutstanding]
  simp [↓view_update, ringPlaces, hP]

theorem keepInputs_view (hP : List.all [.thr] P) : view P (keepInputs s) = view P s := by
  simp at hP
  dsimp only [keepInputs]
  simp [↓view_update, ringPlaces, hP]

theorem plantWindow_view (hP : List.all [.thr] P) : view P (plantWindow s) = view P s := by
  simp at hP
  dsimp only [plantWindow]
  simp [↓view_update, ringPlaces, hP]

theorem contextWindow_view (hP : List.all [.thr] P) : view P (contextWindow s) = view P s := by
  simp at hP
  dsimp only [contextWindow]
  simp [↓view_update, ringPlaces, ↓view_ite, hP]

theorem sendBank_view (k b) (hP : List.all [.psram, .memory] P) : view P (sendBank k b s) = view P s := by
  simp at hP
  dsimp only [sendBank]
  simp [↓siloWrite_view, ↓writeBank_view, hP]

theorem commitState_view (k block b) (hP : List.all [.thr, .psram, .memory] P) :
    view P (commitState k block b s) = view P s := by
  simp at hP
  dsimp only [commitState]
  simp [↓mapCtx_view, ↓sendBank_view, ↓view_ite, hP]

theorem withdrawLane_view (cause) (hP : List.all [.status, .log, .thr, .motor] P) :
    view P (withdrawLane cause s) = view P s := by
  simp at hP
  dsimp only [withdrawLane]
  simp [↓view_update, ↓raise_view, ringPlaces, hP]

theorem settleRecompute_view (d j outs) (hP : List.all [.status, .log, .thr, .motor] P) :
    view P (settleRecompute d j outs s) = view P s := by
  simp at hP
  dsimp only [settleRecompute]
  simp [↓view_update, ↓mapCtx_view, ↓withdrawLane_view, ringPlaces, ↓view_ite, hP]

theorem setJob_view (j) (hP : List.all [.thr] P) : view P (setJob j s) = view P s := by
  simp at hP
  dsimp only [setJob]
  simp [↓view_update, ringPlaces, hP]

theorem finishJob_view (j h0) (hP : List.all [.freeCtr, .status, .log, .thr, .psram, .memory, .spk, .motor] P) :
    view P (finishJob j h0 s) = view P s := by
  simp at hP
  dsimp only [finishJob]
  (repeat' split) <;> simp [↓view_update, ↓setJob_view, ↓commitState_view, ↓plantJob_view, ↓mapCtx_view,
      ↓settleRecompute_view, ringPlaces, hP]

theorem missFault_view (ctx ahead) (hP : List.all [.status, .log, .thr] P) :
    view P (missFault ctx ahead s) = view P s := by
  simp at hP
  dsimp only [missFault]
  simp [↓view_update, ↓raiseCount_view, ringPlaces, hP]

theorem missJob_view (j) (hP : List.all [.status, .log, .thr] P) : view P (missJob s j) = view P s := by
  simp at hP
  dsimp only [missJob]
  (repeat' split) <;> simp [↓view_update, ↓missFault_view, ↓mapCtx_view, ringPlaces, hP]

theorem endWindow_view (hP : List.all [.status, .log, .thr] P) : view P (endWindow s) = view P s := by
  simp at hP
  dsimp only [endWindow]
  simp [↓view_update, ↓missJob_view, ringPlaces, ↓foldl_view, hP]

theorem promote_view (k point) (hP : List.all [.status, .log, .thr] P) : view P (promote k point s) = view P s := by
  simp at hP
  dsimp only [promote]
  simp [↓mapCtx_view, ↓raiseCount_view, ↓view_ite, hP]

theorem driveLane_view (o) (hP : List.all [.thr] P) : view P (driveLane o s) = view P s := by
  simp at hP
  dsimp only [driveLane]
  simp [↓view_update, ringPlaces, ↓view_ite, hP]

theorem showOut_view (k o) (hP : List.all [.status, .log, .thr] P) : view P (showOut k o s) = view P s := by
  simp at hP
  dsimp only [showOut]
  simp [↓view_update, ↓mapCtx_view, ↓promote_view, ↓driveLane_view, ringPlaces, ↓view_ite, hP]

theorem showNext_view (hP : List.all [.status, .log, .thr] P) : view P (showNext s) = view P s := by
  simp at hP
  dsimp only [showNext]
  refine foldl_view _ (fun s k => ?_) _ _
  split
  · split <;> simp [↓showOut_view, hP]
  · rfl

theorem dropOuts_view (hP : List.all [.thr] P) : view P (dropOuts s) = view P s := by
  simp at hP
  dsimp only [dropOuts]
  simp [↓view_update, ringPlaces, hP]

theorem replayJob_view (j) (hP : List.all [.thr, .psram] P) : view P (replayJob s j) = view P s := by
  simp at hP
  dsimp only [replayJob]
  (repeat' split) <;> simp [↓mapCtx_view, ↓writeEntry_view, ↓writeBank_view, hP]

theorem replayAll_view (hP : List.all [.thr, .psram] P) : view P (replayAll s) = view P s := by
  simp at hP
  dsimp only [replayAll]
  simp [↓view_update, ↓replayJob_view, ringPlaces, ↓foldl_view, hP]

theorem columnsSpent_view (n) (hP : List.all [.status, .log] P) : view P (columnsSpent n s) = view P s := by
  simp at hP
  dsimp only [columnsSpent]
  simp [↓raise_view, ↓view_ite, hP]

theorem retireAtStart_view (c) (hP : List.all [.start, .status, .log, .thr] P) :
    view P (retireAtStart s c) = view P s := by
  simp at hP
  dsimp only [retireAtStart]
  simp [↓view_update, ↓raise_view, ↓repairEvent_view, ↓columnsSpent_view, ringPlaces, ↓view_ite, hP]

theorem retireInService_view (c) (hP : List.all [.status, .log, .blocks, .thr] P) :
    view P (retireInService s c) = view P s := by
  simp at hP
  dsimp only [retireInService]
  simp [↓view_update, ↓raise_view, ↓columnsSpent_view, ↓repairEvent_view, ↓makeDue_view, ringPlaces, ↓view_ite, hP]

theorem clipMix_view (hP : List.all [.clips] P) : view P (clipMix s) = view P s := by
  simp at hP
  dsimp only [clipMix]
  simp [↓view_update, ringPlaces, hP]

theorem settleCue_view (c) (hP : List.all [.status, .log, .clips] P) : view P (settleCue c s) = view P s := by
  simp at hP
  dsimp only [settleCue]
  (repeat' split) <;> simp [↓view_update, ↓raise_view, ringPlaces, hP]

theorem clipBoundary_view (cue) (hP : List.all [.status, .log, .clips] P) : view P (clipBoundary cue s) = view P s := by
  simp at hP
  dsimp only [clipBoundary]
  simp [↓view_update, ↓settleCue_view, ↓clipMix_view, ringPlaces, ↓view_ite, hP]

theorem clipStart_view (hP : List.all [.clips] P) : view P (clipStart s) = view P s := by
  simp at hP
  dsimp only [clipStart]
  simp [↓view_update, ringPlaces, hP]

theorem loseTdm_view (p cause) (hP : List.all [.status, .log, .tdm] P) : view P (loseTdm p cause s) = view P s := by
  simp at hP
  dsimp only [loseTdm]
  simp [↓setTdm_view, ↓raise_view, hP]

theorem badFrame_view (p cause) (hP : List.all [.status, .log, .tdm] P) : view P (badFrame p cause s) = view P s := by
  simp at hP
  dsimp only [badFrame]
  simp [↓tdmFault_view, ↓tdmSlip_view, ↓setTdm_view, ↓loseTdm_view, ↓view_ite, hP]

theorem goodFrame_view (p data) (hP : List.all [.status, .log, .tdm] P) : view P (goodFrame p data s) = view P s := by
  simp at hP
  dsimp only [goodFrame]
  simp [↓tdmSlip_view, ↓setTdm_view, ↓clear_view, ↓view_ite, hP]

theorem frameStart_view (p) (hP : List.all [.status, .log, .tdm] P) : view P (frameStart p s) = view P s := by
  simp at hP
  dsimp only [frameStart]
  simp [↓setTdm_view, ↓tdmSlip_view, ↓view_ite, hP]

theorem judgeFrame_view (p c fs data) (hP : List.all [.status, .log, .tdm, .usb, .blocks] P) :
    view P (judgeFrame p c fs data s) = view P s := by
  simp at hP
  dsimp only [judgeFrame]
  simp [↓mediaNow_view, ↓goodFrame_view, ↓badFrame_view, ↓frameStart_view, ↓setTdm_view, ↓view_ite, hP]

theorem execTdmFrameJudged_within (t p c fs data) (hP : List.all [.status, .log, .tdm, .usb, .blocks, .cross] P) :
    Within P s (execTdmFrameJudged t p c fs data s) := by
  simp at hP
  dsimp only [execTdmFrameJudged]
  simp [↓within_next, ↓crossIn_view, ↓judgeFrame_view, ↓view_ite, hP]

theorem execTdmFrameTimerExpiry_within (p) (hP : List.all [.status, .log, .tdm, .usb, .blocks] P) :
    Within P s (execTdmFrameTimerExpiry p s) := by
  simp at hP
  dsimp only [execTdmFrameTimerExpiry]
  (repeat' split) <;> simp [↓within_next, ↓setTdm_view, ↓badFrame_view, ↓mediaNow_view, hP]

theorem execTdmRateWindow_within (t p) (hP : List.all [.status, .log, .tdm, .usb, .blocks] P) :
    Within P s (execTdmRateWindow t p s) := by
  simp at hP
  dsimp only [execTdmRateWindow]
  simp [↓within_next, ↓within_ite, ↓mediaNow_view, ↓setTdm_view, ↓loseTdm_view, ↓view_ite, hP]

theorem execTdmQualifyDeadline_within (p) (hP : List.all [.status, .log, .tdm] P) :
    Within P s (execTdmQualifyDeadline p s) := by
  simp at hP
  dsimp only [execTdmQualifyDeadline]
  (repeat' split) <;> simp [↓within_next, ↓setTdm_view, ↓raise_view, hP]

theorem pdmClocks_view (hP : List.all [.mic] P) : view P (pdmClocks s) = view P s := by
  simp at hP
  dsimp only [pdmClocks]
  simp [↓view_update, ringPlaces, hP]

theorem closeGate_view (hP : List.all [.mic] P) : view P (closeGate s) = view P s := by
  simp at hP
  dsimp only [closeGate]
  simp [↓view_update, ringPlaces, hP]

theorem execMicEnFall_within (t lowNs) (hP : List.all [.freeCtr, .mic] P) : Within P s (execMicEnFall t lowNs s) := by
  simp at hP
  dsimp only [execMicEnFall]
  (repeat' split) <;> simp [↓within_next, ↓view_update, ↓closeGate_view, ↓drawFree_view, ringPlaces, hP]

theorem execMicEnOpen_within (since) (hP : List.all [.mic] P) : Within P s (execMicEnOpen since s) := by
  simp at hP
  dsimp only [execMicEnOpen]
  simp [↓within_next, ↓view_update, ↓pdmClocks_view, ringPlaces, hP]

theorem execPdmSettleExpiry_within (line) (hP : List.all [.mic] P) : Within P s (execPdmSettleExpiry line s) := by
  simp at hP
  dsimp only [execPdmSettleExpiry]
  (repeat' split) <;> simp [↓within_next, ↓view_update, ringPlaces, hP]

theorem mapMotor_view (f) (hP : List.all [.motor] P) : view P (mapMotor f s) = view P s := by
  simp at hP
  dsimp only [mapMotor]
  simp [↓view_update, ringPlaces, hP]

theorem setDriven_view (hP : List.all [.motor] P) : view P (setDriven s) = view P s := by
  simp at hP
  dsimp only [setDriven]
  simp [↓mapMotor_view, ↓view_ite, hP]

theorem motorBoundary_view (hP : List.all [.motor] P) : view P (motorBoundary s) = view P s := by
  simp at hP
  dsimp only [motorBoundary]
  simp [↓setDriven_view, ↓mapMotor_view, hP]

theorem setTx_view (k x) (hP : List.all [.streams] P) : view P (setTx k x s) = view P s := by
  simp at hP
  dsimp only [setTx]
  simp [↓view_update, ringPlaces, hP]

theorem sendAaf_view (k) (hP : List.all [.ports, .streams, .keys] P) : view P (sendAaf k s) = view P s := by
  simp at hP
  dsimp only [sendAaf]
  simp [↓setTx_view, ↓sendAnnounce_view, ↓sendTenant_view, ↓view_ite, hP]

theorem sendCrf_view (hP : List.all [.ports, .streams, .keys] P) : view P (sendCrf s) = view P s := by
  simp at hP
  dsimp only [sendCrf]
  simp [↓view_update, ↓sendTenant_view, ringPlaces, ↓view_ite, hP]

theorem flushTalkers_view (hP : List.all [.ports, .streams, .keys] P) : view P (flushTalkers s) = view P s := by
  simp at hP
  dsimp only [flushTalkers]
  simp [↓sendAaf_view, ↓iter_view, hP]

theorem breakSlumber_view (hP : List.all [.sleep] P) : view P (breakSlumber s) = view P s := by
  simp at hP
  dsimp only [breakSlumber]
  simp [↓view_update, ringPlaces, hP]

theorem noteSlumber_view (hP : List.all [.sleep] P) : view P (noteSlumber s) = view P s := by
  simp at hP
  dsimp only [noteSlumber]
  simp [↓breakSlumber_view, ↓view_ite, hP]

theorem tiePut_view (f) (hP : List.all [.red] P) : view P (tiePut f s) = view P s := by
  simp at hP
  dsimp only [tiePut]
  simp [↓view_update, ringPlaces, hP]

theorem sendPartner_view (pcp f) (hP : List.all [.ports, .streams, .keys] P) :
    view P (sendPartner pcp f s) = view P s := by
  simp at hP
  dsimp only [sendPartner]
  (repeat' split) <;> simp [↓sendTenant_view, hP]

theorem ask_view (code arg) (hP : List.all [.ports, .streams, .red, .keys] P) : view P (ask code arg s) = view P s := by
  simp at hP
  dsimp only [ask]
  simp [↓view_update, ↓sendPartner_view, ringPlaces, ↓view_ite, hP]

theorem startResync_view (hP : List.all [.ports, .streams, .red, .keys, .thr] P) :
    view P (startResync s) = view P s := by
  simp at hP
  dsimp only [startResync]
  simp [↓view_update, ↓ask_view, ringPlaces, hP]

theorem checkProfile_view (hP : List.all [.status, .log] P) : view P (checkProfile s) = view P s := by
  simp at hP
  dsimp only [checkProfile]
  (repeat' split) <;> simp [↓raise_view, hP]

theorem contactWork_view (hP : List.all [.ports, .streams, .red, .keys, .thr] P) :
    view P (contactWork s) = view P s := by
  simp at hP
  dsimp only [contactWork]
  simp [↓view_update, ↓startResync_view, ringPlaces, ↓view_ite, hP]

theorem makeContact_view (hP : List.all [.status, .log, .ports, .streams, .red, .keys, .thr] P) :
    view P (makeContact s) = view P s := by
  simp at hP
  dsimp only [makeContact]
  simp [↓view_update, ↓contactWork_view, ↓checkProfile_view, ↓clearAll_view, ringPlaces, hP]

theorem loseContact_view (hP : List.all [.status, .log, .red] P) : view P (loseContact s) = view P s := by
  simp at hP
  dsimp only [loseContact]
  simp [↓view_update, ↓raise_view, ringPlaces, ↓view_ite, hP]

theorem learnYield_view (flags) (hP : List.all [.blocks] P) : view P (learnYield flags s) = view P s := by
  simp at hP
  dsimp only [learnYield]
  (repeat' split) <;> simp [↓makeDue_view, hP]

theorem pairHeard_view (head) (hP : List.all [.status, .log, .ports, .streams, .red, .keys, .blocks, .thr] P) :
    view P (pairHeard head s) = view P s := by
  simp at hP
  unfold pairHeard
  extract_lets _ s₁ s₂ _ _ s₃
  have h₃ : view P s₃ = view P s := by
    simp only [s₃]
    split <;> simp [↓view_update, ↓tiePut_view, ↓learnYield_view, hP, s₂, s₁]
  split
  · simp [↓makeContact_view, hP, h₃]
  · exact h₃

theorem receivePair_view (x kind) {k : TieHead → State → State} (hP : List.all [.status, .log, .ports, .streams, .red,
    .keys, .blocks, .thr, .cross] P) (hk : ∀ head s, view P (k head s) = view P s) :
    view P (receivePair x kind k s) = view P s := by
  simp at hP
  unfold receivePair
  extract_lets go
  have hgo (b) (s : State) : view P (go b s) = view P s := by
    simp only [go]
    split
    · split <;> simp [↓pairHeard_view, hP, hk]
    · rfl
  split
  · split <;> simp [↓crossIn_view, hP, hgo]
  · split
    · split <;> simp [↓endpointIn_view, ↓verified_view, hP, hgo]
    · rfl

theorem withClosed_view (stamp seqs c) (hP : List.all [.streams, .routing, .red, .tdm, .usb, .blocks, .clips] P) :
    view P (withClosed stamp seqs c s) = view P s := by
  simp at hP
  dsimp only [withClosed]
  simp [↓view_update, ringPlaces, hP]

theorem flushStep_view (hP : List.all [.ports, .streams, .keys] P) : view P (flushStep s) = view P s := by
  simp at hP
  dsimp only [flushStep]
  simp [↓sendCrf_view, ↓flushTalkers_view, hP]

theorem backFrom_view (now after : State) (hP : List.all [.ports, .streams, .keys] P) (hafter : view P after = view P
    now) :
    view P (backFrom now after) = view P now := by
  simp at hP
  dsimp only [backFrom]
  rw [view_update]
  case hslots =>
    split
    · trivial
    · simpa using eq_of_hide (congrArg View.slots hafter) (by simpa using ‹¬ P .slots = true›)
  case hrings =>
    split
    · trivial
    · have hrings := eq_of_hide (congrArg View.rings hafter) (by simpa using ‹¬ (P .flash || P .reset) = true›)
      simp only [ringPlaces, Prod.mk.injEq] at hrings ⊢
      simpa using hrings.2.1
  all_goals simp [hP]

theorem followConceal_view (b c) (hP : List.all [.streams] P) : view P (followConceal b c s) = view P s := by
  simp at hP
  dsimp only [followConceal]
  simp [↓view_update, ringPlaces, hP]

theorem leaveStep_view (cause step) (hP : List.all [.status, .log, .red] P) :
    view P (leaveStep cause step s) = view P s := by
  simp at hP
  dsimp only [leaveStep]
  simp [↓view_update, ↓raise_view, ringPlaces, ↓view_ite, hP]

theorem admitLike_view (b) (hP : List.all [.streams] P) : view P (admitLike b s) = view P s := by
  simp at hP
  dsimp only [admitLike]
  simp [↓admitNodes_view, ↓view_ite, hP]

theorem stepState_view (b c) (hP : List.all [.streams, .routing, .red, .tdm, .usb, .blocks, .clips] P) :
    view P (stepState b c s) = view P s := by
  simp at hP
  dsimp only [stepState]
  simp [↓withClosed_view, hP]

theorem runClosed_view (b c) (hP : List.all [.status, .log, .ports, .streams, .routing, .red, .keys, .tdm, .usb,
    .blocks, .clips] P) :
    view P (runClosed b c s) = view P s := by
  simp at hP
  dsimp only [runClosed]
  simp [↓view_update, ↓admitLike_view, ↓flushStep_view, ↓stepState_view, ↓followConceal_view, ↓backFrom_view,
      ↓leaveStep_view, ringPlaces, ↓view_ite, hP]

theorem joinClosed_view (b c) (hP : List.all [.streams, .routing, .red, .tdm, .usb, .blocks, .clips] P) :
    view P (joinClosed b c s) = view P s := by
  simp at hP
  dsimp only [joinClosed]
  simp [↓view_update, ↓admitLike_view, ↓followConceal_view, ringPlaces, hP]

theorem flushOwn_view (hP : List.all [.ports, .streams, .routing, .red, .keys, .tdm, .usb, .blocks, .clips] P) :
    view P (flushOwn s) = view P s := by
  simp at hP
  dsimp only [flushOwn]
  rw [view_update, foldl_view]
  · exact fun s c => backFrom_view _ _ (by simp [hP]) (by simp [↓flushStep_view, ↓withClosed_view, hP])
  all_goals simp [hP]

theorem restoreCkpt_view (b) (hP : List.all [.streams, .routing, .thr, .psram, .clips] P) :
    view P (restoreCkpt b s) = view P s := by
  simp at hP
  dsimp only [restoreCkpt]
  simp [↓view_update, ↓admitNodes_view, ↓writeEntry_view, ↓writeBank_view, ringPlaces, ↓foldl_view, hP]

theorem setNumbers_view (n) (hP : List.all [.streams] P) : view P (setNumbers n s) = view P s := by
  simp at hP
  dsimp only [setNumbers]
  simp [↓view_update, ringPlaces, hP]

theorem ringProgram_view (r m k body failed) (hP : List.all [.freeCtr, .flash] P) :
    view P (ringProgram r m k body failed s) = view P s := by
  simp at hP
  dsimp only [ringProgram]
  (repeat' split) <;> simp [↓view_update, ↓freeBytes_view, hP]

theorem scanLog_view (hP : List.all [.reset, .status, .log] P) : view P (scanLog s) = view P s := by
  simp at hP
  dsimp only [scanLog]
  simp [↓view_update, ↓raise_view, ↓view_ite, hP]

theorem ringAttempt_view (r body next failed) (hP : List.all [.freeCtr, .status, .log, .flash] P) :
    view P (ringAttempt r body next failed s).2 = view P s := by
  simp at hP
  dsimp only [ringAttempt]
  (repeat' split) <;> simp [↓ringProgram_view, ↓clearAll_view, ↓raise_view, hP]

theorem ringWrite_view (r body next fails) (hP : List.all [.freeCtr, .status, .log, .flash] P) :
    view P (ringWrite r body next fails s).2.2 = view P s := by
  simp at hP
  dsimp only [ringWrite]
  (repeat' split) <;> simp [↓ringAttempt_view, hP]

theorem scanReservations_view (hP : List.all [.reset, .keys] P) : view P (scanReservations s) = view P s := by
  simp at hP
  dsimp only [scanReservations]
  simp [↓view_update, hP]

theorem partnerProfile_view (hP : List.all [.routing] P) : view P (partnerProfile s) = view P s := by
  simp at hP
  dsimp only [partnerProfile]
  (repeat' split) <;> simp [↓view_update, ringPlaces, hP]

theorem scanPairs_view (hP : List.all [.reset, .routing, .red, .gran] P) : view P (scanPairs s) = view P s := by
  simp at hP
  dsimp only [scanPairs]
  (repeat' split) <;> simp [↓view_update, ↓partnerProfile_view, hP]

theorem writePair_view (eui n profile fails) (hP : List.all [.freeCtr, .status, .log, .routing, .red, .flash, .gran] P)
    :
    view P (writePair eui n profile fails s) = view P s := by
  simp at hP
  unfold writePair
  (repeat' split) <;> simp [↓view_update, ↓ringWrite_view, ↓partnerProfile_view, hP]

theorem scanService_view (hP : List.all [.reset, .gran] P) : view P (scanService s) = view P s := by
  simp at hP
  dsimp only [scanService]
  simp [↓view_update, hP]

theorem writeService_view (kind slot fails) (hP : List.all [.freeCtr, .status, .log, .flash, .gran] P) :
    view P (writeService kind slot fails s) = view P s := by
  simp at hP
  unfold writeService
  (repeat' split) <;> simp [↓view_update, ↓ringWrite_view, hP]

end Sys2Proof.Machine
end

/-! # Frame rules: records, USB, blocks, TIE

Keys and records, USB, block boundaries, DMA and TIE (chapters 10, 11, 14, 15 and 19). -/

section
namespace Sys2Proof.Machine

open Sys2Proof

variable {P : Part → Bool} (s : State)

theorem pairingFault_view (cause node) (hP : List.all [.status, .log] P) :
    view P (pairingFault cause node s) = view P s := by
  simp at hP
  dsimp only [pairingFault]
  simp [↓raise_view, hP]

theorem programOnce_view (d spoil node) (hP : List.all [.status, .log, .slots] P) :
    view P (programOnce d spoil node s).2 = view P s := by
  simp at hP
  dsimp only [programOnce]
  (repeat' split) <;> simp [↓view_update, ↓pairingFault_view, ringPlaces, hP]

theorem programKey_view (d spoil node) (hP : List.all [.status, .log, .slots, .keys] P) :
    view P (programKey d spoil node s).2 = view P s := by
  simp at hP
  dsimp only [programKey]
  (repeat' split) <;> simp [↓view_update, ↓programOnce_view, ringPlaces, hP]

theorem slotsUsed_view (hP : List.all [.status, .log, .slots] P) : view P (slotsUsed s) = view P s := by
  simp at hP
  dsimp only [slotsUsed, raise, raiseAt]
  rw [refreshLeds_view _ (by simp [hP]), view_update, logFault_view _ _ _ _ (by simp [hP]), faultEvent_view _ _ _ _ (by
      simp [hP])]
  all_goals simp [hP]

theorem keylessFault_view (cause) (hP : List.all [.status, .log, .keys] P) :
    view P (keylessFault cause s) = view P s := by
  simp at hP
  dsimp only [keylessFault]
  simp [↓view_update, ↓raise_view, ringPlaces, hP]

theorem retireSlot_view (i) (hP : List.all [.status, .log, .keys] P) : view P (retireSlot i s) = view P s := by
  simp at hP
  dsimp only [retireSlot]
  (repeat' split) <;> simp [↓view_update, ↓keylessFault_view, ringPlaces, hP]

theorem keyAtBoundary_view (hP : List.all [.status, .keys] P) : view P (keyAtBoundary s) = view P s := by
  simp at hP
  dsimp only [keyAtBoundary]
  (repeat' split) <;> simp [↓view_update, ↓clearAll_view, ringPlaces, hP]

theorem commitReservation_view (ann fails) (hP : List.all [.freeCtr, .status, .log, .keys, .flash] P) :
    view P (commitReservation ann fails s) = view P s := by
  simp at hP
  dsimp only [commitReservation]
  (repeat' split) <;> simp [↓view_update, ↓retireSlot_view, ↓ringWrite_view, hP]

theorem rewriteReservation_view (x) (hP : List.all [.freeCtr, .status, .log, .keys, .flash] P) :
    view P (rewriteReservation s x) = view P s := by
  simp at hP
  dsimp only [rewriteReservation]
  (repeat' split) <;> simp [↓view_update, ↓ringWrite_view, hP]

theorem rewriteRecords_view (hP : List.all [.freeCtr, .status, .log, .routing, .red, .keys, .flash, .gran] P) :
    view P (rewriteRecords s) = view P s := by
  simp at hP
  dsimp only [rewriteRecords]
  (repeat' split) <;> simp [↓rewriteReservation_view, ↓writePair_view, ↓foldl_view, hP]

theorem usbAttach_view (hP : List.all [.usb] P) : view P (usbAttach s) = view P s := by
  simp at hP
  dsimp only [usbAttach]
  simp [↓view_update, ringPlaces, ↓view_ite, hP]

theorem usbStall_view (hP : List.all [.usb] P) : view P (usbStall s) = view P s := by
  simp at hP
  dsimp only [usbStall]
  simp [↓view_update, ringPlaces, hP]

theorem usbAccept_view (bmType bRequest e) (hP : List.all [.usb] P) :
    view P (usbAccept bmType bRequest e s) = view P s := by
  simp at hP
  dsimp only [usbAccept]
  simp [↓view_update, ringPlaces, hP]

theorem usbAnswer_view (bmType bRequest length b) (hP : List.all [.usb] P) :
    view P (usbAnswer bmType bRequest length b s) = view P s := by
  simp at hP
  dsimp only [usbAnswer]
  simp [↓view_update, ringPlaces, hP]

theorem usbRequest_reach (t) {k : State → State} (hk : ∀ s, view P (k s) = view P s) : Reach P s (view P (usbRequest t k
    s)) := by
  dsimp only [usbRequest]
  split <;> simp [hk]

theorem setConfiguration_view (value) (hP : List.all [.usb] P) : view P (setConfiguration value s) = view P s := by
  simp at hP
  dsimp only [setConfiguration]
  simp [↓usbAccept_view, ↓usbStall_view, ↓view_ite, hP]

theorem setInterface_view (itf alt) (hP : List.all [.usb] P) : view P (setInterface itf alt s) = view P s := by
  simp at hP
  dsimp only [setInterface]
  simp [↓usbAccept_view, ↓usbStall_view, ↓view_ite, hP]

theorem setTestMode_view (index) (hP : List.all [.usb] P) : view P (setTestMode index s) = view P s := by
  simp at hP
  dsimp only [setTestMode]
  simp [↓usbAccept_view, ↓usbStall_view, ↓view_ite, hP]

theorem standardRequest_view (p) (hP : List.all [.usb] P) : view P (standardRequest p s) = view P s := by
  simp at hP
  dsimp only [standardRequest]
  (repeat' split) <;> simp [↓usbAnswer_view, ↓usbStall_view, ↓usbAccept_view, ↓setConfiguration_view,
      ↓setInterface_view, ↓setTestMode_view, hP]

theorem finishOutputs_view (g1) (hP : List.all [.status, .routing, .usb, .blocks] P) :
    view P (finishOutputs g1 s) = view P s := by
  simp at hP
  dsimp only [finishOutputs]
  simp [↓view_update, ringPlaces, hP]

theorem closeStep_view (g1) (hP : List.all [.red] P) : view P (closeStep g1 s) = view P s := by
  simp at hP
  dsimp only [closeStep]
  simp [↓view_update, ringPlaces, hP]

theorem keepClosed_view (g1) (hP : List.all [.red] P) : view P (keepClosed g1 s) = view P s := by
  simp at hP
  dsimp only [keepClosed]
  simp [↓view_update, ringPlaces, hP]

theorem pairEnd_view (g1) (hP : List.all [.ports, .streams, .red, .keys] P) : view P (pairEnd g1 s) = view P s := by
  simp at hP
  dsimp only [pairEnd]
  simp [↓keepClosed_view, ↓flushTalkers_view, ↓closeStep_view, ↓view_ite, hP]

theorem dropBlock_view (n) (hP : List.all [.streams, .routing, .red, .tdm, .usb, .blocks] P) :
    view P (dropBlock n s) = view P s := by
  simp at hP
  dsimp only [dropBlock]
  simp [↓view_update, ringPlaces, hP]

theorem endLine_active (len bpo st n) : (endLine len bpo st n).active = st.active := by
  dsimp only [endLine]
  (repeat' split) <;> rfl

theorem foldl_active {α : Type} (f : Status → α → Status) (hP : ∀ st a, (f st a).active = st.active) (l : List α) (st :
    Status) : (l.foldl f st).active = st.active := by
  induction l generalizing st with
  | nil => rfl
  | cons a l ih => rw [List.foldl_cons, ih, hP]

theorem endLines_view (hP : List.all [.status] P) : view P (endLines s) = view P s := by
  simp at hP
  dsimp only [endLines]
  simp [↓view_update, foldl_active, endLine_active, hP]

theorem endBlock_view (x) (hP : List.all [.status, .log, .ports, .streams, .routing, .red, .keys, .bpo, .tdm, .usb,
    .blocks, .thr, .spk, .sleep] P) :
    view P (endBlock x s) = view P s := by
  simp at hP
  dsimp only [endBlock]
  simp [↓view_update, ↓endLines_view, ↓endWindow_view, ↓keepFrames_view, ↓noteSlumber_view, ↓speakersEnd_view,
      ↓mediaTo_view, ↓presentStream_view, ↓refreshOutstanding_view, ↓finishOutputs_view, ↓pairEnd_view,
      ↓keepInputs_view, ↓dropBlock_view, ringPlaces, ↓view_ite, ↓foldl_view, hP]

theorem placeBlock_view (hP : List.all [.blocks] P) : view P (placeBlock s) = view P s := by
  simp at hP
  dsimp only [placeBlock]
  simp [↓view_update, ringPlaces, hP]

theorem startPath_view (nums) (hP : List.all [.streams, .routing, .tdm, .blocks, .thr, .clips] P) :
    view P (startPath nums s) = view P s := by
  simp at hP
  dsimp only [startPath]
  (repeat' split) <;> simp [↓view_update, ↓admitNodes_view, ↓setNumbers_view, ↓clipStart_view, ringPlaces, hP]

theorem lineNow_active (bpo st n) : (lineNow bpo st n).active = st.active := by
  dsimp only [lineNow]
  (repeat' split) <;> rfl

theorem bpoBoundary_view (hP : List.all [.status, .bpo] P) : view P (bpoBoundary s) = view P s := by
  simp at hP
  dsimp only [bpoBoundary]
  simp [↓view_update, foldl_active, lineNow_active, hP]

theorem micBoundary_view (x) (hP : List.all [.mic, .blocks] P) : view P (micBoundary x s) = view P s := by
  simp at hP
  dsimp only [micBoundary]
  simp [↓view_update, ↓pdmClocks_view, ringPlaces, hP]

theorem tdmBoundary_view (x) (hP : List.all [.tdm] P) : view P (tdmBoundary x s) = view P s := by
  simp at hP
  dsimp only [tdmBoundary]
  simp [↓view_update, ringPlaces, hP]

theorem talkersBegin_view (hP : List.all [.streams, .red] P) : view P (talkersBegin s) = view P s := by
  simp at hP
  dsimp only [talkersBegin]
  rw [view_update]
  · cases s.streams.nextAdmitted <;> simp [↓view_ite, ↓admitNodes_view, hP]
  all_goals simp [hP]

theorem startBoundary_view (prior) (hP : List.all [.blocks] P) : view P (startBoundary prior s) = view P s := by
  simp at hP
  dsimp only [startBoundary]
  simp [↓view_update, ringPlaces, ↓view_ite, hP]

theorem beginBlock_view (x prior) (hP : List.all [.status, .log, .streams, .red, .bpo, .tdm, .mic, .usb, .blocks, .thr,
    .clips, .spk, .motor] P) :
    view P (beginBlock x prior s) = view P s := by
  simp at hP
  dsimp only [beginBlock]
  simp [↓view_update, ↓startBoundary_view, ↓talkersBegin_view, ↓tdmBoundary_view, ↓clipBoundary_view, ↓dropOuts_view,
      ↓bpoBoundary_view, ↓usbAttach_view, ↓micBoundary_view, ↓plantWindow_view, ↓contextWindow_view,
      ↓speakersBegin_view, ↓motorBoundary_view, ↓setDriven_view, ringPlaces, ↓view_ite, hP]

theorem gptpIn_view (i) {work : State → State} (hP : List.all [.cross] P) (hw : view P (work s) = view P s) :
    view P (gptpIn i work s) = view P s := by
  simp at hP
  dsimp only [gptpIn]
  simp [↓view_ite, ↓crossIn_view, hP, hw]

theorem loseSync_view (hP : List.all [.status, .log, .well, .history, .gptp, .endur] P) :
    view P (loseSync s) = view P s := by
  simp at hP
  dsimp only [loseSync]
  simp [↓view_update, ↓loseRef_view, ↓raise_view, ringPlaces, hP]

theorem countSync_view (left) (hP : List.all [.status, .gptp] P) : view P (countSync left s) = view P s := by
  simp at hP
  dsimp only [countSync]
  simp [↓view_update, ↓endSearch_view, ↓clearAll_view, ringPlaces, ↓view_ite, hP]

theorem setTime_view (x) (hP : List.all [.status, .gptp, .streams, .red, .keys, .gran] P) :
    view P (setTime x s) = view P s := by
  simp at hP
  dsimp only [setTime]
  simp [↓view_update, ↓reschedule_view, ringPlaces, ↓view_ite, hP]

theorem takeSync_view (gm) (hP : List.all [.status, .gptp, .streams, .red, .keys, .blocks, .gran] P) :
    view P (takeSync gm s) = view P s := by
  simp at hP
  dsimp only [takeSync]
  simp [↓view_update, ↓countSync_view, ↓setTime_view, ↓makeDue_view, ringPlaces, ↓view_ite, hP]

theorem execSyncReceive_within (t i gm) (hP : List.all [.status, .gptp, .streams, .red, .keys, .blocks, .gran, .cross]
    P) :
    Within P s (execSyncReceive t i gm s) := by
  simp at hP
  dsimp only [execSyncReceive]
  simp [↓within_next, ↓within_ite, ↓gptpIn_view, ↓takeSync_view, hP]

theorem execSyncSend_within (i) (hP : List.all [.ports, .gptp] P) : Within P s (execSyncSend i s) := by
  simp at hP
  dsimp only [execSyncSend]
  (repeat' split) <;> simp [↓within_next, ↓view_update, ↓sendPort_view, ringPlaces, hP]

theorem execAnnounceReceive_within (t i v) (hP : List.all [.status, .ports, .gptp, .cross] P) :
    Within P s (execAnnounceReceive t i v s) := by
  simp at hP
  dsimp only [execAnnounceReceive]
  simp [↓within_next, ↓within_ite, ↓view_update, ↓gptpIn_view, ↓runBmca_view, ringPlaces, hP]

theorem execAnnounceSend_within (i) (hP : List.all [.ports, .gptp] P) : Within P s (execAnnounceSend i s) := by
  simp at hP
  dsimp only [execAnnounceSend]
  (repeat' split) <;> simp [↓within_next, ↓view_update, ↓sendPort_view, ringPlaces, hP]

theorem forgetMaster_view (i) (hP : List.all [.status, .ports, .gptp] P) : view P (forgetMaster i s) = view P s := by
  simp at hP
  dsimp only [forgetMaster]
  simp [↓view_update, ↓runBmca_view, ringPlaces, hP]

theorem execAnnounceReceiptTimeout_within (i) (hP : List.all [.status, .ports, .gptp] P) :
    Within P s (execAnnounceReceiptTimeout i s) := by
  simp at hP
  dsimp only [execAnnounceReceiptTimeout]
  (repeat' split) <;> simp [↓within_next, ↓forgetMaster_view, hP]

theorem execSyncReceiptTimeout_within (hP : List.all [.status, .ports, .gptp] P) :
    Within P s (execSyncReceiptTimeout s) := by
  simp at hP
  dsimp only [execSyncReceiptTimeout]
  (repeat' split) <;> simp [↓within_next, ↓forgetMaster_view, hP]

theorem execPdelayRequestSend_within (i) (hP : List.all [.ports] P) : Within P s (execPdelayRequestSend i s) := by
  simp at hP
  dsimp only [execPdelayRequestSend]
  (repeat' split) <;> simp [↓within_next, ↓view_update, ↓sendPort_view, ringPlaces, hP]

theorem execPdelayResponseReceive_within (t i seq rx tx) (hP : List.all [.ports, .cross] P) :
    Within P s (execPdelayResponseReceive t i seq rx tx s) := by
  simp at hP
  dsimp only [execPdelayResponseReceive]
  (repeat' split) <;> simp [↓within_next, ↓view_update, ↓gptpIn_view, ringPlaces, hP]

theorem execPdelayRequestReceive_within (t i seq) (hP : List.all [.ports, .cross] P) :
    Within P s (execPdelayRequestReceive t i seq s) := by
  simp at hP
  dsimp only [execPdelayRequestReceive]
  simp [↓within_next, ↓gptpIn_view, ↓sendPort_view, hP]

theorem execPriorityHoldExpiry_within (hP : List.all [.status, .gptp] P) : Within P s (execPriorityHoldExpiry s) := by
  simp at hP
  dsimp only [execPriorityHoldExpiry]
  (repeat' split) <;> simp [↓within_next, ↓view_update, ↓runBmca_view, ringPlaces, hP]

theorem execGptpSyncHoldExpiry_within (hP : List.all [.status, .log, .well, .history, .gptp, .endur] P) :
    Within P s (execGptpSyncHoldExpiry s) := by
  simp at hP
  dsimp only [execGptpSyncHoldExpiry]
  (repeat' split) <;> simp [↓within_next, ↓loseSync_view, hP]

theorem flashFault_view (cause addr) (hP : List.all [.status, .log] P) :
    view P (flashFault cause addr s) = view P s := by
  simp at hP
  dsimp only [flashFault]
  simp [↓raise_view, hP]

theorem failWrite_view (hP : List.all [.status, .log, .gran] P) : view P (failWrite s) = view P s := by
  simp at hP
  dsimp only [failWrite]
  (repeat' split) <;> simp [↓view_update, ↓repairEvent_view, ringPlaces, hP]

theorem loseFlash_view (cause addr) (hP : List.all [.status, .log, .memory, .gran, .clips] P) :
    view P (loseFlash cause addr s) = view P s := by
  simp at hP
  dsimp only [loseFlash]
  simp [↓view_update, ↓flashFault_view, ↓failWrite_view, ringPlaces, hP]

theorem issueOp_view (hP : List.all [.memory, .gran] P) : view P (issueOp s) = view P s := by
  simp at hP
  dsimp only [issueOp]
  (repeat' split) <;> simp [↓view_update, ringPlaces, hP]

theorem applyOp_view (o) (hP : List.all [.flash] P) : view P (applyOp o s) = view P s := by
  simp at hP
  dsimp only [applyOp]
  simp [↓view_update, hP]

theorem spoilOp_view (o) (hP : List.all [.freeCtr, .flash] P) : view P (spoilOp o s) = view P s := by
  simp at hP
  dsimp only [spoilOp]
  simp [↓view_update, ↓freeBytes_view, hP]

theorem opFault_view (erase c addr) (hP : List.all [.status, .log] P) : view P (opFault erase c addr s) = view P s := by
  simp at hP
  dsimp only [opFault]
  simp [↓raise_view, hP]

theorem opGood_view (hP : List.all [.status] P) : view P (opGood s) = view P s := by
  simp at hP
  dsimp only [opGood]
  simp [↓clearAll_view, ↓view_ite, hP]

theorem dmaWrite_view (v place) (hP : List.all [.flash, .psram, .loft, .sram] P) :
    view P (dmaWrite v s place) = view P s := by
  simp at hP
  cases place <;> dsimp only [dmaWrite] <;> simp [↓view_update, hP]

theorem dmaMove_view (r) (hP : List.all [.freeCtr, .flash, .psram, .loft, .sram] P) :
    view P (dmaMove r s) = view P s := by
  simp at hP
  dsimp only [dmaMove]
  refine foldl_view _ (fun s p => ?_) _ _
  split <;> simp [↓view_update, ↓dmaWrite_view, hP]

theorem dmaSetup_view (hP : List.all [.memory] P) : view P (dmaSetup s) = view P s := by
  simp at hP
  dsimp only [dmaSetup]
  simp [↓view_update, ringPlaces, hP]

theorem startTimers_view (et) (hP : List.all [.start, .status, .streams, .red, .keys, .bpi, .tdm, .blocks, .thr, .gran,
    .sleep] P) :
    view P (startTimers et s) = view P s := by
  simp at hP
  dsimp only [startTimers]
  simp [↓view_update, ringPlaces, hP]

theorem keyAtRun_view (hP : List.all [.status, .log, .keys] P) : view P (keyAtRun s) = view P s := by
  simp at hP
  dsimp only [keyAtRun]
  simp [↓view_update, ↓keylessFault_view, ringPlaces, ↓view_ite, hP]

theorem execRunningEntry_within (t) (hP : List.all [.start, .status, .log, .well, .ports, .gptp, .streams, .red, .keys,
    .bpi, .tdm, .blocks, .thr, .psram, .gran, .plant, .sleep] P) :
    Within P s (execRunningEntry t s) := by
  simp at hP
  dsimp only [execRunningEntry]
  simp [↓within_next, ↓within_ite, ↓view_update, ↓setupSilo_view, ↓setupContexts_view, ↓checkModelRate_view,
      ↓keyAtRun_view, ↓modeChange_view, ↓heartbeat_view, ↓startReport_view, ↓runBmca_view, ↓releaseStart_view,
      ↓startTimers_view, ↓setSoc_view, ↓pump_view, ↓contactWork_view, ringPlaces, ↓view_ite, hP]

theorem fillSlot_view (used n) (hP : List.all [.red] P) : view P (fillSlot used n s) = view P s := by
  simp at hP
  induction n generalizing used s with
  | zero => rfl
  | succ n ih =>
    unfold fillSlot
    dsimp only
    (repeat' split) <;> simp [↓view_update, ↓tiePut_view, ih, hP]

theorem execTieSlotStart_within (t) (hP : List.all [.status, .log, .red, .tdm, .usb, .blocks] P) :
    Within P s (execTieSlotStart t s) := by
  simp at hP
  dsimp only [execTieSlotStart]
  simp [↓within_next, ↓within_ite, ↓view_update, ↓mediaNow_view, ↓fillSlot_view, ↓tiePut_view, ringPlaces, hP]

theorem tieReply_view (frame) (hP : List.all [.red] P) : view P (tieReply frame s) = view P s := by
  simp at hP
  dsimp only [tieReply]
  simp [↓fillSlot_view, ↓tiePut_view, ↓view_ite, hP]

theorem execTieHeartbeat_within (t x) (hP : List.all [.status, .log, .ports, .gptp, .streams, .red, .keys, .blocks,
    .thr, .sleep, .cross] P) :
    Within P s (execTieHeartbeat t x s) := by
  simp at hP
  dsimp only [execTieHeartbeat]
  rw [within_next, tieReply_view _ _ (by simp [hP]), receivePair_view _ _ _ (by simp [hP])]
  · simp
  · intro head s
    split
    · split
      · split <;> simp [↓view_update, hP]
      · rfl
    · split <;> simp [↓view_update, hP]

theorem partnerWindow_view (info c) (hP : List.all [.streams, .routing, .red, .tdm, .usb, .blocks, .thr, .clips] P) :
    view P (partnerWindow info c s) = view P s := by
  simp at hP
  dsimp only [partnerWindow]
  simp [↓view_update, ↓contextWindow_view, ringPlaces, hP]

theorem recordStep_view (info c) (hP : List.all [.status, .log, .ports, .streams, .red, .keys, .thr, .psram, .memory] P)
    :
    view P (recordStep info c s) = view P s := by
  simp at hP
  dsimp only [recordStep]
  simp [↓view_update, ↓siloWrite_view, ↓startResync_view, ↓raise_view, ringPlaces, ↓view_ite, hP]

theorem takeStep_view (info c) (hP : List.all [.status, .log, .ports, .streams, .routing, .red, .keys, .tdm, .usb,
    .blocks, .thr, .psram, .memory, .clips] P) :
    view P (takeStep info c s) = view P s := by
  simp at hP
  dsimp only [takeStep]
  simp [↓view_update, ↓recordStep_view, ↓joinClosed_view, ↓partnerWindow_view, ↓runClosed_view, ringPlaces, ↓view_ite,
      hP]

theorem takeHeld_view (hP : List.all [.status, .log, .ports, .streams, .routing, .red, .keys, .tdm, .usb, .blocks, .thr,
    .psram, .memory, .clips] P) :
    view P (takeHeld s) = view P s := by
  simp at hP
  dsimp only [takeHeld]
  (repeat' split) <;> simp [↓takeStep_view, hP]

theorem execTieBlock_within (t b) (hP : List.all [.status, .log, .ports, .streams, .routing, .red, .keys, .tdm, .usb,
    .blocks, .thr, .psram, .memory, .clips, .cross] P) :
    Within P s (execTieBlock t b s) := by
  simp at hP
  dsimp only [execTieBlock]
  simp [↓within_next, ↓view_update, ↓takeHeld_view, ↓tieReply_view, ↓receivePair_view, ringPlaces, ↓view_ite, hP]

theorem execBlockFrameTimeout_within (hP : List.all [.status, .log, .red] P) :
    Within P s (execBlockFrameTimeout s) := by
  simp at hP
  dsimp only [execBlockFrameTimeout]
  (repeat' split) <;> simp [↓within_next, ↓view_update, ↓leaveStep_view, ringPlaces, hP]

theorem execTieDown_within (hP : List.all [.status, .log, .red] P) : Within P s (execTieDown s) := by
  simp at hP
  dsimp only [execTieDown]
  simp [↓within_next, ↓within_ite, ↓view_update, ↓loseContact_view, ↓raise_view, ringPlaces, hP]

theorem execTieCollision_within (t) (hP : List.all [.red] P) : Within P s (execTieCollision t s) := by
  simp at hP
  dsimp only [execTieCollision]
  (repeat' split) <;> simp [↓within_next, ↓view_update, ringPlaces, hP]

theorem execTieCheckpointChunk_within (t x) (hP : List.all [.status, .log, .ports, .streams, .red, .keys, .blocks, .thr,
    .psram, .memory, .cross] P) :
    Within P s (execTieCheckpointChunk t x s) := by
  simp at hP
  dsimp only [execTieCheckpointChunk]
  simp [↓within_next, ↓view_update, ↓siloWrite_view, ↓receivePair_view, ringPlaces, ↓view_ite, hP]

theorem execResyncRequest_within (t x) (hP : List.all [.status, .log, .ports, .streams, .red, .keys, .blocks, .thr,
    .cross] P) :
    Within P s (execResyncRequest t x s) := by
  simp at hP
  dsimp only [execResyncRequest]
  simp [↓within_next, ↓view_update, ↓receivePair_view, ringPlaces, ↓view_ite, hP]

theorem takeCheckpoint_view (hP : List.all [.ports, .streams, .red, .keys] P) :
    view P (takeCheckpoint s) = view P s := by
  simp at hP
  dsimp only [takeCheckpoint]
  simp [↓view_update, ↓sendPartner_view, ringPlaces, ↓view_ite, ↓foldl_view, hP]

theorem execCheckpointTake_within (t) (hP : List.all [.ports, .streams, .red, .keys] P) :
    Within P s (execCheckpointTake t s) := by
  simp at hP
  dsimp only [execCheckpointTake]
  simp [↓within_next, ↓within_ite, ↓view_update, ↓takeCheckpoint_view, ringPlaces, ↓view_ite, hP]

theorem execCheckpointComplete_within (t) (hP : List.all [.status, .log, .streams, .routing, .red, .thr, .psram, .clips]
    P) :
    Within P s (execCheckpointComplete t s) := by
  simp at hP
  dsimp only [execCheckpointComplete]
  simp [↓within_next, ↓within_ite, ↓view_update, ↓clearAll_view, ↓restoreCkpt_view, ↓raise_view, ringPlaces, ↓view_ite,
      hP]

theorem execResyncReplayComplete_within (t) (hP : List.all [.red, .thr, .psram] P) :
    Within P s (execResyncReplayComplete t s) := by
  simp at hP
  dsimp only [execResyncReplayComplete]
  simp [↓within_next, ↓view_update, ↓replayAll_view, ringPlaces, ↓view_ite, hP]

theorem execResyncTimeout_within (hP : List.all [.status, .log, .ports, .streams, .red, .keys, .thr] P) :
    Within P s (execResyncTimeout s) := by
  simp at hP
  dsimp only [execResyncTimeout]
  (repeat' split) <;> simp [↓within_next, ↓startResync_view, ↓raise_view, hP]

theorem execCheckpointStaleTimeout_within (hP : List.all [.status, .log] P) :
    Within P s (execCheckpointStaleTimeout s) := by
  simp at hP
  dsimp only [execCheckpointStaleTimeout]
  simp [↓within_next, ↓within_ite, ↓raise_view, hP]

theorem execPartnerHeartbeatSend_within (hP : List.all [.ports, .streams, .red, .keys] P) :
    Within P s (execPartnerHeartbeatSend s) := by
  simp at hP
  dsimp only [execPartnerHeartbeatSend]
  simp [↓within_next, ↓within_ite, ↓view_update, ↓sendPartner_view, ringPlaces, hP]

theorem execPartnerContactTimeout_within (hP : List.all [.status, .log, .red] P) :
    Within P s (execPartnerContactTimeout s) := by
  simp at hP
  dsimp only [execPartnerContactTimeout]
  simp [↓within_next, ↓within_ite, ↓loseContact_view, hP]

theorem execPartnerContactDeadline_within (hP : List.all [.status, .log] P) :
    Within P s (execPartnerContactDeadline s) := by
  simp at hP
  dsimp only [execPartnerContactDeadline]
  (repeat' split) <;> simp [↓within_next, ↓raise_view, hP]

theorem execLeaderLost_within (hP : List.all [.red, .blocks] P) : Within P s (execLeaderLost s) := by
  simp at hP
  dsimp only [execLeaderLost]
  (repeat' split) <;> simp [↓within_next, ↓view_update, ↓makeDue_view, ringPlaces, hP]

theorem execCheckpointRestoreComplete_within (t) (hP : List.all [.streams, .routing, .red, .thr, .psram, .clips] P) :
    Within P s (execCheckpointRestoreComplete t s) := by
  simp at hP
  dsimp only [execCheckpointRestoreComplete]
  (repeat' split) <;> simp [↓within_next, ↓view_update, ↓restoreCkpt_view, ringPlaces, hP]

theorem requestTakeBack_view (hP : List.all [.ports, .streams, .red, .keys] P) :
    view P (requestTakeBack s) = view P s := by
  simp at hP
  dsimp only [requestTakeBack]
  simp [↓view_update, ↓ask_view, ringPlaces, hP]

theorem execTakeBackEligible_within (hP : List.all [.ports, .streams, .red, .keys] P) :
    Within P s (execTakeBackEligible s) := by
  simp at hP
  dsimp only [execTakeBackEligible]
  (repeat' split) <;> simp [↓within_next, ↓requestTakeBack_view, hP]

theorem execTakeBackRequest_within (t x) (hP : List.all [.status, .log, .ports, .streams, .red, .keys, .blocks, .thr,
    .cross] P) :
    Within P s (execTakeBackRequest t x s) := by
  simp at hP
  dsimp only [execTakeBackRequest]
  simp [↓within_next, ↓view_update, ↓ask_view, ↓receivePair_view, ringPlaces, ↓view_ite, hP]

theorem execTakeBackAccepted_within (t x) (hP : List.all [.status, .log, .ports, .streams, .red, .keys, .blocks, .thr,
    .cross] P) :
    Within P s (execTakeBackAccepted t x s) := by
  simp at hP
  dsimp only [execTakeBackAccepted]
  rw [within_next, receivePair_view _ _ _ (by simp [hP])]
  · simp
  · intro head s
    split
    · split <;> simp [↓view_update, ↓ask_view, hP]
    · rfl

theorem execTakeBackCommit_within (t x) (hP : List.all [.status, .log, .ports, .streams, .red, .keys, .blocks, .thr,
    .cross] P) :
    Within P s (execTakeBackCommit t x s) := by
  simp at hP
  dsimp only [execTakeBackCommit]
  simp [↓within_next, ↓view_update, ↓receivePair_view, ringPlaces, ↓view_ite, hP]

theorem execTakeBackRetry_within (hP : List.all [.ports, .streams, .red, .keys] P) :
    Within P s (execTakeBackRetry s) := by
  simp at hP
  dsimp only [execTakeBackRetry]
  (repeat' split) <;> simp [↓within_next, ↓requestTakeBack_view, hP]

theorem execTakeBackRelease_within (hP : List.all [.blocks] P) : Within P s (execTakeBackRelease s) := by
  simp at hP
  dsimp only [execTakeBackRelease]
  (repeat' split) <;> simp [↓within_next, ↓makeDue_view, hP]

theorem execSlumberProposal_within (t x) (hP : List.all [.status, .log, .ports, .streams, .red, .keys, .blocks, .thr,
    .sleep, .cross] P) :
    Within P s (execSlumberProposal t x s) := by
  simp at hP
  dsimp only [execSlumberProposal]
  simp [↓within_next, ↓view_update, ↓ask_view, ↓receivePair_view, ringPlaces, ↓view_ite, hP]

theorem execSlumberAnswer_within (t x) (hP : List.all [.status, .log, .ports, .streams, .red, .keys, .blocks, .thr,
    .sleep, .cross] P) :
    Within P s (execSlumberAnswer t x s) := by
  simp at hP
  dsimp only [execSlumberAnswer]
  simp [↓within_next, ↓view_update, ↓receivePair_view, ringPlaces, ↓view_ite, hP]

end Sys2Proof.Machine
end

/-! # Frame rules: endurance, Granary, boundaries

Repair, the Granary, the switch at a block boundary, and the memories (chapters 19, 20 and 23). -/

section
namespace Sys2Proof.Machine

open Sys2Proof

variable {P : Part → Bool} (s : State)

theorem idleContexts_view (bank row) (hP : List.all [.thr, .endur] P) :
    view P (idleContexts bank row s) = view P s := by
  simp at hP
  dsimp only [idleContexts]
  simp [↓view_update, ringPlaces, hP]

theorem decideRemap_view (loft bank row) (hP : List.all [.status, .log, .blocks, .endur] P) :
    view P (decideRemap loft bank row s) = view P s := by
  simp at hP
  dsimp only [decideRemap]
  simp [↓view_update, ↓makeDue_view, ↓raise_view, ↓repairEvent_view, ringPlaces, ↓view_ite, hP]

theorem countCorrected_view (loft bank row) (hP : List.all [.status, .log, .blocks, .endur] P) :
    view P (countCorrected loft bank row s) = view P s := by
  simp at hP
  dsimp only [countCorrected]
  (repeat' split) <;> simp [↓view_update, ↓decideRemap_view, ↓raise_view, ringPlaces, hP]

theorem loseSample_view (place) (hP : List.all [.streams, .routing, .tdm, .usb, .blocks] P) :
    view P (loseSample s place) = view P s := by
  simp at hP
  cases place <;> dsimp only [loseSample] <;> simp [↓view_update, ↓setTdm_view, hP]

theorem loseClip_view (x) (hP : List.all [.clips] P) : view P (loseClip s x) = view P s := by
  simp at hP
  dsimp only [loseClip]
  simp [↓view_update, ringPlaces, hP]

theorem dropTalker_view (f) (hP : List.all [.ports, .streams] P) : view P (dropTalker f s) = view P s := by
  simp at hP
  dsimp only [dropTalker]
  simp [↓view_update, ringPlaces, hP]

theorem dropFumarole_view (path k) (hP : List.all [.status] P) : view P (dropFumarole path k s) = view P s := by
  simp at hP
  dsimp only [dropFumarole]
  (repeat' split) <;> simp [↓view_update, ringPlaces, hP]

theorem loseContent_view (what) (hP : List.all [.status, .ports, .streams, .routing, .red, .tdm, .usb, .blocks, .thr,
    .clips] P) (hcontrol : what ≠ .control) :
    view P (loseContent what s) = view P s := by
  simp at hP
  cases what with
  | control => exact absurd rfl hcontrol
  | loft => rfl
  | _ =>
    dsimp only [loseContent]
    simp [↓view_update, ↓foldl_view, ↓loseSample_view, ↓loseClip_view, ↓dropTalker_view, ↓dropFumarole_view, hP]

theorem rowContent_view (r) (hP : List.all [.loft, .sram] P) : view P (rowContent r s) = view P s := by
  simp at hP
  dsimp only [rowContent]
  (repeat' split) <;> simp [↓view_update, ringPlaces, hP]

theorem switchRow_view (et r) (hP : List.all [.status, .log, .loft, .sram, .endur] P) :
    view P (switchRow et s r) = view P s := by
  simp at hP
  dsimp only [switchRow]
  simp [↓view_update, ↓rowContent_view, ↓repairEvent_view, ↓raiseAt_view, ringPlaces, ↓view_ite, hP]

theorem switchRows_view (t et) (hP : List.all [.status, .log, .loft, .sram, .endur] P) :
    view P (switchRows t et s) = view P s := by
  simp at hP
  dsimp only [switchRows]
  simp [↓switchRow_view, ↓foldl_view, hP]

theorem closeDay_view (hP : List.all [.endur] P) : view P (closeDay s) = view P s := by
  simp at hP
  dsimp only [closeDay]
  simp [↓view_update, ringPlaces, hP]

theorem refit_view (hP : List.all [.endur] P) : view P (refit s) = view P s := by
  simp at hP
  dsimp only [refit]
  simp [↓view_update, ringPlaces, ↓view_ite, hP]

theorem setSlot_view (b i) (hP : List.all [.gran] P) : view P (setSlot b i s) = view P s := by
  simp at hP
  dsimp only [setSlot]
  (repeat' split) <;> simp [↓view_update, ringPlaces, hP]

theorem recordSigner_view (h spoil) (hP : List.all [.slots] P) : view P (recordSigner h spoil s) = view P s := by
  simp at hP
  dsimp only [recordSigner]
  simp [↓view_update, ringPlaces, ↓view_ite, hP]

theorem signerFault_view (b occasion h) (hP : List.all [.status, .log] P) :
    view P (signerFault b occasion h s) = view P s := by
  simp at hP
  dsimp only [signerFault]
  simp [↓raise_view, hP]

theorem slotFault_view (b i) (hP : List.all [.status, .log] P) : view P (slotFault b i s) = view P s := by
  simp at hP
  dsimp only [slotFault]
  simp [↓raise_view, hP]

theorem noImageFault_view (hP : List.all [.status, .log] P) : view P (noImageFault s) = view P s := by
  simp at hP
  dsimp only [noImageFault]
  simp [↓raise_view, hP]

theorem verifySlot_view (spoil b) (hP : List.all [.status, .log, .slots, .gran] P) :
    view P (verifySlot spoil s b) = view P s := by
  simp at hP
  dsimp only [verifySlot]
  simp [↓view_update, ↓setSlot_view, ↓signerFault_view, ↓recordSigner_view, ringPlaces, ↓view_ite, hP]

theorem verifyBoth_view (spoil) (hP : List.all [.status, .log, .slots, .gran] P) :
    view P (verifyBoth spoil s) = view P s := by
  simp at hP
  dsimp only [verifyBoth]
  (repeat' split) <;> simp [↓verifySlot_view, ↓slotFault_view, ↓noImageFault_view, ↓foldl_view, hP]

theorem sendImage_view (body) (hP : List.all [.ports, .streams, .keys] P) : view P (sendImage body s) = view P s := by
  simp at hP
  dsimp only [sendImage]
  (repeat' split) <;> simp [↓sendTenant_view, hP]

theorem sendRequest_view (w r) (hP : List.all [.ports, .streams, .keys] P) : view P (sendRequest w s r) = view P s := by
  simp at hP
  dsimp only [sendRequest]
  simp [↓sendImage_view, hP]

theorem requestMissing_view (hP : List.all [.ports, .streams, .keys, .gran] P) :
    view P (requestMissing s) = view P s := by
  simp at hP
  dsimp only [requestMissing]
  (repeat' split) <;> simp [↓view_update, ↓sendRequest_view, ringPlaces, ↓foldl_view, hP]

theorem openRange_view (hP : List.all [.ports, .streams, .keys, .gran] P) : view P (openRange s) = view P s := by
  simp at hP
  dsimp only [openRange]
  (repeat' split) <;> simp [↓view_update, ↓requestMissing_view, ringPlaces, hP]

theorem beginWrite_view (w) (hP : List.all [.status, .log, .ports, .streams, .keys, .memory, .gran] P) :
    view P (beginWrite w s) = view P s := by
  simp at hP
  dsimp only [beginWrite]
  simp [↓view_update, ↓repairEvent_view, ↓setSlot_view, ↓issueOp_view, ↓openRange_view, ringPlaces, ↓view_ite, hP]

theorem advanceWrite_view (hP : List.all [.ports, .streams, .keys, .memory, .gran] P) :
    view P (advanceWrite s) = view P s := by
  simp at hP
  dsimp only [advanceWrite]
  (repeat' split) <;> simp [↓view_update, ↓issueOp_view, ↓openRange_view, ringPlaces, hP]

theorem checkFault_view (w i) (hP : List.all [.status, .log] P) : view P (checkFault w i s) = view P s := by
  simp at hP
  dsimp only [checkFault]
  simp [↓signerFault_view, ↓raise_view, ↓slotFault_view, ↓noImageFault_view, ↓view_ite, hP]

theorem healedClears_view (hP : List.all [.status] P) : view P (healedClears s) = view P s := by
  simp at hP
  dsimp only [healedClears]
  simp [↓clearAll_view, ↓view_ite, hP]

theorem completeWrite_view (w i fails) (hP : List.all [.freeCtr, .status, .log, .routing, .red, .keys, .blocks, .flash,
    .gran] P) :
    view P (completeWrite w i fails s) = view P s := by
  simp at hP
  dsimp only [completeWrite]
  simp [↓view_update, ↓writeService_view, ↓opGood_view, ↓setSlot_view, ↓rewriteRecords_view, ↓raise_view,
      ↓repairEvent_view, ↓healedClears_view, ↓makeDue_view, ↓view_ite, hP]

theorem resetSilo_view {change : State → State} (hP : List.all [.psram] P) (hchange : view P (change s) = view P s) :
    view P (resetSilo change s) = view P s := by
  simp at hP
  dsimp only [resetSilo]
  split <;> simp [↓writeEntry_view, ↓writeBank_view, ↓setupSilo_view, hP, hchange]

theorem slotLoad_view (hP : List.all [.start, .status, .log, .thr, .psram, .loft, .gran] P) :
    view P (slotLoad s) = view P s := by
  simp at hP
  dsimp only [slotLoad]
  simp [↓view_update, ↓checkModelRate_view, ↓loadClips_view, ↓loadProfiles_view, ↓loadModels_view, ↓resetSilo_view,
      ↓loadLoft_view, ↓setupContexts_view, ↓clearAll_view, ringPlaces, ↓view_ite, hP]

theorem enterRole_view (m code) (hP : List.all [.start, .status, .log, .gptp, .tdm] P) :
    view P (enterRole m code s) = view P s := by
  simp at hP
  dsimp only [enterRole]
  simp [↓view_update, ↓runBmca_view, ↓modeChange_view, ringPlaces, hP]

theorem takeNet_view (hP : List.all [.status, .log, .well, .history] P) : view P (takeNet s) = view P s := by
  simp at hP
  dsimp only [takeNet]
  simp [↓switchTo_view, ↓view_ite, hP]

theorem takeover_view (hP : List.all [.start, .status, .log, .well, .history, .ports, .gptp, .streams, .routing, .red,
    .keys, .tdm, .usb, .blocks, .thr, .psram, .clips] P) :
    view P (takeover s) = view P s := by
  simp at hP
  dsimp only [takeover]
  (repeat' split) <;> simp [↓view_update, ↓enterRole_view, ↓raiseAt_view, ↓restoreCkpt_view, ↓flushOwn_view,
      ↓setNumbers_view, ↓takeNet_view, ringPlaces, hP]

theorem leaveLead_view (hP : List.all [.ports, .streams, .red, .keys, .blocks, .thr] P) :
    view P (leaveLead s) = view P s := by
  simp at hP
  dsimp only [leaveLead]
  simp [↓view_update, ↓contactWork_view, ringPlaces, ↓view_ite, hP]

theorem yieldRole_view (leader) (hP : List.all [.start, .status, .log, .ports, .gptp, .streams, .red, .keys, .tdm,
    .blocks, .thr] P) :
    view P (yieldRole leader s) = view P s := by
  simp at hP
  dsimp only [yieldRole]
  simp [↓enterRole_view, ↓raiseAt_view, ↓leaveLead_view, ↓clear_view, hP]

theorem takeBack_view (b) (hP : List.all [.start, .status, .log, .ports, .gptp, .streams, .routing, .red, .keys, .tdm,
    .usb, .blocks, .thr, .psram, .clips] P) :
    view P (takeBack b s) = view P s := by
  simp at hP
  dsimp only [takeBack]
  (repeat' split) <;> simp [↓view_update, ↓enterRole_view, ↓raiseAt_view, ↓flushOwn_view, ↓restoreCkpt_view,
      ↓startPath_view, ringPlaces, hP]

theorem giveBack_view (hP : List.all [.start, .status, .log, .gptp, .red, .tdm] P) :
    view P (giveBack s) = view P s := by
  simp at hP
  dsimp only [giveBack]
  simp [↓view_update, ↓enterRole_view, ringPlaces, ↓view_ite, hP]

theorem takeBackStep_view (hP : List.all [.start, .status, .log, .ports, .gptp, .streams, .routing, .red, .keys, .tdm,
    .usb, .blocks, .thr, .psram, .clips] P) :
    view P (takeBackStep s) = view P s := by
  simp at hP
  dsimp only [takeBackStep]
  (repeat' split) <;> simp [↓takeBack_view, ↓giveBack_view, hP]

theorem comeInStep_view (hP : List.all [.streams, .red, .blocks] P) : view P (comeInStep s) = view P s := by
  simp at hP
  dsimp only [comeInStep]
  (repeat' split) <;> simp [↓view_update, ↓setNumbers_view, ↓admitLike_view, ringPlaces, hP]

theorem partnerBoundary_view (hP : List.all [.ports, .streams, .red, .keys, .blocks, .thr] P) :
    view P (partnerBoundary s) = view P s := by
  simp at hP
  dsimp only [partnerBoundary]
  simp [↓view_update, ↓startResync_view, ↓comeInStep_view, ringPlaces, ↓view_ite, hP]

theorem pathBoundary_view (hP : List.all [.streams, .routing, .red, .tdm, .blocks, .thr, .clips] P) :
    view P (pathBoundary s) = view P s := by
  simp at hP
  dsimp only [pathBoundary]
  simp [↓view_update, ↓startPath_view, ringPlaces, ↓view_ite, hP]

theorem applyStep_view (e) (hP : List.all [.status, .log, .well, .history, .gptp, .streams, .red, .keys, .blocks, .gran,
    .endur] P) :
    view P (applyStep e s) = view P s := by
  simp at hP
  dsimp only [applyStep]
  simp [↓view_update, ↓setTime_view, ↓loseSync_view, ringPlaces, hP]

theorem applyColumn_view (c) (hP : List.all [.status, .log, .thr] P) : view P (applyColumn c s) = view P s := by
  simp at hP
  dsimp only [applyColumn]
  simp [↓view_update, ↓repairEvent_view, ringPlaces, hP]

theorem applyRole_view (d) (hP : List.all [.start, .status, .log, .well, .history, .ports, .gptp, .streams, .routing,
    .red, .keys, .tdm, .usb, .blocks, .thr, .psram, .clips] P) :
    view P (applyRole s d) = view P s := by
  simp at hP
  dsimp only [applyRole]
  (repeat' split) <;> simp [↓takeover_view, ↓yieldRole_view, hP]

theorem applyTime_view (d) (hP : List.all [.status, .log, .well, .history, .gptp, .streams, .red, .keys, .blocks, .gran,
    .endur] P) :
    view P (applyTime s d) = view P s := by
  simp at hP
  dsimp only [applyTime]
  (repeat' split) <;> simp [↓applyStep_view, hP]

theorem applyRepair_view (d) (hP : List.all [.start, .status, .log, .thr, .psram, .loft, .gran, .endur] P) :
    view P (applyRepair s d) = view P s := by
  simp at hP
  dsimp only [applyRepair]
  (repeat' split) <;> simp [↓applyColumn_view, ↓slotLoad_view, ↓idleContexts_view, hP]

theorem commitAll_view (hP : List.all [.psram] P) : view P (commitAll s) = view P s := by
  simp at hP
  dsimp only [commitAll]
  simp [↓writeEntry_view, ↓view_ite, ↓foldl_view, hP]

theorem enterSlumber_view (hP : List.all [.start, .status, .log, .well, .gptp, .streams, .routing, .red, .keys, .bpi,
    .bpo, .tdm, .usb, .blocks, .thr, .psram, .memory, .clips, .spk, .motor, .sleep] P) :
    view P (enterSlumber s) = view P s := by
  simp at hP
  dsimp only [enterSlumber]
  simp [↓view_update, ↓commitAll_view, ↓modeSet_view, ↓modeFrame_view, ↓refreshLeds_view, ringPlaces, hP]

theorem intervene_view (hP : List.all [.start, .status, .log, .well, .history, .ports, .gptp, .streams, .routing, .red,
    .keys, .bpi, .bpo, .tdm, .mic, .usb, .blocks, .thr, .psram, .loft, .sram, .gran, .clips, .plant, .spk, .motor,
    .endur, .sleep] P) :
    view P (intervene s) = view P s := by
  simp at hP
  dsimp only [intervene]
  (repeat' split) <;> simp [↓view_update, ↓enterSafe_view, ↓partnerBoundary_view, ↓takeBackStep_view, ↓applyRole_view,
      ↓applyTime_view, ↓wellCheck_view, ↓applyRepair_view, ↓switchRows_view, ringPlaces, ↓foldl_view, hP]

theorem senseBoundary_view (x) (hP : List.all [.plant, .lands] P) : view P (senseBoundary x s) = view P s := by
  simp at hP
  dsimp only [senseBoundary]
  simp [↓view_update, ringPlaces, hP]

theorem openPaths_view (hP : List.all [.start, .status] P) : view P (openPaths s) = view P s := by
  simp at hP
  dsimp only [openPaths]
  simp [↓view_update, ringPlaces, ↓view_ite, hP]

theorem firstPlant_view (hP : List.all [.thr] P) : view P (firstPlant s) = view P s := by
  simp at hP
  dsimp only [firstPlant]
  simp [↓view_update, ringPlaces, ↓view_ite, hP]

theorem boundary_view (x) (hP : List.all [.start, .status, .log, .well, .history, .ports, .gptp, .streams, .routing,
    .red, .keys, .bpi, .bpo, .tdm, .mic, .usb, .blocks, .thr, .psram, .loft, .sram, .memory, .gran, .clips, .plant,
    .spk, .motor, .endur, .sleep, .lands] P) :
    view P (boundary x s) = view P s := by
  simp at hP
  dsimp only [boundary]
  simp [↓view_update, ↓placeBlock_view, ↓powerBoundary_view, ↓senseBoundary_view, ↓endBlock_view, ↓openPaths_view,
      ↓firstPlant_view, ↓wellBlock_view, ↓bpoBoundary_view, ↓keyAtBoundary_view, ↓intervene_view, ↓enterSlumber_view,
      ↓takeHeld_view, ↓beginBlock_view, ↓pathBoundary_view, ringPlaces, ↓view_ite, hP]

theorem execBlockBoundary_within (x) (hP : List.all [.start, .status, .log, .well, .history, .ports, .gptp, .streams,
    .routing, .red, .keys, .bpi, .bpo, .tdm, .mic, .usb, .blocks, .thr, .psram, .loft, .sram, .memory, .gran, .clips,
    .plant, .spk, .motor, .endur, .sleep, .lands] P) :
    Within P s (execBlockBoundary x s) := by
  simp at hP
  dsimp only [execBlockBoundary]
  simp [↓within_next, ↓within_ite, ↓wellBlock_view, ↓pump_view, ↓boundary_view, ↓view_ite, hP]

theorem resumeWells_view (failed) (hP : List.all [.well, .endur] P) : view P (resumeWells failed s) = view P s := by
  simp at hP
  dsimp only [resumeWells]
  (repeat' split) <;> simp [↓view_update, ↓enterHoldover_view, ringPlaces, hP]

theorem exitSlumber_view (m) (hP : List.all [.start, .status, .log, .well, .ports, .streams, .red, .keys, .blocks, .thr,
    .gran, .endur, .sleep] P) :
    view P (exitSlumber m s) = view P s := by
  simp at hP
  unfold exitSlumber
  extract_lets et failed _ s₁ s₂ status₂ s₃ start₃ s₄ status₄ _ _ s₅
  have h₁ : view P s₁ = view P s := by simp [s₁, ↓resumeWells_view, ↓view_update, hP]
  clear_value s₁
  have h₂ : view P s₂ = view P s := by simp [s₂, ↓modeChange_view, hP, h₁]
  clear_value s₂
  have h₃ : view P s₃ = view P s := by simp [s₃, status₂, ↓view_ite, ↓raiseAt_view, ↓view_update, hP, h₂]
  clear_value s₃
  have h₄ : view P s₄ = view P s := by simp [s₄, start₃, ↓reschedule_view, ↓heartbeat_view, ↓view_update, hP, h₃]
  clear_value s₄
  have h₅ : view P s₅ = view P s := by simp [s₅, status₄, ↓view_update, hP, h₄]
  split <;> simp [↓contactWork_view, hP, h₅]

theorem execSlumberResume_within (x) (hP : List.all [.start, .status, .log, .well, .history, .ports, .gptp, .streams,
    .routing, .red, .keys, .bpi, .bpo, .tdm, .mic, .usb, .blocks, .thr, .psram, .loft, .sram, .gran, .clips, .plant,
    .spk, .motor, .endur, .sleep, .lands] P) :
    Within P s (execSlumberResume x s) := by
  simp at hP
  dsimp only [execSlumberResume]
  (repeat' split) <;> simp [↓within_next, ↓view_update, ↓placeBlock_view, ↓senseBoundary_view, ↓intervene_view,
      ↓pump_view, ↓bpoBoundary_view, ↓openPaths_view, ↓firstPlant_view, ↓exitSlumber_view, ↓beginBlock_view,
      ↓pathBoundary_view, ringPlaces, hP]

theorem execSramCorrectedError_within (t loft bank row) (hP : List.all [.status, .log, .blocks, .endur] P) :
    Within P s (execSramCorrectedError t loft bank row s) := by
  simp at hP
  dsimp only [execSramCorrectedError]
  simp [↓within_next, ↓within_ite, ↓countCorrected_view, hP]

theorem execScrubPass_within (hP : List.all [.endur] P) : Within P s (execScrubPass s) := by
  simp at hP
  dsimp only [execScrubPass]
  simp [↓within_next, ↓within_ite, ↓view_update, ringPlaces, hP]

theorem repairReady_view (loft bank row) (hP : List.all [.blocks, .endur] P) :
    view P (repairReady loft bank row s) = view P s := by
  simp at hP
  dsimp only [repairReady]
  simp [↓view_update, ↓makeDue_view, ringPlaces, ↓view_ite, hP]

theorem execRowCopyComplete_within (t bank row) (hP : List.all [.blocks, .endur] P) :
    Within P s (execRowCopyComplete t bank row s) := by
  simp at hP
  dsimp only [execRowCopyComplete]
  simp [↓within_next, ↓repairReady_view, hP]

theorem execLoftRowFillComplete_within (t bank row) (hP : List.all [.blocks, .endur] P) :
    Within P s (execLoftRowFillComplete t bank row s) := by
  simp at hP
  dsimp only [execLoftRowFillComplete]
  simp [↓within_next, ↓repairReady_view, hP]

theorem execPoweredHour_within (fails) (hP : List.all [.freeCtr, .status, .log, .flash, .gran, .endur] P) :
    Within P s (execPoweredHour fails s) := by
  simp at hP
  dsimp only [execPoweredHour]
  simp [↓within_next, ↓within_ite, ↓view_update, ↓writeService_view, ↓closeDay_view, ↓refit_view, ↓view_ite, hP]

theorem execHoldoverAgingCorrection_within (hP : List.all [.well, .endur] P) :
    Within P s (execHoldoverAgingCorrection s) := by
  simp at hP
  dsimp only [execHoldoverAgingCorrection]
  simp [↓within_next, ↓within_ite, ↓view_update, ringPlaces, hP]

theorem execFlashBringup_within (t tries) (hP : List.all [.reset, .status, .log, .routing, .red, .keys, .memory, .gran]
    P) :
    Within P s (execFlashBringup t tries s) := by
  simp at hP
  dsimp only [execFlashBringup]
  (repeat' split) <;> simp [↓within_next, ↓view_update, ↓flashFault_view, ↓scanService_view, ↓scanPairs_view,
      ↓scanReservations_view, ↓scanLog_view, hP]

theorem execFlashReadTimeout_within (t addr) (hP : List.all [.status, .log, .memory, .gran, .clips] P) :
    Within P s (execFlashReadTimeout t addr s) := by
  simp at hP
  dsimp only [execFlashReadTimeout]
  simp [↓within_next, ↓within_ite, ↓view_update, ↓loseFlash_view, ringPlaces, hP]

theorem execFlashSuspendRead_within (t) (hP : List.all [.memory] P) : Within P s (execFlashSuspendRead t s) := by
  simp at hP
  dsimp only [execFlashSuspendRead]
  (repeat' split) <;> simp [↓within_next, ↓view_update, ringPlaces, hP]

theorem execBusTransactionComplete_within (t silo asked) (hP : List.all [.memory] P) :
    Within P s (execBusTransactionComplete t silo asked s) := by
  simp at hP
  dsimp only [execBusTransactionComplete]
  simp [↓within_next, ↓completeBus_view, ↓askBus_view, hP]

theorem execDmaRegisterSetComplete_within (t ch) (hP : List.all [.freeCtr, .flash, .psram, .loft, .sram, .memory] P) :
    Within P s (execDmaRegisterSetComplete t ch s) ∨ ∃ a, execDmaRegisterSetComplete t ch s = .fault (.dmaAddress a) := by
  simp at hP
  dsimp only [execDmaRegisterSetComplete]
  split
  · exact .inl (by simp)
  · split
    · exact .inr ⟨_, rfl⟩
    · exact .inl (by simp [↓within_next, ↓view_update, ↓view_ite, ↓dmaMove_view, hP])

theorem execDmaPaceMark_within (t ch fill) (hP : List.all [.memory] P) : Within P s (execDmaPaceMark t ch fill s) := by
  simp at hP
  dsimp only [execDmaPaceMark]
  simp [↓within_next, ↓within_ite, ↓view_update, ringPlaces, hP]

theorem execDmaShadowWrite_within (t ch set forBoundary) (hP : List.all [.memory] P) :
    Within P s (execDmaShadowWrite t ch set forBoundary s) := by
  simp at hP
  dsimp only [execDmaShadowWrite]
  simp [↓within_next, ↓within_ite, ↓view_update, ringPlaces, hP]

theorem execImageVerify_within (t spoil) (hP : List.all [.start, .status, .log, .slots, .gran] P) :
    Within P s (execImageVerify t spoil s) := by
  simp at hP
  dsimp only [execImageVerify]
  simp [↓within_next, ↓within_ite, ↓view_update, ↓noImageFault_view, ↓verifyBoth_view, ringPlaces, ↓view_ite, hP]

theorem execSlotWriteStart_within (t) (hP : List.all [.status, .log, .ports, .streams, .keys, .memory, .gran] P) :
    Within P s (execSlotWriteStart t s) := by
  simp at hP
  dsimp only [execSlotWriteStart]
  (repeat' split) <;> simp [↓within_next, ↓beginWrite_view, hP]

end Sys2Proof.Machine
end

/-! # Frame rules: test port, pairing, ports, SLUMBER

Commands of the test port, pairing, plant, ports and SLUMBER (chapters 3, 7, 11, 22 and 29). -/

section
namespace Sys2Proof.Machine

open Sys2Proof

variable {P : Part → Bool} (s : State)

theorem execFlashOperationComplete_within (t failed) (hP : List.all [.freeCtr, .status, .log, .ports, .streams, .keys,
    .flash, .memory, .gran] P) :
    Within P s (execFlashOperationComplete t failed s) := by
  simp at hP
  dsimp only [execFlashOperationComplete]
  (repeat' split) <;> simp [↓within_next, ↓view_update, ↓opGood_view, ↓applyOp_view, ↓advanceWrite_view, ↓issueOp_view,
      ↓opFault_view, ↓spoilOp_view, ↓failWrite_view, hP]

theorem execSlotWriteComplete_within (t marker fails spoil) (hP : List.all [.freeCtr, .status, .log, .ports, .streams,
    .routing, .red, .slots, .keys, .blocks, .flash, .memory, .gran] P) :
    Within P s (execSlotWriteComplete t marker fails spoil s) := by
  simp at hP
  dsimp only [execSlotWriteComplete]
  (repeat' split) <;> simp [↓within_next, ↓advanceWrite_view, ↓checkFault_view, ↓failWrite_view, ↓setSlot_view,
      ↓opFault_view, ↓recordSigner_view, ↓completeWrite_view, hP]

theorem execImageAdvertSend_within (hP : List.all [.ports, .streams, .keys, .gran] P) :
    Within P s (execImageAdvertSend s) := by
  simp at hP
  dsimp only [execImageAdvertSend]
  (repeat' split) <;> simp [↓within_next, ↓view_update, ↓sendImage_view, ringPlaces, hP]

theorem refuseImage_view (cause id edition) (hP : List.all [.status, .log, .gran] P) :
    view P (refuseImage cause id edition s) = view P s := by
  simp at hP
  dsimp only [refuseImage]
  simp [↓view_update, ↓raise_view, ringPlaces, hP]

theorem judgeAdvert_view (b) (hP : List.all [.status, .log, .gran] P) : view P (judgeAdvert b s) = view P s := by
  simp at hP
  dsimp only [judgeAdvert]
  simp [↓view_update, ↓refuseImage_view, ringPlaces, ↓view_ite, hP]

theorem execImageAdvertReceive_within (t f) (hP : List.all [.status, .log, .keys, .gran, .cross] P) :
    Within P s (execImageAdvertReceive t f s) := by
  simp at hP
  dsimp only [execImageAdvertReceive]
  split
  · simp [↓within_next, ↓within_ite, ↓endpointIn_verified_view, ↓judgeAdvert_view, hP]
  · simp

theorem execImageRequestReceive_within (t f) (hP : List.all [.status, .log, .keys, .gran, .cross] P) :
    Within P s (execImageRequestReceive t f s) := by
  simp at hP
  dsimp only [execImageRequestReceive]
  split
  · simp [↓within_next, ↓within_ite, ↓endpointIn_verified_view, ↓view_ite, ↓view_update, ringPlaces, hP]
  · simp

theorem execImageChunkSend_within (t) (hP : List.all [.ports, .streams, .keys, .gran] P) :
    Within P s (execImageChunkSend t s) := by
  simp at hP
  dsimp only [execImageChunkSend]
  (repeat' split) <;> simp [↓within_next, ↓view_update, ↓sendImage_view, ringPlaces, hP]

theorem takeChunk_view (b) (hP : List.all [.memory, .gran] P) : view P (takeChunk b s) = view P s := by
  simp at hP
  dsimp only [takeChunk]
  (repeat' split) <;> simp [↓view_update, ↓issueOp_view, ringPlaces, hP]

theorem execImageChunkReceive_within (t f) (hP : List.all [.status, .log, .ports, .streams, .keys, .memory, .gran,
    .cross] P) :
    Within P s (execImageChunkReceive t f s) := by
  simp at hP
  dsimp only [execImageChunkReceive]
  split <;> simp [↓within_next, ↓endpointIn_verified_view, ↓takeChunk_view, ↓advanceWrite_view, hP]

theorem execImageRequestRetry_within (hP : List.all [.ports, .streams, .keys, .gran] P) :
    Within P s (execImageRequestRetry s) := by
  simp at hP
  dsimp only [execImageRequestRetry]
  (repeat' split) <;> simp [↓within_next, ↓requestMissing_view, hP]

theorem execImageFetchAbandon_within (hP : List.all [.status, .log, .gran] P) :
    Within P s (execImageFetchAbandon s) := by
  simp at hP
  dsimp only [execImageFetchAbandon]
  (repeat' split) <;> simp [↓within_next, ↓failWrite_view, hP]

theorem releaseReset_view (hP : List.all [.reset, .start, .gptp, .blocks, .endur] P) :
    view P (releaseReset s) = view P s := by
  simp at hP
  dsimp only [releaseReset]
  simp [↓view_update, hP]

theorem irScan_view (hP : List.all [.jtag] P) : view P (irScan s) = view P s := by
  simp at hP
  dsimp only [irScan]
  simp [↓view_update, ringPlaces, hP]

theorem quietInstr_view (ir bits) (hP : List.all [.reset, .start, .gptp, .blocks, .endur, .jtag] P) :
    view P (quietInstr ir bits s) = view P s := by
  simp at hP
  dsimp only [quietInstr]
  simp [↓view_update, ↓releaseReset_view, ↓view_ite, hP]

theorem execIdcode_within (t) (hP : List.all [.reset, .start, .gptp, .blocks, .endur, .jtag] P) :
    Within P s (execIdcode t s) := by
  simp at hP
  dsimp only [execIdcode]
  simp [↓within_next, ↓quietInstr_view, ↓irScan_view, hP]

theorem execSamplePreload_within (t) (hP : List.all [.reset, .start, .gptp, .blocks, .endur, .jtag] P) :
    Within P s (execSamplePreload t s) := by
  simp at hP
  dsimp only [execSamplePreload]
  simp [↓within_next, ↓quietInstr_view, ↓irScan_view, hP]

theorem execBypass_within (t op) (hP : List.all [.reset, .start, .gptp, .blocks, .endur, .jtag] P) :
    Within P s (execBypass t op s) := by
  simp at hP
  dsimp only [execBypass]
  simp [↓within_next, ↓within_ite, ↓quietInstr_view, ↓irScan_view, hP]

theorem execTapReset_within (t) (hP : List.all [.reset, .start, .gptp, .blocks, .endur, .jtag] P) :
    Within P s (execTapReset t s) := by
  simp at hP
  dsimp only [execTapReset]
  simp [↓within_next, ↓quietInstr_view, hP]

theorem execDataRegisterScan_within (t pins tdi) (hP : List.all [.freeCtr, .jtag] P) :
    Within P s (execDataRegisterScan t pins tdi s) := by
  simp at hP
  dsimp only [execDataRegisterScan]
  (repeat' split) <;> simp [↓within_next, ↓view_update, ↓drawFree_view, ringPlaces, hP]

theorem execReservationCommit_within (t ann fails) (hP : List.all [.freeCtr, .status, .log, .keys, .flash] P) :
    Within P s (execReservationCommit t ann fails s) := by
  simp at hP
  dsimp only [execReservationCommit]
  simp [↓within_next, ↓commitReservation_view, hP]

theorem createKey_view (spoil) (hP : List.all [.freeCtr, .status, .log, .slots, .keys] P) :
    view P (createKey spoil s) = view P s := by
  simp at hP
  dsimp only [createKey]
  (repeat' split) <;> simp [↓view_update, ↓slotsUsed_view, ↓programKey_view, ringPlaces, hP]

theorem execKeyCreate_within (spoil) (hP : List.all [.freeCtr, .status, .log, .slots, .keys] P) :
    Within P s (execKeyCreate spoil s) := by
  simp at hP
  dsimp only [execKeyCreate]
  (repeat' split) <;> simp [↓within_next, ↓view_update, ↓createKey_view, ringPlaces, hP]

theorem execKeyRenew_within (spoil) (hP : List.all [.freeCtr, .status, .log, .slots, .keys] P) :
    Within P s (execKeyRenew spoil s) := by
  simp at hP
  dsimp only [execKeyRenew]
  simp [↓within_next, ↓within_ite, ↓createKey_view, hP]

theorem execAkDistributionSend_within (hP : List.all [.ports, .streams, .keys] P) :
    Within P s (execAkDistributionSend s) := by
  simp at hP
  dsimp only [execAkDistributionSend]
  (repeat' split) <;> simp [↓within_next, ↓view_update, ↓sendTenant_view, ringPlaces, hP]

theorem execAkDistributionReceive_within (t f) (hP : List.all [.status, .log, .keys, .cross] P) :
    Within P s (execAkDistributionReceive t f s) := by
  simp at hP
  dsimp only [execAkDistributionReceive]
  split
  · simp [↓within_next, ↓within_ite, ↓endpointIn_verified_view, ↓view_update, ringPlaces, hP]
  · simp

theorem closeWindow_view (hP : List.all [.status, .log, .keys] P) : view P (closeWindow s) = view P s := by
  simp at hP
  dsimp only [closeWindow]
  simp [↓view_update, ↓refreshLeds_view, ↓pairingFault_view, ringPlaces, ↓view_ite, hP]

theorem execPairPress_within (t heldNs) (hP : List.all [.status, .log, .keys] P) :
    Within P s (execPairPress t heldNs s) := by
  simp at hP
  dsimp only [execPairPress]
  simp [↓within_next, ↓within_ite, ↓view_update, ↓closeWindow_view, ringPlaces, hP]

theorem sendJoin_view (w ak) (hP : List.all [.freeCtr, .ports, .streams, .keys] P) :
    view P (sendJoin w ak s) = view P s := by
  simp at hP
  dsimp only [sendJoin]
  simp [↓view_update, ↓sendPairing_view, ringPlaces, hP]

theorem execPairListenExpiry_within (hP : List.all [.freeCtr, .status, .log, .ports, .streams, .keys] P) :
    Within P s (execPairListenExpiry s) := by
  simp at hP
  dsimp only [execPairListenExpiry]
  (repeat' split) <;> simp [↓within_next, ↓view_update, ↓sendJoin_view, ↓refreshLeds_view, ↓pairingFault_view,
      ringPlaces, hP]

theorem execWindowFrameSend_within (hP : List.all [.freeCtr, .ports, .streams, .keys] P) :
    Within P s (execWindowFrameSend s) := by
  simp at hP
  dsimp only [execWindowFrameSend]
  simp [↓within_next, ↓within_ite, ↓view_update, ↓sendPairing_view, ringPlaces, hP]

theorem execWindowFrameReceive_within (t f) (hP : List.all [.freeCtr, .status, .log, .ports, .streams, .keys, .cross] P)
    :
    Within P s (execWindowFrameReceive t f s) := by
  simp at hP
  dsimp only [execWindowFrameReceive]
  split
  · simp
  · simp [↓within_next, ↓within_ite, ↓endpointIn_verified_view, ↓view_ite, ↓view_update, ↓pairingFault_view,
      ↓sendJoin_view, ringPlaces, hP]

theorem pairRecord_view (otherRole eui n otherProfile fails) (hP : List.all [.freeCtr, .status, .log, .routing, .red,
    .flash, .gran] P) :
    view P (pairRecord otherRole eui n otherProfile fails s) = view P s := by
  simp at hP
  dsimp only [pairRecord]
  simp [↓writePair_view, ↓view_ite, hP]

theorem execJoinReceive_within (t f) (hP : List.all [.freeCtr, .status, .log, .ports, .streams, .keys, .cross] P) :
    Within P s (execJoinReceive t f s) := by
  simp at hP
  dsimp only [execJoinReceive]
  split
  · simp
  · simp only [within_ite, within_next]
    rw [endpointIn_verified_view _ _ (by simp [hP])]
    · simp
    · intro s
      (repeat' split) <;> simp [↓view_update, ↓pairingFault_view, ↓sendPairing_view, ringPlaces, hP]

theorem endExchange_view (x) (hP : List.all [.keys] P) : view P (endExchange x s) = view P s := by
  simp at hP
  dsimp only [endExchange]
  simp [↓view_update, ringPlaces, hP]

theorem execDoneReceive_within (t f fails) (hP : List.all [.freeCtr, .status, .log, .routing, .red, .keys, .flash,
    .gran, .cross] P) :
    Within P s (execDoneReceive t f fails s) := by
  simp at hP
  dsimp only [execDoneReceive]
  split
  · simp
  · split
    · simp
    · simp [↓within_next, ↓endpointIn_verified_view, ↓view_ite, ↓view_update, ↓pairingFault_view, ↓pairRecord_view,
        ↓endExchange_view, hP]

theorem execDoneTimeout_within (eui) (hP : List.all [.status, .log, .keys] P) : Within P s (execDoneTimeout eui s) := by
  simp at hP
  dsimp only [execDoneTimeout]
  (repeat' split) <;> simp [↓within_next, ↓pairingFault_view, ↓endExchange_view, hP]

theorem execPairingWindowExpiry_within (hP : List.all [.status, .log, .keys] P) :
    Within P s (execPairingWindowExpiry s) := by
  simp at hP
  dsimp only [execPairingWindowExpiry]
  simp [↓within_next, ↓within_ite, ↓closeWindow_view, hP]

theorem execJoinResend_within (hP : List.all [.freeCtr, .ports, .streams, .keys] P) :
    Within P s (execJoinResend s) := by
  simp at hP
  dsimp only [execJoinResend]
  (repeat' split) <;> simp [↓within_next, ↓view_update, ↓sendPairing_view, ringPlaces, hP]

theorem endTaking_view (hP : List.all [.keys] P) : view P (endTaking s) = view P s := by
  simp at hP
  dsimp only [endTaking]
  simp [↓view_update, ringPlaces, hP]

theorem sendDone_view (w key mac result slot) (hP : List.all [.freeCtr, .ports, .streams] P) :
    view P (sendDone w key mac result slot s) = view P s := by
  simp at hP
  dsimp only [sendDone]
  simp [↓sendPairing_view, hP]

theorem storeKey_view (w k spoil) (hP : List.all [.status, .log, .slots, .keys] P) :
    view P (storeKey w k spoil s).2.2 = view P s := by
  simp at hP
  dsimp only [storeKey]
  (repeat' split) <;> simp [↓slotsUsed_view, ↓programKey_view, hP]

theorem execKeyFrameReceive_within (t f spoil fails) (hP : List.all [.freeCtr, .status, .log, .ports, .streams,
    .routing, .red, .slots, .keys, .flash, .gran, .cross] P) :
    Within P s (execKeyFrameReceive t f spoil fails s) := by
  simp at hP
  unfold execKeyFrameReceive
  extract_lets s₁
  split
  · next b w _ _ =>
    extract_lets k
    rw [within_ite, within_next, within_next, endpointIn_verified_view _ _ (by simp [hP])]
    · simp [s₁]
    · intro s
      extract_lets p signed shared kek s₂
      have h₂ : view P s₂ = view P s := endTaking_view s (by simp [hP])
      clear_value s₂
      split
      · simp [↓pairingFault_view, h₂, hP]
      · split
        · simp [↓pairingFault_view, h₂, hP]
        · next x _ =>
          have h₃ : view P (storeKey w x spoil s₂).2.2 = view P s := by simp [↓storeKey_view, h₂, hP]
          generalize storeKey w x spoil s₂ = stored at h₃ ⊢
          simp [↓sendDone_view, ↓view_ite, ↓pairRecord_view, h₃, hP]
  · simp [s₁]

theorem execKeyFrameTimeout_within (hP : List.all [.status, .log, .keys] P) : Within P s (execKeyFrameTimeout s) := by
  simp at hP
  dsimp only [execKeyFrameTimeout]
  (repeat' split) <;> simp [↓within_next, ↓pairingFault_view, ↓endTaking_view, hP]

theorem execThermalModelRelease_within (ch) (hP : List.all [.status, .spk] P) :
    Within P s (execThermalModelRelease ch s) := by
  simp at hP
  dsimp only [execThermalModelRelease]
  (repeat' split) <;> simp [↓within_next, ↓clear_view, ↓mapSpk_view, hP]

theorem execSpeakerGuard_within (t ch) (hP : List.all [.spk] P) : Within P s (execSpeakerGuard t ch s) := by
  simp at hP
  dsimp only [execSpeakerGuard]
  simp [↓within_next, ↓within_ite, ↓mapSpk_view, hP]

theorem execSpeakerOvercurrent_within (t stage short) (hP : List.all [.status, .log, .spk] P) :
    Within P s (execSpeakerOvercurrent t stage short s) := by
  simp at hP
  dsimp only [execSpeakerOvercurrent]
  simp [↓within_next, ↓within_ite, ↓view_update, ↓raise_view, ringPlaces, hP]

theorem execOpenLoadDetect_within (t ch cent) (hP : List.all [.status, .log, .spk] P) :
    Within P s (execOpenLoadDetect t ch cent s) := by
  simp at hP
  dsimp only [execOpenLoadDetect]
  simp [↓within_next, ↓within_ite, ↓raise_view, ↓mapSpk_view, ↓clear_view, hP]

theorem motorReading_view (posMv pvddMv ma) (hP : List.all [.motor] P) :
    view P (motorReading posMv pvddMv ma s) = view P s := by
  simp at hP
  dsimp only [motorReading]
  simp [↓mapMotor_view, hP]

theorem motorSettle_view (hP : List.all [.status, .motor] P) : view P (motorSettle s) = view P s := by
  simp at hP
  dsimp only [motorSettle]
  simp [↓mapMotor_view, ↓clearAll_view, ↓view_ite, hP]

theorem execMotorCommand_within (t posMv pvddMv ma) (hP : List.all [.status, .motor] P) :
    Within P s (execMotorCommand t posMv pvddMv ma s) := by
  simp at hP
  dsimp only [execMotorCommand]
  simp [↓within_next, ↓within_ite, ↓setDriven_view, ↓motorReading_view, ↓motorSettle_view, ↓mapMotor_view, hP]

theorem execBackEmfWindow_within (t bemfMv) (hP : List.all [.motor] P) : Within P s (execBackEmfWindow t bemfMv s) := by
  simp at hP
  dsimp only [execBackEmfWindow]
  simp [↓within_next, ↓within_ite, ↓mapMotor_view, hP]

theorem execMotorPeakCurrent_within (t ma) (hP : List.all [.status, .log, .motor] P) :
    Within P s (execMotorPeakCurrent t ma s) := by
  simp at hP
  dsimp only [execMotorPeakCurrent]
  simp [↓within_next, ↓within_ite, ↓raise_view, ↓mapMotor_view, hP]

theorem execMotPosOutOfRange_within (hP : List.all [.status, .log, .motor] P) :
    Within P s (execMotPosOutOfRange s) := by
  simp at hP
  dsimp only [execMotPosOutOfRange]
  (repeat' split) <;> simp [↓within_next, ↓raise_view, ↓setDriven_view, ↓mapMotor_view, hP]

theorem execMotorStall_within (hP : List.all [.status, .log, .motor] P) : Within P s (execMotorStall s) := by
  simp at hP
  dsimp only [execMotorStall]
  (repeat' split) <;> simp [↓within_next, ↓raise_view, ↓setDriven_view, ↓mapMotor_view, hP]

theorem execStallHoldExpiry_within (hP : List.all [.motor] P) : Within P s (execStallHoldExpiry s) := by
  simp at hP
  dsimp only [execStallHoldExpiry]
  (repeat' split) <;> simp [↓within_next, ↓setDriven_view, ↓mapMotor_view, hP]

theorem execPlantDieTemperature_within (t deg) (hP : List.all [.status, .log, .plant, .spk, .motor] P) :
    Within P s (execPlantDieTemperature t deg s) := by
  simp at hP
  dsimp only [execPlantDieTemperature]
  simp [↓within_next, ↓within_ite, ↓view_update, ↓raise_view, ↓setDriven_view, ↓clearAll_view, ringPlaces, ↓view_ite,
      hP]

theorem execCoreDieOvertemp_within (t deg) (hP : List.all [.status, .log, .plant] P) :
    Within P s (execCoreDieOvertemp t deg s) := by
  simp at hP
  dsimp only [execCoreDieOvertemp]
  simp [↓within_next, ↓within_ite, ↓view_update, ↓raise_view, ↓clearAll_view, ringPlaces, hP]

theorem setPort_view (i f) (hP : List.all [.ports] P) : view P (setPort i f s) = view P s := by
  simp at hP
  dsimp only [setPort]
  simp [↓view_update, ringPlaces, hP]

theorem diagnose_view (i r) (hP : List.all [.status, .log, .ports] P) : view P (diagnose i r s) = view P s := by
  simp at hP
  dsimp only [diagnose]
  (repeat' split) <;> simp [↓setPort_view, ↓raise_view, ↓refreshLeds_view, hP]

theorem execCableDiagnostic_within (a b) (hP : List.all [.status, .log, .ports] P) :
    Within P s (execCableDiagnostic a b s) := by
  simp at hP
  dsimp only [execCableDiagnostic]
  (repeat' split) <;> simp [↓within_next, ↓diagnose_view, hP]

theorem execLinkModeAlternate_within (i page) (hP : List.all [.ports] P) :
    Within P s (execLinkModeAlternate i page s) := by
  simp at hP
  dsimp only [execLinkModeAlternate]
  (repeat' split) <;> simp [↓within_next, ↓setPort_view, hP]

theorem execPhyLinkChange_within (t i up page) (hP : List.all [.ports] P) :
    Within P s (execPhyLinkChange t i up page s) := by
  simp at hP
  dsimp only [execPhyLinkChange]
  simp [↓within_next, ↓within_ite, ↓setPort_view, hP]

theorem execLinkDeclare_within (i) (hP : List.all [.status, .log, .ports, .gptp] P) :
    Within P s (execLinkDeclare i s) := by
  simp at hP
  dsimp only [execLinkDeclare]
  simp [↓within_next, ↓within_ite, ↓view_update, ↓setPort_view, ↓clear_view, ↓raise_view, ringPlaces, ↓view_ite, hP]

theorem execLinkUpDeadline_within (i) (hP : List.all [.status, .log] P) : Within P s (execLinkUpDeadline i s) := by
  simp at hP
  dsimp only [execLinkUpDeadline]
  (repeat' split) <;> simp [↓within_next, ↓raise_view, hP]

theorem execLinkChangeQuiet_within (i) (hP : List.all [.status, .ports] P) : Within P s (execLinkChangeQuiet i s) := by
  simp at hP
  dsimp only [execLinkChangeQuiet]
  (repeat' split) <;> simp [↓within_next, ↓clear_view, ↓setPort_view, hP]

theorem execPodlClassification_within (t) (hP : List.all [.podl] P) : Within P s (execPodlClassification t s) := by
  simp at hP
  dsimp only [execPodlClassification]
  simp [↓within_next, ↓view_update, ringPlaces, ↓view_ite, hP]

theorem execPodlPowerApplied_within (t volts24 pairMv) (hP : List.all [.status, .podl, .plant] P) :
    Within P s (execPodlPowerApplied t volts24 pairMv s) := by
  simp at hP
  dsimp only [execPodlPowerApplied]
  simp [↓within_next, ↓within_ite, ↓view_update, ↓clearAll_view, ringPlaces, hP]

theorem execPodlPowerTimeout_within (hP : List.all [.status, .log, .podl] P) : Within P s (execPodlPowerTimeout s) := by
  simp at hP
  dsimp only [execPodlPowerTimeout]
  (repeat' split) <;> simp [↓within_next, ↓view_update, ↓raise_view, ringPlaces, hP]

theorem checkShared_view (f) (hP : List.all [.status, .log] P) : view P (checkShared f s) = view P s := by
  simp at hP
  dsimp only [checkShared]
  (repeat' split) <;> simp [↓view_update, ↓raise_view, ringPlaces, hP]

theorem seePair_view (f) (hP : List.all [.red] P) : view P (seePair f s) = view P s := by
  simp at hP
  dsimp only [seePair]
  (repeat' split) <;> simp [↓view_update, ringPlaces, hP]

theorem forwardFrame_view (i f) (hP : List.all [.ports, .switch] P) : view P (forwardFrame i f s) = view P s := by
  simp at hP
  dsimp only [forwardFrame]
  (repeat' split) <;> simp [↓view_update, ↓forwardTo_view, ringPlaces, hP]

theorem switchIn_view (i f) (hP : List.all [.status, .log, .ports, .switch, .red] P) :
    view P (switchIn i f s) = view P s := by
  simp at hP
  dsimp only [switchIn]
  (repeat' split) <;> simp [↓view_update, ↓seePair_view, ↓checkShared_view, ↓forwardFrame_view, ringPlaces, hP]

theorem execFrameIngress_within (t i f) (hP : List.all [.status, .log, .ports, .switch, .red, .cross] P) :
    Within P s (execFrameIngress t i f s) := by
  simp at hP
  dsimp only [execFrameIngress]
  simp [↓within_next, ↓within_ite, ↓setPort_view, ↓crossIn_view, ↓switchIn_view, hP]

theorem execFlowIdleExpiry_within (src dst) (hP : List.all [.switch] P) :
    Within P s (execFlowIdleExpiry src dst s) := by
  simp at hP
  dsimp only [execFlowIdleExpiry]
  (repeat' split) <;> simp [↓within_next, ↓view_update, ringPlaces, hP]

theorem execPartnerAsleep_within (t i) (hP : List.all [.ports] P) : Within P s (execPartnerAsleep t i s) := by
  simp at hP
  dsimp only [execPartnerAsleep]
  simp [↓within_next, ↓setPort_view, hP]

theorem execLeaderAbsentTimeout_within (n) (hP : List.all [.status, .log] P) :
    Within P s (execLeaderAbsentTimeout n s) := by
  simp at hP
  dsimp only [execLeaderAbsentTimeout]
  (repeat' split) <;> simp [↓within_next, ↓leaderAbsent_view, ↓raise_view, hP]

theorem execSharedNodeAddressQuiet_within (hP : List.all [.status] P) : Within P s (execSharedNodeAddressQuiet s) := by
  simp at hP
  dsimp only [execSharedNodeAddressQuiet]
  (repeat' split) <;> simp [↓within_next, ↓view_update, ↓clearAll_view, ringPlaces, hP]

theorem takeHeartbeat_view (addressed b) (hP : List.all [.status, .log, .sleep] P) :
    view P (takeHeartbeat addressed b s) = view P s := by
  simp at hP
  dsimp only [takeHeartbeat]
  simp [↓view_update, ↓hearLeader_view, ↓endSearch_view, ↓breakSlumber_view, ringPlaces, ↓view_ite, hP]

theorem execFumaroleFrameReceive_within (t f) (hP : List.all [.status, .log, .keys, .sleep, .cross] P) :
    Within P s (execFumaroleFrameReceive t f s) := by
  simp at hP
  dsimp only [execFumaroleFrameReceive]
  split
  · simp
  · rw [within_next, endpointIn_verified_view _ _ (by simp [hP])]
    · simp
    · intro s
      split <;> simp [↓view_ite, ↓takeHeartbeat_view, hP]

theorem execSlumberConditionsHeld_within (since) (hP : List.all [.ports, .streams, .red, .keys, .sleep] P) :
    Within P s (execSlumberConditionsHeld since s) := by
  simp at hP
  dsimp only [execSlumberConditionsHeld]
  simp [↓within_next, ↓within_ite, ↓view_update, ↓ask_view, ringPlaces, hP]

theorem execSlumberPowerDown_within (t) (hP : List.all [.freeCtr, .start, .status, .ports, .gptp, .streams, .keys,
    .loft, .sleep] P) :
    Within P s (execSlumberPowerDown t s) := by
  simp at hP
  dsimp only [execSlumberPowerDown]
  simp [↓within_next, ↓within_ite, ↓view_update, ↓pump_view, ↓drawFree_view, ringPlaces, hP]

theorem execBeaconWindowOpen_within (hP : List.all [.sleep] P) : Within P s (execBeaconWindowOpen s) := by
  simp at hP
  dsimp only [execBeaconWindowOpen]
  simp [↓within_next, ↓within_ite, ↓view_update, ringPlaces, hP]

theorem wakeWells_view (hP : List.all [.well] P) : view P (wakeWells s) = view P s := by
  simp at hP
  dsimp only [wakeWells]
  (repeat' split) <;> simp [↓view_update, ↓seedDco_view, ringPlaces, hP]

theorem wakeNow_view (hP : List.all [.start, .status, .well, .gptp, .blocks, .memory, .sleep] P) :
    view P (wakeNow s) = view P s := by
  simp at hP
  dsimp only [wakeNow]
  simp [↓view_update, ↓refreshLeds_view, ↓wakeWells_view, ringPlaces, ↓view_ite, hP]

theorem execBeaconReceive_within (t from_ stamp stayAwake) (hP : List.all [.start, .status, .well, .gptp, .blocks,
    .memory, .sleep] P) :
    Within P s (execBeaconReceive t from_ stamp stayAwake s) := by
  simp at hP
  dsimp only [execBeaconReceive]
  (repeat' split) <;> simp [↓within_next, ↓view_update, ↓wakeNow_view, ringPlaces, hP]

theorem searchFails_view (hP : List.all [.start, .status, .well, .history, .ports, .gptp, .streams, .red, .keys,
    .blocks, .memory, .sleep] P) :
    view P (searchFails s) = view P s := by
  simp at hP
  dsimp only [searchFails]
  (repeat' split) <;> simp [↓view_update, ↓wakeNow_view, ↓startSelect_view, ↓ask_view, ringPlaces, hP]

theorem execBeaconWindowClose_within (hP : List.all [.start, .status, .well, .history, .ports, .gptp, .streams, .red,
    .keys, .blocks, .memory, .sleep] P) :
    Within P s (execBeaconWindowClose s) := by
  simp at hP
  dsimp only [execBeaconWindowClose]
  (repeat' split) <;> simp [↓within_next, ↓view_update, ↓searchFails_view, ringPlaces, hP]

theorem execBeaconSearchFailed_within (hP : List.all [.start, .status, .well, .history, .ports, .gptp, .streams, .red,
    .keys, .blocks, .memory, .sleep] P) :
    Within P s (execBeaconSearchFailed s) := by
  simp at hP
  dsimp only [execBeaconSearchFailed]
  (repeat' split) <;> simp [↓within_next, ↓searchFails_view, hP]

theorem execPartnerWakeAnswerTimeout_within (hP : List.all [.red] P) : Within P s (execPartnerWakeAnswerTimeout s) := by
  simp at hP
  dsimp only [execPartnerWakeAnswerTimeout]
  (repeat' split) <;> simp [↓within_next, ↓view_update, ringPlaces, hP]

theorem execWakeEvent_within (t cause) (hP : List.all [.start, .status, .well, .gptp, .blocks, .memory, .sleep, .lands]
    P) :
    Within P s (execWakeEvent t cause s) := by
  simp at hP
  dsimp only [execWakeEvent]
  (repeat' split) <;> simp [↓within_next, ↓view_update, ↓wakeNow_view, ringPlaces, hP]

theorem execWakeRequest_within (t x) (hP : List.all [.start, .status, .log, .well, .ports, .gptp, .streams, .red, .keys,
    .blocks, .thr, .memory, .sleep, .cross] P) :
    Within P s (execWakeRequest t x s) := by
  simp at hP
  dsimp only [execWakeRequest]
  simp [↓within_next, ↓wakeNow_view, ↓sendPartner_view, ↓tiePut_view, ↓receivePair_view, ↓view_ite, hP]

end Sys2Proof.Machine
end

/-! # Frame rules: power, start, status, streams

The remaining commands: power, start, status, streams, Thresher, USB and Wellspring. -/

section
namespace Sys2Proof.Machine

open Sys2Proof

variable {P : Part → Bool} (s : State)

theorem withPlant_view (f) (hP : List.all [.plant] P) : view P (withPlant f s) = view P s := by
  simp at hP
  dsimp only [withPlant]
  simp [↓view_update, ringPlaces, hP]

theorem execVinValid_within (t vinMv) (hP : List.all [.start, .status, .log, .well, .podl, .gptp, .blocks, .memory,
    .plant, .sleep] P) :
    Within P s (execVinValid t vinMv s) := by
  simp at hP
  dsimp only [execVinValid]
  simp [↓within_next, ↓withPlant_view, ↓clearAll_view, ↓chargerUpdate_view, ↓podlYield_view, ↓wakeNow_view, ↓view_ite,
      hP]

theorem execVinLost_within (t vinMv meanMv) (hP : List.all [.status, .log, .plant] P) :
    Within P s (execVinLost t vinMv meanMv s) := by
  simp at hP
  dsimp only [execVinLost]
  simp [↓within_next, ↓within_ite, ↓withPlant_view, ↓setSwitch_view, ↓chargerUpdate_view, hP]

theorem execVinRangeTimeout_within (t vinMv) (hP : List.all [.status, .log, .plant] P) :
    Within P s (execVinRangeTimeout t vinMv s) := by
  simp at hP
  dsimp only [execVinRangeTimeout]
  simp [↓within_next, ↓within_ite, ↓withPlant_view, ↓raise_view, hP]

theorem execInputBudgetLoop_within (t vinMv vinMa vsysMv) (hP : List.all [.freeCtr, .status, .log, .plant] P) :
    Within P s (execInputBudgetLoop t vinMv vinMa vsysMv s) := by
  simp at hP
  dsimp only [execInputBudgetLoop]
  simp [↓within_next, ↓within_ite, ↓withPlant_view, ↓drawFree_view, ↓chargerUpdate_view, ↓view_ite, hP]

theorem execBatteryAbsentTimeout_within (hP : List.all [.status, .log] P) :
    Within P s (execBatteryAbsentTimeout s) := by
  simp at hP
  dsimp only [execBatteryAbsentTimeout]
  (repeat' split) <;> simp [↓within_next, ↓raise_view, hP]

theorem execRequestedLimits_within (t) (hP : List.all [.plant] P) : Within P s (execRequestedLimits t s) := by
  simp at hP
  dsimp only [execRequestedLimits]
  simp [↓within_next, ↓within_ite, ↓applyLimits_view, ↓withPlant_view, hP]

theorem execFixedThresholdEntry_within (hP : List.all [.status, .log, .plant] P) :
    Within P s (execFixedThresholdEntry s) := by
  simp at hP
  dsimp only [execFixedThresholdEntry]
  (repeat' split) <;> simp [↓within_next, ↓chargerUpdate_view, ↓withPlant_view, hP]

theorem execFixedThresholdExit_within (hP : List.all [.status, .log, .plant] P) :
    Within P s (execFixedThresholdExit s) := by
  simp at hP
  dsimp only [execFixedThresholdExit]
  (repeat' split) <;> simp [↓within_next, ↓chargerUpdate_view, ↓withPlant_view, hP]

theorem execChargeCompleteTimer_within (hP : List.all [.plant] P) : Within P s (execChargeCompleteTimer s) := by
  simp at hP
  dsimp only [execChargeCompleteTimer]
  (repeat' split) <;> simp [↓within_next, ↓setSoc_view, ↓withPlant_view, ↓applyLimits_view, hP]

theorem execChargeTimerExpiry_within (hP : List.all [.status, .log, .plant] P) :
    Within P s (execChargeTimerExpiry s) := by
  simp at hP
  dsimp only [execChargeTimerExpiry]
  (repeat' split) <;> simp [↓within_next, ↓chargerUpdate_view, ↓suspendBy_view, ↓raise_view, ↓chargeTick_view, hP]

theorem execPreconditionTimeout_within (hP : List.all [.status, .log, .plant] P) :
    Within P s (execPreconditionTimeout s) := by
  simp at hP
  dsimp only [execPreconditionTimeout]
  (repeat' split) <;> simp [↓within_next, ↓chargerUpdate_view, ↓suspendBy_view, ↓raise_view, hP]

theorem senseFault_view (cause bad) (hP : List.all [.status, .log, .plant] P) :
    view P (senseFault cause bad s) = view P s := by
  simp at hP
  dsimp only [senseFault]
  simp [↓suspendBy_view, ↓raise_view, ↓view_ite, hP]

theorem zoneClear_view (c) (hP : List.all [.status, .plant] P) : view P (zoneClear c s) = view P s := by
  simp at hP
  dsimp only [zoneClear]
  simp [↓clearAll_view, ↓unsuspend_view, ↓view_ite, hP]

theorem zoneUpdate_view (c) (hP : List.all [.status, .log, .plant] P) : view P (zoneUpdate c s) = view P s := by
  simp at hP
  dsimp only [zoneUpdate]
  simp [↓withPlant_view, ↓suspendBy_view, ↓packHeat_view, ↓view_ite, hP]

theorem takeReading_view (c x) (hP : List.all [.status, .log, .plant] P) : view P (takeReading c x s) = view P s := by
  simp at hP
  dsimp only [takeReading]
  simp [↓withPlant_view, ↓senseFault_view, hP]

theorem execBatteryThermalUpdate_within (t x) (hP : List.all [.status, .log, .plant] P) :
    Within P s (execBatteryThermalUpdate t x s) := by
  simp at hP
  dsimp only [execBatteryThermalUpdate]
  (repeat' split) <;> simp [↓within_next, ↓withPlant_view, ↓takeReading_view, ↓zoneClear_view, ↓zoneUpdate_view,
      ↓unsuspend_view, ↓clear_view, ↓countSoc_view, ↓chargerUpdate_view, hP]

theorem execDischargeCutoff_within (t vbatMv) (hP : List.all [.status, .log, .plant] P) :
    Within P s (execDischargeCutoff t vbatMv s) := by
  simp at hP
  dsimp only [execDischargeCutoff]
  simp [↓within_next, ↓within_ite, ↓withPlant_view, ↓raise_view, ↓packHeat_view, ↓view_ite, hP]

theorem execPackOvervoltage_within (t vbatMv) (hP : List.all [.status, .log, .plant] P) :
    Within P s (execPackOvervoltage t vbatMv s) := by
  simp at hP
  dsimp only [execPackOvervoltage]
  (repeat' split) <;> simp [↓within_next, ↓withPlant_view, ↓chargerUpdate_view, ↓suspendBy_view, ↓raise_view, hP]

theorem execSocRestRecalibrate_within (hP : List.all [.plant] P) : Within P s (execSocRestRecalibrate s) := by
  simp at hP
  dsimp only [execSocRestRecalibrate]
  (repeat' split) <;> simp [↓within_next, ↓setSoc_view, ↓withPlant_view, hP]

theorem execChargerVoltageThreshold_within (t vbatMv) (hP : List.all [.status, .log, .plant] P) :
    Within P s (execChargerVoltageThreshold t vbatMv s) := by
  simp at hP
  dsimp only [execChargerVoltageThreshold]
  simp [↓within_next, ↓withPlant_view, ↓chargerUpdate_view, ↓setSwitch_view, ↓view_ite, hP]

theorem execPackConnected_within (t x) (hP : List.all [.status, .log, .podl, .plant] P) :
    Within P s (execPackConnected t x s) := by
  simp at hP
  dsimp only [execPackConnected]
  (repeat' split) <;> simp [↓within_next, ↓withPlant_view, ↓takeReading_view, ↓clearAll_view, ↓podlYield_view,
      ↓chargerUpdate_view, ↓setSwitch_view, hP]

theorem execResetRelease_within (resetNRise porEnd) (hP : List.all [.reset, .start, .gptp, .blocks, .endur, .lands] P) :
    Within P s (execResetRelease resetNRise porEnd s) := by
  simp at hP
  dsimp only [execResetRelease]
  simp [↓within_next, ↓within_ite, ↓view_update, ↓releaseReset_view, hP]

theorem execPreStartPair_within (t first second) (hP : List.all [.straps] P) :
    Within P s (execPreStartPair t first second s) := by
  simp at hP
  dsimp only [execPreStartPair]
  simp [↓within_next, ↓within_ite, ↓view_update, ringPlaces, hP]

theorem execPreconditionBeforeStart_within (t vbatMv) (hP : List.all [.plant] P) :
    Within P s (execPreconditionBeforeStart t vbatMv s) := by
  simp at hP
  dsimp only [execPreconditionBeforeStart]
  (repeat' split) <;> simp [↓within_next, ↓view_update, ringPlaces, hP]

theorem execStrapReading_within (pins) (hP : List.all [.straps] P) : Within P s (execStrapReading pins s) := by
  simp at hP
  dsimp only [execStrapReading]
  (repeat' split) <;> simp [↓within_next, ↓view_update, ringPlaces, hP]

theorem raiseAll_view {l} (hP : List.all [.status, .log] P) (hcodes : ∀ f ∈ l, StrapFault.code f ≠ 0xF600#16) :
    view P (raiseAll l s) = view P s := by
  induction l generalizing s with
  | nil => rfl
  | cons f l ih =>
    have hcons : raiseAll (f :: l) s = raiseAll l (raise f.code 0 f.detail s) := rfl
    rw [hcons, ih _ fun g hg => hcodes g (.tail _ hg), raise_view s _ _ hP (hcodes f (.head _))]

theorem portsBegin_view (hP : List.all [.ports] P) : view P (portsBegin s) = view P s := by
  simp at hP
  dsimp only [portsBegin]
  simp [↓view_update, ringPlaces, hP]

theorem startFrom_view (t) (hP : List.all [.start, .status, .well, .history, .ports] P) :
    view P (startFrom t s) = view P s := by
  simp at hP
  dsimp only [startFrom]
  simp [↓view_update, ↓wellBegin_view, ↓portsBegin_view, ringPlaces, hP]

theorem safeLinks_view (hP : List.all [.start, .ports, .switch] P) : view P (safeLinks s) = view P s := by
  simp at hP
  dsimp only [safeLinks]
  simp [↓view_update, ↓portsBegin_view, ringPlaces, hP]

theorem latchWay_view (hard warn) (hP : List.all [.start, .status, .log, .well, .history, .ports, .switch, .gptp,
    .streams, .routing, .red, .keys, .bpi, .bpo, .tdm, .mic, .usb, .blocks, .thr, .gran, .clips, .plant, .spk, .motor,
    .sleep] P) (hcodes : ∀ f ∈ hard ++ warn, StrapFault.code f ≠ 0xF600#16) :
    view P (latchWay hard warn s) = view P s := by
  simp at hP
  have hwarn : ∀ f ∈ warn, StrapFault.code f ≠ 0xF600#16 := fun f hf => hcodes f (List.mem_append_right _ hf)
  cases hard with
  | cons f l =>
    dsimp only [latchWay]
    rw [safeAtStart_view _ _ _ (by simp [hP]) fun s => raiseAll_view s (by simp [hP]) hcodes, safeLinks_view _ (by simp
        [hP])]
  | nil =>
    have hraise (s : State) : view P (raiseAll warn s) = view P s := raiseAll_view s (by simp [hP]) hwarn
    dsimp only [latchWay]
    split
    · split
      · simp [↓view_update, hP, hraise]
      · rw [safeAtStart_view _ _ _ (by simp [hP]) fun s => by simp [↓raise_view, hP, hraise], safeLinks_view _ (by simp
          [hP])]
    · simp [↓startFrom_view, hP, hraise]

theorem latchFaults_ne (a b pre p) : ∀ f ∈ latchFaults a b pre p, f.code ≠ 0xF600#16 := fun f hf heq =>
  StrapClass.ne (strapClass_of_mem_latchFaults (List.mem_map_of_mem hf)) (code := 0xF600#16) (by decide) heq

theorem execStrapLatch_within (hP : List.all [.start, .aon, .straps, .status, .log, .well, .history, .ports, .podl,
    .switch, .gptp, .streams, .routing, .red, .keys, .bpi, .bpo, .tdm, .mic, .usb, .blocks, .thr, .gran, .clips, .plant,
    .spk, .motor, .sleep] P) :
    Within P s (execStrapLatch s) := by
  simp at hP
  unfold execStrapLatch
  split
  · next a b _ _ =>
    rw [within_ite]
    split
    · simp
    · extract_lets s₁ level straps₁ start₁ s₂ hard warn s₃ field straps₃ start₃ s₄ et _ s₅ s₆ raised _
      have hcodes : ∀ f ∈ hard ++ warn, f.code ≠ 0xF600#16 := latchFaults_ne a b s₂.straps.pre (preLevel s₂)
      have h₂ : view P s₂ = view P s₁ := by simp [s₂, straps₁, ↓view_update, hP]
      have h₃ : view P s₃ = view P s₁ := by simp [s₃, ↓podlLatch_view, ↓setSwitch_view, hP, h₂]
      clear_value hard warn s₂ s₃ field
      have h₄ : view P s₄ = view P s₁ := by simp [s₄, straps₃, ↓view_update, hP, h₃]
      clear_value s₄
      have h₅ : view P s₅ = view P s₁ := by
        dsimp only [s₅]
        split <;> simp [↓view_update, ringPlaces, ↓logPut_view, hP, h₄]
      clear_value s₅
      have h₆ : view P s₆ = view P s₁ := by simp [s₆, ↓logPut_view, hP, h₅]
      have hway : Reach P s (view P (latchWay hard warn s₆)) := by
        rw [(latchWay_view _ _ _ (by simp [hP]) hcodes).trans h₆]
        exact reach_upTo _ reach_self
      clear_value s₆
      cases hard with
      | cons f l => exact hway
      | nil =>
        dsimp only [latchWay] at hway
        rw [within_ite]
        split at hway
        · next hfailed =>
          rw [if_pos hfailed, within_ite]
          split at hway
          · next hpair => rwa [if_pos hpair, within_next]
          · next hpair => rwa [if_neg hpair, within_next]
        · next hfailed => rwa [if_neg hfailed, within_next]
  · simp

theorem reportStrap_view (a b i) (hP : List.all [.straps, .status, .log] P) :
    view P (reportStrap a b s i) = view P s := by
  simp at hP
  have hcode : BitVec.ofNat 16 (0xF140 + i.val) ≠ 0xF600#16 :=
    StrapClass.ne (strapClass_of_between (by omega) (by omega)) (by decide)
  dsimp only [reportStrap]
  split
  · rw [raise_view _ _ _ (by simp [hP]) hcode]
    simp [↓view_update, hP]
  · rfl

theorem execStrapReread_within (a b) (hP : List.all [.straps, .status, .log] P) :
    Within P s (execStrapReread a b s) := by
  simp at hP
  dsimp only [execStrapReread]
  (repeat' split) <;> simp [↓within_next, ↓view_update, ↓reportStrap_view, ringPlaces, ↓foldl_view, hP]

theorem execPairDebouncedChange_within (t samples) (hP : List.all [.start, .lands] P) :
    Within P s (execPairDebouncedChange t samples s) := by
  simp at hP
  dsimp only [execPairDebouncedChange]
  simp [↓within_next, ↓within_ite, ↓view_update, ringPlaces, hP]

theorem execPairHoldClear_within (hP : List.all [.start, .aon, .status, .log, .well, .history, .ports] P) :
    Within P s (execPairHoldClear s) := by
  simp at hP
  dsimp only [execPairHoldClear]
  simp [↓within_next, ↓within_ite, ↓view_update, ↓raise_view, ↓setCounter_view, ↓startFrom_view, ringPlaces, ↓view_ite,
      hP]

theorem execPairReleaseEarly_within (t) (hP : List.all [.start, .status, .log, .well, .history, .ports, .switch, .gptp,
    .streams, .routing, .red, .keys, .bpi, .bpo, .tdm, .mic, .usb, .blocks, .thr, .gran, .clips, .plant, .spk, .motor,
    .sleep, .lands] P) :
    Within P s (execPairReleaseEarly t s) := by
  simp at hP
  dsimp only [execPairReleaseEarly]
  simp [↓within_next, ↓within_ite, ↓view_update, ↓safeAtStart_view, ↓raise_view, ↓safeLinks_view, ringPlaces, hP]

theorem execFailedStartCounterClear_within (hP : List.all [.start, .aon, .log] P) :
    Within P s (execFailedStartCounterClear s) := by
  simp at hP
  dsimp only [execFailedStartCounterClear]
  (repeat' split) <;> simp [↓within_next, ↓view_update, ↓setCounter_view, ringPlaces, hP]

theorem execDieLinkLoss_within (t) (hP : List.all [.plant, .spk, .motor] P) : Within P s (execDieLinkLoss t s) := by
  simp at hP
  dsimp only [execDieLinkLoss]
  simp [↓within_next, ↓view_update, ringPlaces, hP]

theorem execDieLinkRestored_within (t) (hP : List.all [.status, .log, .plant] P) :
    Within P s (execDieLinkRestored t s) := by
  simp at hP
  dsimp only [execDieLinkRestored]
  (repeat' split) <;> simp [↓within_next, ↓view_update, ↓raise_view, ringPlaces, hP]

theorem execClockMonitorLoss_within (t domains) (hP : List.all [.aon, .log] P) :
    Within P s (execClockMonitorLoss t domains s) := by
  simp at hP
  dsimp only [execClockMonitorLoss]
  simp [↓within_next, ↓within_ite, ↓view_update, ↓countFailed_view, ringPlaces, ↓view_ite, hP]

theorem execFaultFoldExpiry_within (code) (hP : List.all [.status] P) : Within P s (execFaultFoldExpiry code s) := by
  simp at hP
  dsimp only [execFaultFoldExpiry]
  (repeat' split) <;> simp [↓within_next, ↓view_update, ↓genFrame_view, ringPlaces, hP]

theorem beaconFrame_view (instant) (hP : List.all [.status, .ports, .streams, .keys, .sleep] P) :
    view P (beaconFrame instant s) = view P s := by
  simp at hP
  dsimp only [beaconFrame]
  (repeat' split) <;> simp [↓view_update, ↓pumpFrames_view, ringPlaces, hP]

theorem execHeartbeatSend_within (hP : List.all [.status, .ports, .streams, .keys, .sleep] P) :
    Within P s (execHeartbeatSend s) := by
  simp at hP
  dsimp only [execHeartbeatSend]
  simp [↓within_next, ↓within_ite, ↓view_update, ↓beaconFrame_view, ↓pump_view, ↓heartbeat_view, ringPlaces, hP]

theorem execTelemetrySend_within (hP : List.all [.status, .ports, .streams, .keys, .thr, .spk, .motor] P) :
    Within P s (execTelemetrySend s) := by
  simp at hP
  dsimp only [execTelemetrySend]
  (repeat' split) <;> simp [↓within_next, ↓view_update, ↓pump_view, ↓telemetry_view, ringPlaces, hP]

theorem execReplaySend_within (t) (hP : List.all [.status] P) : Within P s (execReplaySend t s) := by
  simp at hP
  dsimp only [execReplaySend]
  simp [↓within_next, ↓within_ite, ↓view_update, ↓genFrame_view, ringPlaces, ↓foldl_view, hP]

theorem execFumaroleQueueRoom_within (t path) (hP : List.all [.status, .ports, .streams, .keys] P) :
    Within P s (execFumaroleQueueRoom t path s) := by
  simp at hP
  dsimp only [execFumaroleQueueRoom]
  (repeat' split) <;> simp [↓within_next, ↓view_update, ↓pump_view, ringPlaces, hP]

theorem execAshLogEntryWrite_within (t failed) (hP : List.all [.freeCtr, .status, .log, .flash] P) :
    Within P s (execAshLogEntryWrite t failed s) := by
  simp at hP
  dsimp only [execAshLogEntryWrite]
  (repeat' split) <;> simp [↓within_next, ↓view_update, ↓ringProgram_view, ↓clearAll_view, ↓raise_view, hP]

theorem execAshLogFoldExpiry_within (code) (hP : List.all [.log] P) : Within P s (execAshLogFoldExpiry code s) := by
  simp at hP
  dsimp only [execAshLogFoldExpiry]
  (repeat' split) <;> simp [↓within_next, ↓view_update, ↓logPut_view, ringPlaces, hP]

theorem execAshLogHourResume_within (hP : List.all [.status, .log] P) : Within P s (execAshLogHourResume s) := by
  simp at hP
  dsimp only [execAshLogHourResume]
  (repeat' split) <;> simp [↓within_next, ↓view_update, ↓raise_view, ringPlaces, hP]

theorem execAafFrameSend_within (k) (hP : List.all [.status, .log, .ports, .streams, .keys, .tdm, .usb, .blocks] P) :
    Within P s (execAafFrameSend k s) := by
  simp at hP
  dsimp only [execAafFrameSend]
  simp [↓within_next, ↓within_ite, ↓sendAaf_view, ↓mediaNow_view, hP]

theorem execCrfFrameSend_within (hP : List.all [.ports, .streams, .keys] P) : Within P s (execCrfFrameSend s) := by
  simp at hP
  dsimp only [execCrfFrameSend]
  simp [↓within_next, ↓within_ite, ↓sendCrf_view, hP]

theorem yieldIfDue_view (f) (hP : List.all [.blocks] P) : view P (yieldIfDue f s) = view P s := by
  simp at hP
  dsimp only [yieldIfDue]
  (repeat' split) <;> simp [↓makeDue_view, hP]

theorem judgeAaf_view (i kind a) (hP : List.all [.status, .log, .streams] P) :
    view P (judgeAaf i kind a s) = view P s := by
  simp at hP
  dsimp only [judgeAaf]
  (repeat' split) <;> simp [↓view_update, ↓raise_view, ↓clear_view, ringPlaces, hP]

theorem notePassed_view (i a) (hP : List.all [.streams] P) : view P (notePassed i a s) = view P s := by
  simp at hP
  dsimp only [notePassed]
  (repeat' split) <;> simp [↓view_update, ringPlaces, hP]

theorem takeAaf_view (kind nn tag a) (hP : List.all [.status, .log, .streams, .blocks] P) :
    view P (takeAaf kind nn tag a s) = view P s := by
  simp at hP
  dsimp only [takeAaf]
  (repeat' split) <;> simp [↓view_update, ↓withRx_view, ↓presentNow_view, ↓notePassed_view, ↓countDiscard_view,
      ↓countLost_view, ↓judgeAaf_view, ringPlaces, hP]

theorem execAafFrameReceive_within (t f) (hP : List.all [.status, .log, .streams, .keys, .blocks, .cross] P) :
    Within P s (execAafFrameReceive t f s) := by
  simp at hP
  dsimp only [execAafFrameReceive]
  split
  · simp only [within_ite, within_next]
    rw [endpointIn_verified_view _ _ (by simp [hP])]
    · simp
    · intro s
      simp [↓view_ite, ↓takeAaf_view, ↓yieldIfDue_view, ↓hearLeader_view, hP]
  · simp

theorem keepCrf_view (q c) (hP : List.all [.status, .well, .red] P) : view P (keepCrf q c s) = view P s := by
  simp at hP
  dsimp only [keepCrf]
  simp [↓view_update, ↓clearAll_view, ringPlaces, ↓view_ite, hP]

theorem takeCrf_view (nn tag c) (hP : List.all [.status, .log, .well, .streams, .red] P) :
    view P (takeCrf nn tag c s) = view P s := by
  simp at hP
  dsimp only [takeCrf]
  (repeat' split) <;> simp [↓view_update, ↓countDiscard_view, ↓withRx_view, ↓countLost_view, ↓keepCrf_view, ringPlaces,
      hP]

theorem execCrfFrameReceive_within (t f) (hP : List.all [.status, .log, .well, .streams, .red, .keys, .blocks, .cross]
    P) :
    Within P s (execCrfFrameReceive t f s) := by
  simp at hP
  dsimp only [execCrfFrameReceive]
  split
  · simp only [within_ite, within_next]
    rw [endpointIn_verified_view _ _ (by simp [hP])]
    · simp
    · intro s
      simp [↓view_ite, ↓takeCrf_view, ↓yieldIfDue_view, ↓hearLeader_view, hP]
  · simp

theorem execStreamSourceTimeout_within (kind n) (hP : List.all [.streams] P) :
    Within P s (execStreamSourceTimeout kind n s) := by
  simp at hP
  dsimp only [execStreamSourceTimeout]
  (repeat' split) <;> simp [↓within_next, ↓view_update, ringPlaces, hP]

theorem execRecoveryResetTimeout_within (kind n) (hP : List.all [.streams, .blocks] P) :
    Within P s (execRecoveryResetTimeout kind n s) := by
  simp at hP
  dsimp only [execRecoveryResetTimeout]
  (repeat' split) <;> simp [↓within_next, ↓view_update, ↓stopPairs_view, ringPlaces, hP]

theorem execAdmissionEvaluation_within (hP : List.all [.status, .log, .streams] P) :
    Within P s (execAdmissionEvaluation s) := by
  simp at hP
  dsimp only [execAdmissionEvaluation]
  (repeat' split) <;> simp [↓within_next, ↓view_update, ↓clearAll_view, ↓raise_view, ringPlaces, hP]

theorem execPlayoutDeadline_within (t kind n) (hP : List.all [.status, .log, .streams, .blocks] P) :
    Within P s (execPlayoutDeadline t kind n s) := by
  simp at hP
  dsimp only [execPlayoutDeadline]
  (repeat' split) <;> simp [↓within_next, ↓presentStream_view, hP]

theorem execJobComplete_within (t ctx rerun) (hP : List.all [.freeCtr, .status, .log, .thr, .psram, .memory, .spk,
    .motor] P) :
    Within P s (execJobComplete t ctx rerun s) := by
  simp at hP
  dsimp only [execJobComplete]
  (repeat' split) <;> simp [↓within_next, ↓finishJob_view, hP]

theorem execJobDeadlineExpiry_within (hP : List.all [.status, .log, .thr] P) :
    Within P s (execJobDeadlineExpiry s) := by
  simp at hP
  dsimp only [execJobDeadlineExpiry]
  simp [↓within_next, ↓within_ite, ↓endWindow_view, hP]

theorem execStateCommit_within (t ctx) (hP : List.all [.thr, .psram, .memory] P) :
    Within P s (execStateCommit t ctx s) := by
  simp at hP
  dsimp only [execStateCommit]
  (repeat' split) <;> simp [↓within_next, ↓writeEntry_view, ↓mapCtx_view, ↓sendBank_view, hP]

theorem execStatePrefetch_within (t ctx) (hP : List.all [.thr] P) : Within P s (execStatePrefetch t ctx s) := by
  simp at hP
  dsimp only [execStatePrefetch]
  simp [↓within_next, ↓within_ite, ↓mapCtx_view, hP]

theorem execVisibilityInstant_within (hP : List.all [.status, .log, .thr] P) :
    Within P s (execVisibilityInstant s) := by
  simp at hP
  dsimp only [execVisibilityInstant]
  simp [↓within_next, ↓within_ite, ↓showNext_view, hP]

theorem execLaneDriveTimeout_within (hP : List.all [.status, .log, .thr, .motor] P) :
    Within P s (execLaneDriveTimeout s) := by
  simp at hP
  dsimp only [execLaneDriveTimeout]
  (repeat' split) <;> simp [↓within_next, ↓withdrawLane_view, hP]

theorem execSelfCheckPass_within (failing) (hP : List.all [.status, .log, .blocks, .thr] P) :
    Within P s (execSelfCheckPass failing s) := by
  simp at hP
  dsimp only [execSelfCheckPass]
  (repeat' split) <;> simp [↓within_next, ↓view_update, ↓retireInService_view, ringPlaces, ↓view_ite, ↓foldl_view, hP]

theorem execUsbVbusChange_within (t high) (hP : List.all [.status, .log, .tdm, .usb, .blocks] P) :
    Within P s (execUsbVbusChange t high s) := by
  simp at hP
  dsimp only [execUsbVbusChange]
  simp [↓within_next, ↓within_ite, ↓view_update, ↓mediaNow_view, ↓usbAttach_view, ↓raise_view, ringPlaces, ↓view_ite,
      hP]

theorem execUsbBusReset_within (t full dataDone) (hP : List.all [.status, .log, .tdm, .usb, .blocks] P) :
    Within P s (execUsbBusReset t full dataDone s) := by
  simp at hP
  dsimp only [execUsbBusReset]
  (repeat' split) <;> simp [↓within_next, ↓view_update, ↓mediaNow_view, ↓raise_view, ringPlaces, hP]

theorem execStandardDeviceRequest_within (t p) (hP : List.all [.usb] P) :
    Within P s (execStandardDeviceRequest t p s) := by
  simp at hP
  exact usbRequest_reach s t fun s => by simp [↓standardRequest_view, hP]

theorem execSetFeatureRemoteWakeup_within (t) (hP : List.all [.usb] P) :
    Within P s (execSetFeatureRemoteWakeup t s) := by
  simp at hP
  exact usbRequest_reach s t fun s => by simp [↓usbStall_view, hP]

theorem execSetFeatureTestMode_within (t index) (hP : List.all [.usb] P) :
    Within P s (execSetFeatureTestMode t index s) := by
  simp at hP
  exact usbRequest_reach s t fun s => by simp [↓setTestMode_view, hP]

theorem execSetConfiguration_within (t value) (hP : List.all [.usb] P) :
    Within P s (execSetConfiguration t value s) := by
  simp at hP
  exact usbRequest_reach s t fun s => by simp [↓setConfiguration_view, hP]

theorem execSetInterface_within (t itf alt) (hP : List.all [.usb] P) : Within P s (execSetInterface t itf alt s) := by
  simp at hP
  exact usbRequest_reach s t fun s => by simp [↓setInterface_view, hP]

theorem execGetCurFrequency_within (t) (hP : List.all [.usb] P) : Within P s (execGetCurFrequency t s) := by
  simp at hP
  exact usbRequest_reach s t fun s => by simp [↓usbAnswer_view, hP]

theorem execGetRangeFrequency_within (t) (hP : List.all [.usb] P) : Within P s (execGetRangeFrequency t s) := by
  simp at hP
  exact usbRequest_reach s t fun s => by simp [↓usbAnswer_view, hP]

theorem execSetCurFrequency_within (t hz) (hP : List.all [.status, .log, .usb] P) :
    Within P s (execSetCurFrequency t hz s) := by
  simp at hP
  exact usbRequest_reach s t fun s => by simp [↓view_ite, ↓view_update, ↓raise_view, ↓usbStall_view, hP]

theorem execGetCurValidity_within (t) (hP : List.all [.usb] P) : Within P s (execGetCurValidity t s) := by
  simp at hP
  exact usbRequest_reach s t fun s => by simp [↓usbAnswer_view, hP]

theorem execUnsupportedUsbRequest_within (t _p) (hP : List.all [.usb] P) :
    Within P s (execUnsupportedUsbRequest t _p s) := by
  simp at hP
  exact usbRequest_reach s t fun s => by simp [↓usbStall_view, hP]

theorem execControlStatusComplete_within (t) (hP : List.all [.status, .log, .tdm, .usb, .blocks] P) :
    Within P s (execControlStatusComplete t s) := by
  simp at hP
  dsimp only [execControlStatusComplete]
  (repeat' split) <;> simp [↓within_next, ↓view_update, ↓mediaNow_view, ringPlaces, hP]

theorem execUsbSuspend_within (t) (hP : List.all [.status, .log, .tdm, .usb, .blocks] P) :
    Within P s (execUsbSuspend t s) := by
  simp at hP
  dsimp only [execUsbSuspend]
  simp [↓within_next, ↓view_update, ↓mediaNow_view, ringPlaces, ↓view_ite, hP]

theorem execUsbResume_within (t) (hP : List.all [.status, .log, .tdm, .usb, .blocks] P) :
    Within P s (execUsbResume t s) := by
  simp at hP
  dsimp only [execUsbResume]
  simp [↓within_next, ↓view_update, ↓mediaNow_view, ringPlaces, ↓view_ite, hP]

theorem takePacket_view (b) (hP : List.all [.status, .log, .tdm, .usb, .blocks] P) :
    view P (takePacket b s) = view P s := by
  simp at hP
  dsimp only [takePacket]
  simp [↓view_update, ↓mediaNow_view, ↓usbFault_view, ringPlaces, ↓view_ite, hP]

theorem execUsbOutPacket_within (t b) (hP : List.all [.status, .log, .tdm, .usb, .blocks, .cross] P) :
    Within P s (execUsbOutPacket t b s) := by
  simp at hP
  dsimp only [execUsbOutPacket]
  simp [↓within_next, ↓crossIn_view, ↓takePacket_view, ↓view_ite, hP]

theorem execUsbSof_within (t) (hP : List.all [.status, .log, .tdm, .usb, .blocks] P) : Within P s (execUsbSof t s) := by
  simp at hP
  dsimp only [execUsbSof]
  simp [↓within_next, ↓within_ite, ↓view_update, ↓mediaNow_view, ringPlaces, ↓view_ite, hP]

theorem execFeedbackUpdate_within (t) (hP : List.all [.status, .log, .tdm, .usb, .blocks] P) :
    Within P s (execFeedbackUpdate t s) := by
  simp at hP
  dsimp only [execFeedbackUpdate]
  simp [↓within_next, ↓within_ite, ↓view_update, ↓mediaNow_view, ringPlaces, hP]

theorem execStartReferenceDeadline_within (hP : List.all [.status, .log, .well, .history] P) :
    Within P s (execStartReferenceDeadline s) := by
  simp at hP
  dsimp only [execStartReferenceDeadline]
  (repeat' split) <;> simp [↓within_next, ↓deadlineSelect_view, hP]

theorem judgeRef_view (r m) (hP : List.all [.well] P) : view P (judgeRef r m s) = view P s := by
  simp at hP
  dsimp only [judgeRef]
  (repeat' split) <;> simp [↓view_update, ringPlaces, hP]

theorem aimSwitch_view (hP : List.all [.well] P) : view P (aimSwitch s) = view P s := by
  simp at hP
  dsimp only [aimSwitch]
  (repeat' split) <;> simp [↓view_update, ringPlaces, hP]

theorem execQualificationWindowEnd_within (net bpi0 bpi1 wclk) (hP : List.all [.status, .well, .history] P) :
    Within P s (execQualificationWindowEnd net bpi0 bpi1 wclk s) := by
  simp at hP
  dsimp only [execQualificationWindowEnd]
  (repeat' split) <;> simp [↓within_next, ↓view_update, ↓aimSwitch_view, ↓judgeRef_view, ↓startSelect_view, ringPlaces,
      hP]

theorem execReferenceLoss_within (t r crf) (hP : List.all [.status, .log, .well, .history, .endur] P) :
    Within P s (execReferenceLoss t r crf s) := by
  simp at hP
  dsimp only [execReferenceLoss]
  simp [↓within_next, ↓loseRef_view, hP]

theorem execReferenceBarExpiry_within (r) (hP : List.all [.well] P) : Within P s (execReferenceBarExpiry r s) := by
  simp at hP
  dsimp only [execReferenceBarExpiry]
  (repeat' split) <;> simp [↓within_next, ↓view_update, ringPlaces, hP]

theorem execHoldoverLimitExpiry_within (hP : List.all [.well] P) : Within P s (execHoldoverLimitExpiry s) := by
  simp at hP
  dsimp only [execHoldoverLimitExpiry]
  simp [↓within_next, ↓within_ite, ↓view_update, ringPlaces, hP]

theorem execHardwareLoopUpdate_within (t err) (hP : List.all [.status, .log, .well, .history, .blocks, .endur] P) :
    Within P s (execHardwareLoopUpdate t err s) := by
  simp at hP
  dsimp only [execHardwareLoopUpdate]
  (repeat' split) <;> simp [↓within_next, ↓lockNow_view, ↓loopUpdate_view, hP]

theorem execBandwidthStep_within (hP : List.all [.well] P) : Within P s (execBandwidthStep s) := by
  simp at hP
  dsimp only [execBandwidthStep]
  (repeat' split) <;> simp [↓within_next, ↓view_update, ringPlaces, hP]

theorem execSwitchFrequencyStageEnd_within (t err) (hP : List.all [.well] P) :
    Within P s (execSwitchFrequencyStageEnd t err s) := by
  simp at hP
  dsimp only [execSwitchFrequencyStageEnd]
  (repeat' split) <;> simp [↓within_next, ↓view_update, ringPlaces, hP]

theorem execSwitchPhaseStageEnd_within (t) (hP : List.all [.well] P) : Within P s (execSwitchPhaseStageEnd t s) := by
  simp at hP
  dsimp only [execSwitchPhaseStageEnd]
  simp [↓within_next, ↓within_ite, ↓view_update, ringPlaces, hP]

theorem execHistoryWindowComplete_within (hP : List.all [.well, .history, .endur] P) :
    Within P s (execHistoryWindowComplete s) := by
  simp at hP
  dsimp only [execHistoryWindowComplete]
  (repeat' split) <;> simp [↓within_next, ↓view_update, ringPlaces, hP]

end Sys2Proof.Machine
end

/-! # What a reset leaves

The commands that may reset the device: either they do, and what a reset keeps is kept, or they change their own parts alone. -/

section
namespace Sys2Proof.Machine

open Sys2Proof

variable {P : Part → Bool} {s t u : State}

/-- The parts a reset may change, with what its command did before. -/
def resetParts (p : Part) : Bool :=
  !(p == .history || p == .slots || p == .flash || p == .psram || p == .loft || p == .sram)

/-- What a reset leaves: time, the queue and the EUI-48 as every command does, the frequency history, the key slots and the bytes of
the memories; a retired column stays retired, and a remapped row stays remapped. -/
structure Retained (s u : State) : Prop where
  evolves : Evolves resetParts s u
  retired : ∀ k ∈ s.thr.retired, k ∈ u.thr.retired
  map : ∀ e ∈ s.endur.map, e ∈ u.endur.map

theorem Retained.upTo (t : Nat) (s : State) : Retained s (s.upTo t) where
  evolves := .advance _ s
  retired := by simp
  map := by simp

theorem Retained.of_view (h : Retained s t) (hv : view resetParts u = view resetParts t) (hr : ∀ k ∈ t.thr.retired, k ∈ u.thr.retired)
    (hm : ∀ e ∈ t.endur.map, e ∈ u.endur.map) : Retained s u where
  evolves := .of_view hv h.evolves
  retired := fun k hk => hr k (h.retired k hk)
  map := fun e he => hm e (h.map e he)

theorem Retained.raise (h : Retained s t) {code : BitVec 16} (hcode : code ≠ 0xF600#16) (unit detail) :
    Retained s (Machine.raise code unit detail t) :=
  h.of_view (raise_view t unit detail (by decide) hcode) (by simp) (by simp)

theorem Retained.countFailed (h : Retained s t) (code) : Retained s (Machine.countFailed code t) :=
  h.of_view (countFailed_view t code (by decide)) (by simp) (by simp)

theorem Retained.resetDevice (h : Retained s t) (cause keepLog) : Retained s (Machine.resetDevice cause keepLog t) :=
  h.of_view (resetDevice_view t cause keepLog (by decide)) (fun _ => id) fun _ => id

/-- The device is held in reset: no flow is known and no ring has been scanned, and what a reset leaves is left. -/
structure Held (s u : State) : Prop where
  phase : u.start.phase = .held
  flows : u.switch.flows = []
  rings : ringPlaces u.log u.sec u.gran = (0, 0, 0, 0)
  retained : Retained s u

theorem Retained.held (h : Retained s t) (cause keepLog) : Held s (Machine.resetDevice cause keepLog t) :=
  ⟨rfl, rfl, rfl, h.resetDevice cause keepLog⟩

theorem Retained.watchdogReset (h : Retained s t) {code : BitVec 16} (hcode : code ≠ 0xF600#16) (cause detail) :
    Held s (Machine.watchdogReset cause code detail t) := by
  unfold Machine.watchdogReset
  dsimp only
  split
  · exact ((h.raise hcode 0 detail).countFailed code).held _ _
  · exact (h.raise hcode 0 detail).held _ _

theorem Retained.failStep (h : Retained s t) {code : BitVec 16} (hcode : code ≠ 0xF600#16) (unit detail) :
    Held s (Machine.failStep code unit detail t) :=
  (((h.raise hcode unit detail).raise (by decide) _ _).countFailed _).held _ _

/-- A command answers a next state: the device is held in reset, or only the parts in `P` have changed. -/
def MayReset (P : Part → Bool) (s : State) (r : Result) : Prop := Answers r fun u => Held s u ∨ Reach P s (view P u)

theorem mayReset_quiet (h : Reach P s (view P u)) : MayReset P s (.next u) := .inr h

theorem mayReset_held (h : Held s u) : MayReset P s (.next u) := .inl h

variable (s)

/-- The parts a power-on reset may change where the always-on domain lost its power. -/
def powerOnParts (p : Part) : Bool := !(p == .slots || p == .flash || p == .psram || p == .loft || p == .sram)

/-- What a power-on reset leaves at least. -/
structure PoweredOn (s u : State) : Prop where
  phase : u.start.phase = .held
  flows : u.switch.flows = []
  rings : ringPlaces u.log u.sec u.gran = (0, 0, 0, 0)
  history : u.history.length ≤ s.history.length
  evolves : Evolves powerOnParts s u

theorem execPowerOnReset_held (t aoLost tcxoIn) : Answers (execPowerOnReset t aoLost tcxoIn s) fun u =>
    PoweredOn s u ∧ (aoLost = false → Retained s u) := by
  have hr := (Retained.upTo t s).resetDevice .powerOn false
  have hall (u : State) : view powerOnParts u = view powerOnParts (s.upTo t) → Evolves powerOnParts s u :=
    fun hv => .of_view hv (.advance _ s)
  unfold execPowerOnReset
  cases aoLost with
  | true => exact ⟨⟨rfl, rfl, rfl, Nat.zero_le _, hall _ rfl⟩, nofun⟩
  | false =>
    dsimp only
    rw [if_neg nofun]
    split
    · exact ⟨⟨rfl, rfl, rfl, le_rfl, hall _ rfl⟩, fun _ => hr.of_view rfl (fun _ => id) fun _ => id⟩
    · exact ⟨⟨rfl, rfl, rfl, le_rfl, hall _ rfl⟩, fun _ => hr.of_view rfl (fun _ => id) fun _ => id⟩

theorem resetLow_held (h : Retained s t) : Held s (resetLow t) :=
  ⟨rfl, rfl, rfl, (h.resetDevice .resetN false).of_view rfl (fun _ => id) fun _ => id⟩

theorem execResetNAssert_mayReset (t lowNs) (hP : List.all [.freeCtr] P) : MayReset P s (execResetNAssert t lowNs s) := by
  simp at hP
  have hr := Retained.upTo t s
  dsimp only [execResetNAssert]
  split
  · exact mayReset_held (resetLow_held s hr)
  · split
    · exact mayReset_quiet (by simp)
    · have hv : ∀ Q : Part → Bool, Q .freeCtr = true → view Q (drawFree (s.upTo t)).2 = view Q (s.upTo t) := fun Q hQ =>
        drawFree_view _ (by simp [hQ])
      split
      · exact mayReset_held (resetLow_held s (hr.of_view (hv _ rfl) (fun _ => id) fun _ => id))
      · exact mayReset_quiet (by simp [hv _ hP])

theorem execSupplySupervisorReset_mayReset (t) : MayReset P s (execSupplySupervisorReset t s) :=
  mayReset_held ((Retained.upTo t s).held _ _)

theorem execWatchdogExpiry_mayReset (t) : MayReset P s (execWatchdogExpiry t s) := by
  dsimp only [execWatchdogExpiry]
  split
  · exact mayReset_quiet (by simp)
  · refine mayReset_held ((Retained.upTo t s).watchdogReset ?_ _ _)
    split
    · decide
    · split <;> decide

theorem execStartDeadline_mayReset : MayReset P s (execStartDeadline s) := by
  unfold execStartDeadline
  split
  · exact mayReset_held ((((Retained.upTo _ s).raise (by decide) 0 []).countFailed _).held _ _)
  · exact mayReset_quiet (by simp)

theorem execDieLinkRestoreTimeout_mayReset : MayReset P s (execDieLinkRestoreTimeout s) := by
  unfold execDieLinkRestoreTimeout
  split
  · dsimp only
    split
    · exact mayReset_held ((Retained.upTo _ s).watchdogReset (by decide) _ _)
    · exact mayReset_quiet (by simp)
  · exact mayReset_quiet (by simp)

theorem execClockLossReset_mayReset (t) : MayReset P s (execClockLossReset t s) := by
  unfold execClockLossReset
  dsimp only
  split
  · exact mayReset_held (Retained.held (by exact (Retained.upTo t s).of_view rfl (fun _ => id) fun _ => id) _ _)
  · exact mayReset_quiet (by simp)

theorem execSiloTransactionTimeout_mayReset (t addr) (hP : List.all [.memory] P) :
    MayReset P s (execSiloTransactionTimeout t addr s) := by
  simp at hP
  unfold execSiloTransactionTimeout
  dsimp only
  split
  · exact mayReset_quiet (by simp)
  · split
    · exact mayReset_quiet (by simp [↓view_update, hP])
    · exact mayReset_held ((Retained.upTo t s).watchdogReset (by decide) _ _)

theorem execBatterySwitchOpen_mayReset (hP : List.all [.plant] P) : MayReset P s (execBatterySwitchOpen s) := by
  simp at hP
  unfold execBatterySwitchOpen
  split
  · dsimp only
    split
    · exact mayReset_quiet (by simp [↓withPlant_view, hP])
    · exact mayReset_held (Retained.held (by exact (Retained.upTo _ s).of_view rfl (fun _ => id) fun _ => id) _ _)
  · exact mayReset_quiet (by simp)

theorem holdInstr_mayReset (h : Retained s t) (hv : Reach P s (view P t)) (ir bits drive) (hP : List.all [.jtag] P) :
    MayReset P s (.next (holdInstr ir bits drive t)) := by
  simp at hP
  unfold holdInstr
  dsimp only
  split
  · exact mayReset_quiet (by simp [↓view_update, hP, hv])
  · exact mayReset_held ⟨rfl, rfl, rfl, (h.resetDevice .resetN false).of_view rfl (fun _ => id) fun _ => id⟩

theorem irScan_holdInstr_mayReset (t ir bits drive) (hP : List.all [.jtag] P) :
    MayReset P s (.next (holdInstr ir bits drive (irScan (s.upTo t)))) :=
  holdInstr_mayReset (t := irScan (s.upTo t)) s ((Retained.upTo t s).of_view rfl (fun _ => id) fun _ => id)
    (by simp [irScan_view (P := P) (s.upTo t) hP]) ir bits drive hP

theorem execExtest_mayReset (t) (hP : List.all [.jtag] P) : MayReset P s (execExtest t s) :=
  irScan_holdInstr_mayReset s t _ _ _ hP

theorem execHighz_mayReset (t) (hP : List.all [.jtag] P) : MayReset P s (execHighz t s) :=
  irScan_holdInstr_mayReset s t _ _ _ hP

theorem execClamp_mayReset (t) (hP : List.all [.jtag] P) : MayReset P s (execClamp t s) :=
  irScan_holdInstr_mayReset s t _ _ _ hP

theorem execDataPathSetup_mayReset (t entropyOk) (hP : List.all [.start, .switch, .keys, .memory] P) :
    MayReset P s (execDataPathSetup t entropyOk s) := by
  simp at hP
  unfold execDataPathSetup
  dsimp only
  split
  · exact mayReset_quiet (by simp)
  · split
    · exact mayReset_held ((Retained.upTo t s).watchdogReset (by decide) _ _)
    · exact mayReset_quiet (by simp [↓view_update, ringPlaces, ↓readKeys_view, ↓dmaSetup_view, hP])

theorem execPsramBringup_mayReset (t tries) (hP : List.all [.start, .psram, .memory] P) :
    MayReset P s (execPsramBringup t tries s) := by
  simp at hP
  unfold execPsramBringup
  dsimp only
  split
  · exact mayReset_quiet (by simp)
  · split
    · exact mayReset_quiet (by simp [↓view_update, ↓setupSilo_view, hP])
    · exact mayReset_held ((Retained.upTo t s).failStep (by decide) _ _)

theorem mem_insertColumn {k c : Fin 66} {l : List (Fin 66)} (h : k ∈ l) : k ∈ insertColumn c l := by
  induction l with
  | nil => cases h
  | cons x l ih =>
    unfold insertColumn
    split
    · exact List.mem_cons_of_mem _ h
    · cases h with
      | head => exact List.mem_cons_self
      | tail _ h => exact List.mem_cons_of_mem _ (ih h)

theorem Retained.retireAtStart {s : State} (h : Retained s t) (c : Fin 66) : Retained s (Machine.retireAtStart t c) := by
  refine h.of_view (retireAtStart_view t c (by decide)) ?_ ?_
  · intro k hk
    dsimp only [Machine.retireAtStart, columnsSpent]
    split
    · exact hk
    · split
      · split <;> simpa using mem_insertColumn hk
      · simpa using mem_insertColumn hk
  · intro e he
    dsimp only [Machine.retireAtStart, columnsSpent]
    split
    · exact he
    · split
      · split <;> simpa using he
      · simpa using he

theorem execThresherSelfCheck_mayReset (t failing) (hP : List.all [.start, .status, .log, .thr] P) :
    MayReset P s (execThresherSelfCheck t failing s) := by
  have hP' := hP
  simp at hP
  unfold execThresherSelfCheck
  dsimp only
  split
  · exact mayReset_quiet (by simp)
  · have hr : Retained s (failing.foldl Machine.retireAtStart (s.upTo t)) := by
      have key (l : List (Fin 66)) (u : State) (hu : Retained s u) : Retained s (l.foldl Machine.retireAtStart u) := by
        induction l generalizing u with
        | nil => exact hu
        | cons c l ih => exact ih _ (hu.retireAtStart c)
      exact key _ _ (.upTo t s)
    split
    · exact mayReset_held (((hr.raise (by decide) 0 []).countFailed _).held _ _)
    · exact mayReset_quiet (by
        simp [↓view_update, ↓foldl_view Machine.retireAtStart (fun s c => retireAtStart_view (P := P) s c hP'), hP])

/-- The parts that neither a reset retains nor the retired columns and remapped rows stand in. -/
def quietParts (p : Part) : Bool :=
  !(p == .history || p == .slots || p == .flash || p == .psram || p == .loft || p == .sram || p == .thr || p == .endur)

theorem Retained.quiet {s t u : State} (h : Retained s t) (hv : view quietParts u = view quietParts t) : Retained s u := by
  have hthr : u.thr = t.thr := eq_of_hide (b := quietParts .thr) (congrArg View.thr hv) rfl
  have hendur : u.endur = t.endur := eq_of_hide (b := quietParts .endur) (congrArg View.endur hv) rfl
  have ht : Evolves quietParts t u := .of_view hv (.refl t)
  exact {
    evolves := {
      now := h.evolves.now.trans ht.now
      pending := ht.pending.trans h.evolves.pending
      eui48 := ht.eui48.trans h.evolves.eui48
      phase := nofun
      same := fun p hp => p.same_trans (h.evolves.same p hp)
        (ht.same p (by revert hp; cases p <;> simp [resetParts, quietParts])) h.evolves.now ht.now
      keyRefused := nofun
      rings := nofun }
    retired := by simpa [hthr] using h.retired
    map := by simpa [hendur] using h.map }

theorem Retained.setupContexts {s : State} (h : Retained s t) : Retained s (Machine.setupContexts t) :=
  h.of_view (setupContexts_view t (by decide)) (fun _ => id) fun _ => id

theorem execLoftLoad_mayReset (t good) (hP : List.all [.start, .status, .log, .thr, .loft, .memory, .gran, .sleep] P) :
    MayReset P s (execLoftLoad t good s) := by
  simp at hP
  have hr : Retained s (loadClips (loadProfiles (loadModels (s.upTo t)))) :=
    (((Retained.upTo t s).quiet (loadModels_view _ (by decide))).quiet (loadProfiles_view _ (by decide))).quiet
      (loadClips_view _ (by decide))
  have hv : view P (loadClips (loadProfiles (loadModels (s.upTo t)))) = view P (s.upTo t) := by
    rw [loadClips_view _ (by simp [hP]), loadProfiles_view _ (by simp [hP]), loadModels_view _ (by simp [hP])]
  unfold execLoftLoad
  dsimp only
  generalize loadClips (loadProfiles (loadModels (s.upTo t))) = x at hr hv ⊢
  split
  · split
    · exact mayReset_quiet (by simp [↓view_update, ↓loadLoft_view, hP])
    · exact mayReset_held ((Retained.upTo t s).watchdogReset (by decide) _ _)
  · split
    · exact mayReset_quiet (by simp)
    · split
      · exact mayReset_quiet (by simp [↓view_update, ↓loadLoft_view, ↓setupContexts_view, hv, hP])
      · exact mayReset_held (((hr.setupContexts.raise (by decide) 0 []).countFailed _).held _ _)

theorem decideRemap_map (loft bank row) : (decideRemap loft bank row s).endur.map = s.endur.map := by
  simp only [decideRemap]
  (repeat' split) <;> simp

theorem Retained.decideRemap {s : State} (h : Retained s t) (loft bank row) : Retained s (Machine.decideRemap loft bank row t) :=
  have hthr : (Machine.decideRemap loft bank row t).thr = t.thr :=
    eq_of_hide (b := false) (congrArg View.thr (decideRemap_view (P := fun p => p != .thr) t loft bank row (by decide))) rfl
  h.of_view (decideRemap_view t loft bank row (by decide)) (by simp [hthr]) (by simp [decideRemap_map])

theorem execSramUncorrectableError_mayReset (t loft bank row word what)
    (hP : List.all [.status, .log, .ports, .streams, .routing, .red, .tdm, .usb, .blocks, .thr, .clips, .endur] P) :
    MayReset P s (execSramUncorrectableError t loft bank row word what s) := by
  simp at hP
  unfold execSramUncorrectableError
  dsimp only
  split
  · exact mayReset_quiet (by simp)
  · generalize (if loft then .loft else what : SramContent) = w
    by_cases hw : w = .control
    · subst hw
      refine mayReset_held (Retained.watchdogReset (.decideRemap ?_ loft bank row) (by decide) _ _)
      exact ((Retained.upTo t s).raise (by decide) 0 _).of_view rfl (fun _ => id) fun _ => id
    · exact mayReset_quiet (by
        simp [↓loseContent_view _ _ _ hw, ↓decideRemap_view, ↓view_update, ↓raise_view, hP])

end Sys2Proof.Machine
end

/-! # How a command ends

The rules of the 236 commands brought together. -/

section
namespace Sys2Proof.Machine

open Sys2Proof


/-- The commands that end a reset or find the rings' next places at start: they may do what only a reset does else. -/
def likeReset (c : Instr) : Bool :=
  match c with
  | .resetRelease _ _ | .idcode _ | .samplePreload _ | .bypass _ _ | .tapReset _ | .flashBringup _ _ => true
  | _ => false

/-- The parts a command may change without a reset: its footprint. -/
def ownParts (c : Instr) (p : Part) : Bool := if p = .reset then likeReset c else (footprint c).2.contains p

/-- How a command ends: in a next state, but for a DMA register set's fault; within its own parts, but where it may reset the device. -/
def Ends (c : Instr) (s : State) (r : Result) : Prop :=
  match c with
  | .powerOnReset _ aoLost _ =>
    Answers r fun u => PoweredOn s u ∧ (aoLost = false → Retained s u)
  | .dmaRegisterSetComplete _ _ => Within (ownParts c) s r ∨ ∃ a, r = .fault (.dmaAddress a)
  | c => if (footprint c).2.contains .reset then MayReset (ownParts c) s r else Within (ownParts c) s r

theorem exec_ends (c : Instr) (s : State) : Ends c s (exec c s) :=
  match c with
  | .powerOnReset x1 x2 x3 => execPowerOnReset_held s x1 x2 x3
  | .resetNAssert x1 x2 => execResetNAssert_mayReset s x1 x2 rfl
  | .resetRelease x1 x2 => execResetRelease_within s x1 x2 rfl
  | .supplySupervisorReset x1 => execSupplySupervisorReset_mayReset s x1
  | .watchdogExpiry x1 => execWatchdogExpiry_mayReset s x1
  | .startDeadline => execStartDeadline_mayReset s
  | .preStartPair x1 x2 x3 => execPreStartPair_within s x1 x2 x3 rfl
  | .preconditionBeforeStart x1 x2 => execPreconditionBeforeStart_within s x1 x2 rfl
  | .strapReading x1 => execStrapReading_within s x1 rfl
  | .strapLatch => execStrapLatch_within s rfl
  | .strapReread x1 x2 => execStrapReread_within s x1 x2 rfl
  | .pairDebouncedChange x1 x2 => execPairDebouncedChange_within s x1 x2 rfl
  | .pairHoldClear => execPairHoldClear_within s rfl
  | .pairReleaseEarly x1 => execPairReleaseEarly_within s x1 rfl
  | .flashBringup x1 x2 => execFlashBringup_within s x1 x2 rfl
  | .imageVerify x1 x2 => execImageVerify_within s x1 x2 rfl
  | .loftLoad x1 x2 => execLoftLoad_mayReset s x1 x2 rfl
  | .thresherSelfCheck x1 x2 => execThresherSelfCheck_mayReset s x1 x2 rfl
  | .psramBringup x1 x2 => execPsramBringup_mayReset s x1 x2 rfl
  | .dataPathSetup x1 x2 => execDataPathSetup_mayReset s x1 x2 rfl
  | .startReferenceDeadline => execStartReferenceDeadline_within s rfl
  | .runningEntry x1 => execRunningEntry_within s x1 rfl
  | .failedStartCounterClear => execFailedStartCounterClear_within s rfl
  | .blockBoundary x1 => execBlockBoundary_within s x1 rfl
  | .faultFoldExpiry x1 => execFaultFoldExpiry_within s x1 rfl
  | .leaderAbsentTimeout x1 => execLeaderAbsentTimeout_within s x1 rfl
  | .dieLinkLoss x1 => execDieLinkLoss_within s x1 rfl
  | .dieLinkRestored x1 => execDieLinkRestored_within s x1 rfl
  | .dieLinkRestoreTimeout => execDieLinkRestoreTimeout_mayReset s
  | .clockMonitorLoss x1 x2 => execClockMonitorLoss_within s x1 x2 rfl
  | .clockLossReset x1 => execClockLossReset_mayReset s x1
  | .slumberConditionsHeld x1 => execSlumberConditionsHeld_within s x1 rfl
  | .slumberPowerDown x1 => execSlumberPowerDown_within s x1 rfl
  | .beaconWindowOpen => execBeaconWindowOpen_within s rfl
  | .beaconReceive x1 x2 x3 x4 => execBeaconReceive_within s x1 x2 x3 x4 rfl
  | .beaconWindowClose => execBeaconWindowClose_within s rfl
  | .beaconSearchFailed => execBeaconSearchFailed_within s rfl
  | .partnerWakeAnswerTimeout => execPartnerWakeAnswerTimeout_within s rfl
  | .wakeEvent x1 x2 => execWakeEvent_within s x1 x2 rfl
  | .slumberResume x1 => execSlumberResume_within s x1 rfl
  | .heartbeatSend => execHeartbeatSend_within s rfl
  | .telemetrySend => execTelemetrySend_within s rfl
  | .replaySend x1 => execReplaySend_within s x1 rfl
  | .fumaroleQueueRoom x1 x2 => execFumaroleQueueRoom_within s x1 x2 rfl
  | .fumaroleFrameReceive x1 x2 => execFumaroleFrameReceive_within s x1 x2 rfl
  | .ashLogEntryWrite x1 x2 => execAshLogEntryWrite_within s x1 x2 rfl
  | .ashLogFoldExpiry x1 => execAshLogFoldExpiry_within s x1 rfl
  | .ashLogHourResume => execAshLogHourResume_within s rfl
  | .qualificationWindowEnd x1 x2 x3 x4 => execQualificationWindowEnd_within s x1 x2 x3 x4 rfl
  | .referenceLoss x1 x2 x3 => execReferenceLoss_within s x1 x2 x3 rfl
  | .referenceBarExpiry x1 => execReferenceBarExpiry_within s x1 rfl
  | .holdoverLimitExpiry => execHoldoverLimitExpiry_within s rfl
  | .hardwareLoopUpdate x1 x2 => execHardwareLoopUpdate_within s x1 x2 rfl
  | .bandwidthStep => execBandwidthStep_within s rfl
  | .switchFrequencyStageEnd x1 x2 => execSwitchFrequencyStageEnd_within s x1 x2 rfl
  | .switchPhaseStageEnd x1 => execSwitchPhaseStageEnd_within s x1 rfl
  | .historyWindowComplete => execHistoryWindowComplete_within s rfl
  | .cableDiagnostic x1 x2 => execCableDiagnostic_within s x1 x2 rfl
  | .linkModeAlternate x1 x2 => execLinkModeAlternate_within s x1 x2 rfl
  | .phyLinkChange x1 x2 x3 x4 => execPhyLinkChange_within s x1 x2 x3 x4 rfl
  | .linkDeclare x1 => execLinkDeclare_within s x1 rfl
  | .linkUpDeadline x1 => execLinkUpDeadline_within s x1 rfl
  | .linkChangeQuiet x1 => execLinkChangeQuiet_within s x1 rfl
  | .podlClassification x1 => execPodlClassification_within s x1 rfl
  | .podlPowerApplied x1 x2 x3 => execPodlPowerApplied_within s x1 x2 x3 rfl
  | .podlPowerTimeout => execPodlPowerTimeout_within s rfl
  | .frameIngress x1 x2 x3 => execFrameIngress_within s x1 x2 x3 rfl
  | .flowIdleExpiry x1 x2 => execFlowIdleExpiry_within s x1 x2 rfl
  | .partnerAsleep x1 x2 => execPartnerAsleep_within s x1 x2 rfl
  | .syncReceive x1 x2 x3 => execSyncReceive_within s x1 x2 x3 rfl
  | .syncSend x1 => execSyncSend_within s x1 rfl
  | .announceReceive x1 x2 x3 => execAnnounceReceive_within s x1 x2 x3 rfl
  | .announceSend x1 => execAnnounceSend_within s x1 rfl
  | .announceReceiptTimeout x1 => execAnnounceReceiptTimeout_within s x1 rfl
  | .syncReceiptTimeout => execSyncReceiptTimeout_within s rfl
  | .pdelayRequestSend x1 => execPdelayRequestSend_within s x1 rfl
  | .pdelayResponseReceive x1 x2 x3 x4 x5 => execPdelayResponseReceive_within s x1 x2 x3 x4 x5 rfl
  | .pdelayRequestReceive x1 x2 x3 => execPdelayRequestReceive_within s x1 x2 x3 rfl
  | .priorityHoldExpiry => execPriorityHoldExpiry_within s rfl
  | .gptpSyncHoldExpiry => execGptpSyncHoldExpiry_within s rfl
  | .aafFrameSend x1 => execAafFrameSend_within s x1 rfl
  | .crfFrameSend => execCrfFrameSend_within s rfl
  | .aafFrameReceive x1 x2 => execAafFrameReceive_within s x1 x2 rfl
  | .crfFrameReceive x1 x2 => execCrfFrameReceive_within s x1 x2 rfl
  | .streamSourceTimeout x1 x2 => execStreamSourceTimeout_within s x1 x2 rfl
  | .recoveryResetTimeout x1 x2 => execRecoveryResetTimeout_within s x1 x2 rfl
  | .admissionEvaluation => execAdmissionEvaluation_within s rfl
  | .tieSlotStart x1 => execTieSlotStart_within s x1 rfl
  | .tieHeartbeat x1 x2 => execTieHeartbeat_within s x1 x2 rfl
  | .tieBlock x1 x2 => execTieBlock_within s x1 x2 rfl
  | .tieCheckpointChunk x1 x2 => execTieCheckpointChunk_within s x1 x2 rfl
  | .resyncRequest x1 x2 => execResyncRequest_within s x1 x2 rfl
  | .takeBackRequest x1 x2 => execTakeBackRequest_within s x1 x2 rfl
  | .takeBackAccepted x1 x2 => execTakeBackAccepted_within s x1 x2 rfl
  | .takeBackCommit x1 x2 => execTakeBackCommit_within s x1 x2 rfl
  | .slumberProposal x1 x2 => execSlumberProposal_within s x1 x2 rfl
  | .slumberAnswer x1 x2 => execSlumberAnswer_within s x1 x2 rfl
  | .wakeRequest x1 x2 => execWakeRequest_within s x1 x2 rfl
  | .blockFrameTimeout => execBlockFrameTimeout_within s rfl
  | .tieDown => execTieDown_within s rfl
  | .tieCollision x1 => execTieCollision_within s x1 rfl
  | .resyncReplayComplete x1 => execResyncReplayComplete_within s x1 rfl
  | .resyncTimeout => execResyncTimeout_within s rfl
  | .partnerHeartbeatSend => execPartnerHeartbeatSend_within s rfl
  | .partnerContactTimeout => execPartnerContactTimeout_within s rfl
  | .checkpointTake x1 => execCheckpointTake_within s x1 rfl
  | .checkpointComplete x1 => execCheckpointComplete_within s x1 rfl
  | .checkpointStaleTimeout => execCheckpointStaleTimeout_within s rfl
  | .partnerContactDeadline => execPartnerContactDeadline_within s rfl
  | .leaderLost => execLeaderLost_within s rfl
  | .checkpointRestoreComplete x1 => execCheckpointRestoreComplete_within s x1 rfl
  | .takeBackEligible => execTakeBackEligible_within s rfl
  | .takeBackRetry => execTakeBackRetry_within s rfl
  | .takeBackRelease => execTakeBackRelease_within s rfl
  | .reservationCommit x1 x2 x3 => execReservationCommit_within s x1 x2 x3 rfl
  | .keyCreate x1 => execKeyCreate_within s x1 rfl
  | .keyRenew x1 => execKeyRenew_within s x1 rfl
  | .akDistributionSend => execAkDistributionSend_within s rfl
  | .akDistributionReceive x1 x2 => execAkDistributionReceive_within s x1 x2 rfl
  | .pairPress x1 x2 => execPairPress_within s x1 x2 rfl
  | .pairListenExpiry => execPairListenExpiry_within s rfl
  | .windowFrameSend => execWindowFrameSend_within s rfl
  | .windowFrameReceive x1 x2 => execWindowFrameReceive_within s x1 x2 rfl
  | .joinReceive x1 x2 => execJoinReceive_within s x1 x2 rfl
  | .joinResend => execJoinResend_within s rfl
  | .keyFrameReceive x1 x2 x3 x4 => execKeyFrameReceive_within s x1 x2 x3 x4 rfl
  | .keyFrameTimeout => execKeyFrameTimeout_within s rfl
  | .doneReceive x1 x2 x3 => execDoneReceive_within s x1 x2 x3 rfl
  | .doneTimeout x1 => execDoneTimeout_within s x1 rfl
  | .pairingWindowExpiry => execPairingWindowExpiry_within s rfl
  | .biphaseFrameReceive x1 x2 x3 => execBiphaseFrameReceive_within s x1 x2 x3 rfl
  | .biphaseInputLoss x1 x2 x3 => execBiphaseInputLoss_within s x1 x2 x3 rfl
  | .tdmFrameJudged x1 x2 x3 x4 x5 => execTdmFrameJudged_within s x1 x2 x3 x4 x5 rfl
  | .tdmFrameTimerExpiry x1 => execTdmFrameTimerExpiry_within s x1 rfl
  | .tdmRateWindow x1 x2 => execTdmRateWindow_within s x1 x2 rfl
  | .tdmQualifyDeadline x1 => execTdmQualifyDeadline_within s x1 rfl
  | .micEnFall x1 x2 => execMicEnFall_within s x1 x2 rfl
  | .micEnOpen x1 => execMicEnOpen_within s x1 rfl
  | .pdmSettleExpiry x1 => execPdmSettleExpiry_within s x1 rfl
  | .usbVbusChange x1 x2 => execUsbVbusChange_within s x1 x2 rfl
  | .usbBusReset x1 x2 x3 => execUsbBusReset_within s x1 x2 x3 rfl
  | .standardDeviceRequest x1 x2 => execStandardDeviceRequest_within s x1 x2 rfl
  | .setFeatureRemoteWakeup x1 => execSetFeatureRemoteWakeup_within s x1 rfl
  | .setFeatureTestMode x1 x2 => execSetFeatureTestMode_within s x1 x2 rfl
  | .setConfiguration x1 x2 => execSetConfiguration_within s x1 x2 rfl
  | .setInterface x1 x2 x3 => execSetInterface_within s x1 x2 x3 rfl
  | .getCurFrequency x1 => execGetCurFrequency_within s x1 rfl
  | .getRangeFrequency x1 => execGetRangeFrequency_within s x1 rfl
  | .setCurFrequency x1 x2 => execSetCurFrequency_within s x1 x2 rfl
  | .getCurValidity x1 => execGetCurValidity_within s x1 rfl
  | .unsupportedUsbRequest x1 x2 => execUnsupportedUsbRequest_within s x1 x2 rfl
  | .controlStatusComplete x1 => execControlStatusComplete_within s x1 rfl
  | .usbSuspend x1 => execUsbSuspend_within s x1 rfl
  | .usbResume x1 => execUsbResume_within s x1 rfl
  | .usbOutPacket x1 x2 => execUsbOutPacket_within s x1 x2 rfl
  | .usbSof x1 => execUsbSof_within s x1 rfl
  | .feedbackUpdate x1 => execFeedbackUpdate_within s x1 rfl
  | .asrcTrackingStart x1 x2 => execAsrcTrackingStart_within s x1 x2 rfl
  | .asrcLock x1 x2 => execAsrcLock_within s x1 x2 rfl
  | .asrcUnlock x1 x2 => execAsrcUnlock_within s x1 x2 rfl
  | .asrcLockTimeout x1 x2 => execAsrcLockTimeout_within s x1 x2 rfl
  | .asrcFixedRatioEntry x1 x2 x3 => execAsrcFixedRatioEntry_within s x1 x2 x3 rfl
  | .startDetect x1 => execStartDetect_within s x1 rfl
  | .startTimeout => execStartTimeout_within s rfl
  | .muteNChange x1 x2 => execMuteNChange_within s x1 x2 rfl
  | .jobComplete x1 x2 x3 => execJobComplete_within s x1 x2 x3 rfl
  | .jobDeadlineExpiry => execJobDeadlineExpiry_within s rfl
  | .stateCommit x1 x2 => execStateCommit_within s x1 x2 rfl
  | .statePrefetch x1 x2 => execStatePrefetch_within s x1 x2 rfl
  | .visibilityInstant => execVisibilityInstant_within s rfl
  | .laneDriveTimeout => execLaneDriveTimeout_within s rfl
  | .playoutDeadline x1 x2 x3 => execPlayoutDeadline_within s x1 x2 x3 rfl
  | .selfCheckPass x1 => execSelfCheckPass_within s x1 rfl
  | .flashReadTimeout x1 x2 => execFlashReadTimeout_within s x1 x2 rfl
  | .flashOperationComplete x1 x2 => execFlashOperationComplete_within s x1 x2 rfl
  | .flashSuspendRead x1 => execFlashSuspendRead_within s x1 rfl
  | .siloTransactionTimeout x1 x2 => execSiloTransactionTimeout_mayReset s x1 x2 rfl
  | .busTransactionComplete x1 x2 x3 => execBusTransactionComplete_within s x1 x2 x3 rfl
  | .dmaRegisterSetComplete x1 x2 => execDmaRegisterSetComplete_within s x1 x2 rfl
  | .dmaPaceMark x1 x2 x3 => execDmaPaceMark_within s x1 x2 x3 rfl
  | .dmaShadowWrite x1 x2 x3 x4 => execDmaShadowWrite_within s x1 x2 x3 x4 rfl
  | .poweredHour x1 => execPoweredHour_within s x1 rfl
  | .slotWriteStart x1 => execSlotWriteStart_within s x1 rfl
  | .slotWriteComplete x1 x2 x3 x4 => execSlotWriteComplete_within s x1 x2 x3 x4 rfl
  | .imageAdvertSend => execImageAdvertSend_within s rfl
  | .imageAdvertReceive x1 x2 => execImageAdvertReceive_within s x1 x2 rfl
  | .imageRequestReceive x1 x2 => execImageRequestReceive_within s x1 x2 rfl
  | .imageChunkSend x1 => execImageChunkSend_within s x1 rfl
  | .imageChunkReceive x1 x2 => execImageChunkReceive_within s x1 x2 rfl
  | .imageRequestRetry => execImageRequestRetry_within s rfl
  | .imageFetchAbandon => execImageFetchAbandon_within s rfl
  | .vinValid x1 x2 => execVinValid_within s x1 x2 rfl
  | .vinLost x1 x2 x3 => execVinLost_within s x1 x2 x3 rfl
  | .vinRangeTimeout x1 x2 => execVinRangeTimeout_within s x1 x2 rfl
  | .inputBudgetLoop x1 x2 x3 x4 => execInputBudgetLoop_within s x1 x2 x3 x4 rfl
  | .batteryAbsentTimeout => execBatteryAbsentTimeout_within s rfl
  | .requestedLimits x1 => execRequestedLimits_within s x1 rfl
  | .fixedThresholdEntry => execFixedThresholdEntry_within s rfl
  | .fixedThresholdExit => execFixedThresholdExit_within s rfl
  | .chargeCompleteTimer => execChargeCompleteTimer_within s rfl
  | .chargeTimerExpiry => execChargeTimerExpiry_within s rfl
  | .preconditionTimeout => execPreconditionTimeout_within s rfl
  | .batteryThermalUpdate x1 x2 => execBatteryThermalUpdate_within s x1 x2 rfl
  | .dischargeCutoff x1 x2 => execDischargeCutoff_within s x1 x2 rfl
  | .batterySwitchOpen => execBatterySwitchOpen_mayReset s rfl
  | .packOvervoltage x1 x2 => execPackOvervoltage_within s x1 x2 rfl
  | .socRestRecalibrate => execSocRestRecalibrate_within s rfl
  | .thermalModelRelease x1 => execThermalModelRelease_within s x1 rfl
  | .speakerGuard x1 x2 => execSpeakerGuard_within s x1 x2 rfl
  | .speakerOvercurrent x1 x2 x3 => execSpeakerOvercurrent_within s x1 x2 x3 rfl
  | .openLoadDetect x1 x2 x3 => execOpenLoadDetect_within s x1 x2 x3 rfl
  | .motorCommand x1 x2 x3 x4 => execMotorCommand_within s x1 x2 x3 x4 rfl
  | .backEmfWindow x1 x2 => execBackEmfWindow_within s x1 x2 rfl
  | .motorPeakCurrent x1 x2 => execMotorPeakCurrent_within s x1 x2 rfl
  | .motPosOutOfRange => execMotPosOutOfRange_within s rfl
  | .motorStall => execMotorStall_within s rfl
  | .stallHoldExpiry => execStallHoldExpiry_within s rfl
  | .plantDieTemperature x1 x2 => execPlantDieTemperature_within s x1 x2 rfl
  | .coreDieOvertemp x1 x2 => execCoreDieOvertemp_within s x1 x2 rfl
  | .sramCorrectedError x1 x2 x3 x4 => execSramCorrectedError_within s x1 x2 x3 x4 rfl
  | .sramUncorrectableError x1 x2 x3 x4 x5 x6 => execSramUncorrectableError_mayReset s x1 x2 x3 x4 x5 x6 rfl
  | .scrubPass => execScrubPass_within s rfl
  | .rowCopyComplete x1 x2 x3 => execRowCopyComplete_within s x1 x2 x3 rfl
  | .loftRowFillComplete x1 x2 x3 => execLoftRowFillComplete_within s x1 x2 x3 rfl
  | .extest x1 => execExtest_mayReset s x1 rfl
  | .idcode x1 => execIdcode_within s x1 rfl
  | .samplePreload x1 => execSamplePreload_within s x1 rfl
  | .highz x1 => execHighz_mayReset s x1 rfl
  | .clamp x1 => execClamp_mayReset s x1 rfl
  | .bypass x1 x2 => execBypass_within s x1 x2 rfl
  | .tapReset x1 => execTapReset_within s x1 rfl
  | .sharedNodeAddressQuiet => execSharedNodeAddressQuiet_within s rfl
  | .chargerVoltageThreshold x1 x2 => execChargerVoltageThreshold_within s x1 x2 rfl
  | .packConnected x1 x2 => execPackConnected_within s x1 x2 rfl
  | .holdoverAgingCorrection => execHoldoverAgingCorrection_within s rfl
  | .dataRegisterScan x1 x2 x3 => execDataRegisterScan_within s x1 x2 x3 rfl

end Sys2Proof.Machine
end

/-! # Frames, time, and no command without an answer

O22 to O27, O5 and O6: each is read off how a command ends. -/

section
namespace Sys2Proof.Machine

open Sys2Proof

variable {P : Part → Bool} {c : Instr} {s u : State}

theorem Within.evolves {r : Result} (h : Within P s r) (hr : r = .next u) : Evolves P s u := by
  subst hr
  exact Reach.evolves h

theorem MayReset.evolves {r : Result} (h : MayReset P s r) (hr : r = .next u) : Held s u ∨ Evolves P s u := by
  subst hr
  exact h.imp_right Reach.evolves

/-- A command that answers a next state and may not reset the device evolves the state within its own parts. -/
theorem exec_evolves (hc : (footprint c).2.contains .reset = false) (hu : exec c s = .next u) : Evolves (ownParts c) s u := by
  have h := exec_ends c s
  unfold Ends at h
  split at h
  · cases hc
  · obtain h | ⟨a, ha⟩ := h
    · exact h.evolves hu
    · cases hu.symm.trans ha
  · rw [if_neg (by rw [hc]; decide)] at h
    exact h.evolves hu

/-- A reset leaves at least what a power-on reset leaves. -/
theorem Held.poweredOn (h : Held s u) : PoweredOn s u where
  phase := h.phase
  flows := h.flows
  rings := h.rings
  history := (congrArg List.length (h.retained.evolves.same .history rfl)).le
  evolves := {
    now := h.retained.evolves.now, pending := h.retained.evolves.pending, eui48 := h.retained.evolves.eui48
    phase := nofun, keyRefused := nofun, rings := nofun
    same := fun p hp => h.retained.evolves.same p (by revert hp; cases p <;> simp [powerOnParts, resetParts]) }

/-- A command that may reset the device either does so or evolves the state within its own parts. -/
theorem exec_held_or_evolves (hc : (footprint c).2.contains .reset = true) (hu : exec c s = .next u) :
    (PoweredOn s u ∧ ((∀ t x, c ≠ .powerOnReset t true x) → Retained s u))
      ∨ Evolves (ownParts c) s u := by
  have h := exec_ends c s
  unfold Ends at h
  split at h
  · next t aoLost x =>
    rw [hu] at h
    refine .inl ⟨h.1, fun hne => h.2 ?_⟩
    cases aoLost with
    | true => exact absurd rfl (hne t x)
    | false => rfl
  · cases hc
  · rw [if_pos hc] at h
    exact (h.evolves hu).imp_left fun hheld => ⟨hheld.poweredOn, fun _ => hheld.retained⟩

theorem ownParts_eq_false {p : Part} (hp : p ∉ (footprint c).2) (hr : p ≠ .reset) : ownParts c p = false := by
  rw [ownParts, if_neg hr]
  simpa using hp

theorem exec_leaves (hu : exec c s = .next u) : Leaves c s u := by
  have hleaves (h : Evolves (ownParts c) s u) : Leaves c s u := .inr fun p hp => by
    by_cases hr : p = .reset
    · subst hr; trivial
    · exact h.same p (ownParts_eq_false hp hr)
  by_cases hc : (footprint c).2.contains .reset = true
  · obtain ⟨hon, -⟩ | h := exec_held_or_evolves hc hu
    · exact .inl ⟨by simpa using hc, hon.phase⟩
    · exact hleaves h
  · exact hleaves (exec_evolves (by simpa using hc) hu)

/-- Settles O22: the start and status commands stay in their footprints, or reset the device. -/
theorem frameOfStartAndStatus : Obligations.FrameOfStartAndStatus := fun _ _ _ _ hu => exec_leaves hu

/-- Settles O23: the clock and network commands stay in their footprints, or reset the device. -/
theorem frameOfClocksAndNetwork : Obligations.FrameOfClocksAndNetwork := fun _ _ _ _ hu => exec_leaves hu

/-- Settles O24: the TIE and pair commands stay in their footprints, or reset the device. -/
theorem frameOfPairs : Obligations.FrameOfPairs := fun _ _ _ _ hu => exec_leaves hu

/-- Settles O25: the key, Granary and memory commands stay in their footprints, or reset the device. -/
theorem frameOfKeysAndMemories : Obligations.FrameOfKeysAndMemories := fun _ _ _ _ hu => exec_leaves hu

/-- Settles O26: the audio ports' commands stay in their footprints, or reset the device. -/
theorem frameOfAudioPorts : Obligations.FrameOfAudioPorts := fun _ _ _ _ hu => exec_leaves hu

/-- Settles O27: the commands of Thresher, the plant and the test port stay in their footprints, or reset the device. -/
theorem frameOfThresherAndPlant : Obligations.FrameOfThresherAndPlant := fun _ _ _ _ hu => exec_leaves hu

/-- Settles O5: every command, whether it resets or stays in its parts, keeps the queue and the EUI-48 and turns no time back. -/
theorem queueIdentityAndTime : Obligations.QueueIdentityAndTime := by
  intro c s u hu
  have hall {P : Part → Bool} (h : Evolves P s u) : u.pending = s.pending ∧ u.eui48 = s.eui48 ∧ s.now ≤ u.now :=
    ⟨h.pending, h.eui48, h.now⟩
  by_cases hc : (footprint c).2.contains .reset = true
  · obtain ⟨hon, -⟩ | h := exec_held_or_evolves hc hu
    · exact hall hon.evolves
    · exact hall h
  · exact hall (exec_evolves (by simpa using hc) hu)

theorem Answers.next {r : Result} {Q : State → Prop} (h : Answers r Q) : ∃ u, r = .next u := by
  cases r with
  | next u => exact ⟨u, rfl⟩
  | _ => cases h

/-- Settles O6: how each command ends, by `exec_ends`: a DMA set outside every memory is the one fault. -/
theorem everyCommandRuns : Obligations.EveryCommandRuns := by
  intro c s
  have h := exec_ends c s
  unfold Ends at h
  split at h
  · exact .inl h.next
  · exact h.imp Answers.next fun hfault => ⟨⟨_, _, rfl⟩, hfault⟩
  · split at h
    · exact .inl h.next
    · exact .inl h.next

end Sys2Proof.Machine
end

/-! # The reset state and a step

O1 to O3: the step's two cases, and the literal state right after reset. -/

section
namespace Sys2Proof.Machine

open Sys2Proof


/-- Settles O1: what a step does is read off its two cases; on an empty queue only time passes. -/
theorem stepTakesFront : Obligations.StepTakesFront := by
  constructor
  · intro c s rest h
    rw [step, h]
  · intro s h
    refine ⟨s.advance sysPeriod, by rw [step, h], rfl, ?_, rfl⟩
    exact (congrArg Status.active (Status.drain_same (thisLen s) sysPeriod s.bpo s.status) :)

/-- Settles O2: the reset state is a literal. -/
theorem resetState : Obligations.ResetState := by
  unfold Obligations.ResetState
  decide

/-- Settles O3: every memory is empty at reset. -/
theorem resetMemoriesCanonical : Obligations.ResetMemoriesCanonical := rfl

end Sys2Proof.Machine
end

/-! # Binary16 in FP32 (chapter 16)

A binary16 stands on a grid that FP32 holds exactly, and is found again on it. -/

section
namespace Sys2Proof.Machine

open Sys2Proof


theorem shiftRne_mul_two_pow (a k : Nat) : shiftRne (a * 2 ^ k) k = a := by
  have hpos : 0 < 2 ^ k := Nat.two_pow_pos k
  unfold shiftRne
  dsimp only
  rw [Nat.mul_mod_left, Nat.mul_div_cancel a hpos]
  split
  · next hk => rw [hk, Nat.pow_zero, Nat.mul_one]
  · simp

theorem log2_mul_two_pow {a : Nat} (ha : a ≠ 0) (k : Nat) : (a * 2 ^ k).log2 = a.log2 + k := by
  obtain ⟨hlo, hhi⟩ := (Nat.log2_eq_iff ha).mp rfl
  refine (Nat.log2_eq_iff (by positivity)).mpr ⟨?_, ?_⟩
  · rw [Nat.pow_add]
    exact Nat.mul_le_mul_right _ hlo
  · rw [Nat.add_right_comm, Nat.pow_add]
    exact Nat.mul_lt_mul_of_pos_right hhi (Nat.two_pow_pos k)

/-- A number scaled to the 24 bits of a binary32 significand. -/
theorem scaled_bounds {a k : Nat} (ha : a ≠ 0) (hk : a.log2 + k = 23) : 2 ^ 23 ≤ a * 2 ^ k ∧ a * 2 ^ k < 2 ^ 24 :=
  (Nat.log2_eq_iff (by positivity)).mp ((log2_mul_two_pow ha k).trans hk)

/-- The fields of a binary32 word are read back. -/
theorem fpVal_word (neg : Bool) {ex mant : Nat} (hpos : 0 < ex) (hex : ex < 255) (hmant : mant < 2 ^ 23) :
    let x := BitVec.ofNat 32 ((if neg then 2 ^ 31 else 0) + ex * 2 ^ 23 + mant)
    fpVal x = (if neg then -((mant + 2 ^ 23 : Nat) : Int) else ((mant + 2 ^ 23 : Nat) : Int), (ex : Int) - 150)
      ∧ x.getLsbD 31 = neg := by
  intro x
  have hx : x.toNat = (if neg then 2 ^ 31 else 0) + ex * 2 ^ 23 + mant := by
    rw [BitVec.toNat_ofNat, Nat.mod_eq_of_lt]
    split <;> omega
  have hsign : x.getLsbD 31 = neg := by
    rw [BitVec.getLsbD, Nat.testBit_eq_decide_div_mod_eq, hx]
    cases neg <;> simp <;> omega
  have hexp : x.toNat / 2 ^ 23 % 256 = ex := by
    rw [hx]
    split <;> omega
  have hman : x.toNat % 2 ^ 23 = mant := by
    rw [hx]
    split <;> omega
  refine ⟨?_, hsign⟩
  simp only [fpVal, hexp, hman, hsign]
  rw [if_neg (by omega)]

/-- A number of at most 24 bits within the range of binary32 is kept exactly: its significand scaled to 24 bits. -/
theorem fpVal_fpRound {m e : Int} (neg : Bool) (hm : m ≠ 0) (hlo : -126 ≤ e + m.natAbs.log2)
    (hhi : e + m.natAbs.log2 < 128) {k : Nat} (hk : m.natAbs.log2 + k = 23) :
    fpVal (fpRound m e neg) = (m * (2 ^ k : Nat), e - k) ∧ (fpRound m e neg).getLsbD 31 = decide (m < 0) := by
  have ha : m.natAbs ≠ 0 := by simpa using hm
  obtain ⟨hr, hr'⟩ := scaled_bounds ha hk
  obtain ⟨ex, hex⟩ : ∃ ex : Nat, (ex : Int) = e + m.natAbs.log2 + 127 := ⟨(e + m.natAbs.log2 + 127).toNat, by omega⟩
  have hround : fpRound m e neg = BitVec.ofNat 32
      ((if decide (m < 0) then 2 ^ 31 else 0) + ex * 2 ^ 23 + (m.natAbs * 2 ^ k - 2 ^ 23)) := by
    unfold fpRound
    dsimp only
    rw [if_neg ha, if_neg (by omega : ¬ 24 < m.natAbs.log2 + 1), show 24 - (m.natAbs.log2 + 1) = k by omega]
    rw [if_neg (by omega : ¬ m.natAbs * 2 ^ k = 2 ^ 24), if_neg (by omega : ¬ m.natAbs * 2 ^ k = 2 ^ 24)]
    rw [if_neg (by omega), if_neg (by omega), show (e + ((m.natAbs.log2 + 1 : Nat) : Int) - 1 + 0 + 127).toNat = ex by omega]
    simp
  have hfields := fpVal_word (decide (m < 0)) (ex := ex) (mant := m.natAbs * 2 ^ k - 2 ^ 23) (by omega) (by omega) (by omega)
  rw [hround]
  refine ⟨hfields.1.trans (Prod.ext ?_ (by dsimp only; omega)), hfields.2⟩
  dsimp only
  rw [Nat.sub_add_cancel hr, Nat.cast_mul]
  by_cases hneg : m < 0
  · rw [if_pos (by simpa using hneg), ← Int.neg_mul]
    congr 1
    omega
  · rw [if_neg (by simpa using hneg)]
    congr 1
    omega

/-- A number that stands on the grid of binary16, scaled up, is rounded to itself. -/
theorem halfRound_scaled {m e : Int} {k : Nat} (neg : Bool) (hm : m ≠ 0) (hk : 0 < k) (hlog : m.natAbs.log2 + k = 23)
    (hulp : max (e + m.natAbs.log2 - 10) (-24) = e) (hlt : m.natAbs < 2048) (he : e ≤ 5) :
    halfRound (m * (2 ^ k : Nat)) (e - k) neg = BitVec.ofNat 16 ((if m < 0 then 2 ^ 15 else 0)
      + if m.natAbs < 1024 then m.natAbs else (e + 25).toNat * 1024 + (m.natAbs - 1024)) := by
  have ha : m.natAbs ≠ 0 := by simpa using hm
  have hpow : (0 : Int) < (2 ^ k : Nat) := by exact_mod_cast Nat.two_pow_pos k
  have habs : (m * (2 ^ k : Nat)).natAbs = m.natAbs * 2 ^ k := by rw [Int.natAbs_mul, Int.natAbs_natCast]
  have hsign : (m * (2 ^ k : Nat) < 0 ∨ (m * (2 ^ k : Nat) = 0 ∧ neg = true)) ↔ m < 0 := by
    simp [hm, mul_neg_iff]
  unfold halfRound
  dsimp only
  rw [habs, log2_mul_two_pow ha, hlog, if_neg (by positivity)]
  rw [show max (e - (k : Int) + ((23 + 1 : Nat) : Int) - 1 - 10) (-24) = e by omega,
    if_pos (by omega : e - (k : Int) < e),
    show (e - (e - (k : Int))).toNat = k by omega, shiftRne_mul_two_pow, if_neg (by omega : ¬ m.natAbs = 2048)]
  dsimp only
  rw [if_neg (by simpa using he), if_congr hsign rfl rfl]
  split
  · rfl
  · rw [Nat.add_assoc]

/-- Sign, exponent field and significand of a binary16. -/
theorem half_fields (h : BitVec 16) :
    h.toNat = (if h.getLsbD 15 then 2 ^ 15 else 0) + (h.toNat / 1024 % 32 * 1024 + h.toNat % 1024) := by
  have hlt := h.isLt
  rw [BitVec.getLsbD, Nat.testBit_eq_decide_div_mod_eq]
  simp only [decide_eq_true_eq]
  split <;> omega

/-- A signed magnitude goes to FP32 and comes back to its binary16. -/
theorem halfOfFp_fpRound {a : Nat} {e : Int} (neg : Bool) (ha : a ≠ 0) (hlt : a < 2048) (hlo : -24 ≤ e) (he : e ≤ 5)
    (hgrid : e = -24 ∨ 1024 ≤ a) :
    halfOfFp (fpRound (if neg then -(a : Int) else (a : Int)) e neg) = BitVec.ofNat 16 ((if neg then 2 ^ 15 else 0)
      + if a < 1024 then a else (e + 25).toNat * 1024 + (a - 1024)) := by
  have hlog : a.log2 < 11 := (Nat.log2_lt ha).mpr hlt
  have hnormal : 1024 ≤ a → a.log2 = 10 := fun h => (Nat.log2_eq_iff ha).mpr ⟨h, hlt⟩
  generalize hm : (if neg then -(a : Int) else (a : Int)) = m
  have habs : m.natAbs = a := by rw [← hm]; split <;> simp
  have hneg : m < 0 ↔ neg = true := by rw [← hm]; split <;> simp_all <;> omega
  have hm0 : m ≠ 0 := by rw [← Int.natAbs_ne_zero, habs]; exact ha
  obtain ⟨hval, -⟩ := fpVal_fpRound (m := m) (e := e) neg hm0 (by rw [habs]; omega) (by rw [habs]; omega)
    (k := 23 - a.log2) (by rw [habs]; omega)
  unfold halfOfFp
  rw [hval]
  dsimp only
  rw [halfRound_scaled _ hm0 (by omega) (by rw [habs]; omega) (by rw [habs]; omega) (by rw [habs]; exact hlt) he, habs]
  simp only [hneg]

/-- Settles O21: a finite binary16 stands on the grid of its exponent, which FP32 holds exactly. -/
theorem halfConversionIsExact : Obligations.HalfConversionIsExact := by
  intro h hfinite
  refine Eq.trans ?_ ((BitVec.ofNat_toNat 16 h).trans (BitVec.setWidth_eq h))
  rw [half_fields h]
  have he : h.toNat / 1024 % 32 < 32 := Nat.mod_lt _ (by decide)
  have hf : h.toNat % 1024 < 1024 := Nat.mod_lt _ (by decide)
  unfold fpOfHalf
  dsimp only
  generalize h.toNat / 1024 % 32 = e at *
  generalize h.toNat % 1024 = f at *
  generalize h.getLsbD 15 = neg
  split
  · next hsub =>
    by_cases hzero : f = 0
    · subst hzero hsub
      cases neg <;> decide
    · rw [halfOfFp_fpRound neg hzero (by omega) (by omega) (by omega) (.inl rfl), if_pos hf, hsub, Nat.zero_mul, Nat.zero_add]
  · next hnormal =>
    rw [halfOfFp_fpRound (a := f + 1024) neg (by omega) (by omega) (by omega) (by omega) (.inr (by omega)),
      if_neg (by omega : ¬ f + 1024 < 1024), Nat.add_sub_cancel, show ((e : Int) - 25 + 25).toNat = e by omega]

end Sys2Proof.Machine
end

/-! # Key slots are written once (chapter 11)

What each of the five commands that program slots or records does to them. -/

section
namespace Sys2Proof.Machine

open Sys2Proof

variable {s t u : State}

/-! ### What is written once -/

/-- No slot that is not blank changes, the blank slots are written from the lowest on, and no signer record that is not blank
changes. -/
structure WrittenOnce (s u : State) : Prop where
  slots : ∀ i : Fin 8, s.sec.slots[i] ≠ .blank → u.sec.slots[i] = s.sec.slots[i]
  lowest : ∀ i : Fin 8, u.sec.slots[i] ≠ s.sec.slots[i] → ∀ j : Fin 8, j < i → u.sec.slots[j] ≠ .blank
  signers : ∀ i : Fin 2, s.sec.signers[i] ≠ .blank → u.sec.signers[i] = s.sec.signers[i]

theorem WrittenOnce.of_eq (hslots : u.sec.slots = s.sec.slots) (hsigners : u.sec.signers = s.sec.signers) :
    WrittenOnce s u where
  slots _ _ := by rw [hslots]
  lowest _ h := absurd (by rw [hslots]) h
  signers _ _ := by rw [hsigners]

theorem WrittenOnce.trans (h : WrittenOnce s t) (k : WrittenOnce t u) : WrittenOnce s u where
  slots i hi := by
    have hti := h.slots i hi
    rw [k.slots i (hti ▸ hi), hti]
  lowest i hi j hj := by
    by_cases hui : u.sec.slots[i] = t.sec.slots[i]
    · have htj := h.lowest i (hui ▸ hi) j hj
      rw [k.slots j htj]
      exact htj
    · exact k.lowest i hui j hj
  signers i hi := by
    have hti := h.signers i hi
    rw [k.signers i (hti ▸ hi), hti]

/-- What is written once is, and F600 stays active. -/
structure KeepsSlots (s u : State) : Prop extends WrittenOnce s u where
  refused : keyRefused s.status.active = true → keyRefused u.status.active = true

theorem KeepsSlots.trans (h : KeepsSlots s t) (k : KeepsSlots t u) : KeepsSlots s u where
  toWrittenOnce := h.toWrittenOnce.trans k.toWrittenOnce
  refused := k.refused ∘ h.refused

/-- The parts that are neither the slots nor, with what a reset alone changes, F600. -/
def slotParts (p : Part) : Bool := !(p == .slots || p == .reset)

theorem KeepsSlots.of_evolves (h : Evolves slotParts s u) : KeepsSlots s u where
  toWrittenOnce := .of_eq (h.same .slots rfl).1 (h.same .slots rfl).2
  refused := by rw [h.keyRefused rfl]; exact id

theorem KeepsSlots.refl (s : State) : KeepsSlots s s := .of_evolves (.refl s)

theorem KeepsSlots.of_view (hv : view slotParts u = view slotParts s) : KeepsSlots s u := .of_evolves (.of_view hv (.refl s))

theorem KeepsSlots.upTo (n : Nat) (s : State) : KeepsSlots s (s.upTo n) := .of_evolves (.advance _ s)

theorem keepsSlots_ite {c : Prop} [Decidable c] {x y : State} (hx : KeepsSlots s x) (hy : KeepsSlots s y) :
    KeepsSlots s (if c then x else y) := by
  split
  · exact hx
  · exact hy

/-! ### What writes a slot -/

/-- The lowest blank slot written. -/
theorem keepsSlots_setSlot {i : Fin 8} {k : KeySlot} (hlow : lowestBlank s = some i) (hk : k ≠ .blank) :
    KeepsSlots s (s.setSlot i k) where
  slots j hj := by
    obtain ⟨hblank, -⟩ := lowestBlank_eq_some.mp hlow
    have hij : i ≠ j := fun h => hj (h ▸ hblank)
    simp only [State.setSlot_slots, Fin.getElem_fin]
    exact Vector.getElem_set_ne _ _ (by simpa [Fin.val_inj] using hij)
  lowest j hj m hm hblank := by
    obtain ⟨him, -⟩ := (setSlot_blank_iff hlow hk).mp hblank
    refine hj ?_
    simp only [State.setSlot_slots, Fin.getElem_fin]
    exact Vector.getElem_set_ne _ _ (by have := him.trans hm; simp only [Fin.lt_def] at this; omega)
  signers _ _ := rfl
  refused := id

theorem keepsSlots_programOnce (d spoil node) (s : State) : KeepsSlots s (programOnce d spoil node s).2 := by
  cases hlow : lowestBlank s with
  | none =>
    rw [programOnce_full d node hlow]
    exact .refl s
  | some i =>
    cases spoil with
    | false =>
      rw [programOnce_good d node hlow]
      exact keepsSlots_setSlot hlow (by nofun)
    | true =>
      rw [programOnce_spoiled d node hlow]
      exact (keepsSlots_setSlot (k := .spoiled) hlow nofun).trans (.of_view (pairingFault_view (s.setSlot i .spoiled) 4 node rfl))

theorem keepsSlots_programKey (d spoil node) (s : State) : KeepsSlots s (programKey d spoil node s).2 := by
  have hfirst := keepsSlots_programOnce d spoil.1 node s
  have hretry := hfirst.trans (keepsSlots_programOnce d spoil.2 node (programOnce d spoil.1 node s).2)
  unfold programKey
  extract_lets a b
  have hb : KeepsSlots s b.2 := by
    dsimp only [b, a]
    split
    · exact hfirst
    · split
      · exact hretry
      · exact hfirst
  clear_value b
  split
  · exact hb.trans (.of_view rfl)
  · exact hb

theorem isActive_slotsUsed (s : State) : isActive 0xF600#16 0 (slotsUsed s) = true :=
  (isActive_raise ..).mpr (.inl ⟨by decide, rfl⟩)

theorem keepsSlots_slotsUsed (s : State) : KeepsSlots s (slotsUsed s) where
  toWrittenOnce := .of_eq (by simp [slotsUsed]) (by simp [slotsUsed])
  refused _ := isActive_slotsUsed s

theorem keepsSlots_createKey (spoil) (s : State) : KeepsSlots s (createKey spoil s) := by
  unfold createKey
  split
  · exact keepsSlots_slotsUsed s
  · exact KeepsSlots.trans (t := { s with freeCtr := s.freeCtr + 1 }) (.of_view rfl) (keepsSlots_programKey ..)

theorem keepsSlots_storeKey (w k spoil) (s : State) : KeepsSlots s (storeKey w k spoil s).2.2 := by
  unfold storeKey
  extract_lets ak held tk d r
  have hr : KeepsSlots s r.2 := keepsSlots_programKey ..
  clear_value r held
  split
  · exact .refl s
  · split
    · exact keepsSlots_slotsUsed s
    · split
      · exact hr
      · exact hr

/-- A blank signer record written. -/
theorem keepsSlots_setSigner {i : Fin 2} (k : SignerRec) (hi : s.sec.signers[i] = .blank) :
    KeepsSlots s { s with sec := { s.sec with signers := s.sec.signers.set i k } } where
  slots _ _ := rfl
  lowest _ h := absurd rfl h
  signers j hj := by
    have hij : i ≠ j := fun h => hj (h ▸ hi)
    simp only [Fin.getElem_fin]
    exact Vector.getElem_set_ne _ _ (by simpa [Fin.val_inj] using hij)
  refused := id

theorem keepsSlots_recordSigner (h spoil) (s : State) : KeepsSlots s (recordSigner h spoil s) := by
  unfold recordSigner
  split
  · exact .refl s
  · extract_lets put a
    have ha : KeepsSlots s a := by
      dsimp only [a]
      split
      · next hblank => exact keepsSlots_setSigner _ (by simpa using hblank)
      · exact .refl s
    split
    · exact ha
    · next hblank =>
      exact ha.trans (keepsSlots_setSigner (i := 1) _ (by simp at hblank; exact hblank.2))

theorem keepsSlots_verifySlot (spoil b) (s : State) : KeepsSlots s (verifySlot spoil s b) := by
  unfold verifySlot
  extract_lets i h s₁ s₂
  have h₂ : KeepsSlots s s₂ := .of_view (by
    dsimp only [s₂, s₁]
    split <;> simp [↓signerFault_view, ↓setSlot_view, slotParts])
  clear_value s₂
  split
  · exact (h₂.trans (keepsSlots_recordSigner h spoil s₂)).trans (.of_view rfl)
  · exact h₂

theorem keepsSlots_verifyBoth (spoil) (s : State) : KeepsSlots s (verifyBoth spoil s) := by
  have hfold (l : List Bool) (u : State) (hu : KeepsSlots s u) : KeepsSlots s (l.foldl (verifySlot spoil) u) := by
    induction l generalizing u with
    | nil => exact hu
    | cons b l ih => exact ih _ (hu.trans (keepsSlots_verifySlot spoil b u))
  have hall := hfold (slotOrder s) s (.refl s)
  dsimp only [verifyBoth]
  generalize (slotOrder s).foldl (verifySlot spoil) s = t at hall ⊢
  split
  · split
    · exact hall
    · exact hall.trans (.of_view (slotFault_view t _ _ rfl))
  · exact hall.trans (.of_view (noImageFault_view t rfl))

/-! ### The five commands that may write a slot or a record -/

theorem execKeyCreate_keepsSlots (spoil) (s : State) : Answers (execKeyCreate spoil s) (KeepsSlots s) := by
  unfold execKeyCreate
  split
  · exact .refl s
  · next c _ =>
    have hdue : KeepsSlots s { s.upTo c with sec := { (s.upTo c).sec with createAt := none } } :=
      (KeepsSlots.upTo c s).trans (.of_view rfl)
    dsimp only
    rw [answers_ite]
    split
    · exact hdue.trans (keepsSlots_createKey ..)
    · exact hdue

theorem execKeyRenew_keepsSlots (spoil) (s : State) : Answers (execKeyRenew spoil s) (KeepsSlots s) := by
  unfold execKeyRenew
  dsimp only
  rw [answers_ite]
  split
  · exact (KeepsSlots.upTo _ s).trans (keepsSlots_createKey ..)
  · exact .refl s

theorem execImageVerify_keepsSlots (t spoil) (s : State) : Answers (execImageVerify t spoil s) (KeepsSlots s) := by
  have htime := KeepsSlots.upTo t s
  have hboth : KeepsSlots s (if (s.upTo t).mem.flashAbsent then noImageFault (s.upTo t) else verifyBoth spoil (s.upTo t)) :=
    keepsSlots_ite (htime.trans (.of_view (noImageFault_view _ rfl))) (htime.trans (keepsSlots_verifyBoth ..))
  unfold execImageVerify
  dsimp only
  rw [answers_ite]
  split
  · exact htime
  · exact hboth.trans (.of_view rfl)

theorem execSlotWriteComplete_keepsSlots (t marker fails spoil) (s : State) :
    Answers (execSlotWriteComplete t marker fails spoil s) (KeepsSlots s) := by
  have hadv : KeepsSlots s (advanceWrite (s.upTo t)) := (KeepsSlots.upTo t s).trans (.of_view (advanceWrite_view _ rfl))
  unfold execSlotWriteComplete
  dsimp only
  generalize advanceWrite (s.upTo t) = v at hadv ⊢
  split
  · next w _ =>
    split
    · exact hadv
    · split
      · exact hadv.trans (.of_view (by simp [↓checkFault_view, ↓failWrite_view, ↓setSlot_view, slotParts]))
      · split
        · exact hadv.trans (.of_view (by simp [↓failWrite_view, ↓opFault_view, slotParts]))
        · exact (hadv.trans (keepsSlots_recordSigner ..)).trans (.of_view (completeWrite_view _ _ _ _ rfl))
  · exact hadv

theorem keepsSlots_verified (f) {k : State → State} (hk : ∀ s, KeepsSlots s (k s)) (s : State) :
    KeepsSlots s (verified f k s) := by
  unfold verified
  split
  · exact (KeepsSlots.of_view (noteSci_view _ _ rfl)).trans (hk _)
  · exact .of_view (integrityFault_view _ _ rfl)
  · exact .refl s

theorem keepsSlots_endpointIn (f) {k : State → State} (hk : ∀ s, KeepsSlots s (k s)) (s : State) :
    KeepsSlots s (endpointIn f k s) := by
  unfold endpointIn crossIn
  split
  · split
    · exact .of_view rfl
    · exact hk s
  · exact .refl s

theorem execKeyFrameReceive_keepsSlots (t f spoil fails) (s : State) :
    Answers (execKeyFrameReceive t f spoil fails s) (KeepsSlots s) := by
  have htime := KeepsSlots.upTo t s
  unfold execKeyFrameReceive
  extract_lets s₁
  split
  · next b w _ _ =>
    extract_lets k
    rw [answers_ite]
    split
    · exact htime
    · refine htime.trans (keepsSlots_endpointIn f (fun v => keepsSlots_verified f (fun x => ?_) v) s₁)
      extract_lets p signed shared kek s₂
      have h₂ : KeepsSlots x s₂ := .of_view (endTaking_view x rfl)
      clear_value s₂
      split
      · exact h₂.trans (.of_view (pairingFault_view _ _ _ rfl))
      · split
        · exact h₂.trans (.of_view (pairingFault_view _ _ _ rfl))
        · next y _ =>
          have h₃ := h₂.trans (keepsSlots_storeKey w y spoil s₂)
          generalize storeKey w y spoil s₂ = stored at h₃ ⊢
          exact h₃.trans (.of_view (by simp [↓sendDone_view, ↓view_ite, ↓pairRecord_view, slotParts]))
  · exact htime

theorem Answers.of_next {r : Result} {Q : State → Prop} (h : Answers r Q) (hr : r = .next u) : Q u := by
  subst hr
  exact h

/-- The commands that may write slots or records. -/
def writesSlots (c : Instr) : Bool :=
  match c with
  | .imageVerify _ _ | .keyCreate _ | .keyRenew _ | .keyFrameReceive _ _ _ _ | .slotWriteComplete _ _ _ _ => true
  | _ => false

theorem slots_in_footprint (c : Instr) : (footprint c).2.contains .slots = writesSlots c := by cases c <;> rfl

theorem exec_keepsSlots {c : Instr} (hc : writesSlots c = true) (hu : exec c s = .next u) : KeepsSlots s u := by
  unfold writesSlots at hc
  split at hc
  · exact (execImageVerify_keepsSlots _ _ s).of_next hu
  · exact (execKeyCreate_keepsSlots _ s).of_next hu
  · exact (execKeyRenew_keepsSlots _ s).of_next hu
  · exact (execKeyFrameReceive_keepsSlots _ _ _ _ s).of_next hu
  · exact (execSlotWriteComplete_keepsSlots _ _ _ _ s).of_next hu
  · cases hc

/-- Settles O7: five commands program slots or records, and each programs blank ones, the slots from the lowest on; any other
command leaves them all. -/
theorem keySlotsAreWriteOnce : Obligations.KeySlotsAreWriteOnce := by
  intro c s u hu
  have hwritten : WrittenOnce s u := by
    by_cases hslots : writesSlots c = true
    · exact (exec_keepsSlots hslots hu).toWrittenOnce
    · rw [← slots_in_footprint] at hslots
      have hown : ownParts c .slots = false := ownParts_eq_false (by simpa using hslots) nofun
      have hsame : Part.slots.same s u := by
        by_cases hc : (footprint c).2.contains .reset = true
        · obtain ⟨hon, -⟩ | h := exec_held_or_evolves hc hu
          · exact hon.evolves.same .slots rfl
          · exact h.same .slots hown
        · exact (exec_evolves (by simpa using hc) hu).same .slots hown
      exact .of_eq hsame.1 hsame.2
  exact ⟨hwritten.slots, hwritten.lowest, hwritten.signers⟩

end Sys2Proof.Machine
end

/-! # F600 and the key in force (chapter 11)

With no blank slot a key is refused; the set-up takes the last slot that may be in force. -/

section
namespace Sys2Proof.Machine

open Sys2Proof

variable {s u : State}

/-! ### F600 stays -/

/-- The commands whose own rule hides F600 leave the active faults, or raise others. -/
theorem execFlashBringup_refused (t tries) (s : State) : Answers (execFlashBringup t tries s) fun u =>
    keyRefused s.status.active = true → keyRefused u.status.active = true := by
  have htime : keyRefused (s.upTo t).status.active = keyRefused s.status.active :=
    (Evolves.advance (P := slotParts) _ s).keyRefused rfl
  unfold execFlashBringup
  dsimp only
  rw [answers_ite, ← htime]
  generalize s.upTo t = s
  split
  · exact id
  · split
    · exact fun h => (isActive_raise ..).mpr (.inr h)
    · have hscans (v : State) : (scanService (scanPairs (scanReservations v))).status = v.status := by
        have h₁ := eq_of_hide (b := false) (congrArg View.status (scanService_view (P := (· != .status)) (scanPairs (scanReservations v)) rfl)) rfl
        have h₂ := eq_of_hide (b := false) (congrArg View.status (scanPairs_view (P := (· != .status)) (scanReservations v) rfl)) rfl
        exact h₁.trans h₂
      rw [answers_next, hscans]
      dsimp only [scanLog]
      split
      · exact fun h => (isActive_raise ..).mpr (.inr h)
      · exact id

theorem quietInstr_active (ir bits) (s : State) : (quietInstr ir bits s).status.active = s.status.active := by
  dsimp only [quietInstr]
  split <;> rfl

/-- The commands that end a reset or scan the rings let F600 stay. -/
theorem exec_refused_of_likeReset {c : Instr} (hc : likeReset c = true) (hu : exec c s = .next u)
    (h : keyRefused s.status.active = true) : keyRefused u.status.active = true := by
  have htime (n : Nat) : keyRefused (s.upTo n).status.active = true :=
    ((Evolves.advance (P := slotParts) _ s).keyRefused rfl).trans h
  unfold likeReset at hc
  split at hc
  · next a b =>
    change execResetRelease a b s = _ at hu
    dsimp only [execResetRelease] at hu
    split at hu
    · cases hu; exact htime _
    · cases hu; exact htime _
  · cases hu
    rw [quietInstr_active]
    exact htime _
  · cases hu
    rw [quietInstr_active]
    exact htime _
  · next n op =>
    change execBypass n op s = _ at hu
    dsimp only [execBypass] at hu
    split at hu
    · cases hu; exact htime _
    · cases hu
      rw [quietInstr_active]
      exact htime _
  · cases hu
    rw [quietInstr_active]
    exact htime _
  · exact (execFlashBringup_refused _ _ s).of_next hu h
  · cases hc

theorem exec_refused {c : Instr} (hu : exec c s = .next u) (h : keyRefused s.status.active = true) :
    keyRefused u.status.active = true ∨ u.start.phase = .held := by
  by_cases hslots : writesSlots c = true
  · exact .inl ((exec_keepsSlots hslots hu).refused h)
  by_cases hlike : likeReset c = true
  · exact .inl (exec_refused_of_likeReset hlike hu h)
  have hown : (ownParts c .slots || ownParts c .reset) = false := by
    rw [← slots_in_footprint] at hslots
    simpa [ownParts] using ⟨by simpa using hslots, by simpa using hlike⟩
  by_cases hc : (footprint c).2.contains .reset = true
  · obtain ⟨hon, -⟩ | hev := exec_held_or_evolves hc hu
    · exact .inr hon.phase
    · exact .inl ((hev.keyRefused hown).trans h)
  · exact .inl (((exec_evolves (by simpa using hc) hu).keyRefused hown).trans h)

/-! ### No blank slot -/

theorem createKey_of_none (spoil) (h : ∀ i : Fin 8, s.sec.slots[i] ≠ .blank) : createKey spoil s = slotsUsed s := by
  rw [createKey, lowestBlank_eq_none.mpr h]

theorem slotsUsed_sec (s : State) : (slotsUsed s).sec = s.sec := raise_sec ..

/-- Settles O16: with no blank slot the key drawn is refused with F600 and nothing is programmed; and F600 ends with a reset alone. -/
theorem noBlankSlotRefusesAKey : Obligations.NoBlankSlotRefusesAKey := by
  refine ⟨?_, ?_, ?_⟩
  · intro s c y hdue hleader hmode hsafe hforce hnext hfull
    refine .of _ _ _ ((exec_keyCreate_of_due y hdue hleader hmode hsafe hforce hnext).trans
      (congrArg _ (createKey_of_none (s := keyDueAt c s) y hfull))) ?_
    rw [slotsUsed_sec]
    exact ⟨rfl, hforce, hnext, isActive_slotsUsed _⟩
  · intro s y hpair hnow hmode hleader hforce hearly hfull
    rw [runs_iff]
    show Answers (execKeyRenew y s) _
    unfold execKeyRenew
    dsimp only
    rw [if_pos (by simp [hpair, hnow, hmode, hleader, hforce, hearly]), createKey_of_none _ (by simpa using hfull), answers_next,
      slotsUsed_sec]
    exact ⟨by simp, by simp, by simp, isActive_slotsUsed _⟩
  · intro c s u h hu
    obtain h | h := exec_refused hu h
    · exact .inl h
    · exact .inr (.inl (by rw [h]; decide))

/-! ### The key in force at the set-up -/

/-- The last element of a rising list that a test accepts. -/
theorem foldl_last_eq_some {n : Nat} (p : Fin n → Bool) (l : List (Fin n)) (hl : l.Pairwise (· < ·)) (b : Option (Fin n)) (i : Fin n) :
    l.foldl (fun b i => if p i then some i else b) b = some i ↔
      (i ∈ l ∧ p i = true ∧ ∀ j ∈ l, i < j → p j = false) ∨ (b = some i ∧ ∀ j ∈ l, p j = false) := by
  induction l generalizing b with
  | nil => simp
  | cons x l ih =>
    obtain ⟨hx, hl⟩ := List.pairwise_cons.mp hl
    rw [List.foldl_cons, ih hl]
    grind

/-- A slot that may be in force: valid, of the strap's tenant and not retired (R251). -/
def mayForce (s : State) (i : Fin 8) : Bool := (s.sec.slots[i].data).any (fun d => d.tenant.val == tenant s) && !s.sec.retired[i]

theorem mayForce_iff (s : State) (i : Fin 8) :
    mayForce s i = true ↔ ∃ d, s.sec.slots[i] = .valid d ∧ d.tenant.val = tenant s ∧ s.sec.retired[i] = false := by
  unfold mayForce
  cases s.sec.slots[i] <;> simp [KeySlot.data]

theorem chooseKey_eq (s : State) :
    chooseKey s = (List.finRange 8).foldl (fun best i => if mayForce s i then some i else best) none := by
  unfold chooseKey mayForce
  congr 1
  funext best i
  cases s.sec.slots[i].data <;> simp

theorem chooseKey_eq_some (s : State) (i : Fin 8) :
    chooseKey s = some i ↔ mayForce s i = true ∧ ∀ j : Fin 8, i < j → mayForce s j = false := by
  rw [chooseKey_eq, foldl_last_eq_some _ _ (List.pairwise_lt_finRange 8)]
  simp

theorem chooseKey_eq_none (s : State) : chooseKey s = none ↔ ∀ i : Fin 8, mayForce s i = false := by
  rw [Option.eq_none_iff_forall_ne_some]
  constructor
  · intro h i
    by_contra hi
    obtain ⟨j, hj, hmax⟩ := Finset.exists_maximal (s := Finset.univ.filter (mayForce s · = true)) ⟨i, by simpa using hi⟩
    refine h j ((chooseKey_eq_some s j).mpr ⟨by simpa using hj, fun k hk => ?_⟩)
    by_contra hk'
    exact absurd (hmax (by simpa using hk') hk.le) (not_le.mpr hk)
  · intro h i hi
    rw [chooseKey_eq_some, h i] at hi
    exact absurd hi.1 nofun

/-- Settles O17: the set-up reads the slots and takes the last one that may be in force. -/
theorem keyInForceAtSetup : Obligations.KeyInForceAtSetup := by
  intro s t hawake hmode hbase hsetup hcheck hpsram fits
  have hfits (i : Fin 8) : mayForce s i = true ↔ fits i := mayForce_iff s i
  have hnot (i : Fin 8) : mayForce s i = false ↔ ¬ fits i := by rw [← hfits, Bool.not_eq_true]
  rw [runs_iff]
  show Answers (execDataPathSetup t true s) _
  unfold execDataPathSetup
  dsimp only
  rw [if_neg (by simp [hawake, hmode, Option.isNone_eq_false_iff.mpr hbase, hsetup, hcheck, hpsram]), if_neg (by simp)]
  refine ⟨rfl, fun i => ?_, ?_⟩
  · simp only [← hfits, Bool.not_eq_true]
    exact chooseKey_eq_some s i
  · simp only [← hnot]
    exact chooseKey_eq_none s

end Sys2Proof.Machine
end

/-! # What survives a reset (chapter 3)

An active device that a command leaves held was reset by it, and a reset retains what the statement lists. -/

section
namespace Sys2Proof.Machine

open Sys2Proof

variable {s u : State}

theorem quietInstr_phase (ir bits) (h : s.start.phase = .active) : (quietInstr ir bits s).start.phase = .active := by
  dsimp only [quietInstr]
  split
  · rfl
  · exact h

/-- The end of a reset, and the scan of the rings, leave an active device active. -/
theorem exec_active_of_likeReset {c : Instr} (hc : likeReset c = true) (hu : exec c s = .next u)
    (h : s.start.phase = .active) : u.start.phase = .active := by
  have hquiet (ir bits n) : (quietInstr ir bits (irScan (s.upTo n))).start.phase = .active := quietInstr_phase _ _ h
  unfold likeReset at hc
  split at hc
  · next a b =>
    change execResetRelease a b s = _ at hu
    dsimp only [execResetRelease] at hu
    split at hu
    · cases hu; exact h
    · cases hu; rfl
  · cases hu
    exact hquiet ..
  · cases hu
    exact hquiet ..
  · next n op =>
    change execBypass n op s = _ at hu
    dsimp only [execBypass] at hu
    split at hu
    · cases hu; exact h
    · cases hu; exact hquiet ..
  · cases hu
    exact quietInstr_phase _ _ h
  · have hsame := (exec_evolves rfl hu).same .start rfl
    exact (congrArg StartUnit.phase hsame).trans h
  · cases hc

/-- An active device that a command leaves held was reset by it. -/
theorem exec_retained {c : Instr} (hu : exec c s = .next u) (hs : s.start.phase = .active) (hheld : u.start.phase = .held)
    (hc : ∀ t x, c ≠ .powerOnReset t true x) : Retained s u := by
  by_cases hlike : likeReset c = true
  · exact absurd (hheld.symm.trans (exec_active_of_likeReset hlike hu hs)) nofun
  have hown : ownParts c .reset = false := by simpa [ownParts] using hlike
  have hactive (h : Evolves (ownParts c) s u) : Retained s u :=
    absurd ((hheld.symm.trans (h.phase hown)).trans hs) nofun
  by_cases hreset : (footprint c).2.contains .reset = true
  · obtain ⟨-, h⟩ | h := exec_held_or_evolves hreset hu
    · exact h hc
    · exact hactive h
  · exact hactive (exec_evolves (by simpa using hreset) hu)

/-- Settles O9: every reset goes through `resetDevice`, which keeps what is listed. -/
theorem retentionSurvivesResets : Obligations.RetentionSurvivesResets := by
  intro c s u hu hs hheld hc
  obtain ⟨hev, hretired, hmap⟩ := exec_retained hu hs hheld hc
  have hslots := hev.same .slots rfl
  refine ⟨hev.same .history rfl, hslots.1, hslots.2, hretired, hmap, fun a => ?_⟩
  rw [show u.mem.flash = s.mem.flash from hev.same .flash rfl]

end Sys2Proof.Machine
end

/-! # One memory and one ring (chapters 4 and 19)

What a store leaves of a memory in canonical form: its form, and every byte outside a region. -/

section
namespace Sys2Proof.Machine

open Sys2Proof


/-! ### One memory -/

/-- A memory in canonical form stays so, and is changed stretch a region at most. -/
def Kept (d : Byte) (R : Nat → Prop) (m n : List Host.Cell) : Prop :=
  Memory.wf d m = true → Memory.wf d n = true ∧ ∀ a, ¬ R a → peek d n a = peek d m a

/-- The addresses of a stretch. -/
def stretch (lo len : Nat) (a : Nat) : Prop := lo ≤ a ∧ a < lo + len

/-- Every address. -/
def anywhere (_ : Nat) : Prop := True

/-- No address. -/
def nowhere (_ : Nat) : Prop := False

section
variable {d : Byte} {R Q : Nat → Prop} {m n k : List Host.Cell}

theorem Kept.refl : Kept d R m m := fun h => ⟨h, fun _ _ => rfl⟩

theorem Kept.of_eq (h : n = m) : Kept d R m n := h ▸ .refl

theorem Kept.trans (h : Kept d R m n) (g : Kept d R n k) : Kept d R m k := fun hm =>
  have hn := h hm
  have hk := g hn.1
  ⟨hk.1, fun a ha => (hk.2 a ha).trans (hn.2 a ha)⟩

theorem Kept.mono (h : Kept d R m n) (hRQ : ∀ a, R a → Q a) : Kept d Q m n := fun hm =>
  ⟨(h hm).1, fun a ha => (h hm).2 a fun hR => ha (hRQ a hR)⟩

theorem Kept.anywhere (h : Kept d R m n) : Kept d Machine.anywhere m n := h.mono fun _ _ => trivial

theorem kept_poke (x : Nat) (v : Byte) (hx : R x) : Kept d R m (poke d m x v) := fun hm =>
  ⟨poke_wf d m x v hm, fun a ha => by rw [peek_poke d m hm, if_neg (fun h : a = x => ha (h ▸ hx))]⟩

theorem kept_pokes (l : List Byte) (x : Nat) (hx : ∀ a, stretch x l.length a → R a) : Kept d R m (pokes d m x l) := by
  induction l generalizing m x with
  | nil => exact .refl
  | cons b l ih =>
    exact (kept_poke x b (hx x (by simp [stretch]))).trans
      (ih (x + 1) fun a ha => hx a (by simp only [stretch, List.length_cons] at ha ⊢; omega))

theorem kept_programs (l : List Byte) (x : Nat) (hx : ∀ a, stretch x l.length a → R a) : Kept 0xFF#8 R m (programs m x l) := by
  induction l generalizing m x with
  | nil => exact .refl
  | cons b l ih =>
    exact (kept_poke x _ (hx x (by simp [stretch]))).trans
      (ih (x + 1) fun a ha => hx a (by simp only [stretch, List.length_cons] at ha ⊢; omega))

/-- What a test of addresses lets stand. -/
theorem peek_filter (q : Nat → Bool) {a lo : Nat} (hm : cellsFrom d lo m = true) :
    peek d (m.filter fun c => q c.1) a = if q a then peek d m a else d := by
  induction m generalizing lo with
  | nil => simp [peek]
  | cons c m ih =>
    obtain ⟨x, b⟩ := c
    simp only [cellsFrom, Bool.and_eq_true, decide_eq_true_eq] at hm
    have ih := ih hm.2
    by_cases hx : a = x
    · subst hx
      by_cases hq : q a = true
      · simp [hq, peek]
      · rw [List.filter_cons_of_neg (by simpa using hq), ih, if_neg hq]
        simp [hq]
    · by_cases hq : q x = true
      · rw [List.filter_cons_of_pos (by simpa using hq)]
        simp only [peek, hx, if_false]
        exact ih
      · rw [List.filter_cons_of_neg (by simpa using hq), ih]
        simp only [peek, hx, if_false]

theorem kept_filter (q : Nat → Bool) (hq : ∀ a, q a = false → R a) : Kept d R m (m.filter fun c => q c.1) := fun hm =>
  ⟨filter_wf d _ m hm, fun a ha => by
    rw [peek_filter q hm, if_pos]
    by_contra h
    exact ha (hq a (by simpa using h))⟩

theorem kept_wipe (x len : Nat) (hx : ∀ a, stretch x len a → R a) : Kept d R m (wipe m x len) :=
  kept_filter (fun a => decide (a < x) || decide (x + len ≤ a)) fun a ha => hx a (by
    simp only [Bool.or_eq_false_iff, decide_eq_false_iff_not] at ha
    simp only [stretch]
    omega)

theorem kept_foldl {α : Type} (f : List Host.Cell → α → List Host.Cell) (hf : ∀ m x, Kept d R m (f m x)) (l : List α) :
    Kept d R m (l.foldl f m) := by
  induction l generalizing m with
  | nil => exact .refl
  | cons x l ih => exact (hf m x).trans ih

theorem kept_ite {c : Prop} [Decidable c] (h : Kept d R m n) (g : Kept d R m k) : Kept d R m (if c then n else k) := by
  split
  · exact h
  · exact g

end

/-! ### A ring -/

/-- A ring whose units are of whole slots. -/
structure Ring.Whole (r : Ring) : Prop where
  unit : r.size * r.perUnit = 4096
  count : r.perUnit * (r.count / r.perUnit) = r.count
  some : 0 < r.count / r.perUnit

/-- The addresses of a ring. -/
def Ring.holds (r : Ring) : Nat → Prop := stretch r.base (r.size * r.count)

section
variable {r : Ring} {m : List Host.Cell} {k next : Nat}

theorem Ring.Whole.perUnit_pos (h : r.Whole) : 0 < r.perUnit := Nat.pos_of_ne_zero fun h0 => by
  have := h.unit
  rw [h0] at this
  omega

theorem Ring.Whole.size_pos (h : r.Whole) : 0 < r.size := Nat.pos_of_ne_zero fun h0 => by
  have := h.unit
  rw [h0] at this
  omega

/-- The place and the flash that a record is programmed into. -/
theorem nextPlace_lt (h : r.Whole) (hnext : next ≤ r.count) : (nextPlace r m next).1 < r.count := by
  have hpos := h.perUnit_pos
  have hcount := h.count
  have hsome := h.some
  generalize hn : r.count / r.perUnit = n at hcount hsome
  have hbelow {u j : Nat} (hu : u < n) (hj : j < r.perUnit) : u * r.perUnit + j < r.count := by
    rw [← hcount]
    nlinarith
  unfold nextPlace
  split
  · simpa [Ring.first] using hbelow hsome hpos
  · unfold Ring.after
    dsimp only
    split
    · next j hj =>
      have hj := List.mem_range.mp (List.mem_of_find?_eq_some hj)
      refine hbelow ?_ hj
      rw [Nat.div_lt_iff_lt_mul hpos, Nat.mul_comm, hcount]
      omega
    · rw [hn]
      have := hbelow (Nat.mod_lt ((next - 1) / r.perUnit + 1) hsome) hpos
      dsimp only
      omega

theorem kept_unit (h : r.Whole) {v : Nat} (hv : v < r.count / r.perUnit) :
    Kept 0xFF#8 r.holds m (wipe m (r.base + 4096 * v) 4096) :=
  kept_wipe _ _ fun a ha => by
    have hle : 4096 * v + 4096 ≤ r.size * r.count := by
      rw [← h.count, ← Nat.mul_assoc, h.unit, ← Nat.mul_succ]
      exact Nat.mul_le_mul_left _ hv
    simp only [stretch, Ring.holds] at ha ⊢
    omega

theorem nextPlace_kept (h : r.Whole) : Kept 0xFF#8 r.holds m (nextPlace r m next).2 := by
  unfold nextPlace
  split
  · refine kept_ite .refl ?_
    exact kept_unit (v := 0) h h.some
  · unfold Ring.after
    dsimp only
    split
    · exact .refl
    · exact kept_ite .refl (kept_unit h (Nat.mod_lt _ h.some))

/-- A record changes its slot alone. -/
theorem program_kept (h : r.Whole) (body : List Byte) (commit : Bool) :
    Kept 0xFF#8 (fun a => k < r.count → r.holds a) m (r.program m k body commit) := by
  have hsize := h.size_pos
  have hslot {a : Nat} (ha : stretch (r.base + r.size * k) r.size a) (hk : k < r.count) : r.holds a := by
    have : r.size * k + r.size ≤ r.size * r.count := by
      rw [← Nat.mul_succ]
      exact Nat.mul_le_mul_left _ hk
    simp only [stretch, Ring.holds] at ha ⊢
    omega
  have hbody : Kept 0xFF#8 (fun a => k < r.count → r.holds a) m (programs m (r.base + r.size * k) (body.take (r.size - 1))) :=
    kept_programs _ _ fun a ha => hslot (by
      simp only [stretch, List.length_take] at ha ⊢
      omega)
  unfold Ring.program
  dsimp only
  split
  · refine hbody.trans (kept_programs _ _ fun a ha => hslot ?_)
    simp only [stretch, List.length_cons, List.length_nil] at ha ⊢
    omega
  · exact hbody

end

theorem logRing_whole : logRing.Whole := ⟨by decide, by decide, by decide⟩
theorem resRing_whole : resRing.Whole := ⟨by decide, by decide, by decide⟩
theorem pairRing_whole : pairRing.Whole := ⟨by decide, by decide, by decide⟩
theorem svcRing_whole : svcRing.Whole := ⟨by decide, by decide, by decide⟩

end Sys2Proof.Machine
end

/-! # Stores and the records of the rings (chapters 4, 11 and 20)

A command's stores, memory by memory; a record stays in its ring, and the ring's next place in the ring. -/

section
namespace Sys2Proof.Machine

open Sys2Proof


variable {F S L B F' S' L' B' : Nat → Prop} {s t u : State}

/-- What stores leave of the memories: each stays in canonical form and is changed within a region at most, the flash where the rings'
next places lie in them; and these go on to. -/
structure Stores (F S L B : Nat → Prop) (s u : State) : Prop where
  flash : Kept 0xFF#8 (fun a => s.ringsFit → F a) s.mem.flash u.mem.flash
  psram : Kept 0#8 S s.mem.psram u.mem.psram
  loft : Kept 0#8 L s.mem.loft u.mem.loft
  sram : Kept 0#8 B s.mem.sram u.mem.sram
  rings : s.ringsFit → u.ringsFit

/-- Stores of any kind. -/
abbrev KeepsForm (s u : State) : Prop := Stores anywhere anywhere anywhere anywhere s u

theorem Stores.mono (h : Stores F S L B s u) (hF : ∀ a, F a → F' a) (hS : ∀ a, S a → S' a) (hL : ∀ a, L a → L' a)
    (hB : ∀ a, B a → B' a) : Stores F' S' L' B' s u where
  flash := h.flash.mono fun a ha hfit => hF a (ha hfit)
  psram := h.psram.mono hS
  loft := h.loft.mono hL
  sram := h.sram.mono hB
  rings := h.rings

theorem Stores.keepsForm (h : Stores F S L B s u) : KeepsForm s u :=
  h.mono (fun _ _ => trivial) (fun _ _ => trivial) (fun _ _ => trivial) (fun _ _ => trivial)

theorem Stores.trans (h : Stores F S L B s t) (k : Stores F S L B t u) : Stores F S L B s u where
  flash := h.flash.trans (k.flash.mono fun _ ha hfit => ha (h.rings hfit))
  psram := h.psram.trans k.psram
  loft := h.loft.trans k.loft
  sram := h.sram.trans k.sram
  rings := k.rings ∘ h.rings

theorem Stores.refl (s : State) : Stores F S L B s s := ⟨.refl, .refl, .refl, .refl, id⟩

/-- The parts that hold neither the bytes of a memory nor, with what a reset alone changes, the rings' next places. -/
def memParts (p : Part) : Bool := !(p == .flash || p == .psram || p == .loft || p == .sram || p == .reset)

theorem ringsFit_of_ringPlaces (h : ringPlaces u.log u.sec u.gran = ringPlaces s.log s.sec s.gran) (hs : s.ringsFit) :
    u.ringsFit := by
  simp only [ringPlaces, Prod.mk.injEq] at h
  obtain ⟨hlog, hrec, hpair, hservice⟩ := h
  unfold State.ringsFit
  rw [hlog, hrec, hpair, hservice]
  exact hs

theorem Stores.of_evolves (h : Evolves memParts s u) : Stores F S L B s u where
  flash := .of_eq (h.same .flash rfl)
  psram := .of_eq (h.same .psram rfl)
  loft := .of_eq (h.same .loft rfl)
  sram := .of_eq (h.same .sram rfl)
  rings := ringsFit_of_ringPlaces (h.rings rfl)

theorem Stores.of_view (h : view memParts u = view memParts s) : Stores F S L B s u := .of_evolves (.of_view h (.refl s))

theorem Stores.upTo (n : Nat) (s : State) : Stores F S L B s (s.upTo n) := .of_evolves (.advance _ s)

theorem Stores.upToDevice (n : Nat) (s : State) : Stores F S L B s (s.upToDevice n) := .of_evolves (.advance _ s)

/-- More operations that leave the memories alone. -/
theorem Stores.view (h : Stores F S L B s t) (hv : view memParts u = view memParts t) : Stores F S L B s u :=
  h.trans (.of_view hv)

theorem stores_ite {c : Prop} [Decidable c] (h : Stores F S L B s t) (k : Stores F S L B s u) :
    Stores F S L B s (if c then t else u) := by
  split
  · exact h
  · exact k

theorem stores_foldl {α : Type} (f : State → α → State) (hf : ∀ s x, Stores F S L B s (f s x)) (l : List α) (s : State) :
    Stores F S L B s (l.foldl f s) := by
  induction l generalizing s with
  | nil => exact .refl s
  | cons x l ih => exact (hf s x).trans (ih (f s x))

theorem stores_verified (f) {k : State → State} (hk : ∀ s, Stores F S L B s (k s)) (s : State) :
    Stores F S L B s (verified f k s) := by
  unfold verified
  split
  · exact (Stores.of_view (noteSci_view _ _ rfl)).trans (hk _)
  · exact .of_view (integrityFault_view _ _ rfl)
  · exact .refl s

theorem stores_crossIn (q words) {k : State → State} (hk : Stores F S L B s (k s)) : Stores F S L B s (crossIn q words k s) := by
  unfold crossIn
  split
  · exact .of_view rfl
  · exact hk

theorem stores_endpointIn (f) {k : State → State} (hk : ∀ s, Stores F S L B s (k s)) (s : State) :
    Stores F S L B s (endpointIn f k s) := by
  unfold endpointIn
  split
  · exact stores_crossIn _ _ (hk s)
  · exact .refl s

/-! ### Records of the rings -/

/-- A record has been written: the flash is changed within its ring, and no ring's next place is noted yet. -/
structure Recorded (r : Ring) (fit : Prop) (s u : State) : Prop where
  flash : Kept 0xFF#8 (fun a => fit → r.holds a) s.mem.flash u.mem.flash
  psram : u.mem.psram = s.mem.psram
  loft : u.mem.loft = s.mem.loft
  sram : u.mem.sram = s.mem.sram
  places : ringPlaces u.log u.sec u.gran = ringPlaces s.log s.sec s.gran

section
variable {r : Ring} {fit : Prop} {next : Nat}

theorem Recorded.trans (h : Recorded r fit s t) (k : Recorded r fit t u) : Recorded r fit s u where
  flash := h.flash.trans k.flash
  psram := k.psram.trans h.psram
  loft := k.loft.trans h.loft
  sram := k.sram.trans h.sram
  places := k.places.trans h.places

theorem Recorded.view (h : Recorded r fit s t) (hv : Machine.view memParts u = Machine.view memParts t) : Recorded r fit s u :=
  have ht : Evolves memParts t u := .of_view hv (.refl t)
  h.trans ⟨.of_eq (ht.same .flash rfl), ht.same .psram rfl, ht.same .loft rfl, ht.same .sram rfl, ht.rings rfl⟩

/-- Once the places noted fit, a record is a store of its ring. -/
theorem Recorded.stores (h : Recorded r fit s t) (hfit : s.ringsFit → fit)
    (hmem : u.mem = t.mem) (hrings : s.ringsFit → u.ringsFit) : Stores r.holds S L B s u where
  flash := hmem ▸ h.flash.mono fun _ ha hs => ha (hfit hs)
  psram := .of_eq (by rw [hmem, h.psram])
  loft := .of_eq (by rw [hmem, h.loft])
  sram := .of_eq (by rw [hmem, h.sram])
  rings := hrings

theorem ringProgram_recorded (hr : r.Whole) (next : Nat) (body : List Byte) (failed : Bool) (s : State) :
    Recorded r (next ≤ r.count) s
      (ringProgram r (nextPlace r s.mem.flash next).2 (nextPlace r s.mem.flash next).1 body failed s) := by
  have hflash (l : List Byte) : Kept 0xFF#8 (fun a => next ≤ r.count → r.holds a) s.mem.flash
      (r.program (nextPlace r s.mem.flash next).2 (nextPlace r s.mem.flash next).1 l (!failed)) :=
    ((nextPlace_kept hr).mono fun _ ha _ => ha).trans
      ((program_kept hr l _).mono fun _ ha hnext => ha (nextPlace_lt hr hnext))
  unfold ringProgram
  cases failed with
  | true => exact ⟨hflash _, rfl, rfl, rfl, rfl⟩
  | false => exact ⟨hflash _, rfl, rfl, rfl, rfl⟩

theorem ringAttempt_recorded (hr : r.Whole) (body next failed) (s : State) :
    Recorded r (next ≤ r.count) s (ringAttempt r body next failed s).2 := by
  have h := ringProgram_recorded hr next (record16 body) failed.isSome s
  unfold ringAttempt
  cases failed with
  | none => exact h.view (clearAll_view _ rfl (by decide))
  | some c => exact h.view (raise_view _ _ _ rfl (by decide))

theorem ringAttempt_next (hr : r.Whole) (body failed) (s : State) (hnext : next ≤ r.count) :
    (ringAttempt r body next failed s).1 ≤ r.count := by
  unfold ringAttempt
  cases failed <;> exact nextPlace_lt hr hnext

theorem ringWrite_recorded (hr : r.Whole) (body next fails) (s : State) :
    Recorded r (next ≤ r.count) s (ringWrite r body next fails s).2.2
      ∧ (next ≤ r.count → (ringWrite r body next fails s).2.1 ≤ r.count) := by
  have hagain (c d : Option FlashCause) : Recorded r (next ≤ r.count) s
      (ringAttempt r body (ringAttempt r body next c s).1 d (ringAttempt r body next c s).2).2 := by
    have h := ringAttempt_recorded hr body (ringAttempt r body next c s).1 d (ringAttempt r body next c s).2
    exact (ringAttempt_recorded hr body next c s).trans
      ⟨h.flash.mono fun _ ha hnext => ha (ringAttempt_next hr body c s hnext), h.psram, h.loft, h.sram, h.places⟩
  unfold ringWrite
  split
  · exact ⟨ringAttempt_recorded hr .., ringAttempt_next hr _ _ _⟩
  · exact ⟨hagain _ _, fun h => ringAttempt_next hr _ _ _ (ringAttempt_next hr _ _ _ h)⟩
  · exact ⟨hagain _ _, fun h => ringAttempt_next hr _ _ _ (ringAttempt_next hr _ _ _ h)⟩

end

theorem partnerProfile_stores (s : State) : Stores F S L B s (partnerProfile s) := .of_view (partnerProfile_view s rfl)

theorem writePair_stores (eui n profile fails) (s : State) :
    Stores pairRing.holds S L B s (writePair eui n profile fails s) := by
  unfold writePair
  split
  · exact .refl s
  · extract_lets seq body
    obtain ⟨hrec, hnext⟩ := ringWrite_recorded pairRing_whole body s.gran.pairPlace fails s
    generalize ringWrite pairRing body s.gran.pairPlace fails s = w at hrec hnext ⊢
    refine Stores.trans ?_ (partnerProfile_stores _)
    refine hrec.stores (fun h => h.2.2.1) rfl fun hs => ?_
    have ht := ringsFit_of_ringPlaces hrec.places hs
    exact ⟨ht.1, ht.2.1, hnext hs.2.2.1, ht.2.2.2⟩

theorem writeService_stores (kind slot fails) (s : State) :
    Stores svcRing.holds S L B s (writeService kind slot fails s) := by
  unfold writeService
  split
  · exact .refl s
  · extract_lets seq body
    obtain ⟨hrec, hnext⟩ := ringWrite_recorded svcRing_whole body s.gran.serviceAt fails s
    generalize ringWrite svcRing body s.gran.serviceAt fails s = w at hrec hnext ⊢
    refine hrec.stores (fun h => h.2.2.2) rfl fun hs => ?_
    have ht := ringsFit_of_ringPlaces hrec.places hs
    exact ⟨ht.1, ht.2.1, ht.2.2.1, hnext hs.2.2.2⟩

theorem commitReservation_stores (ann fails) (s : State) : Stores resRing.holds S L B s (commitReservation ann fails s) := by
  unfold commitReservation
  split
  · exact .refl s
  · next i _ =>
    extract_lets c cls seq
    split
    · exact .refl s
    · split
      · exact stores_ite (.refl s) (.of_view (retireSlot_view s i rfl))
      · next e b _ =>
        generalize reservationBody i.val cls e b seq = body
        obtain ⟨hrec, hnext⟩ := ringWrite_recorded resRing_whole body s.sec.recSlot fails s
        generalize ringWrite resRing body s.sec.recSlot fails s = w at hrec hnext ⊢
        refine hrec.stores (fun h => h.2.1) rfl fun hs => ?_
        have ht := ringsFit_of_ringPlaces hrec.places hs
        exact ⟨ht.1, hnext hs.2.1, ht.2.2.1, ht.2.2.2⟩

theorem rewriteReservation_stores (s : State) (x) : Stores resRing.holds S L B s (rewriteReservation s x) := by
  unfold rewriteReservation
  split
  · next e b _ =>
    extract_lets seq w u
    obtain ⟨hrec, hnext⟩ := ringWrite_recorded resRing_whole (reservationBody x.1 x.2 e b seq) s.sec.recSlot [] s
    refine hrec.stores (fun h => h.2.1) rfl fun hs => ?_
    have ht := ringsFit_of_ringPlaces hrec.places hs
    exact ⟨ht.1, hnext hs.2.1, ht.2.2.1, ht.2.2.2⟩
  · exact .refl s

/-- The flash's places are anywhere. -/
theorem Stores.anyFlash (h : Stores F S L B s u) : Stores anywhere S L B s u :=
  h.mono (fun _ _ => trivial) (fun _ => id) (fun _ => id) (fun _ => id)

theorem rewriteRecords_stores (s : State) : Stores anywhere S L B s (rewriteRecords s) := by
  unfold rewriteRecords
  have hfold := stores_foldl (F := anywhere) (S := S) (L := L) (B := B) rewriteReservation
    (fun s x => (rewriteReservation_stores s x).anyFlash) ((List.range 8).flatMap fun i => [(i, 0), (i, 1)]) s
  dsimp only
  split
  · exact hfold.trans (writePair_stores ..).anyFlash
  · exact hfold

theorem pairRecord_stores (r eui n p fails) (s : State) : Stores pairRing.holds S L B s (pairRecord r eui n p fails s) := by
  unfold pairRecord
  exact stores_ite (writePair_stores ..) (.refl s)

end Sys2Proof.Machine
end

/-! # Stores in the Silo (chapter 17)

The writers of the PSRAM: entries, banks, steps kept for a partner, a checkpoint restored. -/

section
namespace Sys2Proof.Machine

open Sys2Proof


variable {F S L B : Nat → Prop} {s t u : State}

/-! ### Stores to the PSRAM -/

/-- A PSRAM changed within a region, and the rest as before. -/
theorem Stores.of_psram {m : List Host.Cell} (h : Kept 0#8 S s.mem.psram m) :
    Stores F S L B s { s with mem := { s.mem with psram := m } } := ⟨.refl, h, .refl, .refl, id⟩

/-- A loft changed within a region, and the rest as before. -/
theorem Stores.of_loft {m : List Host.Cell} (h : Kept 0#8 L s.mem.loft m) :
    Stores F S L B s { s with mem := { s.mem with loft := m } } := ⟨.refl, .refl, h, .refl, id⟩

/-- A buffer SRAM changed within a region, and the rest as before. -/
theorem Stores.of_sram {m : List Host.Cell} (h : Kept 0#8 B s.mem.sram m) :
    Stores F S L B s { s with mem := { s.mem with sram := m } } := ⟨.refl, .refl, .refl, h, id⟩

theorem setupSilo_keepsForm (s : State) : KeepsForm s (setupSilo s) :=
  .of_psram ((kept_pokes _ _ fun _ _ => trivial).trans (kept_pokes _ _ fun _ _ => trivial))

/-- A commit entry is three bytes of the commit table (R383). -/
theorem writeEntry_stores (k) (s : State) : Stores nowhere (stretch (0x1000 + 16 * k) 3) nowhere nowhere s (writeEntry k s) :=
  .of_psram (kept_pokes _ _ fun _ ha => ha)

theorem writeBank_stores (k b) (s : State) :
    Stores nowhere (stretch (bankAddr (loaded s) k (!currentBank s k)) b.length) nowhere nowhere s (writeBank k b s) :=
  .of_psram (kept_pokes _ _ fun _ ha => ha)

theorem sendBank_stores (k b) (s : State) :
    Stores nowhere (stretch (bankAddr (loaded s) k (!currentBank s k)) b.length) nowhere nowhere s (sendBank k b s) :=
  (writeBank_stores k b s).view (siloWrite_view _ _ _ _ _ rfl)

theorem commitState_keepsForm (k block b) (s : State) : KeepsForm s (commitState k block b s) := by
  unfold commitState
  split
  · exact .of_view (mapCtx_view _ _ _ rfl)
  · exact (sendBank_stores _ _ s).keepsForm.view (mapCtx_view _ _ _ rfl)

theorem finishJob_keepsForm (j h0) (s : State) : KeepsForm s (finishJob j h0 s) := by
  unfold finishJob
  extract_lets k s₁ b
  have h₁ : KeepsForm s s₁ := .of_view (setJob_view _ _ rfl)
  clear_value s₁
  split
  · refine h₁.trans (Stores.trans ?_ (commitState_keepsForm ..))
    exact Stores.trans (t := { s₁ with freeCtr := s₁.freeCtr + 1, thr := { s₁.thr with missRow := 0 } }) (.of_view rfl)
      (.of_view (plantJob_view _ rfl))
  · split
    · exact h₁
    · next d _ =>
      extract_lets r s₂ s₃ s₄
      have h₂ : KeepsForm s s₂ := h₁.view (mapCtx_view _ _ _ rfl)
      have h₃ : KeepsForm s s₃ := h₂.trans (commitState_keepsForm ..)
      clear_value s₂ s₃
      split
      · exact h₂.view (mapCtx_view _ _ _ rfl)
      · split
        · exact Stores.trans (t := { s₃ with thr := { s₃.thr with jobs := feedRerun j.ctx r.2 s₃.thr.jobs } }) (h₃.view rfl)
            (.of_view (settleRecompute_view _ _ _ _ rfl))
        · exact h₃

theorem replayJob_keepsForm (s : State) (j) : KeepsForm s (replayJob s j) := by
  unfold replayJob
  extract_lets k
  split
  · exact ((Stores.of_view (mapCtx_view _ _ _ rfl)).trans (writeBank_stores ..).keepsForm).trans (writeEntry_stores ..).keepsForm
  · exact .refl s

theorem replayAll_keepsForm (s : State) : KeepsForm s (replayAll s) :=
  (stores_foldl replayJob replayJob_keepsForm s.thr.replay s).view rfl

theorem restoreCkpt_keepsForm (b) (s : State) : KeepsForm s (restoreCkpt b s) := by
  have hrecords (u : State) : KeepsForm u ((ckptRecords b 15 256).foldl (fun (s : State) (r : Nat × List Byte) =>
      writeEntry r.1 (writeBank r.1 r.2 s)) u) :=
    stores_foldl _ (fun s r => (writeBank_stores ..).keepsForm.trans (writeEntry_stores ..).keepsForm) _ u
  exact ((Stores.of_view (admitNodes_view s _ rfl)).trans (hrecords _)).view rfl

/-! ### Stores of the hot pair -/

/-- A step's record written to the ring. -/
theorem siloRecord_keepsForm (a n : Nat) (b : List Byte) (s : State) : KeepsForm s (siloWrite 3 9 a b.length { s with
    mem := { s.mem with psram := pokes 0#8 s.mem.psram a b }, red := { s.red with ringUsed := n } }) :=
  Stores.view (t := { s with mem := { s.mem with psram := pokes 0#8 s.mem.psram a b }, red := { s.red with ringUsed := n } })
    ⟨.refl, kept_pokes _ _ fun _ _ => trivial, .refl, .refl, id⟩ (siloWrite_view _ _ _ _ _ rfl)

theorem recordStep_keepsForm (info c) (s : State) : KeepsForm s (recordStep info c s) := by
  unfold recordStep
  dsimp only
  split
  · exact siloRecord_keepsForm ..
  · exact (Stores.of_view (raise_view _ _ _ rfl (by decide))).view (startResync_view _ rfl)

theorem keepsForm_stamp (h : KeepsForm s t) (stamp : Nat) : KeepsForm s { t with blocks := { t.blocks with stamp := stamp } } :=
  h.view rfl

theorem takeStep_keepsForm (info c) (s : State) : KeepsForm s (takeStep info c s) := by
  have ht : KeepsForm s (recordStep info c (joinClosed info c s)) :=
    (Stores.of_view (joinClosed_view _ _ _ rfl)).trans (recordStep_keepsForm ..)
  have hv : KeepsForm s (partnerWindow info c (runClosed info c s)) :=
    (Stores.of_view (runClosed_view _ _ _ rfl)).view (partnerWindow_view _ _ _ rfl)
  unfold takeStep
  dsimp only
  generalize recordStep info c (joinClosed info c s) = t at ht ⊢
  generalize partnerWindow info c (runClosed info c s) = v at hv ⊢
  exact stores_ite (stores_ite ht (ht.view (partnerWindow_view _ _ _ rfl))) (stores_ite (keepsForm_stamp hv _) hv)

theorem takeHeld_keepsForm (s : State) : KeepsForm s (takeHeld s) := by
  unfold takeHeld
  split
  · exact .refl s
  · split
    · split
      · exact takeStep_keepsForm ..
      · exact .refl s
    · exact .refl s

end Sys2Proof.Machine
end

/-! # Stores at a block boundary (chapters 3, 16 and 20)

The loft, the switch of rows and slots, and what an intervention stores. -/

section
namespace Sys2Proof.Machine

open Sys2Proof


variable {F S L B : Nat → Prop} {s t u : State}

/-! ### Stores at a boundary -/

theorem loadLoft_keepsForm (s : State) : KeepsForm s (loadLoft s) := by
  unfold loadLoft
  split
  · exact .of_loft ((kept_filter (fun a => decide (a < 0x10000)) fun _ _ => trivial).trans (kept_pokes _ _ fun _ _ => trivial))
  · exact .refl s

theorem rowContent_keepsForm (r) (s : State) : KeepsForm s (rowContent r s) := by
  unfold rowContent
  extract_lets base
  split
  · split
    · exact stores_ite (.of_loft (kept_pokes _ _ fun _ _ => trivial)) (.refl s)
    · exact .refl s
  · exact .of_sram (kept_foldl _ (fun m b => kept_pokes _ _ fun _ _ => trivial) _)

theorem switchRow_keepsForm (et) (s : State) (r) : KeepsForm s (switchRow et s r) := by
  unfold switchRow
  extract_lets left s₁ same endur₂ s₂ d s₃
  have h₂ : KeepsForm s s₂ := (rowContent_keepsForm r s).view rfl
  clear_value s₂
  have h₃ : KeepsForm s s₃ := h₂.view (by
    simp [s₃, ↓repairEvent_view, ↓raiseAt_view, memParts])
  clear_value s₃
  exact stores_ite (h₃.view (raiseAt_view _ _ _ _ rfl (by decide))) h₃

theorem switchRows_keepsForm (n et) (s : State) : KeepsForm s (switchRows n et s) :=
  stores_foldl (switchRow et) (switchRow_keepsForm et) _ s

theorem resetSilo_keepsForm {change : State → State} (hchange : ∀ s, KeepsForm s (change s)) (s : State) :
    KeepsForm s (resetSilo change s) := by
  have h : KeepsForm s (setupSilo (change s)) := (hchange s).trans (setupSilo_keepsForm _)
  exact stores_ite ((h.trans (writeBank_stores ..).keepsForm).trans (writeEntry_stores ..).keepsForm) h

theorem slotLoad_keepsForm (s : State) : KeepsForm s (slotLoad s) := by
  unfold slotLoad
  split
  · exact .refl s
  · extract_lets gran₁ s₁ s₂ s₃
    have h₁ : KeepsForm s s₁ := .of_view rfl
    clear_value s₁
    have h₂ : KeepsForm s s₂ := (((h₁.view (loadModels_view _ rfl)).view (loadProfiles_view _ rfl)).view (loadClips_view _ rfl)).view
      (checkModelRate_view _ rfl)
    clear_value s₂
    have h₃ : KeepsForm s s₃ := h₂.trans (resetSilo_keepsForm (fun s =>
      (Stores.of_view (setupContexts_view s rfl)).trans (loadLoft_keepsForm _)) s₂)
    clear_value s₃
    exact stores_ite (h₃.view (clearAll_view _ rfl (by decide))) h₃

theorem takeover_keepsForm (s : State) : KeepsForm s (takeover s) := by
  unfold takeover
  extract_lets et kind own nums s₁ s₂ s₃ s₄
  have h₁ : KeepsForm s s₁ := .of_view (enterRole_view _ _ _ rfl)
  clear_value s₁
  have h₂ : KeepsForm s s₂ := h₁.view (raiseAt_view _ _ _ _ rfl (by decide))
  clear_value s₂
  have h₃ : KeepsForm s s₃ := by
    dsimp only [s₃]
    split
    · exact h₂.trans (restoreCkpt_keepsForm ..)
    · exact h₂
  clear_value s₃
  have h₄ : KeepsForm s s₄ := stores_ite (h₃.view (flushOwn_view _ rfl)) (h₃.view (setNumbers_view _ _ rfl))
  clear_value s₄
  exact Stores.view (t := _) (h₄.view rfl) (takeNet_view _ rfl)

theorem takeBack_keepsForm (b) (s : State) : KeepsForm s (takeBack b s) := by
  unfold takeBack
  extract_lets cold et s₁ s₂ nums red₃ s₃ s₄
  have h₁ : KeepsForm s s₁ := .of_view (enterRole_view _ _ _ rfl)
  clear_value s₁
  have h₂ : KeepsForm s s₂ := h₁.view (raiseAt_view _ _ _ _ rfl (by decide))
  clear_value s₂
  have h₃ : KeepsForm s s₃ := h₂.view rfl
  clear_value s₃
  have h₄ : KeepsForm s s₄ := stores_ite h₃ (h₃.view (flushOwn_view _ rfl))
  clear_value s₄
  split
  · exact h₄
  · split
    · exact ((h₄.trans (restoreCkpt_keepsForm ..)).view (startPath_view _ _ rfl)).trans (restoreCkpt_keepsForm ..)
    · exact h₄.view (startPath_view _ _ rfl)

theorem takeBackStep_keepsForm (s : State) : KeepsForm s (takeBackStep s) := by
  unfold takeBackStep
  split
  · exact stores_ite (.refl s) (stores_ite (.refl s) (stores_ite (takeBack_keepsForm _ s)
      (stores_ite (.of_view (giveBack_view s rfl)) (.refl s))))
  · exact .refl s

theorem applyRole_keepsForm (s : State) (d) : KeepsForm s (applyRole s d) := by
  unfold applyRole
  split
  · exact stores_ite (takeover_keepsForm s) (.refl s)
  · exact stores_ite (.of_view (yieldRole_view s _ rfl)) (.refl s)
  · exact .refl s

theorem applyRepair_keepsForm (s : State) (d) : KeepsForm s (applyRepair s d) := by
  unfold applyRepair
  split
  · exact .of_view (applyColumn_view s _ rfl)
  · exact slotLoad_keepsForm s
  · exact .of_view (idleContexts_view s _ _ rfl)
  · exact .refl s

theorem commitAll_keepsForm (s : State) : KeepsForm s (commitAll s) := by
  unfold commitAll
  refine stores_foldl _ (fun s k => ?_) _ s
  split
  · exact (writeEntry_stores k.val s).keepsForm
  · exact .refl s

theorem enterSlumber_keepsForm (s : State) : KeepsForm s (enterSlumber s) := by
  have h := commitAll_keepsForm s
  unfold enterSlumber
  dsimp only
  generalize commitAll s = t at h ⊢
  have hmode : KeepsForm s (modeSet t.gptp.time .slumber 0#16 (modeFrame t.gptp.time (modeCode t.start.mode) .slumber 0#16 t)) :=
    (h.view (modeFrame_view _ _ _ _ _ rfl)).view (modeSet_view _ _ _ _ rfl)
  generalize modeSet t.gptp.time .slumber 0#16 (modeFrame t.gptp.time (modeCode t.start.mode) .slumber 0#16 t) = v at hmode ⊢
  exact Stores.trans (hmode.view rfl) (.of_view (refreshLeds_view _ rfl))

theorem intervene_keepsForm (s : State) : KeepsForm s (intervene s) := by
  unfold intervene
  extract_lets due blocks₁ s₁ s₂ s₃
  split
  · exact .of_view (enterSafe_view _ _ _ rfl)
  · have h₁ : KeepsForm s s₁ := .of_view rfl
    clear_value s₁
    have h₂ : KeepsForm s s₂ := ((h₁.trans (stores_foldl _ applyRole_keepsForm _ _)).trans (takeBackStep_keepsForm _)).view
      (partnerBoundary_view _ rfl)
    clear_value s₂
    have h₃ : KeepsForm s s₃ := (h₂.view (wellCheck_view _ _ _ rfl)).trans
      (stores_foldl _ (fun s d => .of_view (applyTime_view s d rfl)) _ _)
    clear_value s₃
    exact (h₃.trans (switchRows_keepsForm ..)).trans (stores_foldl _ applyRepair_keepsForm _ _)

theorem boundary_keepsForm (x) (s : State) : KeepsForm s (boundary x s) := by
  unfold boundary
  extract_lets s₁ prior entry s₂ s₃ s₄
  have h₁ : KeepsForm s s₁ := (((Stores.of_view (endBlock_view _ _ rfl)).view (senseBoundary_view _ _ rfl)).view
    (powerBoundary_view _ _ rfl)).view (placeBlock_view _ rfl)
  clear_value s₁
  have h₂ : KeepsForm s s₂ := (h₁.view (firstPlant_view _ rfl)).view (openPaths_view _ rfl)
  clear_value s₂
  have h₄ : KeepsForm s s₄ := ((h₂.trans (intervene_keepsForm _)).view (keyAtBoundary_view _ rfl)).view (wellBlock_view _ rfl)
  clear_value s₄
  refine stores_ite (h₂.view (wellBlock_view _ rfl)) (stores_ite ?_ (stores_ite (h₄.view (bpoBoundary_view _ rfl))
    (stores_ite (h₄.trans (enterSlumber_keepsForm _)) ?_)))
  · exact Stores.trans (h₂.view rfl) (.of_view (bpoBoundary_view _ rfl))
  · exact ((h₄.view (pathBoundary_view _ rfl)).view (beginBlock_view _ _ _ rfl)).trans (takeHeld_keepsForm _)

end Sys2Proof.Machine
end

/-! # The commands whose stores have a place (chapters 4, 10, 11, 20)

The ring of each record, the operation of the flash, the entry and banks of a context, the checkpoint buffers. -/

section
namespace Sys2Proof.Machine

open Sys2Proof


variable {F S L B : Nat → Prop} {s t u : State}

/-! ### Commands that write a ring of the flash -/

/-- A pair frame is left aside, or worked on where it is heard. -/
theorem receivePair_cases (x kind) (k : TieHead → State → State) (s : State) :
    (∀ P : Part → Bool, List.all [.status, .log, .keys, .cross] P → view P (receivePair x kind k s) = view P s)
      ∨ ∃ h v, receivePair x kind k s = k h (pairHeard h v) ∧ (v = s ∨ ∃ f, v = noteSci f s) := by
  unfold receivePair
  extract_lets go
  have hgo (b) (v : State) : go b v = v ∨ ∃ h, go b v = k h (pairHeard h v) := by
    simp only [go]
    split
    · split
      · exact .inr ⟨_, rfl⟩
      · exact .inl rfl
    · exact .inl rfl
  clear_value go
  split
  · next b =>
    split
    · unfold crossIn
      split
      · exact .inl fun P hP => by simp at hP; simp [↓view_update, hP]
      · obtain h | ⟨h, hk⟩ := hgo b s
        · exact .inl fun P _ => by rw [h]
        · exact .inr ⟨h, s, hk, .inl rfl⟩
    · exact .inl fun _ _ => rfl
  · next f =>
    split
    · next b r _ _ =>
      split
      · unfold endpointIn crossIn verified
        split
        · split
          · exact .inl fun P hP => by simp at hP; simp [↓view_update, hP]
          · split
            · obtain h | ⟨h, hk⟩ := hgo b (noteSci f s)
              · exact .inl fun P hP => by simp at hP; rw [h, noteSci_view _ _ (by simp [hP])]
              · exact .inr ⟨h, _, hk, .inr ⟨f, rfl⟩⟩
            · exact .inl fun P hP => by simp at hP; rw [integrityFault_view _ _ (by simp [hP])]
            · exact .inl fun _ _ => rfl
        · exact .inl fun _ _ => rfl
      · exact .inl fun _ _ => rfl
    · exact .inl fun _ _ => rfl

theorem stores_receivePair (x kind) {k : TieHead → State → State} (hk : ∀ h s, Stores F S L B s (k h s)) (s : State) :
    Stores F S L B s (receivePair x kind k s) := by
  obtain h | ⟨h, v, hv, rfl | ⟨f, rfl⟩⟩ := receivePair_cases x kind k s
  · exact .of_view (h memParts rfl)
  · rw [hv]
    exact (Stores.of_view (pairHeard_view _ _ rfl)).trans (hk _ _)
  · rw [hv]
    exact ((Stores.of_view (noteSci_view _ _ rfl)).view (pairHeard_view _ _ rfl)).trans (hk _ _)

theorem execAshLogEntryWrite_stores (t failed) (s : State) :
    Answers (execAshLogEntryWrite t failed s) (Stores logRing.holds nowhere nowhere nowhere s) := by
  have htime : Stores logRing.holds nowhere nowhere nowhere s (s.upTo t) := .upTo t s
  unfold execAshLogEntryWrite
  dsimp only
  generalize s.upTo t = v at htime ⊢
  split
  · exact htime
  · next e rest _ =>
    rw [answers_ite]
    split
    · exact htime
    · have hrec := ringProgram_recorded logRing_whole v.log.nextSlot (logBytes v.log.nextSeq e) failed.isSome v
      have hlt := nextPlace_lt (m := v.mem.flash) (next := v.log.nextSlot) logRing_whole
      have hnoted : Stores logRing.holds nowhere nowhere nowhere v { ringProgram logRing (nextPlace logRing v.mem.flash v.log.nextSlot).2
          (nextPlace logRing v.mem.flash v.log.nextSlot).1 (logBytes v.log.nextSeq e) failed.isSome v with
          log := { (ringProgram logRing (nextPlace logRing v.mem.flash v.log.nextSlot).2
            (nextPlace logRing v.mem.flash v.log.nextSlot).1 (logBytes v.log.nextSeq e) failed.isSome v).log with
            nextSlot := (nextPlace logRing v.mem.flash v.log.nextSlot).1 + 1 } } := by
        refine hrec.stores (fun h => h.1) rfl fun hs => ?_
        have ht := ringsFit_of_ringPlaces hrec.places hs
        exact ⟨hlt hs.1, ht.2.1, ht.2.2.1, ht.2.2.2⟩
      generalize nextPlace logRing v.mem.flash v.log.nextSlot = place at hnoted ⊢
      generalize ringProgram logRing place.2 place.1 (logBytes v.log.nextSeq e) failed.isSome v = w at hnoted ⊢
      replace hnoted := htime.trans hnoted
      cases failed with
      | none =>
        exact Stores.view (t := { w with log := { w.log with
          nextSlot := place.1 + 1, waiting := rest, nextSeq := w.log.nextSeq + 1, retry := false } })
          (hnoted.view rfl) (clearAll_view _ rfl (by decide))
      | some c =>
        dsimp only
        have hraise := hnoted.view (raise_view _ 0 (be 1 0 ++ be 1 c.code ++ be 4 (logRing.base + 32 * place.1)) rfl
          (code := 0xF920#16) (by decide))
        split
        · exact hraise.view rfl
        · exact hraise.view rfl

theorem execReservationCommit_stores (t ann fails) (s : State) :
    Answers (execReservationCommit t ann fails s) (Stores resRing.holds nowhere nowhere nowhere s) :=
  (Stores.upTo t s).trans (commitReservation_stores ann fails _)

theorem execDoneReceive_stores (t f fails) (s : State) :
    Answers (execDoneReceive t f fails s) (Stores pairRing.holds nowhere nowhere nowhere s) := by
  have htime : Stores pairRing.holds nowhere nowhere nowhere s (s.upTo t) := .upTo t s
  unfold execDoneReceive
  dsimp only
  generalize s.upTo t = v at htime ⊢
  split
  · exact htime
  · split
    · exact htime
    · next x _ =>
      refine htime.trans (stores_endpointIn f (fun w => stores_verified f (fun w => ?_) w) v)
      have hend : Stores pairRing.holds nowhere nowhere nowhere w (endExchange x w) := .of_view (endExchange_view w x rfl)
      generalize endExchange x w = y at hend ⊢
      refine stores_ite (hend.view (pairingFault_view _ _ _ rfl)) ?_
      have hused := hend.view (u := { y with
        sec := { y.sec with pairing := { y.sec.pairing with used := true, windowEnd := y.now + 60 * sec1 } } }) rfl
      exact stores_ite (hused.trans (pairRecord_stores ..)) hused

theorem execPoweredHour_stores (fails) (s : State) :
    Answers (execPoweredHour fails s) (Stores svcRing.holds nowhere nowhere nowhere s) := by
  unfold execPoweredHour
  extract_lets s₁ n gran₁ s₂ s₃ full s₄
  have h₂ : Stores svcRing.holds nowhere nowhere nowhere s s₂ := (Stores.upTo _ s).view rfl
  clear_value s₂
  have h₃ : Stores svcRing.holds nowhere nowhere nowhere s s₃ := stores_ite (h₂.trans (writeService_stores ..)) h₂
  clear_value s₃
  have h₄ : Stores svcRing.holds nowhere nowhere nowhere s s₄ := h₃.view (closeDay_view _ rfl)
  clear_value s₄
  rw [answers_ite]
  split
  · exact stores_ite (h₄.view (refit_view _ rfl)) h₄
  · exact h₂

theorem applyOp_kept (o) (s : State) : Kept 0xFF#8 (stretch o.addr (if o.erase then 4096 else o.data.length)) s.mem.flash
    (applyOp o s).mem.flash := by
  cases he : o.erase with
  | true => simpa [applyOp, he] using kept_wipe _ _ fun _ ha => ha
  | false => simpa [applyOp, he] using kept_programs _ _ fun _ ha => ha

theorem freeBytes_length (n) (s : State) : (freeBytes n s).1.length = n := by simp [freeBytes]

theorem freeBytes_mem (n) (s : State) : (freeBytes n s).2.mem = s.mem := rfl

theorem spoilOp_kept (o) (s : State) : Kept 0xFF#8 (stretch o.addr (if o.erase then 4096 else o.data.length)) s.mem.flash
    (spoilOp o s).mem.flash := by
  cases he : o.erase with
  | true => simpa [spoilOp, he, freeBytes_mem] using kept_pokes _ _ fun _ ha => by simpa [freeBytes_length] using ha
  | false => simpa [spoilOp, he, freeBytes_mem] using kept_programs _ _ fun _ ha => by simpa [freeBytes_length] using ha

/-- A state with a flash operation's stretch changed at most. -/
structure Operated (o : FlashOp) (s u : State) : Prop where
  flash : Kept 0xFF#8 (stretch o.addr (if o.erase then 4096 else o.data.length)) s.mem.flash u.mem.flash
  psram : u.mem.psram = s.mem.psram
  loft : u.mem.loft = s.mem.loft
  sram : u.mem.sram = s.mem.sram
  rings : s.ringsFit → u.ringsFit

theorem Operated.view {o} (h : Operated o s t) (hv : Machine.view memParts u = Machine.view memParts t) : Operated o s u :=
  have ht : Evolves memParts t u := .of_view hv (.refl t)
  ⟨(ht.same .flash rfl : u.mem.flash = _) ▸ h.flash, (ht.same .psram rfl).trans h.psram, (ht.same .loft rfl).trans h.loft,
    (ht.same .sram rfl).trans h.sram, fun hs => ringsFit_of_ringPlaces (ht.rings rfl) (h.rings hs)⟩

theorem Operated.keepsForm {o} (h : Operated o s u) : KeepsForm s u :=
  ⟨h.flash.mono fun _ _ _ => trivial, .of_eq h.psram, .of_eq h.loft, .of_eq h.sram, h.rings⟩

theorem execFlashOperationComplete_operated (t failed) {s : State} {o : FlashOp} (ho : s.mem.op = some o) :
    Answers (execFlashOperationComplete t failed s) (Operated o s) := by
  unfold execFlashOperationComplete
  dsimp only
  rw [State.upTo_mem, ho]
  dsimp only
  cases failed with
  | none =>
    have h : Operated o s (applyOp o { s.upTo t with mem := { s.mem with op := none } }) :=
      ⟨applyOp_kept o { s.upTo t with mem := { s.mem with op := none } }, rfl, rfl, rfl, id⟩
    replace h := h.view (opGood_view _ rfl)
    exact Operated.view (h.view rfl) ((advanceWrite_view _ rfl).trans (issueOp_view _ rfl))
  | some c =>
    have h : Operated o s (spoilOp o (s.upTo t)) := by
      refine ⟨by simpa using spoilOp_kept o (s.upTo t), ?_, ?_, ?_, ?_⟩ <;> simp [spoilOp, freeBytes]
      exact id
    replace h := h.view (opFault_view _ o.erase c o.addr rfl)
    rw [answers_ite]
    split
    · exact h.view rfl
    · exact Operated.view (h.view rfl) (failWrite_view _ rfl)

/-! ### Commands that store to the Silo -/

/-- The two checkpoint buffers. -/
def ckptHolds (s : State) (a : Nat) : Prop :=
  ckptAddr (loaded s) false ≤ a ∧ a < ckptAddr (loaded s) true + ckptMax (loaded s)

theorem execStateCommit_stores (t k) (s : State) : Answers (execStateCommit t k s) (Stores nowhere
    (fun a => stretch (0x1000 + 16 * k.val) 3 a ∨ ∃ bank w, s.thr.ctxs[k].waiting = some w ∧ stretch (bankAddr (loaded s) k.val bank) w.length a)
    nowhere nowhere s) := by
  have htime {F S L B : Nat → Prop} : Stores F S L B s (s.upTo t) := .upTo t s
  unfold execStateCommit
  dsimp only
  rw [State.upTo_thr, answers_ite]
  split
  · exact htime
  · have hentry : Stores nowhere (stretch (0x1000 + 16 * k.val) 3) nowhere nowhere s (writeEntry k.val (s.upTo t)) :=
      htime.trans (writeEntry_stores k.val (s.upTo t))
    have hloaded : loaded (writeEntry k.val (s.upTo t)) = loaded s := rfl
    generalize writeEntry k.val (s.upTo t) = v at hentry hloaded ⊢
    replace hentry := hentry.mono (S' := fun a => stretch (0x1000 + 16 * k.val) 3 a
      ∨ ∃ bank w, s.thr.ctxs[k].waiting = some w ∧ stretch (bankAddr (loaded s) k.val bank) w.length a)
      (fun _ => id) (fun _ => .inl) (fun _ => id) fun _ => id
    split
    · next w hw =>
      have hbank := (sendBank_stores k.val w v).mono (S' := fun a => stretch (0x1000 + 16 * k.val) 3 a
        ∨ ∃ bank w, s.thr.ctxs[k].waiting = some w ∧ stretch (bankAddr (loaded s) k.val bank) w.length a)
        (fun _ => id) (fun _ ha => .inr ⟨_, w, hw, hloaded ▸ ha⟩) (fun _ => id) fun _ => id
      exact (hentry.trans hbank).view (mapCtx_view _ _ _ rfl)
    · exact hentry.view (mapCtx_view _ _ _ rfl)

/-- Every part but Thresher. -/
def notThr (p : Part) : Bool := p != .thr

theorem thr_of_view (h : view notThr u = view notThr s) : u.thr = s.thr :=
  eq_of_hide (b := false) (congrArg View.thr h) rfl

theorem startResync_ctxs (s : State) : (startResync s).thr.ctxs = s.thr.ctxs := by
  unfold startResync
  rw [thr_of_view (ask_view _ _ _ rfl)]

theorem contactWork_ctxs (s : State) : (contactWork s).thr.ctxs = s.thr.ctxs := by
  unfold contactWork
  split
  · split
    · exact startResync_ctxs s
    · rfl
  · rfl

theorem makeContact_ctxs (s : State) : (makeContact s).thr.ctxs = s.thr.ctxs := by
  unfold makeContact
  rw [contactWork_ctxs, thr_of_view (checkProfile_view _ rfl)]
  rfl

/-- What is heard of the other device does not change the contexts. -/
theorem pairHeard_ctxs (h) (s : State) : (pairHeard h s).thr.ctxs = s.thr.ctxs := by
  unfold pairHeard
  extract_lets red₁ s₁ s₂ red₃ tie₃ s₃
  have h₂ : s₂.thr = s.thr := thr_of_view (u := s₂) (s := s₁) (learnYield_view _ _ rfl)
  have h₃ : s₃.thr = s.thr := by
    dsimp only [s₃]
    split
    · exact h₂
    · exact h₂
  clear_value s₃
  split
  · rw [makeContact_ctxs, h₃]
  · rw [h₃]

theorem ckptAddr_le (l : List CtxDesc) (b : Bool) : ckptAddr l false ≤ ckptAddr l b ∧ ckptAddr l b ≤ ckptAddr l true := by
  cases b <;> simp [ckptAddr]

theorem execTieCheckpointChunk_stores (t x) (s : State) :
    Answers (execTieCheckpointChunk t x s) (Stores nowhere (ckptHolds s) nowhere nowhere s) := by
  have htime : Stores nowhere (ckptHolds s) nowhere nowhere s (s.upTo t) := .upTo t s
  unfold execTieCheckpointChunk
  extract_lets work
  have hwork (h) (v : State) (hv : v.thr.ctxs = s.thr.ctxs) : Stores nowhere (ckptHolds s) nowhere nowhere v (work h v) := by
    dsimp only [work]
    split
    · exact .refl v
    · next hcond =>
      simp only [Bool.or_eq_true, Bool.not_eq_true', decide_eq_true_eq, bne_iff_ne, not_or, not_lt] at hcond
      obtain ⟨⟨⟨-, hmax⟩, -⟩, hlen⟩ := hcond
      have hloaded : loaded v = loaded s := by rw [loaded, hv, loaded]
      have hplace := ckptAddr_le (loaded s) (fillBuffer v)
      rw [hloaded] at hmax ⊢
      refine Stores.view (t := { v with mem := { v.mem with psram := pokes 0#8 v.mem.psram _ _ }, red := _ })
        ⟨.refl, kept_pokes _ _ fun a ha => ?_, .refl, .refl, id⟩ (siloWrite_view _ _ _ _ _ rfl)
      simp only [stretch] at ha
      simp only [ckptHolds]
      omega
  clear_value work
  refine htime.trans ?_
  obtain h | ⟨h, v, hv, hs⟩ := receivePair_cases x 3 work (s.upTo t)
  · exact .of_view (h memParts rfl)
  · have hctxs : v.thr.ctxs = s.thr.ctxs := by
      obtain rfl | ⟨f, rfl⟩ := hs
      · rfl
      · rw [thr_of_view (noteSci_view _ _ rfl)]
        rfl
    have hheard : Stores nowhere (ckptHolds s) nowhere nowhere (s.upTo t) (pairHeard h v) := by
      obtain rfl | ⟨f, rfl⟩ := hs
      · exact .of_view (pairHeard_view _ _ rfl)
      · exact (Stores.of_view (noteSci_view _ _ rfl)).view (pairHeard_view _ _ rfl)
    rw [hv]
    exact hheard.trans (hwork h _ ((pairHeard_ctxs h v).trans hctxs))

end Sys2Proof.Machine
end

/-! # DMA (chapter 19)

A register set moves byte by byte, and writes the addresses it names alone. -/

section
namespace Sys2Proof.Machine

open Sys2Proof


variable {s t u : State}

/-! ### DMA -/

/-- One byte moved, as a register set moves them. -/
def dmaStep (s : State) (p : Nat × Nat) : State :=
  match dmaPlace s p.1, dmaPlace s p.2 with
  | some a, some b => { dmaWrite (dmaRead s a) s b with freeCtr := s.freeCtr + 1 }
  | _, _ => s

theorem dmaMove_eq (r : RegSet) (s : State) : dmaMove r s = (dmaPairs r).foldl dmaStep s := rfl

/-- The memories' bytes changed where addresses of a list lie at most. -/
structure Moved (l : List Nat) (s u : State) : Prop where
  place : ∀ a, dmaPlace u a = dmaPlace s a
  flash : Kept 0xFF#8 (fun o => ∃ a ∈ l, dmaPlace s a = some (.flash o)) s.mem.flash u.mem.flash
  psram : Kept 0#8 (fun o => ∃ a ∈ l, dmaPlace s a = some (.psram o)) s.mem.psram u.mem.psram
  loft : Kept 0#8 (fun o => ∃ a ∈ l, dmaPlace s a = some (.loft o)) s.mem.loft u.mem.loft
  sram : Kept 0#8 (fun o => ∃ a ∈ l, dmaPlace s a = some (.sram o)) s.mem.sram u.mem.sram
  rings : s.ringsFit → u.ringsFit

theorem Moved.refl (l : List Nat) (s : State) : Moved l s s := ⟨fun _ => rfl, .refl, .refl, .refl, .refl, id⟩

theorem Moved.cons {a : Nat} {l : List Nat} (h : Moved [a] s t) (k : Moved l t u) : Moved (a :: l) s u where
  place x := (k.place x).trans (h.place x)
  flash := (h.flash.mono fun o => by simp +contextual).trans (k.flash.mono fun o => by simp only [h.place]; simp +contextual)
  psram := (h.psram.mono fun o => by simp +contextual).trans (k.psram.mono fun o => by simp only [h.place]; simp +contextual)
  loft := (h.loft.mono fun o => by simp +contextual).trans (k.loft.mono fun o => by simp only [h.place]; simp +contextual)
  sram := (h.sram.mono fun o => by simp +contextual).trans (k.sram.mono fun o => by simp only [h.place]; simp +contextual)
  rings := k.rings ∘ h.rings

theorem dmaStep_moved (s : State) (p : Nat × Nat) : Moved [p.2] s (dmaStep s p) := by
  unfold dmaStep
  split
  · next a b _ hb =>
    generalize dmaRead s a = v
    cases b with
    | loft o => exact ⟨fun _ => rfl, .refl, .refl, kept_poke o v ⟨p.2, by simp, hb⟩, .refl, id⟩
    | sram o => exact ⟨fun _ => rfl, .refl, .refl, .refl, kept_poke o v ⟨p.2, by simp, hb⟩, id⟩
    | psram o => exact ⟨fun _ => rfl, .refl, kept_poke o v ⟨p.2, by simp, hb⟩, .refl, .refl, id⟩
    | flash o => exact ⟨fun _ => rfl, kept_poke o _ ⟨p.2, by simp, hb⟩, .refl, .refl, .refl, id⟩
    | queue q => exact ⟨fun _ => rfl, .refl, .refl, .refl, .refl, id⟩
  · exact .refl _ s

theorem foldl_dmaStep_moved (l : List (Nat × Nat)) (s : State) : Moved (l.map (·.2)) s (l.foldl dmaStep s) := by
  induction l generalizing s with
  | nil => exact .refl _ s
  | cons p l ih => exact (dmaStep_moved s p).cons (ih _)

theorem dmaMove_moved (r) (s : State) : Moved ((dmaPairs r).map (·.2)) s (dmaMove r s) := foldl_dmaStep_moved _ s

theorem Moved.keepsForm {l} (h : Moved l s u) : KeepsForm s u :=
  ⟨h.flash.mono fun _ _ _ => trivial, h.psram.anywhere, h.loft.anywhere, h.sram.anywhere, h.rings⟩

/-- Where the register set of a single channel names memory alone, the set completes: its bytes have moved, and the channel goes
on. -/
theorem execDmaRegisterSetComplete_next {n : Nat} {ch : Fin 16} (hu : execDmaRegisterSetComplete n ch s = .next u) :
    ∃ d, u = s.upTo n
      ∨ u = { s.upTo n with mem := { s.mem with dma := d } }
      ∨ u = { dmaMove s.mem.dma[ch].active (s.upTo n) with mem := { (dmaMove s.mem.dma[ch].active (s.upTo n)).mem with dma := d } } := by
  unfold execDmaRegisterSetComplete at hu
  dsimp only at hu
  rw [State.upTo_mem] at hu
  split at hu
  · cases hu
    exact ⟨s.mem.dma, .inl rfl⟩
  · split at hu
    · cases hu
    · cases hu
      split
      · exact ⟨_, .inr (.inr rfl)⟩
      · exact ⟨_, .inr (.inl rfl)⟩

theorem execDmaRegisterSetComplete_moved {n : Nat} {ch : Fin 16} (hu : execDmaRegisterSetComplete n ch s = .next u) :
    Moved ((dmaPairs s.mem.dma[ch].active).map (·.2)) s u := by
  have h := dmaMove_moved s.mem.dma[ch].active (s.upTo n)
  obtain ⟨d, rfl | rfl | rfl⟩ := execDmaRegisterSetComplete_next hu
  · exact ⟨fun _ => rfl, .refl, .refl, .refl, .refl, id⟩
  · exact ⟨fun _ => rfl, .refl, .refl, .refl, .refl, id⟩
  · exact ⟨h.place, h.flash, h.psram, h.loft, h.sram, h.rings⟩

/-- No two addresses lie in one place of a memory. -/
theorem dmaPlace_inj {a b : Nat} {p : DmaPlace} (ha : dmaPlace s a = some p) (hb : dmaPlace s b = some p)
    (hp : ∀ q, p ≠ .queue q) : a = b := by
  unfold dmaPlace at ha hb
  grind

/-- Bytes of the buffer SRAM moved to the PSRAM. -/
theorem foldl_dmaStep_sram_psram {x y : Nat} (n : Nat) (s : State) (hx : x + n ≤ 0x200000) (hy : y + n ≤ s.mem.psramMiB * 1048576)
    (hwf : Memory.wf 0#8 s.mem.psram = true) :
    let u := ((List.range n).map fun j => (0x20000000 + x + j, 0x40000000 + y + j)).foldl dmaStep s
    u.mem.sram = s.mem.sram ∧ ∀ j, j < n → peek 0#8 u.mem.psram (y + j) = peek 0#8 s.mem.sram (x + j) := by
  induction n with
  | zero => exact ⟨rfl, by omega⟩
  | succ n ih =>
    intro u
    obtain ⟨hsram, hbytes⟩ := ih (by omega) (by omega)
    have hmoved := foldl_dmaStep_moved ((List.range n).map fun j => (0x20000000 + x + j, 0x40000000 + y + j)) s
    have hu : u = dmaStep (((List.range n).map fun j => (0x20000000 + x + j, 0x40000000 + y + j)).foldl dmaStep s)
        (0x20000000 + x + n, 0x40000000 + y + n) := by
      simp only [u, List.range_succ, List.map_append, List.foldl_append, List.map_cons, List.map_nil, List.foldl_cons, List.foldl_nil]
    generalize ((List.range n).map fun j => (0x20000000 + x + j, 0x40000000 + y + j)).foldl dmaStep s = v at *
    have hsrc : dmaPlace s (0x20000000 + x + n) = some (.sram (x + n)) := by
      unfold dmaPlace
      rw [if_neg (by omega), if_pos (by omega), show 0x20000000 + x + n - 0x20000000 = x + n by omega]
    have hdst : dmaPlace s (0x40000000 + y + n) = some (.psram (y + n)) := by
      unfold dmaPlace
      rw [if_neg (by omega), if_neg (by omega), if_pos (by omega), show 0x40000000 + y + n - 0x40000000 = y + n by omega]
    have hstep : u.mem.sram = v.mem.sram ∧ u.mem.psram = poke 0#8 v.mem.psram (y + n) (peek 0#8 v.mem.sram (x + n)) := by
      rw [hu]
      unfold dmaStep
      rw [hmoved.place, hmoved.place, hsrc, hdst]
      exact ⟨rfl, rfl⟩
    refine ⟨hstep.1.trans hsram, fun j hj => ?_⟩
    rw [hstep.2, peek_poke _ _ (hmoved.psram hwf).1]
    split
    · next heq => rw [hsram, Nat.add_left_cancel heq]
    · exact hbytes j (by omega)

end Sys2Proof.Machine
end

/-! # The other commands that store

Each keeps the memories' form and the rings' fit. -/

section
namespace Sys2Proof.Machine

open Sys2Proof


variable {F S L B : Nat → Prop} {s t u : State}

/-! ### The other commands that store -/

theorem execRunningEntry_keepsForm (t) (s : State) : Answers (execRunningEntry t s) (KeepsForm s) := by
  have htime : KeepsForm s (s.upTo t) := .upTo t s
  unfold execRunningEntry
  extract_lets s₁ m et well₂ s₂ s₃ s₄ s₅ s₆
  rw [answers_ite]
  split
  · exact htime
  · have h₂ : KeepsForm s s₂ := htime.view rfl
    clear_value s₂
    have h₃ : KeepsForm s s₃ := ((h₂.view (checkModelRate_view _ rfl)).view (setupContexts_view _ rfl)).trans (setupSilo_keepsForm _)
    clear_value s₃
    have h₄ : KeepsForm s s₄ := (h₃.view (modeChange_view _ _ _ _ rfl)).view (keyAtRun_view _ rfl)
    clear_value s₄
    have h₅ : KeepsForm s s₅ := (h₄.view (startReport_view _ rfl)).view (heartbeat_view _ _ rfl)
    clear_value s₅
    have h₆ : KeepsForm s s₆ := (((h₅.view (setSoc_view _ _ rfl)).view (startTimers_view _ _ rfl)).view (releaseStart_view _ rfl)).view
      (runBmca_view _ rfl)
    clear_value s₆
    exact Stores.view (stores_ite (h₆.view (contactWork_view _ rfl)) h₆) (pump_view _ rfl)

theorem execBlockBoundary_keepsForm (x) (s : State) : Answers (execBlockBoundary x s) (KeepsForm s) := by
  have htime : KeepsForm s (s.upTo x.t) := .upTo _ s
  unfold execBlockBoundary
  dsimp only
  generalize s.upTo x.t = v at htime ⊢
  rw [answers_ite, answers_ite, answers_ite]
  split
  · exact htime
  · split
    · exact stores_ite (htime.view (wellBlock_view _ rfl)) htime
    · split
      · exact stores_ite (htime.view (wellBlock_view _ rfl)) htime
      · exact (htime.trans (boundary_keepsForm x v)).view (pump_view _ rfl)

theorem execSlumberResume_keepsForm (x) (s : State) : Answers (execSlumberResume x s) (KeepsForm s) := by
  have htime : KeepsForm s (s.upTo x.t) := .upTo _ s
  unfold execSlumberResume
  dsimp only
  generalize s.upTo x.t = v at htime ⊢
  split
  · next w m _ _ =>
    rw [answers_ite]
    split
    · have hplaced : KeepsForm s (placeBlock (senseBoundary x { v with blocks := { v.blocks with exists_ := true, placed := false } })) :=
        (Stores.view (htime.view rfl) (senseBoundary_view _ _ rfl)).view (placeBlock_view _ rfl)
      generalize placeBlock (senseBoundary x { v with blocks := { v.blocks with exists_ := true, placed := false } }) = p at hplaced ⊢
      have hdue := hplaced.trans (intervene_keepsForm p)
      generalize intervene p = y at hdue ⊢
      rw [answers_ite]
      split
      · exact Stores.view (Stores.view (hdue.view rfl) (bpoBoundary_view _ rfl)) (pump_view _ rfl)
      · exact ((((hdue.view (exitSlumber_view _ _ rfl)).view (firstPlant_view _ rfl)).view (openPaths_view _ rfl)).view
          (pathBoundary_view _ rfl)).view (beginBlock_view _ _ _ rfl) |>.view (pump_view _ rfl)
    · exact htime
  · exact htime

theorem resetDevice_keepsForm (cause keepLog) (s : State) : KeepsForm s (resetDevice cause keepLog s) :=
  ⟨.refl, .refl, .refl, .refl, fun _ => ⟨Nat.zero_le _, Nat.zero_le _, Nat.zero_le _, Nat.zero_le _⟩⟩

theorem watchdogReset_keepsForm (cause) {code : BitVec 16} (hcode : code ≠ 0xF600#16) (detail) (s : State) :
    KeepsForm s (watchdogReset cause code detail s) := by
  have h : KeepsForm s (raise code 0 detail s) := .of_view (raise_view _ _ _ rfl hcode)
  exact Stores.trans (stores_ite (h.view (countFailed_view _ _ rfl)) h) (resetDevice_keepsForm ..)

theorem failStep_keepsForm {code : BitVec 16} (hcode : code ≠ 0xF600#16) (unit detail) (s : State) :
    KeepsForm s (failStep code unit detail s) :=
  (((Stores.of_view (raise_view _ _ _ rfl hcode)).view (raise_view _ _ _ rfl (by decide))).view (countFailed_view _ _ rfl)).trans
    (resetDevice_keepsForm ..)

theorem execLoftLoad_keepsForm (t good) (s : State) : Answers (execLoftLoad t good s) (KeepsForm s) := by
  have htime : KeepsForm s (s.upTo t) := .upTo t s
  have hready : KeepsForm s (setupContexts (loadClips (loadProfiles (loadModels (s.upTo t))))) :=
    (((htime.view (loadModels_view _ rfl)).view (loadProfiles_view _ rfl)).view (loadClips_view _ rfl)).view
      (setupContexts_view _ rfl)
  unfold execLoftLoad
  dsimp only
  generalize setupContexts (loadClips (loadProfiles (loadModels (s.upTo t)))) = v at hready ⊢
  generalize s.upTo t = w at htime ⊢
  rw [answers_ite, answers_ite, answers_ite, answers_ite]
  split
  · split
    · exact (htime.trans (loadLoft_keepsForm w)).view rfl
    · exact htime.trans (watchdogReset_keepsForm _ (by decide) _ w)
  · split
    · exact htime
    · split
      · exact (hready.trans (loadLoft_keepsForm v)).view rfl
      · exact ((hready.view (raise_view _ _ _ rfl (by decide))).view (countFailed_view _ _ rfl)).trans (resetDevice_keepsForm ..)

theorem keepsForm_psramDone (s : State) : KeepsForm s { s with start := { s.start with psramDone := true } } := .of_view rfl

theorem keepsForm_sized (m : Nat) (l : List Host.Cell) (s : State) (hl : Kept 0#8 anywhere s.mem.psram l) :
    KeepsForm s { s with mem := { s.mem with psramMiB := m, psram := l } } := ⟨.refl, hl, .refl, .refl, id⟩

theorem keepsForm_writeEnded (s : State) : KeepsForm s { s with gran := { s.gran with write := none } } := .of_view rfl

theorem keepsForm_refreshed (h : Option Nat) (s : State) : KeepsForm s { s with gran := { s.gran with lastRefresh := h } } :=
  .of_view rfl

theorem keepsForm_loadAt (b : Bool) (s : State) : KeepsForm s { s with gran := { s.gran with loadAt := true, loadB := b } } :=
  .of_view rfl

theorem kept_scattered {d : Byte} (f : Nat → Nat) (g : Nat → List Byte) (l : List Nat) (m : List Host.Cell) :
    Kept d anywhere m (l.foldl (fun m k => pokes d m (f k) (g k)) m) :=
  kept_foldl _ (fun _ _ => kept_pokes _ _ fun _ _ => trivial) _

theorem psramPatterns_kept (mib m) : Kept 0#8 anywhere m (psramPatterns mib m) := by
  unfold psramPatterns
  extract_lets size n
  exact (kept_scattered _ _ _ m).trans (kept_pokes _ _ fun _ _ => trivial)

theorem execPsramBringup_keepsForm (t tries) (s : State) : Answers (execPsramBringup t tries s) (KeepsForm s) := by
  have htime : KeepsForm s (s.upTo t) := .upTo t s
  unfold execPsramBringup
  dsimp only
  generalize s.upTo t = v at htime ⊢
  rw [answers_ite]
  split
  · exact htime
  · split
    · next x _ =>
      have hsized := htime.trans (keepsForm_sized (psramSize x.mib) _ v (psramPatterns_kept (psramSize x.mib) v.mem.psram))
      exact (hsized.trans (setupSilo_keepsForm _)).trans (keepsForm_psramDone _)
    · exact htime.trans (failStep_keepsForm (by decide) _ _ v)

theorem execSlumberPowerDown_keepsForm (t) (s : State) : Answers (execSlumberPowerDown t s) (KeepsForm s) := by
  have h : KeepsForm s (pump (s.upTo t)) := (Stores.upTo t s).view (pump_view _ rfl)
  unfold execSlumberPowerDown
  dsimp only
  generalize pump (s.upTo t) = v at h ⊢
  rw [answers_ite]
  split
  · have hdraw : KeepsForm s (drawFree v).2 := h.view (drawFree_view _ rfl)
    generalize drawFree v = r at hdraw ⊢
    exact hdraw.trans ⟨.refl, .refl, fun _ => ⟨rfl, fun _ ha => absurd trivial ha⟩, .refl, id⟩
  · exact h

theorem keepsForm_red (r : Redundancy) (s : State) : KeepsForm s { s with red := r } := .of_view rfl

theorem execTieBlock_keepsForm (t b) (s : State) : Answers (execTieBlock t b s) (KeepsForm s) := by
  unfold execTieBlock
  extract_lets work
  have hwork (h) (v : State) : KeepsForm v (work h v) := by
    dsimp only [work]
    split
    · exact .refl v
    · exact (keepsForm_red _ v).trans (takeHeld_keepsForm _)
  clear_value work
  exact ((Stores.upTo t s).trans (stores_receivePair _ _ hwork _)).view (tieReply_view _ _ rfl)

theorem execResyncReplayComplete_keepsForm (t) (s : State) : Answers (execResyncReplayComplete t s) (KeepsForm s) := by
  have htime : KeepsForm s (s.upTo t) := .upTo t s
  exact stores_ite ((htime.trans (replayAll_keepsForm _)).view rfl) htime

theorem execCheckpointComplete_keepsForm (t) (s : State) : Answers (execCheckpointComplete t s) (KeepsForm s) := by
  unfold execCheckpointComplete
  extract_lets s₁ buf b red₂ s₂ red₃ s₃ s₄ s₅
  have h₁ : KeepsForm s s₁ := .upTo t s
  clear_value s₁
  have h₂ : KeepsForm s s₂ := h₁.trans (keepsForm_red _ s₁)
  clear_value s₂
  have h₃ : KeepsForm s s₃ := h₂.trans (keepsForm_red _ s₂)
  clear_value s₃
  have h₄ : KeepsForm s s₄ := stores_ite (h₃.view (clearAll_view _ rfl (by decide))) h₃
  clear_value s₄
  have h₅ : KeepsForm s s₅ := h₂.view (raise_view _ _ _ rfl (by decide))
  clear_value s₅
  rw [answers_ite, answers_ite]
  split
  · exact h₁
  · split
    · exact stores_ite (h₄.trans (restoreCkpt_keepsForm ..)) h₄
    · exact stores_ite (h₅.trans (keepsForm_red _ _)) h₅

theorem execCheckpointRestoreComplete_keepsForm (t) (s : State) : Answers (execCheckpointRestoreComplete t s) (KeepsForm s) := by
  have htime : KeepsForm s (s.upTo t) := .upTo t s
  unfold execCheckpointRestoreComplete
  extract_lets s₁ s₂
  have h₁ : KeepsForm s s₁ := htime
  clear_value s₁
  have h₂ : KeepsForm s s₂ := by
    dsimp only [s₂]
    split
    · exact h₁.trans (restoreCkpt_keepsForm ..)
    · exact h₁
  clear_value s₂
  rw [answers_ite]
  split
  · exact h₁
  · exact h₂.view rfl

theorem pairRecord_keepsForm (r eui n p fails) (s : State) : KeepsForm s (pairRecord r eui n p fails s) :=
  (pairRecord_stores r eui n p fails s).mono (fun _ _ => trivial) (fun _ => id) (fun _ => id) (fun _ => id)

theorem writeService_keepsForm (kind slot fails) (s : State) : KeepsForm s (writeService kind slot fails s) :=
  (writeService_stores kind slot fails s).anyFlash

theorem storeKey_keepsForm (w k spoil) (s : State) : KeepsForm s (storeKey w k spoil s).2.2 := .of_view (storeKey_view _ _ _ _ rfl)

theorem execKeyFrameReceive_keepsForm (t f spoil fails) (s : State) : Answers (execKeyFrameReceive t f spoil fails s) (KeepsForm s) := by
  have htime : KeepsForm s (s.upTo t) := .upTo t s
  unfold execKeyFrameReceive
  extract_lets s₁
  split
  · next b w _ _ =>
    extract_lets k
    rw [answers_ite]
    split
    · exact htime
    · refine htime.trans (stores_endpointIn f (fun v => stores_verified f (fun v => ?_) v) s₁)
      extract_lets p signed shared kek s₂
      have h₂ : KeepsForm v s₂ := .of_view (endTaking_view v rfl)
      clear_value s₂
      split
      · exact h₂.view (pairingFault_view _ _ _ rfl)
      · split
        · exact h₂.view (pairingFault_view _ _ _ rfl)
        · next y _ =>
          have h₃ : KeepsForm v (storeKey w y spoil s₂).2.2 := h₂.trans (storeKey_keepsForm ..)
          generalize storeKey w y spoil s₂ = stored at h₃ ⊢
          exact (stores_ite (h₃.trans (pairRecord_keepsForm ..)) h₃).view (sendDone_view _ _ _ _ _ _ rfl)
  · exact htime

theorem execJobComplete_keepsForm (t ctx rerun) (s : State) : Answers (execJobComplete t ctx rerun s) (KeepsForm s) := by
  have htime : KeepsForm s (s.upTo t) := .upTo t s
  unfold execJobComplete
  dsimp only
  generalize s.upTo t = v at htime ⊢
  split
  · next j _ =>
    split
    · next h0 _ =>
      have hdevice : KeepsForm s (v.upToDevice (jobStart v j)) := htime.trans (.upToDevice _ v)
      rw [answers_ite]
      split
      · exact hdevice.trans (finishJob_keepsForm ..)
      · exact hdevice
    · exact htime
  · exact htime

theorem completeWrite_keepsForm (w i fails) (s : State) : KeepsForm s (completeWrite w i fails s) := by
  unfold completeWrite
  extract_lets base mem₁ s₁ s₂ gran₃ s₃ refresh d gran₄ s₄ s₅ s₆
  have h₁ : KeepsForm s s₁ := ⟨kept_programs _ _ fun _ _ _ => trivial, .refl, .refl, .refl, id⟩
  clear_value s₁
  have h₂ : KeepsForm s s₂ := (h₁.view (opGood_view _ rfl)).trans (writeService_keepsForm ..)
  clear_value s₂
  have h₃ : KeepsForm s s₃ := (h₂.trans (keepsForm_writeEnded s₂)).view (setSlot_view _ _ _ rfl)
  clear_value s₃
  have h₄ : KeepsForm s s₄ := stores_ite
    (((h₃.trans (keepsForm_refreshed _ s₃)).view (raise_view _ _ _ rfl (by decide))).trans (rewriteRecords_stores _))
    (h₃.view (raise_view _ _ _ rfl (by decide)))
  clear_value s₄
  have h₅ : KeepsForm s s₅ := h₄.view (repairEvent_view _ _ _ _ _ _ _ rfl)
  clear_value s₅
  have h₆ : KeepsForm s s₆ := stores_ite h₅ (h₅.view (healedClears_view _ rfl))
  clear_value s₆
  exact stores_ite ((h₆.trans (keepsForm_loadAt _ s₆)).view (makeDue_view _ _ rfl)) h₆

end Sys2Proof.Machine
end

/-! # Every command keeps the memories' form

A store keeps it, a scan of the rings finds places in them, and every other command keeps the memories. -/

section
namespace Sys2Proof.Machine

open Sys2Proof


variable {s t u : State} {c : Instr}

/-! ### The last command that stores, and the commands that end a hold or scan the rings -/

theorem execSlotWriteComplete_keepsForm (t marker fails spoil) (s : State) :
    Answers (execSlotWriteComplete t marker fails spoil s) (KeepsForm s) := by
  have h : KeepsForm s (advanceWrite (s.upTo t)) := (Stores.upTo t s).view (advanceWrite_view _ rfl)
  unfold execSlotWriteComplete
  dsimp only
  generalize advanceWrite (s.upTo t) = v at h ⊢
  split
  · next w _ =>
    rw [answers_ite, answers_ite]
    split
    · exact h
    · split
      · exact ((h.view (setSlot_view _ _ _ rfl)).view (failWrite_view _ rfl)).view (checkFault_view _ _ _ rfl)
      · split
        · exact (h.view (opFault_view _ _ _ _ rfl)).view (failWrite_view _ rfl)
        · exact (h.view (recordSigner_view _ _ _ rfl)).trans (completeWrite_keepsForm ..)
  · exact h

theorem releaseReset_keepsForm (s : State) : KeepsForm s (releaseReset s) := ⟨.refl, .refl, .refl, .refl, id⟩

theorem quietInstr_keepsForm (ir bits) (s : State) : KeepsForm s (quietInstr ir bits s) := by
  unfold quietInstr
  extract_lets held jtag s₁
  have h : KeepsForm s s₁ := .of_view rfl
  clear_value s₁
  exact stores_ite (h.trans (releaseReset_keepsForm _)) h

theorem keepsForm_irScan (s : State) : KeepsForm s (irScan s) := .of_view rfl

/-- The place found last by a fold over the slots of a ring is the place of one of them. -/
theorem newest_lt {r : Ring} {m : List Host.Cell} {seq newer} {k : Nat} (hk : r.newest m seq newer = some k) : k < r.count := by
  unfold Ring.newest at hk
  have hfold (l : List Nat) (best : Option Nat) (hl : ∀ x ∈ l, x < r.count) (hbest : ∀ x ∈ best, x < r.count) :
      ∀ x ∈ l.foldl (fun best k => if r.committed m k then
        (match best with
         | none => some k
         | some b => if newer (seq (r.bytes m k)) (seq (r.bytes m b)) then some k else best)
        else best) best, x < r.count := by
    induction l generalizing best with
    | nil => exact hbest
    | cons x l ih =>
      refine ih _ (fun y hy => hl y (List.mem_cons_of_mem _ hy)) ?_
      have hx := hl x List.mem_cons_self
      grind
  exact hfold _ none (fun x hx => List.mem_range.mp hx) nofun k hk

theorem placeAfter_newest_le {r : Ring} {m : List Host.Cell} {seq newer} : placeAfter (r.newest m seq newer) ≤ r.count := by
  cases hk : r.newest m seq newer with
  | none => exact Nat.zero_le _
  | some k => exact newest_lt hk

theorem mem_insertPair {x y : Nat × Nat} {l : List (Nat × Nat)} : y ∈ insertPair x l ↔ y = x ∨ y ∈ l := by
  induction l with
  | nil => simp [insertPair]
  | cons z l ih =>
    unfold insertPair
    split
    · simp
    · simp [ih, or_left_comm]

theorem logSlots_lt {m : List Host.Cell} {x : Nat × Nat} (hx : x ∈ logSlots m) : x.2 < 2048 := by
  have hsort (l : List (Nat × Nat)) : x ∈ l.foldr insertPair [] ↔ x ∈ l := by
    induction l with
    | nil => simp
    | cons y l ih => simp [mem_insertPair, ih]
  unfold logSlots at hx
  rw [hsort, List.mem_filterMap] at hx
  obtain ⟨k, hk, hkx⟩ := hx
  split at hkx
  · simp only [Option.some.injEq] at hkx
    subst hkx
    exact List.mem_range.mp hk
  · cases hkx

theorem keepsForm_of_rings (hmem : u.mem = s.mem) (hrings : s.ringsFit → u.ringsFit) : KeepsForm s u :=
  ⟨.of_eq (by rw [hmem]), .of_eq (by rw [hmem]), .of_eq (by rw [hmem]), .of_eq (by rw [hmem]), hrings⟩

theorem scanLog_keepsForm (s : State) : KeepsForm s (scanLog s) := by
  unfold scanLog
  extract_lets m slots torn
  have hnext {n : Nat} (hn : n ≤ 2048) (log : AshLog) (status : Status) (hlog : log.nextSlot = n) :
      KeepsForm s { s with log := log, status := status } :=
    keepsForm_of_rings rfl fun h => ⟨hlog.le.trans hn, h.2⟩
  split
  next next seq heq =>
  have hle : next ≤ 2048 := by
    split at heq
    · next n k hlast =>
      cases heq
      exact logSlots_lt (List.mem_of_getLast? hlast)
    · cases heq
      exact Nat.zero_le _
  exact stores_ite ((hnext hle _ _ rfl).view (raise_view _ _ _ rfl (by decide))) (hnext hle _ _ rfl)

theorem keepsForm_recSlot (sec : Security) (s : State) (h : sec.recSlot ≤ 2048) : KeepsForm s { s with sec := sec } :=
  keepsForm_of_rings rfl fun hs => ⟨hs.1, h, hs.2.2⟩

theorem scanReservations_keepsForm (s : State) : KeepsForm s (scanReservations s) := by
  unfold scanReservations
  extract_lets m n gone
  have hn : placeAfter n ≤ 2048 := placeAfter_newest_le (r := resRing)
  clear_value n
  exact keepsForm_recSlot _ s hn

theorem keepsForm_pairPlace (red : Redundancy) (gran : Granary) (s : State) (h : gran.pairPlace ≤ 2048)
    (hservice : gran.serviceAt = s.gran.serviceAt) : KeepsForm s { s with red := red, gran := gran } :=
  keepsForm_of_rings rfl fun hs => ⟨hs.1, hs.2.1, h, hservice.le.trans hs.2.2.2⟩

theorem scanPairs_keepsForm (s : State) : KeepsForm s (scanPairs s) := by
  unfold scanPairs
  refine Stores.trans ?_ (partnerProfile_stores _)
  split
  · exact keepsForm_pairPlace _ _ s (Nat.zero_le _) rfl
  · next k hk => exact keepsForm_pairPlace _ _ s (newest_lt hk) rfl

theorem keepsForm_serviceAt (gran : Granary) (s : State) (h : gran.serviceAt ≤ 4096)
    (hpair : gran.pairPlace = s.gran.pairPlace) : KeepsForm s { s with gran := gran } :=
  keepsForm_of_rings rfl fun hs => ⟨hs.1, hs.2.1, hpair.le.trans hs.2.2.1, h⟩

theorem scanService_keepsForm (s : State) : KeepsForm s (scanService s) := by
  unfold scanService
  extract_lets m n
  have hn : placeAfter n ≤ 4096 := placeAfter_newest_le (r := svcRing)
  clear_value n
  exact keepsForm_serviceAt _ s hn rfl

theorem keepsForm_found (mib : Nat) (at_ : Option Nat) (s : State) :
    KeepsForm s { s with mem := { s.mem with flashUp := true, flashMiB := mib, upAt := at_ } } := .of_view rfl

theorem keepsForm_absent (at_ : Option Nat) (s : State) :
    KeepsForm s { s with mem := { s.mem with flashAbsent := true, upAt := at_ } } := .of_view rfl

theorem execFlashBringup_keepsForm (t tries) (s : State) : Answers (execFlashBringup t tries s) (KeepsForm s) := by
  have htime : KeepsForm s (s.upTo t) := .upTo t s
  unfold execFlashBringup
  dsimp only
  generalize s.upTo t = v at htime ⊢
  rw [answers_ite]
  split
  · exact htime
  · split
    · exact (htime.trans (keepsForm_absent _ v)).view (flashFault_view _ _ _ rfl)
    · exact ((((htime.trans (keepsForm_found _ _ v)).trans (scanLog_keepsForm _)).trans (scanReservations_keepsForm _)).trans
        (scanPairs_keepsForm _)).trans (scanService_keepsForm _)

/-! ### Every command -/

/-- The commands that may store or, without a reset, find the rings' next places again. -/
def mayStore (c : Instr) : Bool :=
  likeReset c || (footprint c).2.any fun p => p == .flash || p == .psram || p == .loft || p == .sram

theorem ownParts_mem (hc : mayStore c = false) (p : Part) (hp : ownParts c p = true) : memParts p = true := by
  simp only [mayStore, Bool.or_eq_false_iff, List.any_eq_false] at hc
  unfold ownParts at hp
  split at hp
  · rw [hc.1] at hp
    cases hp
  · next hr =>
    have h := hc.2 p (by simpa using hp)
    simp_all [memParts]

theorem quietScan_keepsForm (ir bits) (s : State) : KeepsForm s (quietInstr ir bits (irScan s)) :=
  (keepsForm_irScan s).trans (quietInstr_keepsForm ir bits _)

theorem execResetRelease_keepsForm (rise por) (s : State) : Answers (execResetRelease rise por s) (KeepsForm s) := by
  unfold execResetRelease
  extract_lets s₁ lands s₂
  have h : KeepsForm s s₂ := (Stores.upTo _ s).view rfl
  clear_value s₂
  rw [answers_ite]
  split
  · exact h
  · exact h.trans (releaseReset_keepsForm _)

theorem execBypass_keepsForm (t op) (s : State) : Answers (execBypass t op s) (KeepsForm s) := by
  unfold execBypass
  dsimp only
  rw [answers_ite]
  split
  · exact .upTo t s
  · exact (Stores.upTo t s).trans (quietScan_keepsForm ..)

theorem execIdcode_keepsForm (t) (s : State) : Answers (execIdcode t s) (KeepsForm s) :=
  (Stores.upTo t s).trans (quietScan_keepsForm ..)

theorem execSamplePreload_keepsForm (t) (s : State) : Answers (execSamplePreload t s) (KeepsForm s) :=
  (Stores.upTo t s).trans (quietScan_keepsForm ..)

theorem execTapReset_keepsForm (t) (s : State) : Answers (execTapReset t s) (KeepsForm s) :=
  (Stores.upTo t s).trans (quietInstr_keepsForm ..)

theorem execFlashOperationComplete_keepsForm (t failed) (s : State) :
    Answers (execFlashOperationComplete t failed s) (KeepsForm s) := by
  cases ho : s.mem.op with
  | some o => exact (execFlashOperationComplete_operated t failed ho).imp fun _ => Operated.keepsForm
  | none =>
    unfold execFlashOperationComplete
    dsimp only
    rw [State.upTo_mem, ho]
    exact .upTo t s

theorem exec_stores_keepsForm (hc : mayStore c = true) (hu : exec c s = .next u) : KeepsForm s u := by
  cases c with
  | resetRelease rise por => exact (execResetRelease_keepsForm rise por s).of_next hu
  | idcode t => exact (execIdcode_keepsForm t s).of_next hu
  | samplePreload t => exact (execSamplePreload_keepsForm t s).of_next hu
  | bypass t op => exact (execBypass_keepsForm t op s).of_next hu
  | tapReset t => exact (execTapReset_keepsForm t s).of_next hu
  | flashBringup t tries => exact (execFlashBringup_keepsForm t tries s).of_next hu
  | loftLoad t good => exact (execLoftLoad_keepsForm t good s).of_next hu
  | psramBringup t tries => exact (execPsramBringup_keepsForm t tries s).of_next hu
  | runningEntry t => exact (execRunningEntry_keepsForm t s).of_next hu
  | blockBoundary x => exact (execBlockBoundary_keepsForm x s).of_next hu
  | slumberPowerDown t => exact (execSlumberPowerDown_keepsForm t s).of_next hu
  | slumberResume x => exact (execSlumberResume_keepsForm x s).of_next hu
  | ashLogEntryWrite t failed => exact ((execAshLogEntryWrite_stores t failed s).of_next hu).keepsForm
  | tieBlock t b => exact (execTieBlock_keepsForm t b s).of_next hu
  | tieCheckpointChunk t x => exact ((execTieCheckpointChunk_stores t x s).of_next hu).keepsForm
  | resyncReplayComplete t => exact (execResyncReplayComplete_keepsForm t s).of_next hu
  | checkpointComplete t => exact (execCheckpointComplete_keepsForm t s).of_next hu
  | checkpointRestoreComplete t => exact (execCheckpointRestoreComplete_keepsForm t s).of_next hu
  | reservationCommit t ann fails => exact ((execReservationCommit_stores t ann fails s).of_next hu).keepsForm
  | keyFrameReceive t f spoil fails => exact (execKeyFrameReceive_keepsForm t f spoil fails s).of_next hu
  | doneReceive t f fails => exact ((execDoneReceive_stores t f fails s).of_next hu).keepsForm
  | jobComplete t ctx rerun => exact (execJobComplete_keepsForm t ctx rerun s).of_next hu
  | stateCommit t k => exact ((execStateCommit_stores t k s).of_next hu).keepsForm
  | flashOperationComplete t failed => exact (execFlashOperationComplete_keepsForm t failed s).of_next hu
  | dmaRegisterSetComplete t ch => exact (execDmaRegisterSetComplete_moved hu).keepsForm
  | poweredHour fails => exact ((execPoweredHour_stores fails s).of_next hu).keepsForm
  | slotWriteComplete t marker fails spoil => exact (execSlotWriteComplete_keepsForm t marker fails spoil s).of_next hu
  | _ => cases hc

theorem Evolves.mono {P Q : Part → Bool} (h : Evolves P s u) (hPQ : ∀ p, P p = true → Q p = true) : Evolves Q s u :=
  have hle {p : Part} (hp : Q p = false) : P p = false := by
    by_contra hP
    simp [hPQ p (by simpa using hP)] at hp
  { now := h.now, pending := h.pending, eui48 := h.eui48
    phase := fun hp => h.phase (hle hp)
    same := fun p hp => h.same p (hle hp)
    keyRefused := fun hp => h.keyRefused (by
      simp only [Bool.or_eq_false_iff] at hp ⊢
      exact ⟨hle hp.1, hle hp.2⟩)
    rings := fun hp => h.rings (by
      simp only [Bool.or_eq_false_iff] at hp ⊢
      exact ⟨hle hp.1, hle hp.2⟩) }

theorem PoweredOn.keepsForm (h : PoweredOn s u) : KeepsForm s u where
  flash := .of_eq (h.evolves.same .flash rfl)
  psram := .of_eq (h.evolves.same .psram rfl)
  loft := .of_eq (h.evolves.same .loft rfl)
  sram := .of_eq (h.evolves.same .sram rfl)
  rings := fun _ => by
    have hrings := h.rings
    simp only [ringPlaces, Prod.mk.injEq] at hrings
    obtain ⟨hlog, hrec, hpair, hservice⟩ := hrings
    exact ⟨hlog.le.trans (Nat.zero_le _), hrec.le.trans (Nat.zero_le _), hpair.le.trans (Nat.zero_le _),
      hservice.le.trans (Nat.zero_le _)⟩

/-- A command that neither stores nor resets the device keeps the memories' form with the memories themselves; one that resets it
keeps what the memories hold. -/
theorem exec_keepsForm (hu : exec c s = .next u) : KeepsForm s u := by
  by_cases hc : mayStore c = true
  · exact exec_stores_keepsForm hc hu
  · have hown (h : Evolves (ownParts c) s u) : KeepsForm s u := .of_evolves (h.mono (ownParts_mem (by simpa using hc)))
    by_cases hreset : (footprint c).2.contains .reset = true
    · obtain ⟨hon, -⟩ | h := exec_held_or_evolves hreset hu
      · exact hon.keepsForm
      · exact hown h
    · exact hown (exec_evolves (by simpa using hreset) hu)

end Sys2Proof.Machine
end

/-! # Memories in form, and bytes outside a store (O4 and O28)

Read off the stores of each command. -/

section
namespace Sys2Proof.Machine

open Sys2Proof


variable {F S L B : Nat → Prop} {s t u : State} {c : Instr}

theorem memWf_iff (s : State) : s.memWf = true ↔ Memory.wf 0xFF#8 s.mem.flash = true ∧ Memory.wf 0#8 s.mem.psram = true
    ∧ Memory.wf 0#8 s.mem.loft = true ∧ Memory.wf 0#8 s.mem.sram = true := by
  simp [State.memWf, and_assoc]

theorem Stores.memWf (h : Stores F S L B s u) (hs : s.memWf = true) : u.memWf = true := by
  obtain ⟨hflash, hpsram, hloft, hsram⟩ := (memWf_iff s).mp hs
  exact (memWf_iff u).mpr ⟨(h.flash hflash).1, (h.psram hpsram).1, (h.loft hloft).1, (h.sram hsram).1⟩

/-- A step keeps the memories' form and the rings' fit: it is a command, or time passes. -/
theorem step_keepsForm (hu : step s = .next u) : KeepsForm s u := by
  unfold step at hu
  split at hu
  · cases hu
    exact .of_evolves (.advance _ s)
  · have h := exec_keepsForm hu
    exact ⟨h.flash, h.psram, h.loft, h.sram, h.rings⟩

/-- Settles O4: every command's stores keep each memory in canonical form. -/
theorem memoriesStayCanonical : Obligations.MemoriesStayCanonical := fun _ _ hs hu => (step_keepsForm hu).memWf hs

/-! ### The bytes outside the places of a store (chapters 4, 10, 19 and 20) -/

theorem Stores.flash_outside {r : Ring} (h : Stores r.holds S L B s u) (hs : s.memWf = true) (hfit : s.ringsFit) {a : Nat}
    (ha : a < r.base ∨ r.base + r.size * r.count ≤ a) : peek 0xFF#8 u.mem.flash a = peek 0xFF#8 s.mem.flash a :=
  (h.flash ((memWf_iff s).mp hs).1).2 a fun hin => by
    obtain ⟨hlo, hhi⟩ := hin hfit
    omega

theorem Stores.psram_outside (h : Stores F S L B s u) (hs : s.memWf = true) {a : Nat} (ha : ¬ S a) :
    peek 0#8 u.mem.psram a = peek 0#8 s.mem.psram a := (h.psram ((memWf_iff s).mp hs).2.1).2 a ha

/-- The commands that write records, and the ring of each. -/
theorem record_outside {lo hi : Nat} (hs : s.memWf = true) (hfit : s.ringsFit) (hu : exec c s = .next u)
    (hc : (∃ t b, c = .ashLogEntryWrite t b ∧ lo = 0x10000 ∧ hi = 0x20000)
      ∨ (∃ t k l, c = .reservationCommit t k l ∧ lo = 0 ∧ hi = 0x8000)
      ∨ (∃ t f l, c = .doneReceive t f l ∧ lo = 0x8000 ∧ hi = 0x10000)
      ∨ (∃ l, c = .poweredHour l ∧ lo = 0x20000 ∧ hi = 0x30000)) {a : Nat} (ha : a < lo ∨ hi ≤ a) :
    peek 0xFF#8 u.mem.flash a = peek 0xFF#8 s.mem.flash a := by
  obtain ⟨t, b, rfl, rfl, rfl⟩ | ⟨t, k, l, rfl, rfl, rfl⟩ | ⟨t, f, l, rfl, rfl, rfl⟩ | ⟨l, rfl, rfl, rfl⟩ := hc
  · exact Stores.flash_outside (r := logRing) ((execAshLogEntryWrite_stores t b s).of_next hu) hs hfit ha
  · exact Stores.flash_outside (r := resRing) ((execReservationCommit_stores t k l s).of_next hu) hs hfit ha
  · exact Stores.flash_outside (r := pairRing) ((execDoneReceive_stores t f l s).of_next hu) hs hfit ha
  · exact Stores.flash_outside (r := svcRing) ((execPoweredHour_stores l s).of_next hu) hs hfit ha

/-- Outside the addresses moved to, an address of each memory reads as before. -/
theorem Moved.outside {l : List Nat} (h : Moved l s u) (hs : s.memWf = true) {a : Nat} (ha : a ∉ l) :
    (∀ o, dmaPlace s a = some (.loft o) → peek 0#8 u.mem.loft o = peek 0#8 s.mem.loft o)
      ∧ (∀ o, dmaPlace s a = some (.sram o) → peek 0#8 u.mem.sram o = peek 0#8 s.mem.sram o)
      ∧ (∀ o, dmaPlace s a = some (.psram o) → peek 0#8 u.mem.psram o = peek 0#8 s.mem.psram o)
      ∧ (∀ o, dmaPlace s a = some (.flash o) → peek 0xFF#8 u.mem.flash o = peek 0xFF#8 s.mem.flash o) := by
  obtain ⟨hflash, hpsram, hloft, hsram⟩ := (memWf_iff s).mp hs
  have hout {p : DmaPlace} (hp : dmaPlace s a = some p) (hq : ∀ q, p ≠ .queue q) : ¬ ∃ b ∈ l, dmaPlace s b = some p :=
    fun ⟨b, hb, hbp⟩ => ha (dmaPlace_inj hp hbp hq ▸ hb)
  exact ⟨fun o ho => (h.loft hloft).2 o (hout ho nofun), fun o ho => (h.sram hsram).2 o (hout ho nofun),
    fun o ho => (h.psram hpsram).2 o (hout ho nofun), fun o ho => (h.flash hflash).2 o (hout ho nofun)⟩

/-- The pairs of a set of one row, from the buffer SRAM to the PSRAM. -/
theorem dmaPairs_row {r : RegSet} {x y : Nat} (hrows : r.rows = 1) (hsrc : r.src.toNat = 0x20000000 + x)
    (hdst : r.dst.toNat = 0x40000000 + y) :
    dmaPairs r = (List.range r.rowLen).map fun j => (0x20000000 + x + j, 0x40000000 + y + j) := by
  simp [dmaPairs, hrows, hsrc, hdst]

theorem badAddress_row {r : RegSet} {x y : Nat} (hrows : r.rows = 1) (hsrc : r.src.toNat = 0x20000000 + x)
    (hdst : r.dst.toNat = 0x40000000 + y) (hx : x + r.rowLen ≤ 0x200000) (hy : y + r.rowLen ≤ s.mem.psramMiB * 1048576) :
    badAddress s r = none := by
  unfold badAddress
  rw [dmaPairs_row hrows hsrc hdst, List.find?_eq_none]
  intro a ha
  obtain ⟨_, hp, hap⟩ := List.mem_flatMap.mp ha
  obtain ⟨j, hj, rfl⟩ := List.mem_map.mp hp
  have hj := List.mem_range.mp hj
  have hplace : a = 0x20000000 + x + j ∨ a = 0x40000000 + y + j := by simpa using hap
  unfold dmaPlace
  obtain rfl | rfl := hplace
  · rw [if_neg (by omega), if_pos (by omega)]
    exact Bool.false_ne_true
  · rw [if_neg (by omega), if_neg (by omega), if_pos (by omega)]
    exact Bool.false_ne_true

theorem dmaRegisterSetComplete_row {n x y : Nat} {ch : Fin 16} (hs : s.memWf = true) (hvalid : s.mem.dma[ch].active.valid = true)
    (hkind : s.mem.dma[ch].active.kind = 0) (hrows : s.mem.dma[ch].active.rows = 1)
    (hsrc : s.mem.dma[ch].active.src.toNat = 0x20000000 + x) (hx : x + s.mem.dma[ch].active.rowLen ≤ 0x200000)
    (hdst : s.mem.dma[ch].active.dst.toNat = 0x40000000 + y)
    (hy : y + s.mem.dma[ch].active.rowLen ≤ s.mem.psramMiB * 1048576) :
    Runs (.dmaRegisterSetComplete n ch) s fun u =>
      ∀ j, j < s.mem.dma[ch].active.rowLen → peek 0#8 u.mem.psram (y + j) = peek 0#8 s.mem.sram (x + j) := by
  have hbad : badAddress (s.upTo n) s.mem.dma[ch].active = none := badAddress_row hrows hsrc hdst hx hy
  have hmove := foldl_dmaStep_sram_psram s.mem.dma[ch].active.rowLen (s.upTo n) hx hy ((memWf_iff s).mp hs).2.1
  rw [← dmaPairs_row hrows hsrc hdst, ← dmaMove_eq] at hmove
  rw [runs_iff]
  show Answers (execDmaRegisterSetComplete n ch s) _
  unfold execDmaRegisterSetComplete
  dsimp only
  rw [State.upTo_mem, hvalid, hkind, if_neg (by decide), if_pos rfl, hbad]
  exact hmove.2

/-- Settles O28: each command's stores lie in the region that its lemma names, and a register set of one row moves its bytes in
turn. -/
theorem memoryBytesOfStores : Obligations.MemoryBytesOfStores := by
  refine ⟨fun s u t failed o hs ho hu a ha => ?_, fun s u c lo hi hs hfit hu hc a ha => record_outside hs hfit hu hc ha,
    fun s u t x hs hu a ha => ?_, fun s u t k hs hu a hentry hbank => ?_, fun s u t ch hs _ _ hu a ha => ?_,
    fun s t ch x y hs hvalid hkind hrows hsrc hx hdst hy _ =>
      dmaRegisterSetComplete_row hs hvalid hkind hrows hsrc hx hdst hy⟩
  · have h := (execFlashOperationComplete_operated t failed ho).of_next hu
    exact (h.flash ((memWf_iff s).mp hs).1).2 a fun ⟨hlo, hhi⟩ => by omega
  · have h := (execTieCheckpointChunk_stores t x s).of_next hu
    exact h.psram_outside hs fun ⟨hlo, hhi⟩ => by omega
  · have h := (execStateCommit_stores t k s).of_next hu
    refine h.psram_outside hs ?_
    rintro (⟨hlo, hhi⟩ | ⟨bank, w, hw, hlo, hhi⟩)
    · omega
    · have := hbank bank w hw
      omega
  · refine (execDmaRegisterSetComplete_moved hu).outside hs fun hin => ?_
    obtain ⟨p, hp, hpa⟩ := List.mem_map.mp hin
    exact ha p hp hpa

end Sys2Proof.Machine
end

/-! # The frequency history's bound (chapter 6)

Each function that selects a reference keeps the history or clears it, and a window kept is among the last 16. -/

section
namespace Sys2Proof.Machine

open Sys2Proof


variable {s t u : State} {c : Instr}

/-! ### The frequency history (R145) -/

/-- The history's bound goes on to hold. -/
structure HistoryFits (s u : State) : Prop where
  bound : s.history.length ≤ 16 → u.history.length ≤ 16

/-- Every part but the history. -/
def notHistory (p : Part) : Bool := !(p == .history)

theorem HistoryFits.refl (s : State) : HistoryFits s s := ⟨id⟩

theorem HistoryFits.trans (h : HistoryFits s t) (k : HistoryFits t u) : HistoryFits s u := ⟨k.bound ∘ h.bound⟩

theorem HistoryFits.of_eq (h : u.history = s.history) : HistoryFits s u := ⟨fun hs => by rwa [h]⟩

theorem HistoryFits.of_view (h : view notHistory u = view notHistory s) : HistoryFits s u :=
  .of_eq (eq_of_hide (b := false) (congrArg View.history h) rfl)

theorem HistoryFits.view (h : HistoryFits s t) (hv : view notHistory u = view notHistory t) : HistoryFits s u :=
  h.trans (.of_view hv)

theorem HistoryFits.upTo (n : Nat) (s : State) : HistoryFits s (s.upTo n) := .of_eq (State.upTo_history s n)

theorem HistoryFits.upToDevice (n : Nat) (s : State) : HistoryFits s (s.upToDevice n) := .of_eq (State.upToDevice_history s n)

theorem HistoryFits.of_poweredOn (h : PoweredOn s u) : HistoryFits s u := ⟨h.history.trans⟩

theorem historyFits_ite {b : Prop} [Decidable b] (h : HistoryFits s t) (k : HistoryFits s u) :
    HistoryFits s (if b then t else u) := by
  split
  · exact h
  · exact k

theorem historyFits_foldl {α : Type} (f : State → α → State) (hf : ∀ s x, HistoryFits s (f s x)) (l : List α) (s : State) :
    HistoryFits s (l.foldl f s) := by
  induction l generalizing s with
  | nil => exact .refl s
  | cons x l ih => exact (hf s x).trans (ih (f s x))

/-- A reference selected keeps the history or clears it. -/
theorem keepHistory_length_le (s : State) (r : Ref) : (keepHistory s r).length ≤ s.history.length := by
  unfold keepHistory
  split
  · exact le_rfl
  · exact Nat.zero_le _

theorem historyFits_keepHistory (r : Ref) (h : u.history = keepHistory s r) : HistoryFits s u :=
  ⟨fun hs => by
    rw [h]
    exact (keepHistory_length_le s r).trans hs⟩

theorem startSelect_historyFits (r) (s : State) : HistoryFits s (startSelect r s) := by
  have h : HistoryFits s { s with history := keepHistory s r } := historyFits_keepHistory r rfl
  exact (h.view (seedDco_view _ r rfl)).trans (.trans (.of_view rfl) (.of_view (selectClears_view _ r rfl)))

theorem deadlineSelect_historyFits (s : State) : HistoryFits s (deadlineSelect s) := by
  unfold deadlineSelect
  split
  · exact historyFits_ite (startSelect_historyFits ..)
      ((startSelect_historyFits ..).view (raise_view _ _ _ rfl (by decide)))
  · exact .refl s

theorem wellBegin_historyFits (t) (s : State) : HistoryFits s (wellBegin t s) := by
  unfold wellBegin
  extract_lets well s₁
  have h₁ : HistoryFits s s₁ := .of_eq rfl
  clear_value s₁
  split
  · exact h₁.trans (startSelect_historyFits ..)
  · exact h₁

theorem loseRef_historyFits (r crf) (s : State) : HistoryFits s (loseRef r crf s) := by
  have hcrf {v : State} (h : HistoryFits s v) : HistoryFits s (if crf && r == .net then raise 0xF311#16 0 [] v else v) :=
    historyFits_ite (h.view (raise_view _ _ _ rfl (by decide))) h
  unfold loseRef
  split
  · exact .refl s
  · next i _ =>
    extract_lets x well l y selected s₁ well₂ s₂ s₃ s₄ s₅
    have h₁ : HistoryFits s s₁ := .of_eq rfl
    have h₂ : HistoryFits s s₂ := .of_eq rfl
    have h₃ : HistoryFits s s₃ := hcrf h₂
    clear_value s₃
    have h₄ : HistoryFits s s₄ := .of_eq rfl
    have h₅ : HistoryFits s s₅ := hcrf h₄
    clear_value s₅
    refine historyFits_ite ?_ (historyFits_ite h₁ (historyFits_ite ?_ (h₅.view (raise_view _ _ _ rfl (by decide)))))
    · split
      · exact .of_eq rfl
      · exact .refl s
    · split
      · exact historyFits_ite (h₃.trans (deadlineSelect_historyFits _)) h₃
      · exact h₃

theorem switchTo_historyFits (et r fallBack) (s : State) : HistoryFits s (switchTo et r fallBack s) := by
  unfold switchTo
  extract_lets goal well₁ s₁
  have h₁ : HistoryFits s s₁ := historyFits_keepHistory r rfl
  clear_value s₁
  exact (historyFits_ite (h₁.view (raiseAt_view _ _ _ _ rfl (by decide))) h₁).view (selectClears_view _ r rfl)

theorem wellCheck_historyFits (t et) (s : State) : HistoryFits s (wellCheck t et s) := by
  unfold wellCheck
  extract_lets order ok best w
  refine historyFits_ite (historyFits_ite (.refl s) ?_) ?_
  · clear_value best
    cases best with
    | some b => exact switchTo_historyFits ..
    | none =>
      exact historyFits_ite (switchTo_historyFits ..) (.refl s)
  · split
    · exact .refl s
    · split
      · exact switchTo_historyFits ..
      · exact .refl s

theorem loopUpdate_historyFits (r err) (s : State) : HistoryFits s (loopUpdate r err s) := by
  unfold loopUpdate
  split
  next thr need _ =>
  extract_lets out w s₁
  have h₁ : HistoryFits s s₁ := .of_eq rfl
  clear_value s₁
  exact historyFits_ite (h₁.view (lockNow_view _ rfl)) (historyFits_ite (h₁.trans (loseRef_historyFits ..)) h₁)

theorem wellBlock_historyFits (s : State) : HistoryFits s (wellBlock s) := by
  unfold wellBlock
  extract_lets w s₁ w₁ w₂ w₃
  have h₁ : HistoryFits s s₁ := by
    dsimp only [s₁]
    split
    · exact .of_eq rfl
    · split
      · exact .of_eq rfl
      · exact .of_eq rfl
      · exact historyFits_ite (loopUpdate_historyFits ..) (.refl s)
  exact h₁.trans (.of_eq rfl)

theorem stopForSafe_historyFits (s : State) : HistoryFits s (stopForSafe s) := historyFits_keepHistory .local rfl

theorem safeState_historyFits (et cause code) (s : State) : HistoryFits s (safeState et cause code s) := by
  unfold safeState
  extract_lets start s₁
  have h₁ : HistoryFits s s₁ := (HistoryFits.of_eq rfl).trans (.of_view (modeSet_view _ _ _ _ rfl))
  clear_value s₁
  exact (((((h₁.trans (stopForSafe_historyFits _)).view (runBmca_view _ rfl)).view (applyLimits_view _ rfl)).view
    (releaseStart_view _ rfl)).view (refreshLeds_view _ rfl))

theorem enterSafe_historyFits (et code) (s : State) : HistoryFits s (enterSafe et code s) := by
  unfold enterSafe
  extract_lets left s₁
  have h₁ : HistoryFits s s₁ := ((safeState_historyFits et code code s).view (modeFrame_view _ _ _ _ _ rfl)).view
    (startReport_view _ rfl)
  exact h₁.trans (.of_eq rfl)

theorem safeAtStart_historyFits (cause code) {faults : State → State} (hf : ∀ s, HistoryFits s (faults s)) (s : State) :
    HistoryFits s (safeAtStart cause code faults s) := by
  unfold safeAtStart
  extract_lets et s₁ s₂ s₃
  have h₁ : HistoryFits s s₁ := .of_view (readKeys_view _ rfl)
  have h₂ : HistoryFits s s₂ := (h₁.view (modeFrame_view _ _ _ _ _ rfl)).trans (hf _)
  have h₃ : HistoryFits s s₃ := (h₂.trans (safeState_historyFits ..)).view (startReport_view _ rfl)
  exact h₃.trans (.of_eq rfl)

theorem loseSync_historyFits (s : State) : HistoryFits s (loseSync s) := by
  refine HistoryFits.trans (.view ?_ (raise_view _ _ _ rfl (by decide))) (loseRef_historyFits ..)
  exact .of_eq rfl

theorem takeNet_historyFits (s : State) : HistoryFits s (takeNet s) := historyFits_ite (switchTo_historyFits ..) (.refl s)

theorem takeover_historyFits (s : State) : HistoryFits s (takeover s) := by
  unfold takeover
  extract_lets et kind own nums s₁ s₂ s₃ s₄
  have h₂ : HistoryFits s s₂ := (HistoryFits.of_view (enterRole_view _ _ _ rfl)).view (raiseAt_view _ _ _ _ rfl (by decide))
  clear_value s₂
  have h₃ : HistoryFits s s₃ := by
    dsimp only [s₃]
    split
    · exact h₂.view (restoreCkpt_view _ _ rfl)
    · exact h₂
  clear_value s₃
  have h₄ : HistoryFits s s₄ := historyFits_ite (h₃.view (flushOwn_view _ rfl)) (h₃.view (setNumbers_view _ _ rfl))
  clear_value s₄
  refine HistoryFits.trans ?_ (takeNet_historyFits _)
  exact h₄.trans (.of_eq rfl)

theorem applyRole_historyFits (s : State) (d) : HistoryFits s (applyRole s d) := by
  unfold applyRole
  split
  · exact historyFits_ite (takeover_historyFits s) (.refl s)
  · exact historyFits_ite (.of_view (yieldRole_view s _ rfl)) (.refl s)
  · exact .refl s

theorem applyTime_historyFits (s : State) (d) : HistoryFits s (applyTime s d) := by
  unfold applyTime
  split
  · next e _ =>
    unfold applyStep
    refine HistoryFits.trans ?_ (loseSync_historyFits _)
    exact (HistoryFits.of_view (setTime_view s _ rfl)).trans (.of_eq rfl)
  · exact .refl s

theorem intervene_historyFits (s : State) : HistoryFits s (intervene s) := by
  unfold intervene
  extract_lets due blocks₁ s₁ s₂ s₃
  split
  · exact enterSafe_historyFits ..
  · have h₁ : HistoryFits s s₁ := .of_eq rfl
    have h₂ : HistoryFits s s₂ := ((h₁.trans (historyFits_foldl _ applyRole_historyFits _ _)).view
      (takeBackStep_view _ rfl)).view (partnerBoundary_view _ rfl)
    have h₃ : HistoryFits s s₃ := (h₂.trans (wellCheck_historyFits ..)).trans (historyFits_foldl _ applyTime_historyFits _ _)
    exact (h₃.view (switchRows_view _ _ _ rfl)).trans (historyFits_foldl _ (fun s d => .of_view (applyRepair_view s d rfl)) _ _)

theorem boundary_historyFits (x) (s : State) : HistoryFits s (boundary x s) := by
  unfold boundary
  extract_lets s₁ prior entry s₂ s₃ s₄
  have h₁ : HistoryFits s s₁ := (((HistoryFits.of_view (endBlock_view _ _ rfl)).view (senseBoundary_view _ _ rfl)).view
    (powerBoundary_view _ _ rfl)).view (placeBlock_view _ rfl)
  clear_value s₁
  have h₂ : HistoryFits s s₂ := (h₁.view (firstPlant_view _ rfl)).view (openPaths_view _ rfl)
  clear_value s₂
  have h₄ : HistoryFits s s₄ := ((h₂.trans (intervene_historyFits _)).view (keyAtBoundary_view _ rfl)).trans (wellBlock_historyFits _)
  clear_value s₄
  refine historyFits_ite (h₂.trans (wellBlock_historyFits _)) (historyFits_ite ?_ (historyFits_ite (h₄.view (bpoBoundary_view _ rfl))
    (historyFits_ite (h₄.view (enterSlumber_view _ rfl)) ?_)))
  · refine HistoryFits.view ?_ (bpoBoundary_view _ rfl)
    exact h₂.trans (.of_eq rfl)
  · exact ((h₄.view (pathBoundary_view _ rfl)).view (beginBlock_view _ _ _ rfl)).view (takeHeld_view _ rfl)

/-- The faults and warnings of the straps. -/
theorem raiseAll_historyFits (l) (s : State) : HistoryFits s (raiseAll l s) :=
  historyFits_foldl _ (fun _ _ => .of_eq (raise_history ..)) l s

theorem startFrom_historyFits (t) (s : State) : HistoryFits s (startFrom t s) := by
  have h : HistoryFits s { s with start := { s.start with base := some t, waitPair := false } } := .of_eq rfl
  exact (h.view (portsBegin_view _ rfl)).trans (wellBegin_historyFits ..)

theorem latchWay_historyFits (hard warn) (s : State) : HistoryFits s (latchWay hard warn s) := by
  have hlinks : HistoryFits s (safeLinks s) := .of_view (safeLinks_view _ rfl)
  cases hard with
  | cons f l => exact hlinks.trans (safeAtStart_historyFits _ _ (raiseAll_historyFits _) _)
  | nil =>
    refine historyFits_ite (historyFits_ite ((raiseAll_historyFits warn s).trans (.of_eq rfl)) ?_)
      ((raiseAll_historyFits warn s).trans (startFrom_historyFits ..))
    exact hlinks.trans (safeAtStart_historyFits _ _ (fun v => (raiseAll_historyFits warn v).view
      (raise_view _ _ _ rfl (by decide))) _)

/-- What the latch leaves as it is. -/
structure LatchKeeps (s u : State) : Prop where
  history : u.history = s.history
  switch : u.switch = s.switch

theorem LatchKeeps.trans (h : LatchKeeps s t) (k : LatchKeeps t u) : LatchKeeps s u :=
  ⟨k.history.trans h.history, k.switch.trans h.switch⟩

theorem latchKeeps_upTo (n : Nat) (s : State) : LatchKeeps s (s.upTo n) := ⟨State.upTo_history s n, State.upTo_switch s n⟩

theorem latchKeeps_setSwitch (s : State) : LatchKeeps s (setSwitch s) := ⟨rfl, rfl⟩

/-- What the latch at an instant has noted before a start goes its way. -/
structure Latched (a b : Vector (Fin 1024) 13) (n : Nat) (s v : State) : Prop where
  keeps : LatchKeeps s v
  level : v.straps.level = latchedLevels a b
  phase : v.start.phase = s.start.phase
  mode : v.start.mode = s.start.mode
  failed : v.aon.failed = s.aon.failed
  tLatch : v.start.tLatch = some v.now
  now : v.now = max s.now n

theorem Latched.podlLatch {a b : Vector (Fin 1024) 13} {n : Nat} (h : Latched a b n s t) : Latched a b n s (podlLatch (setSwitch t)) := by
  unfold Machine.podlLatch podlYield
  split
  · exact { h with keeps := (h.keeps.trans (latchKeeps_setSwitch t)).trans ⟨rfl, rfl⟩ }
  · exact { h with keeps := (h.keeps.trans (latchKeeps_setSwitch t)).trans ⟨rfl, rfl⟩ }

/-- The latch, where it takes place, goes the way of the faults found. -/
theorem execStrapLatch_latched {a b : Vector (Fin 1024) 13} (hfirst : s.straps.first = some a) (hsecond : s.straps.second = some b)
    (hdue : (!awake s || s.start.tLatch.isSome) = false) : Answers (execStrapLatch s) fun u => ∃ v, Latched a b (s.start.tReset + 20700000) s v
      ∧ u = latchWay (hardFaults a b s.straps.pre (preLevel s)) (strapWarnings (latchedLevels a b) a b) v := by
  unfold execStrapLatch
  split
  · next a' b' ha hb =>
    obtain rfl : a = a' := Option.some.inj (hfirst.symm.trans ha)
    obtain rfl : b = b' := Option.some.inj (hsecond.symm.trans hb)
    rw [if_neg (by rw [hdue]; decide)]
    generalize s.start.tReset + 20700000 = n
    extract_lets s₁ level straps₁ start₁ s₂ hard warn s₃ field straps₃ start₃ s₄ et _ s₅ s₆ raised _
    have hpre₁ : s₁.straps.pre = s.straps.pre := congrArg Straps.pre (State.upTo_straps s _)
    have hstart₁ : s₁.start = s.start := State.upTo_start s _
    have haon₁ : s₁.aon = s.aon := State.upTo_aon s _
    have hkeeps₁ : LatchKeeps s s₁ := latchKeeps_upTo _ s
    have hnow₁ : s₁.now = max s.now n := State.upTo_now s n
    clear_value s₁
    have h₂ : Latched a b n s s₂ :=
      { keeps := hkeeps₁.trans ⟨rfl, rfl⟩, level := rfl, phase := (congrArg StartUnit.phase hstart₁ :),
        mode := (congrArg StartUnit.mode hstart₁ :), failed := (congrArg AlwaysOn.failed haon₁ :), tLatch := rfl, now := hnow₁ }
    have hhard : hardFaults a b s.straps.pre (preLevel s) = hard := by
      rw [preLevel_congr (u := s₂) hpre₁.symm, ← hpre₁]
      rfl
    have hwarn : strapWarnings (latchedLevels a b) a b = warn := rfl
    rw [hhard, hwarn]
    clear_value hard warn s₂
    have h₃ : Latched a b n s s₃ := h₂.podlLatch
    clear_value s₃ field
    have h₄ : Latched a b n s s₄ := { h₃ with keeps := h₃.keeps.trans ⟨rfl, rfl⟩ }
    clear_value s₄
    have h₅ : Latched a b n s s₅ := by
      dsimp only [s₅]
      split
      · exact { h₄ with keeps := h₄.keeps.trans ⟨rfl, rfl⟩ }
      · exact h₄
    clear_value s₅
    have h₆ : Latched a b n s s₆ := { h₅ with keeps := h₅.keeps.trans ⟨rfl, rfl⟩ }
    clear_value s₆
    unfold latchWay
    cases hard with
    | cons f l => exact ⟨s₆, h₆, rfl⟩
    | nil =>
      dsimp only
      split
      · split
        · next hfailed hpair => exact ⟨s₆, h₆, by rw [if_pos hfailed, if_pos hpair]⟩
        · next hfailed hpair => exact ⟨s₆, h₆, by rw [if_pos hfailed, if_neg hpair]⟩
      · next hfailed => exact ⟨s₆, h₆, by rw [if_neg hfailed]⟩
  · next h => exact (h a b hfirst hsecond).elim

/-- A latch that is not due, or lacks a reading, changes nothing. -/
theorem execStrapLatch_answers (s : State) : Answers (execStrapLatch s) fun u =>
    u = s ∨ ∃ a b n hard warn v, Latched a b n s v ∧ u = latchWay hard warn v := by
  cases hfirst : s.straps.first with
  | none =>
    unfold execStrapLatch
    rw [hfirst]
    exact .inl rfl
  | some a =>
    cases hsecond : s.straps.second with
    | none =>
      unfold execStrapLatch
      rw [hfirst, hsecond]
      exact .inl rfl
    | some b =>
      cases hdue : !awake s || s.start.tLatch.isSome with
      | true =>
        unfold execStrapLatch
        rw [hfirst, hsecond]
        dsimp only
        rw [if_pos hdue]
        exact .inl rfl
      | false => exact (execStrapLatch_latched hfirst hsecond hdue).imp fun u ⟨v, hv, hu⟩ => .inr ⟨a, b, _, _, _, v, hv, hu⟩

theorem execStrapLatch_historyFits (s : State) : Answers (execStrapLatch s) (HistoryFits s) := by
  refine (execStrapLatch_answers s).imp fun u h => ?_
  obtain rfl | ⟨a, b, n, hard, warn, v, hv, rfl⟩ := h
  · exact .refl _
  · exact (HistoryFits.of_eq hv.keeps.history).trans (latchWay_historyFits ..)

theorem execPairHoldClear_historyFits (s : State) : Answers (execPairHoldClear s) (HistoryFits s) := by
  unfold execPairHoldClear
  rw [answers_ite]
  split
  · extract_lets s₁ s₂ start₂ aon₂ s₃
    have h₂ : HistoryFits s s₂ := ((HistoryFits.upTo _ s).view (setCounter_view _ _ rfl)).view (raise_view _ _ _ rfl (by decide))
    have h₃ : HistoryFits s s₃ := h₂.trans (.of_eq rfl)
    exact historyFits_ite (h₃.trans (startFrom_historyFits ..)) h₃
  · exact .refl s

theorem execPairReleaseEarly_historyFits (t) (s : State) : Answers (execPairReleaseEarly t s) (HistoryFits s) := by
  have htime : HistoryFits s (s.upTo t) := .upTo t s
  unfold execPairReleaseEarly
  extract_lets s₁ start₁ lands₁ s₂
  rw [answers_ite]
  split
  · have h₂ : HistoryFits s s₂ := htime.trans (.of_eq rfl)
    exact (h₂.view (safeLinks_view _ rfl)).trans
      (safeAtStart_historyFits _ _ (fun v => .of_view (raise_view _ _ _ rfl (by decide))) _)
  · exact htime

theorem execStartReferenceDeadline_historyFits (s : State) : Answers (execStartReferenceDeadline s) (HistoryFits s) := by
  unfold execStartReferenceDeadline
  split
  · exact historyFits_ite ((HistoryFits.upTo _ s).trans (deadlineSelect_historyFits _)) (.upTo _ s)
  · exact .refl s

theorem execBlockBoundary_historyFits (x) (s : State) : Answers (execBlockBoundary x s) (HistoryFits s) := by
  have htime : HistoryFits s (s.upTo x.t) := .upTo _ s
  unfold execBlockBoundary
  dsimp only
  generalize s.upTo x.t = v at htime ⊢
  rw [answers_ite, answers_ite, answers_ite]
  split
  · exact htime
  · split
    · exact historyFits_ite (htime.trans (wellBlock_historyFits _)) htime
    · split
      · exact historyFits_ite (htime.trans (wellBlock_historyFits _)) htime
      · exact (htime.trans (boundary_historyFits x v)).view (pump_view _ rfl)

theorem execSlumberResume_historyFits (x) (s : State) : Answers (execSlumberResume x s) (HistoryFits s) := by
  have htime : HistoryFits s (s.upTo x.t) := .upTo _ s
  unfold execSlumberResume
  dsimp only
  generalize s.upTo x.t = v at htime ⊢
  split
  · rw [answers_ite]
    split
    · have hblocks : HistoryFits s { v with blocks := { v.blocks with exists_ := true, placed := false } } := htime.trans (.of_eq rfl)
      have hdue := ((hblocks.view (senseBoundary_view _ x rfl)).view (placeBlock_view _ rfl)).trans (intervene_historyFits _)
      generalize intervene _ = y at hdue ⊢
      rw [answers_ite]
      split
      · refine HistoryFits.view (.view ?_ (bpoBoundary_view _ rfl)) (pump_view _ rfl)
        exact hdue.trans (.of_eq rfl)
      · exact ((((hdue.view (exitSlumber_view _ _ rfl)).view (firstPlant_view _ rfl)).view (openPaths_view _ rfl)).view
          (pathBoundary_view _ rfl)).view (beginBlock_view _ _ _ rfl) |>.view (pump_view _ rfl)
    · exact htime
  · exact htime

theorem searchFails_historyFits (s : State) : HistoryFits s (searchFails s) := by
  unfold searchFails
  extract_lets s₁ partner sleep₁ well₁ red₁ s₂ s₃
  have h₁ : HistoryFits s s₁ := .of_view (wakeNow_view _ rfl)
  have h₂ : HistoryFits s s₂ := h₁.trans (.of_eq rfl)
  have h₃ : HistoryFits s s₃ := by
    dsimp only [s₃]
    split
    · exact h₂.trans (startSelect_historyFits ..)
    · exact h₂
  exact historyFits_ite (h₃.view (ask_view _ _ _ rfl)) h₃

theorem execBeaconWindowClose_historyFits (s : State) : Answers (execBeaconWindowClose s) (HistoryFits s) := by
  unfold execBeaconWindowClose
  split
  · exact .refl s
  · next b _ =>
    have htime : HistoryFits s (s.upToDevice b) := .upToDevice _ s
    rw [answers_ite, answers_ite]
    split
    · exact htime.trans (.of_eq rfl)
    · split
      · exact htime.trans (searchFails_historyFits _)
      · exact htime.trans (.of_eq rfl)

theorem execBeaconSearchFailed_historyFits (s : State) : Answers (execBeaconSearchFailed s) (HistoryFits s) := by
  unfold execBeaconSearchFailed
  split
  · exact .refl s
  · rw [answers_ite]
    split
    · exact .refl s
    · exact (HistoryFits.upToDevice _ s).trans (searchFails_historyFits _)

theorem execQualificationWindowEnd_historyFits (net bpi0 bpi1 wclk) (s : State) :
    Answers (execQualificationWindowEnd net bpi0 bpi1 wclk s) (HistoryFits s) := by
  unfold execQualificationWindowEnd
  split
  · exact .refl s
  · extract_lets s₁ s₂ fresh well₃ s₃
    have h₂ : HistoryFits s s₂ := (((((HistoryFits.upTo _ s).view (judgeRef_view _ _ _ rfl)).view (judgeRef_view _ _ _ rfl)).view
      (judgeRef_view _ _ _ rfl)).view (judgeRef_view _ _ _ rfl)).view (aimSwitch_view _ rfl)
    have h₃ : HistoryFits s s₃ := h₂.trans (.of_eq rfl)
    split
    · exact historyFits_ite (h₃.trans (startSelect_historyFits ..)) h₃
    · exact h₃

theorem execHardwareLoopUpdate_historyFits (t err) (s : State) : Answers (execHardwareLoopUpdate t err s) (HistoryFits s) := by
  have htime : HistoryFits s (s.upTo t) := .upTo t s
  unfold execHardwareLoopUpdate
  dsimp only
  rw [answers_ite]
  split
  · exact htime
  · split
    · exact historyFits_ite htime (htime.view (lockNow_view _ rfl))
    · exact htime
    · exact htime
    · exact historyFits_ite htime (htime.trans (loopUpdate_historyFits ..))

theorem execGptpSyncHoldExpiry_historyFits (s : State) : Answers (execGptpSyncHoldExpiry s) (HistoryFits s) := by
  unfold execGptpSyncHoldExpiry
  split
  · exact .refl s
  · rw [answers_ite]
    split
    · exact (HistoryFits.upTo _ s).trans (loseSync_historyFits _)
    · exact .refl s

/-- A window kept is among the last 16. -/
theorem execHistoryWindowComplete_historyFits (s : State) : Answers (execHistoryWindowComplete s) (HistoryFits s) := by
  unfold execHistoryWindowComplete
  split
  · dsimp only
    rw [answers_ite]
    split
    · exact .upTo _ s
    · refine historyFits_ite ⟨fun _ => ?_⟩ ⟨fun _ => ?_⟩ <;> exact List.length_take_le _ _
  · exact .refl s

theorem exec_historyFits (hu : exec c s = .next u) : HistoryFits s u := by
  by_cases hc : (footprint c).2.contains .history = true
  · cases c with
    | powerOnReset t aoLost x => exact .of_poweredOn ((execPowerOnReset_held s t aoLost x).of_next hu).1
    | strapLatch => exact (execStrapLatch_historyFits s).of_next hu
    | pairHoldClear => exact (execPairHoldClear_historyFits s).of_next hu
    | pairReleaseEarly t => exact (execPairReleaseEarly_historyFits t s).of_next hu
    | startReferenceDeadline => exact (execStartReferenceDeadline_historyFits s).of_next hu
    | blockBoundary x => exact (execBlockBoundary_historyFits x s).of_next hu
    | slumberResume x => exact (execSlumberResume_historyFits x s).of_next hu
    | beaconWindowClose => exact (execBeaconWindowClose_historyFits s).of_next hu
    | beaconSearchFailed => exact (execBeaconSearchFailed_historyFits s).of_next hu
    | qualificationWindowEnd net bpi0 bpi1 wclk => exact (execQualificationWindowEnd_historyFits net bpi0 bpi1 wclk s).of_next hu
    | referenceLoss t r crf =>
      have h : Answers (execReferenceLoss t r crf s) (HistoryFits s) := (HistoryFits.upTo t s).trans (loseRef_historyFits ..)
      exact h.of_next hu
    | hardwareLoopUpdate t err => exact (execHardwareLoopUpdate_historyFits t err s).of_next hu
    | gptpSyncHoldExpiry => exact (execGptpSyncHoldExpiry_historyFits s).of_next hu
    | historyWindowComplete => exact (execHistoryWindowComplete_historyFits s).of_next hu
    | _ => cases hc
  · have hown (h : Evolves (ownParts c) s u) : HistoryFits s u := .of_eq (h.same .history (ownParts_eq_false (by simpa using hc) nofun))
    by_cases hreset : (footprint c).2.contains .reset = true
    · obtain ⟨hon, -⟩ | h := exec_held_or_evolves hreset hu
      · exact .of_poweredOn hon
      · exact hown h
    · exact hown (exec_evolves (by simpa using hreset) hu)

end Sys2Proof.Machine
end

/-! # The flow table's bounds, and the three capacities (O10)

The switch's table at each command that changes it, and a step's three bounds together. -/

section
namespace Sys2Proof.Machine

open Sys2Proof


variable {s t u : State} {c : Instr}

/-! ### The flow table (R163) -/

/-- The bounds of a flow table: its flows, and the window of each. -/
def FlowBounds (l : List Flow) : Prop := l.length ≤ 9216 ∧ ∀ w ∈ l, w.seen.length ≤ 32

theorem flowBounds_nil : FlowBounds [] := ⟨Nat.zero_le _, nofun⟩

/-- The table's bounds go on to hold. -/
structure FlowsFit (s u : State) : Prop where
  bounds : FlowBounds s.switch.flows → FlowBounds u.switch.flows

/-- Every part but the switch. -/
def notSwitch (p : Part) : Bool := !(p == .switch)

theorem FlowsFit.refl (s : State) : FlowsFit s s := ⟨id⟩

theorem FlowsFit.trans (h : FlowsFit s t) (k : FlowsFit t u) : FlowsFit s u := ⟨k.bounds ∘ h.bounds⟩

theorem FlowsFit.of_eq (h : u.switch.flows = s.switch.flows) : FlowsFit s u := ⟨fun hs => by rwa [h]⟩

theorem FlowsFit.of_view (h : view notSwitch u = view notSwitch s) : FlowsFit s u :=
  .of_eq (congrArg Switch.flows (eq_of_hide (b := false) (congrArg View.switch h) rfl))

theorem FlowsFit.view (h : FlowsFit s t) (hv : Machine.view notSwitch u = Machine.view notSwitch t) : FlowsFit s u :=
  h.trans (.of_view hv)

theorem FlowsFit.upTo (n : Nat) (s : State) : FlowsFit s (s.upTo n) := .of_eq (by rw [State.upTo_switch])

theorem FlowsFit.of_poweredOn (h : PoweredOn s u) : FlowsFit s u := ⟨fun _ => h.flows ▸ flowBounds_nil⟩

theorem flowsFit_ite {b : Prop} [Decidable b] (h : FlowsFit s t) (k : FlowsFit s u) : FlowsFit s (if b then t else u) := by
  split
  · exact h
  · exact k

/-- The decision to forward: a flow's window takes a number and keeps the last 32, and a new flow is put into a table with
room. -/
theorem forwardFlow_bounds {now : Nat} {f : NetFrame} {pn : Nat} {l l' : List Flow} (hl : FlowBounds l)
    (h : forwardFlow now f pn l = some l') : FlowBounds l' := by
  obtain ⟨hlen, hseen⟩ := hl
  unfold forwardFlow at h
  split at h
  · split at h
    · simp only [Option.some.injEq] at h
      subst h
      refine ⟨by simpa using hlen, fun w hw => ?_⟩
      obtain ⟨x, hx, rfl⟩ := List.mem_map.mp hw
      split
      · exact List.length_take_le _ _
      · exact hseen x hx
    · cases h
  · split at h
    · next hroom =>
      simp only [Option.some.injEq] at h
      subst h
      refine ⟨by simp; omega, fun w hw => ?_⟩
      obtain hw | rfl := by simpa using hw
      · exact hseen w hw
      · simp
    · cases h

theorem forwardFrame_flowsFit (i f) (s : State) : FlowsFit s (forwardFrame i f s) := by
  unfold forwardFrame
  split
  · exact .refl s
  · next l hl =>
    have h : FlowsFit s { s with switch := { s.switch with flows := l } } := ⟨fun hs => forwardFlow_bounds hs hl⟩
    exact flowsFit_ite (h.view (forwardTo_view _ _ _ rfl)) h

theorem switchIn_flowsFit (i f) (s : State) : FlowsFit s (switchIn i f s) := by
  unfold switchIn
  extract_lets s₁ s₂ switch₂ s₃
  have h₁ : FlowsFit s s₁ := .of_view (seePair_view _ _ rfl)
  have h₂ : FlowsFit s s₂ := h₁.view (checkShared_view _ _ rfl)
  have h₃ : FlowsFit s s₃ := flowsFit_ite (h₂.trans (.of_eq rfl)) h₂
  split
  · exact h₁
  · exact flowsFit_ite h₁ (h₃.trans (forwardFrame_flowsFit ..))

theorem execFrameIngress_flowsFit (t i f) (s : State) : Answers (execFrameIngress t i f s) (FlowsFit s) := by
  have h : FlowsFit s (s.ingress t i) := (FlowsFit.upTo t s).trans (.of_eq rfl)
  rw [execFrameIngress_eq, answers_ite]
  split
  · exact h
  · unfold crossIn
    exact flowsFit_ite (h.trans (.of_eq rfl)) (h.trans (switchIn_flowsFit ..))

theorem execFlowIdleExpiry_flowsFit (src dst) (s : State) : Answers (execFlowIdleExpiry src dst s) (FlowsFit s) := by
  unfold execFlowIdleExpiry
  split
  · exact .refl s
  · extract_lets s₁
    have h₁ : FlowsFit s s₁ := .upTo _ s
    clear_value s₁
    refine h₁.trans ⟨fun hs => ⟨(List.length_filter_le _ _).trans hs.1, fun w hw => hs.2 w (List.mem_of_mem_filter hw)⟩⟩

theorem raise_notSwitch (code unit detail) (s : State) : view notSwitch (raise code unit detail s) = view notSwitch s := by
  rw [show raise code unit detail s
    = { s with status := (raise code unit detail s).status, log := (raise code unit detail s).log } from rfl]
  rfl

theorem raiseAll_notSwitch (l) (s : State) : view notSwitch (raiseAll l s) = view notSwitch s :=
  foldl_view _ (fun _ _ => raise_notSwitch ..) l s

theorem latchWay_flowsFit (hard warn) (s : State) : FlowsFit s (latchWay hard warn s) := by
  have hlinks : FlowsFit s (safeLinks s) := by
    unfold safeLinks
    refine .view ?_ (portsBegin_view _ rfl)
    exact .of_eq rfl
  cases hard with
  | cons f l => exact hlinks.view (safeAtStart_view _ _ _ rfl (raiseAll_notSwitch _))
  | nil =>
    refine flowsFit_ite (flowsFit_ite (.of_view ?_) (hlinks.view (safeAtStart_view _ _ _ rfl fun v => ?_)))
      (.of_view ((startFrom_view _ _ rfl).trans (raiseAll_notSwitch _ _)))
    · exact raiseAll_notSwitch warn s
    · exact (raise_notSwitch ..).trans (raiseAll_notSwitch _ _)

theorem execStrapLatch_flowsFit (s : State) : Answers (execStrapLatch s) (FlowsFit s) := by
  refine (execStrapLatch_answers s).imp fun u h => ?_
  obtain rfl | ⟨a, b, n, hard, warn, v, hv, rfl⟩ := h
  · exact .refl u
  · exact (FlowsFit.of_eq (by rw [hv.keeps.switch])).trans (latchWay_flowsFit ..)

theorem execPairReleaseEarly_flowsFit (t) (s : State) : Answers (execPairReleaseEarly t s) (FlowsFit s) := by
  have htime : FlowsFit s (s.upTo t) := .upTo t s
  unfold execPairReleaseEarly
  extract_lets s₁ start₁ lands₁ s₂
  rw [answers_ite]
  split
  · have h₂ : FlowsFit s s₂ := htime.trans (.of_eq rfl)
    have hlinks : FlowsFit s (safeLinks s₂) := by
      unfold safeLinks
      refine .view ?_ (portsBegin_view _ rfl)
      exact h₂.trans (.of_eq rfl)
    exact hlinks.view (safeAtStart_view _ _ _ rfl fun v => raise_notSwitch ..)
  · exact htime

theorem execDataPathSetup_flowsFit (t entropyOk) (s : State) : Answers (execDataPathSetup t entropyOk s) (FlowsFit s) := by
  have htime : FlowsFit s (s.upTo t) := .upTo t s
  unfold execDataPathSetup
  dsimp only
  generalize s.upTo t = v at htime ⊢
  rw [answers_ite, answers_ite]
  split
  · exact htime
  · split
    · exact ⟨fun _ => flowBounds_nil⟩
    · have h : FlowsFit s (readKeys (dmaSetup v)) := (htime.view (dmaSetup_view _ rfl)).view (readKeys_view _ rfl)
      exact h.trans (.of_eq rfl)

theorem exec_flowsFit (hu : exec c s = .next u) : FlowsFit s u := by
  by_cases hc : (footprint c).2.contains .switch = true
  · cases c with
    | strapLatch => exact (execStrapLatch_flowsFit s).of_next hu
    | pairReleaseEarly t => exact (execPairReleaseEarly_flowsFit t s).of_next hu
    | dataPathSetup t entropyOk => exact (execDataPathSetup_flowsFit t entropyOk s).of_next hu
    | frameIngress t i f => exact (execFrameIngress_flowsFit t i f s).of_next hu
    | flowIdleExpiry src dst => exact (execFlowIdleExpiry_flowsFit src dst s).of_next hu
    | _ => cases hc
  · have hown (h : Evolves (ownParts c) s u) : FlowsFit s u :=
      .of_eq (congrArg Switch.flows (h.same .switch (ownParts_eq_false (by simpa using hc) nofun) : u.switch = s.switch))
    by_cases hreset : (footprint c).2.contains .reset = true
    · obtain ⟨hon, -⟩ | h := exec_held_or_evolves hreset hu
      · exact .of_poweredOn hon
      · exact hown h
    · exact hown (exec_evolves (by simpa using hreset) hu)

/-! ### A step -/

theorem step_historyFits (hu : step s = .next u) : HistoryFits s u := by
  unfold step at hu
  split at hu
  · cases hu
    exact .of_eq rfl
  · exact ⟨(exec_historyFits hu).bound⟩

theorem step_flowsFit (hu : step s = .next u) : FlowsFit s u := by
  unfold step at hu
  split at hu
  · cases hu
    exact .of_eq rfl
  · exact ⟨(exec_flowsFit hu).bounds⟩

/-- Settles O10: a window kept is among the last 16, a flow is put into a table with room alone, and a record's place lies in its
ring; a reset, a selection and an idle flow only take away. -/
theorem capacitiesHold : Obligations.CapacitiesHold :=
  ⟨fun _ _ hs hu => (step_historyFits hu).bound hs, fun _ _ hlen hseen hu => (step_flowsFit hu).bounds ⟨hlen, hseen⟩,
    fun _ _ hs hu => (step_keepsForm hu).rings hs⟩

end Sys2Proof.Machine
end

/-! # The resets (O29, chapters 3 and 5)

What each reset holds, counts and records. -/

section
namespace Sys2Proof.Machine

open Sys2Proof


variable {s : State}

theorem powerOnReset_runs (t aoLost tcxoIn) (s : State) : Runs (.powerOnReset t aoLost tcxoIn) s fun u =>
    u.now = max s.now t ∧ u.start.phase = .held ∧ u.start.mode = none ∧ u.start.cause = .powerOn ∧ u.well.tcxo = tcxoIn
      ∧ u.mem.flash = s.mem.flash
      ∧ (aoLost = true → u.aon.failed = 0 ∧ u.history = [] ∧ u.thr.retired = [] ∧ u.endur.map = [])
      ∧ (aoLost = false → u.aon = s.aon ∧ u.history = s.history ∧ u.thr.retired = s.thr.retired
          ∧ u.endur.map = s.endur.map) := by
  refine ⟨_, rfl, ?_⟩
  cases aoLost with
  | true => exact ⟨State.upTo_now s t, rfl, rfl, rfl, rfl, rfl, fun _ => ⟨rfl, rfl, rfl, rfl⟩, nofun⟩
  | false =>
    rw [if_neg Bool.false_ne_true]
    split
    · exact ⟨State.upTo_now s t, rfl, rfl, rfl, rfl, rfl, nofun, fun _ => ⟨rfl, rfl, rfl, rfl⟩⟩
    · exact ⟨State.upTo_now s t, rfl, rfl, rfl, rfl, rfl, nofun, fun _ => ⟨rfl, rfl, rfl, rfl⟩⟩

theorem resetNAssert_runs_of_long (t) {lowNs : Nat} (hlow : 10000 ≤ lowNs) (s : State) :
    Runs (.resetNAssert t lowNs) s fun u =>
      u.start.phase = .held ∧ u.start.cause = .resetN ∧ u.aon = s.aon ∧ u.lands.resetN = false ∧ u.status.active = [] :=
  ⟨_, if_pos hlow, rfl, rfl, rfl, rfl, rfl⟩

theorem resetNAssert_runs_of_short (t) {lowNs : Nat} (hlow : lowNs ≤ 1000) (s : State) :
    Runs (.resetNAssert t lowNs) s fun u => u = s.upTo t :=
  ⟨_, (if_neg (by omega)).trans (if_pos hlow), rfl⟩

theorem resetRelease_runs (rise por) (hheld : awake s = false) (hhold : s.jtag.hold = false) (hprecond : s.plant.precond = false) :
    Runs (.resetRelease rise por) s fun u =>
      u.start.phase = .active ∧ u.start.tReset = u.now ∧ u.now = max s.now (max rise por) ∧ u.gptp.time = 0
        ∧ u.aon = s.aon ∧ u.blocks.startLow = true := by
  rw [runs_iff]
  show Answers (execResetRelease rise por s) _
  unfold execResetRelease
  extract_lets s₁ lands s₂
  have hgo : (awake s₂ || s₂.jtag.hold || s₂.plant.precond) = false := by
    show (awake s || s.jtag.hold || s.plant.precond) = false
    simp [hheld, hhold, hprecond]
  rw [if_neg (by simp [hgo])]
  exact ⟨rfl, rfl, State.upTo_now s _, rfl, rfl, rfl⟩

/-! ### Watchdog and deadline (R70, R76) -/

/-- What a reset that counts leaves of the counter: its own code on top, and one more failed start up to 3. -/
theorem resetDevice_countFailed (cause) (keepLog) (code) (s : State) :
    (resetDevice cause keepLog (countFailed code s)).aon.last3[0] = code
      ∧ (s.aon.failed.val < 3 → (resetDevice cause keepLog (countFailed code s)).aon.failed = s.aon.failed + 1)
      ∧ (s.aon.failed = 3 → (resetDevice cause keepLog (countFailed code s)).aon.failed = 3) := by
  have haon : (resetDevice cause keepLog (countFailed code s)).aon = (countFailed code s).aon := rfl
  rw [haon, countFailed_last3, countFailed_failed]
  exact ⟨rfl, fun h => if_pos h, fun h => if_neg (by rw [h]; decide)⟩

theorem watchdog_due {t a : Nat} (hawake : awake s = true) (harmed : s.start.armedAt = some a)
    (hdue : a + 100 * ms1 ≤ max s.now t) :
    ¬ (!awake (s.upTo t) || !(s.upTo t).start.armedAt.any fun a => decide (a + watchdogTime ≤ (s.upTo t).now)) = true := by
  have hdecide : decide (a + watchdogTime ≤ max s.now t) = true := decide_eq_true hdue
  rw [State.upTo_start, State.upTo_now, awake_upTo, hawake, harmed, Option.any_some, hdecide]
  decide

theorem watchdogReset_counted (cause code detail) (hcounts : watchdogCounts s = true) :
    (watchdogReset cause code detail s).aon.last3[0] = code
      ∧ (s.aon.failed.val < 3 → (watchdogReset cause code detail s).aon.failed = s.aon.failed + 1)
      ∧ (s.aon.failed = 3 → (watchdogReset cause code detail s).aon.failed = 3) := by
  have hraised : watchdogCounts (raise code 0 detail s) = true := hcounts
  unfold watchdogReset
  dsimp only
  rw [hraised, if_pos rfl]
  exact resetDevice_countFailed ..

theorem watchdogReset_uncounted (cause code detail) (hcounts : watchdogCounts s = false) :
    (watchdogReset cause code detail s).aon = s.aon := by
  have hraised : watchdogCounts (raise code 0 detail s) = false := hcounts
  unfold watchdogReset
  dsimp only
  rw [hraised, if_neg Bool.false_ne_true]
  rfl

theorem watchdogExpiry_runs_before_run {t a : Nat} (hawake : awake s = true) (harmed : s.start.armedAt = some a)
    (hdue : a + 100 * ms1 ≤ max s.now t) (hsafe : inMode .safe s = false) (hrun : s.start.tRun = none) :
    Runs (.watchdogExpiry t) s fun u => u.start.phase = .held ∧ u.start.cause = .watchdog ∧ u.aon.last3[0] = 0xF002#16
      ∧ (s.aon.failed.val < 3 → u.aon.failed = s.aon.failed + 1) ∧ (s.aon.failed = 3 → u.aon.failed = 3) := by
  have hcounts : watchdogCounts (s.upTo t) = true := by
    unfold watchdogCounts
    rw [State.upTo_start, hrun, inMode_upTo, hsafe]
    rfl
  rw [runs_iff]
  show Answers (execWatchdogExpiry t s) _
  unfold execWatchdogExpiry
  dsimp only
  rw [if_neg (watchdog_due hawake harmed hdue), State.upTo_start, hrun]
  exact ⟨rfl, rfl, watchdogReset_counted _ _ _ hcounts⟩

theorem watchdogExpiry_runs_late {t a r : Nat} (hawake : awake s = true) (harmed : s.start.armedAt = some a)
    (hdue : a + 100 * ms1 ≤ max s.now t) (hrun : s.start.tRun = some r) (hlate : r + 60 * sec1 ≤ max s.now t) :
    Runs (.watchdogExpiry t) s fun u => u.start.phase = .held ∧ u.start.cause = .watchdog ∧ u.aon = s.aon := by
  have hnot : ¬ (s.upTo t).now < r + 60 * sec1 := by rw [State.upTo_now]; omega
  have hcounts : watchdogCounts (s.upTo t) = false := by
    unfold watchdogCounts
    rw [State.upTo_start, hrun]
    exact decide_eq_false hnot
  rw [runs_iff]
  show Answers (execWatchdogExpiry t s) _
  unfold execWatchdogExpiry
  dsimp only
  rw [if_neg (watchdog_due hawake harmed hdue), State.upTo_start, hrun]
  dsimp only
  rw [if_neg hnot]
  exact ⟨rfl, rfl, watchdogReset_uncounted _ _ _ hcounts⟩

theorem watchdogExpiry_runs_early {t : Nat}
    (hearly : s.start.armedAt = none ∨ ∃ a, s.start.armedAt = some a ∧ max s.now t < a + 100 * ms1) :
    Runs (.watchdogExpiry t) s fun u => u = s.upTo t := by
  refine ⟨_, if_pos ?_, rfl⟩
  rw [State.upTo_start, State.upTo_now]
  obtain hnone | ⟨a, ha, hlt⟩ := hearly
  · simp [hnone]
  · have hnot : decide (a + watchdogTime ≤ max s.now t) = false := decide_eq_false (Nat.not_le.mpr hlt)
    rw [ha, Option.any_some, hnot]
    simp

theorem startDeadline_runs (hawake : awake s = true) (hmode : s.start.mode = none) : Runs .startDeadline s fun u =>
    u.now = max s.now (s.start.tReset + 30 * sec1) ∧ u.start.phase = .held ∧ u.start.cause = .startDeadline
      ∧ u.aon.last3[0] = 0xF001#16 := by
  refine ⟨_, if_pos (by simp [hawake, hmode]), ?_, rfl, rfl, (resetDevice_countFailed ..).1⟩
  show (countFailed 0xF001#16 (raise 0xF001#16 0 [] (s.upTo (s.start.tReset + 30 * sec1)))).now = _
  rw [countFailed_now, raise_now, State.upTo_now]

theorem clockLossReset_runs (t) (hreset : s.aon.clockReset = true) : Runs (.clockLossReset t) s fun u =>
    u.start.phase = .held ∧ u.start.cause = .clockMonitor ∧ u.aon.clockReset = false
      ∧ u.aon.clockFault = s.aon.clockFault :=
  ⟨_, if_pos hreset, rfl, rfl, rfl, rfl⟩

/-- Settles O29: each reset in turn, with what it holds, counts and keeps. -/
theorem resetsRun : Obligations.ResetsRun :=
  ⟨fun s t aoLost tcxoIn => powerOnReset_runs t aoLost tcxoIn s,
    fun s t _ => ⟨fun h => resetNAssert_runs_of_long t h s, fun h => resetNAssert_runs_of_short t h s⟩,
    fun _ rise por h hhold hprecond => resetRelease_runs rise por h hhold hprecond,
    fun _ _ => ⟨_, rfl, rfl, rfl, rfl⟩,
    fun _ _ _ hawake harmed hdue hsafe hrun => watchdogExpiry_runs_before_run hawake harmed hdue hsafe hrun,
    fun _ _ _ _ hawake harmed hdue hrun hlate => watchdogExpiry_runs_late hawake harmed hdue hrun hlate,
    fun _ _ h => watchdogExpiry_runs_early h, fun _ hawake hmode => startDeadline_runs hawake hmode,
    fun _ t h => clockLossReset_runs t h⟩

end Sys2Proof.Machine
end

/-! # A state after time alone

The state a command finds once time has come to its instant, as an opaque one with its fields' equations. -/

section
namespace Sys2Proof.Machine

open Sys2Proof


variable {s v : State} {t : Nat}

/-- A state after time alone, which has brought the time base to an instant. A command's clauses are proved of any such state, so
that nothing of what passes meanwhile is opened. -/
structure Elapsed (s : State) (t : Nat) (v : State) : Prop where
  now : v.now = max s.now t
  status : v.status.bare = s.status.bare
  ports : ∀ i : Fin 2, s.ports[i].sendsTo v.ports[i]
  gptp : v.gptp = s.gptp.tick (t - s.now)
  pending : v.pending = s.pending
  freeCtr : v.freeCtr = s.freeCtr
  eui48 : v.eui48 = s.eui48
  start : v.start = s.start
  aon : v.aon = s.aon
  straps : v.straps = s.straps
  log : v.log = s.log
  well : v.well = s.well
  history : v.history = s.history
  podl : v.podl = s.podl
  switch : v.switch = s.switch
  streams : v.streams = s.streams
  routing : v.routing = s.routing
  red : v.red = s.red
  sec : v.sec = s.sec
  bpi : v.bpi = s.bpi
  bpo : v.bpo = s.bpo
  tdm : v.tdm = s.tdm
  mic : v.mic = s.mic
  usb : v.usb = s.usb
  blocks : v.blocks = s.blocks
  thr : v.thr = s.thr
  mem : v.mem = s.mem
  gran : v.gran = s.gran
  clips : v.clips = s.clips
  plant : v.plant = s.plant
  spk : v.spk = s.spk
  motor : v.motor = s.motor
  endur : v.endur = s.endur
  sleep : v.sleep = s.sleep
  lands : v.lands = s.lands
  jtag : v.jtag = s.jtag
  cross : v.cross = s.cross

/-- Time brings the state that the clauses speak of. -/
theorem State.exists_upTo (s : State) (t : Nat) : ∃ v, s.upTo t = v ∧ Elapsed s t v :=
  ⟨s.upTo t, rfl, {
    now := s.upTo_now t, status := s.upTo_status_bare t, ports := s.upTo_sendsTo t, gptp := s.upTo_gptp t
    pending := s.upTo_pending t, freeCtr := s.upTo_freeCtr t, eui48 := s.upTo_eui48 t, start := s.upTo_start t,
    aon := s.upTo_aon t, straps := s.upTo_straps t, log := s.upTo_log t, well := s.upTo_well t, history := s.upTo_history t,
    podl := s.upTo_podl t, switch := s.upTo_switch t, streams := s.upTo_streams t, routing := s.upTo_routing t,
    red := s.upTo_red t, sec := s.upTo_sec t, bpi := s.upTo_bpi t, bpo := s.upTo_bpo t, tdm := s.upTo_tdm t,
    mic := s.upTo_mic t, usb := s.upTo_usb t, blocks := s.upTo_blocks t, thr := s.upTo_thr t, mem := s.upTo_mem t,
    gran := s.upTo_gran t, clips := s.upTo_clips t, plant := s.upTo_plant t, spk := s.upTo_spk t, motor := s.upTo_motor t,
    endur := s.upTo_endur t, sleep := s.upTo_sleep t, lands := s.upTo_lands t, jtag := s.upTo_jtag t,
    cross := s.upTo_cross t }⟩

section
variable (h : Elapsed s t v)
include h

theorem Elapsed.awake : Machine.awake v = Machine.awake s := by simp only [Machine.awake, h.start]
theorem Elapsed.inMode (m : Mode) : Machine.inMode m v = Machine.inMode m s := by simp only [Machine.inMode, h.start]
theorem Elapsed.powered : Machine.powered v = Machine.powered s := by simp only [Machine.powered, h.awake, h.sleep]
theorem Elapsed.lvlD (i : Fin 13) : Machine.lvlD v i = Machine.lvlD s i := by simp only [Machine.lvlD, Machine.lvl, h.straps]
theorem Elapsed.role : Machine.role v = Machine.role s := by simp only [Machine.role, h.lvlD]
theorem Elapsed.tenant : Machine.tenant v = Machine.tenant s := by simp only [Machine.tenant, h.lvlD]
theorem Elapsed.node : Machine.node v = Machine.node s := by simp only [Machine.node, h.lvlD]
theorem Elapsed.sysStopped : Machine.sysStopped v = Machine.sysStopped s := by simp only [Machine.sysStopped, h.aon]
theorem Elapsed.counter : v.status.counter = s.status.counter := (congrArg Status.counter h.status :)
theorem Elapsed.active : v.status.active = s.status.active := (congrArg Status.active h.status :)
theorem Elapsed.folds : v.status.folds = s.status.folds := (congrArg Status.folds h.status :)

end

theorem Elapsed.time (h : Elapsed s t v) : v.gptp.time = (s.upTo t).gptp.time := by rw [h.gptp, State.upTo_gptp]

theorem State.upToDevice_eq (s : State) (t : Nat) : s.upToDevice t = s.upTo (s.now + s.gptp.until_ t) := by
  rw [State.upToDevice, State.upTo, Nat.add_sub_cancel_left]

/-- Device time brings such a state too. -/
theorem State.exists_upToDevice (s : State) (t : Nat) : ∃ v, s.upToDevice t = v ∧ Elapsed s (s.now + s.gptp.until_ t) v := by
  rw [State.upToDevice_eq]
  exact s.exists_upTo _

end Sys2Proof.Machine
end

/-! # One part through an operation

What an operation's rule on the view says of one part. -/

section
namespace Sys2Proof.Machine

open Sys2Proof


variable {s u : State}

/-- Every part but some. An operation that keeps the view without these keeps that part. -/
def allBut (ps : List Part) : Part → Bool := fun p => !ps.contains p

theorem now_of_view {P} (h : view P u = view P s) : u.now = s.now := congrArg View.now h
theorem eui48_of_view {P} (h : view P u = view P s) : u.eui48 = s.eui48 := congrArg View.eui48 h
theorem start_of_allBut (h : view (allBut [.start]) u = view (allBut [.start]) s) : u.start = s.start :=
  eq_of_hide (b := false) (congrArg View.start h) rfl
theorem straps_of_allBut (h : view (allBut [.straps]) u = view (allBut [.straps]) s) : u.straps = s.straps :=
  eq_of_hide (b := false) (congrArg View.straps h) rfl
theorem status_of_allBut (h : view (allBut [.status]) u = view (allBut [.status]) s) : u.status = s.status :=
  eq_of_hide (b := false) (congrArg View.status h) rfl
theorem well_of_allBut (h : view (allBut [.well]) u = view (allBut [.well]) s) : u.well = s.well :=
  eq_of_hide (b := false) (congrArg View.well h) rfl
theorem ports_of_allBut (h : view (allBut [.ports]) u = view (allBut [.ports]) s) : u.ports = s.ports :=
  eq_of_hide (b := false) (congrArg View.ports h) rfl
theorem switch_of_allBut (h : view (allBut [.switch]) u = view (allBut [.switch]) s) : u.switch = s.switch :=
  eq_of_hide (b := false) (congrArg View.switch h) rfl
theorem gptp_of_allBut (h : view (allBut [.gptp]) u = view (allBut [.gptp]) s) : u.gptp = s.gptp :=
  eq_of_hide (b := false) (congrArg View.gptp h) rfl
theorem streams_of_allBut (h : view (allBut [.streams]) u = view (allBut [.streams]) s) : u.streams = s.streams :=
  eq_of_hide (b := false) (congrArg View.streams h) rfl
theorem routing_of_allBut (h : view (allBut [.routing]) u = view (allBut [.routing]) s) : u.routing = s.routing :=
  eq_of_hide (b := false) (congrArg View.routing h) rfl
theorem red_of_allBut (h : view (allBut [.red]) u = view (allBut [.red]) s) : u.red = s.red :=
  eq_of_hide (b := false) (congrArg View.red h) rfl
theorem usb_of_allBut (h : view (allBut [.usb]) u = view (allBut [.usb]) s) : u.usb = s.usb :=
  eq_of_hide (b := false) (congrArg View.usb h) rfl
theorem blocks_of_allBut (h : view (allBut [.blocks]) u = view (allBut [.blocks]) s) : u.blocks = s.blocks :=
  eq_of_hide (b := false) (congrArg View.blocks h) rfl
theorem thr_of_allBut (h : view (allBut [.thr]) u = view (allBut [.thr]) s) : u.thr = s.thr :=
  eq_of_hide (b := false) (congrArg View.thr h) rfl
theorem gran_of_allBut (h : view (allBut [.gran]) u = view (allBut [.gran]) s) : u.gran = s.gran :=
  eq_of_hide (b := false) (congrArg View.gran h) rfl
theorem plant_of_allBut (h : view (allBut [.plant]) u = view (allBut [.plant]) s) : u.plant = s.plant :=
  eq_of_hide (b := false) (congrArg View.plant h) rfl
theorem endur_of_allBut (h : view (allBut [.endur]) u = view (allBut [.endur]) s) : u.endur = s.endur :=
  eq_of_hide (b := false) (congrArg View.endur h) rfl
theorem sleep_of_allBut (h : view (allBut [.sleep]) u = view (allBut [.sleep]) s) : u.sleep = s.sleep :=
  eq_of_hide (b := false) (congrArg View.sleep h) rfl
theorem lands_of_allBut (h : view (allBut [.lands]) u = view (allBut [.lands]) s) : u.lands = s.lands :=
  eq_of_hide (b := false) (congrArg View.lands h) rfl
theorem freeCtr_of_allBut (h : view (allBut [.freeCtr]) u = view (allBut [.freeCtr]) s) : u.freeCtr = s.freeCtr :=
  eq_of_hide (b := false) (congrArg View.freeCtr h) rfl
theorem flash_of_allBut (h : view (allBut [.flash]) u = view (allBut [.flash]) s) : u.mem.flash = s.mem.flash :=
  eq_of_hide (b := false) (congrArg View.flash h) rfl
theorem psram_of_allBut (h : view (allBut [.psram]) u = view (allBut [.psram]) s) : u.mem.psram = s.mem.psram :=
  eq_of_hide (b := false) (congrArg View.psram h) rfl

/-- The memories' parts are the four memories and what is around them. -/
theorem mem_of_allBut (h : view (allBut [.flash, .psram, .loft, .sram, .memory]) u = view (allBut [.flash, .psram, .loft, .sram, .memory]) s) :
    u.mem = s.mem := by
  have hflash : u.mem.flash = s.mem.flash := eq_of_hide (b := false) (congrArg View.flash h) rfl
  have hpsram : u.mem.psram = s.mem.psram := eq_of_hide (b := false) (congrArg View.psram h) rfl
  have hloft : u.mem.loft = s.mem.loft := eq_of_hide (b := false) (congrArg View.loft h) rfl
  have hsram : u.mem.sram = s.mem.sram := eq_of_hide (b := false) (congrArg View.sram h) rfl
  have haround := eq_of_hide (b := false) (congrArg View.memory h) rfl
  generalize u.mem = m at *
  generalize s.mem = n at *
  cases m
  cases n
  simp_all

/-- What is kept of the keys is the slots and the records, and what is around them. -/
theorem sec_of_allBut (h : view (allBut [.slots, .keys]) u = view (allBut [.slots, .keys]) s) : u.sec = s.sec := by
  have hslots : (u.sec.slots, u.sec.signers) = (s.sec.slots, s.sec.signers) := eq_of_hide (b := false) (congrArg View.slots h) rfl
  have haround := eq_of_hide (b := false) (congrArg View.keys h) rfl
  generalize u.sec = m at *
  generalize s.sec = n at *
  cases m
  cases n
  simp_all

end Sys2Proof.Machine
end

/-! # The straps (O30, chapters 2 and 25)

Readings, the latch, rereads, and PAIR debounced. -/

section
namespace Sys2Proof.Machine

open Sys2Proof


variable {s u : State}

/-! ### Readings (R42, R593) -/

theorem preStartPair_runs (t first second) (hheld : awake s = false) (hvin : s.plant.vinValid = true) :
    Runs (.preStartPair t first second) s fun u => u.straps.pre = some (readPin 12 first, readPin 12 second) := by
  refine ⟨_, if_neg ?_, rfl⟩
  rw [awake_upTo, State.upTo_plant, hheld, hvin]
  decide

/-- A pin that stays at one voltage reads the code of that voltage: all five conversions give it. -/
theorem readPin_steady (i : Fin 13) (v : Nat) : readPin i { volts := v } = convert v := by
  have hpin (dt : Nat) : pinAt { volts := v } dt = v := rfl
  have hfive : (Vector.ofFn fun _ : Fin 5 => convert v).toList = List.replicate 5 (convert v) := by
    rw [Vector.toList_ofFn, List.ofFn_const]
  simp only [readPin, median5, hpin, hfive]
  simp [List.replicate, insertSorted]

theorem strapReading_runs_first (pins) (hawake : awake s = true) (hlatch : s.start.tLatch = none) (hfirst : s.straps.first = none) :
    Runs (.strapReading pins) s fun u =>
      u.straps.first = some (readPins pins) ∧ pullups u = true ∧ u.now = max s.now (s.start.tReset + 10700000) := by
  obtain ⟨v, hv, h⟩ := s.exists_upTo (s.start.tReset + 10700000)
  rw [runs_iff]
  show Answers (execStrapReading pins s) _
  unfold execStrapReading
  rw [if_neg (by simp [hawake, hlatch]), hfirst]
  dsimp only
  rw [hv]
  have hpast : s.start.tReset + 5 * ms1 ≤ v.now := by
    rw [h.now]
    unfold ms1
    omega
  refine ⟨rfl, ?_, h.now⟩
  show (awake v && if v.start.tLatch.isNone then decide (v.start.tReset + 5 * ms1 ≤ v.now) else _) = true
  rw [h.awake, h.start, hawake, hlatch, decide_eq_true hpast]
  rfl

theorem strapReading_runs_second (pins) (hawake : awake s = true) (hlatch : s.start.tLatch = none)
    (hfirst : s.straps.first.isSome = true) : Runs (.strapReading pins) s fun u =>
      u.straps.second = some (readPins pins) ∧ u.straps.first = s.straps.first
        ∧ u.now = max s.now (s.start.tReset + 20700000) := by
  obtain ⟨r, hr⟩ := Option.isSome_iff_exists.mp hfirst
  obtain ⟨v, hv, h⟩ := s.exists_upTo (s.start.tReset + 20700000)
  rw [runs_iff]
  show Answers (execStrapReading pins s) _
  unfold execStrapReading
  rw [if_neg (by simp [hawake, hlatch]), hr]
  dsimp only
  rw [hv]
  exact ⟨rfl, (congrArg Straps.first h.straps).trans hr, h.now⟩

/-! ### The latch (R43) -/

section
variable {a b : Vector (Fin 1024) 13}

/-- Whichever way a start goes from t_latch, the straps stay as latched. -/
theorem latchWay_straps (pre p) (v : State) :
    (latchWay (hardFaults a b pre p) (strapWarnings (latchedLevels a b) a b) v).straps = v.straps :=
  eq_of_hide (b := false) (congrArg View.straps (latchWay_view (P := fun p => !(p == .straps)) v _ _ rfl (latchFaults_ne a b pre p))) rfl

theorem strapLatch_runs_good (hawake : awake s = true) (hlatch : s.start.tLatch = none) (hfirst : s.straps.first = some a)
    (hsecond : s.straps.second = some b) (hhard : hardFaults a b s.straps.pre (preLevel s) = []) (hfailed : s.aon.failed ≠ 3) :
    Runs .strapLatch s fun u =>
      u.straps.level = latchedLevels a b ∧ u.start.tLatch = some (max s.now (s.start.tReset + 20700000))
        ∧ (s.start.mode = none → pullups u = false) ∧ u.start.base = u.start.tLatch ∧ u.start.mode = s.start.mode := by
  rw [runs_iff]
  refine (execStrapLatch_latched hfirst hsecond (by rw [hawake, hlatch]; rfl)).imp ?_
  rintro u ⟨v, hv, rfl⟩
  obtain ⟨hstart, -⟩ := State.of_startRecord
    (latchWay_goesOn_startRecord (strapWarnings (latchedLevels a b) a b) v (hv.failed ▸ hfailed))
  rw [latchWay_straps, hhard]
  rw [pullups, hstart]
  refine ⟨hv.level, hv.tLatch.trans (congrArg some hv.now), fun hmode => ?_, hv.tLatch.symm, hv.mode⟩
  rw [hv.tLatch, hv.mode, hmode]
  simp

theorem strapLatch_runs_faulty (hawake : awake s = true) (hlatch : s.start.tLatch = none) (hfirst : s.straps.first = some a)
    (hsecond : s.straps.second = some b) (hhard : hardFaults a b s.straps.pre (preLevel s) ≠ []) : Runs .strapLatch s fun u =>
      u.straps.level = latchedLevels a b ∧ u.start.mode = some .safe
        ∧ (hardFaults a b s.straps.pre (preLevel s)).head?.map (·.code) = some u.start.fault := by
  rw [runs_iff]
  refine (execStrapLatch_latched hfirst hsecond (by rw [hawake, hlatch]; rfl)).imp ?_
  rintro u ⟨v, hv, rfl⟩
  rw [latchWay_straps]
  generalize hardFaults a b s.straps.pre (preLevel s) = hard at hhard ⊢
  cases hard with
  | nil => exact absurd rfl hhard
  | cons f l =>
    obtain ⟨hstart, -⟩ := State.of_startRecord (safeAtStart_startRecord (safeLinks v) f.code f.code
      (faults := raiseAll (f :: l ++ strapWarnings (latchedLevels a b) a b)) fun w => raiseAll_startRecord w _)
    rw [latchWay_strapFault, hstart]
    exact ⟨hv.level, rfl, rfl⟩

end

/-! ### Rereads and PAIR (R47, R550) -/

/-- A report marks its strap and raises its fault. -/
theorem reportStrap_keeps (a b) (s : State) (i : Fin 13) :
    (reportStrap a b s i).straps.rereads = s.straps.rereads ∧ (reportStrap a b s i).straps.level = s.straps.level
      ∧ (reportStrap a b s i).start = s.start ∧ (reportStrap a b s i).now = s.now := by
  unfold reportStrap
  split
  · simp
  · exact ⟨rfl, rfl, rfl, rfl⟩

theorem foldl_reportStrap_keeps (a b) (l : List (Fin 13)) (s : State) :
    (l.foldl (reportStrap a b) s).straps.rereads = s.straps.rereads ∧ (l.foldl (reportStrap a b) s).straps.level = s.straps.level
      ∧ (l.foldl (reportStrap a b) s).start = s.start ∧ (l.foldl (reportStrap a b) s).now = s.now :=
  ⟨foldl_keeps (·.straps.rereads) _ (fun s i => (reportStrap_keeps a b s i).1) l s,
    foldl_keeps (·.straps.level) _ (fun s i => (reportStrap_keeps a b s i).2.1) l s,
    foldl_keeps (·.start) _ (fun s i => (reportStrap_keeps a b s i).2.2.1) l s,
    foldl_keeps (·.now) _ (fun s i => (reportStrap_keeps a b s i).2.2.2) l s⟩

theorem foldl_reportStrap_reread (a b) (l : List (Fin 13)) (v : State) :
    let u := l.foldl (reportStrap a b) { v with straps := { v.straps with rereads := v.straps.rereads + 1 } }
    u.straps.rereads = v.straps.rereads + 1 ∧ u.straps.level = v.straps.level ∧ u.start = v.start ∧ u.now = v.now :=
  foldl_reportStrap_keeps a b l _

theorem strapReread_runs_at (a b) {rr : Nat} (hawake : awake s = true) (hrr : rereadAt s = some rr)
    (hmode : s.start.mode.isSome = true) : Runs (.strapReread a b) s fun u =>
      u.straps.rereads = s.straps.rereads + 1 ∧ u.straps.level = s.straps.level ∧ u.start = s.start
        ∧ u.now = max s.now (rr + 15700000) := by
  obtain ⟨v, hv, h⟩ := s.exists_upTo (rr + 15700000)
  obtain ⟨straps, hstraps⟩ : ∃ l, List.finRange 13 = l := ⟨_, rfl⟩
  rw [runs_iff]
  show Answers (execStrapReread a b s) _
  unfold execStrapReread
  rw [hrr]
  dsimp only
  rw [if_neg (by simp [hawake, Option.isSome_iff_ne_none.mp hmode]), hv, hstraps]
  obtain ⟨hrereads, hlevel, hstart, hnow⟩ := foldl_reportStrap_reread (readPins a) (readPins b) straps v
  exact ⟨hrereads.trans (by rw [h.straps]), hlevel.trans (by rw [h.straps]), hstart.trans h.start, hnow.trans h.now⟩

theorem rereadAt_of_latched {l : Nat} (hlatch : s.start.tLatch = some l) : ∃ rr, rereadAt s = some rr
    ∧ (inMode .slumber s = false → rr = l + (s.straps.rereads + 1) * 60 * sec1) := by
  rw [rereadAt, hlatch, Option.map_some]
  refine ⟨_, rfl, fun h => ?_⟩
  dsimp only
  rw [if_neg (by rw [h]; exact Bool.false_ne_true)]

theorem strapReread_runs (a b) {l : Nat} (hawake : awake s = true) (hlatch : s.start.tLatch = some l)
    (hmode : s.start.mode.isSome = true) : Runs (.strapReread a b) s fun u =>
      u.straps.rereads = s.straps.rereads + 1 ∧ u.straps.level = s.straps.level ∧ u.start = s.start
        ∧ (inMode .slumber s = false → u.now = max s.now (l + (s.straps.rereads + 1) * 60 * sec1 + 15700000)) := by
  obtain ⟨rr, hrr, hdue⟩ := rereadAt_of_latched hlatch
  obtain ⟨u, hu, hrereads, hlevel, hstart, hnow⟩ := strapReread_runs_at a b hawake hrr hmode
  exact ⟨u, hu, hrereads, hlevel, hstart, fun hslumber => by rw [hnow, hdue hslumber]⟩

theorem pairDebouncedChange_runs (t) {samples : List Bool} (hlength : samples.length = 20)
    (hall : samples.all (· == !s.lands.pair) = true) : Runs (.pairDebouncedChange t samples) s fun u =>
      u.lands.pair = !s.lands.pair ∧ u.lands.pairSince = u.now ∧ u.now = max s.now t :=
  ⟨_, if_pos (by rw [State.upTo_lands, hlength, hall]; rfl), rfl, rfl, State.upTo_now ..⟩

/-- Settles O30: the readings, the latch as its faults have it, a reread, and a debounced change. -/
theorem strapsRun : Obligations.StrapsRun :=
  ⟨fun _ t first second hheld hvin => preStartPair_runs t first second hheld hvin,
    fun i v => by rw [readPin_steady]; exact Nat.mod_eq_of_lt (by omega),
    fun _ pins hawake hlatch => ⟨strapReading_runs_first pins hawake hlatch, strapReading_runs_second pins hawake hlatch⟩,
    fun _ _ _ hawake hlatch hfirst hsecond => ⟨strapLatch_runs_good hawake hlatch hfirst hsecond,
      strapLatch_runs_faulty hawake hlatch hfirst hsecond⟩,
    fun _ a b _ hawake hlatch hmode => strapReread_runs a b hawake hlatch hmode,
    fun _ t _ hlength hall => pairDebouncedChange_runs t hlength hall⟩

end Sys2Proof.Machine
end

/-! # Guards of the start (O31, chapters 1, 3, 5 and 21)

The failed-start counter, PAIR at a start, pre-conditioning, the die link and the clock monitors. -/

section
namespace Sys2Proof.Machine

open Sys2Proof


variable {s u : State}

/-! ### The counter and PAIR (R76 to R78, R80) -/

theorem pairHoldClear_runs (hawake : awake s = true) (hpair : s.start.pairAtLatch = true) (hclear : s.start.clearedByPair = false) :
    Runs .pairHoldClear s fun u => u.aon.failed = 0 ∧ u.start.clearedByPair = true
      ∧ (s.start.waitPair = true → u.start.base = some (max s.now (s.start.tReset + 5 * sec1))) := by
  obtain ⟨v, hv, h⟩ := s.exists_upTo (s.start.tReset + 5 * sec1)
  rw [runs_iff]
  show Answers (execPairHoldClear s) _
  unfold execPairHoldClear
  rw [if_pos (by simp [hawake, hpair, hclear]), hv]
  extract_lets _ r start₁ aon₁ w
  have hstart : r.start = s.start := (raise_start ..).trans ((setCounter_start ..).trans h.start)
  have hnow : r.now = max s.now (s.start.tReset + 5 * sec1) := (raise_now ..).trans ((setCounter_now ..).trans h.now)
  clear_value r
  have hwait : w.start.waitPair = s.start.waitPair := (congrArg StartUnit.waitPair hstart :)
  split
  · obtain ⟨hs, ha⟩ := State.of_startRecord (startFrom_startRecord w w.now)
    rw [answers_next, hs, ha]
    exact ⟨rfl, rfl, fun _ => (congrArg some hnow :)⟩
  · next hno => exact ⟨rfl, rfl, fun hyes => absurd (hwait.trans hyes) hno⟩

theorem pairReleaseEarly_runs {t : Nat} (hawake : awake s = true) (hwait : s.start.waitPair = true)
    (hearly : max s.now t < s.start.tReset + 5 * sec1) : Runs (.pairReleaseEarly t) s fun u =>
      u.start.mode = some .safe ∧ u.start.fault = 0xF010#16 ∧ u.start.safeCode = s.aon.last3[0] ∧ u.aon = s.aon := by
  obtain ⟨v, hv, h⟩ := s.exists_upTo t
  rw [runs_iff]
  show Answers (execPairReleaseEarly t s) _
  unfold execPairReleaseEarly
  rw [hv]
  dsimp only
  have hnow : v.now < v.start.tReset + 5 * sec1 := by rwa [h.now, h.start]
  rw [if_pos (by rw [h.awake, h.start, hawake, hwait, decide_eq_true (by rwa [h.start] at hnow)]; rfl)]
  obtain ⟨hs, ha⟩ := State.of_startRecord (safeAtStart_startRecord (safeLinks { v with
    start := { v.start with waitPair := false, pairAtLatch := false }, lands := { v.lands with pair := false, pairSince := v.now } })
    0xF010#16 v.aon.last3[0] (faults := raise 0xF010#16 0 []) fun w => raise_startRecord w _ _ _)
  rw [answers_next, hs, ha]
  exact ⟨rfl, rfl, by rw [h.aon], h.aon⟩

theorem failedStartCounterClear_runs {r : Nat} (hrun : s.start.tRun = some r) (hpending : s.start.counterPending = true) :
    Runs .failedStartCounterClear s fun u =>
      u.aon.failed = 0 ∧ u.start.counterPending = false ∧ u.now = max s.now (r + 60 * sec1) := by
  obtain ⟨v, hv, h⟩ := s.exists_upTo (r + 60 * sec1)
  rw [runs_iff]
  show Answers (execFailedStartCounterClear s) _
  unfold execFailedStartCounterClear
  rw [hrun]
  dsimp only
  rw [if_pos hpending, hv, answers_next, setCounter_failed, setCounter_start, setCounter_now]
  exact ⟨rfl, rfl, h.now⟩

/-! ### Pre-conditioning and the die link (R473, R23) -/

theorem preconditionBeforeStart_runs {t vbatMv : Nat} {b : BattSetup} (hheld : awake s = false)
    (hlevel : (preLevel s).bind (fun k => battSetup k.val) = some b) (hprecond : s.plant.precond = false)
    (hvin : s.plant.vinValid = true) (hlow : (preRange b.lfp).1 ≤ vbatMv) (hhigh : vbatMv < (preRange b.lfp).2)
    (hpre : s.plant.preMs = 0) : Runs (.preconditionBeforeStart t vbatMv) s fun u =>
      u.plant.precond = true ∧ u.plant.state = 1 ∧ u.plant.vbatMv = vbatMv ∧ u.plant.fixed = true := by
  obtain ⟨v, hv, h⟩ := s.exists_upTo t
  have hlevel' : (preLevel v).bind (fun k => battSetup k.val) = some b := by
    rw [preLevel_congr (u := s) (by rw [h.straps])]
    exact hlevel
  rw [runs_iff]
  show Answers (execPreconditionBeforeStart t vbatMv s) _
  unfold execPreconditionBeforeStart
  rw [hv]
  dsimp only
  rw [if_neg (by rw [h.awake, hheld]; exact Bool.false_ne_true)]
  change Answers (match (preLevel v).bind (fun k => battSetup k.val) with | none => _ | some b => _) _
  rw [hlevel']
  dsimp only
  rw [h.plant, hprecond, hvin, hpre, decide_eq_true hlow, decide_eq_true hhigh]
  exact ⟨rfl, rfl, rfl, rfl⟩

theorem dieLinkLoss_runs (t) (s : State) : Runs (.dieLinkLoss t) s fun u =>
    u.plant.linkLost = some (max s.now t) ∧ u.motor.driven = false ∧ (∀ i : Fin 2, u.spk.ch[i].on = false)
      ∧ u.plant.state = s.plant.state := by
  obtain ⟨v, hv, h⟩ := s.exists_upTo t
  refine ⟨_, rfl, ?_⟩
  rw [hv]
  exact ⟨(congrArg some h.now :), rfl, fun i => by simp, (congrArg Plant.state h.plant :)⟩

theorem dieLinkRestored_runs {t l : Nat} (hlost : s.plant.linkLost = some l) (hsoon : max s.now t ≤ l + 10 * ms1) :
    Runs (.dieLinkRestored t) s fun u => u.plant.linkLost = none ∧ u.start = s.start := by
  obtain ⟨v, hv, h⟩ := s.exists_upTo t
  rw [runs_iff]
  show Answers (execDieLinkRestored t s) _
  unfold execDieLinkRestored
  rw [hv]
  dsimp only
  rw [h.plant, hlost]
  dsimp only
  rw [if_pos (by rwa [h.now]), answers_next, raise_plant, raise_start]
  exact ⟨rfl, h.start⟩

theorem watchdogReset_now (cause code detail) (s : State) : (watchdogReset cause code detail s).now = s.now := by
  unfold watchdogReset
  show (if watchdogCounts (raise code 0 detail s) then countFailed code (raise code 0 detail s) else raise code 0 detail s).now = s.now
  split
  · rw [countFailed_now, raise_now]
  · rw [raise_now]

theorem dieLinkRestoreTimeout_runs {l : Nat} (hlost : s.plant.linkLost = some l) (hawake : awake s = true)
    (hsafe : inMode .safe s = false) (hslumber : inMode .slumber s = false) : Runs .dieLinkRestoreTimeout s fun u =>
      u.start.phase = .held ∧ u.start.cause = .dieLink ∧ u.now = max s.now (l + 10 * ms1) := by
  obtain ⟨v, hv, h⟩ := s.exists_upTo (l + 10 * ms1)
  rw [runs_iff]
  show Answers (execDieLinkRestoreTimeout s) _
  unfold execDieLinkRestoreTimeout
  rw [hlost]
  dsimp only
  rw [hv, if_pos (by rw [h.awake, h.inMode, h.inMode, hawake, hsafe, hslumber]; rfl)]
  refine ⟨rfl, rfl, .trans ?_ h.now⟩
  exact watchdogReset_now ..

/-! ### Clock monitors (R122) -/

/-- Domains of the core family are always the device's own, and a loss among them takes the whole family (log entry 132). -/
theorem lostDomains_core (domains : BitVec 18) (s : State) :
    (lostDomains domains s).getLsbD 2 = true ↔ domains &&& coreFamily ≠ 0#18 := by
  have hown (m : BitVec 18) (hm : m &&& coreFamily = coreFamily) :
      (if domains &&& m &&& coreFamily = 0#18 then domains &&& m else domains &&& m ||| coreFamily).getLsbD 2 = true
        ↔ domains &&& coreFamily ≠ 0#18 := by
    have hcore : domains &&& m &&& coreFamily = domains &&& coreFamily := by rw [BitVec.and_assoc, hm]
    rw [hcore]
    split
    · next hnone =>
      have hbit : (domains &&& coreFamily).getLsbD 2 = false := by rw [hnone]; rfl
      have hbit₂ : domains.getLsbD 2 = false := by
        rw [BitVec.getLsbD_and, show coreFamily.getLsbD 2 = true from rfl, Bool.and_true] at hbit
        exact hbit
      rw [BitVec.getLsbD_and, hbit₂, Bool.false_and]
      simp [hnone]
    · next hsome =>
      rw [BitVec.getLsbD_or, show coreFamily.getLsbD 2 = true from rfl, Bool.or_true]
      simpa using hsome
  unfold lostDomains
  extract_lets usb own
  have husb : ownDomains &&& ~~~usb &&& coreFamily = coreFamily := by
    dsimp only [usb]
    split <;> decide
  have hlost : own = domains &&& (ownDomains &&& ~~~usb) := BitVec.and_assoc ..
  rw [hlost]
  exact hown _ husb

/-- A loss among the device's own domains is a loss. -/
theorem lostDomains_ne_zero {domains : BitVec 18}
    (hlost : domains &&& (if s.usb.vbus && !s.usb.suspended then ownDomains else 0b01_1100_0000_0001_1111#18) ≠ 0#18) :
    lostDomains domains s ≠ 0#18 := by
  unfold lostDomains
  extract_lets usb own
  have hmask : ownDomains &&& ~~~usb = if s.usb.vbus && !s.usb.suspended then ownDomains else 0b01_1100_0000_0001_1111#18 := by
    dsimp only [usb]
    split <;> decide
  have hown : own = domains &&& (ownDomains &&& ~~~usb) := BitVec.and_assoc ..
  rw [← hmask, ← hown] at hlost
  clear_value own
  split
  · exact hlost
  · intro hzero
    have hbit : (own ||| coreFamily).getLsbD 2 = false := by rw [hzero]; rfl
    rw [BitVec.getLsbD_or, show coreFamily.getLsbD 2 = true from rfl, Bool.or_true] at hbit
    cases hbit

theorem lostDomains_congr {v : State} (h : v.usb = s.usb) (domains) : lostDomains domains v = lostDomains domains s := by
  unfold lostDomains
  rw [h]

theorem setCounter_lost (n) (s : State) : (setCounter n s).aon.lost = s.aon.lost := by
  unfold setCounter
  split <;> rfl

theorem countFailed_lost (code) (s : State) : (countFailed code s).aon.lost = s.aon.lost := setCounter_lost ..

theorem clockMonitorLoss_runs {t : Nat} {domains : BitVec 18} (hawake : awake s = true) (hdown : s.sleep.down = false)
    (hreset : s.aon.clockReset = false)
    (hlost : domains &&& (if s.usb.vbus && !s.usb.suspended then ownDomains else 0b01_1100_0000_0001_1111#18) ≠ 0#18) :
    Runs (.clockMonitorLoss t domains) s fun u =>
      u.aon.clockReset = true ∧ u.aon.clockFault.isSome = true ∧ u.start = s.start
        ∧ (sysStopped u = true ↔ domains &&& coreFamily ≠ 0#18) := by
  obtain ⟨v, hv, h⟩ := s.exists_upTo t
  have hown : lostDomains domains v ≠ 0#18 := by
    rw [lostDomains_congr h.usb]
    exact lostDomains_ne_zero hlost
  have hcore := lostDomains_core domains v
  rw [runs_iff]
  show Answers (execClockMonitorLoss t domains s) _
  unfold execClockMonitorLoss
  rw [hv]
  dsimp only
  generalize lostDomains domains v = own at hown hcore ⊢
  rw [if_neg (by simp [h.awake, h.sleep, h.aon, hawake, hdown, hreset, hown])]
  generalize padTo 8 0#8 _ = detail
  obtain ⟨w, hw⟩ : ∃ w : State, { v with aon := { v.aon with clockFault := some detail, clockReset := true, lost := own } } = w :=
    ⟨_, rfl⟩
  have hreset : w.aon.clockReset = true := by rw [← hw]
  have hfault : w.aon.clockFault = some detail := by rw [← hw]
  have hlost : w.aon.lost = own := by rw [← hw]
  have hstart : w.start = s.start := by rw [← hw]; exact h.start
  rw [hw, answers_next]
  split
  · rw [sysStopped, countFailed_clockReset, countFailed_clockFault, countFailed_lost, countFailed_start, hreset, hfault, hlost]
    exact ⟨rfl, rfl, hstart, hcore⟩
  · rw [sysStopped, hreset, hfault, hlost]
    exact ⟨rfl, rfl, hstart, hcore⟩

theorem clockMonitorLoss_runs_again (t domains) (hreset : s.aon.clockReset = true) :
    Runs (.clockMonitorLoss t domains) s fun u => u.aon = s.aon :=
  ⟨_, if_pos (by rw [State.upTo_aon, hreset]; simp), State.upTo_aon ..⟩

/-- Settles O31: the counter's clearing, PAIR let go early, pre-conditioning, and the two monitors. -/
theorem startGuardsRun : Obligations.StartGuardsRun :=
  ⟨fun _ hawake hpair hclear => pairHoldClear_runs hawake hpair hclear,
    fun _ _ hawake hwait hearly => pairReleaseEarly_runs hawake hwait hearly,
    fun _ _ hrun hpending => failedStartCounterClear_runs hrun hpending,
    fun _ _ _ _ hheld hlevel hprecond hvin hlow hhigh hpre =>
      preconditionBeforeStart_runs hheld hlevel hprecond hvin hlow hhigh hpre,
    fun s t => dieLinkLoss_runs t s, fun _ _ _ hlost hsoon => dieLinkRestored_runs hlost hsoon,
    fun _ _ hlost hawake hsafe hslumber => dieLinkRestoreTimeout_runs hlost hawake hsafe hslumber,
    fun _ _ _ hawake hdown hreset hlost => clockMonitorLoss_runs hawake hdown hreset hlost,
    fun _ t domains hreset => clockMonitorLoss_runs_again t domains hreset⟩

end Sys2Proof.Machine
end

/-! # What the device tells (O32, chapter 4)

Folds, heartbeats, telemetry, replay, and entries of the ash log. -/

section
namespace Sys2Proof.Machine

open Sys2Proof


variable {s u v : State}

/-! ### Status frames (R96 to R100) -/

theorem faultFoldExpiry_runs {f : Fold} (hf : s.status.folds.find? (fun g => g.code == f.code) = some f) (hcount : 0 < f.count) :
    Runs (.faultFoldExpiry f.code) s fun u =>
      u.status.counter = s.status.counter + 1 ∧ u.status.active = s.status.active ∧ u.now = max s.now f.until_
        ∧ (⟨f.code, f.until_ + sec1, 0, 0, []⟩ : Fold) ∈ u.status.folds := by
  obtain ⟨v, hv, h⟩ := s.exists_upTo f.until_
  rw [runs_iff]
  show Answers (execFaultFoldExpiry f.code s) _
  unfold execFaultFoldExpiry
  rw [hf]
  dsimp only
  rw [hv, if_neg (Nat.ne_of_gt hcount)]
  exact ⟨congrArg (· + 1) h.counter, h.active, h.now, List.mem_append_right _ List.mem_cons_self⟩

/-- Frames that enter the network path wait there: nothing else of what the device tells changes. -/
theorem pumpFrames_status (nn : Nat) (q : List QFrame) (s : State) :
    ∃ net, (pumpFrames nn q s).status = { s.status with net := net } := by
  induction q generalizing s with
  | nil => exact ⟨_, rfl⟩
  | cons f q ih =>
    unfold pumpFrames
    split
    · obtain ⟨net, hnet⟩ := ih (sendTenant (ownFrame s 4 nn 0 0x88B5#16 f.bytes) s)
      exact ⟨net, by rw [hnet, sendTenant_status]⟩
    · exact ⟨_, rfl⟩

theorem pump_status_net (s : State) : ∃ net, (pump s).status = { s.status with net := net } := by
  unfold pump
  dsimp only
  split
  · exact pumpFrames_status ..
  · exact ⟨s.status.net, rfl⟩

theorem heartbeatSend_runs (hpowered : powered s = true) (hmode : s.start.mode.isSome = true) (hslumber : inMode .slumber s = false) :
    Runs .heartbeatSend s fun u =>
      u.status.counter = s.status.counter + 1 ∧ u.status.sec = {} ∧ u.status.heartbeatAt = s.status.heartbeatAt + sec1
        ∧ u.status.heartbeats = s.status.heartbeats + 1 := by
  obtain ⟨v, hv, h⟩ := s.exists_upToDevice s.status.heartbeatAt
  rw [runs_iff]
  show Answers (execHeartbeatSend s) _
  unfold execHeartbeatSend
  rw [if_neg (by simp [hpowered, Option.isSome_iff_ne_none.mp hmode])]
  dsimp only
  rw [hv, if_neg (by rw [h.inMode, hslumber]; exact Bool.false_ne_true)]
  obtain ⟨net, hnet⟩ := pump_status_net (heartbeat s.status.heartbeatAt v)
  rw [hnet]
  exact ⟨congrArg (· + 1) h.counter, rfl, rfl, congrArg (· + 1) (congrArg Status.heartbeats h.status :)⟩

theorem telemetrySend_runs {d : Nat} {rest : List Nat} (hat : s.status.telemetryAt = d :: rest) (hmode : s.start.mode.isSome = true)
    (hslumber : inMode .slumber s = false) (hplant : plantActive s = true) : Runs .telemetrySend s fun u =>
      u.status.counter = s.status.counter + 1 ∧ u.status.telemetryAt = rest := by
  obtain ⟨v, hv, h⟩ := s.exists_upToDevice d
  rw [runs_iff]
  show Answers (execTelemetrySend s) _
  unfold execTelemetrySend
  rw [hat]
  dsimp only
  rw [hv]
  have hplant' : plantActive v = true := by
    simp only [plantActive, lvl, h.straps] at hplant ⊢
    exact hplant
  rw [if_pos (by
    show (v.start.mode.isSome && !inMode .slumber v && plantActive v) = true
    rw [h.start, h.inMode, hmode, hslumber, hplant']
    rfl)]
  obtain ⟨net, hnet⟩ := pump_status_net (telemetry { v with status := { v.status with telemetryAt := rest } })
  rw [answers_next, hnet]
  exact ⟨congrArg (· + 1) h.counter, rfl⟩

/-- Frames generated one after another count each. -/
theorem foldl_genFrame_counter {α : Type} (kind : Nat) (tail : α → List Byte) (l : List α) (s : State) :
    (l.foldl (fun s x => genFrame kind (tail x) s) s).status.counter = s.status.counter + BitVec.ofNat 16 l.length := by
  induction l generalizing s with
  | nil => simp
  | cons x l ih =>
    rw [List.foldl_cons, ih, genFrame_counter, List.length_cons, BitVec.add_assoc, Nat.add_comm l.length 1, BitVec.ofNat_add]
    rfl

theorem replaySend_runs (t) (hdue : s.status.replayDue = true) (hbeats : 0 < s.status.heartbeats) (hflash : s.mem.flashUp = true) :
    Runs (.replaySend t) s fun u => u.status.replayDue = false
      ∧ u.status.counter = s.status.counter + BitVec.ofNat 16 (replayParts (s.status.replay.map replayBytes)).length := by
  obtain ⟨v, hv, h⟩ := s.exists_upTo t
  have hreplay : v.status.replay = s.status.replay := (congrArg Status.replay h.status :)
  have hdue' : v.status.replayDue = s.status.replayDue := (congrArg Status.replayDue h.status :)
  have hbeats' : v.status.heartbeats = s.status.heartbeats := (congrArg Status.heartbeats h.status :)
  rw [runs_iff]
  show Answers (execReplaySend t s) _
  unfold execReplaySend
  rw [hv]
  dsimp only
  rw [if_pos (by rw [hdue', hdue, hbeats', decide_eq_true hbeats, h.mem, hflash]; rfl), hreplay]
  generalize replayParts (s.status.replay.map replayBytes) = parts
  refine ⟨rfl, .trans (foldl_genFrame_counter 0x50 (fun x : List (List Byte) × Nat =>
    [BitVec.ofNat 8 (x.2 * 16 + parts.length), BitVec.ofNat 8 x.1.length] ++ x.1.flatten) parts.zipIdx v) ?_⟩
  rw [h.counter, List.length_zipIdx]

/-- Waiting frames enter the queue in their order. -/
theorem FuPath.enter_append (q w : List QFrame) : (FuPath.enter q w).1 ++ (FuPath.enter q w).2 = q ++ w := by
  induction w generalizing q with
  | nil => rfl
  | cons f w ih =>
    unfold FuPath.enter
    split
    · rw [ih, List.append_assoc, List.singleton_append]
    · rfl

theorem fumaroleQueueRoom_runs (t) (s : State) : Runs (.fumaroleQueueRoom t .stat) s fun u =>
    u.status.stat = (s.upTo t).status.stat.refill ∧ u.status.counter = s.status.counter
      ∧ u.status.stat.queue ++ u.status.stat.waiting = (s.upTo t).status.stat.queue ++ (s.upTo t).status.stat.waiting := by
  obtain ⟨v, hv, h⟩ := s.exists_upTo t
  obtain ⟨net, hnet⟩ := pump_status_net v
  have hstat : (pump v).status.stat = v.status.stat := by rw [hnet]
  have hcounter : (pump v).status.counter = s.status.counter := by rw [hnet]; exact h.counter
  rw [hv]
  refine ⟨_, rfl, ?_⟩
  rw [hv]
  generalize pump v = p at hstat hcounter
  refine ⟨congrArg FuPath.refill hstat, hcounter, ?_⟩
  rw [← hstat]
  exact FuPath.enter_append ..

/-! ### The ash log (R97, R109, R111) -/

theorem logPut_log_waiting (e) (s : State) : s.log.waiting <+: (logPut e s).log.waiting := by
  unfold logPut
  dsimp only
  split
  · exact List.prefix_rfl
  · split
    · exact List.prefix_append ..
    · exact List.prefix_rfl

theorem logPut_log_retry (e) (s : State) : (logPut e s).log.retry = s.log.retry := by
  unfold logPut
  dsimp only
  (repeat' split) <;> rfl

theorem logPut_log_nextSeq (e) (s : State) : (logPut e s).log.nextSeq = s.log.nextSeq := by
  unfold logPut
  dsimp only
  (repeat' split) <;> rfl

/-- A fault entered in the log comes behind what waits there. -/
theorem raise_log_keeps (code unit detail) (s : State) : s.log.waiting <+: (raise code unit detail s).log.waiting
    ∧ (raise code unit detail s).log.nextSeq = s.log.nextSeq ∧ (raise code unit detail s).log.retry = s.log.retry := by
  show s.log.waiting <+: (logFaultLog s.gptp.time code detail s).waiting
    ∧ (logFaultLog s.gptp.time code detail s).nextSeq = s.log.nextSeq ∧ (logFaultLog s.gptp.time code detail s).retry = s.log.retry
  unfold logFaultLog
  dsimp only
  split
  · exact ⟨List.prefix_rfl, rfl, rfl⟩
  · exact ⟨logPut_log_waiting _ s, logPut_log_nextSeq _ s, logPut_log_retry _ s⟩

/-- A fault within the hour's 600 entries adds nothing to the count of dropped ones. -/
theorem raise_log_dropped (code unit detail) (s : State) (hroom : (logHour s).length < 600) :
    (raise code unit detail s).log.dropped = s.log.dropped := by
  show (logFaultLog s.gptp.time code detail s).dropped = s.log.dropped
  unfold logFaultLog logPut
  dsimp only
  (repeat' split) <;> rfl

section Written

variable {e : LogEntry} {rest : List LogEntry} (hwaiting : s.log.waiting = e :: rest) (hpresent : s.log.present = true)
  (hup : s.mem.flashUp = true) (hthere : s.mem.flashAbsent = false)
include hwaiting hpresent hup hthere

theorem ashLogEntryWrite_runs_written (t) : Runs (.ashLogEntryWrite t none) s fun u =>
    u.log.waiting = rest ∧ u.log.nextSeq = s.log.nextSeq + 1
      ∧ u.mem.flash = logRing.program (nextPlace logRing s.mem.flash s.log.nextSlot).2
        (nextPlace logRing s.mem.flash s.log.nextSlot).1 (logBytes s.log.nextSeq e) true := by
  obtain ⟨v, hv, h⟩ := s.exists_upTo t
  rw [runs_iff]
  show Answers (execAshLogEntryWrite t none s) _
  unfold execAshLogEntryWrite
  rw [hv]
  dsimp only
  rw [h.log, hwaiting]
  dsimp only
  rw [if_neg (by rw [hpresent, h.mem, hup, hthere]; exact Bool.false_ne_true), h.mem]
  exact ⟨rfl, congrArg (·.nextSeq + 1) h.log, rfl⟩

theorem ashLogEntryWrite_runs_failed (t c) (hretry : s.log.retry = false) : Runs (.ashLogEntryWrite t (some c)) s fun u =>
    e :: rest <+: u.log.waiting ∧ u.log.retry = true ∧ u.log.nextSeq = s.log.nextSeq := by
  obtain ⟨v, hv, h⟩ := s.exists_upTo t
  rw [runs_iff]
  show Answers (execAshLogEntryWrite t (some c) s) _
  unfold execAshLogEntryWrite
  rw [hv]
  dsimp only
  rw [h.log, hwaiting]
  dsimp only
  rw [if_neg (by rw [hpresent, h.mem, hup, hthere]; exact Bool.false_ne_true), h.mem]
  obtain ⟨w, hw⟩ : ∃ w, ringProgram logRing (nextPlace logRing s.mem.flash s.log.nextSlot).2
      (nextPlace logRing s.mem.flash s.log.nextSlot).1 (logBytes s.log.nextSeq e) (some c).isSome v = w := ⟨_, rfl⟩
  have hlog : w.log = s.log := by rw [← hw, ← h.log]; rfl
  rw [hw]
  obtain ⟨x, hx⟩ : ∃ x, { w with log := { w.log with nextSlot := (nextPlace logRing s.mem.flash s.log.nextSlot).1 + 1 } } = x := ⟨_, rfl⟩
  obtain ⟨hbehind, hseq, hkept⟩ := raise_log_keeps 0xF920#16 0
    (be 1 0 ++ be 1 c.code ++ be 4 (logRing.base + 32 * (nextPlace logRing s.mem.flash s.log.nextSlot).1)) x
  have hxlog : x.log.waiting = e :: rest ∧ x.log.nextSeq = s.log.nextSeq ∧ x.log.retry = false := by
    rw [← hx]
    dsimp only
    rw [hlog]
    exact ⟨hwaiting, rfl, hretry⟩
  rw [hxlog.1] at hbehind
  rw [hx, if_neg (by rw [hkept, hxlog.2.2]; exact Bool.false_ne_true)]
  exact ⟨hbehind, rfl, hseq.trans hxlog.2.1⟩

end Written

section Fold

variable {f : LogFold} (hf : s.log.folds.find? (fun g => g.code == f.code) = some f)
include hf

theorem ashLogFoldExpiry_runs_zero (hcount : f.count = 0) : Runs (.ashLogFoldExpiry f.code) s fun u =>
    u.log.folds = s.log.folds.filter (fun g => g.code != f.code) ∧ u.log.waiting = s.log.waiting := by
  obtain ⟨v, hv, h⟩ := s.exists_upTo f.until_
  rw [runs_iff]
  show Answers (execAshLogFoldExpiry f.code s) _
  unfold execAshLogFoldExpiry
  rw [hf]
  dsimp only
  rw [hv, if_pos hcount, h.log]
  exact ⟨rfl, rfl⟩

theorem ashLogFoldExpiry_runs_counted (hcount : 0 < f.count) (hthere : s.mem.flashAbsent = false) (hhour : s.log.hour = []) :
    Runs (.ashLogFoldExpiry f.code) s fun u =>
      ∃ e, u.log.waiting = s.log.waiting ++ [e] ∧ e.code = f.code ∧ e.occurrences = f.count ∧ e.kind = 1 ∧ e.time = f.time := by
  obtain ⟨v, hv, h⟩ := s.exists_upTo f.until_
  rw [runs_iff]
  show Answers (execAshLogFoldExpiry f.code s) _
  unfold execAshLogFoldExpiry
  rw [hf]
  dsimp only
  rw [hv, if_neg (Nat.ne_of_gt hcount), h.log]
  obtain ⟨e, he⟩ : ∃ e : LogEntry, { time := f.time, code := f.code, kind := 1, mode := f.mode, occurrences := f.count, detail := f.detail } = e := ⟨_, rfl⟩
  obtain ⟨w, hw⟩ : ∃ w, { v with log := { s.log with folds := s.log.folds.filter (fun g => g.code != f.code) } } = w := ⟨_, rfl⟩
  have hput : (logPut e w).log.waiting = s.log.waiting ++ [e] := by
    have hroom : (logHour w).length < 600 := by rw [← hw]; show (s.log.hour.filter _).length < 600; rw [hhour]; exact Nat.succ_pos _
    have hthere' : w.mem.flashAbsent = false := by rw [← hw]; show v.mem.flashAbsent = false; rw [h.mem, hthere]
    unfold logPut
    dsimp only
    rw [hthere', if_neg Bool.false_ne_true, if_pos hroom, ← hw]
  rw [he, hw]
  refine ⟨e, ?_, ?_⟩
  · split
    · exact hput
    · exact hput
  · rw [← he]
    exact ⟨rfl, rfl, rfl, rfl⟩

end Fold

/-- When the last of a list is left out, a filter leaves fewer. -/
theorem length_filter_lt_of_getLast? {α : Type} {p : α → Bool} {l : List α} {a : α} (ha : l.getLast? = some a) (hp : p a = false) :
    (l.filter p).length < l.length :=
  List.length_filter_lt_length_iff_exists.mpr ⟨a, List.mem_of_getLast? ha, by rw [hp]; exact Bool.false_ne_true⟩

theorem ashLogHourResume_runs {o : Nat} (ho : s.log.hour.getLast? = some o) (hlength : s.log.hour.length ≤ 600)
    (hdropped : s.log.dropped ≠ 0) : Runs .ashLogHourResume s fun u => u.log.dropped = 0 ∧ u.now = max s.now (o + 3600 * sec1) := by
  obtain ⟨v, hv, h⟩ := s.exists_upTo (o + 3600 * sec1)
  rw [runs_iff]
  show Answers (execAshLogHourResume s) _
  unfold execAshLogHourResume
  rw [ho]
  dsimp only
  rw [if_neg hdropped, hv, h.log]
  have hfewer : (s.log.hour.filter (fun t => decide (v.now < t + 3600 * sec1))).length < 600 :=
    Nat.lt_of_lt_of_le (length_filter_lt_of_getLast? ho (by rw [h.now]; exact decide_eq_false (by omega))) hlength
  refine ⟨raise_log_dropped _ _ _ _ (Nat.lt_of_le_of_lt (List.length_filter_le _ _) hfewer), ?_⟩
  exact h.now

/-- Settles O32: each clause at the state time has come to, whose log and status are the ones before. -/
theorem statusRuns : Obligations.StatusRuns := by
  refine ⟨fun _ _ => faultFoldExpiry_runs, fun _ => heartbeatSend_runs, fun _ _ _ => telemetrySend_runs,
    fun _ t => replaySend_runs t, fun s t => fumaroleQueueRoom_runs t s, fun s t e rest hwaiting hpresent hup hthere => ⟨?_, ?_⟩,
    fun _ _ => ashLogFoldExpiry_runs_zero, fun _ _ => ashLogFoldExpiry_runs_counted, fun _ _ => ashLogHourResume_runs⟩
  · exact ashLogEntryWrite_runs_written hwaiting hpresent hup hthere t
  · exact fun c => ashLogEntryWrite_runs_failed hwaiting hpresent hup hthere t c

end Sys2Proof.Machine
end

/-! # SLUMBER (O33, chapter 3)

Entry, the power-down, beacons and their windows, and what wakes the device. -/

section
namespace Sys2Proof.Machine

open Sys2Proof


variable {s u v : State} {t : Nat}

/-! ### Entry and power-down (R83, R84) -/

theorem slumberConditionsHeld_runs {since : Nat} (hmay : maySlumber (s.upTo (since + 60 * sec1)) = true)
    (hstate : slumberState (s.upTo (since + 60 * sec1)) = true) (hbroken : s.sleep.brokenAt ≤ since)
    (hpending : s.sleep.entryPending = false) (halone : inMode .leader s = false ∨ s.red.contact = false) :
    Runs (.slumberConditionsHeld since) s fun u =>
      u.sleep.entryPending = true ∧ u.sleep.entryAt = u.now ∧ u.now = max s.now (since + 60 * sec1) ∧ u.start = s.start := by
  obtain ⟨v, hv, h⟩ := s.exists_upTo (since + 60 * sec1)
  rw [hv] at hmay hstate
  rw [runs_iff]
  show Answers (execSlumberConditionsHeld since s) _
  unfold execSlumberConditionsHeld
  rw [hv]
  dsimp only
  rw [if_pos (by rw [hmay, hstate, h.sleep, hpending, decide_eq_true hbroken]; rfl), if_neg (by
    rw [h.inMode, h.red]
    rcases halone with hl | hl <;> simp [hl])]
  exact ⟨rfl, rfl, h.now, h.start⟩

theorem slumberPowerDown_runs_down (hmode : inMode .slumber s = true) (hdraining : s.sleep.draining = true)
    (hdone : pathsEmpty (pump (s.upTo t)) = true ∨ s.sleep.enteredAt + 360 * ms1 ≤ max s.now t) :
    Runs (.slumberPowerDown t) s fun u =>
      u.sleep.down = true ∧ u.sleep.draining = false ∧ u.mem.loft = [] ∧ u.mem.psram = s.mem.psram
        ∧ u.status.stat.queue = [] ∧ u.start.armedAt = none := by
  obtain ⟨v, hv, h⟩ := s.exists_upTo t
  rw [hv] at hdone
  rw [runs_iff]
  show Answers (execSlumberPowerDown t s) _
  unfold execSlumberPowerDown
  rw [hv]
  dsimp only
  have hmode' : inMode .slumber (pump v) = true := by rw [inMode, pump_start, h.start]; exact hmode
  rw [if_pos (by
    rw [hmode', pump_sleep, pump_now, h.sleep, h.now, hdraining, Bool.true_and, Bool.true_and, Bool.or_eq_true, decide_eq_true_eq]
    exact hdone)]
  exact ⟨rfl, rfl, rfl, by show (pump v).mem.psram = _; rw [pump_mem, h.mem], rfl, rfl⟩

theorem slumberPowerDown_runs_waits (hfull : pathsEmpty (pump (s.upTo t)) = false) (hearly : max s.now t < s.sleep.enteredAt + 360 * ms1) :
    Runs (.slumberPowerDown t) s fun u => u = pump (s.upTo t) := by
  rw [runs_iff]
  show Answers (execSlumberPowerDown t s) _
  unfold execSlumberPowerDown
  dsimp only
  rw [if_neg (by
    rw [hfull, pump_sleep, pump_now, State.upTo_sleep, State.upTo_now, decide_eq_false (Nat.not_le.mpr hearly), Bool.or_self, Bool.and_false]
    exact Bool.false_ne_true)]
  exact rfl

/-! ### Beacons (R86 to R88) -/

theorem beaconWindowOpen_runs (hmode : inMode .slumber s = true) (hdown : s.sleep.down = true) (hleft : s.start.left ≠ some .leader)
    (hwake : s.sleep.wakeAt = none) : Runs .beaconWindowOpen s fun u =>
      u.sleep.window = some (s.sleep.beaconAt - windowWidth s.sleep.missed / 2, s.sleep.beaconAt + windowWidth s.sleep.missed / 2)
        ∧ u.sleep.got = false := by
  rw [runs_iff]
  show Answers (execBeaconWindowOpen s) _
  unfold execBeaconWindowOpen
  rw [if_pos (by simp [hmode, hdown, hleft, hwake])]
  dsimp only
  obtain ⟨v, hv, h⟩ := s.exists_upToDevice (s.sleep.beaconAt - windowWidth s.sleep.missed / 2)
  rw [hv, h.sleep]
  exact ⟨rfl, rfl⟩

/-- A wake in SLUMBER, and what a start afterwards finds. -/
structure Woken (s u : State) : Prop where
  now : u.now = s.now
  wakeAt : u.sleep.wakeAt = some s.now
  down : u.sleep.down = false
  selfRefresh : u.mem.selfRefresh = false
  startLow : u.blocks.startLow = true
  synced : u.gptp.synced = false
  time : u.gptp.time = s.gptp.time
  mode : u.start.mode = s.start.mode
  left : u.start.left = s.start.left
  red : u.red = s.red
  straps : u.straps = s.straps

@[simp] theorem wakeWells_now (s : State) : (wakeWells s).now = s.now := now_of_view (P := allBut []) (wakeWells_view s rfl)
@[simp] theorem wakeWells_start (s : State) : (wakeWells s).start = s.start := start_of_allBut (wakeWells_view s rfl)
@[simp] theorem wakeWells_sleep (s : State) : (wakeWells s).sleep = s.sleep := sleep_of_allBut (wakeWells_view s rfl)
@[simp] theorem wakeWells_mem (s : State) : (wakeWells s).mem = s.mem := mem_of_allBut (wakeWells_view s rfl)
@[simp] theorem wakeWells_blocks (s : State) : (wakeWells s).blocks = s.blocks := blocks_of_allBut (wakeWells_view s rfl)
@[simp] theorem wakeWells_gptp (s : State) : (wakeWells s).gptp = s.gptp := gptp_of_allBut (wakeWells_view s rfl)
@[simp] theorem wakeWells_red (s : State) : (wakeWells s).red = s.red := red_of_allBut (wakeWells_view s rfl)

theorem wakeNow_woken (hmode : inMode .slumber s = true) (hwake : s.sleep.wakeAt = none) : Woken s (wakeNow s) := by
  unfold wakeNow
  rw [if_pos (by rw [hmode, hwake]; rfl)]
  constructor <;> simp only [refreshLeds_now, refreshLeds_sleep, refreshLeds_mem, refreshLeds_blocks, refreshLeds_gptp,
    refreshLeds_start, refreshLeds_red, refreshLeds_straps, wakeWells_now, wakeWells_sleep, wakeWells_mem, wakeWells_blocks,
    wakeWells_gptp, wakeWells_start, wakeWells_red, wakeWells_straps]

/-- Device time that no leader's beacon has corrected chooses the order of references alone. -/
theorem orderOf_congr (hstraps : u.straps = s.straps) (hmode : u.start.mode = s.start.mode) (hred : u.red.contact = s.red.contact) :
    orderOf u = orderOf s := by
  simp only [orderOf, inMode, role, lvlD, lvl, hstraps, hmode, hred]
  rfl

/-- A failed search wakes the device, which then starts with no reference but its own. -/
structure SearchFailed (s u : State) : Prop where
  now : u.now = s.now
  wakeAt : u.sleep.wakeAt = some s.now
  failed : u.sleep.searchFailed = true
  startLow : u.blocks.startLow = true
  selected : (∀ l, orderOf s ≠ .local :: l) → u.well.selected = none

theorem SearchFailed.congr {x : State} (h : SearchFailed s x) (hnow : u.now = x.now) (hsleep : u.sleep = x.sleep)
    (hblocks : u.blocks = x.blocks) (hwell : (∀ l, orderOf s ≠ .local :: l) → u.well = x.well) : SearchFailed s u where
  now := hnow.trans h.now
  wakeAt := (congrArg Sleep.wakeAt hsleep).trans h.wakeAt
  failed := (congrArg Sleep.searchFailed hsleep).trans h.failed
  startLow := (congrArg Blocks.startLow hblocks).trans h.startLow
  selected hl := (congrArg Wellspring.selected (hwell hl)).trans (h.selected hl)

theorem searchFails_failed (hmode : inMode .slumber s = true) (hwake : s.sleep.wakeAt = none) : SearchFailed s (searchFails s) := by
  have hw := wakeNow_woken hmode hwake
  have horder : orderOf (wakeNow s) = orderOf s := orderOf_congr hw.straps hw.mode (congrArg Redundancy.contact hw.red)
  unfold searchFails
  generalize wakeNow s = w at hw horder
  dsimp only
  generalize hx : ({ w with
    sleep := { w.sleep with searchFailed := true, missed := 0 }
    well := { w.well with atStart := true, selected := none, locked := false, refDeadline := some (w.now + 10 * sec1) }
    red := { w.red with wakeAnswer := if w.start.left == some .partner then some (w.now + 30 * ms1) else w.red.wakeAnswer } } : State) = x
  have hxorder : orderOf x = orderOf s := by rw [← horder, ← hx]; exact orderOf_congr rfl rfl rfl
  have hfailed : SearchFailed s x := by
    rw [← hx]
    exact ⟨hw.now, hw.wakeAt, rfl, hw.startLow, fun _ => rfl⟩
  have hasked {y : State} (hy : SearchFailed s y) : SearchFailed s (if w.start.left == some .partner then ask 7 0 y else y) := by
    split
    · exact hy.congr (now_of_view (P := allBut []) (ask_view y _ _ rfl)) (sleep_of_allBut (ask_view y _ _ rfl))
        (blocks_of_allBut (ask_view y _ _ rfl)) (fun _ => well_of_allBut (ask_view y _ _ rfl))
    · exact hy
  apply hasked
  split
  next l hl =>
    exact hfailed.congr (now_of_view (P := allBut []) (startSelect_view x _ rfl)) (sleep_of_allBut (startSelect_view x _ rfl))
      (blocks_of_allBut (startSelect_view x _ rfl)) (fun hlocal => absurd (hxorder.symm.trans hl) (hlocal _))
  next => exact hfailed

/-- Whose beacon counts: the lowest node heard of within 3 s. -/
theorem lowestLeader_cons_cons (n at_ x l) : lowestLeader ((n, at_) :: x :: l) = lowestLeader ((if x.1 < n then x.1 else n, at_) :: l) :=
  rfl

theorem lowestLeader_eq_of_le {l : List (BitVec 8 × Nat)} {n : BitVec 8} {at_ : Nat} (hl : ∀ x ∈ l, n ≤ x.1) :
    lowestLeader ((n, at_) :: l) = some n := by
  induction l with
  | nil => rfl
  | cons x l ih =>
    rw [lowestLeader_cons_cons, if_neg (BitVec.not_lt.mpr (hl x List.mem_cons_self))]
    exact ih fun y hy => hl y (List.mem_cons_of_mem _ hy)

theorem lowestLeader_le (l : List (BitVec 8 × Nat)) (n : BitVec 8) (at_ : Nat) :
    ∃ m, lowestLeader ((n, at_) :: l) = some m ∧ m ≤ n ∧ ∀ x ∈ l, m ≤ x.1 := by
  induction l generalizing n with
  | nil => exact ⟨n, rfl, BitVec.le_refl n, fun _ h => absurd h List.not_mem_nil⟩
  | cons x l ih =>
    obtain ⟨m, hm, hle, hall⟩ := ih (if x.1 < n then x.1 else n)
    have hboth : (if x.1 < n then x.1 else n) ≤ n ∧ (if x.1 < n then x.1 else n) ≤ x.1 := by
      split
      next h => exact ⟨BitVec.le_of_lt h, BitVec.le_refl _⟩
      next h => exact ⟨BitVec.le_refl _, BitVec.not_lt.mp h⟩
    exact ⟨m, hm, BitVec.le_trans hle hboth.1, List.forall_mem_cons.mpr ⟨BitVec.le_trans hle hboth.2, hall⟩⟩

theorem lowestLeader_ne_of_lt {l : List (BitVec 8 × Nat)} {n : BitVec 8} {at_ : Nat} {x : BitVec 8 × Nat} (hx : x ∈ l) (hlt : x.1 < n) :
    lowestLeader ((n, at_) :: l) ≠ some n := by
  obtain ⟨m, hm, -, hall⟩ := lowestLeader_le l n at_
  rw [hm]
  rintro ⟨⟩
  exact BitVec.not_lt.mpr (hall x hx) hlt

/-- The nodes heard of, the sender first. -/
def heardNow (n : BitVec 8) (v : State) : List (BitVec 8 × Nat) :=
  (n, v.now) :: v.status.heard.filter (fun x => x.1 != n && decide (v.now ≤ x.2 + 3 * sec1))

/-- The state after a beacon that counts. -/
def beaconTaken (n : BitVec 8) (stamp a b : Nat) (v : State) : State :=
  { v with
    status := { v.status with heard := heardNow n v, leaderNode := lowestLeader (heardNow n v) }
    gptp := { v.gptp with time := stamp % 2 ^ 64, frac := 0 }
    sleep := { v.sleep with beaconAt := stamp + 8 * sec1, missed := 0, got := true
                            window := some (stamp - (b - a) / 2, stamp + (b - a) / 2) } }

theorem Elapsed.mem_heardNow (h : Elapsed s t v) {n : BitVec 8} {x : BitVec 8 × Nat} :
    x ∈ heardNow n v ↔ x = (n, v.now) ∨ x ∈ s.status.heard ∧ x.1 ≠ n ∧ max s.now t ≤ x.2 + 3 * sec1 := by
  have hheard : v.status.heard = s.status.heard := (congrArg Status.heard h.status :)
  simp [heardNow, hheard, h.now]

section Received

variable {n : BitVec 8} {stamp a b : Nat} (hwindow : s.sleep.window = some (a, b)) (ha : a ≤ (s.upTo t).gptp.time)
  (hb : (s.upTo t).gptp.time ≤ b) (hhears : netHears (s.upTo t) = true)
include hwindow ha hb hhears

theorem execBeaconReceive_of_lowest (flag) (hlowest : lowestLeader (heardNow n (s.upTo t)) = some n) :
    execBeaconReceive t n stamp flag s
      = .next (if flag then wakeNow (beaconTaken n stamp a b (s.upTo t)) else beaconTaken n stamp a b (s.upTo t)) := by
  unfold execBeaconReceive
  dsimp only
  rw [State.upTo_sleep, hwindow]
  dsimp only
  rw [if_neg (by simp [Nat.not_lt.mpr ha, Nat.not_lt.mpr hb, hhears])]
  have hcounts : ¬ (lowestLeader (heardNow n (s.upTo t)) != some n) = true := by rw [hlowest]; simp
  exact if_neg hcounts

theorem beaconReceive_runs_other (flag) (hlower : ∃ x ∈ s.status.heard, x.1 < n ∧ max s.now t ≤ x.2 + 3 * sec1) :
    Runs (.beaconReceive t n stamp flag) s fun u => u.gptp = (s.upTo t).gptp ∧ u.sleep = s.sleep := by
  obtain ⟨v, hv, h⟩ := s.exists_upTo t
  rw [hv] at ha hb hhears
  obtain ⟨x, hx, hlt, hrecent⟩ := hlower
  have hne : lowestLeader (heardNow n v) ≠ some n := lowestLeader_ne_of_lt
    ((List.mem_cons.mp (h.mem_heardNow.mpr (.inr ⟨hx, BitVec.ne_of_lt hlt, hrecent⟩))).resolve_left
      fun heq => BitVec.ne_of_lt hlt (congrArg Prod.fst heq)) hlt
  rw [runs_iff]
  show Answers (execBeaconReceive t n stamp flag s) _
  unfold execBeaconReceive
  rw [hv]
  dsimp only
  rw [h.sleep, hwindow]
  dsimp only
  rw [if_neg (by simp [Nat.not_lt.mpr ha, Nat.not_lt.mpr hb, hhears])]
  have hcounts : (lowestLeader (heardNow n v) != some n) = true := by simp [hne]
  unfold heardNow at hcounts
  rw [if_pos hcounts]
  exact ⟨rfl, rfl⟩

variable (hlowest : ∀ x ∈ s.status.heard, n ≤ x.1 ∨ x.2 + 3 * sec1 < max s.now t)
include hlowest

theorem beaconReceive_exec (flag) : ∃ v, Elapsed s t v ∧ exec (.beaconReceive t n stamp flag) s
      = .next (if flag then wakeNow (beaconTaken n stamp a b v) else beaconTaken n stamp a b v)
    ∧ (beaconTaken n stamp a b v).status.leaderNode = some n := by
  obtain ⟨v, hv, h⟩ := s.exists_upTo t
  have hleads : lowestLeader (heardNow n v) = some n := lowestLeader_eq_of_le fun x hx => by
    rcases h.mem_heardNow.mp (List.mem_cons_of_mem _ hx) with heq | ⟨hmem, -, hrecent⟩
    · rw [heq]; exact BitVec.le_refl n
    · exact (hlowest x hmem).resolve_right (Nat.not_lt.mpr hrecent)
  refine ⟨v, h, ?_, hleads⟩
  rw [← hv] at hleads ⊢
  exact execBeaconReceive_of_lowest hwindow ha hb hhears flag hleads

theorem beaconReceive_runs_taken : Runs (.beaconReceive t n stamp false) s fun u =>
    u.gptp.time = stamp % 2 ^ 64 ∧ u.sleep.beaconAt = stamp + 8 * sec1 ∧ u.sleep.got = true ∧ u.sleep.missed = 0
      ∧ u.sleep.wakeAt = s.sleep.wakeAt ∧ u.status.leaderNode = some n := by
  obtain ⟨v, h, hexec, hleads⟩ := beaconReceive_exec hwindow ha hb hhears hlowest (stamp := stamp) false
  exact ⟨_, hexec, rfl, rfl, rfl, rfl, (congrArg Sleep.wakeAt h.sleep :), hleads⟩

theorem beaconReceive_runs_wakes (hmode : inMode .slumber s = true) (hwake : s.sleep.wakeAt = none) :
    Runs (.beaconReceive t n stamp true) s fun u =>
      u.gptp.time = stamp % 2 ^ 64 ∧ u.sleep.wakeAt = some (max s.now t) ∧ u.mem.selfRefresh = false := by
  obtain ⟨v, h, hexec, -⟩ := beaconReceive_exec hwindow ha hb hhears hlowest (stamp := stamp) true
  have hw := wakeNow_woken (s := beaconTaken n stamp a b v) ((h.inMode .slumber).trans hmode)
    ((congrArg Sleep.wakeAt h.sleep : v.sleep.wakeAt = _).trans hwake)
  exact ⟨_, hexec, hw.time, hw.wakeAt.trans (congrArg some h.now), hw.selfRefresh⟩

end Received

section WindowClose

variable {a b : Nat} (hwindow : s.sleep.window = some (a, b))
include hwindow

theorem beaconWindowClose_runs_got (hgot : s.sleep.got = true) : Runs .beaconWindowClose s fun u =>
    u.sleep.window = none ∧ u.sleep.missed = s.sleep.missed := by
  obtain ⟨v, hv, h⟩ := s.exists_upToDevice b
  rw [runs_iff]
  show Answers (execBeaconWindowClose s) _
  unfold execBeaconWindowClose
  rw [hwindow]
  dsimp only
  rw [hv, h.sleep, if_pos hgot]
  exact ⟨rfl, rfl⟩

theorem beaconWindowClose_runs_missed (hgot : s.sleep.got = false) (hmissed : s.sleep.missed < 5) : Runs .beaconWindowClose s fun u =>
    u.sleep.window = none ∧ u.sleep.missed = s.sleep.missed + 1 ∧ u.sleep.beaconAt = s.sleep.beaconAt + 8 * sec1 := by
  obtain ⟨v, hv, h⟩ := s.exists_upToDevice b
  rw [runs_iff]
  show Answers (execBeaconWindowClose s) _
  unfold execBeaconWindowClose
  rw [hwindow]
  dsimp only
  rw [hv, h.sleep, if_neg (by rw [hgot]; exact Bool.false_ne_true), if_neg (Nat.not_le.mpr hmissed)]
  exact ⟨rfl, rfl, rfl⟩

variable (hgot : s.sleep.got = false) (hmissed : 5 ≤ s.sleep.missed) (hmode : inMode .slumber s = true) (hwake : s.sleep.wakeAt = none)
include hgot hmissed hmode hwake

theorem beaconWindowClose_runs_failed : Runs .beaconWindowClose s fun u => u.sleep.searchFailed = true ∧ u.sleep.wakeAt = some u.now := by
  obtain ⟨v, hv, h⟩ := s.exists_upToDevice b
  have hf := searchFails_failed ((h.inMode .slumber).trans hmode) (by rw [h.sleep, hwake])
  rw [runs_iff]
  show Answers (execBeaconWindowClose s) _
  unfold execBeaconWindowClose
  rw [hwindow]
  dsimp only
  rw [hv, h.sleep, if_neg (by rw [hgot]; exact Bool.false_ne_true), if_pos hmissed]
  exact ⟨hf.failed, hf.wakeAt.trans (congrArg some hf.now.symm)⟩

theorem beaconSearchFailed_runs : Runs .beaconSearchFailed s fun u =>
    u.sleep.searchFailed = true ∧ u.sleep.wakeAt = some u.now ∧ u.blocks.startLow = true
      ∧ ((∀ l, orderOf s ≠ .local :: l) → u.well.selected = none) := by
  obtain ⟨v, hv, h⟩ := s.exists_upToDevice b
  have hf := searchFails_failed ((h.inMode .slumber).trans hmode) (by rw [h.sleep, hwake])
  have horder : orderOf v = orderOf s := orderOf_congr h.straps (congrArg StartUnit.mode h.start) (congrArg Redundancy.contact h.red)
  rw [runs_iff]
  show Answers (execBeaconSearchFailed s) _
  unfold execBeaconSearchFailed
  rw [hwindow]
  dsimp only
  rw [if_neg (by simp [hgot, Nat.not_lt.mpr hmissed]), hv]
  exact ⟨hf.failed, hf.wakeAt.trans (congrArg some hf.now.symm), hf.startLow, fun hl => hf.selected (by rwa [horder])⟩

end WindowClose

theorem partnerWakeAnswerTimeout_runs {d : Nat} (hd : s.red.wakeAnswer = some d) : Runs .partnerWakeAnswerTimeout s fun u =>
    u.red.wakeAnswer = none ∧ u.red.lastFrame = max s.now d ∧ u.red.lastSeen = max s.now d := by
  obtain ⟨v, hv, h⟩ := s.exists_upTo d
  rw [runs_iff]
  show Answers (execPartnerWakeAnswerTimeout s) _
  unfold execPartnerWakeAnswerTimeout
  rw [hd]
  dsimp only
  rw [hv]
  exact ⟨rfl, h.now, h.now⟩

theorem wakeEvent_runs (cause : WakeCause) (hmode : inMode .slumber s = true) (hwake : s.sleep.wakeAt = none) :
    Runs (.wakeEvent t cause) s fun u =>
      u.sleep.wakeAt = some (max s.now t) ∧ u.sleep.down = false ∧ u.mem.selfRefresh = false ∧ u.blocks.startLow = true
        ∧ u.gptp.synced = false := by
  obtain ⟨v, hv, h⟩ := s.exists_upTo t
  rw [runs_iff]
  show Answers (execWakeEvent t cause s) _
  unfold execWakeEvent
  rw [hv]
  dsimp only
  have wakes {w : State} (hstart : w.start = v.start) (hsleep : w.sleep = v.sleep) (hnow : w.now = v.now) :
      Answers (.next (wakeNow w)) fun u => u.sleep.wakeAt = some (max s.now t) ∧ u.sleep.down = false ∧ u.mem.selfRefresh = false
        ∧ u.blocks.startLow = true ∧ u.gptp.synced = false := by
    have hw := wakeNow_woken (s := w) (by rw [inMode, hstart, h.start]; exact hmode) (by rw [hsleep, h.sleep, hwake])
    exact ⟨by rw [hw.wakeAt, hnow, h.now], hw.down, hw.selfRefresh, hw.startLow, hw.synced⟩
  cases cause <;> exact wakes rfl rfl rfl

/-- Settles O33: the entry, the power-down, the beacons that count and those that do not, and every way to wake. -/
theorem slumberRuns : Obligations.SlumberRuns := by
  refine ⟨fun _ _ => slumberConditionsHeld_runs, fun _ _ hmode hdraining =>
    ⟨slumberPowerDown_runs_down hmode hdraining, slumberPowerDown_runs_waits⟩, fun _ => beaconWindowOpen_runs,
    fun s t n stamp a b hwindow ha hb hhears => ⟨fun hlowest => ⟨?_, ?_⟩, ?_⟩,
    fun _ _ _ hwindow => ⟨beaconWindowClose_runs_got hwindow, beaconWindowClose_runs_missed hwindow,
      beaconWindowClose_runs_failed hwindow⟩,
    fun _ _ _ hwindow hmissed hgot hmode hwake _ => beaconSearchFailed_runs hwindow hgot hmissed hmode hwake,
    fun _ _ => partnerWakeAnswerTimeout_runs, fun _ _ cause => wakeEvent_runs cause⟩
  · exact beaconReceive_runs_taken hwindow ha hb hhears hlowest
  · exact beaconReceive_runs_wakes hwindow ha hb hhears hlowest
  · exact beaconReceive_runs_other hwindow ha hb hhears

end Sys2Proof.Machine
end

/-! # The memories (O34, chapters 17 and 19)

Bring-up, the loft's load, retries, a suspend, and a bus's next transaction. -/

section
namespace Sys2Proof.Machine

open Sys2Proof


variable {s u v : State} {t : Nat}

/-! ### Bring-up (R403, R404, R409) -/

section FlashBringup

variable {tries : List FlashTry} (hawake : awake s = true) (hlatch : s.start.tLatch.isSome = true) (hup : s.mem.flashUp = false)
  (hthere : s.mem.flashAbsent = false)
include hawake hlatch hup hthere

theorem flashBringup_runs_fails {cause : Nat} (hcause : flashOutcome (tries.take 3) = .inl cause) :
    Runs (.flashBringup t tries) s fun u =>
      u.mem.flashAbsent = true ∧ u.mem.flashUp = false ∧ u.mem.flash = s.mem.flash ∧ u.mem.upAt = some (max s.now t) := by
  obtain ⟨v, hv, h⟩ := s.exists_upTo t
  rw [runs_iff]
  show Answers (execFlashBringup t tries s) _
  unfold execFlashBringup
  rw [hv]
  dsimp only
  rw [if_neg (by simp [h.awake, h.start, h.mem, hawake, Option.isSome_iff_ne_none.mp hlatch, hup, hthere]), hcause]
  exact ⟨rfl, by rw [← hup, ← h.mem]; rfl, by rw [← h.mem]; rfl, congrArg some h.now⟩

theorem flashBringup_runs_up {mib : Nat} (hmib : flashOutcome (tries.take 3) = .inr mib) :
    Runs (.flashBringup t tries) s fun u => u.mem.flashUp = true ∧ u.mem.flashMiB = mib ∧ u.mem.upAt = some (max s.now t) := by
  obtain ⟨v, hv, h⟩ := s.exists_upTo t
  rw [runs_iff]
  show Answers (execFlashBringup t tries s) _
  unfold execFlashBringup
  rw [hv]
  dsimp only
  rw [if_neg (by simp [h.awake, h.start, h.mem, hawake, Option.isSome_iff_ne_none.mp hlatch, hup, hthere]), hmib]
  dsimp only
  generalize hw : ({ v with mem := { v.mem with flashUp := true, flashMiB := mib, upAt := some v.now } } : State) = w
  have hmem : (scanService (scanPairs (scanReservations (scanLog w)))).mem = w.mem := by
    rw [mem_of_allBut (scanService_view _ rfl), mem_of_allBut (scanPairs_view _ rfl), mem_of_allBut (scanReservations_view _ rfl),
      mem_of_allBut (scanLog_view _ rfl)]
  rw [answers_next, hmem, ← hw]
  exact ⟨rfl, rfl, congrArg some h.now⟩

end FlashBringup

/-! ### The loft's load (R405) -/

theorem loftLoad_runs_start (second) (hawake : awake s = true) (hmode : s.start.mode = none) (himage : s.start.imageDone = true)
    (hloft : s.start.loftDone = false) : Runs (.loftLoad t (true, second)) s fun u => u.start.loftDone = true := by
  obtain ⟨v, hv, h⟩ := s.exists_upTo t
  rw [runs_iff]
  show Answers (execLoftLoad t (true, second) s) _
  unfold execLoftLoad
  rw [hv]
  dsimp only
  rw [if_neg (by simp [inMode, h.start, hmode]), if_neg (by simp [h.awake, h.start, hawake, hmode, himage, hloft]),
    if_pos (by simp [loftGood])]
  exact rfl

theorem modelBytes_congr (hgran : u.gran = s.gran) (hmem : u.mem = s.mem) : modelBytes u = modelBytes s := by
  simp only [modelBytes, flashBytes, hgran, hmem]

theorem loadLoft_mem_congr (hgran : u.gran = s.gran) (hmem : u.mem = s.mem) : (loadLoft u).mem = (loadLoft s).mem := by
  unfold loadLoft
  rw [modelBytes_congr hgran hmem]
  split <;> simp only [hmem]

theorem loftLoad_runs_wake {w : Nat} (second) (hmode : inMode .slumber s = true) (hwake : s.sleep.wakeAt = some w) :
    Runs (.loftLoad t (true, second)) s fun u =>
      u.sleep.loftBack = true ∧ u.mem.selfRefresh = false ∧ u.mem.loft = (loadLoft s).mem.loft ∧ u.start = s.start := by
  obtain ⟨v, hv, h⟩ := s.exists_upTo t
  have hstart : (loadLoft v).start = v.start := start_of_allBut (loadLoft_view v rfl)
  rw [runs_iff]
  show Answers (execLoftLoad t (true, second) s) _
  unfold execLoftLoad
  rw [hv]
  dsimp only
  rw [if_pos (by simp [h.inMode, hmode, h.sleep, hwake]), if_pos (by simp [loftGood])]
  exact ⟨rfl, rfl, (congrArg Memories.loft (loadLoft_mem_congr h.gran h.mem) :), hstart.trans h.start⟩

/-! ### The Silo's bring-up and retries (R406, R410, R411) -/

theorem setupSilo_psramMiB (s : State) : (setupSilo s).mem.psramMiB = s.mem.psramMiB := by
  unfold setupSilo
  dsimp only
theorem setupSilo_flash (s : State) : (setupSilo s).mem.flash = s.mem.flash := flash_of_allBut (setupSilo_view s rfl)

theorem psramBringup_runs {tries : List PsramTry} {x : PsramTry} (hawake : awake s = true) (hmode : s.start.mode = none)
    (hloft : s.start.loftDone = true) (hpsram : s.start.psramDone = false)
    (hx : (tries.take 3).find? (fun y => (psramFails y).isNone) = some x) : Runs (.psramBringup t tries) s fun u =>
      u.start.psramDone = true ∧ u.mem.psramMiB = psramSize x.mib ∧ u.mem.flash = s.mem.flash := by
  obtain ⟨v, hv, h⟩ := s.exists_upTo t
  rw [runs_iff]
  show Answers (execPsramBringup t tries s) _
  unfold execPsramBringup
  rw [hv]
  dsimp only
  rw [if_neg (by simp [h.awake, h.start, hawake, hmode, hloft, hpsram]), hx, h.mem]
  dsimp only
  exact ⟨rfl, setupSilo_psramMiB _, setupSilo_flash _⟩

section FlashReadTimeout

variable {addr : Nat} (hready : flashReady s = true)
include hready

theorem flashReadTimeout_runs_retry (hretries : s.mem.readRetries < 3) : Runs (.flashReadTimeout t addr) s fun u =>
    u.mem.readRetries = s.mem.readRetries + 1 ∧ u.mem.flashUp = true := by
  obtain ⟨v, hv, h⟩ := s.exists_upTo t
  rw [runs_iff]
  show Answers (execFlashReadTimeout t addr s) _
  unfold execFlashReadTimeout
  rw [hv]
  dsimp only
  have hup : s.mem.flashUp = true := (Bool.and_eq_true_iff.mp hready).1
  rw [if_neg (by rw [flashReady, h.mem]; simpa [flashReady] using hready), h.mem, if_pos hretries]
  exact ⟨rfl, hup⟩

theorem flashReadTimeout_runs_lost (hretries : 3 ≤ s.mem.readRetries) : Runs (.flashReadTimeout t addr) s fun u =>
    u.mem.flashAbsent = true ∧ u.mem.flashUp = false ∧ u.mem.op = none ∧ u.mem.flash = s.mem.flash := by
  obtain ⟨v, hv, h⟩ := s.exists_upTo t
  rw [runs_iff]
  show Answers (execFlashReadTimeout t addr s) _
  unfold execFlashReadTimeout
  rw [hv]
  dsimp only
  rw [if_neg (by rw [flashReady, h.mem]; simpa [flashReady] using hready), h.mem, if_neg (Nat.not_lt.mpr hretries)]
  unfold loseFlash
  rw [answers_next, mem_of_allBut (failWrite_view _ rfl)]
  exact ⟨rfl, rfl, rfl, by rw [← h.mem]; rfl⟩

end FlashReadTimeout

theorem flashSuspendRead_runs (hop : s.mem.op.isSome = true) : Runs (.flashSuspendRead t) s fun u =>
    u.mem.resumedAt = some u.now ∧ u.mem.op = s.mem.op ∧ (∀ r, s.mem.resumedAt = some r → r + ms1 ≤ u.now) := by
  obtain ⟨v, hv, h⟩ := s.exists_upTo t
  rw [runs_iff]
  show Answers (execFlashSuspendRead t s) _
  unfold execFlashSuspendRead
  rw [hv]
  dsimp only
  rw [if_neg (by simp [h.mem, Option.isSome_iff_ne_none.mp hop]), h.mem]
  cases hresumed : s.mem.resumedAt with
  | none => exact ⟨rfl, (congrArg Memories.op h.mem :), nofun⟩
  | some r =>
    obtain ⟨w, hw, h'⟩ := v.exists_upTo (r + ms1)
    dsimp only
    rw [hw]
    refine ⟨rfl, (congrArg Memories.op (h'.mem.trans h.mem) :), fun q hq => ?_⟩
    cases hq
    show r + ms1 ≤ w.now
    rw [h'.now]
    exact Nat.le_max_right ..

section SiloTimeout

variable {addr : Nat} (hawake : awake s = true) (hpsram : s.start.psramDone = true)
include hawake hpsram

theorem siloTransactionTimeout_runs_retry (hretry : s.mem.siloRetry = false) : Runs (.siloTransactionTimeout t addr) s fun u =>
    u.mem.siloRetry = true ∧ u.start = s.start := by
  obtain ⟨v, hv, h⟩ := s.exists_upTo t
  rw [runs_iff]
  show Answers (execSiloTransactionTimeout t addr s) _
  unfold execSiloTransactionTimeout
  rw [hv]
  dsimp only
  rw [if_neg (by simp [h.awake, h.start, hawake, hpsram]), if_pos (by simp [h.mem, hretry])]
  exact ⟨rfl, h.start⟩

theorem siloTransactionTimeout_runs_reset (hretry : s.mem.siloRetry = true) : Runs (.siloTransactionTimeout t addr) s fun u =>
    u.start.phase = .held ∧ u.start.cause = .watchdog ∧ u.mem.psram = s.mem.psram := by
  obtain ⟨v, hv, h⟩ := s.exists_upTo t
  rw [runs_iff]
  show Answers (execSiloTransactionTimeout t addr s) _
  unfold execSiloTransactionTimeout
  rw [hv]
  dsimp only
  rw [if_neg (by simp [h.awake, h.start, hawake, hpsram]), if_neg (by simp [h.mem, hretry])]
  exact ⟨rfl, rfl, (psram_of_allBut (watchdogReset_view v _ _ rfl (by decide))).trans (congrArg Memories.psram h.mem)⟩

end SiloTimeout

theorem busTransactionComplete_runs (asked : List BusAsk) : Runs (.busTransactionComplete t true asked) s fun u =>
    u.mem.siloRetry = false ∧ u.mem.readRetries = s.mem.readRetries ∧ u.mem.psram = s.mem.psram := by
  obtain ⟨v, hv, h⟩ := s.exists_upTo t
  rw [runs_iff]
  show Answers (execBusTransactionComplete t true asked s) _
  unfold execBusTransactionComplete
  rw [hv]
  exact ⟨rfl, (congrArg Memories.readRetries h.mem :), (congrArg Memories.psram h.mem :)⟩

/-- Settles O34: the bring-ups that succeed and that fail, and each count of retries on either side of its limit. -/
theorem memoriesRun : Obligations.MemoriesRun := by
  refine ⟨fun _ _ _ hawake hlatch hup hthere => ⟨fun _ => flashBringup_runs_fails hawake hlatch hup hthere,
      fun _ => flashBringup_runs_up hawake hlatch hup hthere⟩,
    fun _ _ second => loftLoad_runs_start second, fun _ _ _ second => loftLoad_runs_wake second, fun _ _ _ _ => psramBringup_runs,
    fun _ _ _ hready => ⟨flashReadTimeout_runs_retry hready, flashReadTimeout_runs_lost hready⟩, fun _ _ => flashSuspendRead_runs,
    fun _ _ _ hawake hpsram => ⟨siloTransactionTimeout_runs_retry hawake hpsram, siloTransactionTimeout_runs_reset hawake hpsram⟩,
    fun _ _ asked => busTransactionComplete_runs asked⟩

end Sys2Proof.Machine
end

/-! # The DMA engine (O35, chapter 19)

Register sets, marks and shadow writes, by what the channel's place holds. -/

section
namespace Sys2Proof.Machine

open Sys2Proof


variable {s u v : State} {t : Nat}

/-- A vector's places, for indices that are numbers of `Fin`. -/
theorem get_set_fin_self {α : Type} {n : Nat} (x : Vector α n) (i : Fin n) (a : α) : (x.set i a)[i] = a :=
  Vector.getElem_set_self ..
theorem get_set_fin_ne {α : Type} {n : Nat} (x : Vector α n) {i k : Fin n} (a : α) (h : k ≠ i) : (x.set i a)[k] = x[k] :=
  Vector.getElem_set_ne _ _ (fun heq => h (Fin.ext heq.symm))

section Complete

variable {ch : Fin 16} (hvalid : s.mem.dma[ch].active.valid = true)
include hvalid

theorem dmaRegisterSetComplete_runs_tabled (hkind : s.mem.dma[ch].active.kind ≠ 0) : Runs (.dmaRegisterSetComplete t ch) s fun u =>
    u.mem.dma[ch] = dmaComplete (s.upTo t) s.mem.dma[ch] ∧ u.mem.sram = s.mem.sram
      ∧ (∀ k : Fin 16, k ≠ ch → u.mem.dma[k] = s.mem.dma[k]) := by
  obtain ⟨v, hv, h⟩ := s.exists_upTo t
  rw [runs_iff]
  show Answers (execDmaRegisterSetComplete t ch s) _
  unfold execDmaRegisterSetComplete
  rw [hv]
  dsimp only
  rw [h.mem, if_neg (by rw [hvalid]; decide), if_neg hkind]
  dsimp only
  rw [if_neg hkind]
  exact ⟨get_set_fin_self .., (congrArg Memories.sram h.mem :), fun k hk => by
    rw [← h.mem]; exact get_set_fin_ne _ _ hk⟩

theorem dmaRegisterSetComplete_runs_single (hkind : s.mem.dma[ch].active.kind = 0)
    (hplaced : badAddress (s.upTo t) s.mem.dma[ch].active = none) (hshadow : s.mem.dma[ch].shadow.valid = false) :
    Runs (.dmaRegisterSetComplete t ch) s fun u =>
      u.mem.dma[ch].active.valid = false ∧ u.mem.dma[ch].active.count = s.mem.dma[ch].active.count + 1 := by
  obtain ⟨v, hv, h⟩ := s.exists_upTo t
  rw [hv] at hplaced
  rw [runs_iff]
  show Answers (execDmaRegisterSetComplete t ch s) _
  unfold execDmaRegisterSetComplete
  rw [hv]
  dsimp only
  rw [h.mem, if_neg (by rw [hvalid]; decide), if_pos hkind, hplaced]
  dsimp only
  rw [answers_next]
  dsimp only
  rw [get_set_fin_self]
  unfold dmaComplete
  rw [if_neg (by rw [hshadow]; exact Bool.false_ne_true), hkind]
  exact ⟨rfl, rfl⟩

theorem dmaRegisterSetComplete_faults {a : Nat} (hkind : s.mem.dma[ch].active.kind = 0)
    (hbad : badAddress (s.upTo t) s.mem.dma[ch].active = some a) : exec (.dmaRegisterSetComplete t ch) s = .fault (.dmaAddress a) := by
  obtain ⟨v, hv, h⟩ := s.exists_upTo t
  rw [hv] at hbad
  show execDmaRegisterSetComplete t ch s = _
  unfold execDmaRegisterSetComplete
  rw [hv]
  dsimp only
  rw [h.mem, if_neg (by rw [hvalid]; decide), if_pos hkind, hbad]

end Complete

theorem dmaPaceMark_runs {ch : Fin 16} (fill : Nat) (hpaced : s.mem.dma[ch].active.paced = true) (hfill : s.mem.dma[ch].active.fill = true) :
    Runs (.dmaPaceMark t ch fill) s fun u =>
      (s.mem.dma[ch].active.stopMark ≤ fill → u.mem.dma[ch].moving = false)
        ∧ (fill < s.mem.dma[ch].active.stopMark → fill ≤ s.mem.dma[ch].active.startMark → u.mem.dma[ch].moving = true)
        ∧ u.mem.dma[ch].active = s.mem.dma[ch].active := by
  obtain ⟨v, hv, h⟩ := s.exists_upTo t
  rw [runs_iff]
  show Answers (execDmaPaceMark t ch fill s) _
  unfold execDmaPaceMark
  rw [hv]
  dsimp only
  rw [h.mem, if_neg (by rw [hpaced]; decide), if_pos hfill, answers_next]
  dsimp only
  rw [get_set_fin_self]
  exact ⟨fun hstop => if_pos hstop, fun hbelow hstart => (if_neg (Nat.not_le.mpr hbelow)).trans (if_pos hstart), rfl⟩

section ShadowWrite

variable {ch : Fin 16} (set : List Byte) (hkind : channelKind ch = 0)
include hkind

theorem dmaShadowWrite_runs_stalls (hshadow : s.mem.dma[ch].shadow.valid = true) : Runs (.dmaShadowWrite t ch set false) s fun u =>
    u.mem.dma[ch].shadow = s.mem.dma[ch].shadow
      ∧ u.mem.dma[ch].stalled = some { regOf (padTo 32 0#8 set) with valid := true } := by
  obtain ⟨v, hv, h⟩ := s.exists_upTo t
  rw [runs_iff]
  show Answers (execDmaShadowWrite t ch set false s) _
  unfold execDmaShadowWrite
  rw [hv]
  dsimp only
  rw [h.mem, if_neg (by rw [hkind]; decide), if_pos hshadow, answers_next]
  dsimp only
  rw [get_set_fin_self]
  exact ⟨rfl, rfl⟩

theorem dmaShadowWrite_runs_written (hvalid : s.mem.dma[ch].active.valid = true) (hshadow : s.mem.dma[ch].shadow.valid = false) :
    Runs (.dmaShadowWrite t ch set false) s fun u =>
      u.mem.dma[ch].shadow = { regOf (padTo 32 0#8 set) with valid := true } ∧ u.mem.dma[ch].active = s.mem.dma[ch].active := by
  obtain ⟨v, hv, h⟩ := s.exists_upTo t
  rw [runs_iff]
  show Answers (execDmaShadowWrite t ch set false s) _
  unfold execDmaShadowWrite
  rw [hv]
  dsimp only
  rw [h.mem, if_neg (by rw [hkind]; decide), if_neg (by rw [hshadow]; exact Bool.false_ne_true), answers_next]
  dsimp only
  rw [get_set_fin_self, if_pos (by rw [hvalid]; rfl)]
  exact ⟨rfl, rfl⟩

end ShadowWrite

/-- Settles O35: what the channel's own place holds after each command. -/
theorem dmaRuns : Obligations.DmaRuns :=
  ⟨fun _ _ _ hvalid => dmaRegisterSetComplete_runs_tabled hvalid, fun _ _ _ hvalid => dmaRegisterSetComplete_runs_single hvalid,
    fun _ _ _ _ hvalid => dmaRegisterSetComplete_faults hvalid, fun _ _ _ => dmaPaceMark_runs,
    fun _ _ _ set hkind hvalid => ⟨dmaShadowWrite_runs_stalls set hkind, dmaShadowWrite_runs_written set hkind hvalid⟩⟩

end Sys2Proof.Machine
end

/-! # gPTP messages sent, and their timeouts (O36, chapter 8)

What each message leaves of its port and of the election. -/

section
namespace Sys2Proof.Machine

open Sys2Proof


variable {s u v : State} {t : Nat} {i : Fin 2}

theorem Elapsed.gptpRuns (h : Elapsed s t v) : Machine.gptpRuns v = Machine.gptpRuns s := by
  simp only [Machine.gptpRuns, h.powered, h.inMode, h.sleep]

theorem Elapsed.portHears (h : Elapsed s t v) : Machine.portHears v i = Machine.portHears s i := by
  have hup : v.ports[i].up = s.ports[i].up := (congrArg Port.up (h.ports i).1 :)
  have hphy : v.ports[i].phy = s.ports[i].phy := (congrArg Port.phy (h.ports i).1 :)
  simp only [Machine.portHears, hup, hphy]

/-! ### Ports -/

/-- A frame put into a port changes its queues alone. -/
theorem Port.putOwn_queues (f : NetFrame) (p : Port) :
    ∃ g a b w, p.putOwn f = { p with gptpQ := g, classA := a, best := b, wait := w } := by
  unfold Port.putOwn
  split
  · unfold Port.put
    split
    · exact ⟨p.gptpQ, p.classA, p.best, p.wait, rfl⟩
    · split
      · exact ⟨_, p.classA, p.best, p.wait, rfl⟩
      · split
        · exact ⟨p.gptpQ, _, p.best, p.wait, rfl⟩
        · exact ⟨p.gptpQ, p.classA, _, p.wait, rfl⟩
  · exact ⟨p.gptpQ, p.classA, p.best, _, rfl⟩

theorem Port.putOwn_syncAt (f) (p : Port) : (p.putOwn f).syncAt = p.syncAt := by
  obtain ⟨g, a, b, w, h⟩ := p.putOwn_queues f
  rw [h]
theorem Port.putOwn_announceAt (f) (p : Port) : (p.putOwn f).announceAt = p.announceAt := by
  obtain ⟨g, a, b, w, h⟩ := p.putOwn_queues f
  rw [h]
theorem Port.putOwn_pdelaySeq (f) (p : Port) : (p.putOwn f).pdelaySeq = p.pdelaySeq := by
  obtain ⟨g, a, b, w, h⟩ := p.putOwn_queues f
  rw [h]
theorem Port.putOwn_pdelaySent (f) (p : Port) : (p.putOwn f).pdelaySent = p.pdelaySent := by
  obtain ⟨g, a, b, w, h⟩ := p.putOwn_queues f
  rw [h]
theorem Port.putOwn_pdelayAt (f) (p : Port) : (p.putOwn f).pdelayAt = p.pdelayAt := by
  obtain ⟨g, a, b, w, h⟩ := p.putOwn_queues f
  rw [h]

theorem sendPort_port (f : NetFrame) (s : State) : (sendPort i f s).ports[i] = s.ports[i].putOwn f := get_set_fin_self ..

/-- A port's part in the election: its link, its capability and the announce it has taken. -/
structure Port.Stands (p q : Port) : Prop where
  up : q.up = p.up
  asCapable : q.asCapable = p.asCapable
  best1 : q.best1 = p.best1

theorem Port.Stands.offered {p q : Port} (h : p.Stands q) : Machine.offered q = Machine.offered p := by
  simp only [Machine.offered, h.up, h.asCapable, h.best1]

/-- A port set to one that stands as it did leaves the election as it is. -/
theorem masterPort_set {p : Port} (h : s.ports[i].Stands p) (hu : { s with ports := s.ports.set i p } = u) :
    masterPort u i = masterPort s i := by
  have hports (k : Fin 2) : offered u.ports[k] = offered s.ports[k] := by
    rw [← hu]
    show offered (s.ports.set i p)[k] = _
    by_cases hk : k = i
    · rw [hk, get_set_fin_self, h.offered]
    · rw [get_set_fin_ne _ _ hk]
  have hself : u.ports[i] = p := by rw [← hu]; exact get_set_fin_self ..
  have hbest : bestHeard u = bestHeard s := by
    have h0 : offered u.ports[0] = offered s.ports[0] := hports 0
    have h1 : offered u.ports[1] = offered s.ports[1] := hports 1
    unfold bestHeard
    rw [h0, h1]
  have hroot : rootVector u = rootVector s := by
    unfold rootVector
    rw [hbest, ← hu]
    rfl
  unfold masterPort
  rw [hroot, hports i, hself, h.up, h.asCapable, ← hu]

/-! ### Messages sent (R171, R172) -/

theorem syncSend_runs {d : Nat} (hd : s.ports[i].syncAt = some d) (hruns : gptpRuns s = true) (hmaster : masterPort (s.upTo d) i = true)
    (hgm : s.gptp.grandmaster = true) : Runs (.syncSend i) s fun u =>
      u.ports[i].syncAt = some (d + 125 * ms1) ∧ u.gptp.syncSeq = s.gptp.syncSeq + 1 ∧ u.now = max s.now d := by
  obtain ⟨v, hv, h⟩ := s.exists_upTo d
  rw [hv] at hmaster
  rw [runs_iff]
  show Answers (execSyncSend i s) _
  unfold execSyncSend
  rw [hd]
  dsimp only
  rw [hv]
  rw [if_pos (by exact Bool.and_eq_true_iff.mpr ⟨Bool.and_eq_true_iff.mpr ⟨h.gptpRuns.trans hruns, (masterPort_set (by exact ⟨rfl, rfl, rfl⟩) rfl).trans hmaster⟩,
    Bool.or_eq_true_iff.mpr (.inl ((congrArg Gptp.grandmaster h.gptp).trans hgm))⟩), answers_next, sendPort_port, Port.putOwn_syncAt]
  exact ⟨congrArg Port.syncAt (get_set_fin_self ..), congrArg (·.syncSeq + 1) h.gptp, h.now⟩

theorem announceSend_runs {d : Nat} (hd : s.ports[i].announceAt = some d) (hruns : gptpRuns s = true) (hmaster : masterPort (s.upTo d) i = true) :
    Runs (.announceSend i) s fun u => u.ports[i].announceAt = some (d + sec1) ∧ u.gptp.annSeq = s.gptp.annSeq + 1 := by
  obtain ⟨v, hv, h⟩ := s.exists_upTo d
  rw [hv] at hmaster
  rw [runs_iff]
  show Answers (execAnnounceSend i s) _
  unfold execAnnounceSend
  rw [hd]
  dsimp only
  rw [hv]
  rw [if_pos (by exact Bool.and_eq_true_iff.mpr ⟨h.gptpRuns.trans hruns, (masterPort_set (by exact ⟨rfl, rfl, rfl⟩) rfl).trans hmaster⟩),
    answers_next, sendPort_port, Port.putOwn_announceAt]
  exact ⟨congrArg Port.announceAt (get_set_fin_self ..), congrArg (·.annSeq + 1) h.gptp⟩

theorem pdelayRequestSend_runs {d : Nat} (hd : s.ports[i].pdelayAt = some d) (hruns : gptpRuns s = true) (hup : s.ports[i].up = true) :
    Runs (.pdelayRequestSend i) s fun u =>
      u.ports[i].pdelaySeq = s.ports[i].pdelaySeq + 1 ∧ u.ports[i].pdelaySent = none
        ∧ u.ports[i].pdelayAt = some (d + (if s.ports[i].pdelayDone < 15 then 125 * ms1 else sec1)) := by
  obtain ⟨v, hv, h⟩ := s.exists_upTo d
  have hup' : v.ports[i].up = s.ports[i].up := (congrArg Port.up (h.ports i).1 :)
  have hseq : v.ports[i].pdelaySeq = s.ports[i].pdelaySeq := (congrArg Port.pdelaySeq (h.ports i).1 :)
  have hdone : v.ports[i].pdelayDone = s.ports[i].pdelayDone := (congrArg Port.pdelayDone (h.ports i).1 :)
  rw [runs_iff]
  show Answers (execPdelayRequestSend i s) _
  unfold execPdelayRequestSend
  rw [hd]
  dsimp only
  rw [hv, if_neg (by rw [h.gptpRuns, hruns, hup', hup]; decide), answers_next, sendPort_port]
  rw [Port.putOwn_pdelaySeq, Port.putOwn_pdelaySent, Port.putOwn_pdelayAt]
  dsimp only
  rw [get_set_fin_self, hseq, hdone]
  exact ⟨rfl, rfl, rfl⟩

theorem pdelayRequestReceive_runs (seq : BitVec 16) (hruns : gptpRuns s = true) (hhears : portHears s i = true)
    (hrunning : sysStopped s = false) : Runs (.pdelayRequestReceive t i seq) s fun u =>
      u = sendPort i (gptpFrame s (.pdelayResp seq (s.upTo t).gptp.time (s.upTo t).gptp.time)) (s.upTo t) := by
  obtain ⟨v, hv, h⟩ := s.exists_upTo t
  refine ⟨_, rfl, ?_⟩
  rw [hv]
  unfold gptpIn crossIn
  rw [if_pos (by rw [h.gptpRuns, hruns, h.portHears, hhears]; rfl), if_neg (by rw [h.sysStopped, hrunning]; exact Bool.false_ne_true)]
  simp only [gptpFrame, h.eui48]

/-- A frame a port starts to send in SLUMBER or out of it carries the instant at which it starts (R172). -/
theorem Port.begin_stamps (p : Port) (f : NetFrame) (q : BitVec 16) (r time : Nat) (a : Bool) (hasleep : p.asleep = false) (hphy : p.phy = true) :
    (f.body = .gptp (.pdelayReq q) → (p.begin_ time f a).pdelaySent = some time)
      ∧ (f.body = .gptp (.sync q r) → (p.begin_ time f a).wire = some { f with body := .gptp (.sync q time) })
      ∧ (∀ r', f.body = .gptp (.pdelayResp q r r') →
          (p.begin_ time f a).wire = some { f with body := .gptp (.pdelayResp q r time) }) := by
  have htakes : p.takes time f = true := by rw [Port.takes, hasleep]; rfl
  unfold Port.begin_
  rw [htakes, hphy, if_neg (by decide), if_pos rfl]
  refine ⟨fun hbody => ?_, fun hbody => ?_, fun r' hbody => ?_⟩
  · rw [hbody]
  · unfold stampedFrame
    rw [hbody]
    rfl
  · unfold stampedFrame
    rw [hbody]
    rfl

/-! ### Timeouts (R171, R174) -/

theorem announceReceiptTimeout_runs {d : Nat} (hd : s.ports[i].annDeadline = some d) : Runs (.announceReceiptTimeout i) s fun u =>
    u.ports[i].best1 = none ∧ u.ports[i].annDeadline = none ∧ u.now = max s.now d := by
  obtain ⟨v, hv, h⟩ := s.exists_upTo d
  rw [runs_iff]
  show Answers (execAnnounceReceiptTimeout i s) _
  unfold execAnnounceReceiptTimeout forgetMaster
  rw [hd]
  dsimp only
  rw [hv, answers_next, ports_of_allBut (runBmca_view _ rfl), now_of_view (P := allBut []) (runBmca_view _ rfl)]
  dsimp only
  rw [get_set_fin_self]
  exact ⟨rfl, rfl, h.now⟩

/-- The port the election takes is one that offers a vector. -/
theorem bestHeard_offered {x : GmVector} (hx : bestHeard s = some (x, i)) : (offered s.ports[i]).isSome = true := by
  unfold bestHeard at hx
  split at hx
  next a b ha hb =>
    split at hx <;> cases hx
    · exact (congrArg Option.isSome hb :)
    · exact (congrArg Option.isSome ha :)
  next a ha hb => cases hx; exact (congrArg Option.isSome ha :)
  next b ha hb => cases hx; exact (congrArg Option.isSome hb :)
  next => cases hx

theorem runBmca_slavePort_ne (hbest : s.ports[i].best1 = none) : (runBmca s).gptp.slavePort ≠ some i := by
  have hnone : offered s.ports[i] = none := by rw [offered, hbest]
  unfold runBmca
  extract_lets own g wins
  by_cases hwins : wins = true
  · rw [if_pos hwins, gptp_of_allBut (endSearch_view _ rfl), clearAll_gptp]
    exact nofun
  · rw [if_neg hwins]
    intro hport
    obtain ⟨⟨x, k⟩, hx, rfl⟩ := Option.map_eq_some_iff.mp hport
    have := bestHeard_offered hx
    rw [hnone] at this
    exact Bool.false_ne_true this

theorem syncReceiptTimeout_runs (hi : s.gptp.slavePort = some i) : Runs .syncReceiptTimeout s fun u =>
    u.ports[i].best1 = none ∧ u.gptp.slavePort ≠ some i
      ∧ u.now = max s.now (max s.gptp.slaveFrom (s.gptp.lastSync.getD 0) + 375 * ms1) := by
  obtain ⟨v, hv, h⟩ := s.exists_upTo (max s.gptp.slaveFrom (s.gptp.lastSync.getD 0) + 375 * ms1)
  rw [runs_iff]
  show Answers (execSyncReceiptTimeout s) _
  unfold execSyncReceiptTimeout forgetMaster
  rw [hi]
  dsimp only
  rw [hv, answers_next, ports_of_allBut (runBmca_view _ rfl), now_of_view (P := allBut []) (runBmca_view _ rfl)]
  refine ⟨?_, runBmca_slavePort_ne ?_, h.now⟩ <;> exact congrArg Port.best1 (get_set_fin_self ..)

/-- The election leaves the own vector's priority as it is. -/
theorem runBmca_priority (s : State) : (runBmca s).gptp.prioHeld = s.gptp.prioHeld ∧ (runBmca s).gptp.priority255 = s.gptp.priority255 := by
  unfold runBmca
  extract_lets own g wins
  by_cases hwins : wins = true
  · rw [if_pos hwins, gptp_of_allBut (endSearch_view _ rfl), clearAll_gptp]
    exact ⟨rfl, rfl⟩
  · rw [if_neg hwins]
    exact ⟨rfl, rfl⟩

theorem priorityHoldExpiry_runs {d : Nat} (hd : s.gptp.priority255 = some d) : Runs .priorityHoldExpiry s fun u =>
    u.gptp.prioHeld = false ∧ u.gptp.priority255 = none ∧ u.now = max s.now d := by
  obtain ⟨v, hv, h⟩ := s.exists_upTo d
  rw [runs_iff]
  show Answers (execPriorityHoldExpiry s) _
  unfold execPriorityHoldExpiry
  rw [hd]
  dsimp only
  rw [hv, answers_next, now_of_view (P := allBut []) (runBmca_view _ rfl), (runBmca_priority _).1, (runBmca_priority _).2]
  exact ⟨rfl, rfl, h.now⟩

theorem gptpSyncHoldExpiry_runs {l : Nat} (hl : s.gptp.holdFrom = some l) (hsynced : s.gptp.synced = true)
    (hgm : s.gptp.grandmaster = false) : Runs .gptpSyncHoldExpiry s fun u =>
      u.gptp.synced = false ∧ u.gptp.good = 0 ∧ u.now = max s.now (l + 3 * sec1) := by
  obtain ⟨v, hv, h⟩ := s.exists_upTo (l + 3 * sec1)
  rw [runs_iff]
  show Answers (execGptpSyncHoldExpiry s) _
  unfold execGptpSyncHoldExpiry loseSync
  rw [hl]
  dsimp only
  rw [if_pos (by rw [hsynced, hgm]; rfl), hv, answers_next, gptp_of_allBut (loseRef_view _ _ _ rfl),
    now_of_view (P := allBut []) (loseRef_view _ _ _ rfl)]
  exact ⟨rfl, rfl, h.now⟩

/-- Settles O36: each message at the state time has come to, where the port stands as before. -/
theorem gptpSendsRun : Obligations.GptpSendsRun :=
  ⟨fun _ _ _ => syncSend_runs, fun _ _ _ => announceSend_runs, fun _ _ _ => announceReceiptTimeout_runs,
    fun _ _ => syncReceiptTimeout_runs, fun _ _ _ => pdelayRequestSend_runs, fun _ _ _ seq => pdelayRequestReceive_runs seq,
    fun _ _ => priorityHoldExpiry_runs, fun p f q r time a => Port.begin_stamps p f q r time a, fun _ _ => gptpSyncHoldExpiry_runs⟩

end Sys2Proof.Machine
end

/-! # gPTP messages received (O37, chapter 8)

Sync, announce and path delay, at a port that hears. -/

section
namespace Sys2Proof.Machine

open Sys2Proof


variable {s u v : State} {t : Nat} {i : Fin 2}

/-! ### Sync (R173, R174) -/

/-- A Sync counted leaves time and rate as they are, and is the last one. -/
structure Counted (left : Int) (s u : State) : Prop where
  time : u.gptp.time = s.gptp.time
  rate : u.gptp.rate = s.gptp.rate
  rateGoal : u.gptp.rateGoal = s.gptp.rateGoal
  firstSet : u.gptp.firstSet = s.gptp.firstSet
  lastSync : u.gptp.lastSync = some s.now
  good : 1000 < left.natAbs → u.gptp.good = 0
  due : u.blocks.due = s.blocks.due

theorem countSync_counted (left : Int) (s : State) : Counted left s (countSync left s) := by
  unfold countSync
  extract_lets good g w
  have hgood : 1000 < left.natAbs → good = 0 := fun h => if_neg (Nat.not_le.mpr h)
  by_cases hsynced : (decide (good = 4) && !w.gptp.synced) = true
  · rw [if_pos hsynced]
    have hgptp := gptp_of_allBut (endSearch_view (clearAll 0xF310#16 { w with gptp := { w.gptp with synced := true, okSince := some w.now } }) rfl)
    have hblocks := blocks_of_allBut (endSearch_view (clearAll 0xF310#16 { w with gptp := { w.gptp with synced := true, okSince := some w.now } }) rfl)
    exact ⟨by rw [hgptp]; rfl, by rw [hgptp]; rfl, by rw [hgptp]; rfl, by rw [hgptp]; rfl, by rw [hgptp]; rfl, by rw [hgptp]; exact hgood,
      by rw [hblocks]; rfl⟩
  · rw [if_neg hsynced]
    exact ⟨rfl, rfl, rfl, rfl, rfl, hgood, rfl⟩

theorem gptpIn_of_hears {work : State → State} (h : Elapsed s t v) (hruns : gptpRuns s = true) (hhears : portHears s i = true) (hrunning : sysStopped s = false) :
    gptpIn i work v = work v := by
  unfold gptpIn crossIn
  rw [if_pos (by rw [h.gptpRuns, hruns, h.portHears, hhears]; rfl), if_neg (by rw [h.sysStopped, hrunning]; exact Bool.false_ne_true)]

theorem servoGoal_le (s : State) (e : Int) : (servoGoal s e).natAbs ≤ 20000000000 := by
  unfold servoGoal
  omega

section SyncReceive

variable {gm : Nat} (hruns : gptpRuns s = true) (hhears : portHears s i = true) (hrunning : sysStopped s = false)
  (hcapable : s.ports[i].asCapable = true) (hslave : s.gptp.slavePort = some i)
include hruns hhears hrunning hcapable hslave

theorem syncReceive_exec : ∃ v, s.upTo t = v ∧ Elapsed s t v ∧ exec (.syncReceive t i gm) s = .next (takeSync gm v) := by
  obtain ⟨v, hv, h⟩ := s.exists_upTo t
  have hcapable' : v.ports[i].asCapable = s.ports[i].asCapable := (congrArg Port.asCapable (h.ports i).1 :)
  have hslave' : v.gptp.slavePort = s.gptp.slavePort := (congrArg Gptp.slavePort h.gptp :)
  refine ⟨v, hv, h, ?_⟩
  show execSyncReceive t i gm s = _
  unfold execSyncReceive
  rw [hv]
  dsimp only
  rw [hcapable', hcapable, hslave', hslave, if_neg (by simp), gptpIn_of_hears h hruns hhears hrunning]

theorem syncReceive_runs_first (hgm : gm < 2 ^ 64) (hblocks : s.blocks.running = false) (hfirst : s.gptp.firstSet = false) :
    Runs (.syncReceive t i gm) s fun u => u.gptp.time = gm ∧ u.gptp.firstSet = true ∧ u.gptp.lastSync = some (max s.now t) := by
  obtain ⟨v, hv, h, hexec⟩ := syncReceive_exec (t := t) (gm := gm) hruns hhears hrunning hcapable hslave
  have hfirst' : v.gptp.firstSet = s.gptp.firstSet := (congrArg Gptp.firstSet h.gptp :)
  refine ⟨_, hexec, ?_⟩
  unfold takeSync
  dsimp only
  rw [if_pos (by simp [h.blocks, hblocks, hfirst', hfirst])]
  have hc := countSync_counted 0 (setTime gm { v with gptp := { v.gptp with firstSet := true } })
  have hset : (setTime gm { v with gptp := { v.gptp with firstSet := true } }).gptp = { v.gptp with firstSet := true, time := gm % 2 ^ 64, frac := 0 } := by
    unfold setTime
    dsimp only
    split
    · exact gptp_of_allBut (reschedule_view _ rfl)
    · rfl
  rw [hc.time, hc.firstSet, hc.lastSync, hset, now_of_view (P := allBut []) (setTime_view _ _ rfl)]
  exact ⟨Nat.mod_eq_of_lt hgm, rfl, congrArg some h.now⟩

variable (hblocks : s.blocks.running = true)
include hblocks

theorem syncReceive_runs_step (hfar : 10000 < ((gm : Int) - (s.upTo t).gptp.time).natAbs) : Runs (.syncReceive t i gm) s fun u =>
    u.gptp.time = (s.upTo t).gptp.time ∧ u.gptp.rateGoal = s.gptp.rateGoal ∧ u.gptp.good = 0
      ∧ u.gptp.lastSync = some (max s.now t) ∧ (∃ d ∈ u.blocks.due, d.what = .timeStep ((gm : Int) - (s.upTo t).gptp.time)) := by
  obtain ⟨v, hv, h, hexec⟩ := syncReceive_exec (t := t) (gm := gm) hruns hhears hrunning hcapable hslave
  rw [hv] at hfar ⊢
  refine ⟨_, hexec, ?_⟩
  unfold takeSync
  dsimp only
  rw [if_neg (by simp [h.blocks, hblocks]), if_pos hfar]
  refine ⟨(countSync_counted _ _).time, (countSync_counted _ _).rateGoal.trans (congrArg Gptp.rateGoal h.gptp :),
    (countSync_counted _ _).good (by omega), (countSync_counted _ _).lastSync.trans (congrArg some h.now), ?_⟩
  rw [(countSync_counted _ _).due]
  exact ⟨_, List.mem_append_right _ List.mem_cons_self, rfl⟩

theorem syncReceive_runs_servo (hnear : ((gm : Int) - (s.upTo t).gptp.time).natAbs ≤ 10000) : Runs (.syncReceive t i gm) s fun u =>
    u.gptp.time = (s.upTo t).gptp.time ∧ u.gptp.rate = (s.upTo t).gptp.rate ∧ u.gptp.rateGoal.natAbs ≤ 20000000000
      ∧ u.gptp.lastSync = some (max s.now t) ∧ u.gptp.rateGoal = servoGoal (s.upTo t) ((gm : Int) - (s.upTo t).gptp.time) := by
  obtain ⟨v, hv, h, hexec⟩ := syncReceive_exec (t := t) (gm := gm) hruns hhears hrunning hcapable hslave
  rw [hv] at hnear ⊢
  refine ⟨_, hexec, ?_⟩
  unfold takeSync
  dsimp only
  rw [if_neg (by simp [h.blocks, hblocks]), if_neg (Nat.not_lt.mpr hnear)]
  have hc := countSync_counted ((gm : Int) - v.gptp.time) { v with gptp := { v.gptp with rateGoal := servoGoal v ((gm : Int) - v.gptp.time) } }
  exact ⟨hc.time, hc.rate, by rw [hc.rateGoal]; exact servoGoal_le .., hc.lastSync.trans (congrArg some h.now), hc.rateGoal⟩

end SyncReceive

/-- The rate follows its goal by at most 2 units a nanosecond. -/
theorem Gptp.tick_rate_near (g : Gptp) (dt : Nat) : ((g.tick dt).rate - g.rate).natAbs ≤ 2 * dt := by
  unfold Gptp.tick
  dsimp only
  split
  · omega
  · split
    · omega
    · have hsign := Int.sign_trichotomy (g.rateGoal - g.rate)
      rcases hsign with h | h | h <;> rw [h] <;> omega

/-! ### Announce and path delay (R171, R175) -/

section Heard

variable (hruns : gptpRuns s = true) (hhears : portHears s i = true) (hrunning : sysStopped s = false)
include hruns hhears hrunning

theorem announceReceive_runs {x : GmVector} (hcapable : s.ports[i].asCapable = true) (hsender : x.sender ≠ clockIdentity s)
    (hidentity : x.identity ≠ clockIdentity s) (hbest : s.ports[i].best1 = none) : Runs (.announceReceive t i x) s fun u =>
      u.ports[i].best1 = some x ∧ u.ports[i].annDeadline = some (max s.now t + 2 * sec1) := by
  obtain ⟨v, hv, h⟩ := s.exists_upTo t
  have hcapable' : v.ports[i].asCapable = s.ports[i].asCapable := (congrArg Port.asCapable (h.ports i).1 :)
  have hbest' : v.ports[i].best1 = s.ports[i].best1 := (congrArg Port.best1 (h.ports i).1 :)
  have hid : clockIdentity v = clockIdentity s := by simp only [clockIdentity, h.eui48]
  rw [runs_iff]
  show Answers (execAnnounceReceive t i x s) _
  unfold execAnnounceReceive
  rw [hv]
  dsimp only
  rw [hbest', hbest, hcapable', hcapable, hid, if_neg (by simp [hsender, hidentity]), gptpIn_of_hears h hruns hhears hrunning, answers_next,
    ports_of_allBut (runBmca_view _ rfl)]
  dsimp only
  rw [get_set_fin_self]
  exact ⟨rfl, congrArg (fun n => some (n + 2 * sec1)) h.now⟩

theorem pdelayResponseReceive_runs {rx tx t1 : Nat} (hsent : (s.upTo t).ports[i].pdelaySent = some t1) :
    Runs (.pdelayResponseReceive t i s.ports[i].pdelaySeq rx tx) s fun u =>
      u.ports[i].delay = ((s.upTo t).gptp.time - t1 - (tx - rx)) / 2 ∧ u.ports[i].pdelaySent = none ∧ u.ports[i].pdelayLost = 0
        ∧ (u.ports[i].delay ≤ 800 → u.ports[i].pdelayOk = min 3 (s.ports[i].pdelayOk + 1))
        ∧ (800 < u.ports[i].delay → u.ports[i].pdelayOk = 0 ∧ u.ports[i].asCapable = false) := by
  obtain ⟨v, hv, h⟩ := s.exists_upTo t
  rw [hv] at hsent ⊢
  have hseq : v.ports[i].pdelaySeq = s.ports[i].pdelaySeq := (congrArg Port.pdelaySeq (h.ports i).1 :)
  have hok : v.ports[i].pdelayOk = s.ports[i].pdelayOk := (congrArg Port.pdelayOk (h.ports i).1 :)
  rw [runs_iff]
  show Answers (execPdelayResponseReceive t i s.ports[i].pdelaySeq rx tx s) _
  unfold execPdelayResponseReceive
  rw [hv]
  dsimp only
  rw [hsent]
  dsimp only
  rw [hseq, if_neg (by simp), gptpIn_of_hears h hruns hhears hrunning, answers_next]
  dsimp only
  rw [get_set_fin_self, hok]
  refine ⟨rfl, rfl, rfl, fun hle => ?_, fun hlt => ?_⟩
  · dsimp only at hle ⊢
    rw [decide_eq_true hle, if_pos rfl]
  · dsimp only at hlt ⊢
    rw [decide_eq_false (Nat.not_le.mpr hlt)]
    exact ⟨rfl, rfl⟩

end Heard

/-- Settles O37: what each message received leaves of device time, of the port and of the servo. -/
theorem gptpReceivesRun : Obligations.GptpReceivesRun := by
  refine ⟨fun s t i gm hruns hhears hrunning hcapable hslave hgm => ⟨?_, ?_, ?_⟩, Gptp.tick_rate_near,
    fun _ _ _ _ hruns hhears hrunning => announceReceive_runs hruns hhears hrunning,
    fun _ _ _ _ _ _ hruns hhears hrunning => pdelayResponseReceive_runs hruns hhears hrunning⟩
  · exact syncReceive_runs_first hruns hhears hrunning hcapable hslave hgm
  · exact syncReceive_runs_step hruns hhears hrunning hcapable hslave
  · exact syncReceive_runs_servo hruns hhears hrunning hcapable hslave

end Sys2Proof.Machine
end

/-! # Wellspring (O38, chapters 3 and 6)

References, holdover, the loop and its switch, and the history. -/

section
namespace Sys2Proof.Machine

open Sys2Proof


variable {s u v : State} {t : Nat} {r : Ref}

/-! ### References (R130, R132, R137) -/

theorem selectClears_well (r) (s : State) : (selectClears r s).well = s.well := well_of_allBut (selectClears_view _ _ rfl)

theorem Elapsed.orderOf (h : Elapsed s t v) : Machine.orderOf v = Machine.orderOf s :=
  orderOf_congr h.straps (congrArg StartUnit.mode h.start) (congrArg Redundancy.contact h.red)

theorem startSelect_well (r : Ref) (s : State) : (startSelect r s).well.selected = some r ∧ (startSelect r s).well.atStart = false
    ∧ (startSelect r s).well.bandwidth = bwAcquire r ∧ (startSelect r s).well.holdover = false
    ∧ (startSelect r s).well.refs = s.well.refs := by
  unfold startSelect
  dsimp only
  rw [selectClears_well]
  exact ⟨rfl, rfl, rfl, rfl, rfl⟩

theorem startReferenceDeadline_runs {d : Nat} (hd : s.well.refDeadline = some d) (hawake : awake s = true) (hstart : s.well.atStart = true)
    (hfirst : firstSuch (fun r => (refState s.well r).qualified) (orderOf s) = some r) : Runs .startReferenceDeadline s fun u =>
      u.well.selected = some r ∧ u.well.atStart = false ∧ u.well.bandwidth = bwAcquire r ∧ u.well.holdover = false := by
  obtain ⟨v, hv, h⟩ := s.exists_upTo d
  obtain ⟨hselected, hat, hbandwidth, hholdover, -⟩ := startSelect_well r v
  rw [runs_iff]
  show Answers (execStartReferenceDeadline s) _
  unfold execStartReferenceDeadline
  rw [hd]
  dsimp only
  rw [hv, if_pos (by rw [h.awake, hawake, h.well, hstart]; rfl)]
  unfold deadlineSelect
  rw [h.well, h.orderOf, hfirst]
  dsimp only
  split
  · exact ⟨hselected, hat, hbandwidth, hholdover⟩
  · rw [answers_next, raise_well]
    exact ⟨hselected, hat, hbandwidth, hholdover⟩

/-- What the judging of a reference leaves: which one is selected, and every reference that is qualified or barred but for its mean. -/
structure RefsJudged (s u : State) : Prop where
  now : u.now = s.now
  selected : u.well.selected = s.well.selected
  atStart : u.well.atStart = s.well.atStart
  refs : ∀ i : Fin 4, s.well.refs[i].qualified = true ∨ s.well.refs[i].barred.isSome = true →
    u.well.refs[i] = { s.well.refs[i] with mean := u.well.refs[i].mean }

theorem RefsJudged.refl (s : State) : RefsJudged s s := ⟨rfl, rfl, rfl, fun _ _ => rfl⟩

theorem RefsJudged.trans (h : RefsJudged s v) (k : RefsJudged v u) : RefsJudged s u where
  now := k.now.trans h.now
  selected := k.selected.trans h.selected
  atStart := k.atStart.trans h.atStart
  refs i hi := by
    have hv := h.refs i hi
    rw [k.refs i (by rw [hv]; exact hi), hv]

/-- One reference set, to one that differs in its mean alone where it was qualified or barred. -/
theorem RefsJudged.of_set {i : Fin 4} {q : RefState}
    (hq : s.well.refs[i].qualified = true ∨ s.well.refs[i].barred.isSome = true → q = { s.well.refs[i] with mean := q.mean })
    (hrefs : u.well.refs = s.well.refs.set i q) (hselected : u.well.selected = s.well.selected)
    (hat : u.well.atStart = s.well.atStart) (hnow : u.now = s.now) : RefsJudged s u where
  now := hnow
  selected := hselected
  atStart := hat
  refs k hk := by
    rw [hrefs]
    by_cases hki : k = i
    · subst hki
      rw [get_set_fin_self]
      exact hq hk
    · rw [get_set_fin_ne _ _ hki]

theorem judgeRef_judged (r m) (s : State) : RefsJudged s (judgeRef r m s) := by
  unfold judgeRef
  split
  · exact .refl s
  next i _ =>
    dsimp only
    have hmean : (if presentFor r m s then { s.well.refs[i] with mean := meanOf m.sub } else s.well.refs[i])
        = { s.well.refs[i] with mean := (if presentFor r m s then { s.well.refs[i] with mean := meanOf m.sub } else s.well.refs[i]).mean } := by
      split <;> rfl
    generalize (if presentFor r m s then { s.well.refs[i] with mean := meanOf m.sub } else s.well.refs[i]) = x at hmean
    split
    · exact .refl s
    · split
      · exact .of_set (fun _ => hmean) rfl rfl rfl rfl
      next hfree =>
        have hnot : ¬ (s.well.refs[i].qualified = true ∨ s.well.refs[i].barred.isSome = true) := by
          rw [hmean] at hfree
          simpa using hfree
        split
        · exact .of_set (fun h => absurd h hnot) (Vector.set_set ..) rfl rfl rfl
        · exact .of_set (fun _ => hmean) rfl rfl rfl rfl

theorem aimSwitch_judged (s : State) : RefsJudged s (aimSwitch s) := by
  unfold aimSwitch
  split
  · split
    · exact .refl s
    · exact ⟨rfl, rfl, rfl, fun _ _ => rfl⟩
  · exact .refl s

theorem qualificationWindowEnd_runs {e : Nat} (net bpi0 bpi1 wclk : RefMeas) (he : s.well.windowEnd = some e) (hstart : s.well.atStart = false) :
    Runs (.qualificationWindowEnd net bpi0 bpi1 wclk) s fun u =>
      u.now = max s.now e ∧ u.well.windowEnd = some (e + sec1) ∧ u.well.selected = s.well.selected
        ∧ (∀ i : Fin 4, s.well.refs[i].qualified = true ∨ s.well.refs[i].barred.isSome = true →
            u.well.refs[i] = { s.well.refs[i] with mean := u.well.refs[i].mean }) := by
  obtain ⟨v, hv, h⟩ := s.exists_upTo e
  rw [runs_iff]
  show Answers (execQualificationWindowEnd net bpi0 bpi1 wclk s) _
  unfold execQualificationWindowEnd
  rw [he]
  dsimp only
  rw [hv]
  have hjudged : RefsJudged v (aimSwitch (judgeRef .wclk wclk (judgeRef .bpi1 bpi1 (judgeRef .bpi0 bpi0 (judgeRef .net net v))))) :=
    ((((judgeRef_judged ..).trans (judgeRef_judged ..)).trans (judgeRef_judged ..)).trans (judgeRef_judged ..)).trans (aimSwitch_judged _)
  generalize aimSwitch (judgeRef .wclk wclk (judgeRef .bpi1 bpi1 (judgeRef .bpi0 bpi0 (judgeRef .net net v)))) = w at hjudged
  have hdone : w.now = max s.now e ∧ w.well.selected = s.well.selected ∧ w.well.atStart = false
      ∧ ∀ i : Fin 4, s.well.refs[i].qualified = true ∨ s.well.refs[i].barred.isSome = true →
        w.well.refs[i] = { s.well.refs[i] with mean := w.well.refs[i].mean } :=
    ⟨hjudged.now.trans h.now, by rw [hjudged.selected, h.well], by rw [hjudged.atStart, h.well, hstart], by
      have := hjudged.refs
      rwa [h.well] at this⟩
  obtain ⟨hnow, hselected, hat, hrefs⟩ := hdone
  split
  · rw [if_neg (by rw [hat]; simp)]
    exact ⟨hnow, rfl, hselected, hrefs⟩
  · exact ⟨hnow, rfl, hselected, hrefs⟩

/-! ### References lost and barred (R140, R142) -/

theorem deadlineSelect_refs (s : State) : (deadlineSelect s).well.refs = s.well.refs := by
  unfold deadlineSelect
  split
  next r _ =>
    dsimp only
    split
    · exact (startSelect_well r s).2.2.2.2
    · rw [raise_well]
      exact (startSelect_well r s).2.2.2.2
  · rfl

/-- A reference that is lost, afterwards. -/
def lostRefState (now : Nat) (x : RefState) : RefState :=
  { x with qualified := false, losses := lossesNow now x.losses
           barred := if (lossesNow now x.losses).length ≥ 3 then some (now + 60 * sec1) else x.barred }

section Loss

variable {i : Fin 4} (hi : refIndex r = some i) (hqualified : s.well.refs[i].qualified = true)
include hi hqualified

theorem loseRef_refs (crf) : (loseRef r crf s).well.refs = s.well.refs.set i (lostRefState s.now s.well.refs[i]) := by
  have hraised (b : Bool) (x : State) : (if b then raise 0xF311#16 0 [] x else x).well = x.well := by
    split
    · exact raise_well ..
    · rfl
  have hstarted (x : State) : (match x.well.refDeadline with
      | some d => if d ≤ x.now then deadlineSelect x else x
      | none => x).well.refs = x.well.refs := by
    split
    · split
      · exact deadlineSelect_refs x
      · rfl
    · rfl
  unfold loseRef
  rw [hi]
  dsimp only
  rw [if_neg (by rw [hqualified]; decide)]
  split
  · rfl
  · split
    · refine (hstarted _).trans ?_
      rw [hraised]
      rfl
    · rw [raise_well, hraised]
      rfl

theorem loseRef_holdover (crf) (hselected : s.well.selected = some r) (hholdover : s.well.holdover = false) (hrun : s.start.tRun.isSome = true) :
    (loseRef r crf s).well.holdover = true ∧ (loseRef r crf s).well.locked = false ∧ (loseRef r crf s).well.lostRef = some r
      ∧ (loseRef r crf s).well.holdoverFrom = s.now := by
  unfold loseRef
  rw [hi]
  dsimp only
  rw [if_neg (by rw [hqualified]; decide), if_neg (by rw [hselected, hholdover]; simp), if_neg (by simpa using Option.isSome_iff_ne_none.mp hrun),
    raise_well]
  split
  · rw [raise_well]
    exact ⟨rfl, rfl, rfl, rfl⟩
  · exact ⟨rfl, rfl, rfl, rfl⟩

theorem referenceLoss_runs (crf) : Runs (.referenceLoss t r crf) s fun u =>
    u.well.refs[i].qualified = false
      ∧ (3 ≤ (lossesNow (max s.now t) s.well.refs[i].losses).length → u.well.refs[i].barred = some (max s.now t + 60 * sec1))
      ∧ (s.well.selected = some r → s.well.holdover = false → s.start.tRun.isSome = true →
          u.well.holdover = true ∧ u.well.locked = false ∧ u.well.lostRef = some r ∧ u.well.holdoverFrom = max s.now t) := by
  obtain ⟨v, hv, h⟩ := s.exists_upTo t
  have hqualified' : v.well.refs[i].qualified = true := by rw [h.well]; exact hqualified
  rw [runs_iff]
  show Answers (.next (loseRef r crf (s.upTo t))) _
  rw [hv, answers_next, loseRef_refs hi hqualified', get_set_fin_self, h.well, h.now]
  refine ⟨rfl, fun hthree => if_pos hthree, fun hselected hholdover hrun => ?_⟩
  rw [← h.now]
  exact loseRef_holdover hi hqualified' crf (by rw [h.well, hselected]) (by rw [h.well, hholdover]) (by rw [h.start, hrun])

end Loss

theorem referenceBarExpiry_runs {i : Fin 4} {b : Nat} (hi : refIndex r = some i) (hb : s.well.refs[i].barred = some b) :
    Runs (.referenceBarExpiry r) s fun u =>
      u.well.refs[i].barred = none ∧ u.well.refs[i].qualified = s.well.refs[i].qualified ∧ u.now = max s.now b
        ∧ (∀ j : Fin 4, j ≠ i → u.well.refs[j] = s.well.refs[j]) := by
  obtain ⟨v, hv, h⟩ := s.exists_upTo b
  rw [runs_iff]
  show Answers (execReferenceBarExpiry r s) _
  unfold execReferenceBarExpiry
  rw [hi]
  dsimp only
  rw [hb]
  dsimp only
  rw [hv, h.well, answers_next]
  dsimp only
  rw [get_set_fin_self]
  exact ⟨rfl, rfl, h.now, fun j hj => get_set_fin_ne _ _ hj⟩

/-! ### Holdover, the loop and its switch (R145, R147, R73) -/

theorem holdoverLimitExpiry_runs (hholdover : s.well.holdover = true) : Runs .holdoverLimitExpiry s fun u =>
    u.well.limitPassed = true ∧ u.well.holdover = true ∧ u.now = max s.now (s.well.holdoverFrom + (if s.well.tcxo then 3600 else 600) * sec1) := by
  obtain ⟨v, hv, h⟩ := s.exists_upTo (s.well.holdoverFrom + holdoverLimit s.well.tcxo)
  rw [runs_iff]
  show Answers (execHoldoverLimitExpiry s) _
  unfold execHoldoverLimitExpiry
  rw [if_pos hholdover]
  dsimp only
  rw [hv, h.well]
  exact ⟨rfl, hholdover, h.now⟩

theorem Elapsed.wellRuns (h : Elapsed s t v) : Machine.wellRuns v = Machine.wellRuns s := by
  simp only [Machine.wellRuns, h.powered, h.inMode]

theorem hardwareLoopUpdate_runs_local (err) (hholdover : s.well.holdover = false) (hselected : s.well.selected = some .local)
    (hstage : s.well.stage = .idle) (hlocked : s.well.locked = false) (hruns : wellRuns s = true) (hslumber : inMode .slumber s = false) :
    Runs (.hardwareLoopUpdate t err) s fun u =>
      u.well.locked = true ∧ u.well.mclk = true ∧ u.blocks.exists_ = true ∧ u.well.dco = s.well.dco := by
  obtain ⟨v, hv, h⟩ := s.exists_upTo t
  have hsafe : inMode .safe s = false := by
    have := (Bool.and_eq_true_iff.mp hruns).2
    simpa using this
  rw [runs_iff]
  show Answers (execHardwareLoopUpdate t err s) _
  unfold execHardwareLoopUpdate
  rw [hv]
  dsimp only
  rw [if_neg (by rw [h.wellRuns, hruns, h.well, hholdover]; decide), h.well, hselected]
  dsimp only
  rw [if_neg (by rw [hlocked, hstage]; decide)]
  exact ⟨rfl, by show (v.well.mclk || !(inMode .slumber v || inMode .safe v)) = true; rw [h.inMode, h.inMode, hslumber, hsafe]; simp, rfl,
    (congrArg Wellspring.dco h.well :)⟩

/-- A loss of the reference moves no oscillator but where a start then selects another. -/
theorem loseRef_dco (crf) (hrun : s.start.tRun.isSome = true) : (loseRef r crf s).well.dco = s.well.dco := by
  unfold loseRef
  split
  · rfl
  · dsimp only
    split
    · split <;> rfl
    · split
      · rfl
      · rw [if_neg (by simpa using Option.isSome_iff_ne_none.mp hrun), raise_well]
        split
        · rw [raise_well]
          rfl
        · rfl

theorem hardwareLoopUpdate_runs_wire (err) (hholdover : s.well.holdover = false) (hselected : s.well.selected = some r) (hlocal : r ≠ .local)
    (hnet : r ≠ .net) (hfrequency : s.well.stage ≠ .frequency) (hphase : s.well.stage ≠ .phase) (hrun : s.start.tRun.isSome = true)
    (hruns : wellRuns s = true) :
    let e := phaseMod (refRate (s.upTo t) r) s.well.rate err
    Runs (.hardwareLoopUpdate t err) s fun u =>
      u.well.dco = dcoClamp (loopFilter s.well.bandwidth (loopPeriod (s.upTo t) r) e s.well.integ).2
        ∧ (s.well.locked = false → 63 ≤ s.well.inCount → e.natAbs ≤ 200 → u.well.locked = true)
        ∧ (s.well.locked = true → e.natAbs ≤ 800 → u.well.locked = true) := by
  intro e
  obtain ⟨v, hv, h⟩ := s.exists_upTo t
  have he : phaseMod (refRate v r) s.well.rate err = e := by rw [← hv]
  have hexec : exec (.hardwareLoopUpdate t err) s = .next (loopUpdate r e v) := by
    show execHardwareLoopUpdate t err s = _
    unfold execHardwareLoopUpdate
    rw [hv]
    dsimp only
    rw [if_neg (by rw [h.wellRuns, hruns, h.well, hholdover]; decide), h.well, hselected]
    split
    · next heq => exact absurd (Option.some.inj heq) hlocal
    · next heq => exact absurd (Option.some.inj heq) hnet
    · next heq => exact nomatch heq
    · next heq =>
      cases heq
      rw [if_neg (by simp [hfrequency, hphase]), he]
  refine ⟨_, hexec, ?_⟩
  rw [hv]
  have hthr : (if r == .net then ((1000 : Nat), (32 : Nat)) else (200, 64)) = (200, 64) := if_neg (by simpa using hnet)
  unfold loopUpdate
  rw [hthr]
  dsimp only
  rw [h.well]
  refine ⟨?_, fun hlocked hcount hnear => ?_, fun hlocked hnear => ?_⟩
  · split
    · rfl
    · split
      · exact loseRef_dco _ (by rw [h.start]; exact hrun)
      · rfl
  · have hin : (lockUpdate 200 64 e s.well).inCount = 64 := (if_pos hnear).trans (by omega)
    rw [if_pos (by rw [hin]; show (!s.well.locked && _) = true; rw [hlocked]; rfl)]
    rfl
  · have hout : (lockUpdate 200 64 e s.well).outCount = 0 := if_neg (by omega)
    have hkept : (lockUpdate 200 64 e s.well).locked = true := hlocked
    rw [if_neg (by rw [hkept]; simp), if_neg (by rw [hout]; simp)]
    exact hlocked

theorem bandwidthStep_runs {d : Nat} (hd : s.well.nextHalf = some d) : Runs .bandwidthStep s fun u =>
    u.well.halve = true ∧ u.well.nextHalf = some (d + 2 * sec1) ∧ u.well.bandwidth = s.well.bandwidth := by
  obtain ⟨v, hv, h⟩ := s.exists_upTo d
  rw [runs_iff]
  show Answers (execBandwidthStep s) _
  unfold execBandwidthStep
  rw [hd]
  dsimp only
  rw [hv]
  exact ⟨rfl, rfl, (congrArg Wellspring.bandwidth h.well :)⟩

theorem switchFrequencyStageEnd_runs_local (err) (hstage : s.well.stage = .frequency)
    (hselected : s.well.selected = some .local) (hdco : s.well.dco = 0) :
    Runs (.switchFrequencyStageEnd t err) s fun u => u.well.dco = 0 ∧ u.well.stage = .idle ∧ u.well.locked = true := by
  obtain ⟨v, hv, h⟩ := s.exists_upTo t
  rw [runs_iff]
  show Answers (execSwitchFrequencyStageEnd t err s) _
  unfold execSwitchFrequencyStageEnd
  rw [hv]
  dsimp only
  rw [h.well, if_neg (by simp [hstage, frequencyReached, hselected, hdco]), hselected]
  exact ⟨hdco, rfl, rfl⟩

theorem switchFrequencyStageEnd_runs_ends (err) (hstage : s.well.stage = .frequency) (hselected : s.well.selected = some r) (hlocal : r ≠ .local)
    (hnear : (s.well.dco - s.well.dcoGoal).natAbs ≤ 184467440737) : Runs (.switchFrequencyStageEnd t err) s fun u =>
      u.well.stage = .phase ∧ u.well.dco = s.well.dco ∧ u.well.dcoGoal = s.well.dco ∧ u.well.phaseOff = 0 := by
  obtain ⟨v, hv, h⟩ := s.exists_upTo t
  rw [runs_iff]
  show Answers (execSwitchFrequencyStageEnd t err s) _
  unfold execSwitchFrequencyStageEnd
  rw [hv]
  dsimp only
  rw [h.well, if_neg (by simp [hstage, frequencyReached, hselected, hlocal, hnear]), hselected]
  split
  · next heq => exact absurd (Option.some.inj heq) hlocal
  · exact ⟨rfl, rfl, rfl, rfl⟩
  · next heq => exact nomatch heq

theorem switchFrequencyStageEnd_runs_waits (err) (hselected : s.well.selected = some r)
    (hfar : if r = .local then s.well.dco ≠ 0 else 184467440737 < (s.well.dco - s.well.dcoGoal).natAbs) :
    Runs (.switchFrequencyStageEnd t err) s fun u => u = s.upTo t := by
  obtain ⟨v, hv, h⟩ := s.exists_upTo t
  have hnot : frequencyReached s.well = false := by
    unfold frequencyReached
    by_cases hr : r = .local
    · rw [if_pos hr] at hfar
      simp [hselected, hr, hfar]
    · rw [if_neg hr] at hfar
      simp [hselected, hr, hfar]
  rw [runs_iff, hv]
  show Answers (execSwitchFrequencyStageEnd t err s) _
  unfold execSwitchFrequencyStageEnd
  rw [hv]
  dsimp only
  rw [h.well, if_pos (by rw [hnot]; simp)]
  exact rfl

theorem switchPhaseStageEnd_runs_ends (hstage : s.well.stage = .phase) (hleft : s.well.phaseLeft = 0) (hoff : s.well.phaseOff = 0) :
    Runs (.switchPhaseStageEnd t) s fun u =>
      u.well.stage = .close ∧ u.well.dco = s.well.dco ∧ u.well.integ = s.well.dco
        ∧ (∀ r, s.well.selected = some r → u.well.bandwidth = bwAcquire r) := by
  obtain ⟨v, hv, h⟩ := s.exists_upTo t
  rw [runs_iff]
  show Answers (execSwitchPhaseStageEnd t s) _
  unfold execSwitchPhaseStageEnd
  rw [hv]
  dsimp only
  rw [h.well, if_neg (by simp [hstage, hleft, hoff])]
  exact ⟨rfl, rfl, rfl, fun r hr => by rw [hr]⟩

theorem switchPhaseStageEnd_runs_waits (hleft : s.well.phaseLeft ≠ 0 ∨ s.well.phaseOff ≠ 0) :
    Runs (.switchPhaseStageEnd t) s fun u => u = s.upTo t := by
  obtain ⟨v, hv, h⟩ := s.exists_upTo t
  rw [runs_iff, hv]
  show Answers (execSwitchPhaseStageEnd t s) _
  unfold execSwitchPhaseStageEnd
  rw [hv]
  dsimp only
  rw [h.well, if_pos (by rcases hleft with hl | hl <;> simp [hl])]
  exact rfl

/-! ### Frequency history (R145) -/

theorem historyWindowComplete_runs {d : Nat} (hd : s.well.histAt = some d) (hselected : s.well.selected = some r) (hlocal : r ≠ .local)
    (htarget : atTarget s.well = true) : Runs .historyWindowComplete s fun u =>
      u.history.length ≤ 16 ∧ u.history.tail = s.history.take 15 ∧ (u.history.head?.map (·.ref)) = some r
        ∧ u.well.histAt = some (d + 64 * sec1) ∧ u.well.histCount = 0 := by
  obtain ⟨v, hv, h⟩ := s.exists_upTo d
  rw [runs_iff]
  show Answers (execHistoryWindowComplete s) _
  unfold execHistoryWindowComplete
  rw [hd, hselected]
  dsimp only
  rw [hv, if_neg (by rw [h.well, htarget]; simp [hlocal]), h.history]
  split <;> exact ⟨List.length_take_le .., rfl, rfl, rfl, rfl⟩

/-- Settles O38: references, loop, switch and history, each by what the Wellspring held when time came to the command's instant. -/
theorem wellspringRuns : Obligations.WellspringRuns := by
  refine ⟨fun _ _ _ => startReferenceDeadline_runs, fun _ _ net bpi0 bpi1 wclk => qualificationWindowEnd_runs net bpi0 bpi1 wclk,
    fun _ _ _ crf _ hi hqualified => referenceLoss_runs hi hqualified crf, fun _ _ _ _ => referenceBarExpiry_runs,
    fun _ => holdoverLimitExpiry_runs, fun _ _ err => hardwareLoopUpdate_runs_local err,
    fun _ _ err _ hholdover hselected hlocal hnet => hardwareLoopUpdate_runs_wire err hholdover hselected hlocal hnet,
    fun _ _ => bandwidthStep_runs, fun _ _ err hstage => ⟨?_, ?_, ?_⟩, fun _ _ => switchPhaseStageEnd_runs_ends,
    fun _ _ => switchPhaseStageEnd_runs_waits, fun _ _ _ => historyWindowComplete_runs⟩
  · exact switchFrequencyStageEnd_runs_local err hstage
  · exact fun _ => switchFrequencyStageEnd_runs_ends err hstage
  · exact fun _ => switchFrequencyStageEnd_runs_waits err

end Sys2Proof.Machine
end

/-! # Ports and PoDL (O39, chapter 7)

Faults raised and cleared at a port, its diagnosis, its link, and power over the pair. -/

section
namespace Sys2Proof.Machine

open Sys2Proof


variable {s u v : State} {t : Nat} {i : Fin 2}

/-! ### Faults raised and cleared -/

theorem isActive_raise_other {x code : BitVec 16} {unit w : Nat} (h : w ≠ unit) (detail) (s : State) :
    isActive x w (raise code unit detail s) = isActive x w s := by
  rw [Bool.eq_iff_iff, isActive_iff, isActive_iff, raise_active]
  split
  · simp only [List.mem_cons, List.mem_filter]
    grind
  · exact Iff.rfl

theorem isActive_raise_self {code : BitVec 16} (hstays : faultStays code = true) (unit detail) (s : State) :
    isActive code unit (raise code unit detail s) = true :=
  (isActive_raise ..).mpr (.inl ⟨hstays, rfl⟩)

theorem isActive_raise_ne {x code : BitVec 16} (h : code ≠ x) (w unit detail) (s : State) :
    isActive x w (raise code unit detail s) = isActive x w s := by
  rw [Bool.eq_iff_iff, isActive_iff, isActive_iff, raise_active]
  split
  · simp only [List.mem_cons, List.mem_filter]
    grind
  · exact Iff.rfl

theorem isActive_clear_self (code unit) (s : State) : isActive code unit (clear code unit s) = false := by
  rw [Bool.eq_false_iff]
  intro h
  obtain ⟨a, ha, hcode, hunit⟩ := (isActive_iff ..).mp h
  have := (List.mem_filter.mp ha).2
  simp [hcode, hunit] at this

theorem anyActive_raise_self {code : BitVec 16} (hstays : faultStays code = true) (unit detail) (s : State) :
    anyActive code (raise code unit detail s) = true := by
  rw [anyActive, raise_active, if_pos hstays]
  simp

theorem anyActive_clearAll_self (code) (s : State) : anyActive code (clearAll code s) = false := by
  have hactive : (clearAll code s).status.active = s.status.active.filter (fun a => a.code != code) := rfl
  rw [anyActive, hactive]
  simp

/-! ### Ports set -/

theorem setPort_self (f : Port → Port) (s : State) : (setPort i f s).ports[i] = f s.ports[i] := get_set_fin_self ..

theorem other_ne (i : Fin 2) : 1 - i ≠ i := by
  fin_cases i <;> decide

theorem setPort_now (f : Port → Port) (s : State) : (setPort i f s).now = s.now := rfl

theorem setPort_ne {k : Fin 2} (h : k ≠ i) (f : Port → Port) (s : State) : (setPort i f s).ports[k] = s.ports[k] := get_set_fin_ne _ _ h

/-- A port's own fields, whatever it has sent meanwhile. -/
theorem Elapsed.port (h : Elapsed s t v) (i : Fin 2) : v.ports[i].bare = s.ports[i].bare := (h.ports i).1

theorem any_ports (f : Port → Bool) (ps : Vector Port 2) : ps.toList.any f = (f ps[0] || f ps[1]) := by
  obtain ⟨⟨l⟩, hl⟩ := ps
  obtain ⟨a, b, rfl⟩ := List.length_eq_two.mp hl
  simp

/-! ### Cable diagnosis (R154, R155) -/

theorem diagnose_ports (hon : s.ports[i].enabled = true) (r : Diag × Nat) :
    (diagnose i r s).ports = s.ports.set i { s.ports[i] with diag := r.1, forced := false, altAt := some (s.now + 2 * sec1) } := by
  unfold diagnose
  rw [if_neg (by rw [hon]; decide)]
  dsimp only
  split <;> rfl

theorem isActive_diagnose {w : Nat} (hw : w ≠ i.val) (x) (r : Diag × Nat) (s : State) : isActive x w (diagnose i r s) = isActive x w s := by
  unfold diagnose
  split
  · rfl
  · dsimp only
    split
    · exact isActive_raise_other hw ..
    · exact isActive_raise_other hw ..
    · rfl

theorem isActive_diagnose_self (hon : s.ports[i].enabled = true) {r : Diag × Nat} (hr : r.1 = .open ∨ r.1 = .short) :
    isActive 0xF402#16 i.val (diagnose i r s) = true := by
  unfold diagnose
  rw [if_neg (by rw [hon]; decide)]
  rcases hr with hr | hr <;> rw [hr] <;> exact isActive_raise_self rfl ..

theorem cableDiagnostic_runs {l : Nat} (a b : Diag × Nat) (hl : s.start.base = some l) (hawake : awake s = true)
    (hon0 : s.ports[0].enabled = true) (hon1 : s.ports[1].enabled = true) (hnone0 : s.ports[0].diag = .none) (hnone1 : s.ports[1].diag = .none) :
    Runs (.cableDiagnostic a b) s fun u =>
      u.ports[0].diag = a.1 ∧ u.ports[1].diag = b.1 ∧ u.ports[0].forced = false ∧ u.now = max s.now (l + 50 * ms1)
        ∧ (a.1 = .open ∨ a.1 = .short → isActive 0xF402#16 0 u = true) := by
  obtain ⟨v, hv, h⟩ := s.exists_upTo (l + 50 * ms1)
  have hv0 : v.ports[(0 : Fin 2)].enabled = true := (congrArg Port.enabled (h.port 0)).trans hon0
  have hv1 : v.ports[(1 : Fin 2)].enabled = true := (congrArg Port.enabled (h.port 1)).trans hon1
  have hports := diagnose_ports hv0 a
  have hw1 : (diagnose 0 a v).ports[(1 : Fin 2)].enabled = true := by
    rw [hports, get_set_fin_ne _ _ (by decide)]
    exact hv1
  rw [runs_iff]
  show Answers (execCableDiagnostic a b s) _
  unfold execCableDiagnostic
  rw [hl]
  dsimp only
  rw [any_ports, if_neg (by simp [hawake, hnone0, hnone1]), hv]
  have hboth := diagnose_ports hw1 b
  have h0 : (diagnose 1 b (diagnose 0 a v)).ports[(0 : Fin 2)]
      = { v.ports[(0 : Fin 2)] with diag := a.1, forced := false, altAt := some (v.now + 2 * sec1) } := by
    rw [hboth, get_set_fin_ne _ _ (by decide), hports, get_set_fin_self]
  have h1 : (diagnose 1 b (diagnose 0 a v)).ports[(1 : Fin 2)].diag = b.1 := by rw [hboth, get_set_fin_self]
  have hnow : (diagnose 1 b (diagnose 0 a v)).now = v.now :=
    (now_of_view (P := allBut []) (diagnose_view _ _ _ rfl)).trans (now_of_view (P := allBut []) (diagnose_view _ _ _ rfl))
  refine ⟨congrArg Port.diag h0, h1, congrArg Port.forced h0, hnow.trans h.now, fun ha => ?_⟩
  rw [isActive_diagnose (by decide)]
  exact isActive_diagnose_self hv0 ha

theorem cableDiagnostic_runs_done (a b : Diag × Nat) (hon0 : s.ports[0].enabled = true) (hon1 : s.ports[1].enabled = true)
    (hdone : s.ports[0].diag ≠ .none ∨ s.ports[1].diag ≠ .none) : Runs (.cableDiagnostic a b) s fun u => u = s := by
  rw [runs_iff]
  show Answers (execCableDiagnostic a b s) _
  unfold execCableDiagnostic
  split
  · rfl
  · rw [any_ports, if_pos (by rcases hdone with hd | hd <;> simp [hon0, hon1, hd])]
    rfl

/-! ### Links (R156 to R160) -/

section Alternate

variable {d : Nat} (hd : s.ports[i].altAt = some d) (hon : s.ports[i].enabled = true) (hphy : s.ports[i].phy = false)
  (hdiag : s.ports[i].diag ≠ .none)
include hd hon hphy hdiag

theorem linkModeAlternate_exec (page : Option AnPage) : ∃ v, Elapsed s d v ∧ v.ports[i].forced = s.ports[i].forced
    ∧ exec (.linkModeAlternate i page) s = .next (
      if !s.ports[i].forced && page.isSome then setPort i (fun p => { p with page := page, altAt := some (d + 2 * sec1) }) v
      else setPort i (fun p => { p with forced := !p.forced, altAt := some (d + 2 * sec1) }) v) := by
  obtain ⟨v, hv, h⟩ := s.exists_upTo d
  have hon' : v.ports[i].enabled = s.ports[i].enabled := (congrArg Port.enabled (h.port i) :)
  have hphy' : v.ports[i].phy = s.ports[i].phy := (congrArg Port.phy (h.port i) :)
  have hdiag' : v.ports[i].diag = s.ports[i].diag := (congrArg Port.diag (h.port i) :)
  have hforced' : v.ports[i].forced = s.ports[i].forced := (congrArg Port.forced (h.port i) :)
  refine ⟨v, h, hforced', ?_⟩
  show execLinkModeAlternate i page s = _
  unfold execLinkModeAlternate
  rw [hd]
  dsimp only
  rw [hv, hon', hphy', hdiag', hforced', if_neg (by rw [hon, hphy]; simpa using hdiag)]
  split <;> rfl

theorem linkModeAlternate_runs_forced (page) (hforced : s.ports[i].forced = true ∨ page = none) : Runs (.linkModeAlternate i page) s fun u =>
    u.ports[i].forced = !s.ports[i].forced ∧ u.ports[i].altAt = some (d + 2 * sec1) ∧ u.now = max s.now d := by
  obtain ⟨v, h, hforced', hexec⟩ := linkModeAlternate_exec hd hon hphy hdiag page
  refine ⟨_, hexec, ?_⟩
  beta_reduce
  rw [if_neg (by rcases hforced with hf | hf <;> rw [hf] <;> simp), setPort_self]
  exact ⟨congrArg (!·) hforced', rfl, h.now⟩

theorem linkModeAlternate_runs_page (page : AnPage) (hforced : s.ports[i].forced = false) : Runs (.linkModeAlternate i (some page)) s fun u =>
    u.ports[i].forced = false ∧ u.ports[i].page = some page ∧ u.ports[i].altAt = some (d + 2 * sec1) := by
  obtain ⟨v, h, hforced', hexec⟩ := linkModeAlternate_exec hd hon hphy hdiag (some page)
  refine ⟨_, hexec, ?_⟩
  beta_reduce
  rw [if_pos (by rw [hforced]; rfl), setPort_self]
  exact ⟨hforced'.trans hforced, rfl, rfl⟩

end Alternate

/-- The port whose PHY's link came up or was lost. -/
def linkChanged (i : Fin 2) (up : Bool) (page : Option AnPage) (now : Nat) (p : Port) : Port :=
  { p with
    phy := up, phySince := now, asleep := false
    page := if up && !p.forced then page else p.page
    eee := up && !p.forced && page.any (·.eee)
    master := if p.forced then seeksMaster i else page.elim p.master (resolveMaster (ownPage i))
    altAt := if up then none else some (now + 2 * sec1) }

/-- A change of the link: the port's own fields, of which the bare port is all that is spoken of. -/
theorem phyLinkChange_exec {up : Bool} {page : Option AnPage} (hon : s.ports[i].enabled = true) (hphy : s.ports[i].phy = !up)
    (hmay : up = true → mayLink s.ports[i] page = true) : ∃ v, Elapsed s t v
      ∧ exec (.phyLinkChange t i up page) s = .next (setPort i (linkChanged i up page (max s.now t)) v) := by
  obtain ⟨v, hv, h⟩ := s.exists_upTo t
  have hon' : v.ports[i].enabled = s.ports[i].enabled := (congrArg Port.enabled (h.port i) :)
  have hphy' : v.ports[i].phy = s.ports[i].phy := (congrArg Port.phy (h.port i) :)
  have hmay' : mayLink v.ports[i] page = mayLink s.ports[i] page := (congrArg (mayLink · page) (h.port i) :)
  refine ⟨v, h, ?_⟩
  show execPhyLinkChange t i up page s = _
  unfold execPhyLinkChange
  rw [hv]
  dsimp only
  rw [hon', hphy', hmay', hon, hphy, if_neg (by cases up <;> simp_all), h.now]
  rfl

theorem phyLinkChange_runs_forced (hon : s.ports[i].enabled = true) (hphy : s.ports[i].phy = false) (hdiag : s.ports[i].diag ≠ .none)
    (hforced : s.ports[i].forced = true) (page) : Runs (.phyLinkChange t i true page) s fun u =>
      u.ports[i].phy = true ∧ u.ports[i].phySince = max s.now t ∧ u.ports[i].up = s.ports[i].up
        ∧ u.ports[i].master = decide (i = 1) ∧ u.ports[i].eee = false ∧ u.ports[1 - i].phy = s.ports[1 - i].phy := by
  obtain ⟨v, h, hexec⟩ := phyLinkChange_exec (t := t) (up := true) (page := page) hon hphy
    fun _ => by rw [mayLink, hforced]; simpa using hdiag
  have hforced' : v.ports[i].forced = true := (congrArg Port.forced (h.port i)).trans hforced
  refine ⟨_, hexec, ?_⟩
  beta_reduce
  rw [setPort_self, setPort_ne (other_ne i)]
  refine ⟨rfl, rfl, (congrArg Port.up (h.port i) :), if_pos hforced', ?_, (congrArg Port.phy (h.port _) :)⟩
  show (true && !v.ports[i].forced && _) = false
  rw [hforced']
  rfl

theorem phyLinkChange_runs_page (hon : s.ports[i].enabled = true) (hphy : s.ports[i].phy = false) (hdiag : s.ports[i].diag ≠ .none)
    (hforced : s.ports[i].forced = false) (page : AnPage) (hsame : page.same = true) : Runs (.phyLinkChange t i true (some page)) s fun u =>
      u.ports[i].phy = true ∧ u.ports[i].page = some page ∧ u.ports[i].eee = page.eee
        ∧ (page.master ≠ decide (i = 1) → u.ports[i].master = decide (i = 1)) := by
  obtain ⟨v, h, hexec⟩ := phyLinkChange_exec (t := t) (up := true) (page := some page) hon hphy
    fun _ => by rw [mayLink, hforced]; simpa [hsame] using hdiag
  have hforced' : v.ports[i].forced = false := (congrArg Port.forced (h.port i)).trans hforced
  refine ⟨_, hexec, ?_⟩
  beta_reduce
  rw [setPort_self]
  unfold linkChanged
  rw [hforced']
  refine ⟨rfl, rfl, rfl, fun hmaster => ?_⟩
  have hseeks : seeksMaster i = decide (i = 1) := rfl
  show (if (seeksMaster i != page.master) = true then seeksMaster i else _) = _
  rw [hseeks, if_pos (by simpa using hmaster.symm)]

theorem phyLinkChange_runs_down (hon : s.ports[i].enabled = true) (hphy : s.ports[i].phy = true) (page) :
    Runs (.phyLinkChange t i false page) s fun u =>
      u.ports[i].phy = false ∧ u.ports[i].phySince = max s.now t ∧ u.ports[i].altAt = some (max s.now t + 2 * sec1)
        ∧ u.ports[i].up = s.ports[i].up ∧ u.ports[1 - i].phy = s.ports[1 - i].phy := by
  obtain ⟨v, h, hexec⟩ := phyLinkChange_exec (t := t) (up := false) (page := page) hon hphy nofun
  refine ⟨_, hexec, ?_⟩
  beta_reduce
  rw [setPort_self, setPort_ne (other_ne i)]
  exact ⟨rfl, rfl, rfl, (congrArg Port.up (h.port i) :), (congrArg Port.phy (h.port _) :)⟩

/-- Five changes within the minute raise F401, where it is not active yet, and leave the rest as it is. -/
theorem flapping {n : Nat} {detail : List Byte} {x u : State}
    (hu : (if (decide (5 ≤ n) && !isActive 0xF401#16 i.val x) = true then raise 0xF401#16 i.val detail x else x) = u) :
    u.ports = x.ports ∧ u.now = x.now ∧ isActive 0xF400#16 i.val u = isActive 0xF400#16 i.val x
      ∧ (5 ≤ n → isActive 0xF401#16 i.val u = true) := by
  split at hu
  · rw [← hu]
    exact ⟨rfl, rfl, isActive_raise_ne (by decide) .., fun _ => isActive_raise_self rfl ..⟩
  next hnot =>
    rw [← hu]
    refine ⟨rfl, rfl, rfl, fun hn => ?_⟩
    simpa [hn] using hnot

/-- A link declared up or down: F400 is active where it is down. -/
theorem declared {d : List Byte} {g : Gptp} {x u : State}
    (hu : (if x.ports[i].up = true then clear 0xF400#16 i.val { x with gptp := g } else raise 0xF400#16 i.val d x) = u) :
    u.ports = x.ports ∧ u.now = x.now ∧ isActive 0xF400#16 i.val u = !x.ports[i].up := by
  split at hu
  next hup => rw [← hu, hup]; exact ⟨rfl, rfl, isActive_clear_self ..⟩
  next hup =>
    rw [Bool.not_eq_true] at hup
    rw [← hu, hup]
    exact ⟨rfl, rfl, isActive_raise_self rfl ..⟩

theorem linkDeclare_runs (hon : s.ports[i].enabled = true) (hphy : s.ports[i].phy ≠ s.ports[i].up) : Runs (.linkDeclare i) s fun u =>
    u.ports[i].up = s.ports[i].phy ∧ u.ports[i].asCapable = false ∧ u.now = max s.now (s.ports[i].phySince + 200 * ms1)
      ∧ isActive 0xF400#16 i.val u = !s.ports[i].phy
      ∧ (4 ≤ (s.ports[i].changes.filter (fun c => decide (u.now < c + 60 * sec1))).length → isActive 0xF401#16 i.val u = true) := by
  obtain ⟨v, hv, h⟩ := s.exists_upTo (s.ports[i].phySince + 200 * ms1)
  have hvphy : v.ports[i].phy = s.ports[i].phy := (congrArg Port.phy (h.port i) :)
  rw [runs_iff]
  show Answers (execLinkDeclare i s) _
  unfold execLinkDeclare
  extract_lets p w l x g y
  have hw : w = v := hv
  obtain ⟨hports, hnow, hdown⟩ := declared (x := x) (u := y) rfl
  have hon' : p.enabled = true := hon
  have hphy' : p.phy ≠ p.up := hphy
  rw [if_neg (by rw [hon']; simpa using hphy'), answers_next]
  generalize hu : (if (decide (5 ≤ l.length) && !isActive 0xF401#16 i.val y) = true then raise 0xF401#16 i.val (be 1 i.val) y else y) = u
  obtain ⟨hports', hnow', hdown', hflaps⟩ := flapping hu
  have hself := setPort_self (i := i) (fun p => { p with
      up := p.phy, changes := l
      asCapable := false, pdelayOk := 0, pdelayDone := 0, pdelaySent := none, pdelayLost := 0, best1 := none, annDeadline := none
      pdelayAt := if p.phy then some w.now else none
      announceAt := if p.phy then some w.now else none
      syncAt := if p.phy then some w.now else none }) w
  have hup : x.ports[i].up = s.ports[i].phy := (congrArg Port.up hself).trans (hw ▸ hvphy)
  have hunow : u.now = w.now := (hnow'.trans hnow).trans (setPort_now _ w)
  refine ⟨by rw [hports', hports, hup], by rw [hports', hports]; exact congrArg Port.asCapable hself, by rw [hunow, hw, h.now],
    by rw [hdown', hdown, hup], fun hfour => hflaps ?_⟩
  rw [hunow] at hfour
  exact Nat.succ_le_succ hfour

theorem linkUpDeadline_runs {b : Nat} (hb : s.start.base = some b) (hon : s.ports[i].enabled = true) (hdiag : s.ports[i].diag = .good)
    (hup : s.ports[i].up = false) : Runs (.linkUpDeadline i) s fun u =>
      isActive 0xF400#16 i.val u = true ∧ u.now = max s.now (b + 10 * sec1) := by
  obtain ⟨v, hv, h⟩ := s.exists_upTo (b + 10 * sec1)
  have hon' : v.ports[i].enabled = s.ports[i].enabled := (congrArg Port.enabled (h.port i) :)
  have hup' : v.ports[i].up = s.ports[i].up := (congrArg Port.up (h.port i) :)
  have hdiag' : v.ports[i].diag = s.ports[i].diag := (congrArg Port.diag (h.port i) :)
  rw [runs_iff]
  show Answers (execLinkUpDeadline i s) _
  unfold execLinkUpDeadline
  rw [hb]
  dsimp only
  rw [hv, if_pos (by rw [hon', hup', hdiag', hon, hdiag, hup]; rfl)]
  exact ⟨isActive_raise_self rfl .., h.now⟩

theorem linkChangeQuiet_runs {c : Nat} {l : List Nat} (hc : s.ports[i].changes = c :: l) : Runs (.linkChangeQuiet i) s fun u =>
    isActive 0xF401#16 i.val u = false ∧ u.ports[i].changes = [] ∧ u.now = max s.now (c + 60 * sec1) := by
  obtain ⟨v, hv, h⟩ := s.exists_upTo (c + 60 * sec1)
  rw [runs_iff]
  show Answers (execLinkChangeQuiet i s) _
  unfold execLinkChangeQuiet
  rw [hc]
  dsimp only
  rw [hv]
  refine ⟨isActive_clear_self .., ?_, h.now⟩
  rw [clear_ports, setPort_self]

theorem partnerAsleep_runs (t) (i : Fin 2) (s : State) : Runs (.partnerAsleep t i) s fun u =>
    u.ports[i].asleep = s.ports[i].phy ∧ u.ports[i].up = s.ports[i].up := by
  obtain ⟨v, hv, h⟩ := s.exists_upTo t
  rw [runs_iff]
  show Answers (.next (setPort i (fun p => { p with asleep := p.phy }) (s.upTo t))) _
  rw [hv, answers_next, setPort_self]
  exact ⟨(congrArg Port.phy (h.port i) :), (congrArg Port.up (h.port i) :)⟩

/-! ### PoDL (R161, R168) -/

theorem podlClassification_runs (hsignature : s.podl.signature = true) : Runs (.podlClassification t) s fun u =>
    u.podl.classifiedAt = some (max s.now t) ∧ u.podl.answer = [0, 1, 4, 5] ∧ u.podl.enable = s.podl.enable := by
  obtain ⟨v, hv, h⟩ := s.exists_upTo t
  rw [runs_iff]
  show Answers (execPodlClassification t s) _
  unfold execPodlClassification
  rw [hv]
  dsimp only
  rw [h.podl, if_pos hsignature]
  exact ⟨congrArg some h.now, rfl, rfl⟩

theorem podlPowerApplied_runs (mv : Nat) (v24 : Bool) (hsignature : s.podl.signature = true) : Runs (.podlPowerApplied t v24 mv) s fun u =>
    u.podl.enable = true ∧ u.podl.volts24 = v24 ∧ u.podl.classifiedAt = none ∧ anyActive 0xFA40#16 u = false ∧ u.plant.pairMv = mv := by
  obtain ⟨v, hv, h⟩ := s.exists_upTo t
  rw [runs_iff]
  show Answers (execPodlPowerApplied t v24 mv s) _
  unfold execPodlPowerApplied
  rw [hv]
  dsimp only
  rw [h.podl, if_pos hsignature]
  exact ⟨rfl, rfl, rfl, anyActive_clearAll_self .., rfl⟩

theorem podlPowerTimeout_runs {c : Nat} (hc : s.podl.classifiedAt = some c) (hrun : s.start.tRun.isSome = true) (hlink : linkPodl (lvlD s 6) = true)
    (henable : s.podl.enable = false) : Runs .podlPowerTimeout s fun u =>
      anyActive 0xFA40#16 u = true ∧ u.podl.classifiedAt = none ∧ u.now = max s.now (c + 2 * sec1) := by
  obtain ⟨v, hv, h⟩ := s.exists_upTo (c + 2 * sec1)
  rw [runs_iff]
  show Answers (execPodlPowerTimeout s) _
  unfold execPodlPowerTimeout
  rw [hc]
  dsimp only
  rw [hv, if_pos (by
    show (v.start.tRun.isSome && linkPodl (lvlD v 6) && !v.podl.enable) = true
    rw [h.start, h.lvlD, h.podl, hrun, hlink, henable]
    rfl)]
  exact ⟨anyActive_raise_self rfl .., rfl, h.now⟩

/-- Settles O39: the diagnosis, the link and its declaration, and the classification and power of PoDL. -/
theorem portsRun : Obligations.PortsRun := by
  refine ⟨fun _ _ a b hl hawake hon0 hon1 => ⟨cableDiagnostic_runs a b hl hawake hon0 hon1, cableDiagnostic_runs_done a b hon0 hon1⟩,
    fun _ _ _ page hd hon hphy hdiag => linkModeAlternate_runs_forced hd hon hphy hdiag page,
    fun _ _ _ page hd hon hphy hdiag => linkModeAlternate_runs_page hd hon hphy hdiag page, fun _ _ _ hon => ⟨?_, ?_, ?_⟩,
    fun _ _ => linkDeclare_runs, fun _ _ _ => linkUpDeadline_runs, fun _ _ _ _ => linkChangeQuiet_runs,
    fun s t i => partnerAsleep_runs t i s, fun _ _ => podlClassification_runs, fun _ _ mv v24 => podlPowerApplied_runs mv v24,
    fun _ _ => podlPowerTimeout_runs⟩
  · exact phyLinkChange_runs_forced hon
  · exact phyLinkChange_runs_page hon
  · exact phyLinkChange_runs_down hon

end Sys2Proof.Machine
end

/-! # The switch and the leaders heard (O40, chapters 4 and 7)

Frames forwarded, flows that idle out, leaders heard and missed, and a frame that waits while SYS is stopped. -/

section
namespace Sys2Proof.Machine

open Sys2Proof


variable {s u v : State} {t : Nat} {i : Fin 2} {f : NetFrame}

/-! ### Faults of another code -/

/-- What holds of both branches holds. -/
theorem holds_ite {α : Type} {c : Prop} [Decidable c] {p : α → Prop} {a b : α} (ha : p a) (hb : p b) : p (if c then a else b) := by
  split
  · exact ha
  · exact hb

theorem anyActive_iff (x : BitVec 16) (s : State) : anyActive x s = true ↔ ∃ a ∈ s.status.active, a.code = x := by
  simp [anyActive]

theorem anyActive_raise_ne {x code : BitVec 16} (h : code ≠ x) (unit detail) (s : State) :
    anyActive x (raise code unit detail s) = anyActive x s := by
  rw [Bool.eq_iff_iff, anyActive_iff, anyActive_iff, raise_active]
  split
  · simp only [List.mem_cons, List.mem_filter]
    grind
  · exact Iff.rfl

theorem anyActive_clearAll_ne {x code : BitVec 16} (h : code ≠ x) (s : State) : anyActive x (clearAll code s) = anyActive x s := by
  have hactive : (clearAll code s).status.active = s.status.active.filter (fun a => a.code != code) := rfl
  rw [Bool.eq_iff_iff, anyActive_iff, anyActive_iff, hactive]
  grind

theorem raise_heard (code unit detail) (s : State) : (raise code unit detail s).status.heard = s.status.heard := by
  show (faultEventStatus s.gptp.time code detail s).heard = s.status.heard
  simp only [faultEventStatus]
  split <;> rfl

/-! ### The switch (R162, R163) -/

/-- A frame arrived at a port: the state it finds, in which the port's partner is awake. -/
theorem exists_arrived (s : State) (t : Nat) (i : Fin 2) : ∃ w, setPort i (fun p => { p with asleep := false }) (s.upTo t) = w
    ∧ w.now = max s.now t ∧ w.ports[i].asleep = false ∧ w.ports[i].up = s.ports[i].up ∧ w.ports[i].phy = s.ports[i].phy
    ∧ w.start = s.start ∧ w.switch = s.switch ∧ w.streams = s.streams ∧ w.aon = s.aon ∧ w.eui48 = s.eui48 ∧ w.well = s.well := by
  obtain ⟨v, hv, h⟩ := s.exists_upTo t
  refine ⟨_, rfl, ?_⟩
  rw [hv, setPort_self]
  exact ⟨h.now, rfl, (congrArg Port.up (h.port i) :), (congrArg Port.phy (h.port i) :), h.start, h.switch, h.streams, h.aon, h.eui48, h.well⟩

theorem frameIngress_runs_refused (hadmits : switchAdmits f = false) :
    Runs (.frameIngress t i f) s fun u => u.switch = s.switch ∧ u.streams = s.streams ∧ u.ports[i].asleep = false := by
  obtain ⟨w, hw, -, hasleep, -, -, -, hswitch, hstreams, -⟩ := exists_arrived s t i
  have hin : switchIn i f w = seePair f w := by
    unfold switchIn
    dsimp only
    rw [if_pos (by rw [hadmits]; simp)]
    split <;> rfl
  rw [runs_iff]
  show Answers (execFrameIngress t i f s) _
  unfold execFrameIngress crossIn
  rw [hw]
  dsimp only
  split
  · exact ⟨hswitch, hstreams, hasleep⟩
  · rw [answers_next]
    split
    · exact ⟨hswitch, hstreams, hasleep⟩
    · rw [hin]
      exact ⟨(switch_of_allBut (seePair_view _ _ rfl)).trans hswitch, (streams_of_allBut (seePair_view _ _ rfl)).trans hstreams, 
        (congrArg (fun ps : Vector Port 2 => ps[i].asleep) (ports_of_allBut (seePair_view w f rfl))).trans hasleep⟩

/-- The frame on offer to the own endpoints. -/
def offerFrame (f : NetFrame) (s : State) : State := if isOffered s f then { s with switch := { s.switch with offered := some f } } else s

theorem frameIngress_runs_forwards {l : List Flow} (hbody : ∀ m, f.body ≠ .gptp m) (hawake : awake s = true) (hup : s.ports[i].up = true)
    (hphy : s.ports[i].phy = true) (hrunning : sysStopped s = false) (hslumber : inMode .slumber s = false) (htables : s.switch.tables = true)
    (hadmits : switchAdmits f = true) (hsrc : f.src ≠ s.eui48)
    (hflow : forwardFlow (max s.now t) f ((f.sec.map (·.pn)).getD 0) s.switch.flows = some l) :
    Runs (.frameIngress t i f) s fun u => u.switch.flows = l ∧ u.well = s.well := by
  obtain ⟨w, hw, hnow, -, hwup, hwphy, hstart, hswitch, -, haon, heui, hwell⟩ := exists_arrived s t i
  have hgo : (!awake w || !w.ports[i].up || !w.ports[i].phy) = false := by
    rw [awake, hstart, hwup, hwphy, hup, hphy]
    simpa [awake] using hawake
  have hstopped : sysStopped w = false := by rw [sysStopped, haon]; exact hrunning
  have hin : switchIn i f w = forwardFrame i f (offerFrame f (checkShared f (seePair f w))) := by
    unfold switchIn
    dsimp only
    rw [if_neg (by
      rw [inMode, start_of_allBut (seePair_view w f rfl), switch_of_allBut (seePair_view w f rfl), hswitch, hstart, htables, hadmits,
        eui48_of_view (P := allBut []) (seePair_view w f rfl), heui]
      simpa [inMode, hsrc] using hslumber)]
    split
    · next m hm => exact absurd hm (hbody m)
    · rfl
  rw [runs_iff]
  show Answers (execFrameIngress t i f s) _
  unfold execFrameIngress crossIn
  rw [hw]
  dsimp only
  rw [hgo, if_neg Bool.false_ne_true, hstopped, if_neg Bool.false_ne_true, hin, answers_next, well_of_allBut (forwardFrame_view _ _ _ rfl)]
  have hoffer (y : State) : (offerFrame f y).well = y.well ∧ (offerFrame f y).now = y.now ∧ (offerFrame f y).switch.flows = y.switch.flows :=
    holds_ite (p := fun u : State => u.well = y.well ∧ u.now = y.now ∧ u.switch.flows = y.switch.flows) ⟨rfl, rfl, rfl⟩ ⟨rfl, rfl, rfl⟩
  obtain ⟨howell, honow, hoflows⟩ := hoffer (checkShared f (seePair f w))
  rw [switch_of_allBut (checkShared_view _ _ rfl), switch_of_allBut (seePair_view _ _ rfl)] at hoflows
  rw [now_of_view (P := allBut []) (checkShared_view _ _ rfl), now_of_view (P := allBut []) (seePair_view _ _ rfl)] at honow
  refine ⟨?_, ?_⟩
  · unfold forwardFrame
    rw [honow, hnow, hoflows, hswitch, hflow]
    exact holds_ite (p := fun u : State => u.switch.flows = l) rfl rfl
  · rw [howell, well_of_allBut (checkShared_view _ _ rfl), well_of_allBut (seePair_view _ _ rfl), hwell]

theorem flowIdleExpiry_runs {w : Flow} (hw : s.switch.flows.find? (fun x => x.src == w.src && x.dst == w.dst) = some w) :
    Runs (.flowIdleExpiry w.src w.dst) s fun u =>
      w ∉ u.switch.flows ∧ u.switch.flows.Sublist s.switch.flows ∧ u.now = max s.now (w.last + 20 * ms1) := by
  obtain ⟨v, hv, h⟩ := s.exists_upTo (w.last + 20 * ms1)
  rw [runs_iff]
  show Answers (execFlowIdleExpiry w.src w.dst s) _
  unfold execFlowIdleExpiry
  rw [hw]
  dsimp only
  rw [hv, h.switch]
  refine ⟨fun hmem => ?_, List.filter_sublist, h.now⟩
  have := (List.mem_filter.mp hmem).2
  simp at this

/-! ### Leaders heard (R103, R591, R592) -/

theorem leaderAbsent_heard (n : BitVec 8) (s : State) : (leaderAbsent n s).status.heard = s.status.heard.filter (fun x => x.1 != n) := by
  unfold leaderAbsent
  extract_lets heard src w x
  exact holds_ite (p := fun u : State => u.status.heard = _) (raise_heard ..) rfl

theorem isActive_leaderAbsent (n : BitVec 8) (s : State) : isActive 0xF500#16 n.toNat (leaderAbsent n s) = false := by
  unfold leaderAbsent
  extract_lets heard src w x
  have hx : isActive 0xF500#16 n.toNat x = false := isActive_clear_self ..
  exact holds_ite (p := fun u : State => isActive 0xF500#16 n.toNat u = false) ((isActive_raise_ne (by decide) ..).trans hx) hx

theorem leaderAbsentTimeout_runs_node {n : BitVec 8} {at_ : Nat} (hn : s.status.heard.find? (fun x => x.1 == n) = some (n, at_)) :
    Runs (.leaderAbsentTimeout (some n)) s fun u =>
      u.status.heard = s.status.heard.filter (fun x => x.1 != n) ∧ u.now = max s.now (at_ + 3 * sec1) ∧ isActive 0xF500#16 n.toNat u = false := by
  obtain ⟨v, hv, h⟩ := s.exists_upTo (at_ + 3 * sec1)
  have hheard : v.status.heard = s.status.heard := (congrArg Status.heard h.status :)
  rw [runs_iff]
  show Answers (execLeaderAbsentTimeout (some n) s) _
  unfold execLeaderAbsentTimeout
  dsimp only
  rw [hn]
  dsimp only
  rw [hv, answers_next, leaderAbsent_heard, hheard, now_of_view (P := allBut []) (leaderAbsent_view _ _ rfl)]
  exact ⟨rfl, h.now, isActive_leaderAbsent ..⟩

theorem leaderAbsentTimeout_runs_silent (hnone : s.status.heard = []) (hmode : inMode .member s = true) (hactive : anyActive 0xF410#16 s = false) :
    Runs (.leaderAbsentTimeout none) s fun u => anyActive 0xF410#16 u = true ∧ u.now = max s.now (s.status.silentFrom + 3 * sec1) := by
  obtain ⟨v, hv, h⟩ := s.exists_upTo (s.status.silentFrom + 3 * sec1)
  rw [runs_iff]
  show Answers (execLeaderAbsentTimeout none s) _
  unfold execLeaderAbsentTimeout
  dsimp only
  rw [if_pos (by simp [hnone, hmode, hactive]), hv]
  exact ⟨anyActive_raise_self rfl .., h.now⟩

theorem sharedNodeAddressQuiet_runs {l : Nat} (hl : s.status.sharedSeen = some l) : Runs .sharedNodeAddressQuiet s fun u =>
    anyActive 0xF411#16 u = false ∧ u.status.sharedSeen = none ∧ u.now = max s.now (l + 60 * sec1) := by
  obtain ⟨v, hv, h⟩ := s.exists_upTo (l + 60 * sec1)
  rw [runs_iff]
  show Answers (execSharedNodeAddressQuiet s) _
  unfold execSharedNodeAddressQuiet
  rw [hl]
  dsimp only
  rw [hv]
  exact ⟨anyActive_clearAll_self .., rfl, h.now⟩

theorem hearLeader_heard (teaches n) (s : State) : (n, s.now) ∈ (hearLeader teaches n s).status.heard := by
  unfold hearLeader
  extract_lets heard src w x
  have hx : x.status.heard = heard := holds_ite (p := fun u : State => u.status.heard = heard) rfl rfl
  have hmem : (n, s.now) ∈ x.status.heard := hx ▸ List.mem_cons_self
  exact holds_ite (p := fun u : State => (n, s.now) ∈ u.status.heard) ((raise_heard ..).symm ▸ hmem) hmem

theorem anyActive_hearLeader (teaches n) (s : State) : anyActive 0xF410#16 (hearLeader teaches n s) = false := by
  unfold hearLeader
  extract_lets heard src w x
  have hx : anyActive 0xF410#16 x = false := by
    by_cases hw : anyActive 0xF410#16 w = true
    · exact (congrArg _ (if_pos hw)).trans (anyActive_clearAll_self ..)
    · exact (congrArg _ (if_neg hw)).trans (Bool.eq_false_iff.mpr hw)
  exact holds_ite (p := fun u : State => anyActive 0xF410#16 u = false) ((anyActive_raise_ne (by decide) ..).trans hx) hx

theorem endpointIn_offered (hoffered : isOffered s f = true) (hrunning : sysStopped s = false) (work : State → State) :
    endpointIn f work s = work s := by
  unfold endpointIn crossIn
  rw [if_pos hoffered, if_neg (by rw [hrunning]; exact Bool.false_ne_true)]

theorem takeHeartbeat_heard (addressed) {b : List Byte} (hleads : at8 b 8 = 3#8) (s : State) :
    (at8 b 5, s.now) ∈ (takeHeartbeat addressed b s).status.heard ∧ anyActive 0xF410#16 (takeHeartbeat addressed b s) = false := by
  unfold takeHeartbeat
  extract_lets leads w beacon src x keeps
  have hleads' : leads = true := by
    show ((at8 b 8).toNat == 3) = true
    rw [hleads]
    rfl
  have hw : (at8 b 5, s.now) ∈ w.status.heard ∧ anyActive 0xF410#16 w = false := by
    have hw : w = hearLeader true (at8 b 5) s := if_pos hleads'
    rw [hw]
    exact ⟨hearLeader_heard .., anyActive_hearLeader ..⟩
  have hx : (at8 b 5, s.now) ∈ x.status.heard ∧ anyActive 0xF410#16 x = false :=
    holds_ite (p := fun u : State => (at8 b 5, s.now) ∈ u.status.heard ∧ anyActive 0xF410#16 u = false)
      (holds_ite (p := fun u : State => (at8 b 5, s.now) ∈ u.status.heard ∧ anyActive 0xF410#16 u = false)
        ⟨hw.1, (anyActive_clearAll_ne (by decide) _).trans hw.2⟩ hw) hw
  exact holds_ite (p := fun u : State => (at8 b 5, s.now) ∈ u.status.heard ∧ anyActive 0xF410#16 u = false) hx hx

theorem fumaroleFrameReceive_runs_heartbeat {e : BitVec 16} {b : List Byte} (hreceived : Received s t f) (hkind : dstKind f.dst = 4)
    (hbody : f.body = .bytes e b) (hhead : b.take 3 = [0xC3#8, 0x3C#8, 0x10#8]) (hleads : at8 b 8 = 3#8) :
    Runs (.fumaroleFrameReceive t f) s fun u => (at8 b 5, max s.now t) ∈ u.status.heard ∧ anyActive 0xF410#16 u = false := by
  obtain ⟨v, hv, h⟩ := s.exists_upTo t
  obtain ⟨hoffered, hrunning, hverify⟩ := hreceived
  rw [hv] at hoffered hverify
  obtain ⟨x, y, z, b', rfl⟩ : ∃ x y z b', b = x :: y :: z :: b' := by
    match b, hhead with
    | x :: y :: z :: b', _ => exact ⟨x, y, z, b', rfl⟩
  cases hhead
  rw [runs_iff]
  show Answers (execFumaroleFrameReceive t f s) _
  unfold execFumaroleFrameReceive
  rw [hv]
  dsimp only
  rw [if_neg (by rw [hkind]; decide), endpointIn_offered hoffered (h.sysStopped.trans hrunning)]
  unfold verified
  rw [hverify, hbody]
  dsimp only
  rw [if_pos (by simp [at8]), answers_next, ← h.now, ← now_of_view (P := allBut []) (noteSci_view v f rfl)]
  exact takeHeartbeat_heard _ hleads (noteSci f v)

theorem fumaroleFrameReceive_runs_integrity (hoffered : isOffered (s.upTo t) f = true) (hrunning : sysStopped s = false) (hkind : dstKind f.dst = 4)
    (hverify : verify (s.upTo t) f = .integrity) : Runs (.fumaroleFrameReceive t f) s fun u =>
      u.status.heard = s.status.heard ∧ u.sec = s.sec ∧ u.sleep = s.sleep ∧ u.streams = s.streams := by
  obtain ⟨v, hv, h⟩ := s.exists_upTo t
  rw [hv] at hoffered hverify
  have hheard : v.status.heard = s.status.heard := (congrArg Status.heard h.status :)
  rw [runs_iff]
  show Answers (execFumaroleFrameReceive t f s) _
  unfold execFumaroleFrameReceive
  rw [hv]
  dsimp only
  rw [if_neg (by rw [hkind]; decide), endpointIn_offered hoffered (h.sysStopped.trans hrunning)]
  unfold verified
  rw [hverify]
  exact ⟨(raise_heard ..).trans hheard, h.sec, h.sleep, h.streams⟩

theorem fumaroleFrameReceive_runs_stopped (hoffered : isOffered (s.upTo t) f = true) (hstopped : sysStopped s = true) (hkind : dstKind f.dst = 4) :
    Runs (.fumaroleFrameReceive t f) s fun u =>
      u.status = (s.upTo t).status ∧ u.sec = s.sec
        ∧ ∃ q : Fin 10, u.cross[q].words + u.cross[q].drops = s.cross[q].words + s.cross[q].drops + (f.octets + 7) / 8
            ∧ (s.cross[q].words ≤ 64 → u.cross[q].words ≤ 64) := by
  obtain ⟨v, hv, h⟩ := s.exists_upTo t
  rw [hv] at hoffered ⊢
  rw [runs_iff]
  show Answers (execFumaroleFrameReceive t f s) _
  unfold execFumaroleFrameReceive endpointIn crossIn
  rw [hv]
  dsimp only
  rw [if_neg (by rw [hkind]; decide), if_pos hoffered, if_pos (h.sysStopped.trans hstopped), answers_next]
  refine ⟨rfl, h.sec, hearingPort v, ?_⟩
  dsimp only
  rw [get_set_fin_self, h.cross]
  unfold Crossing.arrive crossDepth frameWords
  dsimp only
  omega

/-- Settles O40: frames admitted and refused, flows that idle out, leaders heard and missed, and what a stopped SYS leaves waiting. -/
theorem switchRuns : Obligations.SwitchRuns :=
  ⟨fun _ _ _ _ _ => frameIngress_runs_refused, fun _ _ _ _ _ => frameIngress_runs_forwards, fun _ _ => flowIdleExpiry_runs,
    fun _ _ _ => leaderAbsentTimeout_runs_node, fun _ => leaderAbsentTimeout_runs_silent, fun _ _ => sharedNodeAddressQuiet_runs,
    fun _ _ _ _ _ => fumaroleFrameReceive_runs_heartbeat, fun _ _ _ => fumaroleFrameReceive_runs_integrity,
    fun _ _ _ => fumaroleFrameReceive_runs_stopped⟩

end Sys2Proof.Machine
end

/-! # Streams (O41, chapters 8 and 10)

A partner in step sends no CRF frame, against the clause that asks it of every state. -/

section
namespace Sys2Proof.Machine

open Sys2Proof


/-- The partner of a hot pair, in step, whose CRF frame of the block is still to leave. -/
def partnerInStep : State :=
  { State.reset with
    start := { State.reset.start with mode := some .partner }
    straps := { State.reset.straps with level := State.reset.straps.level.set 3 (some 7) }
    blocks := { State.reset.blocks with running := true }
    red := { State.reset.red with state := .inStep }
    streams := { State.reset.streams with crf := { State.reset.streams.crf with next := 0 } } }

/-- A partner in step sends no CRF frame at this command: it sends a step's frames once it holds the step's block frame (R217). -/
theorem crfFrameSend_partnerInStep : exec .crfFrameSend partnerInStep = .next partnerInStep := by
  have hstep : hotInStep partnerInStep = true := by decide
  show execCrfFrameSend partnerInStep = _
  unfold execCrfFrameSend
  rw [hstep, if_pos (by simp)]

/-- Refutes O41: the clause on `crfFrameSend` asks that the frame count as sent from every state, and so of a partner in step too,
which leaves its stream as it is. -/
theorem not_streamsRun : ¬ Obligations.StreamsRun := by
  rintro ⟨-, hcrf, -⟩
  obtain ⟨u, hexec, hnext, -⟩ := hcrf partnerInStep (by decide)
  rw [crfFrameSend_partnerInStep] at hexec
  cases hexec
  exact absurd hnext (by decide)

end Sys2Proof.Machine
end

/-! # Frames of a pair (O42, chapter 10)

What a frame heard notes, its work, slots and collisions. -/

section
namespace Sys2Proof.Machine

open Sys2Proof


variable {s u v : State} {t : Nat}

/-! ### Frames put on the line -/

/-- What a reply or a slot puts on the line: frames behind those that wait, and the requests and the image they took. -/
def Redundancy.Filled (r r' : Redundancy) : Prop :=
  ∃ l q a o, r' = { r with tie := { r.tie with frames := r.tie.frames ++ l }, requests := q, sending := a, sendOff := o }

theorem Redundancy.Filled.refl (r : Redundancy) : r.Filled r := ⟨[], r.requests, r.sending, r.sendOff, by rw [List.append_nil]⟩

theorem Redundancy.Filled.trans {r r' r'' : Redundancy} (h : r.Filled r') (k : r'.Filled r'') : r.Filled r'' := by
  obtain ⟨l, q, a, o, rfl⟩ := h
  obtain ⟨l', q', a', o', rfl⟩ := k
  exact ⟨l ++ l', q', a', o', by rw [List.append_assoc]⟩

theorem Redundancy.Filled.frames {r r' : Redundancy} (h : r.Filled r') : r.tie.frames <+: r'.tie.frames := by
  obtain ⟨l, q, a, o, rfl⟩ := h
  exact List.prefix_append ..

theorem tiePut_filled (f : TieFrame) (s : State) : s.red.Filled (tiePut f s).red := ⟨[f], s.red.requests, s.red.sending, s.red.sendOff, rfl⟩

theorem fillSlot_filled (used n : Nat) (s : State) : s.red.Filled (fillSlot used n s).red := by
  induction n generalizing used s with
  | zero => exact .refl _
  | succ n ih =>
    unfold fillSlot
    split
    next r rest _ =>
      exact holds_ite (p := fun u : State => s.red.Filled u.red)
        (.trans ⟨[tieFrame s 4 r], rest, s.red.sending, s.red.sendOff, rfl⟩ (ih ..)) (.refl _)
    · split
      next img _ =>
        exact holds_ite (p := fun u : State => s.red.Filled u.red)
          (.trans ⟨[tieFrame s 3 (chunkPayload img s.red.sendOff)], s.red.requests, _, s.red.sendOff + 1024, rfl⟩ (ih ..)) (.refl _)
      · exact .refl _

theorem tieReply_filled (frame : TieFrame) (s : State) : s.red.Filled (tieReply frame s).red := by
  unfold tieReply
  split
  · exact .refl _
  · exact (tiePut_filled ..).trans (fillSlot_filled ..)

/-! ### A frame heard (R217, R221) -/

/-- What the arrival of a frame of the pair notes. -/
structure Noted (h : TieHead) (now : Nat) (r : Redundancy) : Prop where
  lastFrame : r.lastFrame = now
  heardSlot : r.heardSlot = true
  hbAt : h.kind = 1 → r.hbAt = now
  peerLeader : r.peerLeader = h.flags.getLsbD 0

theorem ask_red (code arg : Nat) (s : State) : ∃ q, (ask code arg s).red = { s.red with requests := q } := by
  unfold ask
  split
  · exact ⟨s.red.requests, red_of_allBut (sendPartner_view _ _ _ rfl)⟩
  · exact ⟨_, rfl⟩

theorem contactWork_noted {h : TieHead} {now : Nat} (hs : Noted h now s.red) : Noted h now (contactWork s).red ∧ (contactWork s).red.contact = s.red.contact := by
  unfold contactWork
  split
  · split
    · unfold startResync
      obtain ⟨q, hq⟩ := ask_red 1 0 { s with
        red := { s.red with
          state := .joining, resyncAt := some s.now, rxCkpt := {}, ringUsed := 0, replayed := false, closeAt := none
          closed := [], outHere := none, leaveStep := none }
        thr := { s.thr with replay := [] } }
      rw [hq]
      exact ⟨⟨hs.lastFrame, hs.heardSlot, hs.hbAt, hs.peerLeader⟩, rfl⟩
    · exact ⟨⟨hs.lastFrame, hs.heardSlot, hs.hbAt, hs.peerLeader⟩, rfl⟩
  · exact ⟨hs, rfl⟩

/-- A frame heard ends the wait after a collision. -/
def resumeTie (s : State) : State :=
  match s.red.tie.retry with
    | some f => tiePut f { s with red := { s.red with tie := { s.red.tie with retry := none, resumeNs := 0 } } }
    | none => s

theorem resumeTie_red (s : State) : ∃ x, (resumeTie s).red = { s.red with tie := x } := by
  unfold resumeTie
  split
  · exact ⟨_, rfl⟩
  · exact ⟨s.red.tie, rfl⟩

theorem resumeTie_view {P} (s : State) (hP : List.all [.red] P) : view P (resumeTie s) = view P s := by
  simp at hP
  unfold resumeTie
  split <;> simp [tiePut, ↓view_update, ringPlaces, hP]

/-- The state in which a frame's arrival is noted, before contact is made on it. -/
def noteFrame (h : TieHead) (s : State) : State :=
  let s := { s with red := { s.red with
    lastFrame := s.now, heardSlot := true
    hbAt := if h.kind = 1 then s.now else s.red.hbAt
    peerLeader := h.flags.getLsbD 0, peerInStep := h.flags.getLsbD 2
    sawActing := s.red.sawActing || (s.start.mode.isNone && h.flags.getLsbD 0)
    slot := if slotOwner s then s.red.slot else BitVec.ofNat 16 h.slot } }
  resumeTie (learnYield h.flags s)

theorem pairHeard_eq (h : TieHead) (s : State) : pairHeard h s =
    let w := noteFrame h s
    if !w.red.contact && (hotRole (role w) || h.kind == 1) && !inMode .safe w && !inMode .solo w then makeContact w else w := rfl

theorem noteFrame_red (h : TieHead) (s : State) : ∃ p a n x, (noteFrame h s).red = { s.red with
    lastFrame := s.now, heardSlot := true, hbAt := if h.kind = 1 then s.now else s.red.hbAt, peerLeader := h.flags.getLsbD 0
    peerInStep := p, sawActing := a, slot := n, tie := x } := by
  unfold noteFrame
  dsimp only
  obtain ⟨x, hx⟩ := resumeTie_red (learnYield h.flags { s with red := { s.red with
    lastFrame := s.now, heardSlot := true, hbAt := if h.kind = 1 then s.now else s.red.hbAt, peerLeader := h.flags.getLsbD 0
    peerInStep := h.flags.getLsbD 2, sawActing := s.red.sawActing || (s.start.mode.isNone && h.flags.getLsbD 0)
    slot := if slotOwner s then s.red.slot else BitVec.ofNat 16 h.slot } })
  rw [hx, red_of_allBut (learnYield_view _ _ rfl)]
  exact ⟨_, _, _, _, rfl⟩

theorem noteFrame_view {P} (h : TieHead) (s : State) (hP : List.all [.red, .blocks] P) : view P (noteFrame h s) = view P s := by
  simp at hP
  dsimp only [noteFrame]
  simp [↓view_update, ↓resumeTie_view, ↓learnYield_view, ringPlaces, hP]

/-- A frame makes no plan for a block but at a leader. -/
theorem noteFrame_blocks (h : TieHead) (hmode : inMode .leader s = false) : (noteFrame h s).blocks = s.blocks := by
  have hyield (w : State) (hw : inMode .leader w = false) : (learnYield h.flags w).blocks = w.blocks := by
    unfold learnYield
    split
    · rw [hw, if_neg (by simp)]
    · rfl
  unfold noteFrame
  rw [blocks_of_allBut (resumeTie_view _ rfl)]
  exact hyield _ hmode

theorem noteFrame_running (h : TieHead) (s : State) : (noteFrame h s).blocks.running = s.blocks.running := by
  have hyield (w : State) : (learnYield h.flags w).blocks.running = w.blocks.running := by
    unfold learnYield
    split
    · exact holds_ite (p := fun u : State => u.blocks.running = w.blocks.running) rfl rfl
    · rfl
  unfold noteFrame
  rw [blocks_of_allBut (resumeTie_view _ rfl)]
  exact hyield _

theorem makeContact_noted {h : TieHead} {now : Nat} (hs : Noted h now s.red) : Noted h now (makeContact s).red ∧ (makeContact s).red.contact = true := by
  unfold makeContact
  extract_lets r w
  have hred : (checkProfile (clearAll 0xF521#16 (clearAll 0xF510#16 w))).red = w.red := red_of_allBut (checkProfile_view _ rfl)
  obtain ⟨hnoted, hcontact⟩ := contactWork_noted (h := h) (now := now) (s := checkProfile (clearAll 0xF521#16 (clearAll 0xF510#16 w)))
    (by rw [hred]; exact ⟨hs.lastFrame, hs.heardSlot, hs.hbAt, hs.peerLeader⟩)
  exact ⟨hnoted, hcontact.trans (congrArg Redundancy.contact hred)⟩

theorem pairHeard_noted (h : TieHead) (s : State) : Noted h s.now (pairHeard h s).red
    ∧ (pairHeard h s).red.contact = (s.red.contact || ((hotRole (role s) || h.kind == 1) && !inMode .safe s && !inMode .solo s)) := by
  obtain ⟨p, a, n, x, hred⟩ := noteFrame_red h s
  have hstart : (noteFrame h s).start = s.start := start_of_allBut (noteFrame_view h s rfl)
  have hstraps : (noteFrame h s).straps = s.straps := straps_of_allBut (noteFrame_view h s rfl)
  have hnoted : Noted h s.now (noteFrame h s).red := by
    rw [hred]
    exact ⟨rfl, rfl, fun hkind => if_pos hkind, rfl⟩
  have hcontact : (noteFrame h s).red.contact = s.red.contact := by rw [hred]
  have hrole : role (noteFrame h s) = role s := by simp only [role, lvlD, lvl, hstraps]
  rw [pairHeard_eq]
  dsimp only
  rw [hcontact, hrole, inMode, inMode, hstart]
  split
  next hmakes =>
    obtain ⟨hn, hc⟩ := makeContact_noted hnoted
    refine ⟨hn, hc.trans ?_⟩
    simp [inMode] at hmakes ⊢
    simp [hmakes]
  next hnot =>
    refine ⟨hnoted, hcontact.trans ?_⟩
    revert hnot
    unfold inMode
    cases s.red.contact <;> simp

theorem pairHeard_of_contact {h : TieHead} (hcontact : s.red.contact = true) : pairHeard h s = noteFrame h s := by
  obtain ⟨p, a, n, x, hred⟩ := noteFrame_red h s
  rw [pairHeard_eq]
  dsimp only
  rw [hred, if_neg (by simp [hcontact])]

theorem Elapsed.usesTie (h : Elapsed s t v) : Machine.usesTie v = Machine.usesTie s := by
  simp only [Machine.usesTie, h.awake, h.role, h.red, h.start, h.inMode]

theorem tieParse_congr (hred : u.red = s.red) (hstraps : u.straps = s.straps) (b) : tieParse u b = tieParse s b := by
  unfold tieParse tenant lvlD lvl
  rw [hred, hstraps]

theorem Elapsed.tieParse (h : Elapsed s t v) (b) : Machine.tieParse v b = Machine.tieParse s b := tieParse_congr h.red h.straps b

theorem slotOwner_congr (hstart : u.start = s.start) (hred : u.red = s.red) (hstraps : u.straps = s.straps) : slotOwner u = slotOwner s := by
  unfold slotOwner actsLeader inMode role lvlD lvl
  rw [hstart, hred, hstraps]

theorem usesTie_awake (h : usesTie s = true) : awake s = true ∧ hotRole (role s) = true ∧ inMode .safe s = false := by
  unfold usesTie at h
  simp only [Bool.and_eq_true, Bool.not_eq_true'] at h
  exact ⟨h.1.1.1.1, h.1.1.1.2, h.2⟩

/-- A frame heard on the line does its work on the state in which it is noted. -/
theorem receivePair_tie {b : TieFrame} {head : TieHead} {kind : Nat} (h : Elapsed s t v) (hheard : TieHeard s b head kind)
    (k : TieHead → State → State) : receivePair (.tie b) kind k v = k head (pairHeard head v) := by
  obtain ⟨huses, hslumber, hrunning, hparse, hkind⟩ := hheard
  have hlistens : pairListens kind v = true := by
    simp [pairListens, h.awake, (usesTie_awake huses).1, h.inMode, hslumber]
  unfold receivePair crossIn
  dsimp only
  rw [h.usesTie, huses, hlistens, h.sysStopped, hrunning, h.tieParse, hparse]
  dsimp only
  rw [if_pos hkind]
  rfl

/-! ### What each frame does -/

theorem pairHeard_start (h : TieHead) (s : State) : (pairHeard h s).start = s.start := start_of_allBut (pairHeard_view _ _ rfl)

/-- A heartbeat heard outside SLUMBER: what it says is held, and the samples it may carry; a reply may follow. -/
theorem answers_tieHeartbeat {x : PairFrame} {head : TieHead} {w : State} (hv : s.upTo t = v) (hrx : ∀ k, receivePair x 1 k v = k head w)
    (hslumber : inMode .slumber w = false) {p : Redundancy → Prop}
    (hp : ∀ z l q a o, p { w.red with replyHeld := ofBe (slice 0 4 head.payload), leaderOnly := z, tie := l, requests := q, sending := a, sendOff := o }) :
    Answers (execTieHeartbeat t x s) fun u => p u.red := by
  have hreply (y : State) (hy : ∃ z, y.red = { w.red with replyHeld := ofBe (slice 0 4 head.payload), leaderOnly := z }) :
      Answers (.next (tieReply (lineOf x) y)) fun u => p u.red := by
    obtain ⟨z, hz⟩ := hy
    obtain ⟨l, q, a, o, hfilled⟩ := tieReply_filled (lineOf x) y
    rw [answers_next, hfilled, hz]
    exact hp ..
  unfold execTieHeartbeat
  rw [hv]
  extract_lets work
  rw [hrx]
  dsimp only [work]
  rw [hslumber, if_neg Bool.false_ne_true]
  exact hreply _ (holds_ite (p := fun y : State => ∃ z, y.red = { w.red with replyHeld := ofBe (slice 0 4 head.payload), leaderOnly := z })
    ⟨_, rfl⟩ ⟨_, rfl⟩)

theorem tieHeartbeat_runs_tie {b : TieFrame} {head : TieHead} (hheard : TieHeard s b head 1) : Runs (.tieHeartbeat t (.tie b)) s fun u =>
    u.red.replyHeld = ofBe (slice 0 4 head.payload) ∧ u.red.lastFrame = max s.now t ∧ u.red.hbAt = max s.now t
      ∧ u.red.heardSlot = true ∧ u.red.peerLeader = head.flags.getLsbD 0 ∧ u.red.contact = (s.red.contact || !inMode .solo s) := by
  obtain ⟨v, hv, h⟩ := s.exists_upTo t
  obtain ⟨huses, hslumber, -, -, hkind⟩ := id hheard
  obtain ⟨-, hhot, hsafe⟩ := usesTie_awake huses
  obtain ⟨hnoted, hcontact⟩ := pairHeard_noted head v
  have hcontact' : (pairHeard head v).red.contact = (s.red.contact || !inMode .solo s) := by
    rw [hcontact, h.red, h.role, hhot, h.inMode, hsafe, h.inMode]
    simp
  have hslumber' : inMode .slumber (pairHeard head v) = false := by
    rw [inMode, pairHeard_start]
    exact (h.inMode .slumber).trans hslumber
  rw [runs_iff]
  show Answers (execTieHeartbeat t (.tie b) s) _
  exact answers_tieHeartbeat (p := fun r => r.replyHeld = ofBe (slice 0 4 head.payload) ∧ r.lastFrame = max s.now t ∧ r.hbAt = max s.now t
      ∧ r.heardSlot = true ∧ r.peerLeader = head.flags.getLsbD 0 ∧ r.contact = (s.red.contact || !inMode .solo s))
    hv (receivePair_tie h hheard) hslumber'
    fun _ _ _ _ _ => ⟨rfl, hnoted.lastFrame.trans h.now, (hnoted.hbAt hkind).trans h.now, hnoted.heardSlot, hnoted.peerLeader, hcontact'⟩

/-- A frame heard on the network from the partner does its work on the state in which it is noted. -/
theorem receivePair_net {f : NetFrame} {b : TieFrame} {r : PairRec} {head : TieHead} {kind : Nat} (hv : s.upTo t = v) (h : Elapsed s t v)
    (hreceived : Received s t f) (hcold : coldRole (role s) = true) (hslumber : inMode .slumber s = false) (hsafe : inMode .safe s = false)
    (hpair : s.red.pair = some r) (hsrc : f.src = r.eui) (hdst : dstKind f.dst = 5) (hbody : f.body = .bytes 0x88B6#16 b)
    (hparse : tieParse s b = some head) (hkind : head.kind = kind) (k : TieHead → State → State) :
    receivePair (.net f) kind k v = k head (pairHeard head (noteSci f v)) := by
  obtain ⟨hoffered, hrunning, hverify⟩ := hreceived
  rw [hv] at hoffered hverify
  have hawake : awake v = true := by
    unfold isOffered at hoffered
    simp only [Bool.and_eq_true] at hoffered
    exact hoffered.1.1.1.1.1
  have hlistens : pairListens kind v = true := by simp [pairListens, hawake, h.inMode, hslumber]
  have hparse' : tieParse (noteSci f v) b = some head := by
    rw [← hparse, ← h.tieParse]
    exact tieParse_congr (red_of_allBut (noteSci_view v f rfl)) (straps_of_allBut (noteSci_view v f rfl)) b
  unfold receivePair
  dsimp only
  rw [hbody, h.red, hpair]
  refine (if_pos (by rw [hlistens, h.role, hcold, hsrc, hdst, h.inMode, hsafe]; simp)).trans ?_
  rw [endpointIn_offered hoffered (h.sysStopped.trans hrunning)]
  unfold verified
  rw [hverify]
  show (match tieParse (noteSci f v) b with | some h => if h.kind = kind then k h (pairHeard h (noteSci f v)) else noteSci f v | none => noteSci f v) = _
  rw [hparse']
  show (if head.kind = kind then _ else _) = _
  rw [if_pos hkind]

theorem tieHeartbeat_runs_net {f : NetFrame} {b : TieFrame} {r : PairRec} {head : TieHead} (hreceived : Received s t f)
    (hcold : coldRole (role s) = true) (hslumber : inMode .slumber s = false) (hsafe : inMode .safe s = false)
    (hpair : s.red.pair = some r) (hsrc : f.src = r.eui) (hdst : dstKind f.dst = 5) (hbody : f.body = .bytes 0x88B6#16 b)
    (hparse : tieParse s b = some head) (hkind : head.kind = 1) : Runs (.tieHeartbeat t (.net f)) s fun u =>
      u.red.lastFrame = max s.now t ∧ u.red.hbAt = max s.now t ∧ u.red.peerLeader = head.flags.getLsbD 0 := by
  obtain ⟨v, hv, h⟩ := s.exists_upTo t
  have hnow : (noteSci f v).now = max s.now t := (now_of_view (P := allBut []) (noteSci_view v f rfl)).trans h.now
  have hnoted := (pairHeard_noted head (noteSci f v)).1
  have hslumber' : inMode .slumber (pairHeard head (noteSci f v)) = false := by
    rw [inMode, pairHeard_start, start_of_allBut (noteSci_view v f rfl)]
    exact (h.inMode .slumber).trans hslumber
  rw [runs_iff]
  show Answers (execTieHeartbeat t (.net f) s) _
  exact answers_tieHeartbeat (p := fun r => r.lastFrame = max s.now t ∧ r.hbAt = max s.now t ∧ r.peerLeader = head.flags.getLsbD 0)
    hv (receivePair_net hv h hreceived hcold hslumber hsafe hpair hsrc hdst hbody hparse hkind) hslumber'
    fun _ _ _ _ _ => ⟨hnoted.lastFrame.trans hnow, (hnoted.hbAt hkind).trans hnow, hnoted.peerLeader⟩

/-! ### Blocks, slots and collisions (R223 to R225) -/

/-- The state in which a block frame is held. -/
def blockHeld (info : BlockInfo) (s : State) : State := { s with red := { s.red with held := some info } }

theorem blockRead_congr (hstraps : u.straps = s.straps) (p) : blockRead u p = blockRead s p := by
  unfold blockRead leaderOnlyRead portsLvl lvlD lvl
  rw [hstraps]

theorem backFrom_fields (now after : State) : (backFrom now after).blocks = now.blocks ∧ (backFrom now after).well = now.well
    ∧ (backFrom now after).red = now.red := ⟨rfl, rfl, rfl⟩

/-- A step taken in step leaves the block's number and the clock as they are, and the frame held. -/
theorem runClosed_fields (info c) (s : State) : (runClosed info c s).blocks = s.blocks ∧ (runClosed info c s).well = s.well
    ∧ (runClosed info c s).red.held = s.red.held := by
  have hleave (cause step : Nat) (w : State) : (leaveStep cause step w).blocks = w.blocks ∧ (leaveStep cause step w).well = w.well
      ∧ (leaveStep cause step w).red.held = w.red.held := by
    refine ⟨blocks_of_allBut (leaveStep_view _ _ _ rfl), well_of_allBut (leaveStep_view _ _ _ rfl), ?_⟩
    exact holds_ite (p := fun u : State => u.red.held = w.red.held) rfl rfl
  unfold runClosed
  extract_lets s₁ lacks w inD mine s₂ r s₃
  obtain ⟨hb, hw, hr⟩ := backFrom_fields s₁ w
  have hblocks : s₂.blocks = s.blocks := ((blocks_of_allBut (followConceal_view _ _ _ rfl)).trans hb).trans (blocks_of_allBut (admitLike_view s info rfl))
  have hwell : s₂.well = s.well := ((well_of_allBut (followConceal_view _ _ _ rfl)).trans hw).trans (well_of_allBut (admitLike_view s info rfl))
  have hred : s₂.red = s.red := ((red_of_allBut (followConceal_view _ _ _ rfl)).trans hr).trans (red_of_allBut (admitLike_view s info rfl))
  clear_value s₂
  have hs : s₃.blocks = s.blocks ∧ s₃.well = s.well ∧ s₃.red.held = s.red.held := ⟨hblocks, hwell, (congrArg Redundancy.held hred :)⟩
  have hleft (cause step : Nat) : (leaveStep cause step s₃).blocks = s.blocks ∧ (leaveStep cause step s₃).well = s.well
      ∧ (leaveStep cause step s₃).red.held = s.red.held := by
    obtain ⟨hb, hw, hr⟩ := hleave cause step s₃
    exact ⟨hb.trans hs.1, hw.trans hs.2.1, hr.trans hs.2.2⟩
  split
  · exact hleft ..
  · split
    · exact hleft ..
    · split
      · exact hleft ..
      · exact hs

theorem partnerWindow_fields (info c) (s : State) : (partnerWindow info c s).blocks = s.blocks ∧ (partnerWindow info c s).well = s.well
    ∧ (partnerWindow info c s).red = s.red :=
  ⟨blocks_of_allBut (contextWindow_view _ rfl), well_of_allBut (contextWindow_view _ rfl), red_of_allBut (contextWindow_view _ rfl)⟩

section Block

variable {b : TieFrame} {head : TieHead} (hheard : TieHeard s b head 2) (hmode : inMode .partner s = true) (hcontact : s.red.contact = true)
include hheard hmode hcontact

/-- A block frame is held, and its step taken where the partner has closed that block. -/
theorem tieBlock_exec : ∃ w, exec (.tieBlock t b) s = .next (tieReply b (takeHeld w)) ∧ w.red.held = some (blockRead s head.payload)
    ∧ w.red.closed = s.red.closed ∧ w.red.state = s.red.state ∧ w.blocks = s.blocks ∧ w.well = s.well ∧ w.start = s.start := by
  obtain ⟨v, hv, h⟩ := s.exists_upTo t
  obtain ⟨p, a, n, x, hred⟩ := noteFrame_red head v
  have hstart : (noteFrame head v).start = s.start := (start_of_allBut (noteFrame_view head v rfl)).trans h.start
  have hstraps : (noteFrame head v).straps = s.straps := (straps_of_allBut (noteFrame_view head v rfl)).trans h.straps
  have hleader : inMode .leader v = false := by
    rw [h.inMode]
    unfold inMode at hmode ⊢
    rw [beq_iff_eq.mp hmode]
    rfl
  refine ⟨blockHeld (blockRead s head.payload) (noteFrame head v), ?_, rfl, ?_, ?_, ?_, ?_, hstart⟩
  · show execTieBlock t b s = _
    unfold execTieBlock
    rw [hv]
    extract_lets work
    rw [receivePair_tie h hheard, pairHeard_of_contact (by rw [h.red, hcontact])]
    dsimp only [work]
    rw [if_neg (by rw [inMode, hstart]; simpa [inMode] using hmode), blockRead_congr hstraps]
    rfl
  · show (noteFrame head v).red.closed = _
    rw [hred, h.red]
  · show (noteFrame head v).red.state = _
    rw [hred, h.red]
  · exact (noteFrame_blocks head hleader).trans h.blocks
  · exact (well_of_allBut (noteFrame_view head v rfl)).trans h.well

theorem tieBlock_runs_unclosed (hclosed : s.red.closed.find? (fun c => c.number == (blockRead s head.payload).step) = none) :
    Runs (.tieBlock t b) s fun u => u.red.held = some (blockRead s head.payload) ∧ u.red.closed = s.red.closed ∧ u.blocks = s.blocks := by
  obtain ⟨w, hexec, hheld, hwclosed, -, hblocks, -, -⟩ := tieBlock_exec (t := t) hheard hmode hcontact
  have htake : takeHeld w = w := by
    unfold takeHeld
    rw [hheld, hwclosed]
    dsimp only
    rw [hclosed]
    split <;> rfl
  obtain ⟨l, q, a, o, hfilled⟩ := tieReply_filled b w
  refine ⟨_, hexec, ?_⟩
  rw [htake]
  beta_reduce
  rw [hfilled, blocks_of_allBut (tieReply_view _ _ rfl)]
  exact ⟨hheld, hwclosed, hblocks⟩

theorem tieBlock_runs_closed {c : Closed} (hclosed : s.red.closed.find? (fun c => c.number == (blockRead s head.payload).step) = some c)
    (hstate : s.red.state = .inStep) (hnumber : s.blocks.number = (blockRead s head.payload).step + 1) :
    Runs (.tieBlock t b) s fun u => u.red.held = some (blockRead s head.payload)
      ∧ u.blocks.stamp = (blockRead s head.payload).stamp + thisLen s * 1000000000 / s.well.rate := by
  obtain ⟨w, hexec, hheld, hwclosed, hwstate, hblocks, hwell, hstart⟩ := tieBlock_exec (t := t) hheard hmode hcontact
  generalize blockRead s head.payload = info at hclosed hnumber hheld
  have htake : takeHeld w = takeStep info c w := by
    unfold takeHeld
    rw [hwstate, hstate, if_neg (by rw [inMode, hstart]; simpa [inMode] using hmode), hheld, hwclosed]
    dsimp only
    rw [hclosed]
  obtain ⟨hb, hw, hr⟩ := runClosed_fields info c w
  obtain ⟨hb', hw', hr'⟩ := partnerWindow_fields info c (runClosed info c w)
  have hlen (y : State) (hyb : y.blocks = s.blocks) (hyw : y.well = s.well) : thisLen y = thisLen s := by rw [thisLen, thisLen, hyb, hyw]
  have hstep : (takeStep info c w).red.held = some info
      ∧ (takeStep info c w).blocks.stamp = info.stamp + thisLen s * 1000000000 / s.well.rate := by
    unfold takeStep
    rw [hwstate, hstate, if_neg (by decide)]
    dsimp only
    rw [hb', hb, hblocks, hnumber, if_pos rfl, hlen _ ((hb'.trans hb).trans hblocks) ((hw'.trans hw).trans hwell), hw', hw, hwell]
    exact ⟨by rw [hr', hr, hheld], rfl⟩
  obtain ⟨l, q, a, o, hfilled⟩ := tieReply_filled b (takeHeld w)
  refine ⟨_, hexec, ?_⟩
  beta_reduce
  rw [hfilled, blocks_of_allBut (tieReply_view _ _ rfl), htake]
  exact hstep

end Block

/-- What a slot's start leaves of the pair's state, before its frames. -/
def slotRed (own : Bool) (r : Redundancy) : Redundancy :=
  { r with missed := if r.heardSlot then 0 else min 4 (r.missed + 1), heardSlot := false
           slot := if own then r.slot + 1 else r.slot, tie := { r.tie with frames := [] } }

/-- A slot's start: the own device's slot is filled from its first frame on. -/
theorem tieSlotStart_exec (hmay : tieMay (s.upTo t) = true) : ∃ w : State, w.red = slotRed (slotOwner s) s.red
    ∧ ∃ f, exec (.tieSlotStart t) s = .next (if slotOwner s then fillSlot (tieNs f + replyNs) 4 (tiePut f w) else w) := by
  obtain ⟨v, hv, h⟩ := s.exists_upTo t
  rw [hv] at hmay
  refine ⟨mediaNow { v with red := slotRed (slotOwner s) v.red }, ?_, ?_⟩
  · rw [red_of_allBut (mediaNow_view _ rfl), h.red]
  · have hexec : exec (.tieSlotStart t) s = execTieSlotStart t s := rfl
    rw [hexec]
    unfold execTieSlotStart
    rw [hv]
    extract_lets x own r y w q running f
    have hown : own = slotOwner s := slotOwner_congr h.start h.red h.straps
    rw [← hown]
    refine ⟨f, ?_⟩
    rw [if_neg (by show ¬ (!tieMay v) = true; rw [hmay]; decide)]
    clear_value own
    cases own <;> rfl

theorem tieSlotStart_runs_own (hmay : tieMay (s.upTo t) = true) (howner : slotOwner s = true) : Runs (.tieSlotStart t) s fun u =>
    u.red.slot = s.red.slot + 1 ∧ u.red.heardSlot = false ∧ u.red.tie.frames ≠ []
      ∧ u.red.missed = (if s.red.heardSlot then 0 else min 4 (s.red.missed + 1)) := by
  obtain ⟨w, hred, f, hexec⟩ := tieSlotStart_exec hmay
  rw [howner] at hred hexec
  obtain ⟨l, q, a, o, hfilled⟩ := (tiePut_filled f w).trans (fillSlot_filled (tieNs f + replyNs) 4 (tiePut f w))
  have hne : (fillSlot (tieNs f + replyNs) 4 (tiePut f w)).red.tie.frames ≠ [] := by
    have hprefix := (fillSlot_filled (tieNs f + replyNs) 4 (tiePut f w)).frames
    intro hnil
    rw [hnil, List.prefix_nil] at hprefix
    simp [tiePut] at hprefix
  refine ⟨_, hexec, ?_⟩
  beta_reduce
  rw [if_pos rfl]
  rw [hfilled] at hne ⊢
  rw [hred] at hne ⊢
  exact ⟨rfl, rfl, hne, rfl⟩

theorem tieSlotStart_runs_other (hmay : tieMay (s.upTo t) = true) (howner : slotOwner s = false) : Runs (.tieSlotStart t) s fun u =>
    u.red.slot = s.red.slot ∧ u.red.heardSlot = false ∧ u.red.tie.frames = []
      ∧ u.red.missed = (if s.red.heardSlot then 0 else min 4 (s.red.missed + 1)) := by
  obtain ⟨w, hred, f, hexec⟩ := tieSlotStart_exec hmay
  rw [howner] at hred hexec
  refine ⟨_, hexec, ?_⟩
  beta_reduce
  rw [if_neg Bool.false_ne_true, hred]
  exact ⟨rfl, rfl, rfl, rfl⟩

theorem tieCollision_runs_first {f : TieFrame} (hmay : tieMay (s.upTo t) = true) (hf : s.red.tie.frames.getLast? = some f)
    (hlead : actsLeader s = true) (hpeer : s.red.peerLeader = false) : Runs (.tieCollision t) s fun u =>
      u.red.tie.frames = s.red.tie.frames ∧ u.red.tie.retry = none ∧ u.now = max s.now (t + 2000) := by
  obtain ⟨v, hv, h⟩ := s.exists_upTo t
  obtain ⟨w, hw, h'⟩ := v.exists_upTo (t + 2000)
  rw [hv] at hmay
  have hlead' : actsLeader v = true := by
    rw [← hlead]
    simp only [actsLeader, inMode, h.start]
  rw [runs_iff]
  show Answers (execTieCollision t s) _
  unfold execTieCollision
  rw [hv]
  dsimp only
  rw [h.red, hf]
  dsimp only
  rw [if_neg (by rw [hmay]; decide), hlead', hpeer, if_pos (by rfl), hw]
  refine ⟨List.dropLast_append_getLast? f hf, rfl, ?_⟩
  show w.now = _
  rw [h'.now, h.now]
  omega

theorem tieCollision_runs_second {f : TieFrame} (hmay : tieMay (s.upTo t) = true) (hf : s.red.tie.frames.getLast? = some f)
    (hlead : actsLeader s = false) (hpeer : s.red.peerLeader = true) : Runs (.tieCollision t) s fun u =>
      u.red.tie.frames = s.red.tie.frames.dropLast ∧ u.red.tie.retry = some f ∧ u.now = max s.now t := by
  obtain ⟨v, hv, h⟩ := s.exists_upTo t
  rw [hv] at hmay
  have hlead' : actsLeader v = false := by
    rw [← hlead]
    simp only [actsLeader, inMode, h.start]
  rw [runs_iff]
  show Answers (execTieCollision t s) _
  unfold execTieCollision
  rw [hv]
  dsimp only
  rw [h.red, hf]
  dsimp only
  rw [if_neg (by rw [hmay]; decide), hlead', hpeer, if_neg (by simp)]
  exact ⟨rfl, rfl, h.now⟩

/-! ### Checkpoints and requests (R220, R228, R229) -/

theorem tieCheckpointChunk_runs {b : TieFrame} {head : TieHead} (hheard : TieHeard s b head 3) (hmode : inMode .partner s = true)
    (hcontact : s.red.contact = true) (htotal : ofBe (slice 4 4 head.payload) ≤ ckptMax (loaded s)) (hoff : ofBe (slice 0 4 head.payload) % 1024 = 0)
    (hend : ofBe (slice 0 4 head.payload) + ((head.payload.drop 8).take 1024).length ≤ ofBe (slice 4 4 head.payload)) :
    Runs (.tieCheckpointChunk t (.tie b)) s fun u =>
      ofBe (slice 0 4 head.payload) ∈ u.red.rxCkpt.got ∧ u.red.rxCkpt.total = ofBe (slice 4 4 head.payload)
        ∧ u.mem.psram = pokes 0#8 s.mem.psram (ckptAddr (loaded s) (fillBuffer s) + ofBe (slice 0 4 head.payload)) ((head.payload.drop 8).take 1024) := by
  obtain ⟨v, hv, h⟩ := s.exists_upTo t
  obtain ⟨p, a, n, x, hred⟩ := noteFrame_red head v
  have hstart : (noteFrame head v).start = s.start := (start_of_allBut (noteFrame_view head v rfl)).trans h.start
  have hmem : (noteFrame head v).mem = s.mem := (mem_of_allBut (noteFrame_view head v rfl)).trans h.mem
  have hloaded : loaded (noteFrame head v) = loaded s := by
    unfold loaded
    rw [(thr_of_allBut (noteFrame_view head v rfl)).trans h.thr]
  have hfill : fillBuffer (noteFrame head v) = fillBuffer s := by
    unfold fillBuffer
    rw [hred, h.red]
  have hmode' : inMode .partner (noteFrame head v) = true := by rw [inMode, hstart]; exact hmode
  rw [runs_iff]
  show Answers (execTieCheckpointChunk t (.tie b) s) _
  unfold execTieCheckpointChunk
  rw [hv]
  extract_lets work
  rw [receivePair_tie h hheard, pairHeard_of_contact (by rw [h.red, hcontact]), answers_next]
  generalize noteFrame head v = w at hmem hloaded hfill hmode' ⊢
  dsimp only [work]
  rw [hloaded, hfill, hmem, hmode', if_neg (by rw [hoff, decide_eq_false (Nat.not_lt.mpr htotal), decide_eq_false (Nat.not_lt.mpr hend)]; decide)]
  rw [red_of_allBut (siloWrite_view _ _ _ _ _ rfl), psram_of_allBut (siloWrite_view _ _ _ _ _ rfl)]
  refine ⟨List.mem_cons_self, ?_, rfl⟩
  dsimp only
  split
  next hsame => exact (Bool.and_eq_true_iff.mp hsame).1 |> of_decide_eq_true
  next => rfl

theorem resyncRequest_runs {b : TieFrame} {head : TieHead} (hheard : TieHeard s b head 4) (hmode : inMode .leader s = true)
    (hcontact : s.red.contact = true) (hrunning : s.blocks.running = true) (hpayload : head.payload.take 1 = [1#8]) :
    Runs (.resyncRequest t (.tie b)) s fun u => u.red.ckptDue = true ∧ u.red.lastFrame = max s.now t := by
  obtain ⟨v, hv, h⟩ := s.exists_upTo t
  have hnoted := (pairHeard_noted head v).1
  have hmode' : inMode .leader (pairHeard head v) = true := by
    rw [inMode, pairHeard_start]
    exact (h.inMode .leader).trans hmode
  have hrunning' : (pairHeard head v).blocks.running = true := by
    rw [pairHeard_of_contact (by rw [h.red, hcontact]), noteFrame_running, h.blocks, hrunning]
  rw [runs_iff]
  show Answers (execResyncRequest t (.tie b) s) _
  unfold execResyncRequest
  rw [hv]
  extract_lets work
  rw [receivePair_tie h hheard, answers_next]
  generalize pairHeard head v = w at hnoted hmode' hrunning' ⊢
  dsimp only [work]
  rw [hmode', hrunning', hpayload, if_pos (by rfl)]
  exact ⟨rfl, hnoted.lastFrame.trans h.now⟩

/-- Settles O42: a frame heard is noted and does its work, on the line and on the network; slots, collisions and chunks. -/
theorem pairFramesRun : Obligations.PairFramesRun := by
  refine ⟨fun _ _ _ _ => tieHeartbeat_runs_tie, fun _ _ _ _ _ _ => tieHeartbeat_runs_net, fun s t b h hheard hmode hcontact => ⟨?_, ?_⟩,
    fun _ _ => tieSlotStart_runs_own, fun _ _ => tieSlotStart_runs_other, fun _ _ _ hmay hf =>
      ⟨tieCollision_runs_first hmay hf, tieCollision_runs_second hmay hf⟩,
    fun _ _ _ _ => tieCheckpointChunk_runs, fun _ _ _ _ => resyncRequest_runs⟩
  · exact tieBlock_runs_unclosed hheard hmode hcontact
  · exact fun c => tieBlock_runs_closed hheard hmode hcontact

end Sys2Proof.Machine
end

/-! # The state of a pair (O43, chapter 10)

Contact, checkpoints and resync. -/

section
namespace Sys2Proof.Machine

open Sys2Proof


variable {s u v : State} {t : Nat}

/-! ### Contact lost (R224, R225, R242) -/

theorem Elapsed.anyActive (h : Elapsed s t v) (x) : Machine.anyActive x v = Machine.anyActive x s := by
  simp only [Machine.anyActive, h.active]

theorem Elapsed.hotInStep (h : Elapsed s t v) : Machine.hotInStep v = Machine.hotInStep s := by
  simp only [Machine.hotInStep, h.inMode, h.role, h.red]

theorem hotInStep_state (h : hotInStep s = true) : s.red.state = .inStep := by
  unfold hotInStep at h
  simp only [Bool.and_eq_true, beq_iff_eq] at h
  exact h.2

theorem blockFrameTimeout_runs {c : Nat} (hc : s.red.closeAt = some c) (hstep : hotInStep s = true) (hleave : s.red.leaveStep = none) :
    Runs .blockFrameTimeout s fun u =>
      u.red.leaveStep = some 4 ∧ u.red.closeAt = none ∧ u.red.state = .inStep ∧ u.now = max s.now (c + 500000) := by
  obtain ⟨v, hv, h⟩ := s.exists_upTo (c + 500000)
  have hstep' : hotInStep v = true := h.hotInStep.trans hstep
  rw [runs_iff]
  show Answers (execBlockFrameTimeout s) _
  unfold execBlockFrameTimeout
  rw [hc]
  dsimp only
  rw [hv]
  unfold leaveStep
  rw [if_pos (by
    show (hotInStep v && v.red.leaveStep.isNone) = true
    rw [hstep', h.red, hleave]
    rfl)]
  exact ⟨rfl, rfl, hotInStep_state (s := v) hstep', h.now⟩

theorem loseContact_fields (s : State) : (loseContact s).red = { s.red with contact := false, peerInStep := false } ∧ (loseContact s).now = s.now
    ∧ (inMode .leader s = true → anyActive 0xF510#16 (loseContact s) = true) := by
  unfold loseContact
  extract_lets r w
  refine ⟨holds_ite (p := fun u : State => u.red = _) rfl rfl, holds_ite (p := fun u : State => u.now = s.now) rfl rfl, fun hmode => ?_⟩
  rw [if_pos (show inMode .leader w = true from hmode)]
  exact anyActive_raise_self rfl ..

theorem anyActive_loseContact {x : BitVec 16} (hx : x ≠ 0xF510#16) (s : State) : anyActive x (loseContact s) = anyActive x s := by
  unfold loseContact
  extract_lets r w
  exact holds_ite (p := fun u : State => anyActive x u = anyActive x s) (anyActive_raise_ne hx.symm ..) rfl

theorem tieDown_runs (hhot : hotRole (role s) = true) (hcontact : s.red.contact = true) (hmissed : 4 ≤ s.red.missed) (hdown : s.red.tieDown = false) :
    Runs .tieDown s fun u =>
      u.red.contact = false ∧ u.red.tieDown = true ∧ anyActive 0xF521#16 u = true ∧ u.now = s.now
        ∧ (inMode .leader s = true → anyActive 0xF510#16 u = true) := by
  rw [runs_iff]
  show Answers (execTieDown s) _
  unfold execTieDown
  rw [hhot, hcontact, decide_eq_true hmissed, hdown, if_pos (by decide), answers_next]
  obtain ⟨hred, hnow, hactive⟩ := loseContact_fields (raise 0xF521#16 0 [0#8] { s with red := { s.red with tieDown := true } })
  rw [hred, hnow, anyActive_loseContact (by decide)]
  exact ⟨rfl, rfl, anyActive_raise_self rfl .., rfl, hactive⟩

theorem partnerContactTimeout_runs (hcold : coldRole (role s) = true) (hcontact : s.red.contact = true) : Runs .partnerContactTimeout s fun u =>
    u.red.contact = false ∧ u.now = max s.now (s.red.hbAt + 50 * ms1) ∧ (inMode .leader s = true → anyActive 0xF510#16 u = true) := by
  obtain ⟨v, hv, h⟩ := s.exists_upTo (s.red.hbAt + 50 * ms1)
  obtain ⟨hred, hnow, hactive⟩ := loseContact_fields v
  rw [runs_iff]
  show Answers (execPartnerContactTimeout s) _
  unfold execPartnerContactTimeout
  rw [hcold, hcontact, if_pos (by decide), hv, answers_next, hred, hnow]
  exact ⟨rfl, h.now, fun hmode => hactive ((h.inMode .leader).trans hmode)⟩

theorem partnerContactDeadline_runs {r : Nat} (hr : s.start.tRun = some r) (hrole : pairRole (role s) = true) (hever : s.red.everContact = false)
    (hmode : inMode .leader s = true) : Runs .partnerContactDeadline s fun u =>
      anyActive 0xF510#16 u = true ∧ u.now = max s.now (r + 10 * sec1) := by
  obtain ⟨v, hv, h⟩ := s.exists_upTo (r + 10 * sec1)
  rw [runs_iff]
  show Answers (execPartnerContactDeadline s) _
  unfold execPartnerContactDeadline
  rw [hr]
  dsimp only
  rw [hrole, hever, hmode, if_pos (by simp), hv]
  exact ⟨anyActive_raise_self rfl .., h.now⟩

/-! ### Checkpoints (R228, R229) -/

theorem Elapsed.offset (h : Elapsed s t v) : Machine.offset v = Machine.offset s := by simp only [Machine.offset, h.tenant]

section Take

variable (hmode : inMode .leader s = true) (hrunning : s.blocks.running = true) (hcontact : s.red.contact = true)
  (hsheaf : sheafBoundary (s.upTo t) = true)
include hmode hrunning hcontact hsheaf

theorem checkpointTake_runs_hot (hcold : coldRole (role s) = false) (hdue : s.red.ckptDue = true) : Runs (.checkpointTake t) s fun u =>
    u.red.sending = some (checkpointOf (s.upTo t)) ∧ u.red.sendOff = 0 ∧ u.red.ckptDue = false := by
  obtain ⟨v, hv, h⟩ := s.exists_upTo t
  rw [hv] at hsheaf ⊢
  rw [runs_iff]
  show Answers (execCheckpointTake t s) _
  unfold execCheckpointTake
  rw [hv]
  dsimp only
  rw [if_neg (by rw [h.inMode, hmode, h.blocks, hrunning, h.red, hcontact, hsheaf]; decide), h.role, hcold, if_neg Bool.false_ne_true, h.red, if_pos hdue]
  have hcold' : ¬ coldRole (role v) = true := by rw [h.role, hcold]; exact Bool.false_ne_true
  unfold takeCheckpoint
  extract_lets img r w
  rw [if_neg (show ¬ coldRole (role w) = true from hcold')]
  exact ⟨rfl, rfl, rfl⟩

theorem checkpointTake_runs_cold (hcold : coldRole (role s) = true) (hnext : s.red.ckptNext ≤ (s.upTo t).gptp.time) :
    Runs (.checkpointTake t) s fun u =>
      u.red.ckptNext = nextInstant (s.upTo t).gptp.time (offset s + 500 * ms1) sec1 ∧ u.red.ckptDue = false := by
  obtain ⟨v, hv, h⟩ := s.exists_upTo t
  rw [hv] at hsheaf hnext ⊢
  rw [runs_iff]
  show Answers (execCheckpointTake t s) _
  unfold execCheckpointTake
  rw [hv]
  dsimp only
  rw [if_neg (by rw [h.inMode, hmode, h.blocks, hrunning, h.red, hcontact, hsheaf]; decide), h.role, hcold, if_pos rfl, h.red, if_pos hnext, answers_next]
  obtain ⟨w, hw⟩ : ∃ w, ({ v with red := { s.red with ckptNext := nextInstant v.gptp.time (offset v + 500 * ms1) sec1 } } : State) = w := ⟨_, rfl⟩
  have hcold' : coldRole (role w) = true := by
    rw [← hw]
    exact (congrArg coldRole h.role).trans hcold
  have hnext' : w.red.ckptNext = nextInstant v.gptp.time (offset s + 500 * ms1) sec1 := by rw [← hw, ← h.offset]
  rw [hw]
  unfold takeCheckpoint
  extract_lets img r x
  rw [if_pos (show coldRole (role x) = true from hcold'), foldl_keeps State.red _ fun y i => red_of_allBut (sendPartner_view y _ _ rfl)]
  exact ⟨hnext', rfl⟩

end Take

theorem length_peeks (d : Byte) (m : List Host.Cell) (a n : Nat) : (peeks d m a n).length = n := by
  induction n generalizing a with
  | zero => rfl
  | succ n ih => rw [peeks, List.length_cons, ih]

theorem Elapsed.fillBuffer (h : Elapsed s t v) : Machine.fillBuffer v = Machine.fillBuffer s := by simp only [Machine.fillBuffer, h.red]

theorem Elapsed.ckptBytes (h : Elapsed s t v) (b n) : Machine.ckptBytes v b n = Machine.ckptBytes s b n := by
  simp only [Machine.ckptBytes, loaded, h.mem, h.thr]

theorem Elapsed.siloWritten (h : Elapsed s t v) (c o) : Machine.siloWritten c o v = Machine.siloWritten c o s := by
  simp only [Machine.siloWritten, h.mem]

theorem ckptFits_congr (hgran : u.gran = s.gran) (hstraps : u.straps = s.straps) (hpair : u.red.pair = s.red.pair) (hwell : u.well = s.well) (b) :
    ckptFits u b = ckptFits s b := by
  simp only [ckptFits, role, node, tenant, lvlD, lvl, hgran, hstraps, hpair, hwell]
  rfl

theorem Elapsed.ckptFits (h : Elapsed s t v) {r : Redundancy} (hpair : r.pair = s.red.pair) (b) :
    Machine.ckptFits { v with red := r } b = Machine.ckptFits s b :=
  ckptFits_congr (u := { v with red := r }) h.gran h.straps hpair h.well b

/-- A fault cleared where it is active is not active. -/
theorem clearActive_fields (x : BitVec 16) (s : State) : (if anyActive x s then clearAll x s else s).red = s.red
    ∧ role (if anyActive x s then clearAll x s else s) = role s ∧ anyActive x (if anyActive x s then clearAll x s else s) = false := by
  split
  · exact ⟨rfl, rfl, anyActive_clearAll_self x s⟩
  next hnot => exact ⟨rfl, rfl, Bool.eq_false_iff.mpr hnot⟩

section Complete

variable (hmode : inMode .partner s = true) (hwhole : ckptWhole s.red.rxCkpt = true) (hwritten : siloWritten 2 8 s = true)
  (hintact : ckptIntact (ckptBytes s (fillBuffer s) s.red.rxCkpt.total) = true)
include hmode hwhole hwritten hintact

theorem checkpointComplete_runs_fits (hhot : hotRole (role s) = false) (hfits : ckptFits s (ckptBytes s (fillBuffer s) s.red.rxCkpt.total) = true) :
    Runs (.checkpointComplete t) s fun u =>
      u.red.current = some s.red.rxCkpt.total ∧ u.red.currentB = fillBuffer s ∧ u.red.ckptAt = max s.now t
        ∧ anyActive 0xF530#16 u = false ∧ u.red.rxCkpt = {} := by
  obtain ⟨v, hv, h⟩ := s.exists_upTo t
  have hlength : (ckptBytes s (fillBuffer s) s.red.rxCkpt.total).length = s.red.rxCkpt.total := length_peeks ..
  rw [runs_iff]
  show Answers (execCheckpointComplete t s) _
  unfold execCheckpointComplete
  rw [hv]
  dsimp only
  rw [h.fillBuffer, h.ckptBytes, h.red, if_neg (by rw [h.inMode, hmode, hwhole, h.siloWritten, hwritten, hintact]; decide), hlength]
  split
  · obtain ⟨y, hy⟩ : ∃ y, ({ v with red := { s.red with rxCkpt := {}, current := some s.red.rxCkpt.total, currentB := fillBuffer s, ckptAt := v.now } } : State) = y :=
      ⟨_, rfl⟩
    have hhot' : hotRole (role y) = false := by
      rw [← hhot, ← h.role, ← hy]
      rfl
    have hyred : y.red = { s.red with rxCkpt := {}, current := some s.red.rxCkpt.total, currentB := fillBuffer s, ckptAt := max s.now t } := by
      rw [← hy, ← h.now]
    obtain ⟨hred, hrole, hactive⟩ := clearActive_fields 0xF530#16 y
    rw [hy, hrole, hhot', Bool.false_and, if_neg Bool.false_ne_true, answers_next, hred, hyred]
    exact ⟨rfl, rfl, rfl, hactive, rfl⟩
  next hnot => exact hnot ((h.ckptFits rfl _).trans hfits) |>.elim

theorem checkpointComplete_runs_refused (hfits : ckptFits s (ckptBytes s (fillBuffer s) s.red.rxCkpt.total) = false) :
    Runs (.checkpointComplete t) s fun u =>
      u.red.current = s.red.current ∧ u.red.currentB = s.red.currentB ∧ u.red.ckptAt = s.red.ckptAt := by
  obtain ⟨v, hv, h⟩ := s.exists_upTo t
  rw [runs_iff]
  show Answers (execCheckpointComplete t s) _
  unfold execCheckpointComplete
  rw [hv]
  dsimp only
  rw [h.fillBuffer, h.ckptBytes, h.red, if_neg (by rw [h.inMode, hmode, hwhole, h.siloWritten, hwritten, hintact]; decide)]
  split
  next hyes =>
    refine absurd (hyes.symm.trans (?_ : _ = false)) (by decide)
    exact (h.ckptFits rfl _).trans hfits
  · exact holds_ite (p := fun u : State => u.red.current = s.red.current ∧ u.red.currentB = s.red.currentB ∧ u.red.ckptAt = s.red.ckptAt)
      ⟨rfl, rfl, rfl⟩ ⟨rfl, rfl, rfl⟩

end Complete

theorem checkpointStaleTimeout_runs (hmode : inMode .partner s = true) (hcold : coldRole (role s) = true) (hactive : anyActive 0xF530#16 s = false) :
    Runs .checkpointStaleTimeout s fun u => anyActive 0xF530#16 u = true ∧ u.now = max s.now (s.red.ckptAt + 3 * sec1) := by
  obtain ⟨v, hv, h⟩ := s.exists_upTo (s.red.ckptAt + 3 * sec1)
  rw [runs_iff]
  show Answers (execCheckpointStaleTimeout s) _
  unfold execCheckpointStaleTimeout
  rw [hmode, hcold, hactive, if_pos (by decide), hv]
  exact ⟨anyActive_raise_self rfl .., h.now⟩

/-! ### Resync and heartbeats (R220, R221) -/

theorem resyncReplayComplete_runs (hmode : inMode .partner s = true) (hstate : s.red.state = .joining) (hcurrent : s.red.current.isSome = true)
    (hresync : s.red.resyncAt.isSome = true) : Runs (.resyncReplayComplete t) s fun u =>
      u.red.replayed = true ∧ u.thr.replay = [] ∧ u.red.state = .joining := by
  obtain ⟨v, hv, h⟩ := s.exists_upTo t
  rw [runs_iff]
  show Answers (execResyncReplayComplete t s) _
  unfold execResyncReplayComplete
  rw [hv]
  dsimp only
  rw [if_pos (by rw [h.inMode, hmode, h.red, hstate, hcurrent, hresync]; rfl)]
  refine ⟨rfl, rfl, ?_⟩
  show (replayAll v).red.state = _
  rw [red_of_allBut (replayAll_view _ rfl), h.red, hstate]

theorem resyncTimeout_runs {r : Nat} (hr : s.red.resyncAt = some r) (hstate : s.red.state = .joining) : Runs .resyncTimeout s fun u =>
    u.red.state = .joining ∧ u.red.resyncAt = some (max s.now (r + 10 * sec1)) ∧ u.red.rxCkpt = {} ∧ u.red.ringUsed = 0 := by
  obtain ⟨v, hv, h⟩ := s.exists_upTo (r + 10 * sec1)
  rw [runs_iff]
  show Answers (execResyncTimeout s) _
  unfold execResyncTimeout startResync
  rw [hr]
  dsimp only
  rw [if_neg (by rw [hstate]; decide), hv, answers_next]
  obtain ⟨q, hq⟩ := ask_red 1 0 { raise 0xF520#16 0 (be 1 3 ++ be 4 (stepNow v)) v with
    red := { (raise 0xF520#16 0 (be 1 3 ++ be 4 (stepNow v)) v).red with
      state := .joining, resyncAt := some (raise 0xF520#16 0 (be 1 3 ++ be 4 (stepNow v)) v).now, rxCkpt := {}, ringUsed := 0, replayed := false, closeAt := none
      closed := [], outHere := none, leaveStep := none }
    thr := { (raise 0xF520#16 0 (be 1 3 ++ be 4 (stepNow v)) v).thr with replay := [] } }
  rw [hq]
  exact ⟨rfl, congrArg some h.now, rfl, rfl⟩

theorem partnerHeartbeatSend_runs (hcold : coldRole (role s) = true) (hpair : s.red.pair.isSome = true) (hrun : s.start.tRun.isSome = true)
    (hmode : inMode .leader s = true) : Runs .partnerHeartbeatSend s fun u =>
      u.red.hbNext = nextInstant (s.upToDevice s.red.hbNext).gptp.time (offset s + 5 * ms1 + (if slotOwner s then 0 else ms1)) (10 * ms1) := by
  obtain ⟨v, hv, h⟩ := s.exists_upToDevice s.red.hbNext
  rw [hv, runs_iff]
  show Answers (execPartnerHeartbeatSend s) _
  unfold execPartnerHeartbeatSend
  rw [hcold, hpair, hrun, hmode, if_pos (by simp)]
  dsimp only
  rw [hv, slotOwner_congr h.start h.red h.straps, answers_next]
  dsimp only
  rw [gptp_of_allBut (sendPartner_view _ _ _ rfl)]
  have hoffset : offset (sendPartner 3 (tieFrame v 1 (tieHeartbeat v none)) v) = offset s := by
    rw [← h.offset]
    unfold offset tenant lvlD lvl
    rw [straps_of_allBut (sendPartner_view _ _ _ rfl)]
  rw [hoffset]

/-- Settles O43: contact, checkpoints and resync, each by what the pair's state held when time came to the command's instant. -/
theorem pairStateRuns : Obligations.PairStateRuns := by
  refine ⟨fun _ _ => blockFrameTimeout_runs, fun _ => tieDown_runs, fun _ _ hmode hrunning hcontact hsheaf => ⟨?_, ?_⟩,
    fun _ _ hmode hwhole hwritten hintact _ hhot => ⟨?_, ?_⟩, fun _ _ => resyncReplayComplete_runs, fun _ _ => resyncTimeout_runs,
    fun _ => checkpointStaleTimeout_runs, fun _ => partnerHeartbeatSend_runs, fun _ => partnerContactTimeout_runs,
    fun _ _ => partnerContactDeadline_runs⟩
  · exact checkpointTake_runs_hot hmode hrunning hcontact hsheaf
  · exact checkpointTake_runs_cold hmode hrunning hcontact hsheaf
  · exact checkpointComplete_runs_fits hmode hwhole hwritten hintact hhot
  · exact checkpointComplete_runs_refused hmode hwhole hwritten hintact

end Sys2Proof.Machine
end

/-! # A pair takes over and gives back (O44, chapter 10)

Loss of a leader, take-back and the word about SLUMBER. -/

section
namespace Sys2Proof.Machine

open Sys2Proof


variable {s u v w : State} {t : Nat}

/-! ### A leader's loss and a checkpoint's restoring (R232, R235) -/

theorem leaderLost_runs {r : Nat} (hr : s.start.tRun = some r) (hmode : inMode .partner s = true) (hpair : s.red.pair.isSome = true)
    (hrole : pairRole (role s) = true) (hanswer : s.red.wakeAnswer = none) (hlost : s.red.leaderLost = false) : Runs .leaderLost s fun u =>
      u.red.leaderLost = true ∧ (∃ d ∈ u.blocks.due, d.what = .takeover)
        ∧ u.now = max s.now (max r (max s.red.lastFrame s.red.lastSeen) + if hotRole (role s) then ms1 else 50 * ms1) := by
  obtain ⟨v, hv, h⟩ := s.exists_upTo (max r (max s.red.lastFrame s.red.lastSeen) + if hotRole (role s) then ms1 else 50 * ms1)
  rw [runs_iff]
  show Answers (execLeaderLost s) _
  unfold execLeaderLost
  rw [hr]
  dsimp only
  rw [hmode, hpair, hrole, hanswer, hlost, if_pos (by rfl), hv]
  exact ⟨rfl, ⟨_, List.mem_append_right _ List.mem_cons_self, rfl⟩, h.now⟩

theorem checkpointRestoreComplete_runs (hrestoring : s.red.restoring = true) : Runs (.checkpointRestoreComplete t) s fun u =>
    u.red.restoring = false ∧ u.red.startData = true ∧ u.now = max s.now t := by
  obtain ⟨v, hv, h⟩ := s.exists_upTo t
  rw [runs_iff]
  show Answers (execCheckpointRestoreComplete t s) _
  unfold execCheckpointRestoreComplete
  rw [hv]
  dsimp only
  rw [if_neg (by simp [h.red, hrestoring])]
  refine ⟨rfl, rfl, ?_⟩
  dsimp only
  split
  · exact (now_of_view (P := allBut []) (restoreCkpt_view _ _ rfl)).trans h.now
  · exact h.now

/-! ### The partner asks for the duty back (R236, R237) -/

theorem requestTakeBack_fields (s : State) : (requestTakeBack s).red.takeBackB = some (stepNow s + if hotRole (role s) then 8 else 100)
    ∧ (requestTakeBack s).red.takeAccepted = false ∧ (requestTakeBack s).red.takeCommit = false ∧ (requestTakeBack s).now = s.now := by
  unfold requestTakeBack
  extract_lets b
  generalize hw : { s with red := { s.red with takeBackB := some b, takeAccepted := false, takeCommit := false, takeNums := none, takeRetry := none } } = w
  obtain ⟨q, hq⟩ := ask_red 2 b w
  have hnow : w.now = s.now := by rw [← hw]
  exact ⟨by rw [hq, ← hw], by rw [hq, ← hw], by rw [hq, ← hw], (now_of_view (P := allBut []) (ask_view _ _ _ rfl)).trans hnow⟩

theorem takeBackEligible_runs {r : Nat} (hr : s.start.tRun = some r) (hmay : mayTakeBack r s = true) : Runs .takeBackEligible s fun u =>
    u.red.takeBackB = some (stepNow (s.upTo (r + 5 * sec1)) + if hotRole (role s) then 8 else 100)
      ∧ u.red.takeAccepted = false ∧ u.red.takeCommit = false ∧ u.now = max s.now (r + 5 * sec1) := by
  obtain ⟨v, hv, h⟩ := s.exists_upTo (r + 5 * sec1)
  obtain ⟨hstep, haccepted, hcommit, hnow⟩ := requestTakeBack_fields v
  rw [runs_iff]
  show Answers (execTakeBackEligible s) _
  unfold execTakeBackEligible
  rw [hr]
  dsimp only
  rw [if_pos hmay, hv]
  exact ⟨by rw [hstep, h.role], haccepted, hcommit, hnow.trans h.now⟩

theorem takeBackRetry_runs {n : Nat} (hn : s.red.takeBackB = some n) (hmode : inMode .partner s = true) (haccepted : s.red.takeAccepted = false) :
    Runs .takeBackRetry s fun u => u.now = (s.upToDevice (stepAt s n - 2 * ms1)).now + sec1 ∧ u.red.takeBackB.isSome = true
      ∧ u.red.takeAccepted = false ∧ u.red.takeCommit = false := by
  obtain ⟨v, hv, -⟩ := s.exists_upToDevice (stepAt s n - 2 * ms1)
  obtain ⟨w, hw, k⟩ := v.exists_upTo (v.now + sec1)
  obtain ⟨hstep, haccepted', hcommit, hnow⟩ := requestTakeBack_fields w
  rw [runs_iff]
  show Answers (execTakeBackRetry s) _
  unfold execTakeBackRetry
  rw [hn]
  dsimp only
  rw [hmode, haccepted, if_pos (by rfl), hv, hw]
  exact ⟨hnow.trans (k.now.trans (Nat.max_eq_right (Nat.le_add_right ..))), by rw [hstep]; rfl, haccepted', hcommit⟩

theorem takeBackRelease_runs {d : Nat} {r : PairRec} (hd : s.red.releaseAt = some d) (hr : s.red.pair = some r) (hdue : yieldDue s = false) :
    Runs .takeBackRelease s fun u => u.now = (s.upToDevice (d - 500000)).now
      ∧ (∃ x ∈ u.blocks.due, x.what = .yield_ r.node ∧ x.at_ = u.now) ∧ u.start = s.start ∧ u.streams = s.streams := by
  obtain ⟨v, hv, h⟩ := s.exists_upToDevice (d - 500000)
  have hdue' : yieldDue v = false := by rw [← hdue]; simp only [yieldDue, h.blocks]
  rw [runs_iff]
  show Answers (execTakeBackRelease s) _
  unfold execTakeBackRelease
  rw [hd, hr]
  dsimp only
  rw [hv, hdue', if_neg Bool.false_ne_true]
  exact ⟨rfl, ⟨_, List.mem_append_right _ List.mem_cons_self, rfl, rfl⟩, h.start, h.streams⟩

/-! ### What the two devices of a hot pair say of the duty and of SLUMBER (R83, R236 to R238) -/

/-- A leader that hears of a step at which the duty passes may plan for it; the grid stays as it is. -/
theorem noteFrame_due (h : TieHead) (s : State) : ∃ d, (noteFrame h s).blocks = { s.blocks with due := d } := by
  have hyield (w : State) : ∃ d, (learnYield h.flags w).blocks = { w.blocks with due := d } := by
    unfold learnYield
    split
    · exact holds_ite (p := fun u : State => ∃ d, u.blocks = { w.blocks with due := d }) ⟨_, rfl⟩ ⟨_, rfl⟩
    · exact ⟨_, rfl⟩
  unfold noteFrame
  rw [blocks_of_allBut (resumeTie_view _ rfl)]
  exact hyield _

/-- What a frame heard in contact leaves of a state reached by letting time pass. -/
structure InContact (s v w : State) : Prop where
  start : w.start = s.start
  straps : w.straps = s.straps
  sleep : w.sleep = s.sleep
  gptp : w.gptp = v.gptp
  grid : ∃ d, w.blocks = { s.blocks with due := d }
  pair : w.red.pair = s.red.pair
  state : w.red.state = s.red.state
  requests : w.red.requests = s.red.requests
  takeBackB : w.red.takeBackB = s.red.takeBackB
  takeAccepted : w.red.takeAccepted = s.red.takeAccepted
  takeCommit : w.red.takeCommit = s.red.takeCommit
  proposed : w.red.proposed = s.red.proposed

theorem Elapsed.inContact (h : Elapsed s t v) (hcontact : s.red.contact = true) (head : TieHead) : InContact s v (pairHeard head v) := by
  rw [pairHeard_of_contact (by rw [h.red, hcontact])]
  obtain ⟨p, a, n, x, hred⟩ := noteFrame_red head v
  rw [h.red] at hred
  obtain ⟨d, hd⟩ := noteFrame_due head v
  refine ⟨(start_of_allBut (noteFrame_view _ _ rfl)).trans h.start, (straps_of_allBut (noteFrame_view _ _ rfl)).trans h.straps,
    (sleep_of_allBut (noteFrame_view _ _ rfl)).trans h.sleep, gptp_of_allBut (noteFrame_view _ _ rfl), ⟨d, hd.trans (by rw [h.blocks])⟩, ?_, ?_, ?_, ?_, ?_, ?_, ?_⟩ <;>
    rw [hred]

theorem InContact.inMode (h : InContact s v w) (m) : Machine.inMode m w = Machine.inMode m s := by simp only [Machine.inMode, h.start]

theorem InContact.role (h : InContact s v w) : Machine.role w = Machine.role s := by simp only [Machine.role, lvlD, lvl, h.straps]

theorem InContact.stepAt (h : InContact s v w) (b) : Machine.stepAt w b = Machine.stepAt s b := by
  obtain ⟨d, hd⟩ := h.grid
  simp only [Machine.stepAt, hd]

theorem ask_hot {code arg : Nat} (hcold : coldRole (role s) = false) :
    ask code arg s = { s with red := { s.red with requests := s.red.requests ++ [requestBody code arg] } } :=
  if_neg (by rw [hcold]; decide)

section Heard

variable {b : TieFrame} {head : TieHead}

theorem takeBackRequest_runs (hheard : TieHeard s b head 4) (hcold : coldRole (role s) = false) (hmode : inMode .leader s = true)
    (hpartner : strappedPartner (role s) = true) (hrunning : s.blocks.running = true) (hcontact : s.red.contact = true)
    (hpayload : head.payload.take 1 = [2#8]) (hnumber : s.blocks.number < ofBe (slice 2 4 head.payload)) :
    Runs (.takeBackRequest t (.tie b)) s fun u => u.red.takeBackB = some (ofBe (slice 2 4 head.payload)) ∧ u.red.takeCommit = false
      ∧ u.red.requests = s.red.requests ++ [requestBody 3 (ofBe (slice 2 4 head.payload))] := by
  obtain ⟨v, hv, h⟩ := s.exists_upTo t
  have hw := h.inContact hcontact head
  rw [runs_iff]
  show Answers (execTakeBackRequest t (.tie b) s) _
  unfold execTakeBackRequest
  rw [hv]
  extract_lets work
  rw [receivePair_tie h hheard, answers_next]
  generalize pairHeard head v = w at hw ⊢
  obtain ⟨d, hd⟩ := hw.grid
  have hcold' : coldRole (role w) = false := by rw [hw.role, hcold]
  dsimp only [work]
  rw [if_pos (by rw [hpayload, hw.inMode, hmode, hw.role, hpartner, hd]; simp [hrunning, hnumber]), hcold', if_neg Bool.false_ne_true,
    ask_hot (by exact hcold')]
  exact ⟨rfl, rfl, congrArg (· ++ _) hw.requests⟩

theorem takeBackAccepted_runs {n : Nat} (hheard : TieHeard s b head 4) (hcold : coldRole (role s) = false) (hmode : inMode .partner s = true)
    (hcontact : s.red.contact = true) (hpayload : head.payload.take 1 = [3#8]) (hn : s.red.takeBackB = some n)
    (hstep : ofBe (slice 2 4 head.payload) = n) (haccepted : s.red.takeAccepted = false)
    (hearly : (s.upTo t).gptp.time + 2 * ms1 ≤ stepAt s n) : Runs (.takeBackAccepted t (.tie b)) s fun u =>
      u.red.takeAccepted = true ∧ u.red.takeCommit = true ∧ u.red.takeBackB = some n ∧ u.red.requests = s.red.requests ++ [requestBody 4 n] := by
  obtain ⟨v, hv, h⟩ := s.exists_upTo t
  have hw := h.inContact hcontact head
  rw [hv] at hearly
  rw [runs_iff]
  show Answers (execTakeBackAccepted t (.tie b) s) _
  unfold execTakeBackAccepted
  rw [hv]
  extract_lets work
  rw [receivePair_tie h hheard, answers_next]
  generalize pairHeard head v = w at hw ⊢
  have hcold' : coldRole (role w) = false := by rw [hw.role, hcold]
  dsimp only [work]
  rw [hw.takeBackB, hn]
  dsimp only
  rw [if_pos (by rw [hpayload, hw.inMode, hmode, hw.takeAccepted, haccepted, hw.gptp, hw.stepAt, hcold', hstep, decide_eq_true hearly]; simp), hcold',
    if_neg Bool.false_ne_true, ask_hot (by exact hcold')]
  exact ⟨rfl, rfl, rfl, congrArg (· ++ _) hw.requests⟩

theorem takeBackCommit_runs (hheard : TieHeard s b head 4) (hmode : inMode .leader s = true) (hcontact : s.red.contact = true)
    (hpayload : head.payload.take 1 = [4#8]) (hstep : s.red.takeBackB = some (ofBe (slice 2 4 head.payload))) :
    Runs (.takeBackCommit t (.tie b)) s fun u =>
      u.red.takeCommit = if s.blocks.number < ofBe (slice 2 4 head.payload) then true else s.red.takeCommit := by
  obtain ⟨v, hv, h⟩ := s.exists_upTo t
  have hw := h.inContact hcontact head
  rw [runs_iff]
  show Answers (execTakeBackCommit t (.tie b) s) _
  unfold execTakeBackCommit
  rw [hv]
  extract_lets work
  rw [receivePair_tie h hheard, answers_next]
  generalize pairHeard head v = w at hw ⊢
  obtain ⟨d, hd⟩ := hw.grid
  dsimp only [work]
  rw [hpayload, hw.inMode, hmode, hw.takeBackB, hstep, hd, ← hw.takeCommit]
  by_cases hbefore : s.blocks.number < ofBe (slice 2 4 head.payload)
  · rw [if_pos hbefore, if_pos (by simp [hbefore])]
  · rw [if_neg hbefore, if_neg (by simp [hbefore])]

theorem slumberProposal_runs_accepted (hheard : TieHeard s b head 4) (hpowered : powered s = true) (hcold : coldRole (role s) = false)
    (hcontact : s.red.contact = true) (hpayload : head.payload.take 1 = [5#8]) (hmode : inMode .partner s = true)
    (hstate : s.red.state ≠ .joining) (hrole : role s = 7 ∨ role s = 8) : Runs (.slumberProposal t (.tie b)) s fun u =>
      u.sleep.entryB = some (ofBe (slice 2 4 head.payload)) ∧ u.red.requests = s.red.requests ++ [requestBody 6 1] := by
  obtain ⟨v, hv, h⟩ := s.exists_upTo t
  have hw := h.inContact hcontact head
  have hpartner : strappedPartner (role s) = true := by rcases hrole with hrole | hrole <;> rw [hrole] <;> rfl
  rw [runs_iff]
  show Answers (execSlumberProposal t (.tie b) s) _
  unfold execSlumberProposal
  rw [hv]
  extract_lets work
  rw [receivePair_tie h hheard, answers_next]
  generalize pairHeard head v = w at hw ⊢
  have hpowered' : powered w = true := by rw [← hpowered]; simp only [powered, awake, hw.start, hw.sleep]
  have hmay : partnerMay w = true := by rw [partnerMay, hw.inMode, hmode, hw.role, hpartner]; rfl
  dsimp only [work]
  rw [hpayload, hpowered', if_pos (by rfl), hmay, hw.state, if_pos (by simpa using hstate), ask_hot (by rw [← hcold, ← hw.role]; rfl)]
  exact ⟨rfl, congrArg (· ++ _) hw.requests⟩

theorem slumberProposal_runs_refused (hheard : TieHeard s b head 4) (hpowered : powered s = true) (hcold : coldRole (role s) = false)
    (hcontact : s.red.contact = true) (hpayload : head.payload.take 1 = [5#8]) (hstate : s.red.state = .joining) :
    Runs (.slumberProposal t (.tie b)) s fun u =>
      u.sleep.entryB = s.sleep.entryB ∧ u.red.requests = s.red.requests ++ [requestBody 6 0] := by
  obtain ⟨v, hv, h⟩ := s.exists_upTo t
  have hw := h.inContact hcontact head
  rw [runs_iff]
  show Answers (execSlumberProposal t (.tie b) s) _
  unfold execSlumberProposal
  rw [hv]
  extract_lets work
  rw [receivePair_tie h hheard, answers_next]
  generalize pairHeard head v = w at hw ⊢
  have hpowered' : powered w = true := by rw [← hpowered]; simp only [powered, awake, hw.start, hw.sleep]
  dsimp only [work]
  rw [hpayload, hpowered', if_pos (by rfl), hw.state, hstate, if_neg (by simp), ask_hot (by rw [← hcold, ← hw.role])]
  exact ⟨congrArg Sleep.entryB hw.sleep, congrArg (· ++ _) hw.requests⟩

theorem slumberAnswer_exec {n : Nat} (hheard : TieHeard s b head 4) (hcontact : s.red.contact = true) (hpayload : head.payload.take 1 = [6#8])
    (hmode : inMode .leader s = true) (hproposed : s.red.proposed = some n) :
    Runs (.slumberAnswer t (.tie b)) s fun u => u.red.proposed = none ∧
      if ofBe (slice 2 4 head.payload) = 1 then u.sleep.entryB = some n else u.sleep.entryB = none ∧ u.sleep.condAt = none := by
  obtain ⟨v, hv, h⟩ := s.exists_upTo t
  have hw := h.inContact hcontact head
  rw [runs_iff]
  show Answers (execSlumberAnswer t (.tie b) s) _
  unfold execSlumberAnswer
  rw [hv]
  extract_lets work
  rw [receivePair_tie h hheard, answers_next]
  generalize pairHeard head v = w at hw ⊢
  dsimp only [work]
  rw [hpayload, hw.inMode, hmode, hw.proposed, hproposed, if_pos (by rfl)]
  by_cases hyes : ofBe (slice 2 4 head.payload) = 1
  · rw [if_pos hyes, if_pos hyes]
    exact ⟨rfl, rfl⟩
  · rw [if_neg hyes, if_neg hyes]
    exact ⟨rfl, rfl, rfl⟩

end Heard

/-- Settles O44: a lost leader's takeover, the take-back's request, acceptance and commitment, and the pair's word about SLUMBER. -/
theorem pairHandoversRun : Obligations.PairHandoversRun := by
  refine ⟨fun _ _ => leaderLost_runs, fun _ _ => checkpointRestoreComplete_runs, fun _ _ => takeBackEligible_runs,
    fun _ _ _ _ => takeBackRequest_runs, fun _ _ _ _ _ => takeBackAccepted_runs, fun _ _ _ _ hheard hmode hcontact hpayload hstep => ⟨?_, ?_⟩,
    fun _ _ => takeBackRetry_runs, fun _ _ _ => takeBackRelease_runs,
    fun _ _ _ _ hheard hpowered hcold hcontact hpayload hmode =>
      ⟨slumberProposal_runs_accepted hheard hpowered hcold hcontact hpayload hmode,
        slumberProposal_runs_refused hheard hpowered hcold hcontact hpayload⟩,
    fun _ _ _ _ _ hheard hcontact hpayload hmode hproposed => ⟨?_, ?_⟩⟩
  · intro hbefore
    obtain ⟨u, hu, hcommit⟩ := takeBackCommit_runs hheard hmode hcontact hpayload hstep
    exact ⟨u, hu, hcommit.trans (if_pos hbefore)⟩
  · intro hlate
    obtain ⟨u, hu, hcommit⟩ := takeBackCommit_runs hheard hmode hcontact hpayload hstep
    exact ⟨u, hu, hcommit.trans (if_neg (Nat.not_lt.mpr hlate))⟩
  · intro hyes
    obtain ⟨u, hu, hnone, hsleep⟩ := slumberAnswer_exec hheard hcontact hpayload hmode hproposed
    exact ⟨u, hu, (if_pos hyes ▸ hsleep :), hnone⟩
  · intro hno
    obtain ⟨u, hu, hnone, hsleep⟩ := slumberAnswer_exec hheard hcontact hpayload hmode hproposed
    rw [if_neg hno] at hsleep
    exact ⟨u, hu, hsleep.1, hsleep.2, hnone⟩

end Sys2Proof.Machine
end

/-! # Keys (O45, chapter 11)

Reservations, keys drawn and renewed, AK distributed. -/

section
namespace Sys2Proof.Machine

open Sys2Proof


variable {s u v w : State} {t : Nat}

/-! ### Reservations (R248, R249) -/

theorem Elapsed.flashReady (h : Elapsed s t v) : Machine.flashReady v = Machine.flashReady s := by simp only [Machine.flashReady, h.mem]

theorem retireSlot_fields (i : Fin 8) (s : State) : (retireSlot i s).sec.retired = s.sec.retired.set i true
    ∧ (retireSlot i s).sec.slots = s.sec.slots ∧ (retireSlot i s).mem = s.mem := by
  unfold retireSlot keylessFault
  dsimp only
  split
  · exact ⟨rfl, rfl, rfl⟩
  · exact ⟨rfl, rfl, rfl⟩

/-- A record that takes at once leaves what the key store holds. -/
theorem ringWrite_recorded_sec (body : List Byte) (next : Nat) (s : State) :
    ∃ k y, ringWrite resRing body next [] s = (true, k, y) ∧ y.sec = s.sec :=
  ⟨_, _, rfl, sec_of_allBut (ringWrite_view resRing body next [] (s := s) rfl)⟩

section Commit

variable {i : Fin 8} (hforce : s.sec.inForce = some i) (hflash : flashReady s = true)
include hforce hflash

/-- A reservation that commits a block counts its record and makes its channel ready. -/
theorem reservationCommit_exec (ann : Bool) (hready : (if ann then s.sec.annChan else s.sec.tenantChan).ready = false) {e b : Nat}
    (hblock : blockAfter (highestBlock s.mem.flash i.val (if ann then 1 else 0)) = some (e, b)) :
    Runs (.reservationCommit t ann []) s fun u => u.sec.recSeq = s.sec.recSeq + 1
      ∧ u.sec.tenantChan = (if ann then s.sec.tenantChan else { ready := true, epoch := e, block := b, pn := b * 1048576 })
      ∧ u.sec.annChan = if ann then { ready := true, epoch := e, block := b, pn := b * 1048576 } else s.sec.annChan := by
  obtain ⟨v, hv, h⟩ := s.exists_upTo t
  rw [runs_iff]
  show Answers (execReservationCommit t ann [] s) _
  unfold execReservationCommit commitReservation
  rw [hv, h.sec, hforce]
  dsimp only
  rw [h.flashReady, hflash, h.mem, reservationDue, hready, if_neg (by simp), if_neg Bool.false_ne_true, hblock, answers_next]
  obtain ⟨k, y, hy, hsec⟩ := ringWrite_recorded_sec (reservationBody i.val (if ann then 1 else 0) e b (s.sec.recSeq + 1)) s.sec.recSlot v
  dsimp only
  rw [hy]
  dsimp only
  rw [hsec, h.sec, Bool.not_true, if_neg Bool.false_ne_true]
  cases ann with
  | true =>
    have hchan : s.sec.annChan.ready = false := hready
    simp [hchan]
  | false =>
    have hchan : s.sec.tenantChan.ready = false := hready
    simp [hchan]

theorem reservationCommit_runs_tenant (hready : s.sec.tenantChan.ready = false) (e b : Nat)
    (hblock : blockAfter (highestBlock s.mem.flash i.val 0) = some (e, b)) : Runs (.reservationCommit t false []) s fun u =>
      u.sec.tenantChan = { ready := true, epoch := e, block := b, pn := b * 1048576 } ∧ u.sec.annChan = s.sec.annChan
        ∧ u.sec.recSeq = s.sec.recSeq + 1 := by
  obtain ⟨u, hu, hseq, htenant, hann⟩ := reservationCommit_exec hforce hflash false hready hblock
  exact ⟨u, hu, htenant, hann, hseq⟩

theorem reservationCommit_runs_announce (hready : s.sec.annChan.ready = false) (e b : Nat)
    (hblock : blockAfter (highestBlock s.mem.flash i.val 1) = some (e, b)) : Runs (.reservationCommit t true []) s fun u =>
      u.sec.annChan = { ready := true, epoch := e, block := b, pn := b * 1048576 } ∧ u.sec.tenantChan = s.sec.tenantChan := by
  obtain ⟨u, hu, -, htenant, hann⟩ := reservationCommit_exec hforce hflash true hready hblock
  exact ⟨u, hu, hann, htenant⟩

theorem reservationCommit_runs_spent (hready : s.sec.tenantChan.ready = false)
    (hblock : blockAfter (highestBlock s.mem.flash i.val 0) = none) : Runs (.reservationCommit t false []) s fun u =>
      u.sec.retired = s.sec.retired.set i true ∧ u.mem.flash = s.mem.flash ∧ u.sec.slots = s.sec.slots := by
  obtain ⟨v, hv, h⟩ := s.exists_upTo t
  obtain ⟨hretired, hslots, hmem⟩ := retireSlot_fields i v
  rw [runs_iff]
  show Answers (execReservationCommit t false [] s) _
  unfold execReservationCommit commitReservation
  rw [hv, h.sec, hforce]
  dsimp only
  rw [h.flashReady, hflash, h.mem, reservationDue, if_neg Bool.false_ne_true, hready, if_neg (by simp), if_neg Bool.false_ne_true,
    if_neg Bool.false_ne_true, hblock, answers_next]
  dsimp only
  rw [if_neg Bool.false_ne_true, hretired, hslots, hmem, h.sec, h.mem]
  exact ⟨rfl, rfl, rfl⟩

end Commit

/-! ### A key drawn and renewed (R252, R256, R257) -/

theorem programKey_good_eq (d : KeyData) (node : Nat) {i : Fin 8} (hlow : lowestBlank s = some i) (second : Bool) :
    ∃ n, (programKey d (false, second) node s).2 = { s with sec := { s.sec with slots := s.sec.slots.set i (.valid d), nextForce := n } } := by
  unfold programKey
  dsimp only
  rw [programOnce_good d node hlow]
  exact ⟨_, rfl⟩

theorem createKey_good {i : Fin 8} (hlow : lowestBlank s = some i) (second : Bool) :
    (createKey (false, second) s).sec.slots
        = s.sec.slots.set i (.valid { tk := Config.random128 s.freeCtr, ak := keptAk s, tenant := Fin.ofNat 16 (tenant s), origin := .created })
      ∧ (createKey (false, second) s).sec.createAt = s.sec.createAt ∧ (createKey (false, second) s).sec.inForce = s.sec.inForce
      ∧ (createKey (false, second) s).freeCtr = s.freeCtr + 1 ∧ (createKey (false, second) s).now = s.now := by
  unfold createKey
  rw [hlow]
  obtain ⟨n, hn⟩ := programKey_good_eq (s := { s with freeCtr := s.freeCtr + 1 })
    { tk := Config.random128 s.freeCtr, ak := keptAk s, tenant := Fin.ofNat 16 (tenant s), origin := .created } 255 hlow second
  dsimp only
  rw [hn]
  exact ⟨rfl, rfl, rfl, rfl, rfl⟩

theorem Elapsed.lowestBlank (h : Elapsed s t v) : Machine.lowestBlank v = Machine.lowestBlank s := by simp only [Machine.lowestBlank, h.sec]

theorem Elapsed.keptAk (h : Elapsed s t v) : Machine.keptAk v = Machine.keptAk s := by simp only [Machine.keptAk, keyInForce, h.sec]

theorem keyCreate_runs {c : Nat} {i : Fin 8} {second : Bool} (hc : s.sec.createAt = some c) (hleader : strappedLeader (role s) = true)
    (hmode : s.start.mode.isSome = true) (hsafe : inMode .safe s = false) (hforce : s.sec.inForce = none) (hnext : s.sec.nextForce = none)
    (hlow : lowestBlank s = some i) : Runs (.keyCreate (false, second)) s fun u =>
      u.sec.createAt = none ∧ u.now = max s.now c ∧ u.freeCtr = s.freeCtr + 1
        ∧ u.sec.slots = s.sec.slots.set i (.valid { tk := Config.random128 s.freeCtr, ak := 0#128,
                                                    tenant := Fin.ofNat 16 (tenant s), origin := .created }) := by
  have hlow' : lowestBlank (keyDueAt c s) = some i := hlow
  obtain ⟨hslots, hcreate, -, hfree, hnow⟩ := createKey_good hlow' second
  refine ⟨_, exec_keyCreate_of_due _ hc hleader hmode hsafe hforce hnext, hcreate, hnow.trans (State.upTo_now s c), hfree, hslots.trans ?_⟩
  have hak : keptAk (keyDueAt c s) = 0#128 := by
    simp only [keptAk, keyInForce, show (keyDueAt c s).sec.inForce = none from hforce]
    rfl
  rw [hak]
  rfl

theorem keyRenew_runs {i : Fin 8} {second : Bool} (hpair : s.lands.pair = true) (hearly : s.now < s.lands.pairSince + 10 * sec1)
    (hmode : inMode .leader s = true) (hleader : strappedLeader (role s) = true) (hforce : s.sec.inForce.isSome = true)
    (hsince : s.start.tReset + 5 * sec1 ≤ s.lands.pairSince) (hlow : lowestBlank s = some i) : Runs (.keyRenew (false, second)) s fun u =>
      u.now = s.lands.pairSince + 10 * sec1 ∧ u.sec.inForce = s.sec.inForce
        ∧ u.sec.slots = s.sec.slots.set i (.valid { tk := Config.random128 s.freeCtr, ak := keptAk s,
                                                    tenant := Fin.ofNat 16 (tenant s), origin := .created }) := by
  obtain ⟨v, hv, h⟩ := s.exists_upTo (s.lands.pairSince + 10 * sec1)
  obtain ⟨hslots, -, hin, -, hnow⟩ := createKey_good (h.lowestBlank.trans hlow) second
  rw [runs_iff]
  show Answers (execKeyRenew (false, second) s) _
  unfold execKeyRenew
  dsimp only
  rw [hpair, hmode, hleader, hforce, if_pos (by simp [hearly, hsince]), hv, answers_next]
  refine ⟨hnow.trans (h.now.trans (Nat.max_eq_right hearly.le)), hin.trans (congrArg Security.inForce h.sec), hslots.trans ?_⟩
  rw [h.keptAk, h.tenant, h.freeCtr, h.sec]

/-! ### AK is distributed (R258) -/

theorem sendTenant_eq (f : NetFrame) (s : State) : ∃ p x c,
    sendTenant f s = { s with ports := p, streams := x, sec := { s.sec with tenantChan := c } } := by
  unfold sendTenant
  split
  · split
    · exact ⟨_, _, _, rfl⟩
    · exact ⟨s.ports, s.streams, s.sec.tenantChan, rfl⟩
  · exact ⟨s.ports, s.streams, s.sec.tenantChan, rfl⟩

/-- A frame sent uses a number of its channel, and no key changes. -/
theorem sendTenant_sec (f : NetFrame) (s : State) : ∃ c, (sendTenant f s).sec = { s.sec with tenantChan := c } := by
  obtain ⟨_, _, c, h⟩ := sendTenant_eq f s
  exact ⟨c, by rw [h]⟩

theorem akDistributionSend_runs {ak : BitVec 128} {ll : Nat} (hak : s.sec.ak = some ak) (hnode : fumaroleNode s = some ll)
    (hmode : inMode .leader s = true) (htenant : tenant s ≠ 0) : Runs .akDistributionSend s fun u =>
      u.sec.akAt = nextInstant (max s.sec.akAt s.gptp.time - 1) (offset s + 250 * ms1) sec1 + sec1 ∧ u.sec.ak = some ak := by
  obtain ⟨v, hv, h⟩ := s.exists_upToDevice (nextInstant (max s.sec.akAt s.gptp.time - 1) (offset s + 250 * ms1) sec1)
  rw [runs_iff]
  show Answers (execAkDistributionSend s) _
  unfold execAkDistributionSend
  rw [hak, hnode]
  dsimp only
  rw [hmode, if_neg (by simpa using htenant), hv, h.sec, answers_next]
  obtain ⟨c, hc⟩ := sendTenant_sec (pairFrameTo (Machine.tenant v) ll (pairHead 5 s.sec.pairing.windowNo v ++ List.replicate 20 0#8 ++ be 16 ak.toNat) v) { v with sec := { s.sec with
    akAt := nextInstant (max s.sec.akAt s.gptp.time - 1) (offset s + 250 * ms1) sec1 + sec1 } }
  rw [hc]
  exact ⟨rfl, hak⟩

theorem pairBody_congr (heui : u.eui48 = s.eui48) (kind : Nat) (f : NetFrame) : pairBody kind f u = pairBody kind f s := by
  simp only [pairBody, heui]

/-- The block at which a frame heard puts its key into force is not changed by noting its sender. -/
theorem noteSci_ak (f : NetFrame) (s : State) : (noteSci f s).sec.ak = s.sec.ak := by
  unfold noteSci
  split <;> rfl

theorem akDistributionReceive_runs {f : NetFrame} {b : List Byte} (hbody : pairBody 5 f s = some b) (hmode : inMode .member s = true)
    (htenant : tenant s ≠ 0) (hdst : dstTenant f.dst = tenant s) (hreceived : Received s t f) : Runs (.akDistributionReceive t f) s fun u =>
      u.sec.nextAk = some (BitVec.ofNat 128 (ofBe (slice 32 16 b))) ∧ u.sec.ak = s.sec.ak := by
  obtain ⟨v, hv, h⟩ := s.exists_upTo t
  obtain ⟨hoffered, hrunning, hverify⟩ := hreceived
  rw [hv] at hoffered hverify
  rw [runs_iff]
  show Answers (execAkDistributionReceive t f s) _
  unfold execAkDistributionReceive
  dsimp only
  rw [hv, pairBody_congr h.eui48, hbody]
  dsimp only
  rw [h.inMode, hmode, h.tenant, hdst, if_pos (by simpa using htenant), endpointIn_offered hoffered (h.sysStopped.trans hrunning)]
  unfold verified
  rw [hverify, answers_next]
  exact ⟨rfl, (noteSci_ak f v).trans (congrArg Security.ak h.sec :)⟩

/-- Settles O45: reservations by the block that follows the highest one written, keys by the lowest blank slot, AK by its period. -/
theorem keysRun : Obligations.KeysRun := by
  refine ⟨fun _ _ _ hforce hflash hready => ⟨reservationCommit_runs_tenant hforce hflash hready, reservationCommit_runs_spent hforce hflash hready⟩,
    fun _ _ _ => reservationCommit_runs_announce, fun _ _ _ _ => keyCreate_runs, fun _ _ _ => keyRenew_runs,
    fun _ _ _ => akDistributionSend_runs, fun _ _ _ _ => akDistributionReceive_runs⟩

end Sys2Proof.Machine
end

/-! # The pairing window (O46, chapter 11)

Presses of PAIR, the listen and the own window. -/

section
namespace Sys2Proof.Machine

open Sys2Proof


variable {s u v w : State} {t : Nat}

/-! ### Presses of PAIR (R259) -/

theorem closeWindow_pairing (s : State) : (closeWindow s).sec = { s.sec with pairing := { s.sec.pairing with open_ := false, exchanges := [] } }
    ∧ (closeWindow s).now = s.now := by
  unfold closeWindow
  dsimp only
  rw [refreshLeds_sec, refreshLeds_now]
  split
  · exact ⟨rfl, rfl⟩
  · exact ⟨raise_sec .., raise_now ..⟩

section Press

variable {held r : Nat} (hmay : mayPair s = true) (hr : s.start.tRun = some r) (hlong : 50 * ms1 ≤ held) (hshort : held ≤ 5 * sec1)
  (hrun : r + held ≤ max s.now t) (hreset : s.start.tReset + 5 * sec1 + held ≤ max s.now t)
include hmay hr hlong hshort hrun hreset

theorem pairPress_exec {p : State → Prop} (h : ∀ v, Elapsed s t v → Answers
    (if s.sec.pairing.open_ then .next (closeWindow v)
     else if s.sec.pairing.listenUntil.isSome then .next v
     else .next { v with sec := { s.sec with pairing := { s.sec.pairing with
      listenUntil := some (v.now + 2 * sec1), pressAt := v.now, heard := [], taking := none, joins := 0 } } }) p) :
    Runs (.pairPress t held) s p := by
  obtain ⟨v, hv, k⟩ := s.exists_upTo t
  have hmay' : mayPair v = true := by rw [← hmay]; simp only [mayPair, k.inMode]
  rw [runs_iff]
  show Answers (execPairPress t held s) p
  unfold execPairPress
  dsimp only
  rw [hv, hmay', if_neg (by rw [k.start, hr, Option.getD_some, k.now]; simp [hlong, hshort, hrun, hreset]), k.sec]
  exact h v k

theorem pairPress_runs_open (hopen : s.sec.pairing.open_ = true) : Runs (.pairPress t held) s fun u =>
    u.sec.pairing.open_ = false ∧ u.sec.pairing.exchanges = [] := by
  refine pairPress_exec hmay hr hlong hshort hrun hreset fun v _ => ?_
  rw [if_pos hopen, answers_next, (closeWindow_pairing v).1]
  exact ⟨rfl, rfl⟩

theorem pairPress_runs_listen (hopen : s.sec.pairing.open_ = false) (hlisten : s.sec.pairing.listenUntil = none) :
    Runs (.pairPress t held) s fun u => u.sec.pairing.listenUntil = some (max s.now t + 2 * sec1) ∧ u.sec.pairing.open_ = false
      ∧ u.sec.pairing.pressAt = max s.now t := by
  refine pairPress_exec hmay hr hlong hshort hrun hreset fun v k => ?_
  rw [if_neg (by rw [hopen]; decide), if_neg (by rw [hlisten]; decide), answers_next, ← k.now]
  exact ⟨rfl, hopen, rfl⟩

theorem pairPress_runs_listening (hopen : s.sec.pairing.open_ = false) (hlisten : s.sec.pairing.listenUntil.isSome = true) :
    Runs (.pairPress t held) s fun u => u.sec = s.sec := by
  refine pairPress_exec hmay hr hlong hshort hrun hreset fun v k => ?_
  rw [if_neg (by rw [hopen]; decide), if_pos hlisten, answers_next]
  exact k.sec

end Press

/-! ### The end of the listen (R259, R262) -/

theorem sendPairing_sec (f : NetFrame) (s : State) : (sendPairing f s).sec = s.sec := sendOwn_sec ..

theorem sendPairing_now (f : NetFrame) (s : State) : (sendPairing f s).now = s.now := sendOwn_now ..

/-- A join sent: whose window it answers, which key it asks for, and that it is the first. -/
theorem sendJoin_sec (w : PairWin) (ak : Bool) (s : State) : ∃ b n, (sendJoin w ak s).sec = { s.sec with pairing := { s.sec.pairing with
    taking := some w, takingAk := ak, join := b, takeEph := n, joins := 1, joinAt := s.now } } := by
  unfold sendJoin
  dsimp only
  rw [sendPairing_sec]
  exact ⟨_, _, rfl⟩

section Listen

variable {d : Nat} (hd : s.sec.pairing.listenUntil = some d) (htaking : s.sec.pairing.taking = none)
include hd htaking

theorem pairListenExpiry_runs_window (hheard : s.sec.pairing.heard = []) (hforce : s.sec.inForce.isSome = true) :
    Runs .pairListenExpiry s fun u => u.sec.pairing.open_ = true ∧ u.sec.pairing.windowEnd = max s.now d + 60 * sec1
      ∧ u.sec.pairing.windowNo = s.sec.pairing.windowNo + 1 ∧ u.sec.pairing.listenUntil = none := by
  obtain ⟨v, hv, h⟩ := s.exists_upTo d
  obtain ⟨i, hi⟩ := Option.isSome_iff_exists.mp hforce
  rw [runs_iff]
  show Answers (execPairListenExpiry s) _
  unfold execPairListenExpiry
  rw [hd]
  dsimp only
  rw [hv, h.sec, hheard, htaking, hi]
  rw [if_neg (by simp), lowerWindow, List.foldl_nil, ite_self]
  rw [answers_next, refreshLeds_sec, h.now]
  exact ⟨rfl, rfl, rfl, rfl⟩

theorem pairListenExpiry_runs_keyless (hheard : s.sec.pairing.heard = []) (hforce : s.sec.inForce = none) :
    Runs .pairListenExpiry s fun u => u.sec.pairing.open_ = s.sec.pairing.open_ ∧ u.sec.pairing.listenUntil = none
      ∧ u.sec.pairing.taking = none := by
  obtain ⟨v, hv, h⟩ := s.exists_upTo d
  rw [runs_iff]
  show Answers (execPairListenExpiry s) _
  unfold execPairListenExpiry
  rw [hd]
  dsimp only
  rw [hv, h.sec, hheard, htaking, hforce]
  rw [if_neg (by simp), lowerWindow, List.foldl_nil, ite_self]
  rw [answers_next, pairingFault, raise_sec]
  exact ⟨rfl, rfl, rfl⟩

theorem pairListenExpiry_runs_join {w : PairWin} (hleader : strappedLeader (role s) = true) (htenant : tenant s ≠ 0)
    (hforce : s.sec.inForce.isSome = true) (hown : s.sec.pairing.heard.any (fun x => x.tenant.val == tenant s) = false)
    (hlower : lowerWindow s.sec.pairing.heard = some w) : Runs .pairListenExpiry s fun u =>
      u.sec.pairing.taking = some w ∧ u.sec.pairing.takingAk = true ∧ u.sec.pairing.joins = 1 := by
  obtain ⟨v, hv, h⟩ := s.exists_upTo d
  obtain ⟨i, hi⟩ := Option.isSome_iff_exists.mp hforce
  rw [runs_iff]
  show Answers (execPairListenExpiry s) _
  unfold execPairListenExpiry
  rw [hd]
  dsimp only
  rw [hv, h.sec, htaking]
  obtain ⟨y, hy⟩ : ∃ y, ({ v with sec := { s.sec with pairing := { s.sec.pairing with listenUntil := none, heard := [], taking := none } } } : State) = y := ⟨_, rfl⟩
  have hrole : role y = role s := by rw [← h.role, ← hy]; rfl
  have htenant' : tenant y = tenant s := by rw [← h.tenant, ← hy]; rfl
  dsimp only at hy
  rw [hy, htenant', hown, if_neg (by simp), hrole, hleader, if_pos (by simpa using htenant), hlower, hi]
  obtain ⟨b, n, hsec⟩ := sendJoin_sec w true y
  dsimp only
  rw [answers_next, hsec]
  exact ⟨rfl, rfl, rfl⟩

end Listen

/-! ### The own window's frames and its end (R260, R261) -/

theorem windowFrameSend_runs (hopen : s.sec.pairing.open_ = true) : Runs .windowFrameSend s fun u =>
    u.sec.pairing.windowNext = s.sec.pairing.windowNext + 250 * ms1 ∧ u.now = max s.now s.sec.pairing.windowNext
      ∧ u.sec.pairing.windowBody = windowBody (s.upTo s.sec.pairing.windowNext) := by
  obtain ⟨v, hv, h⟩ := s.exists_upTo s.sec.pairing.windowNext
  rw [hv, runs_iff]
  show Answers (execWindowFrameSend s) _
  unfold execWindowFrameSend
  rw [if_neg (by rw [hopen]; decide), hv]
  dsimp only
  rw [answers_next, sendPairing_sec, sendPairing_now, h.sec]
  exact ⟨rfl, h.now, rfl⟩

theorem pairingWindowExpiry_runs (hopen : s.sec.pairing.open_ = true) : Runs .pairingWindowExpiry s fun u =>
    u.sec.pairing.open_ = false ∧ u.sec.pairing.exchanges = [] ∧ u.now = max s.now s.sec.pairing.windowEnd := by
  obtain ⟨v, hv, h⟩ := s.exists_upTo s.sec.pairing.windowEnd
  obtain ⟨hsec, hnow⟩ := closeWindow_pairing v
  rw [runs_iff]
  show Answers (execPairingWindowExpiry s) _
  unfold execPairingWindowExpiry
  rw [if_pos hopen, hv, answers_next, hsec, hnow]
  exact ⟨rfl, rfl, h.now⟩

/-! ### A window heard during the listen (R259, R262) -/

theorem noteSci_pairing (f : NetFrame) (s : State) : (noteSci f s).sec.pairing = s.sec.pairing := by
  unfold noteSci
  split <;> rfl

theorem windowFrameReceive_runs {f : NetFrame} {b : List Byte} (hbody : pairBody 1 f s = some b)
    (hlisten : s.sec.pairing.listenUntil.isSome = true) (hmay : mayPair s = true) (hdst : (windowOf b).tenant.val = dstTenant f.dst)
    (htenant : (windowOf b).tenant.val = tenant s) (htaking : s.sec.pairing.taking = none) (hheard : s.sec.pairing.heard = [])
    (hreceived : Received s t f) : Runs (.windowFrameReceive t f) s fun u => u.sec.pairing.heard = [windowOf b]
      ∧ (slice 87 65 b ≠ identityKey → u.sec.pairing.taking = some (windowOf b) ∧ u.sec.pairing.takingAk = false ∧ u.sec.pairing.joins = 1)
      ∧ (slice 87 65 b = identityKey → u.sec.pairing.taking = none) := by
  obtain ⟨v, hv, h⟩ := s.exists_upTo t
  obtain ⟨hoffered, hrunning, hverify⟩ := hreceived
  rw [hv] at hoffered hverify
  have hmay' : mayPair v = true := by rw [← hmay]; simp only [mayPair, h.inMode]
  rw [runs_iff]
  show Answers (execWindowFrameReceive t f s) _
  unfold execWindowFrameReceive
  dsimp only
  rw [hv, pairBody_congr h.eui48, hbody]
  dsimp only
  rw [h.sec, hmay', ← hdst, h.tenant, htenant, if_neg (by simpa using Option.isSome_iff_ne_none.mp hlisten),
    endpointIn_offered hoffered (h.sysStopped.trans hrunning)]
  unfold verified
  rw [hverify, answers_next]
  have hpairing : (noteSci f v).sec.pairing = s.sec.pairing := (noteSci_pairing f v).trans (congrArg Security.pairing h.sec)
  have hstraps : (noteSci f v).straps = s.straps := (straps_of_allBut (noteSci_view v f rfl)).trans h.straps
  generalize noteSci f v = n at hpairing hstraps ⊢
  obtain ⟨y, hy⟩ : ∃ y, ({ n with sec := { n.sec with pairing := { s.sec.pairing with heard := [windowOf b], taking := none } } } : State) = y := ⟨_, rfl⟩
  have htenant' : tenant y = tenant s := by
    rw [← hy]
    simp only [tenant, lvlD, lvl, hstraps]
  have hysec : y.sec.pairing = { s.sec.pairing with heard := [windowOf b], taking := none } := by rw [← hy]
  dsimp only at hy ⊢
  rw [hpairing, hheard, htaking, List.filter_nil, hy, htenant', if_neg (by simp), if_neg (by simp)]
  by_cases hown : slice 87 65 b = identityKey
  · rw [if_pos (by rw [hown]; exact beq_self_eq_true _), pairingFault, raise_sec, hysec]
    exact ⟨rfl, fun hne => absurd hown hne, fun _ => rfl⟩
  · obtain ⟨j, m, hsec⟩ := sendJoin_sec (windowOf b) false y
    rw [if_neg (by simpa using hown), hsec, hysec]
    exact ⟨rfl, fun _ => ⟨rfl, rfl, rfl⟩, fun he => absurd he hown⟩

/-- Settles O46: presses by what the window and the listen were, the listen's end by what was heard and the key in force. -/
theorem pairingWindowRuns : Obligations.PairingWindowRuns :=
  ⟨fun _ _ _ _ hmay hr hlong hshort hrun hreset => ⟨pairPress_runs_open hmay hr hlong hshort hrun hreset,
      pairPress_runs_listen hmay hr hlong hshort hrun hreset, pairPress_runs_listening hmay hr hlong hshort hrun hreset⟩,
    fun _ _ hd htaking => ⟨pairListenExpiry_runs_window hd htaking, pairListenExpiry_runs_keyless hd htaking,
      fun _ => pairListenExpiry_runs_join hd htaking⟩,
    fun _ => windowFrameSend_runs, fun _ => pairingWindowExpiry_runs, fun _ _ _ _ => windowFrameReceive_runs⟩

end Sys2Proof.Machine
end

/-! # The exchange of a pairing (O47, chapter 11)

Giver and taker. -/

section
namespace Sys2Proof.Machine

open Sys2Proof


variable {s u v w : State} {t : Nat}

/-! ### A frame whose integrity was checked -/

theorem noteSci_sec (f : NetFrame) (s : State) : ∃ l, (noteSci f s).sec = { s.sec with scis := l } := by
  unfold noteSci
  split
  · exact ⟨s.sec.scis, rfl⟩
  · exact ⟨_, rfl⟩

/-- What a good frame of another device leaves of a state reached by letting time pass: but for who spoke, nothing changed. -/
structure Checked (s : State) (t : Nat) (n : State) : Prop where
  sec : ∃ l, n.sec = { s.sec with scis := l }
  straps : n.straps = s.straps
  now : n.now = max s.now t

theorem Elapsed.checked (h : Elapsed s t v) (f : NetFrame) : Checked s t (noteSci f v) := by
  obtain ⟨l, hl⟩ := noteSci_sec f v
  exact ⟨⟨l, hl.trans (by rw [h.sec])⟩, (straps_of_allBut (noteSci_view v f rfl)).trans h.straps,
    (now_of_view (P := allBut []) (noteSci_view v f rfl)).trans h.now⟩

theorem endpointIn_received {f : NetFrame} (h : Elapsed s t v) (hv : s.upTo t = v) (hreceived : Received s t f) (k : State → State) :
    endpointIn f (verified f k) v = k (noteSci f v) := by
  obtain ⟨hoffered, hrunning, hverify⟩ := hreceived
  rw [hv] at hoffered hverify
  rw [endpointIn_offered hoffered (h.sysStopped.trans hrunning)]
  unfold verified
  rw [hverify]

namespace Checked

variable {n : State} (h : Checked s t n)
include h

theorem tenant : Machine.tenant n = Machine.tenant s := by simp only [Machine.tenant, lvlD, lvl, h.straps]

theorem pairing : n.sec.pairing = s.sec.pairing := by
  obtain ⟨l, hl⟩ := h.sec
  rw [hl]

theorem slots : n.sec.slots = s.sec.slots := by
  obtain ⟨l, hl⟩ := h.sec
  rw [hl]

theorem inForce : n.sec.inForce = s.sec.inForce := by
  obtain ⟨l, hl⟩ := h.sec
  rw [hl]

theorem keyInForce : Machine.keyInForce n = Machine.keyInForce s := by simp only [Machine.keyInForce, h.slots, h.inForce]

end Checked

/-- The exchange of a taker ended, all else of a checked frame's state as it was. -/
structure Taken (s y : State) : Prop where
  taking : y.sec.pairing.taking = none
  takingAk : y.sec.pairing.takingAk = s.sec.pairing.takingAk
  slots : y.sec.slots = s.sec.slots
  inForce : y.sec.inForce = s.sec.inForce
  tenant : Machine.tenant y = Machine.tenant s

theorem Checked.taken {n : State} (h : Checked s t n) : Taken s (endTaking n) := by
  refine ⟨rfl, ?_, h.slots, h.inForce, h.tenant⟩
  show n.sec.pairing.takingAk = _
  rw [h.pairing]

theorem Taken.lowestBlank {y : State} (h : Taken s y) : Machine.lowestBlank y = Machine.lowestBlank s := by
  simp only [Machine.lowestBlank, h.slots]

theorem Taken.keyInForce {y : State} (h : Taken s y) : Machine.keyInForce y = Machine.keyInForce s := by
  simp only [Machine.keyInForce, h.slots, h.inForce]

theorem Taken.keptAk {y : State} (h : Taken s y) : Machine.keptAk y = Machine.keptAk s := by
  simp only [Machine.keptAk, h.keyInForce]

theorem Elapsed.mayPair (h : Elapsed s t v) : Machine.mayPair v = Machine.mayPair s := by simp only [Machine.mayPair, h.inMode]

/-! ### The giver (R260, R262) -/

theorem keyBody_of_keyed {d : KeyData} (hkey : keyInForce s = some d) (w j : List Byte) (kek : BitVec 128) :
    ∃ k, keyBody s w j false kek = some k := by
  unfold keyBody
  rw [hkey]
  exact ⟨_, rfl⟩

theorem joinReceive_runs {f : NetFrame} {b : List Byte} {d : KeyData} (hbody : pairBody 2 f s = some b) (hopen : s.sec.pairing.open_ = true)
    (hmay : mayPair s = true) (hnode : dstNode f.dst = node s) (hdst : dstTenant f.dst = tenant s)
    (hnumber : ofBe (slice 10 2 (b.take 208)) = s.sec.pairing.windowNo.toNat) (htenant : (at8 (b.take 208) 1).toNat = tenant s)
    (hkind : at8 (b.take 208) 13 = 1#8) (hreceived : Received s t f) (hnone : s.sec.pairing.exchanges = []) (hkey : keyInForce s = some d) :
    Runs (.joinReceive t f) s fun u =>
      let own := slice 79 65 (b.take 208) = identityKey
      let signed := ecdsaVerify (slice 79 65 (b.take 208)) (slice 144 64 (b.take 208))
        (windowPart s.sec.pairing.windowBody ++ slice 4 140 (b.take 208))
      (¬own → signed = true → ∃ x, u.sec.pairing.exchanges = [x] ∧ x.join = b.take 208 ∧ x.node = at8 (b.take 208) 2
          ∧ x.sentAt = max s.now t)
        ∧ (own ∨ signed = false → u.sec.pairing.exchanges = []) := by
  obtain ⟨v, hv, h⟩ := s.exists_upTo t
  have hn := h.checked f
  rw [runs_iff]
  show Answers (execJoinReceive t f s) _
  unfold execJoinReceive
  dsimp only
  rw [hv, pairBody_congr h.eui48, hbody]
  dsimp only
  rw [h.mayPair, hmay, hnode, hdst, hnumber, htenant, hkind, h.node, h.tenant, h.sec, hopen, if_neg (by simp), endpointIn_received h hv hreceived]
  generalize noteSci f v = n at hn ⊢
  have hkey' : Machine.keyInForce n = some d := hn.keyInForce.trans hkey
  rw [answers_next]
  rw [hn.pairing, hnone, List.find?_nil]
  dsimp only
  rw [if_neg (by decide)]
  by_cases hgood : slice 79 65 (b.take 208) ≠ identityKey ∧ ecdsaVerify (slice 79 65 (b.take 208)) (slice 144 64 (b.take 208))
      (windowPart s.sec.pairing.windowBody ++ slice 4 140 (b.take 208)) = true
  · obtain ⟨hown, hsigned⟩ := hgood
    obtain ⟨k, hk⟩ := keyBody_of_keyed hkey' s.sec.pairing.windowBody (b.take 208)
      (pairingKek s.sec.pairing.windowBody (b.take 208) (ecdh s.sec.pairing.giveEph (slice 14 65 (b.take 208))))
    rw [if_neg (by simp [hown, hsigned]), show ((1#8).toNat == 2) = false from rfl, hk]
    dsimp only
    rw [sendPairing_sec, hn.now]
    exact ⟨fun _ _ => ⟨_, rfl, rfl, rfl, rfl⟩, fun hbad => absurd hsigned (by simpa [hown] using hbad)⟩
  · rw [if_pos (by revert hgood; simp; tauto), pairingFault, raise_sec, hn.pairing]
    exact ⟨fun hown hsigned => absurd ⟨hown, hsigned⟩ hgood, fun _ => hnone⟩

theorem pairRecord_sec (otherRole eui n otherProfile fails) (s : State) :
    (pairRecord otherRole eui n otherProfile fails s).sec = s.sec := sec_of_allBut (pairRecord_view _ _ _ _ _ _ rfl)

theorem doneReceive_runs {f : NetFrame} {fails : List FlashCause} {b : List Byte} {x : Exchange} (hbody : pairBody 4 f s = some b)
    (hx : s.sec.pairing.exchanges.find? (fun x => x.eui == BitVec.ofNat 48 (ofBe (slice 4 6 b))) = some x) (hreceived : Received s t f) :
    Runs (.doneReceive t f fails) s fun u =>
      let mac := hmac16 (pairingMacKey x.window x.join (ecdh s.sec.pairing.giveEph (slice 14 65 x.join)))
        (doneMessage x.window x.join x.key (at8 b 12) (at8 b 13))
      u.sec.pairing.exchanges = s.sec.pairing.exchanges.filter (fun y => y.join != x.join)
        ∧ (mac = slice 14 16 b → u.sec.pairing.used = true ∧ u.sec.pairing.windowEnd = max s.now t + 60 * sec1)
        ∧ (mac ≠ slice 14 16 b → u.sec.pairing.used = s.sec.pairing.used) := by
  obtain ⟨v, hv, h⟩ := s.exists_upTo t
  have hn := h.checked f
  rw [runs_iff]
  show Answers (execDoneReceive t f fails s) _
  unfold execDoneReceive
  dsimp only
  rw [hv, pairBody_congr h.eui48, hbody]
  dsimp only
  rw [h.sec, hx]
  dsimp only
  rw [endpointIn_received h hv hreceived, answers_next]
  generalize noteSci f v = n at hn ⊢
  unfold endExchange
  dsimp only
  rw [hn.pairing, hn.now]
  by_cases hmac : hmac16 (pairingMacKey x.window x.join (ecdh s.sec.pairing.giveEph (slice 14 65 x.join)))
      (doneMessage x.window x.join x.key (at8 b 12) (at8 b 13)) = slice 14 16 b
  · rw [if_neg (by simpa using hmac)]
    refine holds_ite (p := fun u : State => u.sec.pairing.exchanges = _ ∧ (_ → u.sec.pairing.used = true ∧ u.sec.pairing.windowEnd = _) ∧ (_ → u.sec.pairing.used = _)) ?_ ?_
    · rw [pairRecord_sec]
      exact ⟨rfl, fun _ => ⟨rfl, rfl⟩, fun hne => absurd hmac hne⟩
    · exact ⟨rfl, fun _ => ⟨rfl, rfl⟩, fun hne => absurd hmac hne⟩
  · rw [if_pos (by simpa using hmac), pairingFault, raise_sec]
    exact ⟨rfl, fun he => absurd he hmac, fun _ => rfl⟩

theorem doneTimeout_runs {eui : BitVec 48} {x : Exchange} (hx : s.sec.pairing.exchanges.find? (fun x => x.eui == eui) = some x) :
    Runs (.doneTimeout eui) s fun u => u.sec.pairing.exchanges = s.sec.pairing.exchanges.filter (fun y => y.join != x.join)
      ∧ u.now = max s.now (x.sentAt + 2 * sec1) ∧ u.sec.pairing.open_ = s.sec.pairing.open_ := by
  obtain ⟨v, hv, h⟩ := s.exists_upTo (x.sentAt + 2 * sec1)
  rw [runs_iff]
  show Answers (execDoneTimeout eui s) _
  unfold execDoneTimeout
  rw [hx]
  dsimp only
  rw [hv, answers_next, pairingFault, raise_sec, raise_now, endExchange, h.sec]
  exact ⟨rfl, h.now, rfl⟩

/-! ### The taker (R262) -/

theorem joinResend_runs {w : PairWin} (hw : s.sec.pairing.taking = some w) (hjoins : s.sec.pairing.joins < 5) : Runs .joinResend s fun u =>
    u.sec.pairing.joins = s.sec.pairing.joins + 1 ∧ u.sec.pairing.joinAt = max s.now (s.sec.pairing.joinAt + 500 * ms1)
      ∧ u.sec.pairing.taking = some w := by
  obtain ⟨v, hv, h⟩ := s.exists_upTo (s.sec.pairing.joinAt + 500 * ms1)
  rw [runs_iff]
  show Answers (execJoinResend s) _
  unfold execJoinResend
  rw [hw]
  dsimp only
  rw [if_neg (Nat.not_le.mpr hjoins), hv, answers_next, sendPairing_sec, h.sec]
  exact ⟨rfl, h.now, hw⟩

theorem sendDone_sec (w : PairWin) (key : List Byte) (mac : BitVec 256) (result slot : Nat) (s : State) :
    (sendDone w key mac result slot s).sec = s.sec := sec_of_allBut (sendDone_view _ _ _ _ _ _ rfl)

/-- A key taken anew goes to the lowest blank slot; it comes into force at a block's start. -/
theorem storeKey_good {w : PairWin} {k : BitVec 128} {i : Fin 8} {second : Bool} (htk : s.sec.pairing.takingAk = false)
    (hlow : lowestBlank s = some i) : (storeKey w k (false, second) s).2.2.sec.pairing = s.sec.pairing ∧ (storeKey w k (false, second) s).2.2.sec.inForce = s.sec.inForce
      ∧ ((keyInForce s).map (·.tk) ≠ some k → (storeKey w k (false, second) s).2.2.sec.slots
          = s.sec.slots.set i (.valid { tk := k, ak := keptAk s, tenant := Fin.ofNat 16 (tenant s), origin := .tkTaken, from_ := w.eui })) := by
  unfold storeKey
  dsimp only
  simp only [htk, Bool.false_eq_true, if_false]
  by_cases hheld : (keyInForce s).map (·.tk) = some k
  · rw [if_pos (by simpa using hheld)]
    exact ⟨rfl, rfl, fun hne => absurd hheld hne⟩
  · obtain ⟨n, hn⟩ := programKey_good_eq { tk := k, ak := keptAk s, tenant := Fin.ofNat 16 (tenant s), origin := .tkTaken, from_ := w.eui }
      w.node.toNat hlow second
    rw [if_neg (by simpa using hheld), if_neg (by simp [hlow])]
    split
    · dsimp only
      rw [hn]
      exact ⟨rfl, rfl, fun _ => rfl⟩
    · dsimp only
      rw [hn]
      exact ⟨rfl, rfl, fun _ => rfl⟩

theorem keyFrameTimeout_runs {w : PairWin} (hw : s.sec.pairing.taking = some w) : Runs .keyFrameTimeout s fun u =>
    u.sec.pairing.taking = none ∧ u.sec.slots = s.sec.slots ∧ u.now = max s.now (s.sec.pairing.pressAt + 2500 * ms1) := by
  obtain ⟨v, hv, h⟩ := s.exists_upTo (s.sec.pairing.pressAt + 2500 * ms1)
  rw [runs_iff]
  show Answers (execKeyFrameTimeout s) _
  unfold execKeyFrameTimeout
  rw [hw]
  dsimp only
  rw [hv, answers_next, pairingFault, raise_sec, raise_now, endTaking, h.sec]
  exact ⟨rfl, rfl, h.now⟩

/-- A key frame of the window joined ends the exchange; a key that its signature and its wrapping vouch for is stored. -/
theorem keyFrameReceive_exec {f : NetFrame} {second : Bool} {fails : List FlashCause} {b : List Byte} {w : PairWin} {signed : Bool}
    {key : Option (BitVec 128)} (hbody : pairBody 3 f s = some b) (hw : s.sec.pairing.taking = some w)
    (htk : s.sec.pairing.takingAk = false) (hdst : dstTenant f.dst = w.tenant.val) (hnode : dstNode f.dst = node s) (hsrc : f.src = w.eui)
    (hnumber : ofBe (slice 10 2 (b.take 126)) = w.number.toNat) (hmay : mayPair s = true) (hreceived : Received s t f)
    (hsigned : ecdsaVerify (slice 87 65 w.body) (slice 62 64 (b.take 126))
      (windowPart w.body ++ slice 4 204 s.sec.pairing.join ++ slice 4 58 (b.take 126)) = signed)
    (hkey : keyUnwrap (pairingKek w.body s.sec.pairing.join (ecdh s.sec.pairing.takeEph (slice 22 65 w.body)))
      (slice 14 24 (b.take 126)) = key) :
    Runs (.keyFrameReceive t f (false, second) fails) s fun u => ∃ z, Taken s z
      ∧ u.sec = match if signed then key else none with
        | some x => (storeKey w x (false, second) z).2.2.sec
        | none => z.sec := by
  obtain ⟨v, hv, h⟩ := s.exists_upTo t
  have hn := h.checked f
  rw [runs_iff]
  show Answers (execKeyFrameReceive t f (false, second) fails s) _
  unfold execKeyFrameReceive
  extract_lets y
  rw [show y = v from hv, pairBody_congr h.eui48, hbody, h.sec, hw]
  show Answers (let k := b.take 126; ite _ _ _) _
  extract_lets k
  rw [hdst, hnode, hsrc, hnumber, h.mayPair, hmay, h.node, if_neg (by simp), endpointIn_received h hv hreceived, answers_next]
  generalize noteSci f v = n at hn ⊢
  have ht := hn.taken
  refine ⟨endTaking n, ht, ?_⟩
  rw [hn.pairing]
  generalize endTaking n = y
  extract_lets p message shared kek z
  have hp : p = s.sec.pairing := rfl
  have hmessage : message = windowPart w.body ++ slice 4 204 p.join ++ slice 4 58 k := rfl
  have hkek : kek = pairingKek w.body p.join (ecdh p.takeEph (slice 22 65 w.body)) := rfl
  clear_value kek shared message p
  subst hp
  rw [hmessage, hkek, htk, if_neg Bool.false_ne_true, show k = b.take 126 from rfl, hsigned, hkey]
  cases signed with
  | false =>
    rw [if_pos (by rfl), if_neg Bool.false_ne_true]
    exact raise_sec ..
  | true =>
    rw [if_neg (by decide), if_pos rfl]
    cases key with
    | none => exact raise_sec ..
    | some x =>
      dsimp only
      rw [show z = y from rfl]
      generalize storeKey w x (false, second) y = fate
      exact (sendDone_sec ..).trans (holds_ite (p := fun u : State => u.sec = fate.2.2.sec) (pairRecord_sec ..) rfl)

theorem keyFrameReceive_runs {f : NetFrame} {second : Bool} {fails : List FlashCause} {b : List Byte} {w : PairWin} {signed : Bool}
    {key : Option (BitVec 128)} (hbody : pairBody 3 f s = some b) (hw : s.sec.pairing.taking = some w)
    (htk : s.sec.pairing.takingAk = false) (hdst : dstTenant f.dst = w.tenant.val) (hnode : dstNode f.dst = node s) (hsrc : f.src = w.eui)
    (hnumber : ofBe (slice 10 2 (b.take 126)) = w.number.toNat) (hmay : mayPair s = true) (hreceived : Received s t f) {i : Fin 8}
    (hlow : lowestBlank s = some i)
    (hsigned : ecdsaVerify (slice 87 65 w.body) (slice 62 64 (b.take 126))
      (windowPart w.body ++ slice 4 204 s.sec.pairing.join ++ slice 4 58 (b.take 126)) = signed)
    (hkey : keyUnwrap (pairingKek w.body s.sec.pairing.join (ecdh s.sec.pairing.takeEph (slice 22 65 w.body)))
      (slice 14 24 (b.take 126)) = key) :
    Runs (.keyFrameReceive t f (false, second) fails) s fun u =>
      u.sec.pairing.taking = none ∧ u.sec.inForce = s.sec.inForce
        ∧ (∀ k, signed = true → key = some k → (keyInForce s).map (·.tk) ≠ some k →
            u.sec.slots = s.sec.slots.set i (.valid { tk := k, ak := keptAk s, tenant := Fin.ofNat 16 (tenant s),
                                                      origin := .tkTaken, from_ := w.eui }))
        ∧ (signed = false ∨ key = none → u.sec.slots = s.sec.slots) := by
  obtain ⟨u, hu, z, ht, hsec⟩ := keyFrameReceive_exec (second := second) (fails := fails) hbody hw htk hdst hnode hsrc hnumber hmay hreceived hsigned hkey
  refine ⟨u, hu, ?_⟩
  beta_reduce
  rw [hsec]
  cases signed with
  | false => exact ⟨ht.taking, ht.inForce, fun _ h => absurd h Bool.false_ne_true, fun _ => ht.slots⟩
  | true =>
    cases key with
    | none => exact ⟨ht.taking, ht.inForce, fun _ _ h => (nomatch h), fun _ => ht.slots⟩
    | some x =>
      obtain ⟨hpairing, hin, hslots⟩ := storeKey_good (w := w) (k := x) (second := second) (ht.takingAk.trans htk) (ht.lowestBlank.trans hlow)
      rw [if_pos rfl]
      dsimp only
      rw [hpairing, hin]
      refine ⟨ht.taking, ht.inForce, fun k' _ hk' hne => ?_, fun hbad => by simp at hbad⟩
      obtain rfl := Option.some.inj hk'
      rw [hslots (by rwa [ht.keyInForce]), ht.slots, ht.keptAk, ht.tenant]

theorem wakeNow_stayAwake (hmode : inMode .slumber s = true) (hwake : s.sleep.wakeAt = none) (hleft : s.start.left = some .leader) :
    (wakeNow s).sleep.stayAwake = true := by
  unfold wakeNow
  rw [if_pos (by rw [hmode, hwake]; rfl), refreshLeds_sleep, wakeWells_sleep]
  simp [hleft]

theorem coldRole_of_hot {r : Nat} (h : hotRole r = true) : coldRole r = false := by
  unfold hotRole at h
  unfold coldRole
  rcases Bool.or_eq_true_iff.mp h with h | h <;> rw [eq_of_beq h] <;> rfl

theorem wakeRequest_runs {b : TieFrame} {head : TieHead} (huses : usesTie s = true) (hmode : inMode .slumber s = true)
    (hleft : s.start.left = some .leader) (hcontact : s.red.contact = true) (hwake : s.sleep.wakeAt = none) (hrunning : sysStopped s = false)
    (hparse : tieParse s b = some head) (hkind : head.kind = 4) (hpayload : head.payload.take 1 = [7#8]) :
    Runs (.wakeRequest t (.tie b)) s fun u =>
      u.sleep.wakeAt = some (max s.now t) ∧ u.sleep.stayAwake = true ∧ u.red.tie.frames ≠ [] := by
  obtain ⟨v, hv, h⟩ := s.exists_upTo t
  have hw := h.inContact hcontact head
  have hnow : (pairHeard head v).now = max s.now t := (now_of_view (P := allBut []) (pairHeard_view _ _ rfl)).trans h.now
  obtain ⟨hawake, hhot, -⟩ := usesTie_awake huses
  have hlistens : pairListens 4 v = true := by simp [pairListens, h.awake, hawake]
  have hreceive (k : TieHead → State → State) : receivePair (.tie b) 4 k v = k head (pairHeard head v) := by
    unfold receivePair crossIn
    dsimp only
    rw [h.usesTie, huses, hlistens, h.sysStopped, hrunning, h.tieParse, hparse]
    dsimp only
    rw [if_pos hkind]
    rfl
  rw [runs_iff]
  show Answers (execWakeRequest t (.tie b) s) _
  unfold execWakeRequest
  rw [hv]
  extract_lets work
  rw [hreceive, answers_next]
  generalize pairHeard head v = w at hw hnow ⊢
  have hmode' : inMode .slumber w = true := (hw.inMode _).trans hmode
  have hwake' : w.sleep.wakeAt = none := by rw [hw.sleep, hwake]
  have hleft' : w.start.left = some .leader := by rw [hw.start, hleft]
  have hwoken := wakeNow_woken hmode' hwake'
  have hstay := wakeNow_stayAwake hmode' hwake' hleft'
  have hcold : coldRole (role (wakeNow w)) = false := by
    rw [show role (wakeNow w) = role s by simp only [role, lvlD, lvl, hwoken.straps, hw.straps]]
    exact coldRole_of_hot hhot
  dsimp only [work]
  rw [hpayload, hmode', hleft', if_pos (by rfl), hcold, if_neg Bool.false_ne_true]
  exact ⟨by rw [← hnow]; exact hwoken.wakeAt, hstay, by simp [tiePut]⟩

/-- Settles O47: what the giver answers to a join and to a done frame, what the taker keeps of a key frame, and the wake a partner asks for. -/
theorem pairingExchangeRuns : Obligations.PairingExchangeRuns :=
  ⟨fun _ _ _ _ _ => joinReceive_runs, fun _ _ _ _ _ _ => doneReceive_runs, fun _ _ _ => doneTimeout_runs, fun _ _ => joinResend_runs,
    fun _ _ _ _ _ _ _ _ hbody hw htk hdst hnode hsrc hnumber hmay hreceived hlow =>
      keyFrameReceive_runs hbody hw htk hdst hnode hsrc hnumber hmay hreceived hlow rfl rfl, fun _ _ => keyFrameTimeout_runs, fun _ _ _ _ => wakeRequest_runs⟩

end Sys2Proof.Machine
end

/-! # The Granary (O48, chapter 20)

Verdicts, writes, and what is offered and fetched. -/

section
namespace Sys2Proof.Machine

open Sys2Proof


variable {s u v w : State} {t : Nat}

/-! ### Slots and their images -/

@[simp] theorem slotInfo_setSlot_self (b : Bool) (i : SlotInfo) (s : State) : slotInfo (setSlot b i s) b = i := by cases b <;> rfl

@[simp] theorem slotInfo_setSlot_not (b : Bool) (i : SlotInfo) (s : State) : slotInfo (setSlot (!b) i s) b = slotInfo s b := by cases b <;> rfl

@[simp] theorem setSlot_active (b : Bool) (i : SlotInfo) (s : State) : (setSlot b i s).gran.active = s.gran.active := by cases b <;> rfl

@[simp] theorem setSlot_write (b : Bool) (i : SlotInfo) (s : State) : (setSlot b i s).gran.write = s.gran.write := by cases b <;> rfl

theorem slotInfo_congr (h : u.gran = s.gran) (b : Bool) : slotInfo u b = slotInfo s b := by
  unfold slotInfo
  rw [h]

theorem slotBase_congr (h : u.mem = s.mem) (b : Bool) : slotBase u b = slotBase s b := by
  unfold slotBase slotLen
  rw [h]

theorem slotHead_congr (h : u.mem = s.mem) (b : Bool) : slotHead u b = slotHead s b := by
  unfold slotHead flashBytes
  rw [slotBase_congr h, h]

theorem slotOrder_congr (hmem : u.mem = s.mem) (haon : u.aon = s.aon) : slotOrder u = slotOrder s := by
  unfold slotOrder
  rw [slotHead_congr hmem, slotHead_congr hmem, haon]

/-- The slots stand in one order or in the other. -/
theorem slotOrder_two (s : State) : ∃ b, slotOrder s = [b, !b] := by
  unfold slotOrder
  extract_lets a b first l
  split
  · exact ⟨!first, by simp [l]⟩
  · exact ⟨first, rfl⟩

/-! ### The start's look at the slots (R440 to R443) -/

theorem recordSigner_gran (h : BitVec 256) (spoil : Bool × Bool) (s : State) : (recordSigner h spoil s).gran = s.gran :=
  gran_of_allBut (recordSigner_view _ _ _ rfl)

theorem signerFault_gran (b occasion h) (s : State) : (signerFault b occasion h s).gran = s.gran :=
  gran_of_allBut (signerFault_view _ _ _ _ rfl)

theorem slotFault_gran (b i) (s : State) : (slotFault b i s).gran = s.gran := gran_of_allBut (slotFault_view _ _ _ rfl)

/-- A slot looked at: its verdict is noted, and a good one is taken where none is. -/
theorem verifySlot_gran (spoil : Bool × Bool) (s : State) (b : Bool) : (verifySlot spoil s b).gran =
    { (setSlot b (checkImage s false (slotBase s b)) s).gran with
      active := if (checkImage s false (slotBase s b)).status = 0 ∧ s.gran.active = none then some b else s.gran.active } := by
  unfold verifySlot
  generalize checkImage s false (slotBase s b) = i
  generalize signerHash (flashBytes s (slotBase s b) 256) = h
  dsimp only
  obtain ⟨y, hy⟩ : ∃ y, (if i.status = 4 then signerFault b 0 h (setSlot b i s) else setSlot b i s) = y := ⟨_, rfl⟩
  have hgran : y.gran = (setSlot b i s).gran := by
    rw [← hy]
    exact holds_ite (p := fun u : State => u.gran = (setSlot b i s).gran) (signerFault_gran ..) rfl
  rw [hy, hgran, setSlot_active]
  by_cases hgood : i.status = 0 ∧ s.gran.active = none
  · rw [if_pos (by simp [hgood]), if_pos hgood]
    dsimp only
    rw [recordSigner_gran, hgran]
  · rw [if_neg (by simpa using hgood), if_neg hgood, hgran]
    cases b <;> rfl

theorem verifyBoth_gran {b : Bool} (spoil : Bool × Bool) (horder : slotOrder s = [b, !b]) :
    (verifyBoth spoil s).gran = (verifySlot spoil (verifySlot spoil s b) !b).gran := by
  unfold verifyBoth
  rw [horder]
  dsimp only [List.foldl]
  generalize verifySlot spoil (verifySlot spoil s b) (!b) = y
  split
  · split
    · rfl
    · exact slotFault_gran ..
  · rfl

theorem imageVerify_exec (h : Elapsed s t v) (hv : s.upTo t = v) (spoil : Bool × Bool) (hawake : awake s = true) (hmode : s.start.mode = none)
    (hbase : s.start.base.isSome = true) (hdone : s.start.imageDone = false) (hflash : (s.mem.flashUp || s.mem.flashAbsent) = true) :
    ∃ u, exec (.imageVerify t spoil) s = .next { u with start := { u.start with imageDone := true } }
      ∧ u = if s.mem.flashAbsent then noImageFault v else verifyBoth spoil v := by
  refine ⟨_, ?_, rfl⟩
  show execImageVerify t spoil s = _
  unfold execImageVerify
  dsimp only
  rw [hv, h.awake, hawake, h.start, hmode, hdone, h.mem, hflash, if_neg (by simpa using Option.isSome_iff_ne_none.mp hbase)]

theorem imageVerify_runs_absent {spoil : Bool × Bool} (hawake : awake s = true) (hmode : s.start.mode = none)
    (hbase : s.start.base.isSome = true) (hdone : s.start.imageDone = false) (habsent : s.mem.flashAbsent = true) :
    Runs (.imageVerify t spoil) s fun u =>
      u.start.imageDone = true ∧ u.gran.active = s.gran.active ∧ anyActive 0xF201#16 u = true := by
  obtain ⟨v, hv, h⟩ := s.exists_upTo t
  obtain ⟨u, hu, heq⟩ := imageVerify_exec h hv spoil hawake hmode hbase hdone (by rw [habsent, Bool.or_true])
  rw [if_pos habsent] at heq
  refine ⟨_, hu, rfl, ?_, ?_⟩
  · show u.gran.active = _
    rw [heq]
    exact congrArg Granary.active h.gran
  · show anyActive 0xF201#16 u = true
    rw [heq]
    exact anyActive_raise_self rfl ..

theorem imageVerify_runs_present {spoil : Bool × Bool} {b : Bool} {l : List Bool} (hawake : awake s = true) (hmode : s.start.mode = none)
    (hbase : s.start.base.isSome = true) (hdone : s.start.imageDone = false) (habsent : s.mem.flashAbsent = false)
    (hup : s.mem.flashUp = true) (hactive : s.gran.active = none) (horder : slotOrder s = b :: l) :
    Runs (.imageVerify t spoil) s fun u =>
      u.start.imageDone = true ∧ slotInfo u b = checkImage (s.upTo t) false (slotBase s b)
        ∧ ((checkImage (s.upTo t) false (slotBase s b)).status = 0 → u.gran.active = some b)
        ∧ ((slotInfo u b).status ≠ 0 → (slotInfo u !b).status ≠ 0 → u.gran.active = none) := by
  obtain ⟨v, hv, h⟩ := s.exists_upTo t
  obtain ⟨u, hu, heq⟩ := imageVerify_exec h hv spoil hawake hmode hbase hdone (by rw [hup, Bool.true_or])
  have htwo : slotOrder v = [b, !b] := by
    obtain ⟨c, hc⟩ := slotOrder_two v
    have hcons := hc.symm.trans ((slotOrder_congr h.mem h.aon).trans horder)
    obtain ⟨rfl, -⟩ := List.cons.inj hcons
    exact hc
  rw [if_neg (by rw [habsent]; decide)] at heq
  have hgran : u.gran = (verifySlot spoil (verifySlot spoil v b) !b).gran := by
    rw [heq]
    exact verifyBoth_gran spoil htwo
  have hfirst := verifySlot_gran spoil v b
  have hsecond := verifySlot_gran spoil (verifySlot spoil v b) !b
  rw [hv]
  rw [slotBase_congr h.mem, h.gran, hactive] at hfirst
  generalize checkImage v false (slotBase s b) = i at hfirst ⊢
  generalize checkImage (verifySlot spoil v b) false (slotBase (verifySlot spoil v b) !b) = j at hsecond
  generalize verifySlot spoil v b = y at hfirst hsecond hgran
  have hslots : slotInfo u b = i ∧ slotInfo u (!b) = j := by
    unfold slotInfo
    rw [hgran, hsecond]
    cases b
    · exact ⟨by simp [setSlot, hfirst], by simp [setSlot]⟩
    · exact ⟨by simp [setSlot, hfirst], by simp [setSlot]⟩
  have hactive' : u.gran.active = if i.status = 0 then some b else if j.status = 0 then some (!b) else none := by
    rw [hgran, hsecond, hfirst]
    by_cases hi : i.status = 0
    · simp [hi]
    · simp [hi]
  obtain ⟨hb, hnot⟩ := hslots
  refine ⟨_, hu, rfl, hb, fun hi => hactive'.trans (if_pos hi), fun hi hj => ?_⟩
  have hi' : i.status ≠ 0 := fun he => hi ((congrArg SlotInfo.status hb).trans he)
  have hj' : j.status ≠ 0 := fun he => hj ((congrArg SlotInfo.status hnot).trans he)
  exact hactive'.trans ((if_neg hi').trans (if_neg hj'))

/-! ### A slot is written (R448, R449, R456) -/

theorem sendRequests_gran (w : SlotWrite) (l : List (Nat × Nat)) (s : State) : (l.foldl (sendRequest w) s).gran = s.gran :=
  foldl_keeps State.gran _ (fun y r => gran_of_allBut (sendRequest_view w r (s := y) rfl)) l s

/-- A range opened adds operations to the write that goes on, and changes nothing else of the Granary. -/
theorem openRange_gran {w' : SlotWrite} (hw : s.gran.write = some w') : ∃ q a, (openRange s).gran = { s.gran with write := some { w' with queue := w'.queue ++ q, asked := a } } := by
  unfold openRange requestMissing
  rw [hw]
  dsimp only
  split
  · dsimp only
    rw [sendRequests_gran]
    exact ⟨_, _, rfl⟩
  · exact ⟨_, w'.asked, by rw [List.append_assoc]⟩

theorem openRange_mem (s : State) : (openRange s).mem = s.mem := mem_of_allBut (openRange_view _ rfl)

theorem issueOp_of_free {w' : SlotWrite} {o : FlashOp} {q : List FlashOp} (hop : s.mem.op = none) (hw : s.gran.write = some w') (hq : w'.queue = o :: q) :
    issueOp s = { s with mem := { s.mem with op := some o }, gran := { s.gran with write := some { w' with queue := q } } } := by
  unfold issueOp
  rw [hop, hw]
  dsimp only
  rw [hq]

/-- An active slot that is written is left for the other one. -/
theorem yieldSlot_fields (b : Bool) (s : State) :
    (if s.gran.active == some b then { s with gran := { s.gran with active := some (!b) } } else s).mem = s.mem
      ∧ (if s.gran.active == some b then { s with gran := { s.gran with active := some (!b) } } else s).gran.active ≠ some b := by
  by_cases hactive : s.gran.active = some b
  · rw [if_pos (by simpa using hactive)]
    exact ⟨rfl, by simp⟩
  · rw [if_neg (by simpa using hactive)]
    exact ⟨rfl, hactive⟩

/-- The first operation of a write is the erase of the slot's last sector. -/
theorem beginWrite_fields {w : SlotWrite} (hop : s.mem.op = none) :
    (beginWrite w s).mem.op = some { erase := true, addr := lastSector (slotBase s w.slotB) w.total }
      ∧ (slotInfo (beginWrite w s) w.slotB).status = 2 ∧ (beginWrite w s).gran.write.map (·.source) = some w.source
      ∧ (beginWrite w s).gran.active ≠ some w.slotB := by
  unfold beginWrite
  extract_lets a ag y z first fetch zg g
  have hamem : a.mem = s.mem := repairEvent_mem ..
  obtain ⟨hymem, hyactive⟩ := yieldSlot_fields w.slotB a
  have hzmem : z.mem = s.mem := hymem.trans hamem
  have hzslot : (slotInfo z w.slotB).status = 2 := congrArg SlotInfo.status (slotInfo_setSlot_self ..)
  have hzactive : z.gran.active ≠ some w.slotB := by
    rw [show z.gran.active = y.gran.active from setSlot_active ..]
    exact hyactive
  have hfirst : first = { erase := true, addr := lastSector (slotBase s w.slotB) w.total } := by
    rw [← slotBase_congr hzmem]
  have hgwrite : g.gran.write = some { w with queue := [first], progress := z.now, asked := z.now } := rfl
  have hgslot : slotInfo g w.slotB = slotInfo z w.slotB := rfl
  have hgactive : g.gran.active = z.gran.active := rfl
  have hgmem : g.mem = s.mem := hzmem
  clear_value g first z
  obtain ⟨q, b, hgran⟩ := openRange_gran hgwrite
  rw [issueOp_of_free (by rw [openRange_mem, hgmem, hop]) (by rw [hgran]) rfl, hgran]
  refine ⟨congrArg some hfirst, ?_, rfl, by rw [hgactive]; exact hzactive⟩
  rw [← hzslot, ← hgslot]
  cases w.slotB <;> rfl

theorem slotWriteStart_runs {r : Nat} {w : SlotWrite} (hr : s.start.tRun = some r) (hslumber : inMode .slumber s = false)
    (hmode : s.start.mode.isSome = true) (hlate : r + 60 * sec1 ≤ max s.now t) (hwrite : s.gran.write = none) (hop : s.mem.op = none)
    (hflash : flashReady s = true) (hdue : dueWrite (s.upTo t) = some w) : Runs (.slotWriteStart t) s fun u =>
      u.mem.op = some { erase := true, addr := lastSector (slotBase s w.slotB) w.total } ∧ (slotInfo u w.slotB).status = 2
        ∧ u.gran.write.map (·.source) = some w.source ∧ u.gran.active ≠ some w.slotB := by
  obtain ⟨v, hv, h⟩ := s.exists_upTo t
  obtain ⟨m, hm⟩ := Option.isSome_iff_exists.mp hmode
  rw [hv] at hdue
  have hbegun := beginWrite_fields (s := v) (w := w) (by rw [h.mem, hop])
  rw [slotBase_congr h.mem] at hbegun
  rw [runs_iff]
  show Answers (execSlotWriteStart t s) _
  unfold execSlotWriteStart
  dsimp only
  rw [hv, h.start, hr]
  dsimp only
  rw [h.inMode, hslumber, hm, h.now, h.gran, hwrite, h.flashReady, hflash, if_neg (by rw [decide_eq_false (Nat.not_lt.mpr hlate)]; simp), hdue]
  exact hbegun

/-! ### An operation of the flash ends (R448) -/

theorem issueOp_flash (s : State) : (issueOp s).mem.flash = s.mem.flash := by
  unfold issueOp
  split
  · split <;> rfl
  · rfl

theorem advanceWrite_flash (s : State) : (advanceWrite s).mem.flash = s.mem.flash := by
  unfold advanceWrite
  split
  · split
    · rw [issueOp_flash, openRange_mem]
    · rfl
  · rfl

theorem opGood_clear (s : State) : anyActive 0xF920#16 (opGood s) = false := by
  unfold opGood
  exact (clearActive_fields 0xF920#16 s).2.2

theorem anyActive_congr (h : u.status = s.status) (x : BitVec 16) : anyActive x u = anyActive x s := by
  unfold anyActive
  rw [h]

theorem failWrite_fields (s : State) : (failWrite s).gran.write = none ∧ (failWrite s).mem = s.mem := by
  unfold failWrite
  split
  next h => exact ⟨h, rfl⟩
  · exact ⟨by rw [repairEvent_gran], by rw [repairEvent_mem]⟩

section Operation

variable {o : FlashOp} (ho : s.mem.op = some o)
include ho

theorem flashOperationComplete_runs_good : Runs (.flashOperationComplete t none) s fun u =>
    u.mem.flash = (if o.erase then wipe s.mem.flash o.addr 4096 else programs s.mem.flash o.addr o.data)
      ∧ anyActive 0xF920#16 u = false := by
  obtain ⟨v, hv, h⟩ := s.exists_upTo t
  rw [runs_iff]
  show Answers (execFlashOperationComplete t none s) _
  unfold execFlashOperationComplete
  dsimp only
  rw [hv, h.mem, ho]
  dsimp only
  rw [answers_next, advanceWrite_flash, issueOp_flash, anyActive_congr ((status_of_allBut (advanceWrite_view _ rfl)).trans
    (status_of_allBut (issueOp_view _ rfl)))]
  refine ⟨?_, opGood_clear _⟩
  show (opGood _).mem.flash = _
  rw [mem_of_allBut (opGood_view _ rfl)]
  rfl

theorem flashOperationComplete_runs_retry (c : FlashCause) (hretry : (o.erase && !o.tried) = true) :
    Runs (.flashOperationComplete t (some c)) s fun u => u.mem.op = some { o with tried := true } := by
  obtain ⟨v, hv, h⟩ := s.exists_upTo t
  rw [runs_iff]
  show Answers (execFlashOperationComplete t (some c) s) _
  unfold execFlashOperationComplete
  dsimp only
  rw [hv, h.mem, ho]
  dsimp only
  rw [if_pos hretry]
  exact rfl

theorem flashOperationComplete_runs_failed (c : FlashCause) (hretry : (o.erase && !o.tried) = false) :
    Runs (.flashOperationComplete t (some c)) s fun u => u.mem.op = none ∧ u.gran.write = none := by
  obtain ⟨v, hv, h⟩ := s.exists_upTo t
  rw [runs_iff]
  show Answers (execFlashOperationComplete t (some c) s) _
  unfold execFlashOperationComplete
  dsimp only
  rw [hv, h.mem, ho]
  dsimp only
  rw [if_neg (by rw [hretry]; decide), answers_next, (failWrite_fields _).2]
  exact ⟨rfl, (failWrite_fields _).1⟩

end Operation

/-! ### A slot's write ends (R448) -/

theorem checkFault_gran (w i) (s : State) : (checkFault w i s).gran = s.gran := gran_of_allBut (checkFault_view _ _ _ rfl)

theorem checkFault_mem (w i) (s : State) : (checkFault w i s).mem = s.mem := mem_of_allBut (checkFault_view _ _ _ rfl)

theorem failWrite_slots (b : Bool) (s : State) : slotInfo (failWrite s) b = slotInfo s b := by
  unfold failWrite
  split
  · rfl
  · exact slotInfo_congr (repairEvent_gran ..) b |>.trans (by cases b <;> rfl)

/-- The slots' verdicts and the write that goes on, which the records of a slot do not touch. -/
def slotsOf (s : State) : SlotInfo × SlotInfo × Option SlotWrite := (s.gran.slotA, s.gran.slotB, s.gran.write)

theorem slotsOf_congr (h : u.gran = s.gran) : slotsOf u = slotsOf s := by
  unfold slotsOf
  rw [h]

theorem ringWrite_gran (r body next fails) (s : State) : (ringWrite r body next fails s).2.2.gran = s.gran :=
  gran_of_allBut (ringWrite_view r body next fails (s := s) rfl)

theorem partnerProfile_gran (s : State) : (partnerProfile s).gran = s.gran := by
  unfold partnerProfile
  split
  · exact holds_ite (p := fun u : State => u.gran = s.gran) rfl rfl
  · rfl

theorem writePair_slots (eui n profile fails) (s : State) : slotsOf (writePair eui n profile fails s) = slotsOf s := by
  unfold writePair
  split
  · rfl
  · extract_lets seq body
    rw [← slotsOf_congr (ringWrite_gran pairRing body s.gran.pairPlace fails s)]
    generalize ringWrite pairRing body s.gran.pairPlace fails s = r
    obtain ⟨ok, next, y⟩ := r
    show slotsOf (partnerProfile _) = _
    exact (slotsOf_congr (partnerProfile_gran _)).trans rfl

theorem rewriteRecords_slots (s : State) : slotsOf (rewriteRecords s) = slotsOf s := by
  unfold rewriteRecords
  generalize hw : List.foldl rewriteReservation s ((List.range 8).flatMap (fun i => [(i, 0), (i, 1)])) = w
  have hslots : slotsOf w = slotsOf s := by
    rw [← hw]
    exact foldl_keeps slotsOf _ (fun y x => slotsOf_congr (gran_of_allBut (rewriteReservation_view x (s := y) rfl))) _ s
  dsimp only
  split
  · exact (writePair_slots ..).trans hslots
  · exact hslots

/-- What follows the marker of a good slot tells of it and keeps its records, and leaves the verdicts. -/
theorem completeWrite_slots (w : SlotWrite) (i : SlotInfo) (fails : List FlashCause) (s : State) :
    slotInfo (completeWrite w i fails s) w.slotB = i ∧ (completeWrite w i fails s).gran.write = none := by
  unfold completeWrite
  extract_lets base m a b bg x refresh d xg y z e g
  have hx : slotInfo x w.slotB = i ∧ x.gran.write = none := ⟨slotInfo_setSlot_self .., setSlot_write ..⟩
  have hy : slotsOf y = slotsOf x :=
    holds_ite (p := fun u : State => slotsOf u = slotsOf x) ((rewriteRecords_slots _).trans ((slotsOf_congr (raise_gran ..)).trans rfl))
      (slotsOf_congr (raise_gran ..))
  have hz : slotsOf z = slotsOf x := (slotsOf_congr (repairEvent_gran ..)).trans hy
  have he : slotsOf e = slotsOf x :=
    holds_ite (p := fun u : State => slotsOf u = slotsOf x) hz ((slotsOf_congr (gran_of_allBut (healedClears_view _ rfl))).trans hz)
  clear_value e y x
  obtain ⟨hslot, hwrite⟩ := hx
  have hkeep (u : State) (hu : slotsOf u = slotsOf x) : slotInfo u w.slotB = i ∧ u.gran.write = none := by
    simp only [slotsOf, Prod.mk.injEq] at hu
    obtain ⟨hA, hB, hW⟩ := hu
    refine ⟨?_, hW.trans hwrite⟩
    rw [← hslot]
    unfold slotInfo
    rw [hA, hB]
  exact hkeep _ (holds_ite (p := fun u : State => slotsOf u = slotsOf x) he he)

theorem slotWriteComplete_runs {fails : List FlashCause} {spoil : Bool × Bool} {w : SlotWrite} (hw : s.gran.write = some w)
    (hdone : windowDone s w = true) (hlast : windowCount w.total ≤ w.window + 1) : Runs (.slotWriteComplete t none fails spoil) s fun u =>
      u.gran.write = none
        ∧ ((checkImage (s.upTo t) true (slotBase s w.slotB)).status = 0 →
            slotInfo u w.slotB = checkImage (s.upTo t) true (slotBase s w.slotB))
        ∧ ((checkImage (s.upTo t) true (slotBase s w.slotB)).status ≠ 0 →
            (slotInfo u w.slotB).status = 2 ∧ u.mem.flash = s.mem.flash) := by
  obtain ⟨v, hv, h⟩ := s.exists_upTo t
  have hvw : v.gran.write = some w := by rw [h.gran, hw]
  have hvdone : windowDone v w = true := by
    rw [← hdone]
    simp only [windowDone, h.mem]
  have hadvance : advanceWrite v = v := by
    unfold advanceWrite
    rw [hvw]
    dsimp only
    rw [hvdone, decide_eq_false (Nat.not_lt.mpr hlast), if_neg (by decide)]
  have hready : writeReady v = true := by
    unfold writeReady
    rw [hvw]
    dsimp only
    rw [hvdone, decide_eq_true hlast]
    rfl
  rw [hv, runs_iff]
  show Answers (execSlotWriteComplete t none fails spoil s) _
  unfold execSlotWriteComplete
  extract_lets y
  rw [show y = v from (by rw [← hadvance, ← hv])]
  rw [hvw]
  dsimp only
  rw [hready, if_neg (by decide), slotBase_congr h.mem]
  generalize checkImage v true (slotBase s w.slotB) = i
  by_cases hgood : i.status = 0
  · obtain ⟨hslot, hwrite⟩ := completeWrite_slots w i fails (recordSigner (signerHash (flashBytes v (slotBase s w.slotB) 256)) spoil v)
    rw [if_neg (by simp [hgood]), answers_next]
    exact ⟨hwrite, fun _ => hslot, fun hne => absurd hgood hne⟩
  · rw [if_pos (by simpa using hgood), answers_next, checkFault_gran, checkFault_mem, slotInfo_congr (checkFault_gran ..), failWrite_slots,
      slotInfo_setSlot_self, (failWrite_fields _).2]
    exact ⟨(failWrite_fields _).1, fun he => absurd he hgood, fun _ => ⟨rfl, congrArg Memories.flash h.mem⟩⟩

/-! ### Images are offered and asked for (R451 to R455) -/

theorem Elapsed.followed (h : Elapsed s t v) : Machine.followed v = Machine.followed s := by
  have hheard : v.status.heard = s.status.heard := (congrArg Status.heard h.status :)
  have hleader : v.status.leaderNode = s.status.leaderNode := (congrArg Status.leaderNode h.status :)
  simp only [Machine.followed, hheard, hleader]

theorem Elapsed.fumaroleNode (h : Elapsed s t v) : Machine.fumaroleNode v = Machine.fumaroleNode s := by
  have hleader : v.status.leaderNode = s.status.leaderNode := (congrArg Status.leaderNode h.status :)
  simp only [Machine.fumaroleNode, actsLeader, h.inMode, h.start, h.role, h.red, h.node, hleader]
  rfl

theorem Elapsed.imageBody (h : Elapsed s t v) (nn kind f) : Machine.imageBody v nn kind f = Machine.imageBody s nn kind f := by
  simp only [Machine.imageBody, h.tenant]

theorem Elapsed.offeredImage (h : Elapsed s t v) : Machine.offeredImage v = Machine.offeredImage s := by
  unfold Machine.offeredImage
  rw [h.gran, funext (slotInfo_congr h.gran)]

theorem sendImage_gran (body) (s : State) : (sendImage body s).gran = s.gran := gran_of_allBut (sendImage_view _ _ rfl)

theorem noteSci_gran (f) (s : State) : (noteSci f s).gran = s.gran := gran_of_allBut (noteSci_view s f rfl)

theorem noteSci_mem (f) (s : State) : (noteSci f s).mem = s.mem := mem_of_allBut (noteSci_view s f rfl)

theorem imageAdvertSend_runs {i : SlotInfo} (hoffered : offeredImage s = some i) (hmode : inMode .leader s = true)
    (hkey : (keyInForce s).isSome = true) : Runs .imageAdvertSend s fun u =>
      u.gran.advertAt = nextInstant u.gptp.time (offset s + 750 * ms1) sec1 := by
  obtain ⟨v, hv, h⟩ := s.exists_upToDevice
    (if s.gptp.time < s.gran.advertAt then s.gran.advertAt else nextInstant s.gptp.time (offset s + 750 * ms1) sec1)
  rw [runs_iff]
  show Answers (execImageAdvertSend s) _
  unfold execImageAdvertSend
  rw [hoffered]
  dsimp only
  rw [hmode, hkey, if_pos (by rfl), hv, answers_next, sendImage_gran, gptp_of_allBut (sendImage_view _ _ rfl), h.offset]

theorem imageAdvertReceive_runs {f : NetFrame} {b : List Byte} (hbody : imageBody s ((followed s).map (·.toNat)) 1 f = some b)
    (hleads : actsLeader s = false) (hslumber : inMode .slumber s = false) (hkey : (keyInForce s).isSome = true) (hflash : flashReady s = true)
    (hreceived : Received s t f) (hactive : s.gran.active = none) (hA : s.gran.slotA.status ≠ 0) (hB : s.gran.slotB.status ≠ 0)
    (hheadA : headReadable (slotHead s false) = false) (hheadB : headReadable (slotHead s true) = false) (hrefused : s.gran.refused = [])
    (hwrite : s.gran.write = none) (hfits : (imageIds b).2.2 ≤ slotLen s) : Runs (.imageAdvertReceive t f) s fun u =>
      u.gran.wantFetch = some (imageIds b) ∧ u.gran.wantNew = false ∧ u.gran.refused = [] := by
  obtain ⟨v, hv, h⟩ := s.exists_upTo t
  have hleads' : actsLeader v = false := by
    rw [← hleads]
    simp only [actsLeader, h.inMode, h.start]
  have hkey' : keyInForce v = keyInForce s := by simp only [keyInForce, h.sec]
  rw [runs_iff]
  show Answers (execImageAdvertReceive t f s) _
  unfold execImageAdvertReceive
  dsimp only
  rw [hv, h.followed, h.imageBody, hbody]
  dsimp only
  rw [hleads', h.inMode, hslumber, hkey', h.flashReady, hflash, if_neg (by simpa using Option.isSome_iff_ne_none.mp hkey),
    endpointIn_received h hv hreceived, answers_next]
  have hgran : (noteSci f v).gran = s.gran := (noteSci_gran f v).trans h.gran
  have hmem : (noteSci f v).mem = s.mem := (noteSci_mem f v).trans h.mem
  generalize noteSci f v = n at hgran hmem ⊢
  unfold judgeAdvert
  dsimp only
  rw [hgran, hactive, hrefused, hwrite]
  have hlen : slotLen n = slotLen s := by
    unfold slotLen
    rw [hmem]
  rw [if_neg (by simp [hA, hB]), if_neg (by simp [slotHead_congr hmem, hheadA, hheadB]), if_neg (by rw [hlen]; exact Nat.not_lt.mpr hfits)]
  exact ⟨rfl, rfl, rfl⟩

theorem imageRequestReceive_runs {f : NetFrame} {b : List Byte} {i : SlotInfo} (hbody : imageBody s (fumaroleNode s) 2 f = some b)
    (hoffered : offeredImage s = some i) (hmode : inMode .leader s = true) (hid : (imageIds b).1 = i.identity)
    (hedition : (imageIds b).2.1 = i.edition) (haligned : ofBe (slice 16 4 b) % 1024 = 0) (hinside : ofBe (slice 16 4 b) < i.total)
    (hcount : within 1 (ofBe (slice 20 2 b)) 64 = true) (hreceived : Received s t f) (hnone : s.gran.requests = []) :
    Runs (.imageRequestReceive t f) s fun u =>
      u.gran.requests = [{ offset := ofBe (slice 16 4 b), count := ofBe (slice 20 2 b), identity := i.identity, edition := i.edition }] := by
  obtain ⟨v, hv, h⟩ := s.exists_upTo t
  rw [runs_iff]
  show Answers (execImageRequestReceive t f s) _
  unfold execImageRequestReceive
  dsimp only
  rw [hv, h.fumaroleNode, h.imageBody, hbody, h.offeredImage, hoffered]
  dsimp only
  rw [hid, hedition, h.inMode, hmode, haligned, hcount, decide_eq_true hinside, if_neg (by simp), endpointIn_received h hv hreceived, answers_next]
  have hgran : (noteSci f v).gran = s.gran := (noteSci_gran f v).trans h.gran
  generalize noteSci f v = n at hgran ⊢
  rw [hgran, hnone, if_neg (by simp)]
  rfl

theorem imageChunkSend_runs {r : FetchReq} {rest : List FetchReq} {act : Bool} (hrequests : s.gran.requests = r :: rest)
    (hactive : s.gran.active = some act) (hmode : inMode .leader s = true)
    (hrate : (s.gran.chunkTimes.filter (fun x => decide (max s.now t < x + sec1))).length < 2000) : Runs (.imageChunkSend t) s fun u =>
      u.gran.chunkTimes.head? = some (max s.now t)
        ∧ (r.count ≤ r.sent + 1 → u.gran.requests = rest)
        ∧ (r.sent + 1 < r.count → r.offset + 1024 * r.sent + 1024 < (slotInfo s act).total →
            u.gran.requests = { r with sent := r.sent + 1 } :: rest) := by
  obtain ⟨v, hv, h⟩ := s.exists_upTo t
  rw [runs_iff]
  show Answers (execImageChunkSend t s) _
  unfold execImageChunkSend
  dsimp only
  rw [hv, h.gran, hrequests, hactive]
  dsimp only
  rw [h.inMode, hmode, h.now, if_neg (by simpa using hrate), answers_next, sendImage_gran, slotInfo_congr h.gran]
  refine ⟨rfl, fun hlast => ?_, fun hmore hinside => ?_⟩
  · exact if_neg (by simp [Nat.not_lt.mpr hlast])
  · exact if_pos (by simp [hmore, hinside])

/-! ### Chunks are taken, missing ones asked for, a fetch is given up (R454, R456) -/

theorem issueOp_write (s : State) {w : SlotWrite} (hw : s.gran.write = some w) : ∃ q, (issueOp s).gran.write = some { w with queue := q } := by
  unfold issueOp
  rw [hw]
  split
  next heq =>
    obtain rfl := Option.some.inj heq
    split
    · exact ⟨_, rfl⟩
    · exact ⟨w.queue, hw⟩
  · exact ⟨w.queue, hw⟩

theorem imageChunkReceive_runs {f : NetFrame} {b : List Byte} {w : SlotWrite} (hw : s.gran.write = some w) (hsource : w.source = .leader)
    (hqueue : w.queue ≠ []) (hbody : imageBody s ((followed s).map (·.toNat)) 3 f = some b) (hreceived : Received s t f)
    (hid : (imageIds b).1 = w.identity) (hedition : (imageIds b).2.1 = w.edition) (hwindow : ofBe (slice 16 4 b) ∈ windowChunks w)
    (hlength : ofBe (slice 20 2 b) = min 1024 (w.total - ofBe (slice 16 4 b))) (hnew : ofBe (slice 16 4 b) ∉ w.got) :
    Runs (.imageChunkReceive t f) s fun u => ∃ x, u.gran.write = some x ∧ x.got = ofBe (slice 16 4 b) :: w.got
      ∧ x.progress = max s.now t ∧ x.window = w.window := by
  obtain ⟨v, hv, h⟩ := s.exists_upTo t
  have hadvance : advanceWrite v = v := by
    unfold advanceWrite
    rw [h.gran, hw]
    dsimp only
    rw [if_neg (by simp [windowDone, hqueue])]
  rw [runs_iff]
  show Answers (execImageChunkReceive t f s) _
  unfold execImageChunkReceive
  dsimp only
  rw [hv, hadvance, h.followed, h.imageBody, hbody]
  dsimp only
  rw [endpointIn_received h hv hreceived, answers_next]
  have hgran : (noteSci f v).gran = s.gran := (noteSci_gran f v).trans h.gran
  have hnow := (h.checked f).now
  generalize noteSci f v = n at hgran hnow ⊢
  unfold takeChunk
  rw [hgran, hw]
  dsimp only
  rw [hid, hedition, if_neg (by rw [hsource]; simp [hwindow, hlength, hnew])]
  obtain ⟨q, hq⟩ := issueOp_write { n with gran := { s.gran with write := some { w with
    queue := w.queue ++ pagePrograms (slotBase n w.slotB) w.total (ofBe (slice 16 4 b)) (slice 24 (ofBe (slice 20 2 b)) b)
    got := ofBe (slice 16 4 b) :: w.got, progress := n.now } } } rfl
  exact ⟨_, hq, rfl, hnow, rfl⟩

theorem imageRequestRetry_runs {w : SlotWrite} (hw : s.gran.write = some w) (hsource : w.source = .leader) (hmissing : missingRuns w ≠ []) :
    Runs .imageRequestRetry s fun u =>
      u.now = max s.now (max w.progress w.asked + 500 * ms1) ∧ u.gran.write = some { w with asked := u.now } := by
  obtain ⟨v, hv, h⟩ := s.exists_upTo (max w.progress w.asked + 500 * ms1)
  have hnow (l : List (Nat × Nat)) : (l.foldl (sendRequest w) v).now = v.now :=
    foldl_keeps State.now _ (fun y r => now_of_view (P := allBut []) (sendRequest_view w r (s := y) rfl)) l v
  rw [runs_iff]
  show Answers (execImageRequestRetry s) _
  unfold execImageRequestRetry
  rw [hw]
  dsimp only
  rw [if_pos (by rw [hsource]; simpa using hmissing), hv]
  unfold requestMissing
  rw [h.gran, hw]
  dsimp only
  rw [answers_next]
  exact ⟨(hnow _).trans h.now, rfl⟩

theorem imageFetchAbandon_runs {w : SlotWrite} (hw : s.gran.write = some w) (hsource : w.source = .leader) : Runs .imageFetchAbandon s fun u =>
    u.gran.write = none ∧ (w.identity, w.edition) ∈ u.gran.refused ∧ u.now = max s.now (w.progress + 60 * sec1)
      ∧ u.mem.flash = s.mem.flash := by
  obtain ⟨v, hv, h⟩ := s.exists_upTo (w.progress + 60 * sec1)
  obtain ⟨hwrite, hmem⟩ := failWrite_fields v
  rw [runs_iff]
  show Answers (execImageFetchAbandon s) _
  unfold execImageFetchAbandon
  rw [hw]
  dsimp only
  rw [hsource, if_pos (by rfl), hv, answers_next, hmem]
  refine ⟨hwrite, ?_, (now_of_view (P := allBut []) (failWrite_view _ rfl)).trans h.now, congrArg Memories.flash h.mem⟩
  unfold failWrite
  rw [h.gran, hw]
  dsimp only
  rw [repairEvent_gran, hsource]
  exact List.mem_cons_self

/-- Settles O48: the verdicts of a start, the operations of a write, and what is offered, fetched and given up. -/
theorem granaryRuns : Obligations.GranaryRuns :=
  ⟨fun _ _ _ hawake hmode hbase hdone => ⟨imageVerify_runs_absent hawake hmode hbase hdone,
      fun _ _ => imageVerify_runs_present hawake hmode hbase hdone⟩,
    fun _ _ _ _ => slotWriteStart_runs,
    fun _ _ _ ho => ⟨flashOperationComplete_runs_good ho, flashOperationComplete_runs_retry ho, flashOperationComplete_runs_failed ho⟩,
    fun _ _ _ _ _ => slotWriteComplete_runs, fun _ _ => imageAdvertSend_runs, fun _ _ _ _ => imageAdvertReceive_runs,
    fun _ _ _ _ _ => imageRequestReceive_runs, fun _ _ _ _ _ => imageChunkSend_runs, fun _ _ _ _ _ => imageChunkReceive_runs,
    fun _ _ => imageRequestRetry_runs, fun _ _ => imageFetchAbandon_runs⟩

end Sys2Proof.Machine
end

/-! # Biphase inputs and TDM followers (O49, chapters 12 and 13)

What they judge of their frames. -/

section
namespace Sys2Proof.Machine

open Sys2Proof


variable {s u v w : State} {t : Nat}

/-! ### Biphase inputs (R270, R272, R276) -/

/-- What an input judges of a frame: presence, rate, run of good frames, the frame held, qualification and the clock's mute. -/
def Bpi.verdict (x : Bpi) : Bool × Nat × Nat × Option BpiFrame × Bool × Bool := (x.present, x.rate, x.run, x.held, x.qualified, x.muteClock)

theorem statusStep_keeps (x : Bpi) (f : Subframe) (bad : Bool) : (statusStep x f bad).1.run = x.run ∧ (statusStep x f bad).1.qualified = x.qualified := by
  unfold statusStep
  split
  · exact ⟨rfl, rfl⟩
  · split
    · exact ⟨rfl, rfl⟩
    · exact ⟨rfl, rfl⟩

theorem biphaseErrors_verdict (n : Fin 4) (pre par len : Nat) (s : State) : (biphaseErrors n pre par len s).bpi[n].verdict = s.bpi[n].verdict := by
  unfold biphaseErrors
  split
  · rfl
  · extract_lets key x y z
    have hy : y.verdict = s.bpi[n].verdict := holds_ite (p := fun b : Bpi => b.verdict = s.bpi[n].verdict) rfl rfl
    exact (congrArg (fun b : Vector Bpi 4 => b[n].verdict) (raiseCount_bpi ..)).trans ((congrArg Bpi.verdict (get_set_fin_self ..)).trans hy)

/-- A run goes on where neither preamble is spoiled and the rate is one of the bands. -/
theorem ite_spoiled (a b : Bool) (c k : Nat) : (if !a || !b || c == 0 then 0 else k) = if a && b && c != 0 then k else 0 := by
  by_cases hgood : a && b && c != 0
  · rw [if_pos hgood, if_neg]
    simp at hgood ⊢
    exact hgood
  · rw [if_neg hgood, if_pos]
    simp at hgood ⊢
    by_cases ha : a = false
    · exact .inl (.inl ha)
    · by_cases hb : b = false
      · exact .inl (.inr hb)
      · exact .inr (hgood (by simpa using ha) (by simpa using hb))

theorem takeFrame_verdict (n : Fin 4) (f : BiphaseFrame) (s : State) :
    let m := followFrame n (mediaNow s)
    let run := if firstOk f.first && secondOk f.second && rateBand f.rate != 0 then min 64 (m.bpi[n].run + 1) else 0
    let qualified := m.bpi[n].qualified || (run == 64 && inputPairLocked m n)
    ∃ frame, (takeFrame n f s).bpi[n].verdict = (true, rateBand f.rate, run, some frame, qualified, !qualified) := by
  intro m run qualified
  unfold takeFrame
  extract_lets pre1 pre2 bad1 bad2 x burstHere band spoiled bit
  split
  next x' lengthError ended hstatus =>
  obtain ⟨hrun, hqualified⟩ := statusStep_keeps x f.first bad1
  rw [hstatus] at hrun hqualified
  extract_lets endsNonAudio burstHeld held mute fresh run' qualified' opened left right frame clean release gone y tracked noted counted told released b
  have hrun' : run' = run := by
    show (if (pre1 || pre2 || band == 0) = true then 0 else min 64 (x'.run + 1)) = _
    rw [show x'.run = m.bpi[n].run from hrun]
    exact ite_spoiled ..
  have hqualified' : qualified' = qualified := by
    show (x'.qualified || (run' == 64 && inputPairLocked m n)) = _
    rw [hrun', show x'.qualified = m.bpi[n].qualified from hqualified]
  have hy : y.verdict = (true, rateBand f.rate, run, some frame, qualified, !qualified) := by
    rw [← hrun', ← hqualified']
    rfl
  have hnoted : noted.bpi[n].verdict = y.verdict := (congrArg Bpi.verdict (get_set_fin_self ..)).trans rfl
  have hcounted : counted.bpi[n].verdict = y.verdict := (biphaseErrors_verdict ..).trans hnoted
  have htold : told.bpi[n].verdict = y.verdict :=
    holds_ite (p := fun u : State => u.bpi[n].verdict = y.verdict) hcounted hcounted
  have hreleased : released.bpi[n].verdict = y.verdict :=
    holds_ite (p := fun u : State => u.bpi[n].verdict = y.verdict) htold htold
  refine ⟨frame, hy ▸ holds_ite (p := fun u : State => u.bpi[n].verdict = y.verdict) ?_ hreleased⟩
  exact (congrArg Bpi.verdict (get_set_fin_self ..)).trans hreleased

theorem Elapsed.audioOn (h : Elapsed s t v) : Machine.audioOn v = Machine.audioOn s := by simp only [Machine.audioOn, h.start, h.inMode]

theorem biphaseFrameReceive_runs {n : Fin 4} {f : BiphaseFrame} (hon : audioOn s = true) (hrunning : sysStopped s = false) :
    Runs (.biphaseFrameReceive t n f) s fun u =>
      let m := followFrame n (mediaNow (s.upTo t))
      let run := if firstOk f.first && secondOk f.second && rateBand f.rate != 0 then min 64 (m.bpi[n].run + 1) else 0
      u.bpi[n].present = true ∧ u.bpi[n].rate = rateBand f.rate ∧ u.bpi[n].run = run ∧ u.bpi[n].held.isSome = true
        ∧ u.bpi[n].qualified = (m.bpi[n].qualified || (run == 64 && inputPairLocked m n))
        ∧ u.bpi[n].muteClock = !u.bpi[n].qualified := by
  obtain ⟨v, hv, h⟩ := s.exists_upTo t
  obtain ⟨frame, hverdict⟩ := takeFrame_verdict n f v
  rw [hv, runs_iff]
  show Answers (execBiphaseFrameReceive t n f s) _
  unfold execBiphaseFrameReceive crossIn
  dsimp only
  rw [hv, h.audioOn, hon, if_pos rfl, h.sysStopped, hrunning, if_neg Bool.false_ne_true, answers_next]
  simp only [Bpi.verdict, Prod.mk.injEq] at hverdict
  obtain ⟨hpresent, hrate, hrun, hheld, hqualified, hmute⟩ := hverdict
  exact ⟨hpresent, hrate, hrun, by rw [hheld]; rfl, hqualified, by rw [hmute, hqualified]⟩

theorem releaseHeld_qualified (n : Fin 4) (s : State) : (releaseHeld n s).bpi[n].qualified = s.bpi[n].qualified := by
  unfold releaseHeld
  split
  · exact (congrArg Bpi.qualified (get_set_fin_self ..)).trans rfl
  · rfl

theorem biphaseInputLoss_runs {n : Fin 4} {rateOut : Bool} (hon : audioOn s = true) : Runs (.biphaseInputLoss t n rateOut) s fun u =>
    u.bpi[n].qualified = false ∧ u.bpi[n].run = 0 ∧ u.bpi[n].held = none ∧ u.bpi[n].muteClock = true
      ∧ u.bpi[n].present = rateOut
      ∧ ((mediaNow (s.upTo t)).bpi[n].qualified = true → isActive 0xF700#16 n.val u = true ∧ u.bpi[n].lost = true) := by
  obtain ⟨v, hv, h⟩ := s.exists_upTo t
  rw [hv, runs_iff]
  show Answers (execBiphaseInputLoss t n rateOut s) _
  unfold execBiphaseInputLoss
  dsimp only
  rw [hv, h.audioOn, hon, if_neg (by decide), answers_next]
  generalize mediaNow v = m
  rw [← releaseHeld_qualified n m]
  generalize releaseHeld n m = y
  obtain ⟨x, hx⟩ : ∃ x, y.bpi[n] = x := ⟨_, rfl⟩
  rw [hx]
  obtain ⟨z, hz⟩ : ∃ z : State, z = stopPairs (4 + n.val) (stopPairs n.val { y with bpi := y.bpi.set n { x with
    present := rateOut, rate := 0, run := 0, qualified := false, held := none, goodL := none, goodR := none, paSeen := false
    cs := [], csBad := false, inBlock := false, muteClock := true, clean := 0, lost := x.lost || x.qualified } }) := ⟨_, rfl⟩
  have hbpi : z.bpi[n] = { x with
      present := rateOut, rate := 0, run := 0, qualified := false, held := none, goodL := none, goodR := none, paSeen := false
      cs := [], csBad := false, inBlock := false, muteClock := true, clean := 0, lost := x.lost || x.qualified } := by
    rw [hz]
    exact get_set_fin_self ..
  rw [← hz]
  cases hqualified : x.qualified with
  | false =>
    rw [if_neg Bool.false_ne_true, hbpi]
    exact ⟨rfl, rfl, rfl, rfl, rfl, fun h => absurd h Bool.false_ne_true⟩
  | true =>
    rw [if_pos rfl, raise_bpi, hbpi]
    exact ⟨rfl, rfl, rfl, rfl, rfl, fun _ => ⟨isActive_raise_self rfl .., by rw [hqualified, Bool.or_true]⟩⟩

/-! ### TDM followers (R293 to R298) -/

/-- What a follower judges of its frames. -/
structure TdmVerdict where
  qualified : Bool
  anyGood : Bool
  bad : Nat
  lost : Bool
  waitFs : Bool
  timer : Option Nat

def TdmPort.verdict (x : TdmPort) : TdmVerdict := ⟨x.qualified, x.anyGood, x.bad, x.lost, x.waitFs, x.timer⟩

section Tdm

variable (p : Fin 2)

theorem setTdm_self (x : TdmPort) (s : State) : (setTdm p x s).tdm[p] = x := get_set_fin_self ..

theorem tdmFault_verdict (cause : Nat) (s : State) : (tdmFault p cause s).tdm[p].verdict = s.tdm[p].verdict := by
  unfold tdmFault
  extract_lets key x y z
  have hy : y.verdict = s.tdm[p].verdict := holds_ite (p := fun b : TdmPort => b.verdict = s.tdm[p].verdict) rfl rfl
  exact (congrArg (fun b : Vector TdmPort 2 => b[p].verdict) (raiseCount_tdm ..)).trans
    ((congrArg TdmPort.verdict (setTdm_self ..)).trans hy)

theorem tdmSlip_verdict (r : TdmPort × Bool) (s : State) : (tdmSlip p r s).tdm[p].verdict = r.1.verdict := by
  unfold tdmSlip
  exact holds_ite (p := fun u : State => u.tdm[p].verdict = r.1.verdict) ((tdmFault_verdict ..).trans (congrArg TdmPort.verdict (setTdm_self ..)))
    (congrArg TdmPort.verdict (setTdm_self ..))

theorem TdmPort.write_verdict (f : List Sample) (x : TdmPort) : (x.write f).1.verdict = x.verdict := by
  unfold TdmPort.write
  split <;> rfl

theorem TdmPort.readOut_verdict (x : TdmPort) : x.readOut.1.verdict = x.verdict := by
  unfold TdmPort.readOut
  split <;> rfl

theorem loseTdm_verdict (cause : Nat) (s : State) :
    (loseTdm p cause s).tdm[p].verdict = { s.tdm[p].verdict with qualified := false, bad := 0, lost := true } := by
  unfold loseTdm
  extract_lets x y
  exact (congrArg (fun b : Vector TdmPort 2 => b[p].verdict) (raise_tdm ..)).trans ((congrArg TdmPort.verdict (setTdm_self ..)).trans rfl)

theorem loseTdm_active (cause : Nat) (s : State) : isActive 0xF711#16 p.val (loseTdm p cause s) = true := isActive_raise_self rfl ..

theorem badFrame_verdict (cause : Nat) (s : State) : (badFrame p cause s).tdm[p].verdict =
    if s.tdm[p].qualified && decide (3 ≤ s.tdm[p].bad + 1) then { s.tdm[p].verdict with qualified := false, bad := 0, lost := true }
    else { s.tdm[p].verdict with bad := min 3 (s.tdm[p].bad + 1) } := by
  unfold badFrame
  extract_lets a b x y
  have ha : a.tdm[p].verdict = s.tdm[p].verdict := tdmFault_verdict ..
  have hx : x.verdict = s.tdm[p].verdict :=
    holds_ite (p := fun u : State => u.tdm[p].verdict = s.tdm[p].verdict) ((tdmSlip_verdict ..).trans ((TdmPort.write_verdict ..).trans ha)) ha
  have hqualified : x.qualified = s.tdm[p].qualified := congrArg TdmVerdict.qualified hx
  have hbad : x.bad = s.tdm[p].bad := congrArg TdmVerdict.bad hx
  have hy : y.tdm[p].verdict = { x.verdict with bad := min 3 (x.bad + 1) } := congrArg TdmPort.verdict (setTdm_self ..)
  clear_value x y
  rw [hqualified, hbad]
  rw [hx, hbad] at hy
  split
  · rw [loseTdm_verdict, hy]
  · exact hy

/-- A third bad frame in a row unlocks the port. -/
theorem badFrame_active (cause : Nat) (hqualified : s.tdm[p].qualified = true) (hbad : 2 ≤ s.tdm[p].bad) :
    isActive 0xF711#16 p.val (badFrame p cause s) = true := by
  unfold badFrame
  extract_lets a b x y
  have ha : a.tdm[p].verdict = s.tdm[p].verdict := tdmFault_verdict ..
  have hx : x.verdict = s.tdm[p].verdict :=
    holds_ite (p := fun u : State => u.tdm[p].verdict = s.tdm[p].verdict) ((tdmSlip_verdict ..).trans ((TdmPort.write_verdict ..).trans ha)) ha
  have hqualified' : x.qualified = s.tdm[p].qualified := congrArg TdmVerdict.qualified hx
  have hbad' : x.bad = s.tdm[p].bad := congrArg TdmVerdict.bad hx
  clear_value x y
  rw [hqualified', hbad', hqualified, if_pos (by simp; omega)]
  exact loseTdm_active ..

theorem badFrame_time (cause : Nat) (s : State) : (badFrame p cause s).now = s.now ∧ (badFrame p cause s).well = s.well :=
  ⟨now_of_view (P := allBut []) (badFrame_view _ p cause rfl), well_of_allBut (badFrame_view _ p cause rfl)⟩

theorem frameStart_verdict (s : State) :
    (frameStart p s).tdm[p].verdict = { s.tdm[p].verdict with waitFs := false, timer := some (s.now + halfFrames s 3) } := by
  unfold frameStart
  extract_lets x y
  have hy : y.tdm[p].verdict = { s.tdm[p].verdict with waitFs := false, timer := some (s.now + halfFrames s 3) } :=
    (congrArg TdmPort.verdict (setTdm_self ..)).trans rfl
  exact holds_ite (p := fun u : State => u.tdm[p].verdict = _) ((tdmSlip_verdict ..).trans ((TdmPort.readOut_verdict _).trans hy)) hy

theorem frameStart_status (hqualified : s.tdm[p].qualified = false) : (frameStart p s).status = s.status := by
  unfold frameStart
  extract_lets x y
  have hy : y.tdm[p].qualified = false := (congrArg TdmPort.qualified (setTdm_self ..)).trans hqualified
  rw [hy, if_neg (by simp)]
  rfl

/-- A good frame locks a port that was not locked and need not see its rate first. -/
theorem goodFrame_verdict (data : List Int) (hqualified : s.tdm[p].qualified = false) (hrate : s.tdm[p].needRate = false) :
    (goodFrame p data s).tdm[p].verdict = { s.tdm[p].verdict with qualified := true, anyGood := true, bad := 0, lost := false }
      ∧ (goodFrame p data s).now = s.now ∧ (goodFrame p data s).well = s.well := by
  unfold goodFrame
  extract_lets before x y
  rw [show x.qualified = false from hqualified, if_neg Bool.false_ne_true, show x.needRate = false from hrate, if_neg (by simp)]
  have hy : y.tdm[p].verdict = { s.tdm[p].verdict with qualified := true, anyGood := true, bad := 0, lost := false } :=
    (congrArg TdmPort.verdict (setTdm_self ..)).trans rfl
  refine holds_ite (p := fun u : State => u.tdm[p].verdict = _ ∧ u.now = s.now ∧ u.well = s.well) ?_ ⟨hy, rfl, rfl⟩
  exact ⟨(congrArg (fun b : Vector TdmPort 2 => b[p].verdict) (clear_tdm ..)).trans hy, clear_now .., clear_well ..⟩

theorem Elapsed.tdmJudged (h : Elapsed s t v) : Machine.tdmJudged v p = Machine.tdmJudged s p := by
  simp only [Machine.tdmJudged, asFollower, h.tdm, h.inMode, h.red, h.blocks]

theorem halfFrames_congr (h : u.well = s.well) (k : Nat) : halfFrames u k = halfFrames s k := by
  unfold halfFrames
  rw [h]

theorem mediaNow_now (s : State) : (mediaNow s).now = s.now := now_of_view (P := allBut []) (mediaNow_view _ rfl)

theorem mediaNow_well (s : State) : (mediaNow s).well = s.well := well_of_allBut (mediaNow_view _ rfl)

theorem tdmFrameJudged_exec {c : Nat} {fs : Bool} {data : List (BitVec 32)} (hjudged : tdmJudged s p = true) (hrunning : sysStopped s = false) :
    exec (.tdmFrameJudged t p c fs data) s = .next (judgeFrame p c fs data (s.upTo t)) := by
  obtain ⟨v, hv, h⟩ := s.exists_upTo t
  show execTdmFrameJudged t p c fs data s = _
  unfold execTdmFrameJudged crossIn
  dsimp only
  rw [hv, h.tdmJudged, hjudged, if_pos rfl, h.sysStopped, hrunning, if_neg Bool.false_ne_true]

section Judged

variable {p} {data : List (BitVec 32)} (hjudged : tdmJudged s p = true) (hrunning : sysStopped s = false)
  (hwait : (mediaNow (s.upTo t)).tdm[p].waitFs = false)
include hjudged hrunning hwait

theorem tdmFrameJudged_runs_good (hqualified : (mediaNow (s.upTo t)).tdm[p].qualified = false)
    (hrate : (mediaNow (s.upTo t)).tdm[p].needRate = false) :
    Runs (.tdmFrameJudged t p (32 * (mediaNow (s.upTo t)).tdm[p].slots) true data) s fun u =>
      u.tdm[p].qualified = true ∧ u.tdm[p].anyGood = true ∧ u.tdm[p].bad = 0 ∧ u.tdm[p].lost = false
        ∧ u.tdm[p].timer = some (max s.now t + halfFrames s 3) := by
  obtain ⟨v, hv, h⟩ := s.exists_upTo t
  refine ⟨_, tdmFrameJudged_exec p hjudged hrunning, ?_⟩
  beta_reduce
  rw [hv] at hwait hqualified hrate ⊢
  unfold judgeFrame
  dsimp only
  have hnow := (mediaNow_now v).trans h.now
  have hwell := (mediaNow_well v).trans h.well
  generalize mediaNow v = m at hwait hqualified hrate hnow hwell ⊢
  rw [if_pos rfl, hwait, if_neg Bool.false_ne_true, if_pos rfl]
  obtain ⟨hverdict, hgnow, hgwell⟩ := goodFrame_verdict p (slotSamples m.tdm[p].slots data) hqualified hrate
  have hstart := frameStart_verdict p (goodFrame p (slotSamples m.tdm[p].slots data) m)
  rw [hverdict, hgnow, halfFrames_congr (hgwell.trans hwell), hnow] at hstart
  exact ⟨congrArg TdmVerdict.qualified hstart, congrArg TdmVerdict.anyGood hstart, congrArg TdmVerdict.bad hstart,
    congrArg TdmVerdict.lost hstart, congrArg TdmVerdict.timer hstart⟩

theorem tdmFrameJudged_runs_bad {c : Nat} (hshort : c < 32 * (mediaNow (s.upTo t)).tdm[p].slots)
    (hqualified : (mediaNow (s.upTo t)).tdm[p].qualified = false) : Runs (.tdmFrameJudged t p c true data) s fun u =>
      u.tdm[p].qualified = false ∧ u.tdm[p].bad = min 3 ((mediaNow (s.upTo t)).tdm[p].bad + 1) := by
  refine ⟨_, tdmFrameJudged_exec p hjudged hrunning, ?_⟩
  beta_reduce
  unfold judgeFrame
  dsimp only
  generalize mediaNow (s.upTo t) = m at hwait hqualified hshort ⊢
  rw [if_pos rfl, hwait, if_neg Bool.false_ne_true, if_neg hshort.ne, if_pos hshort]
  generalize (if c % 32 = 0 then 0 else 2) = cause
  have hverdict := badFrame_verdict p cause m
  rw [hqualified, Bool.false_and, if_neg Bool.false_ne_true] at hverdict
  have hstart := frameStart_verdict p (badFrame p cause m)
  rw [hverdict] at hstart
  exact ⟨(congrArg TdmVerdict.qualified hstart).trans hqualified, congrArg TdmVerdict.bad hstart⟩

theorem tdmFrameJudged_runs_lost {c : Nat} (hshort : c < 32 * (mediaNow (s.upTo t)).tdm[p].slots)
    (hqualified : (mediaNow (s.upTo t)).tdm[p].qualified = true) (hbad : 2 ≤ (mediaNow (s.upTo t)).tdm[p].bad) :
    Runs (.tdmFrameJudged t p c true data) s fun u =>
      u.tdm[p].qualified = false ∧ u.tdm[p].lost = true ∧ isActive 0xF711#16 p.val u = true := by
  refine ⟨_, tdmFrameJudged_exec p hjudged hrunning, ?_⟩
  beta_reduce
  unfold judgeFrame
  dsimp only
  generalize mediaNow (s.upTo t) = m at hwait hqualified hshort hbad ⊢
  rw [if_pos rfl, hwait, if_neg Bool.false_ne_true, if_neg hshort.ne, if_pos hshort]
  generalize (if c % 32 = 0 then 0 else 2) = cause
  have hverdict := badFrame_verdict p cause m
  rw [hqualified, Bool.true_and, if_pos (decide_eq_true (Nat.succ_le_succ hbad))] at hverdict
  have hactive := badFrame_active p cause hqualified hbad
  have hstart := frameStart_verdict p (badFrame p cause m)
  rw [hverdict] at hstart
  refine ⟨congrArg TdmVerdict.qualified hstart, congrArg TdmVerdict.lost hstart, ?_⟩
  rw [← hactive]
  unfold isActive
  rw [frameStart_status p (congrArg TdmVerdict.qualified hverdict)]

theorem tdmFrameJudged_runs_long : Runs (.tdmFrameJudged t p (32 * (mediaNow (s.upTo t)).tdm[p].slots + 1) false data) s fun u =>
    u.tdm[p].waitFs = true ∧ u.tdm[p].timer = some (max s.now t + halfFrames s 2) := by
  obtain ⟨v, hv, h⟩ := s.exists_upTo t
  refine ⟨_, tdmFrameJudged_exec p hjudged hrunning, ?_⟩
  beta_reduce
  rw [hv] at hwait ⊢
  unfold judgeFrame
  dsimp only
  have hnow := (mediaNow_now v).trans h.now
  have hwell := (mediaNow_well v).trans h.well
  generalize mediaNow v = m at hwait hnow hwell ⊢
  obtain ⟨hbnow, hbwell⟩ := badFrame_time p 1 m
  rw [if_neg Bool.false_ne_true, hwait, if_neg (by simp), setTdm_self, hbnow, hnow, halfFrames_congr (hbwell.trans hwell)]
  exact ⟨rfl, rfl⟩

end Judged

end Tdm

theorem tdmFrameTimerExpiry_runs {p : Fin 2} {d : Nat} (hd : s.tdm[p].timer = some d) (hjudged : tdmJudged s p = true) :
    Runs (.tdmFrameTimerExpiry p) s fun u => u.tdm[p].timer = some (max s.now d + halfFrames s 2) ∧ u.now = max s.now d := by
  obtain ⟨v, hv, h⟩ := s.exists_upTo d
  obtain ⟨hbnow, hbwell⟩ := badFrame_time p 3 (mediaNow v)
  rw [runs_iff]
  show Answers (execTdmFrameTimerExpiry p s) _
  unfold execTdmFrameTimerExpiry
  rw [hd]
  dsimp only
  rw [hv, h.tdmJudged, hjudged, if_neg (by decide), answers_next, setTdm_self, hbnow, mediaNow_now, h.now,
    halfFrames_congr ((hbwell.trans (mediaNow_well v)).trans h.well)]
  exact ⟨rfl, hbnow.trans ((mediaNow_now v).trans h.now)⟩

theorem loseTdm_rate (p : Fin 2) (cause : Nat) (s : State) :
    (loseTdm p cause s).tdm[p].fsCount = s.tdm[p].fsCount ∧ (loseTdm p cause s).tdm[p].rateOk = false
      ∧ (loseTdm p cause s).tdm[p].qualified = false := by
  unfold loseTdm
  extract_lets x y
  rw [raise_tdm]
  exact ⟨(congrArg TdmPort.fsCount (setTdm_self ..)).trans rfl, (congrArg TdmPort.rateOk (setTdm_self ..)).trans rfl,
    (congrArg TdmPort.qualified (setTdm_self ..)).trans rfl⟩

theorem tdmRateWindow_runs {p : Fin 2} (hjudged : tdmJudged s p = true) : Runs (.tdmRateWindow t p) s fun u =>
    let m := mediaNow (s.upTo t)
    let fits := decide (((m.tdm[p].fsCount : Int) - thisLen m).natAbs * 1000 ≤ thisLen m)
    u.tdm[p].fsCount = 0 ∧ u.tdm[p].rateOk = fits ∧ u.tdm[p].qualified = (m.tdm[p].qualified && fits) := by
  obtain ⟨v, hv, h⟩ := s.exists_upTo t
  rw [hv, runs_iff]
  show Answers (execTdmRateWindow t p s) _
  unfold execTdmRateWindow
  dsimp only
  rw [hv, h.tdmJudged, hjudged, if_neg (by decide), answers_next]
  generalize mediaNow v = m
  generalize decide (((m.tdm[p].fsCount : Int) - thisLen m).natAbs * 1000 ≤ thisLen m) = fits
  obtain ⟨y, hy⟩ : ∃ y, setTdm p { m.tdm[p] with fsCount := 0, rateOk := fits } m = y := ⟨_, rfl⟩
  have hself : y.tdm[p] = { m.tdm[p] with fsCount := 0, rateOk := fits } := by
    rw [← hy]
    exact setTdm_self ..
  rw [hy]
  obtain ⟨hcount, hrate, hqualified⟩ := loseTdm_rate p 5 y
  cases hout : y.tdm[p].qualified && !fits with
  | true =>
    simp only [Bool.and_eq_true, Bool.not_eq_true'] at hout
    rw [if_pos rfl, hcount, hrate, hqualified, hout.2, Bool.and_false, hself]
    exact ⟨rfl, rfl, rfl⟩
  | false =>
    rw [if_neg Bool.false_ne_true]
    rw [hself] at hout ⊢
    refine ⟨rfl, rfl, ?_⟩
    revert hout
    cases m.tdm[p].qualified <;> cases fits <;> simp

theorem inMode_setTdm (m : Mode) (p : Fin 2) (x : TdmPort) (s : State) : inMode m (setTdm p x s) = inMode m s := rfl

theorem tdmQualifyDeadline_runs {p : Fin 2} {d : Nat} (hd : s.tdm[p].deadline = some d) (hused : s.tdm[p].used = true)
    (hleader : s.tdm[p].leader = false) (hgood : s.tdm[p].anyGood = false) (hsafe : inMode .safe s = false) :
    Runs (.tdmQualifyDeadline p) s fun u =>
      isActive 0xF711#16 p.val u = true ∧ u.tdm[p].lost = true ∧ u.tdm[p].deadline = none ∧ u.now = max s.now d := by
  obtain ⟨v, hv, h⟩ := s.exists_upTo d
  rw [runs_iff]
  show Answers (execTdmQualifyDeadline p s) _
  unfold execTdmQualifyDeadline
  rw [hd]
  dsimp only
  rw [hv, h.tdm, hused, hleader, hgood, if_pos (by rw [inMode_setTdm, h.inMode, hsafe]; rfl), answers_next]
  refine ⟨isActive_raise_self rfl .., ?_, ?_, ?_⟩
  · rw [raise_tdm, setTdm_self]
  · rw [raise_tdm, setTdm_self, setTdm_self]
  · exact (raise_now ..).trans h.now

/-- Settles O49: a biphase frame's verdict, an input's loss, and what a follower's frames, timers and windows say of it. -/
theorem landsRun : Obligations.LandsRun :=
  ⟨fun _ _ _ _ => biphaseFrameReceive_runs, fun _ _ _ _ => biphaseInputLoss_runs,
    fun _ _ _ _ hjudged hrunning hwait => ⟨tdmFrameJudged_runs_good hjudged hrunning hwait, fun _ => tdmFrameJudged_runs_bad hjudged hrunning hwait,
      fun _ => tdmFrameJudged_runs_lost hjudged hrunning hwait, tdmFrameJudged_runs_long hjudged hrunning hwait⟩,
    fun _ _ _ => tdmFrameTimerExpiry_runs, fun _ _ _ => tdmRateWindow_runs, fun _ _ _ => tdmQualifyDeadline_runs⟩

end Sys2Proof.Machine
end

/-! # The microphone gate, START and MUTE_N (O50, chapters 13 and 15)

MIC_EN, the settling of the lines, START and the edges. -/

section
namespace Sys2Proof.Machine

open Sys2Proof


variable {s u v w : State} {t : Nat}

/-! ### The microphone gate (R302, R304, R305) -/

theorem closeGate_fields (s : State) : (closeGate s).mic.open_ = false ∧ (closeGate s).mic.clk0 = false ∧ (closeGate s).mic.clk1 = false
    ∧ (closeGate s).now = s.now ∧ (closeGate s).freeCtr = s.freeCtr :=
  ⟨rfl, rfl, rfl, rfl, rfl⟩

theorem micEnFall_runs_long {n : Nat} (hlong : 50 < n) : Runs (.micEnFall t (some n)) s fun u =>
    u.mic.open_ = false ∧ u.mic.clk0 = false ∧ u.mic.clk1 = false ∧ u.mic.en = true
      ∧ u.mic.highSince = some (max s.now t + n) ∧ u.freeCtr = s.freeCtr := by
  obtain ⟨v, hv, h⟩ := s.exists_upTo t
  obtain ⟨hopen, h0, h1, hnow, hfree⟩ := closeGate_fields v
  rw [runs_iff]
  show Answers (execMicEnFall t (some n) s) _
  unfold execMicEnFall
  dsimp only
  rw [hv, if_neg (Nat.not_le.mpr hlong), answers_next]
  exact ⟨hopen, h0, h1, rfl, congrArg (fun k => some (k + n)) (hnow.trans h.now), hfree.trans h.freeCtr⟩

theorem micEnFall_runs_short {n : Nat} (hshort : n ≤ 50) : Runs (.micEnFall t (some n)) s fun u =>
    u.mic.open_ = (s.mic.open_ && Config.freeValue s.freeCtr % 2 != 1) ∧ u.freeCtr = s.freeCtr + 1 := by
  obtain ⟨v, hv, h⟩ := s.exists_upTo t
  rw [runs_iff]
  show Answers (execMicEnFall t (some n) s) _
  unfold execMicEnFall drawFree
  dsimp only
  rw [hv, if_pos hshort, h.freeCtr, answers_next]
  by_cases hseen : Config.freeValue s.freeCtr % 2 = 1
  · obtain ⟨hopen, -, -, -, hfree⟩ := closeGate_fields { v with freeCtr := s.freeCtr + 1 }
    rw [if_pos hseen, hseen]
    exact ⟨hopen.trans (by simp), hfree⟩
  · rw [if_neg hseen]
    exact ⟨by rw [h.mic, bne_iff_ne.mpr hseen, Bool.and_true], rfl⟩

theorem micEnFall_runs_stays : Runs (.micEnFall t none) s fun u => u.mic.open_ = false ∧ u.mic.en = false ∧ u.mic.highSince = none :=
  ⟨_, rfl, (closeGate_fields (s.upTo t)).1, rfl, rfl⟩

theorem pdmClocks_fields (s : State) : (pdmClocks s).mic.open_ = s.mic.open_ ∧ (pdmClocks s).mic.en = s.mic.en ∧ (pdmClocks s).now = s.now
    ∧ (pdmClocks s).mic.clk0 = pdmAllowed (pdmClocks s) 0 ∧ (pdmClocks s).mic.clk1 = pdmAllowed (pdmClocks s) 1 :=
  ⟨rfl, rfl, rfl, rfl, rfl⟩

theorem micEnOpen_runs (since : Nat) (s : State) : Runs (.micEnOpen since) s fun u =>
    let high := max since (s.mic.highSince.getD 0)
    let from_ := if s.start.cause == .powerOn then max high s.start.tReset else high
    u.mic.open_ = true ∧ u.mic.en = true ∧ u.now = max s.now (from_ + 10 * ms1)
      ∧ u.mic.clk0 = pdmAllowed u 0 ∧ u.mic.clk1 = pdmAllowed u 1 := by
  rw [runs_iff]
  show Answers (execMicEnOpen since s) _
  unfold execMicEnOpen
  dsimp only
  generalize (if (s.start.cause == .powerOn) = true then max (max since (s.mic.highSince.getD 0)) s.start.tReset
    else max since (s.mic.highSince.getD 0)) = from_
  obtain ⟨v, hv, h⟩ := s.exists_upTo (from_ + 10 * ms1)
  obtain ⟨hopen, hen, hnow, h0, h1⟩ := pdmClocks_fields { v with mic := { v.mic with en := true, highSince := some from_, open_ := true } }
  rw [hv, answers_next]
  exact ⟨hopen, hen, hnow.trans h.now, h0, h1⟩

theorem pdmSettleExpiry_runs_first {d : Nat} (hd : s.mic.settle0 = some d) : Runs (.pdmSettleExpiry 0) s fun u =>
    u.mic.settle0 = none ∧ u.mic.pass0 = (sampleAfter (s.upTo d) 0, 1000) ∧ u.mic.pass1 = s.mic.pass1 := by
  obtain ⟨v, hv, h⟩ := s.exists_upTo d
  rw [hv, runs_iff]
  show Answers (execPdmSettleExpiry 0 s) _
  unfold execPdmSettleExpiry
  rw [if_pos rfl, hd]
  dsimp only
  rw [hv, if_pos rfl, answers_next]
  exact ⟨rfl, rfl, (congrArg MicGate.pass1 h.mic :)⟩

theorem settleSecond_pass0 (s : State) (w : Nat × Nat) :
    ({ s with mic := { s.mic with settle1 := none, pass1 := w } } : State).mic.pass0 = s.mic.pass0 := rfl

theorem pdmSettleExpiry_runs_second {d : Nat} (hd : s.mic.settle1 = some d) : Runs (.pdmSettleExpiry 1) s fun u =>
    u.mic.settle1 = none ∧ u.mic.pass1 = (sampleAfter (s.upTo d) 0, 1000) ∧ u.mic.pass0 = s.mic.pass0 := by
  obtain ⟨v, hv, h⟩ := s.exists_upTo d
  rw [hv, runs_iff]
  show Answers (execPdmSettleExpiry 1 s) _
  unfold execPdmSettleExpiry
  rw [if_neg (by decide), hd]
  dsimp only
  rw [hv, if_neg (by decide), answers_next]
  exact ⟨rfl, rfl, (settleSecond_pass0 v _).trans (congrArg MicGate.pass0 h.mic)⟩

/-! ### START and MUTE_N (R331 to R333, R337) -/

theorem startDetect_runs (hawaits : awaitsStart s = true) : Runs (.startDetect t) s fun u =>
    u.blocks.te = some (s.upTo t).gptp.time ∧ u.blocks.lastAt = s.blocks.lastAt := by
  obtain ⟨v, hv, h⟩ := s.exists_upTo t
  have hawaits' : awaitsStart v = true := by
    rw [← hawaits]
    simp only [awaitsStart, h.blocks, h.inMode]
  rw [hv, runs_iff]
  show Answers (execStartDetect t s) _
  unfold execStartDetect
  dsimp only
  rw [hv, hawaits', if_neg (by decide), h.blocks]
  exact holds_ite (p := fun u : State => u.blocks.te = some v.gptp.time ∧ u.blocks.lastAt = s.blocks.lastAt)
    (by rw [raise_blocks]; exact ⟨rfl, rfl⟩) ⟨rfl, rfl⟩

theorem startTimeout_runs {r : Nat} (hr : s.blocks.releasedAt = some r) (hawaits : awaitsStart s = true) : Runs .startTimeout s fun u =>
    u.blocks.te = some u.gptp.time ∧ u.now = max s.now (r + 2 * sec1) := by
  obtain ⟨v, hv, h⟩ := s.exists_upTo (r + 2 * sec1)
  rw [runs_iff]
  show Answers (execStartTimeout s) _
  unfold execStartTimeout
  rw [hr]
  dsimp only
  rw [hawaits, if_neg (by decide), hv, answers_next, raise_blocks, raise_gptp, raise_now]
  exact ⟨rfl, h.now⟩

theorem muteNChange_runs_early {low : Bool} (hstarted : s.blocks.started = false) : Runs (.muteNChange t low) s fun u =>
    u.blocks.muteLow = low ∧ u.blocks.muteEdges = [] := by
  obtain ⟨v, hv, h⟩ := s.exists_upTo t
  rw [runs_iff]
  show Answers (execMuteNChange t low s) _
  unfold execMuteNChange
  dsimp only
  rw [hv, h.blocks, hstarted, if_pos (by simp)]
  exact ⟨rfl, rfl⟩

theorem muteNChange_runs_edge {low : Bool} (hstarted : s.blocks.started = true) (hslumber : inMode .slumber s = false)
    (hsafe : inMode .safe s = false) : Runs (.muteNChange t low) s fun u =>
      u.blocks.muteLow = s.blocks.muteLow ∧ ∃ k, u.blocks.muteEdges = (k, low) :: s.blocks.muteEdges := by
  obtain ⟨v, hv, h⟩ := s.exists_upTo t
  rw [runs_iff]
  show Answers (execMuteNChange t low s) _
  unfold execMuteNChange
  dsimp only
  rw [hv, h.blocks, hstarted, h.inMode, hslumber, h.inMode, hsafe, if_neg (by decide)]
  exact ⟨rfl, _, rfl⟩

/-- Settles O50: the gate by how long MIC_EN stayed low, the settling of its lines, START and the edges of MUTE_N. -/
theorem gateAndStartRun : Obligations.GateAndStartRun :=
  ⟨fun _ _ _ => micEnFall_runs_long, fun _ _ _ => micEnFall_runs_short, fun _ _ => micEnFall_runs_stays, fun s since => micEnOpen_runs since s,
    fun _ _ => pdmSettleExpiry_runs_first, fun _ _ => pdmSettleExpiry_runs_second, fun _ _ => startDetect_runs, fun _ _ => startTimeout_runs,
    fun _ _ _ => ⟨muteNChange_runs_early, muteNChange_runs_edge⟩⟩

end Sys2Proof.Machine
end

/-! # Rate conversion (O51, chapter 15)

Pairs track, lock and unlock. -/

section
namespace Sys2Proof.Machine

open Sys2Proof


variable {s u v w : State} {t i : Nat} {p : AsrcPair}

/-! ### Rate-conversion pairs (R322, R326) -/

theorem withPair_self {f : AsrcPair → AsrcPair} (hp : s.blocks.pairs[i]? = some p) : (withPair i f s).blocks.pairs[i]? = some (f p) := by
  unfold withPair
  dsimp only
  rw [List.getElem?_modify_eq, hp]
  rfl

/-- What time does to a pair at the instants of media: it reads and writes samples, and keeps what it tracks. -/
def AsrcPair.Sampled (p q : AsrcPair) : Prop := ∃ got tail, q = { p with got := got, tail := tail }

theorem AsrcPair.Sampled.refl (p : AsrcPair) : p.Sampled p := ⟨p.got, p.tail, rfl⟩

theorem AsrcPair.Sampled.trans {p q r : AsrcPair} (h : p.Sampled q) (k : q.Sampled r) : p.Sampled r := by
  obtain ⟨_, _, rfl⟩ := h
  obtain ⟨_, _, rfl⟩ := k
  exact ⟨_, _, rfl⟩

theorem AsrcPair.instant_sampled (rate tau : Nat) (p : AsrcPair) : p.Sampled (p.instant rate tau) := by
  unfold AsrcPair.instant
  split
  · exact .refl p
  · exact ⟨_, _, rfl⟩

theorem mediaInstant_pairs (s : State) (k i : Nat) {p : AsrcPair} (hp : s.blocks.pairs[i]? = some p) :
    ∃ q, (mediaInstant s k).blocks.pairs[i]? = some q ∧ p.Sampled q := by
  unfold mediaInstant
  have hblocks : (usbInstant (tdmInstant k (tdmInstant k s 0) 1)).blocks = s.blocks := (blocks_of_allBut (usbInstant_view _ rfl)).trans
    ((blocks_of_allBut (tdmInstant_view _ _ _ rfl)).trans (blocks_of_allBut (tdmInstant_view _ _ _ rfl)))
  generalize usbInstant (tdmInstant k (tdmInstant k s 0) 1) = y at hblocks ⊢
  dsimp only
  rw [hblocks, List.getElem?_map, hp]
  exact ⟨_, rfl, p.instant_sampled ..⟩

theorem mediaNow_pairs (s : State) (i : Nat) {p : AsrcPair} (hp : s.blocks.pairs[i]? = some p) :
    ∃ q, (mediaNow s).blocks.pairs[i]? = some q ∧ p.Sampled q := by
  unfold mediaNow mediaTo
  split
  next hrunning =>
    clear hrunning
    generalize (List.range (instantsNow s)).drop s.blocks.done = l
    induction l generalizing s p with
    | nil => exact ⟨p, hp, .refl p⟩
    | cons k l ih =>
      obtain ⟨q, hq, hpq⟩ := mediaInstant_pairs s k i hp
      obtain ⟨r, hr, hqr⟩ := ih _ hq
      exact ⟨r, hr, hpq.trans hqr⟩
  · exact ⟨p, hp, .refl p⟩

theorem asrcTrackingStart_runs (hp : (mediaNow (s.upTo t)).blocks.pairs[i]? = some p) (htracking : p.tracking = false)
    (hinput : pairInput (mediaNow (s.upTo t)) p = true) : Runs (.asrcTrackingStart t i) s fun u =>
      u.blocks.pairs[i]? = some { p with tracking := true, since := max s.now t, counting := true } := by
  obtain ⟨v, hv, h⟩ := s.exists_upTo t
  rw [hv] at hp hinput
  rw [runs_iff]
  show Answers (execAsrcTrackingStart t i s) _
  unfold execAsrcTrackingStart
  dsimp only
  rw [hv, hp]
  dsimp only
  rw [htracking, hinput, if_neg (by decide), answers_next, withPair_self hp, mediaNow_now, h.now]

theorem asrcLock_runs (hp : (mediaNow (s.upTo t)).blocks.pairs[i]? = some p) (hmay : mayLock (mediaNow (s.upTo t)) p = true) :
    Runs (.asrcLock t i) s fun u =>
      u.blocks.pairs[i]? = some { p with locked := true, counting := false } ∧ isActive 0xF740#16 i u = false := by
  rw [runs_iff]
  show Answers (execAsrcLock t i s) _
  unfold execAsrcLock
  dsimp only
  generalize mediaNow (s.upTo t) = m at hp hmay ⊢
  have hpair := withPair_self (f := fun p => { p with locked := true, counting := false }) hp
  rw [hp]
  dsimp only
  rw [hmay, if_neg (by decide)]
  generalize withPair i (fun p => { p with locked := true, counting := false }) m = y at hpair ⊢
  rw [answers_next]
  split
  · exact ⟨(congrArg (fun b : Blocks => b.pairs[i]?) (clear_blocks ..)).trans hpair, isActive_clear_self ..⟩
  next hnot => exact ⟨hpair, Bool.eq_false_iff.mpr hnot⟩

theorem asrcUnlock_runs (hp : (mediaNow (s.upTo t)).blocks.pairs[i]? = some p) (hlocked : p.locked = true)
    (hout : p.errorOut = true ∨ p.ratioOut = true) : Runs (.asrcUnlock t i) s fun u =>
      u.blocks.pairs[i]? = some { p with
        locked := false, fixed := none, fixedNext := none, within := none, near := none, since := max s.now t, counting := true } := by
  obtain ⟨v, hv, h⟩ := s.exists_upTo t
  rw [hv] at hp
  rw [runs_iff]
  show Answers (execAsrcUnlock t i s) _
  unfold execAsrcUnlock
  dsimp only
  rw [hv, hp]
  dsimp only
  rw [hlocked, if_neg (by rcases hout with hout | hout <;> simp [hout]), answers_next, withPair_self hp, mediaNow_now, h.now]

theorem asrcLockTimeout_runs (hp : s.blocks.pairs[i]? = some p) (hcounting : p.counting = true) (hlocked : p.locked = false) :
    Runs (.asrcLockTimeout i p.ratioOut) s fun u =>
      (∃ q, u.blocks.pairs[i]? = some q ∧ q.counting = false ∧ q.locked = false) ∧ isActive 0xF740#16 i u = true
        ∧ u.now = max s.now (p.since + 200 * ms1) := by
  obtain ⟨v, hv, h⟩ := s.exists_upTo (p.since + 200 * ms1)
  obtain ⟨q, hq, got, tail, rfl⟩ := mediaNow_pairs v i (by rw [h.blocks, hp])
  rw [runs_iff]
  show Answers (execAsrcLockTimeout i p.ratioOut s) _
  unfold execAsrcLockTimeout
  rw [hp]
  dsimp only
  rw [hcounting, hlocked, if_neg (by simp), hv, answers_next]
  refine ⟨⟨_, (congrArg (fun b : Blocks => b.pairs[i]?) (raise_blocks ..)).trans (withPair_self hq), rfl, hlocked⟩, isActive_raise_self rfl .., ?_⟩
  exact (raise_now ..).trans ((mediaNow_now v).trans h.now)

theorem asrcFixedRatioEntry_runs {k : Int} {n : Nat} (hp : s.blocks.pairs[i]? = some p) (hlocked : p.locked = true) (hfixed : p.fixed = none)
    (hnear : p.near = some (k, n)) (hlong : n + sec1 ≤ max s.now t) : Runs (.asrcFixedRatioEntry t i k) s fun v =>
      v.blocks.pairs[i]? = some { p with fixedNext := some k } := by
  obtain ⟨v, hv, h⟩ := s.exists_upTo t
  have hp' : v.blocks.pairs[i]? = some p := by rw [h.blocks, hp]
  have hexec : exec (.asrcFixedRatioEntry t i k) s = .next (withPair i (fun p => { p with fixedNext := some k }) v) := by
    show execAsrcFixedRatioEntry t i k s = _
    unfold execAsrcFixedRatioEntry
    dsimp only
    rw [hv, hp']
    dsimp only
    rw [hnear]
    dsimp only
    rw [if_neg (by simp [hlocked, hfixed, h.now, Nat.not_lt.mpr hlong])]
  exact ⟨_, hexec, withPair_self hp'⟩

/-- Settles O51: each command by what the pair's fields are once the media's instants up to its time have run. -/
theorem asrcRuns : Obligations.AsrcRuns :=
  ⟨fun _ _ _ _ hp => ⟨asrcTrackingStart_runs hp, asrcLock_runs hp, asrcUnlock_runs hp⟩, fun _ _ _ => asrcLockTimeout_runs,
    fun _ _ _ _ _ _ => asrcFixedRatioEntry_runs⟩

end Sys2Proof.Machine
end

/-! # The USB port (O52, chapter 14)

Attachment, packets and feedback. -/

section
namespace Sys2Proof.Machine

open Sys2Proof


variable {s u v w : State} {t : Nat}

/-! ### Attachment, reset, suspend (R307, R311 to R313) -/

theorem usbAttach_vbus (s : State) : (usbAttach s).usb.vbus = s.usb.vbus := by
  unfold usbAttach
  dsimp only
  split <;> rfl

/-- What a device attaches by does not lie in its own attachment. -/
theorem usbMayAttach_usbAttach (s : State) : usbMayAttach (usbAttach s) = usbMayAttach s := by
  unfold usbAttach
  dsimp only
  split <;> rfl

theorem usbAttach_attached (s : State) : (usbAttach s).usb.attached = usbMayAttach (usbAttach s) := by
  rw [usbMayAttach_usbAttach]
  unfold usbAttach
  dsimp only
  split
  next h => exact h.symm
  · rfl

theorem usbMayAttach_of_low (h : s.usb.vbus = false) : usbMayAttach s = false := by simp [usbMayAttach, h]

theorem usbMayAttach_raise (code : BitVec 16) (unit : Nat) (detail : List Byte) (s : State) :
    usbMayAttach (raise code unit detail s) = usbMayAttach s := by
  unfold usbMayAttach portsLvl role inMode lvlD lvl
  rw [raise_usb, raise_blocks, raise_straps, raise_start]

theorem usbVbusChange_runs {high : Bool} : Runs (.usbVbusChange t high) s fun u =>
    u.usb.vbus = high ∧ u.usb.attached = usbMayAttach u ∧ (high = false → u.usb.attached = false) := by
  rw [runs_iff]
  show Answers (execUsbVbusChange t high s) _
  unfold execUsbVbusChange
  dsimp only
  generalize mediaNow (s.upTo t) = m
  obtain ⟨x, hx⟩ : ∃ x, ({ m with usb := { m.usb with vbus := high } } : State) = x := ⟨_, rfl⟩
  have hvbus : (usbAttach x).usb.vbus = high := (usbAttach_vbus x).trans (by rw [← hx])
  have key : ∀ u : State, u.usb = (usbAttach x).usb → usbMayAttach u = usbMayAttach (usbAttach x) →
      u.usb.vbus = high ∧ u.usb.attached = usbMayAttach u ∧ (high = false → u.usb.attached = false) := by
    intro u husb hmay
    rw [husb, hmay, usbAttach_attached]
    exact ⟨hvbus, rfl, fun hlow => usbMayAttach_of_low (hvbus.trans hlow)⟩
  rw [hx]
  split
  · rw [answers_next]
    split
    · exact key _ (raise_usb ..) (usbMayAttach_raise ..)
    · exact key _ rfl rfl
  · exact key _ rfl rfl

theorem usbBusReset_runs {full dataDone : Bool} (hattached : (mediaNow (s.upTo t)).usb.attached = true) :
    Runs (.usbBusReset t full dataDone) s fun u =>
      u.usb.full = full ∧ u.usb.config = 0 ∧ u.usb.alt1 = 0 ∧ u.usb.alt2 = 0 ∧ u.usb.xfer = none ∧ u.usb.address = 0
        ∧ u.usb.attached = true := by
  rw [runs_iff]
  show Answers (execUsbBusReset t full dataDone s) _
  unfold execUsbBusReset
  dsimp only
  rw [if_neg (by rw [hattached]; decide)]
  split
  · rw [answers_next, raise_usb]
    exact ⟨rfl, rfl, rfl, rfl, rfl, rfl, hattached⟩
  · exact ⟨rfl, rfl, rfl, rfl, rfl, rfl, hattached⟩

theorem controlStatusComplete_runs {x : CtrlXfer} (hx : (mediaNow (s.upTo t)).usb.xfer = some x) : Runs (.controlStatusComplete t) s fun u =>
    u.usb.xfer = none ∧ (∀ c, x.effect = .config c → u.usb.config = c ∧ u.usb.alt1 = 0 ∧ u.usb.alt2 = 0 ∧ u.usb.buf = [])
      ∧ (∀ a, x.effect = .address a → u.usb.address = a) ∧ (∀ a, x.effect = .alt 1 a → u.usb.alt1 = a ∧ u.usb.buf = [])
      ∧ (∀ a, x.effect = .alt 2 a → u.usb.alt2 = a) := by
  rw [runs_iff]
  show Answers (execControlStatusComplete t s) _
  unfold execControlStatusComplete
  dsimp only
  rw [hx]
  refine ⟨rfl, fun c h => ?_, fun a h => ?_, fun a h => ?_, fun a h => ?_⟩ <;> dsimp only <;> rw [h]
  · exact ⟨rfl, rfl, rfl, rfl⟩
  · rfl
  · exact ⟨rfl, rfl⟩
  · rfl

theorem usbSuspend_runs (hattached : (mediaNow (s.upTo t)).usb.attached = true) : Runs (.usbSuspend t) s fun u =>
    u.usb.suspended = true ∧ u.usb.attached = true := by
  rw [runs_iff]
  show Answers (execUsbSuspend t s) _
  unfold execUsbSuspend
  dsimp only
  rw [if_pos hattached]
  exact ⟨rfl, hattached⟩

theorem usbResume_runs (hsuspended : (mediaNow (s.upTo t)).usb.suspended = true) : Runs (.usbResume t) s fun u =>
    u.usb.suspended = false ∧ u.usb.buf = [] ∧ u.usb.filling = true := by
  rw [runs_iff]
  show Answers (execUsbResume t s) _
  unfold execUsbResume
  dsimp only
  rw [if_pos hsuspended]
  exact ⟨rfl, rfl, rfl⟩

/-! ### Packets, SOFs and feedback (R314, R317 to R319) -/

/-- What the host has chosen, which the media's instants leave. -/
def Usb.chosen (u : Usb) : Bool × Nat × Nat × Bool × Bool := (u.attached, u.config, u.alt1, u.suspended, u.full)

theorem usbFault_usb (under over_ thrown : Nat) (s : State) : ∃ a b c, (usbFault under over_ thrown s).usb = { s.usb with under := a, over_ := b, thrown := c } := by
  unfold usbFault
  dsimp only
  rw [raiseCount_usb]
  dsimp only
  split
  · exact ⟨_, _, _, rfl⟩
  · exact ⟨_, _, _, rfl⟩

theorem usbInstant_chosen (s : State) : (usbInstant s).usb.chosen = s.usb.chosen := by
  unfold usbInstant
  dsimp only
  split
  · rfl
  · split
    · rfl
    · split
      · rfl
      · split
        · rfl
        · obtain ⟨_, _, _, h⟩ := usbFault_usb 1 0 0 { s with usb := { s.usb with
            filling := false, got := s.usb.got ++ [(List.range (usbChannels (portsLvl s))).map (fun k => (⟨(s.usb.lastOut[k]?).getD 0, true⟩ : Sample))] } }
          rw [h]
          rfl

theorem mediaInstant_chosen (s : State) (k : Nat) : (mediaInstant s k).usb.chosen = s.usb.chosen := by
  have husb : (tdmInstant k (tdmInstant k s 0) 1).usb = s.usb :=
    (usb_of_allBut (tdmInstant_view _ _ _ rfl)).trans (usb_of_allBut (tdmInstant_view _ _ _ rfl))
  have hinstant := usbInstant_chosen (tdmInstant k (tdmInstant k s 0) 1)
  rw [husb] at hinstant
  unfold mediaInstant
  generalize usbInstant (tdmInstant k (tdmInstant k s 0) 1) = y at hinstant ⊢
  exact hinstant

theorem mediaNow_chosen (s : State) : (mediaNow s).usb.chosen = s.usb.chosen := by
  unfold mediaNow mediaTo
  split
  · exact foldl_keeps (fun y : State => y.usb.chosen) _ mediaInstant_chosen _ s
  · rfl

theorem usbOutPacket_exec {b : List (BitVec 8)} (hon : usbOutOn (mediaNow (s.upTo t)) = true) (hfull : (mediaNow (s.upTo t)).usb.full = false)
    (hrunning : sysStopped s = false) : exec (.usbOutPacket t b) s = .next (takePacket b (s.upTo t)) := by
  obtain ⟨v, hv, h⟩ := s.exists_upTo t
  have hchosen := mediaNow_chosen v
  simp only [Usb.chosen, Prod.mk.injEq] at hchosen
  obtain ⟨hattached, hconfig, halt, hsuspended, hfull'⟩ := hchosen
  rw [hv] at hon hfull
  have hon' : usbOutOn v = true := by
    rw [← hon]
    simp only [usbOutOn, hattached, hconfig, halt, hsuspended]
  show execUsbOutPacket t b s = _
  unfold execUsbOutPacket crossIn
  dsimp only
  rw [hv, hon', ← hfull', hfull, if_pos (by rfl), h.sysStopped, hrunning, if_neg Bool.false_ne_true]

theorem usbFault_buf (under over_ thrown : Nat) (s : State) : (usbFault under over_ thrown s).usb.buf = s.usb.buf := by
  obtain ⟨_, _, _, h⟩ := usbFault_usb under over_ thrown s
  rw [h]

section Packet

variable {b : List (BitVec 8)} (hon : usbOutOn (mediaNow (s.upTo t)) = true) (hfull : (mediaNow (s.upTo t)).usb.full = false)
  (hrunning : sysStopped s = false)
include hon hfull hrunning

theorem usbOutPacket_runs_spoiled (hbad : maxPacket (usbChannels (portsLvl (mediaNow (s.upTo t)))) (mediaNow (s.upTo t)).usb.alt1 < b.length
      ∨ b.length % (usbChannels (portsLvl (mediaNow (s.upTo t))) * subslot (mediaNow (s.upTo t)).usb.alt1) ≠ 0) :
    Runs (.usbOutPacket t b) s fun v => v.usb.buf = (mediaNow (s.upTo t)).usb.buf := by
  refine ⟨_, usbOutPacket_exec hon hfull hrunning, ?_⟩
  unfold takePacket
  dsimp only
  rw [if_pos (by simpa using hbad), usbFault_buf]

theorem usbOutPacket_runs_good (hlength : b.length ≤ maxPacket (usbChannels (portsLvl (mediaNow (s.upTo t)))) (mediaNow (s.upTo t)).usb.alt1)
    (hwhole : b.length % (usbChannels (portsLvl (mediaNow (s.upTo t))) * subslot (mediaNow (s.upTo t)).usb.alt1) = 0) :
    let m := mediaNow (s.upTo t)
    let u := usbChannels (portsLvl m)
    Runs (.usbOutPacket t b) s fun v =>
      v.usb.buf = (m.usb.buf ++ packetFrames u m.usb.alt1 b).drop ((m.usb.buf ++ packetFrames u m.usb.alt1 b).length - usbRoom m.well.rate)
        ∧ v.usb.buf.length ≤ usbRoom m.well.rate := by
  refine ⟨_, usbOutPacket_exec hon hfull hrunning, ?_⟩
  unfold takePacket
  dsimp only
  rw [if_neg (by simp [Nat.not_lt.mpr hlength, hwhole])]
  generalize mediaNow (s.upTo t) = m
  generalize m.usb.buf ++ packetFrames (usbChannels (portsLvl m)) m.usb.alt1 b = q
  have key : ∀ x : State, x.usb.buf = q.drop (q.length - usbRoom m.well.rate) →
      x.usb.buf = q.drop (q.length - usbRoom m.well.rate) ∧ x.usb.buf.length ≤ usbRoom m.well.rate := by
    intro x hx
    refine ⟨hx, ?_⟩
    rw [hx, List.length_drop]
    omega
  exact key _ (holds_ite (p := fun x : State => x.usb.buf = q.drop (q.length - usbRoom m.well.rate)) rfl (usbFault_buf ..))

end Packet

theorem usbSof_runs (hattached : (mediaNow (s.upTo t)).usb.attached = true) : Runs (.usbSof t) s fun u =>
    u.usb.sofs = (mediaNow (s.upTo t)).usb.sofs + 1 ∧ u.usb.media = 0 ∧ u.usb.inPacket.length ≤ 13
      ∧ u.usb.counts.length ≤ 1024 := by
  rw [runs_iff]
  show Answers (execUsbSof t s) _
  unfold execUsbSof
  dsimp only
  generalize mediaNow (s.upTo t) = m at hattached ⊢
  rw [if_neg (by rw [hattached]; decide)]
  refine holds_ite (p := fun u : State => u.usb.sofs = m.usb.sofs + 1 ∧ u.usb.media = 0 ∧ u.usb.inPacket.length ≤ 13 ∧ u.usb.counts.length ≤ 1024)
    ⟨rfl, rfl, ?_, List.length_take_le ..⟩ ⟨rfl, rfl, Nat.zero_le _, List.length_take_le ..⟩
  dsimp only
  rw [List.length_map, List.length_drop]
  omega

theorem feedbackUpdate_runs (hattached : (mediaNow (s.upTo t)).usb.attached = true) (halt : (mediaNow (s.upTo t)).usb.alt1 ≠ 0)
    (hsofs : 8 ≤ (mediaNow (s.upTo t)).usb.sofs) (hsince : 1024 ≤ (mediaNow (s.upTo t)).usb.sinceAlt) :
    let m := mediaNow (s.upTo t)
    Runs (.feedbackUpdate t) s fun u =>
      u.usb.sofs = 0 ∧ 64 * m.usb.counts.foldl (· + ·) 0 ≤ u.usb.feedback + 256
        ∧ u.usb.feedback ≤ 64 * m.usb.counts.foldl (· + ·) 0 + 256
        ∧ (m.usb.buf.length = usbTarget m.well.rate → u.usb.feedback = 64 * m.usb.counts.foldl (· + ·) 0) := by
  intro m
  rw [runs_iff]
  show Answers (execFeedbackUpdate t s) _
  unfold execFeedbackUpdate
  dsimp only
  rw [if_neg (by simp [hattached, halt, Nat.not_lt.mpr hsofs]), answers_next, if_neg (Nat.not_lt.mpr hsince)]
  show _ ∧ 64 * (mediaNow (s.upTo t)).usb.counts.foldl (· + ·) 0 ≤ _ ∧ _ ≤ 64 * (mediaNow (s.upTo t)).usb.counts.foldl (· + ·) 0 + 256
    ∧ (_ → _ = 64 * (mediaNow (s.upTo t)).usb.counts.foldl (· + ·) 0)
  generalize 64 * (mediaNow (s.upTo t)).usb.counts.foldl (· + ·) 0 = n
  refine ⟨rfl, ?_, ?_, fun hlevel => ?_⟩ <;> dsimp only
  · omega
  · omega
  · rw [show (mediaNow (s.upTo t)).usb.buf.length = usbTarget (mediaNow (s.upTo t)).well.rate from hlevel]
    omega

/-- Settles O52: attachment, reset and suspension of the port, the control transfer's end, packets, frames and feedback. -/
theorem usbBusRuns : Obligations.UsbBusRuns :=
  ⟨fun _ _ _ => usbVbusChange_runs, fun _ _ _ _ => usbBusReset_runs, fun _ _ _ => controlStatusComplete_runs, fun _ _ => usbSuspend_runs,
    fun _ _ => usbResume_runs,
    fun _ _ _ hon hfull hrunning => ⟨usbOutPacket_runs_spoiled hon hfull hrunning, usbOutPacket_runs_good hon hfull hrunning⟩,
    fun _ _ => usbSof_runs, fun _ _ => feedbackUpdate_runs⟩

end Sys2Proof.Machine
end

/-! # USB control requests (O53, chapter 14)

Each request by its fields. -/

section
namespace Sys2Proof.Machine

open Sys2Proof


variable {s u v w : State} {t : Nat}

/-! ### USB control requests (R309, R315, R316) -/

/-- A request to an attached device does its work on the state at its instant, where the port is as it was. -/
theorem usbRequest_runs {c : Instr} {k : State → State} {p : State → Prop} (hexec : exec c s = .next (usbRequest t k s))
    (hattached : s.usb.attached = true) (hk : ∀ v, Elapsed s t v → p (k v)) : Runs c s p := by
  obtain ⟨v, hv, h⟩ := s.exists_upTo t
  refine ⟨_, hexec, ?_⟩
  unfold usbRequest
  dsimp only
  rw [hv, h.usb, if_pos hattached]
  exact hk v h

section Requests

variable (hattached : s.usb.attached = true)
include hattached

theorem standardDeviceRequest_runs_descriptor {p : UsbSetup} (htype : p.bmType = 0x80#8) (hrequest : p.bRequest = 6#8) (hvalue : p.value = 0x0100#16) :
    Runs (.standardDeviceRequest t p) s fun u =>
      u.usb.reply = some (deviceDescriptor.take p.length.toNat) ∧ u.usb.config = s.usb.config := by
  refine usbRequest_runs rfl hattached fun v h => ?_
  unfold standardRequest
  rw [htype, hrequest, hvalue]
  exact ⟨rfl, (congrArg Usb.config h.usb :)⟩

theorem standardDeviceRequest_runs_configuration {p : UsbSetup} (htype : p.bmType = 0x80#8) (hrequest : p.bRequest = 8#8) :
    Runs (.standardDeviceRequest t p) s fun u => u.usb.reply = some ((le 1 s.usb.config).take p.length.toNat) := by
  refine usbRequest_runs rfl hattached fun v h => ?_
  unfold standardRequest
  rw [htype, hrequest, h.usb]
  rfl

theorem standardDeviceRequest_runs_address {p : UsbSetup} (htype : p.bmType = 0x00#8) (hrequest : p.bRequest = 5#8)
    (hvalue : p.value.toNat ≤ 127) : Runs (.standardDeviceRequest t p) s fun u =>
      u.usb.reply = some [] ∧ u.usb.xfer.map (·.effect) = some (.address p.value.toNat) ∧ u.usb.address = s.usb.address := by
  refine usbRequest_runs rfl hattached fun v h => ?_
  have hrequest' : standardRequest p v = usbAccept 0x00#8 5#8 (.address p.value.toNat) v := by
    unfold standardRequest
    rw [htype, hrequest]
    exact if_pos hvalue
  rw [hrequest']
  exact ⟨rfl, rfl, (congrArg Usb.address h.usb :)⟩

theorem setFeatureRemoteWakeup_runs : Runs (.setFeatureRemoteWakeup t) s fun u => u.usb.reply = none ∧ u.usb.xfer = none :=
  usbRequest_runs rfl hattached fun _ _ => ⟨rfl, rfl⟩

theorem unsupportedUsbRequest_runs (p : UsbSetup) : Runs (.unsupportedUsbRequest t p) s fun u =>
    u.usb.reply = none ∧ u.usb.xfer = none ∧ u.usb.config = s.usb.config :=
  usbRequest_runs rfl hattached fun _ h => ⟨rfl, rfl, (congrArg Usb.config h.usb :)⟩

theorem setFeatureTestMode_runs {i : BitVec 16} (haligned : i.toNat % 256 = 0) (hlow : 1 ≤ i.toNat / 256) (hhigh : i.toNat / 256 ≤ 5) :
    Runs (.setFeatureTestMode t i) s fun u => u.usb.reply = some [] ∧ u.usb.xfer.map (·.effect) = some (.test (i.toNat / 256)) := by
  refine usbRequest_runs rfl hattached fun v _ => ?_
  unfold setTestMode
  dsimp only
  rw [if_pos ⟨haligned, hlow, hhigh⟩]
  exact ⟨rfl, rfl⟩

theorem setFeatureTestMode_runs_stalled {i : BitVec 16} (haligned : i.toNat % 256 ≠ 0) : Runs (.setFeatureTestMode t i) s fun u =>
    u.usb.reply = none ∧ u.usb.xfer = none := by
  refine usbRequest_runs rfl hattached fun v _ => ?_
  unfold setTestMode
  dsimp only
  rw [if_neg (fun h => haligned h.1)]
  exact ⟨rfl, rfl⟩

theorem setConfiguration_runs {c : BitVec 16} (hc : c.toNat ≤ 1) : Runs (.setConfiguration t c) s fun u =>
    u.usb.reply = some [] ∧ u.usb.xfer.map (·.effect) = some (.config c.toNat) ∧ u.usb.config = s.usb.config := by
  refine usbRequest_runs rfl hattached fun v h => ?_
  unfold setConfiguration
  rw [if_pos hc]
  exact ⟨rfl, rfl, (congrArg Usb.config h.usb :)⟩

theorem setConfiguration_runs_stalled {c : BitVec 16} (hc : 1 < c.toNat) : Runs (.setConfiguration t c) s fun u =>
    u.usb.reply = none ∧ u.usb.config = s.usb.config := by
  refine usbRequest_runs rfl hattached fun v h => ?_
  unfold setConfiguration
  rw [if_neg (Nat.not_le.mpr hc)]
  exact ⟨rfl, (congrArg Usb.config h.usb :)⟩

theorem setInterface_runs {itf alt : BitVec 16} (hitf : itf.toNat = 1 ∨ itf.toNat = 2) (halt : alt.toNat ≤ if s.usb.full then 0 else 2) :
    Runs (.setInterface t itf alt) s fun u => u.usb.reply = some [] ∧ u.usb.xfer.map (·.effect) = some (.alt itf.toNat alt.toNat) := by
  refine usbRequest_runs rfl hattached fun v h => ?_
  unfold setInterface
  rw [h.usb, if_pos ⟨hitf, halt⟩]
  exact ⟨rfl, rfl⟩

theorem setInterface_runs_stalled {itf alt : BitVec 16} (halt : (if s.usb.full then 0 else 2) < alt.toNat) :
    Runs (.setInterface t itf alt) s fun u => u.usb.reply = none := by
  refine usbRequest_runs rfl hattached fun v h => ?_
  unfold setInterface
  rw [h.usb, if_neg (fun k => Nat.not_le.mpr halt k.2)]
  rfl

theorem getCurFrequency_runs : Runs (.getCurFrequency t) s fun u => u.usb.reply = some (le 4 s.well.rate) :=
  usbRequest_runs rfl hattached fun v h => by rw [h.well]; rfl

theorem getRangeFrequency_runs : Runs (.getRangeFrequency t) s fun u =>
    u.usb.reply = some (le 2 1 ++ le 4 s.well.rate ++ le 4 s.well.rate ++ le 4 0) :=
  usbRequest_runs rfl hattached fun v h => by rw [h.well]; rfl

theorem getCurValidity_runs : Runs (.getCurValidity t) s fun u => u.usb.reply = some [1#8] :=
  usbRequest_runs rfl hattached fun _ _ => rfl

theorem setCurFrequency_runs {hz : BitVec 32} (hhz : hz.toNat = s.well.rate) : Runs (.setCurFrequency t hz) s fun u => u.usb.reply = some [] := by
  refine usbRequest_runs rfl hattached fun v h => ?_
  rw [h.well, if_pos hhz]

theorem setCurFrequency_runs_stalled {hz : BitVec 32} (hhz : hz.toNat ≠ s.well.rate) : Runs (.setCurFrequency t hz) s fun u =>
    u.usb.reply = none ∧ u.usb.xfer = none := by
  refine usbRequest_runs rfl hattached fun v h => ?_
  rw [h.well, if_neg hhz, raise_usb]
  exact ⟨rfl, rfl⟩

end Requests

/-- Settles O53: each request by its fields and the state of the port. -/
theorem usbRequestsRun : Obligations.UsbRequestsRun :=
  ⟨fun _ _ _ hattached => ⟨standardDeviceRequest_runs_descriptor hattached, standardDeviceRequest_runs_configuration hattached,
      standardDeviceRequest_runs_address hattached⟩,
    fun _ _ => setFeatureRemoteWakeup_runs, fun _ _ p hattached => unsupportedUsbRequest_runs hattached p,
    fun _ _ _ hattached => ⟨setFeatureTestMode_runs hattached, setFeatureTestMode_runs_stalled hattached⟩,
    fun _ _ _ hattached => ⟨setConfiguration_runs hattached, setConfiguration_runs_stalled hattached⟩,
    fun _ _ _ _ hattached hitf => ⟨setInterface_runs hattached hitf, setInterface_runs_stalled hattached⟩,
    fun _ _ hattached => ⟨getCurFrequency_runs hattached, getRangeFrequency_runs hattached, getCurValidity_runs hattached⟩,
    fun _ _ _ hattached => ⟨setCurFrequency_runs hattached, setCurFrequency_runs_stalled hattached⟩⟩

end Sys2Proof.Machine
end

/-! # Thresher (O54, chapters 16 to 18)

The self-check, jobs and their states, the visibility of outputs, the lane. -/

section
namespace Sys2Proof.Machine

open Sys2Proof


variable {s u v w : State} {t : Nat} {k : Fin 16}

/-! ### The self-check (R363, R364) -/

theorem columnsSpent_thr (n : Nat) (s : State) : (columnsSpent n s).thr = s.thr := by
  unfold columnsSpent
  split
  · exact raise_thr ..
  · rfl

/-- A column that fails at a start enters the list of retired columns, in column order (R363). -/
theorem retireAtStart_retired {c : Fin 66} (hc : c ∉ s.thr.retired) :
    (retireAtStart s c).thr.retired = insertColumn c s.thr.retired := by
  unfold retireAtStart
  rw [if_neg (by simp [hc])]
  dsimp only
  split
  · exact congrArg Thresher.retired (columnsSpent_thr _ _)
  · exact congrArg Thresher.retired (raise_thr ..)

theorem length_insertColumn (c : Fin 66) (l : List (Fin 66)) : (insertColumn c l).length = l.length + 1 := by
  induction l with
  | nil => rfl
  | cons x l ih =>
    unfold insertColumn
    split
    · rfl
    · rw [List.length_cons, ih, List.length_cons]

theorem mem_insertColumn_iff {c x : Fin 66} {l : List (Fin 66)} : x ∈ insertColumn c l ↔ x = c ∨ x ∈ l := by
  induction l with
  | nil => simp [insertColumn]
  | cons y l ih =>
    unfold insertColumn
    split
    · simp
    · rw [List.mem_cons, ih, List.mem_cons]
      exact or_left_comm

theorem thresherSelfCheck_runs (hawake : awake s = true) (hmode : s.start.mode = none) (hloft : s.start.loftDone = true)
    (hcheck : s.start.checkDone = false) :
    (s.thr.retired.length ≤ 2 → Runs (.thresherSelfCheck t []) s fun u =>
      u.start.checkDone = true ∧ u.thr.retired = s.thr.retired)
    ∧ (∀ c, c ∉ s.thr.retired → s.thr.retired.length ≤ 1 → Runs (.thresherSelfCheck t [c]) s fun u =>
      u.start.checkDone = true ∧ u.thr.retired = insertColumn c s.thr.retired)
    ∧ (2 < s.thr.retired.length → Runs (.thresherSelfCheck t []) s fun u =>
      u.start.phase = .held ∧ u.start.cause = .startStepFailure ∧ u.aon.last3[0] = 0xF005#16
        ∧ u.thr.retired = s.thr.retired) := by
  obtain ⟨v, hv, h⟩ := s.exists_upTo t
  have hdue : (!awake v || v.start.mode.isSome || !v.start.loftDone || v.start.checkDone) = false := by
    simp [h.awake, hawake, h.start, hmode, hloft, hcheck]
  refine ⟨fun hfew => ?_, fun c hc hfew => ?_, fun hmany => ?_⟩
  · rw [runs_iff]
    show Answers (execThresherSelfCheck t [] s) _
    unfold execThresherSelfCheck
    dsimp only
    rw [hv, if_neg (by simp [hdue]), List.foldl_nil, if_neg (by rw [h.thr]; omega), answers_next]
    exact ⟨rfl, congrArg Thresher.retired h.thr⟩
  · have hretired : (retireAtStart v c).thr.retired = insertColumn c s.thr.retired := by
      rw [retireAtStart_retired (h.thr ▸ hc), h.thr]
    rw [runs_iff]
    show Answers (execThresherSelfCheck t [c] s) _
    unfold execThresherSelfCheck
    dsimp only
    rw [hv, if_neg (by simp [hdue]), List.foldl_cons, List.foldl_nil,
      if_neg (by rw [hretired, length_insertColumn]; omega), answers_next]
    exact ⟨rfl, hretired⟩
  · rw [runs_iff]
    show Answers (execThresherSelfCheck t [] s) _
    unfold execThresherSelfCheck
    dsimp only
    rw [hv, if_neg (by simp [hdue]), List.foldl_nil, if_pos (by rw [h.thr]; exact hmany), answers_next]
    refine ⟨rfl, rfl, ?_, ?_⟩
    · show (countFailed _ _).aon.last3[0] = _
      simp
    · show (countFailed _ _).thr.retired = _
      rw [countFailed_thr, raise_thr, h.thr]

theorem retireInService_retired (c : Fin 66) (s : State) :
    (retireInService s c).thr.retired = if s.thr.retired.contains c then s.thr.retired else insertColumn c s.thr.retired := by
  unfold retireInService
  split
  · rfl
  · dsimp only
    split
    · rw [makeDue_thr]
      dsimp only
      rw [columnsSpent_thr, repairEvent_thr, raise_thr]
    · rw [makeDue_thr, raise_thr]

theorem mem_retireInService {c x : Fin 66} : x ∈ (retireInService s c).thr.retired ↔ x = c ∨ x ∈ s.thr.retired := by
  rw [retireInService_retired]
  split
  case isTrue hmem =>
    have hmem : c ∈ s.thr.retired := by simpa using hmem
    exact ⟨.inr, fun h => h.elim (fun e => e ▸ hmem) id⟩
  case isFalse => exact mem_insertColumn_iff

/-- What the self-check in service does with the columns it finds failing. -/
def retireFailing (failing : List (Fin 66)) (s : State) (x : Fin 66) : State := if failing.contains x then retireInService s x else s

theorem mem_foldl_retireFailing {failing l : List (Fin 66)} {x : Fin 66} :
    x ∈ (l.foldl (retireFailing failing) s).thr.retired ↔ (x ∈ l ∧ x ∈ failing) ∨ x ∈ s.thr.retired := by
  induction l generalizing s with
  | nil => simp
  | cons c l ih =>
    rw [List.foldl_cons, ih]
    unfold retireFailing
    split
    case isTrue hmem =>
      have hc : c ∈ failing := by simpa using hmem
      rw [mem_retireInService, List.mem_cons]
      constructor
      · rintro (⟨h, k⟩ | rfl | h)
        exacts [.inl ⟨.inr h, k⟩, .inl ⟨.inl rfl, hc⟩, .inr h]
      · rintro (⟨rfl | h, k⟩ | h)
        exacts [.inr (.inl rfl), .inl ⟨h, k⟩, .inr (.inr h)]
    case isFalse hmem =>
      have hc : c ∉ failing := by simpa using hmem
      rw [List.mem_cons]
      constructor
      · rintro (⟨h, k⟩ | h)
        exacts [.inl ⟨.inr h, k⟩, .inr h]
      · rintro (⟨rfl | h, k⟩ | h)
        exacts [absurd k hc, .inl ⟨h, k⟩, .inr h]

theorem foldl_retireFailing_now (failing l : List (Fin 66)) (s : State) : (l.foldl (retireFailing failing) s).now = s.now :=
  foldl_keeps State.now _ (fun s c => by
    unfold retireFailing
    split
    · exact now_of_view (P := allBut []) (retireInService_view _ _ rfl)
    · rfl) l s

theorem foldl_retireFailing_nil (l : List (Fin 66)) (s : State) : l.foldl (retireFailing []) s = s :=
  foldl_keeps id _ (fun _ _ => rfl) l s

theorem selfCheckPass_runs {c : Nat} {failing : List (Fin 66)} (hat : s.thr.checkAt = some c) (hsafe : inMode .safe s = false)
    (hslumber : inMode .slumber s = false) (hmode : s.start.mode.isSome = true) : Runs (.selfCheckPass failing) s fun u =>
      u.thr.checkAt = some (c + 600 * sec1) ∧ (∀ x ∈ failing, x ∈ u.thr.retired) ∧ u.now = max s.now c
        ∧ (failing = [] → u.thr.retired = s.thr.retired ∧ u.blocks.due = s.blocks.due) := by
  obtain ⟨v, hv, h⟩ := s.exists_upTo c
  rw [runs_iff]
  show Answers (execSelfCheckPass failing s) _
  unfold execSelfCheckPass
  rw [hat]
  dsimp only
  rw [if_neg (by simpa [Option.isSome_iff_ne_none] using hmode), if_neg (by rw [hsafe, hslumber]; decide), hv, answers_next]
  refine ⟨?_, fun x hx => mem_foldl_retireFailing.mpr (.inl ⟨List.mem_finRange x, hx⟩),
    (foldl_retireFailing_now failing ..).trans h.now, ?_⟩
  · exact foldl_keeps (fun s => s.thr.checkAt) (retireFailing failing) (fun s c => by
      unfold retireFailing
      split
      · unfold retireInService
        split
        · rfl
        · dsimp only
          split
          · rw [makeDue_thr]
            dsimp only
            rw [columnsSpent_thr, repairEvent_thr, raise_thr]
          · rw [makeDue_thr, raise_thr]
      · rfl) _ _
  · rintro rfl
    have hnone := foldl_retireFailing_nil (List.finRange 66) { v with thr := { v.thr with checkAt := some (c + 600 * sec1) } }
    exact ⟨(congrArg (fun s => s.thr.retired) hnone).trans (congrArg Thresher.retired h.thr),
      (congrArg (fun s => s.blocks.due) hnone).trans (congrArg Blocks.due h.blocks)⟩

/-! ### Jobs and their window (R378, R383) -/

@[simp] theorem mapCtx_jobs (f : Ctx → Ctx) (s : State) : (mapCtx k f s).thr.jobs = s.thr.jobs := rfl

@[simp] theorem sendBank_thr (k : Nat) (b : List Byte) (s : State) : (sendBank k b s).thr = s.thr :=
  thr_of_allBut (sendBank_view _ _ _ rfl)

@[simp] theorem commitState_jobs (block : Nat) (b : List Byte) (s : State) :
    (commitState k block b s).thr.jobs = s.thr.jobs := by
  unfold commitState
  split
  · rfl
  · rw [mapCtx_jobs, sendBank_thr]

@[simp] theorem plantJob_thr (s : State) : (plantJob s).thr = s.thr := thr_of_allBut (plantJob_view _ rfl)

@[simp] theorem withdrawLane_jobs (cause : Nat) (s : State) : (withdrawLane cause s).thr.jobs = s.thr.jobs := by
  unfold withdrawLane
  dsimp only
  rw [raise_thr]

@[simp] theorem settleRecompute_jobs (d : CtxDesc) (j : Job) (outs : List StepOut) (s : State) :
    (settleRecompute d j outs s).thr.jobs = s.thr.jobs := by
  unfold settleRecompute
  dsimp only
  split
  · split
    · split
      · exact withdrawLane_jobs ..
      · rfl
    · rfl
  · rfl

/-- The jobs of a context in a slot are done. -/
def jobsDone (ctx : Nat) (rerun : Bool) (l : List Job) : Bool := l.all (fun x => !(x.ctx == ctx && x.rerun == rerun) || x.done)

theorem setJob_jobsDone (j : Job) (s : State) :
    jobsDone j.ctx j.rerun (setJob { j with done := true } s).thr.jobs = true := by
  unfold jobsDone setJob
  rw [List.all_map, List.all_eq_true]
  intro x _
  dsimp only [Function.comp]
  split
  case isTrue => simp
  case isFalse hother => rw [Bool.not_eq_true] at hother; rw [hother]; rfl

theorem feedRerun_jobsDone (ctx k : Nat) (rerun : Bool) (b : List Byte) (l : List Job) :
    jobsDone ctx rerun (feedRerun k b l) = jobsDone ctx rerun l := by
  unfold jobsDone feedRerun
  rw [List.all_map]
  congr 1
  funext x
  dsimp only [Function.comp]
  split <;> rfl

/-- A completed job is done, and the window's other jobs stay in it (R383). -/
theorem finishJob_jobs (j : Job) (h0 : List Byte) (s : State) :
    (finishJob j h0 s).thr.jobs.length = s.thr.jobs.length ∧ jobsDone j.ctx j.rerun (finishJob j h0 s).thr.jobs = true := by
  have hlength : (setJob { j with done := true } s).thr.jobs.length = s.thr.jobs.length := List.length_map ..
  have hdone := setJob_jobsDone j s
  unfold finishJob
  dsimp only
  generalize setJob { j with done := true } s = v at *
  split
  · simpa using ⟨hlength, hdone⟩
  · split
    · exact ⟨hlength, hdone⟩
    · split
      · exact ⟨hlength, hdone⟩
      · split
        · rw [settleRecompute_jobs]
          dsimp only
          rw [feedRerun_jobsDone, commitState_jobs]
          exact ⟨(List.length_map ..).trans hlength, hdone⟩
        · rw [commitState_jobs]
          exact ⟨hlength, hdone⟩

theorem jobStart_congr (hthr : v.thr = s.thr) (j : Job) : jobStart v j = jobStart s j := by
  unfold jobStart jobOffset rowCtxs loaded
  rw [hthr]

theorem jobComplete_runs {rerun : Bool} {j : Job} {h0 : List Byte}
    (hj : s.thr.jobs.find? (fun j => j.ctx == k.val && j.rerun == rerun && !j.done) = some j) (hh0 : j.h0 = some h0)
    (hintime : ((s.upTo t).upToDevice (jobStart s j)).gptp.time ≤ windowEnd s) (hblocked : jobBlocked s k = false) :
    Runs (.jobComplete t k rerun) s fun u => u.thr.jobs.length = s.thr.jobs.length
      ∧ u.thr.jobs.all (fun x => !(x.ctx == k.val && x.rerun == rerun) || x.done) = true := by
  obtain ⟨v, hv, h⟩ := s.exists_upTo t
  rw [hv] at hintime
  obtain ⟨w, hw, h'⟩ := v.exists_upToDevice (jobStart s j)
  rw [hw] at hintime
  have hthr : w.thr = s.thr := h'.thr.trans h.thr
  have hendur : w.endur = s.endur := h'.endur.trans h.endur
  have hend : windowEnd w = windowEnd s := by unfold windowEnd; rw [hthr]
  have hfree : jobBlocked w k = false := by
    rw [← hblocked]
    unfold jobBlocked ctxTouches
    rw [hthr, hendur]
  rw [runs_iff]
  show Answers (execJobComplete t k rerun s) _
  unfold execJobComplete
  dsimp only
  rw [hv, h.thr, hj]
  dsimp only
  rw [hh0]
  dsimp only
  rw [jobStart_congr h.thr, hw, if_pos (by simpa [hend, hfree] using hintime), answers_next]
  have hfound := List.find?_some hj
  simp only [Bool.and_eq_true, beq_iff_eq] at hfound
  obtain ⟨⟨hctx, hrerun⟩, -⟩ := hfound
  obtain ⟨hlength, hdone⟩ := finishJob_jobs j h0 w
  rw [hctx, hrerun] at hdone
  exact ⟨hlength.trans (congrArg (·.jobs.length) hthr), hdone⟩

theorem jobDeadlineExpiry_runs (hjobs : s.thr.jobs ≠ []) : Runs .jobDeadlineExpiry s fun u =>
    u.thr.jobs = [] ∧ u.now = (s.upToDevice (windowEnd s)).now := by
  rw [runs_iff]
  show Answers (execJobDeadlineExpiry s) _
  unfold execJobDeadlineExpiry
  rw [if_neg (by simpa using hjobs), answers_next]
  exact ⟨rfl, now_of_view (P := allBut []) (endWindow_view _ rfl)⟩

/-! ### Committed and prefetched states (R383, R414) -/

theorem mapCtx_ctxs_self (f : Ctx → Ctx) (s : State) : (mapCtx k f s).thr.ctxs[k] = f s.thr.ctxs[k] := get_set_fin_self ..

theorem mapCtx_ctxs_ne {k' : Fin 16} (f : Ctx → Ctx) (s : State) (hk : k ≠ k') : (mapCtx k' f s).thr.ctxs[k] = s.thr.ctxs[k] :=
  get_set_fin_ne _ _ hk

theorem stateCommit_runs (hdue : s.thr.ctxs[k].commitDue = true) (hwritten : siloWritten 1 k.val s = true) :
    (s.thr.ctxs[k].waiting = none → Runs (.stateCommit t k) s fun u =>
      u.thr.ctxs[k].commitDue = false ∧ u.thr.ctxs[k].final = none)
    ∧ (∀ b, s.thr.ctxs[k].waiting = some b → Runs (.stateCommit t k) s fun u =>
      u.thr.ctxs[k].waiting = none ∧ u.thr.ctxs[k].final = some b ∧ u.thr.ctxs[k].commitDue = true) := by
  obtain ⟨v, hv, h⟩ := s.exists_upTo t
  have hcommit : v.thr.ctxs[k].commitDue = true := by rw [h.thr]; exact hdue
  have hfree : (!v.thr.ctxs[k].commitDue || !siloWritten 1 k.val v) = false := by rw [hcommit, h.siloWritten, hwritten]; rfl
  refine ⟨fun hwaiting => ?_, fun b hwaiting => ?_⟩
  · rw [runs_iff]
    show Answers (execStateCommit t k s) _
    unfold execStateCommit
    dsimp only
    rw [hv, if_neg (by rw [hfree]; exact Bool.false_ne_true), h.thr, hwaiting]
    dsimp only
    rw [answers_next, mapCtx_ctxs_self]
    exact ⟨rfl, rfl⟩
  · rw [runs_iff]
    show Answers (execStateCommit t k s) _
    unfold execStateCommit
    dsimp only
    rw [hv, if_neg (by rw [hfree]; exact Bool.false_ne_true), h.thr, hwaiting]
    dsimp only
    rw [answers_next, mapCtx_ctxs_self, sendBank_thr]
    exact ⟨rfl, rfl, hcommit⟩

theorem statePrefetch_runs (hrunning : s.blocks.running = true) (hcommit : s.thr.ctxs[k].commitDue = false)
    (hbusy : partBusy s = false) (hh0 : s.thr.ctxs[k].h0 = none)
    (hdue : (k.val == 15 || s.thr.ctxs[k].desc.any (fun d => (sheafAt d (s.blocks.number + 1) s.thr.first).isSome)) = true) :
    Runs (.statePrefetch t k) s fun u => u.thr.ctxs[k].h0 = some (committedState s k.val) ∧ u.mem = s.mem := by
  obtain ⟨v, hv, h⟩ := s.exists_upTo t
  have hpart : partBusy v = partBusy s := by unfold partBusy; rw [h.thr, h.blocks]
  have hstate : committedState v k.val = committedState s k.val := by
    unfold committedState hasState stateSize loaded currentBank
    rw [h.thr, h.mem]
  rw [runs_iff]
  show Answers (execStatePrefetch t k s) _
  unfold execStatePrefetch
  dsimp only
  rw [hv, if_pos (by rw [h.thr, h.blocks, hpart, hbusy, hdue, hrunning, hcommit, hh0]; rfl), answers_next, mapCtx_ctxs_self, hstate]
  exact ⟨rfl, h.mem⟩

/-! ### Visibility and the lane (R393, R398) -/

/-- What a promotion and the lane leave of the contexts: descriptors and outputs. -/
def SameOuts (s u : State) : Prop := ∀ k : Fin 16, u.thr.ctxs[k].desc = s.thr.ctxs[k].desc ∧ u.thr.ctxs[k].outs = s.thr.ctxs[k].outs

theorem SameOuts.trans (h : SameOuts s u) (k : SameOuts u v) : SameOuts s v :=
  fun i => ⟨(k i).1.trans (h i).1, (k i).2.trans (h i).2⟩

theorem SameOuts.of_ctxs (h : u.thr.ctxs = s.thr.ctxs) : SameOuts s u := fun k => by rw [h]; exact ⟨rfl, rfl⟩

theorem mapCtx_sameOuts {f : Ctx → Ctx} (hdesc : ∀ c, (f c).desc = c.desc) (houts : ∀ c, (f c).outs = c.outs) (k : Fin 16) (s : State) :
    SameOuts s (mapCtx k f s) := by
  intro i
  by_cases hi : i = k
  · subst hi
    rw [mapCtx_ctxs_self]
    exact ⟨hdesc _, houts _⟩
  · rw [mapCtx_ctxs_ne _ _ hi]
    exact ⟨rfl, rfl⟩

theorem sameOuts_ite {p : Prop} [Decidable p] (hu : SameOuts s u) (hv : SameOuts s v) : SameOuts s (if p then u else v) := by
  split
  · exact hu
  · exact hv

theorem promote_sameOuts (k : Fin 16) (point : Nat) (s : State) : SameOuts s (promote k point s) := by
  have keep : ∀ (g : Nat) (s : State), SameOuts s (mapCtx k (fun c => { c with rollSec := g }) s) :=
    fun g s => mapCtx_sameOuts (f := fun c => { c with rollSec := g }) (fun _ => rfl) (fun _ => rfl) k s
  unfold promote
  dsimp only
  generalize ha : (if folding 0xF810#16 (be 1 k.val ++ be 1 point) s = true then s else _) = a
  have hsa : SameOuts s a := by
    rw [← ha]
    exact sameOuts_ite (.of_ctxs rfl) (mapCtx_sameOuts (by exact fun _ => rfl) (by exact fun _ => rfl) k s)
  generalize hb : mapCtx k _ a = b
  have hab : SameOuts a b := by
    rw [← hb]
    exact mapCtx_sameOuts (by exact fun _ => rfl) (by exact fun _ => rfl) k a
  generalize hc : raiseCount _ _ _ _ b = c
  have hbc : SameOuts b c := .of_ctxs (by rw [← hc, raiseCount_thr])
  exact hsa.trans (hab.trans (hbc.trans (sameOuts_ite (.of_ctxs rfl) (keep 0 c))))

theorem lane_sameOuts (l : Lane) (s : State) : SameOuts s { s with thr := { s.thr with lane := l } } := .of_ctxs rfl

theorem driveLane_sameOuts (o : StepOut) (s : State) : SameOuts s (driveLane o s) := by
  unfold driveLane
  dsimp only
  split
  · exact lane_sameOuts _ s
  · exact lane_sameOuts _ s

/-- An output as it is once its instant has passed (R393). -/
def StepOut.seen (o : StepOut) : StepOut :=
  { o with shown := true, cls := if o.cls == .speculative then .concealment else o.cls }

/-- The output shown stands in the place it had. -/
theorem showOut_sameOuts (k : Fin 16) (o : StepOut) (s : State) :
    SameOuts (mapCtx k (fun c => { c with outs := c.outs.map (fun x => if x.step == o.step then o.seen else x) }) s)
      (showOut k o s) := by
  unfold showOut StepOut.seen
  dsimp only
  generalize mapCtx k _ s = a
  generalize hb : (if (o.cls == .speculative) = true then promote k _ a else a) = b
  have hab : SameOuts a b := by
    rw [← hb]
    split
    · exact promote_sameOuts k _ a
    · exact .of_ctxs rfl
  refine hab.trans ?_
  split
  · exact .of_ctxs rfl
  · split
    · exact lane_sameOuts _ b
    · split
      · exact driveLane_sameOuts o b
      · exact lane_sameOuts _ b

theorem showOut_number (k : Fin 16) (o : StepOut) (s : State) : (showOut k o s).blocks.number = s.blocks.number :=
  congrArg Blocks.number (blocks_of_allBut (showOut_view _ _ _ rfl))

/-- What one context's instant does (R393): the output due there is shown. -/
def showCtx (s : State) (k : Fin 16) : State :=
  match s.thr.ctxs[k].desc, s.thr.ctxs[k].outs.find? (fun o => o.block == s.blocks.number + 1 && !o.shown) with
  | some d, some o => if d.ahead then showOut k o s else s
  | _, _ => s

theorem showNext_eq (s : State) : showNext s = (List.finRange 16).foldl showCtx s := rfl

theorem showCtx_number (s : State) (k : Fin 16) : (showCtx s k).blocks.number = s.blocks.number := by
  unfold showCtx
  split
  · split
    · exact showOut_number ..
    · rfl
  · rfl

/-- One context's instant leaves the descriptors and outputs of the others. -/
theorem showCtx_ne {i : Fin 16} (hi : i ≠ k) : (showCtx s k).thr.ctxs[i].desc = s.thr.ctxs[i].desc
    ∧ (showCtx s k).thr.ctxs[i].outs = s.thr.ctxs[i].outs := by
  unfold showCtx
  split
  · next d o _ _ =>
    split
    · have hkeep := showOut_sameOuts k o s i
      rwa [mapCtx_ctxs_ne _ _ hi] at hkeep
    · exact ⟨rfl, rfl⟩
  · exact ⟨rfl, rfl⟩

theorem showCtx_self {d : CtxDesc} {o : StepOut} (hd : s.thr.ctxs[k].desc = some d) (hahead : d.ahead = true)
    (ho : s.thr.ctxs[k].outs.find? (fun o => o.block == s.blocks.number + 1 && !o.shown) = some o) :
    o.seen ∈ (showCtx s k).thr.ctxs[k].outs := by
  unfold showCtx
  rw [hd, ho]
  dsimp only
  rw [if_pos hahead, (showOut_sameOuts k o s k).2, mapCtx_ctxs_self]
  exact List.mem_map.mpr ⟨o, List.mem_of_find?_eq_some ho, if_pos (beq_self_eq_true _)⟩

theorem foldl_showCtx_ne {l : List (Fin 16)} (hk : k ∉ l) : (l.foldl showCtx s).thr.ctxs[k].desc = s.thr.ctxs[k].desc
    ∧ (l.foldl showCtx s).thr.ctxs[k].outs = s.thr.ctxs[k].outs := by
  induction l generalizing s with
  | nil => exact ⟨rfl, rfl⟩
  | cons x l ih =>
    rw [List.mem_cons, not_or] at hk
    obtain ⟨hdesc, houts⟩ := ih (s := showCtx s x) hk.2
    obtain ⟨hdesc', houts'⟩ := showCtx_ne (s := s) hk.1
    exact ⟨hdesc.trans hdesc', houts.trans houts'⟩

theorem foldl_showCtx_number (l : List (Fin 16)) (s : State) : (l.foldl showCtx s).blocks.number = s.blocks.number :=
  foldl_keeps (fun s => s.blocks.number) _ showCtx_number l s

theorem showNext_number (s : State) : (showNext s).blocks.number = s.blocks.number := by
  rw [showNext_eq, foldl_showCtx_number]

theorem showNext_seen {d : CtxDesc} {o : StepOut} (hd : s.thr.ctxs[k].desc = some d) (hahead : d.ahead = true)
    (ho : s.thr.ctxs[k].outs.find? (fun o => o.block == s.blocks.number + 1 && !o.shown) = some o) :
    o.seen ∈ (showNext s).thr.ctxs[k].outs := by
  obtain ⟨l₁, l₂, hsplit⟩ := List.append_of_mem (List.mem_finRange k)
  have hnodup := hsplit ▸ List.nodup_finRange 16
  rw [List.nodup_append] at hnodup
  obtain ⟨-, hnodup₂, hdisjoint⟩ := hnodup
  have hk₁ : k ∉ l₁ := fun hmem => hdisjoint k hmem k List.mem_cons_self rfl
  have hk₂ : k ∉ l₂ := (List.nodup_cons.mp hnodup₂).1
  rw [showNext_eq, hsplit, List.foldl_append, List.foldl_cons, (foldl_showCtx_ne hk₂).2]
  obtain ⟨hdesc, houts⟩ := foldl_showCtx_ne (s := s) hk₁
  exact showCtx_self (hdesc.trans hd) hahead (by rw [houts, foldl_showCtx_number]; exact ho)

theorem visibilityInstant_runs (hrunning : s.blocks.running = true) : Runs .visibilityInstant s fun u =>
    u.blocks.number = s.blocks.number ∧ ∀ (k : Fin 16) (d : CtxDesc) (o : StepOut), s.thr.ctxs[k].desc = some d →
      d.ahead = true → s.thr.ctxs[k].outs.find? (fun o => o.block == s.blocks.number + 1 && !o.shown) = some o →
      ∃ x ∈ u.thr.ctxs[k].outs, x.step = o.step ∧ x.shown = true
        ∧ x.cls = if o.cls == .speculative then .concealment else o.cls := by
  rw [runs_iff]
  show Answers (execVisibilityInstant s) _
  unfold execVisibilityInstant
  dsimp only
  obtain ⟨v, hv, h⟩ := s.exists_upToDevice (s.blocks.stamp + thisLen s * 1000000000 / s.well.rate - 250000)
  rw [if_neg (by rw [hrunning]; decide), hv, answers_next]
  refine ⟨(showNext_number v).trans (congrArg Blocks.number h.blocks), fun k d o hd hahead ho => ?_⟩
  exact ⟨o.seen, showNext_seen (h.thr ▸ hd) hahead (by rw [h.thr, h.blocks]; exact ho), rfl, rfl, rfl⟩

theorem laneDriveTimeout_runs {d : Nat} (hdriving : s.thr.lane.driving = some d) (hconfirmed : s.thr.lane.confirmed = false) :
    Runs .laneDriveTimeout s fun u => u.thr.lane.driving = none ∧ u.thr.lane.withdrawn = true
      ∧ u.thr.lane.target = s.thr.lane.committed ∧ u.motor.target = s.thr.lane.committed := by
  obtain ⟨v, hv, h⟩ := s.exists_upToDevice (d + 8 * ms1)
  rw [runs_iff]
  show Answers (execLaneDriveTimeout s) _
  unfold execLaneDriveTimeout
  rw [hdriving]
  dsimp only
  rw [if_neg (by rw [hconfirmed]; decide), hv, answers_next]
  unfold withdrawLane
  dsimp only
  rw [raise_thr, raise_motor, h.thr]
  exact ⟨rfl, rfl, rfl, rfl⟩

/-- Settles O54: the self-check retires what fails, a job that completes is done, states are committed and
prefetched, an output is shown at its instant, and a lane drive that is not confirmed is withdrawn. -/
theorem thresherRuns : Obligations.ThresherRuns :=
  ⟨fun _ _ => thresherSelfCheck_runs, fun _ _ _ _ _ _ => jobComplete_runs, fun _ => jobDeadlineExpiry_runs,
    fun _ _ _ => stateCommit_runs, fun _ _ _ => statePrefetch_runs, fun _ => visibilityInstant_runs,
    fun _ _ => laneDriveTimeout_runs, fun _ _ _ => selfCheckPass_runs⟩

end Sys2Proof.Machine
end

/-! # Boundaries (O55, chapters 1, 3 and 15)

The end of a start, block boundaries, the resumption from SLUMBER. -/

section
namespace Sys2Proof.Machine

open Sys2Proof


variable {s u v w : State} {t : Nat} {x : BoundaryIn}

/-! ### What of the blocks a boundary's work keeps -/

/-- The running block: its number, whether the path runs, its time stamp and what is due. -/
def Blocks.running_ (b : Blocks) : Nat × Bool × Nat × List Due := (b.number, b.running, b.stamp, b.due)

theorem mediaInstant_block (s : State) (k : Nat) : (mediaInstant s k).blocks.running_ = s.blocks.running_ := by
  unfold mediaInstant
  have hblocks : (usbInstant (tdmInstant k (tdmInstant k s 0) 1)).blocks = s.blocks := (blocks_of_allBut (usbInstant_view _ rfl)).trans
    ((blocks_of_allBut (tdmInstant_view _ _ _ rfl)).trans (blocks_of_allBut (tdmInstant_view _ _ _ rfl)))
  rw [← hblocks]
  generalize usbInstant (tdmInstant k (tdmInstant k s 0) 1) = y
  rfl

theorem mediaTo_block (k : Nat) (s : State) : (mediaTo k s).blocks.running_ = s.blocks.running_ := by
  unfold mediaTo
  split
  · exact foldl_keeps (fun s => s.blocks.running_) _ mediaInstant_block _ s
  · rfl

theorem presentStream_block (m : Nat) (s : State) (k : Nat) : (presentStream m s k).blocks.running_ = s.blocks.running_ := by
  have hconceal : ∀ (y z : RxStream) (s : State), (concealFaults y z s).blocks = s.blocks :=
    fun y z s => blocks_of_allBut (concealFaults_view _ _ _ rfl)
  unfold presentStream
  dsimp only
  split
  · rfl
  · split
    · rfl
    · split
      · generalize hy : concealFaults _ _ s = y
        have hblocks : y.blocks = s.blocks := by rw [← hy]; exact hconceal _ _ s
        rw [← hblocks]
        rfl
      · generalize hy : concealFaults _ _ s = y
        have hblocks : y.blocks = s.blocks := by rw [← hy]; exact hconceal _ _ s
        rw [← hblocks]

theorem finishOutputs_block (g : Int) (s : State) : (finishOutputs g s).blocks.running_ = s.blocks.running_ := rfl

theorem dropBlock_block (n : Nat) (s : State) : (dropBlock n s).blocks.running_ = s.blocks.running_ := rfl

theorem keepFrames_blocks (s : State) : (keepFrames s).blocks = s.blocks := blocks_of_allBut (keepFrames_view _ rfl)

theorem speakersEnd_blocks (x₀ x₁ : SpkSense) (s : State) : (speakersEnd x₀ x₁ s).blocks = s.blocks :=
  blocks_of_allBut (speakersEnd_view _ _ _ rfl)

theorem noteSlumber_blocks (s : State) : (noteSlumber s).blocks = s.blocks := blocks_of_allBut (noteSlumber_view _ rfl)

theorem pairEnd_blocks (g : Int) (s : State) : (pairEnd g s).blocks = s.blocks := blocks_of_allBut (pairEnd_view _ _ rfl)

theorem foldl_presentStream_block (m : Nat) (l : List Nat) (s : State) :
    (l.foldl (presentStream m) s).blocks.running_ = s.blocks.running_ :=
  foldl_keeps (fun s => s.blocks.running_) _ (presentStream_block m) l s

/-- The end of a block leaves it the running one. -/
theorem endBlock_block (x : BoundaryIn) (s : State) : (endBlock x s).blocks.running_ = s.blocks.running_ := by
  unfold endBlock
  extract_lets a b n c d e r f g h i
  have hb : b.blocks = s.blocks := by
    show (if _ then a else endWindow a).blocks = _
    split
    · rfl
    · exact blocks_of_allBut (endWindow_view _ rfl)
  split
  · rw [keepFrames_blocks, noteSlumber_blocks, speakersEnd_blocks, hb]
  · have hd : d.blocks.running_ = b.blocks.running_ := (foldl_presentStream_block ..).trans (mediaTo_block ..)
    have he : e.blocks = d.blocks := rfl
    have hf : f.blocks.running_ = e.blocks.running_ :=
      (finishOutputs_block ..).trans (congrArg Blocks.running_ (noteSlumber_blocks e))
    have hg : g.blocks = f.blocks := pairEnd_blocks ..
    have hh : h.blocks = g.blocks := by
      show (if _ then g else keepInputs g).blocks = _
      split <;> rfl
    have hi : i.blocks = h.blocks := (keepFrames_blocks _).trans (speakersEnd_blocks ..)
    clear_value i
    exact (dropBlock_block ..).trans (by
      show i.blocks.running_ = _
      rw [hi, hh, hg, hf, he, hd, hb])

theorem powerBoundary_blocks (et : Nat) (s : State) : (powerBoundary et s).blocks = s.blocks :=
  blocks_of_allBut (powerBoundary_view _ _ rfl)

theorem loopUpdate_block (r : Ref) (err : Int) (s : State) : (loopUpdate r err s).blocks.running_ = s.blocks.running_ := by
  unfold loopUpdate
  split
  dsimp only
  split
  · rfl
  · split
    · rw [blocks_of_allBut (loseRef_view _ _ _ rfl)]
    · rfl

theorem wellBlock_block (s : State) : (wellBlock s).blocks.running_ = s.blocks.running_ := by
  unfold wellBlock
  extract_lets w a
  have ha : a.blocks.running_ = s.blocks.running_ := by
    show (State.blocks (if _ then _ else _)).running_ = _
    split
    · rfl
    · split
      · rfl
      · rfl
      · split
        · exact loopUpdate_block ..
        · rfl
  clear_value a
  exact ha

theorem startBoundary_block (prior : Nat) (s : State) : (startBoundary prior s).blocks.running_ = s.blocks.running_ := by
  unfold startBoundary
  split <;> rfl

theorem micBoundary_block (x : BoundaryIn) (s : State) : (micBoundary x s).blocks.running_ = s.blocks.running_ := by
  have hclocks : (pdmClocks s).blocks = s.blocks := blocks_of_allBut (pdmClocks_view _ rfl)
  unfold micBoundary
  rw [← hclocks]
  generalize pdmClocks s = y
  rfl

/-- The work of a block that begins leaves it the running one. -/
theorem beginBlock_block (x : BoundaryIn) (prior : Nat) (s : State) : (beginBlock x prior s).blocks.running_ = s.blocks.running_ := by
  unfold beginBlock
  extract_lets a _pairs b c d e f
  have ha : a.blocks.running_ = s.blocks.running_ := startBoundary_block ..
  have hb : b.blocks.running_ = a.blocks.running_ := rfl
  have hc : c.blocks.running_ = a.blocks.running_ := by
    unfold c
    split
    · rw [blocks_of_allBut (talkersBegin_view _ rfl), blocks_of_allBut (tdmBoundary_view _ _ rfl),
        blocks_of_allBut (clipBoundary_view _ _ rfl), blocks_of_allBut (dropOuts_view _ rfl), hb]
    · rfl
  clear_value c
  have hd : d.blocks.running_ = c.blocks.running_ := by
    unfold d
    rw [blocks_of_allBut (bpoBoundary_view _ rfl), blocks_of_allBut (usbAttach_view _ rfl), micBoundary_block]
  clear_value d
  have he : e.blocks = d.blocks := by
    unfold e
    split <;> rfl
  clear_value e
  have hf : f.blocks = e.blocks := by
    unfold f
    split
    · exact blocks_of_allBut (contextWindow_view _ rfl)
    · rfl
  clear_value f
  have hlast : (if plantRuns f then motorBoundary f else setDriven f).blocks = f.blocks := by
    split
    · exact blocks_of_allBut (motorBoundary_view _ rfl)
    · exact blocks_of_allBut (setDriven_view _ rfl)
  rw [blocks_of_allBut (speakersBegin_view _ _ rfl), hlast, hf, he, hd, hc, ha]

theorem openPaths_mode (s : State) : (openPaths s).start.mode = s.start.mode := by
  unfold openPaths
  split <;> rfl

/-- What a boundary first makes of the state: the block ends, what is sensed is taken in, the next block is placed. -/
def newBlock (x : BoundaryIn) (s : State) : State := placeBlock (powerBoundary s.gptp.time (senseBoundary x (endBlock x s)))

theorem newBlock_start (x : BoundaryIn) (s : State) : (newBlock x s).start = s.start :=
  (start_of_allBut (placeBlock_view _ rfl)).trans ((start_of_allBut (powerBoundary_view _ _ rfl)).trans
    ((start_of_allBut (senseBoundary_view _ _ rfl)).trans (start_of_allBut (endBlock_view _ _ rfl))))

theorem newBlock_lands (x : BoundaryIn) (s : State) : (newBlock x s).lands.cue = x.cue ∧ (newBlock x s).lands.wake = x.wake := by
  have hlands : (newBlock x s).lands = (senseBoundary x (endBlock x s)).lands :=
    (lands_of_allBut (placeBlock_view _ rfl)).trans (lands_of_allBut (powerBoundary_view _ _ rfl))
  rw [hlands]
  exact ⟨rfl, rfl⟩

theorem placeBlock_block (s : State) :
    (placeBlock s).blocks.running_ = (s.blocks.number + 1, s.blocks.running, s.gptp.time, s.blocks.due) := rfl

theorem newBlock_block (x : BoundaryIn) (s : State) :
    (newBlock x s).blocks.running_ = (s.blocks.number + 1, s.blocks.running, s.gptp.time, s.blocks.due) := by
  have hblock : (powerBoundary s.gptp.time (senseBoundary x (endBlock x s))).blocks.running_ = s.blocks.running_ :=
    (congrArg Blocks.running_ (powerBoundary_blocks ..)).trans (endBlock_block x s)
  have hgptp : (powerBoundary s.gptp.time (senseBoundary x (endBlock x s))).gptp = s.gptp :=
    (gptp_of_allBut (powerBoundary_view _ _ rfl)).trans
      ((gptp_of_allBut (senseBoundary_view _ _ rfl)).trans (gptp_of_allBut (endBlock_view _ _ rfl)))
  unfold newBlock
  rw [placeBlock_block, hgptp]
  generalize powerBoundary s.gptp.time (senseBoundary x (endBlock x s)) = w at hblock
  simp only [Blocks.running_, Prod.mk.injEq] at hblock
  obtain ⟨hnumber, hrunning, -, hdue⟩ := hblock
  rw [hnumber, hrunning, hdue]

/-- The state in which a boundary acts, its new block placed and its paths open. -/
def arrived (x : BoundaryIn) (s : State) : State := openPaths (firstPlant (newBlock x s))

/-- What a boundary finds in place. -/
structure Arrived (x : BoundaryIn) (s u : State) : Prop where
  mode : u.start.mode = s.start.mode
  block : u.blocks.running_ = (s.blocks.number + 1, s.blocks.running, s.gptp.time, s.blocks.due)
  cue : u.lands.cue = x.cue
  wake : u.lands.wake = x.wake

theorem arrived_arrived (x : BoundaryIn) (s : State) : Arrived x s (arrived x s) where
  mode := (openPaths_mode _).trans ((congrArg StartUnit.mode (start_of_allBut (firstPlant_view _ rfl))).trans
    (congrArg StartUnit.mode (newBlock_start x s)))
  block := (congrArg Blocks.running_ ((blocks_of_allBut (openPaths_view _ rfl)).trans
    (blocks_of_allBut (firstPlant_view _ rfl)))).trans (newBlock_block x s)
  cue := (congrArg LandsIn.cue ((lands_of_allBut (openPaths_view _ rfl)).trans
    (lands_of_allBut (firstPlant_view _ rfl)))).trans (newBlock_lands x s).1
  wake := (congrArg LandsIn.wake ((lands_of_allBut (openPaths_view _ rfl)).trans
    (lands_of_allBut (firstPlant_view _ rfl)))).trans (newBlock_lands x s).2

theorem takeBackStep_idle (hpartner : inMode .partner s = false) (hleader : inMode .leader s = false) : takeBackStep s = s := by
  unfold takeBackStep
  split
  · split
    · rfl
    · split
      · rfl
      · rw [hpartner, hleader]
        rfl
  · rfl

theorem partnerBoundary_idle (hpartner : inMode .partner s = false) : partnerBoundary s = s := by
  unfold partnerBoundary hotPartner
  rw [hpartner]
  rfl

theorem undue (hdue : s.blocks.due = []) : ({ s with blocks := { s.blocks with due := [] } } : State) = s := by
  rw [← hdue]

/-- With nothing due and no pair, the interventions leave the device's mode and its block. -/
theorem intervene_idle (hdue : s.blocks.due = []) (hpartner : inMode .partner s = false) (hleader : inMode .leader s = false) :
    (intervene s).start = s.start ∧ (intervene s).blocks.running_ = s.blocks.running_ := by
  unfold intervene
  rw [hdue]
  dsimp only [List.filter, safeDue, List.findSome?, List.foldl]
  rw [undue hdue, takeBackStep_idle hpartner hleader, partnerBoundary_idle hpartner]
  constructor
  · rw [start_of_allBut (switchRows_view _ _ _ rfl), start_of_allBut (wellCheck_view _ _ _ rfl)]
  · rw [blocks_of_allBut (switchRows_view _ _ _ rfl), blocks_of_allBut (wellCheck_view _ _ _ rfl)]

theorem boundary_unstarted (hmode : s.start.mode = none) : boundary x s = wellBlock (arrived x s) := by
  unfold boundary
  extract_lets m prior entry p y w
  exact if_pos (by rw [show p.start.mode = s.start.mode from (arrived_arrived x s).mode, hmode]; rfl)

theorem inMode_of_mode {m : Mode} (h : u.start.mode = s.start.mode) : inMode m u = inMode m s := by
  unfold inMode
  rw [h]

theorem boundary_safe (hmode : inMode .safe s = true) :
    boundary x s = bpoBoundary { arrived x s with blocks := { (arrived x s).blocks with due := [] } } := by
  have hsome : s.start.mode = some .safe := by simpa [inMode] using hmode
  have harrived := (arrived_arrived x s).mode
  unfold boundary
  extract_lets m prior entry p y w
  rw [if_neg (by rw [show p.start.mode = s.start.mode from harrived, hsome]; exact Bool.false_ne_true)]
  exact if_pos ((inMode_of_mode harrived).trans hmode)

/-- What a boundary of a block that runs alone leaves. -/
theorem boundary_solo (hmode : inMode .solo s = true) (hrunning : s.blocks.running = true) (hdue : s.blocks.due = []) :
    (boundary x s).blocks.running_ = (s.blocks.number + 1, true, s.gptp.time, [])
      ∧ (boundary x s).start.mode = some .solo := by
  have hsolo : s.start.mode = some .solo := by simpa [inMode] using hmode
  obtain ⟨hmode', hblock, -, -⟩ := arrived_arrived x s
  rw [hrunning, hdue] at hblock
  unfold boundary
  extract_lets m prior entry p y w
  have hpmode : p.start.mode = some .solo := hmode'.trans hsolo
  have hpblock : p.blocks.running_ = (s.blocks.number + 1, true, s.gptp.time, []) := hblock
  have hentry : entry = false := by
    have hm : m.start = s.start := newBlock_start x s
    show slumberDue m = false
    unfold slumberDue inMode
    rw [hm, hsolo]
    rfl
  clear_value entry p prior
  have hother : ∀ k : Mode, k ≠ .solo → inMode k p = false := fun k hk => by
    unfold inMode
    rw [hpmode]
    simpa using hk.symm
  obtain ⟨histart, hiblock⟩ := intervene_idle (congrArg (·.2.2.2) hpblock) (hother .partner nofun) (hother .leader nofun)
  have hkey : (keyAtBoundary (intervene p)).start = p.start := (start_of_allBut (keyAtBoundary_view _ rfl)).trans histart
  have hwmode : w.start.mode = some .solo := by
    rw [← hpmode, ← hkey]
    exact congrArg StartUnit.mode (start_of_allBut (wellBlock_view _ rfl))
  have hwblock : w.blocks.running_ = (s.blocks.number + 1, true, s.gptp.time, []) := by
    rw [← hpblock, ← hiblock]
    exact (wellBlock_block _).trans (congrArg Blocks.running_ (blocks_of_allBut (keyAtBoundary_view _ rfl)))
  clear_value w
  have hwother : ∀ k : Mode, k ≠ .solo → inMode k w = false := fun k hk => by
    unfold inMode
    rw [hwmode]
    simpa using hk.symm
  have hpath : pathBoundary w = w := by
    unfold pathBoundary
    rw [if_pos (by rw [show w.blocks.running = true from congrArg (·.2.1) hwblock]; rfl)]
  rw [if_neg (by rw [hpmode]; exact Bool.false_ne_true), if_neg (by rw [hother .safe nofun]; exact Bool.false_ne_true),
    if_neg (by rw [hwother .safe nofun]; exact Bool.false_ne_true), if_neg (by rw [hentry]; exact Bool.false_ne_true), hpath]
  have hbegin : (beginBlock x prior w).start = w.start := start_of_allBut (beginBlock_view _ _ _ rfl)
  have htake : takeHeld (beginBlock x prior w) = beginBlock x prior w := by
    unfold takeHeld
    rw [show inMode .partner (beginBlock x prior w) = false from (inMode_of_mode (congrArg StartUnit.mode hbegin)).trans
      (hwother .partner nofun)]
    rfl
  rw [htake, hbegin]
  exact ⟨(beginBlock_block ..).trans hwblock, hwmode⟩

theorem exec_blockBoundary (hpowered : powered s = true) (hexists : s.blocks.exists_ = true) (hslumber : inMode .slumber s = false)
    (hv : s.upTo x.t = v) (h : Elapsed s x.t v) : exec (.blockBoundary x) s = .next (pump (boundary x v)) := by
  show execBlockBoundary x s = _
  unfold execBlockBoundary
  dsimp only
  rw [hv, if_neg (by simp [h.powered, hpowered]), if_neg (by simp [h.inMode, hslumber]), if_neg (by simp [h.blocks, hexists])]

theorem blockBoundary_unstarted (hpowered : powered s = true) (hexists : s.blocks.exists_ = true) (hmode : s.start.mode = none) :
    Runs (.blockBoundary x) s fun u => u.blocks.number = s.blocks.number + 1 ∧ u.blocks.stamp = (s.upTo x.t).gptp.time
      ∧ u.lands.cue = x.cue ∧ u.now = max s.now x.t := by
  obtain ⟨v, hv, h⟩ := s.exists_upTo x.t
  rw [runs_iff, exec_blockBoundary hpowered hexists (by unfold inMode; rw [hmode]; rfl) hv h, answers_next, pump_blocks, pump_lands, hv]
  have hnow : (pump (boundary x v)).now = v.now :=
    (now_of_view (P := allBut []) (pump_view _ rfl)).trans (now_of_view (P := allBut []) (boundary_view _ _ rfl))
  rw [hnow, boundary_unstarted (by rw [h.start]; exact hmode)]
  obtain ⟨-, hblock, hcue, -⟩ := arrived_arrived x v
  have hwell := (wellBlock_block (arrived x v)).trans hblock
  rw [h.blocks] at hwell
  exact ⟨congrArg (·.1) hwell, congrArg (·.2.2.1) hwell, (congrArg LandsIn.cue (lands_of_allBut (wellBlock_view _ rfl))).trans hcue, h.now⟩

theorem blockBoundary_safe (hpowered : powered s = true) (hexists : s.blocks.exists_ = true) (hmode : inMode .safe s = true) :
    Runs (.blockBoundary x) s fun u => u.blocks.number = s.blocks.number + 1 ∧ u.blocks.due = [] ∧ u.start.mode = some .safe
      ∧ u.lands.wake = x.wake := by
  have hsome : s.start.mode = some .safe := by simpa [inMode] using hmode
  obtain ⟨v, hv, h⟩ := s.exists_upTo x.t
  rw [runs_iff, exec_blockBoundary hpowered hexists (by unfold inMode; rw [hsome]; rfl) hv h, answers_next, pump_blocks, pump_lands,
    pump_start, boundary_safe ((h.inMode _).trans hmode), blocks_of_allBut (bpoBoundary_view _ rfl),
    start_of_allBut (bpoBoundary_view _ rfl), lands_of_allBut (bpoBoundary_view _ rfl)]
  obtain ⟨hmode', hblock, -, hwake⟩ := arrived_arrived x v
  rw [h.start, hsome] at hmode'
  rw [h.blocks] at hblock
  generalize arrived x v = y at *
  exact ⟨congrArg (·.1) hblock, rfl, hmode', hwake⟩

theorem blockBoundary_solo (hpowered : powered s = true) (hexists : s.blocks.exists_ = true) (hmode : inMode .solo s = true)
    (hrunning : s.blocks.running = true) (hdue : s.blocks.due = []) : Runs (.blockBoundary x) s fun u =>
      u.blocks.number = s.blocks.number + 1 ∧ u.blocks.stamp = (s.upTo x.t).gptp.time ∧ u.start.mode = some .solo := by
  have hsolo : s.start.mode = some .solo := by simpa [inMode] using hmode
  obtain ⟨v, hv, h⟩ := s.exists_upTo x.t
  rw [runs_iff, exec_blockBoundary hpowered hexists (by unfold inMode; rw [hsolo]; rfl) hv h, answers_next, pump_blocks, pump_start, hv]
  obtain ⟨hblock, hmode'⟩ := boundary_solo (x := x) ((h.inMode _).trans hmode) (by rw [h.blocks]; exact hrunning)
    (by rw [h.blocks]; exact hdue)
  rw [h.blocks] at hblock
  exact ⟨congrArg (·.1) hblock, congrArg (·.2.2.1) hblock, hmode'⟩

/-! ### The resumption from SLUMBER (R89) -/

/-- Contact that is there is taken up again. -/
theorem contactWork_left (s : State) : (if s.red.contact = true then contactWork s else s).start = s.start
    ∧ (if s.red.contact = true then contactWork s else s).sleep = s.sleep := by
  split
  · exact ⟨start_of_allBut (contactWork_view _ rfl), sleep_of_allBut (contactWork_view _ rfl)⟩
  · exact ⟨rfl, rfl⟩

theorem exitSlumber_left (m : Mode) (s : State) : (exitSlumber m s).start.mode = some m ∧ (exitSlumber m s).start.left = none
    ∧ (exitSlumber m s).sleep.wakeAt = none := by
  unfold exitSlumber
  extract_lets et failed _ s₁ s₂ status₂ s₃ start₃ s₄ status₄ _ _ s₅
  have h₁ : s₁.sleep.wakeAt = none := by
    exact (congrArg (·.wakeAt) (sleep_of_allBut (resumeWells_view _ _ rfl))).trans rfl
  clear_value s₁
  have h₂ : s₂.start.mode = some m ∧ s₂.sleep = s₁.sleep :=
    ⟨modeChange_mode .., sleep_of_allBut (modeChange_view _ _ _ _ rfl)⟩
  clear_value s₂
  have h₃ : s₃.start = s₂.start ∧ s₃.sleep = s₂.sleep := by
    unfold s₃
    split
    · exact ⟨raiseAt_start .., raiseAt_sleep ..⟩
    · exact ⟨rfl, rfl⟩
  clear_value s₃
  have h₄ : s₄.start.mode = s₃.start.mode ∧ s₄.start.left = none ∧ s₄.sleep = s₃.sleep := by
    have hstart : s₄.start = { s₃.start with left := none, bpoNext := true } := by
      unfold s₄
      rw [start_of_allBut (reschedule_view _ rfl), heartbeat_start]
    have hsleep : s₄.sleep = s₃.sleep := by
      unfold s₄
      rw [sleep_of_allBut (reschedule_view _ rfl), heartbeat_sleep]
    rw [hstart, hsleep]
    exact ⟨rfl, rfl, rfl⟩
  clear_value s₄
  obtain ⟨hstart, hsleep⟩ := contactWork_left s₅
  obtain ⟨hmode, hsleep₂⟩ := h₂
  obtain ⟨hmode₄, hleft, hsleep₄⟩ := h₄
  rw [hstart, hsleep]
  refine ⟨?_, ?_, ?_⟩
  · exact hmode₄.trans ((congrArg StartUnit.mode h₃.1).trans hmode)
  · exact hleft
  · show s₄.sleep.wakeAt = none
    rw [hsleep₄, h₃.2, hsleep₂, h₁]

theorem slumberResume_runs {w : Nat} {m : Mode} (hmode : inMode .slumber s = true) (hwake : s.sleep.wakeAt = some w)
    (hleft : s.start.left = some m) (hlate : w + 30 * ms1 < max s.now x.t)
    (hloft : s.sleep.loftBack = true ∨ s.gran.modelSet = none) (hdue : s.blocks.due = []) :
    Runs (.slumberResume x) s fun u =>
      u.start.mode = some m ∧ u.start.left = none ∧ u.sleep.wakeAt = none ∧ u.lands.cue = x.cue := by
  have hslumber : s.start.mode = some .slumber := by simpa [inMode] using hmode
  obtain ⟨v, hv, h⟩ := s.exists_upTo x.t
  rw [runs_iff]
  show Answers (execSlumberResume x s) _
  unfold execSlumberResume
  have hvwake : v.sleep.wakeAt = some w := by rw [h.sleep]; exact hwake
  have hvleft : v.start.left = some m := by rw [h.start]; exact hleft
  dsimp only
  rw [hv, hvwake, hvleft]
  dsimp only
  have hvmode : v.start.mode = some .slumber := by rw [h.start]; exact hslumber
  have hdue' : v.blocks.due = [] := by rw [h.blocks]; exact hdue
  rw [if_pos (by
    rw [h.inMode, hmode, h.now, h.gran, h.sleep]
    rcases hloft with h | h <;> simp [h, hlate])]
  generalize hsense : senseBoundary x _ = y
  have hcue : y.lands.cue = x.cue := by rw [← hsense]; rfl
  have hy : y.start = v.start ∧ y.blocks.due = v.blocks.due := by rw [← hsense]; exact ⟨rfl, rfl⟩
  clear hsense
  obtain ⟨hystart, hydue⟩ := hy
  generalize hplace : placeBlock y = z
  have hz : z.start = v.start ∧ z.blocks.due = [] ∧ z.lands = y.lands := by
    rw [← hplace, ← hystart, ← hdue', ← hydue]
    exact ⟨rfl, rfl, rfl⟩
  clear hplace
  obtain ⟨hzstart, hzdue, hzlands⟩ := hz
  have hother : ∀ k : Mode, k ≠ .slumber → inMode k z = false := fun k hk => by
    unfold inMode
    rw [hzstart, hvmode]
    simpa using hk.symm
  obtain ⟨histart, -⟩ := intervene_idle hzdue (hother .partner nofun) (hother .leader nofun)
  have hilands : (intervene z).lands = z.lands := lands_of_allBut (intervene_view _ rfl)
  generalize intervene z = i at histart hilands
  rw [if_neg (by
    rw [inMode_of_mode (u := i) (s := z) (congrArg StartUnit.mode histart), hother .safe nofun]
    exact Bool.false_ne_true)]
  obtain ⟨hmode, hleft, hwake⟩ := exitSlumber_left m i
  have helands : (exitSlumber m i).lands = i.lands := lands_of_allBut (exitSlumber_view _ _ rfl)
  generalize exitSlumber m i = e at hmode hleft hwake helands
  have hfstart : (firstPlant e).start = e.start := start_of_allBut (firstPlant_view _ rfl)
  have hflands : (firstPlant e).lands = e.lands := lands_of_allBut (firstPlant_view _ rfl)
  have hfsleep : (firstPlant e).sleep = e.sleep := sleep_of_allBut (firstPlant_view _ rfl)
  generalize firstPlant e = f at hfstart hflands hfsleep
  obtain ⟨hostart, holeft⟩ : (openPaths f).start.mode = f.start.mode ∧ (openPaths f).start.left = f.start.left := by
    unfold openPaths
    split <;> exact ⟨rfl, rfl⟩
  have holands : (openPaths f).lands = f.lands := lands_of_allBut (openPaths_view _ rfl)
  have hosleep : (openPaths f).sleep = f.sleep := sleep_of_allBut (openPaths_view _ rfl)
  generalize openPaths f = o at hostart holeft holands hosleep
  rw [answers_next, pump_start, pump_lands, sleep_of_allBut (pump_view _ rfl), start_of_allBut (beginBlock_view _ _ _ rfl),
    sleep_of_allBut (beginBlock_view _ _ _ rfl), lands_of_allBut (beginBlock_view _ _ _ rfl), start_of_allBut (pathBoundary_view _ rfl),
    sleep_of_allBut (pathBoundary_view _ rfl), lands_of_allBut (pathBoundary_view _ rfl), hostart, holeft, holands, hosleep,
    hfstart, hflands, hfsleep, helands, hilands, hzlands]
  exact ⟨hmode, hleft, hwake, hcue⟩

/-! ### The end of a start (R72, R73) -/

theorem Elapsed.chooseKey (h : Elapsed s t v) : Machine.chooseKey v = Machine.chooseKey s := by
  unfold Machine.chooseKey
  rw [h.sec, h.tenant]

theorem dataPathSetup_runs (hawake : awake s = true) (hmode : s.start.mode = none) (hbase : s.start.base.isSome = true)
    (hsetup : s.start.setupDone = false) (hcheck : s.start.checkDone = true) (hpsram : s.start.psramDone = true) :
    Runs (.dataPathSetup t true) s (fun u =>
      u.start.setupDone = true ∧ u.switch.tables = true ∧ u.sec.inForce = chooseKey s ∧ u.sec.slots = s.sec.slots)
    ∧ Runs (.dataPathSetup t false) s (fun u => u.start.phase = .held ∧ u.start.cause = .watchdog) := by
  obtain ⟨v, hv, h⟩ := s.exists_upTo t
  have hdue : (!awake v || v.start.mode.isSome || v.start.base.isNone || v.start.setupDone || !v.start.checkDone
      || !v.start.psramDone) = false := by
    simpa [h.awake, hawake, h.start, hmode, hsetup, hcheck, hpsram] using hbase
  constructor
  · rw [runs_iff]
    show Answers (execDataPathSetup t true s) _
    unfold execDataPathSetup
    dsimp only
    rw [hv, if_neg (by rw [hdue]; exact Bool.false_ne_true), if_neg (by decide), answers_next]
    refine ⟨rfl, rfl, ?_, ?_⟩
    · show chooseKey (dmaSetup v) = chooseKey s
      rw [← h.chooseKey]
      rfl
    · show v.sec.slots = s.sec.slots
      rw [h.sec]
  · rw [runs_iff]
    show Answers (execDataPathSetup t false s) _
    unfold execDataPathSetup
    dsimp only
    rw [hv, if_neg (by rw [hdue]; exact Bool.false_ne_true), if_pos (by decide), answers_next]
    exact ⟨rfl, rfl⟩

theorem Elapsed.mayRun (h : Elapsed s t v) : Machine.mayRun v = Machine.mayRun s := by
  unfold Machine.mayRun
  rw [h.awake, h.start, h.well, (congrArg Gptp.synced h.gptp :)]
  rfl

theorem Elapsed.entryMode (h : Elapsed s t v) : Machine.entryMode v = Machine.entryMode s := by
  unfold Machine.entryMode
  rw [h.role, h.red]

theorem Elapsed.mediaRate (h : Elapsed s t v) (m : Mode) : Machine.mediaRate v m = Machine.mediaRate s m := by
  unfold Machine.mediaRate
  rw [h.well]

/-- The mode, the media rate and the end of START of a state in which a running mode is entered at an instant. -/
structure Entered (m : Mode) (rate now : Nat) (u : State) : Prop where
  mode : u.start.mode = some m
  tRun : u.start.tRun = some now
  counter : u.start.counterPending = true
  rate : u.well.rate = rate
  startLow : u.blocks.startLow = false

theorem Entered.of_eq {m : Mode} {rate now : Nat} (h : Entered m rate now u) (hstart : v.start = u.start) (hwell : v.well = u.well)
    (hblocks : v.blocks = u.blocks) : Entered m rate now v := by
  obtain ⟨h₁, h₂, h₃, h₄, h₅⟩ := h
  exact ⟨by rw [hstart, h₁], by rw [hstart, h₂], by rw [hstart, h₃], by rw [hwell, h₄], by rw [hblocks, h₅]⟩

theorem releaseStart_entered (et : Nat) {m : Mode} (hmode : s.start.mode = some m) :
    Entered m s.well.rate s.now (releaseStart (startTimers et s)) :=
  ⟨hmode, rfl, rfl, rfl, rfl⟩

/-- The mode change and its reports leave the rate and the time base. -/
theorem reported_mode (et : Nat) (m : Mode) (s : State) {y : State} (hy : heartbeat et (startReport (keyAtRun (modeChange et m 0#16 s))) = y) :
    y.start.mode = some m ∧ y.well = s.well ∧ y.now = s.now := by
  subst hy
  rw [heartbeat_start, startReport_start, start_of_allBut (keyAtRun_view _ rfl), heartbeat_well, startReport_well,
    well_of_allBut (keyAtRun_view _ rfl), well_of_allBut (modeChange_view _ _ _ _ rfl), heartbeat_now, startReport_now,
    now_of_view (P := allBut []) (keyAtRun_view _ rfl), now_of_view (P := allBut []) (modeChange_view _ _ _ _ rfl)]
  exact ⟨modeChange_mode .., rfl, rfl⟩

theorem runningEntry_runs (hmay : mayRun s = true) : Runs (.runningEntry t) s fun u =>
    u.start.mode = some (entryMode s) ∧ u.start.tRun = some (max s.now t) ∧ u.start.counterPending = true
      ∧ u.well.rate = mediaRate s (entryMode s) ∧ u.blocks.startLow = false := by
  obtain ⟨v, hv, h⟩ := s.exists_upTo t
  rw [runs_iff]
  show Answers (execRunningEntry t s) _
  unfold execRunningEntry
  dsimp only
  rw [hv, if_neg (by rw [h.mayRun, hmay]; decide), h.entryMode, h.mediaRate, answers_next]
  generalize ha : ({ v with well := { v.well with rate := mediaRate s (entryMode s), refDeadline := none, atStart := false } } : State) = a
  have harate : a.well.rate = mediaRate s (entryMode s) := by rw [← ha]
  have hanow : a.now = max s.now t := by rw [← ha]; exact h.now
  clear ha
  generalize hb : setupSilo (setupContexts (checkModelRate a)) = b
  have hbwell : b.well = a.well := by
    rw [← hb, well_of_allBut (setupSilo_view _ rfl), well_of_allBut (setupContexts_view _ rfl), well_of_allBut (checkModelRate_view _ rfl)]
  have hbnow : b.now = a.now := by
    rw [← hb]
    exact (now_of_view (P := allBut []) (setupSilo_view _ rfl)).trans ((now_of_view (P := allBut []) (setupContexts_view _ rfl)).trans
      (now_of_view (P := allBut []) (checkModelRate_view _ rfl)))
  clear hb
  generalize hc : heartbeat _ _ = c
  obtain ⟨hcmode, hcwell, hcnow⟩ := reported_mode _ _ b hc
  clear hc
  have hentered : Entered (entryMode s) (mediaRate s (entryMode s)) (max s.now t)
      (releaseStart (startTimers v.gptp.time (setSoc (restSoc c) c))) := by
    rw [← harate, ← hanow, ← hbwell, ← hbnow, ← hcwell, ← hcnow]
    exact releaseStart_entered (s := setSoc (restSoc c) c) _ hcmode
  generalize releaseStart _ = d at hentered ⊢
  have hbmca : Entered (entryMode s) (mediaRate s (entryMode s)) (max s.now t) (runBmca d) :=
    hentered.of_eq (start_of_allBut (runBmca_view _ rfl)) (well_of_allBut (runBmca_view _ rfl)) (blocks_of_allBut (runBmca_view _ rfl))
  generalize runBmca d = e at hbmca ⊢
  have hcontact : Entered (entryMode s) (mediaRate s (entryMode s)) (max s.now t) (if e.red.contact then contactWork e else e) := by
    split
    · exact hbmca.of_eq (start_of_allBut (contactWork_view _ rfl)) (well_of_allBut (contactWork_view _ rfl))
        (blocks_of_allBut (contactWork_view _ rfl))
    · exact hbmca
  obtain ⟨hmode, htrun, hcounter, hrate, hlow⟩ := hcontact
  rw [pump_start, pump_well, pump_blocks]
  exact ⟨hmode, htrun, hcounter, hrate, hlow⟩

/-- Settles O55: the data path is set up with the chosen key, a running mode is entered at its rate, a boundary
ends a block and places the next, and a resumption from SLUMBER enters the mode that was left. -/
theorem boundariesRun : Obligations.BoundariesRun :=
  ⟨fun _ _ => dataPathSetup_runs, fun _ _ => runningEntry_runs, fun _ _ => blockBoundary_unstarted, fun _ _ => blockBoundary_safe,
    fun _ _ => blockBoundary_solo, fun _ _ _ _ => slumberResume_runs⟩

end Sys2Proof.Machine
end

/-! # Endurance (O56, chapters 20 and 23)

Row repair, uncorrectable errors, powered hours and the aging fit. -/

section
namespace Sys2Proof.Machine

open Sys2Proof


variable {s u v w : State} {t : Nat} {loft : Bool} {bank : Fin 16} {row : Fin 256}

/-! ### Rows with errors and their repair (R507 to R510) -/

theorem mem_addTrack (now : Nat) (x : RowTrack) (l : List RowTrack) : x ∈ addTrack now x l := by
  unfold addTrack
  dsimp only
  rw [List.drop_append_of_le_length (by omega)]
  exact List.mem_append_right _ List.mem_cons_self

theorem exec_sramCorrectedError (hpowered : powered s = true) (hbank : bankExists loft bank.val = true) (hv : s.upTo t = v)
    (h : Elapsed s t v) : exec (.sramCorrectedError t loft bank row) s = .next (countCorrected loft bank.val row.val v) := by
  show execSramCorrectedError t loft bank row s = _
  unfold execSramCorrectedError
  dsimp only
  rw [hv, if_neg (by rw [h.powered, hpowered, hbank]; decide)]

theorem sramCorrectedError_first (hpowered : powered s = true) (hbank : bankExists loft bank.val = true)
    (hfirst : trackOf (s.upTo t) loft bank.val row.val = none) : Runs (.sramCorrectedError t loft bank row) s fun u =>
      u.status.sec.sram = sat16 (s.status.sec.sram + 1) ∧ u.endur.repairs = s.endur.repairs
        ∧ ({ loft := loft, bank := bank.val, row := row.val, first := max s.now t, count := 1 } : RowTrack) ∈ u.endur.tracks := by
  obtain ⟨v, hv, h⟩ := s.exists_upTo t
  rw [hv] at hfirst
  rw [runs_iff, exec_sramCorrectedError hpowered hbank hv h, answers_next]
  unfold countCorrected
  dsimp only
  have htrack : ∀ st, trackOf { v with status := st } loft bank.val row.val = none := fun _ => hfirst
  rw [htrack]
  dsimp only
  rw [h.now]
  exact ⟨congrArg (fun c => sat16 (c + 1)) (congrArg (·.sec.sram) h.status :), congrArg Endurance.repairs h.endur, mem_addTrack ..⟩

/-- A row that is not under repair, with a spare left in its bank, gets the next spare (R508). -/
theorem decideRemap_repairs {bank row : Nat} (hnone : s.endur.repairs = []) (hspare : sparesIn s.endur false bank < 32) :
    (decideRemap false bank row s).endur.repairs
      = [{ loft := false, bank := bank, row := row, spare := sparesIn s.endur false bank }] := by
  unfold decideRemap
  dsimp only
  rw [hnone, if_neg (by simp), if_neg (Nat.not_le.mpr hspare), if_neg (by simp)]
  dsimp only
  rw [repairEvent_endur, hnone]
  rfl

theorem sramCorrectedError_second {x : RowTrack} (hpowered : powered s = true) (hbank : bankExists false bank.val = true)
    (htrack : trackOf (s.upTo t) false bank.val row.val = some x) (hcount : x.count = 1)
    (hspare : sparesIn s.endur false bank.val < 32) (hnone : s.endur.repairs = []) :
    Runs (.sramCorrectedError t false bank row) s fun u =>
      u.endur.repairs = [{ loft := false, bank := bank.val, row := row.val, spare := sparesIn s.endur false bank.val }] := by
  obtain ⟨v, hv, h⟩ := s.exists_upTo t
  rw [hv] at htrack
  rw [runs_iff, exec_sramCorrectedError hpowered hbank hv h, answers_next]
  unfold countCorrected
  dsimp only
  have htrack' : ∀ st, trackOf { v with status := st } false bank.val row.val = some x := fun _ => htrack
  rw [htrack']
  dsimp only
  rw [hcount, if_pos rfl]
  generalize hy : raise _ _ _ _ = y
  have hendur : sparesIn y.endur false bank.val = sparesIn s.endur false bank.val ∧ y.endur.repairs = [] := by
    rw [← hy, raise_endur, ← hnone, ← h.endur]
    exact ⟨rfl, rfl⟩
  obtain ⟨hspares, hrepairs⟩ := hendur
  rw [← hspares] at hspare ⊢
  exact decideRemap_repairs hrepairs hspare

/-- A word with an uncorrectable error is reported and noted (R510). -/
def loseWord (loft : Bool) (bank row word : Nat) (what : SramContent) (s : State) : State :=
  let y := raise 0xF901#16 0 (be 1 (memCode loft) ++ be 1 bank ++ be 2 row ++ be 1 (contentCode loft bank row what)) s
  let place := (loft, bank, row, word)
  { y with endur := { y.endur with bad := if y.endur.bad.contains place then y.endur.bad else y.endur.bad ++ [place] } }

theorem loseWord_start (bank row word : Nat) (what : SramContent) (s : State) : (loseWord loft bank row word what s).start = s.start := by
  unfold loseWord
  dsimp only
  rw [raise_start]

theorem mem_loseWord_bad (bank row word : Nat) (what : SramContent) (s : State) :
    (loft, bank, row, word) ∈ (loseWord loft bank row word what s).endur.bad := by
  unfold loseWord
  dsimp only
  split
  case isTrue hmem => simpa using hmem
  case isFalse => exact List.mem_append_right _ List.mem_cons_self

theorem exec_sramUncorrectableError {word : Fin 128} {what : SramContent} (hpowered : powered s = true)
    (hbank : bankExists loft bank.val = true) (hv : s.upTo t = v) (h : Elapsed s t v) :
    exec (.sramUncorrectableError t loft bank row word what) s
      = .next (loseContent (if loft then .loft else what) (decideRemap loft bank.val row.val
          (loseWord loft bank.val row.val word.val (if loft then .loft else what) v))) := by
  show execSramUncorrectableError t loft bank row word what s = _
  unfold execSramUncorrectableError
  dsimp only
  rw [hv, if_neg (by rw [h.powered, hpowered, hbank]; decide)]
  rfl

theorem decideRemap_bad (loft : Bool) (bank row : Nat) (s : State) : (decideRemap loft bank row s).endur.bad = s.endur.bad := by
  unfold decideRemap
  extract_lets used kind et left y
  split
  · rfl
  · split
    · rw [makeDue_endur, raise_endur]
    · split
      · rw [makeDue_endur, repairEvent_endur, show y.endur = s.endur from repairEvent_endur ..]
      · show y.endur.bad = s.endur.bad
        rw [show y.endur = s.endur from repairEvent_endur ..]

theorem sramUncorrectableError_runs {word : Fin 128} {what : SramContent} (hpowered : powered s = true)
    (hbank : bankExists loft bank.val = true) (hwhat : loft = true ∨ what ≠ .control) :
    Runs (.sramUncorrectableError t loft bank row word what) s fun u =>
      (loft, bank.val, row.val, word.val) ∈ u.endur.bad ∧ u.start = s.start := by
  obtain ⟨v, hv, h⟩ := s.exists_upTo t
  have hcontent : (if loft then .loft else what) ≠ SramContent.control := by
    rcases hwhat with rfl | hwhat
    · exact nofun
    · split
      · exact nofun
      · exact hwhat
  rw [runs_iff, exec_sramUncorrectableError hpowered hbank hv h, answers_next,
    endur_of_allBut (loseContent_view _ _ rfl hcontent), start_of_allBut (loseContent_view _ _ rfl hcontent), decideRemap_bad,
    start_of_allBut (decideRemap_view _ _ _ _ rfl), loseWord_start]
  exact ⟨mem_loseWord_bad .., h.start⟩

theorem sramUncorrectableError_control {word : Fin 128} (hpowered : powered s = true) (hbank : bankExists false bank.val = true) :
    Runs (.sramUncorrectableError t false bank row word .control) s fun u =>
      u.start.phase = .held ∧ u.start.cause = .watchdog := by
  obtain ⟨v, hv, h⟩ := s.exists_upTo t
  rw [runs_iff, exec_sramUncorrectableError hpowered hbank hv h, answers_next]
  exact ⟨rfl, rfl⟩

theorem scrubPass_runs (hpowered : powered s = true) : Runs .scrubPass s fun u =>
    u.endur.scrubAt = s.endur.scrubAt + 3600 * sec1 ∧ u.now = max s.now s.endur.scrubAt := by
  obtain ⟨v, hv, h⟩ := s.exists_upTo s.endur.scrubAt
  rw [runs_iff]
  show Answers (execScrubPass s) _
  unfold execScrubPass
  dsimp only
  rw [if_pos hpowered, hv, h.endur, answers_next]
  exact ⟨rfl, h.now⟩

/-- The one repair of a row that becomes ready is due to be switched in (R509). -/
theorem repairReady_runs {bank row spare : Nat} (hrepairs : s.endur.repairs = [{ loft := loft, bank := bank, row := row, spare := spare }])
    (h : Elapsed s t v) : (repairReady loft bank row v).endur.repairs
        = [{ loft := loft, bank := bank, row := row, spare := spare, readyAt := some (max s.now t) }]
      ∧ ∃ d ∈ (repairReady loft bank row v).blocks.due, d.what = .rowSwitch loft bank row := by
  unfold repairReady
  dsimp only
  rw [h.endur, hrepairs, if_pos (by simp), makeDue_endur]
  refine ⟨?_, ⟨_, List.mem_append_right _ List.mem_cons_self, rfl⟩⟩
  simp [h.now]

theorem rowCopyComplete_runs {spare : Nat} (hrepairs : s.endur.repairs = [{ loft := false, bank := bank.val, row := row.val, spare := spare }]) :
    Runs (.rowCopyComplete t bank row) s fun u =>
      u.endur.repairs = [{ loft := false, bank := bank.val, row := row.val, spare := spare, readyAt := some (max s.now t) }]
        ∧ (∃ d ∈ u.blocks.due, d.what = .rowSwitch false bank.val row.val) := by
  obtain ⟨v, hv, h⟩ := s.exists_upTo t
  rw [runs_iff]
  show Answers (execRowCopyComplete t bank row s) _
  unfold execRowCopyComplete
  rw [hv, answers_next]
  exact repairReady_runs hrepairs h

theorem loftRowFillComplete_runs {spare : Nat}
    (hrepairs : s.endur.repairs = [{ loft := true, bank := bank.val, row := row.val, spare := spare }]) :
    Runs (.loftRowFillComplete t bank row) s fun u =>
      u.endur.repairs = [{ loft := true, bank := bank.val, row := row.val, spare := spare, readyAt := some (max s.now t) }]
        ∧ (∃ d ∈ u.blocks.due, d.what = .rowSwitch true bank.val row.val) := by
  obtain ⟨v, hv, h⟩ := s.exists_upTo t
  rw [runs_iff]
  show Answers (execLoftRowFillComplete t bank row s) _
  unfold execLoftRowFillComplete
  rw [hv, answers_next]
  exact repairReady_runs hrepairs h

/-! ### Powered hours and aging (R429, R505, R506, R516, R517) -/

/-- A service record leaves the count of hours. -/
theorem writeService_hours (kind slot : Nat) (fails : List FlashCause) (s : State) :
    (writeService kind slot fails s).gran.hours = s.gran.hours ∧ (writeService kind slot fails s).gran.hourAt = s.gran.hourAt := by
  unfold writeService
  split
  · exact ⟨rfl, rfl⟩
  · extract_lets seq body
    split
    next ok next y hy =>
      have hgran : y.gran = s.gran := by
        have hkept := ringWrite_gran svcRing body s.gran.serviceAt fails s
        rwa [hy] at hkept
      dsimp only
      rw [hgran]
      exact ⟨rfl, rfl⟩

/-- A day that ends starts the next day's means anew. -/
theorem closeDay_refit (full : Bool) (s : State) : (if full then refit (closeDay s) else closeDay s).endur.accCount = 0
    ∧ (if full then refit (closeDay s) else closeDay s).gran = s.gran ∧ (if full then refit (closeDay s) else closeDay s).now = s.now := by
  split
  · unfold refit
    dsimp only
    split <;> exact ⟨rfl, rfl, rfl⟩
  · exact ⟨rfl, rfl, rfl⟩

theorem poweredHour_runs {fails : List FlashCause} : Runs (.poweredHour fails) s fun u =>
    u.gran.hours = s.gran.hours + 1 ∧ u.gran.hourAt = s.gran.hourAt + 3600 * sec1 ∧ u.now = max s.now s.gran.hourAt
      ∧ ((s.gran.hours + 1) % 24 ≠ 0 → u.mem = s.mem ∧ u.endur = s.endur)
      ∧ ((s.gran.hours + 1) % 24 = 0 → u.endur.accCount = 0) := by
  obtain ⟨v, hv, h⟩ := s.exists_upTo s.gran.hourAt
  rw [runs_iff]
  show Answers (execPoweredHour fails s) _
  unfold execPoweredHour
  extract_lets a n _ b c full d
  have hav : a = v := hv
  have hn : n = s.gran.hours + 1 := by
    unfold n
    rw [hav, h.gran]
  have hb : b.gran.hours = n ∧ b.gran.hourAt = s.gran.hourAt + 3600 * sec1 ∧ b.now = max s.now s.gran.hourAt ∧ b.mem = s.mem
      ∧ b.endur = s.endur := by
    unfold b
    rw [hav]
    exact ⟨rfl, by rw [h.gran], h.now, h.mem, h.endur⟩
  clear_value b n
  obtain ⟨hhours, hhourAt, hnow, hmem, hendur⟩ := hb
  subst hn
  split
  next hday =>
    have hc : c.gran.hours = b.gran.hours ∧ c.gran.hourAt = b.gran.hourAt ∧ c.now = b.now := by
      unfold c
      split
      · obtain ⟨hkept, hkeptAt⟩ := writeService_hours 1 0 fails b
        exact ⟨hkept, hkeptAt, now_of_view (P := allBut []) (writeService_view _ _ _ _ rfl)⟩
      · exact ⟨rfl, rfl, rfl⟩
    obtain ⟨hacc, hgran, hlast⟩ := closeDay_refit full c
    rw [answers_next]
    refine ⟨?_, ?_, ?_, fun hother => absurd hday hother, fun _ => hacc⟩
    · exact (congrArg Granary.hours hgran).trans (hc.1.trans hhours)
    · exact (congrArg Granary.hourAt hgran).trans (hc.2.1.trans hhourAt)
    · exact hlast.trans (hc.2.2.trans hnow)
  next hother => exact ⟨hhours, hhourAt, hnow, fun _ => ⟨hmem, hendur⟩, fun hday => absurd hday hother⟩

theorem holdoverAgingCorrection_runs (hholdover : s.well.holdover = true) (hvalid : s.endur.valid = true) (hrule : s.endur.hvRule1 = true) :
    Runs .holdoverAgingCorrection s fun u =>
      u.endur.correctAt = s.endur.correctAt + sec1 ∧ u.now = max s.now s.endur.correctAt
        ∧ u.well.dcoGoal = dcoClamp (s.endur.hvRaw + agingShift s.endur (dayNow s) (tempNow s)) := by
  obtain ⟨v, hv, h⟩ := s.exists_upTo s.endur.correctAt
  rw [runs_iff]
  show Answers (execHoldoverAgingCorrection s) _
  unfold execHoldoverAgingCorrection
  dsimp only
  rw [if_pos (by rw [hholdover, hvalid, hrule]; rfl), hv, answers_next]
  refine ⟨by rw [h.endur], h.now, ?_⟩
  unfold dayNow tempNow
  rw [h.endur, h.gran, h.plant]

/-- Settles O56: errors are counted and their rows repaired, what an uncorrectable error took is lost, and the
powered hours close the days of the aging fit. -/
theorem enduranceRuns : Obligations.EnduranceRuns :=
  ⟨fun _ _ _ _ _ => sramCorrectedError_first, fun _ _ _ _ _ => sramCorrectedError_second,
    fun _ _ _ _ _ _ _ => sramUncorrectableError_runs, fun _ _ _ _ _ => sramUncorrectableError_control, fun _ => scrubPass_runs,
    fun _ _ _ _ _ => rowCopyComplete_runs, fun _ _ _ _ _ => loftRowFillComplete_runs, fun _ _ => poweredHour_runs,
    fun _ => holdoverAgingCorrection_runs⟩

end Sys2Proof.Machine
end

/-! # The test access port (O57, chapter 29)

Instructions, the hold and its end, scans. -/

section
namespace Sys2Proof.Machine

open Sys2Proof


variable {s u v w : State} {t : Nat} {ir : JtagIr} {bits : BitVec 5}

/-! ### Instructions of the test access port (R584, R588) -/

/-- An instruction that holds the device takes it into reset. -/
theorem holdInstr_held (drive : Bool) (hhold : s.jtag.hold = false) :
    (holdInstr ir bits drive s).jtag.ir = ir ∧ (holdInstr ir bits drive s).jtag.hold = true
      ∧ (holdInstr ir bits drive s).jtag.drive = drive ∧ (holdInstr ir bits drive s).jtag.highZ = !drive
      ∧ (holdInstr ir bits drive s).start.phase = .held := by
  unfold holdInstr
  rw [hhold]
  exact ⟨rfl, rfl, rfl, rfl, rfl⟩

/-- An instruction that holds nothing, on a device that is not held, only becomes current. -/
theorem quietInstr_free (hhold : s.jtag.hold = false) : (quietInstr ir bits s).jtag.ir = ir ∧ (quietInstr ir bits s).jtag.irBits = bits
    ∧ (quietInstr ir bits s).start = s.start := by
  unfold quietInstr
  rw [hhold]
  exact ⟨rfl, rfl, rfl⟩

/-- The end of a hold, with RESET_N released and the supply there, is the end of a reset. -/
theorem quietInstr_release (hhold : s.jtag.hold = true) (hreset : s.lands.resetN = true) (hprecond : s.plant.precond = false) :
    (quietInstr ir bits s).jtag.hold = false ∧ (quietInstr ir bits s).start.phase = .active
      ∧ (quietInstr ir bits s).start.tReset = s.now ∧ (quietInstr ir bits s).gptp.time = 0 := by
  unfold quietInstr
  dsimp only
  rw [hhold, hreset, hprecond]
  exact ⟨rfl, rfl, rfl, rfl⟩

theorem holdInstructions_run (hhold : s.jtag.hold = false) :
    Runs (.extest t) s (fun u => u.jtag.ir = .extest ∧ u.jtag.hold = true ∧ u.jtag.drive = true ∧ u.start.phase = .held)
    ∧ Runs (.highz t) s (fun u => u.jtag.ir = .highz ∧ u.jtag.hold = true ∧ u.jtag.highZ = true ∧ u.start.phase = .held)
    ∧ Runs (.clamp t) s (fun u => u.jtag.ir = .clamp ∧ u.jtag.hold = true ∧ u.jtag.drive = true ∧ u.start.phase = .held) := by
  obtain ⟨v, hv, h⟩ := s.exists_upTo t
  have hfree : (irScan v).jtag.hold = false := by
    show v.jtag.hold = false
    rw [h.jtag, hhold]
  simp only [runs_iff]
  refine ⟨?_, ?_, ?_⟩
  · show Answers (execExtest t s) _
    unfold execExtest
    rw [hv, answers_next]
    obtain ⟨hir, hheld, hdrive, -, hphase⟩ := holdInstr_held (ir := .extest) (bits := 0b00000#5) true hfree
    exact ⟨hir, hheld, hdrive, hphase⟩
  · show Answers (execHighz t s) _
    unfold execHighz
    rw [hv, answers_next]
    obtain ⟨hir, hheld, -, hhighz, hphase⟩ := holdInstr_held (ir := .highz) (bits := 0b00011#5) false hfree
    exact ⟨hir, hheld, hhighz, hphase⟩
  · show Answers (execClamp t s) _
    unfold execClamp
    rw [hv, answers_next]
    obtain ⟨hir, hheld, hdrive, -, hphase⟩ := holdInstr_held (ir := .clamp) (bits := 0b00100#5) true hfree
    exact ⟨hir, hheld, hdrive, hphase⟩

theorem quietInstructions_run (hhold : s.jtag.hold = false) :
    Runs (.idcode t) s (fun u => u.jtag.ir = .idcode ∧ u.start = s.start)
    ∧ Runs (.samplePreload t) s (fun u => u.jtag.ir = .sample ∧ u.start = s.start)
    ∧ Runs (.tapReset t) s (fun u => u.jtag.ir = .idcode ∧ u.start = s.start)
    ∧ (∀ op : BitVec 5, 5 ≤ op.toNat → Runs (.bypass t op) s (fun u =>
        u.jtag.ir = .bypass ∧ u.jtag.irBits = op ∧ u.start = s.start)) := by
  obtain ⟨v, hv, h⟩ := s.exists_upTo t
  have hfree : v.jtag.hold = false := by rw [h.jtag, hhold]
  have hscan : (irScan v).jtag.hold = false := hfree
  have hstart : (irScan v).start = s.start := h.start
  simp only [runs_iff]
  refine ⟨?_, ?_, ?_, fun op hop => ?_⟩
  · show Answers (execIdcode t s) _
    unfold execIdcode
    rw [hv, answers_next]
    obtain ⟨hir, -, hquiet⟩ := quietInstr_free (ir := .idcode) (bits := 0b00001#5) hscan
    exact ⟨hir, hquiet.trans hstart⟩
  · show Answers (execSamplePreload t s) _
    unfold execSamplePreload
    rw [hv, answers_next]
    obtain ⟨hir, -, hquiet⟩ := quietInstr_free (ir := .sample) (bits := 0b00010#5) hscan
    exact ⟨hir, hquiet.trans hstart⟩
  · show Answers (execTapReset t s) _
    unfold execTapReset
    rw [hv, answers_next]
    obtain ⟨hir, -, hquiet⟩ := quietInstr_free (ir := .idcode) (bits := 0b00001#5) hfree
    exact ⟨hir, hquiet.trans h.start⟩
  · show Answers (execBypass t op s) _
    unfold execBypass
    rw [hv, if_neg (Nat.not_lt.mpr hop), answers_next]
    obtain ⟨hir, hbits, hquiet⟩ := quietInstr_free (ir := .bypass) (bits := op) hscan
    exact ⟨hir, hbits, hquiet.trans hstart⟩

theorem tapReset_release (hhold : s.jtag.hold = true) (hreset : s.lands.resetN = true) (hprecond : s.plant.precond = false) :
    Runs (.tapReset t) s fun u =>
      u.jtag.hold = false ∧ u.start.phase = .active ∧ u.start.tReset = max s.now t ∧ u.gptp.time = 0 := by
  obtain ⟨v, hv, h⟩ := s.exists_upTo t
  rw [runs_iff]
  show Answers (execTapReset t s) _
  unfold execTapReset
  rw [hv, answers_next, ← h.now]
  exact quietInstr_release (by rw [h.jtag, hhold]) (by rw [h.lands, hreset]) (by rw [h.plant, hprecond])

/-! ### Data register scans (R584 to R587) -/

theorem shiftReg_length (n x : Nat) (l : List Bool) : (shiftReg n x l).1.length = l.length := by
  induction l generalizing x with
  | nil => rfl
  | cons b l ih => exact congrArg (· + 1) (ih _)

theorem dataRegisterScan_runs {pins : BitVec 62} {tdi : List Bool} :
    (s.jtag.ir = .idcode → Runs (.dataRegisterScan t pins tdi) s fun u =>
      u.jtag.tdo = (shiftReg 32 0x164405A7 tdi).1 ∧ u.jtag.boundary = s.jtag.boundary)
    ∧ (s.jtag.ir = .bypass → Runs (.dataRegisterScan t pins tdi) s fun u =>
      u.jtag.tdo = (shiftReg 1 0 tdi).1 ∧ u.jtag.boundary = s.jtag.boundary)
    ∧ (s.jtag.ir = .extest ∨ s.jtag.ir = .sample → Runs (.dataRegisterScan t pins tdi) s fun u =>
      u.jtag.boundary = u.jtag.shift ∧ u.jtag.tdo.length = tdi.length) := by
  obtain ⟨v, hv, h⟩ := s.exists_upTo t
  have hboundary : v.jtag.boundary = s.jtag.boundary := congrArg Jtag.boundary h.jtag
  have hruns : ∀ P, Answers (execDataRegisterScan t pins tdi s) P → Runs (.dataRegisterScan t pins tdi) s P := by
    intro P hP
    rw [runs_iff]
    exact hP
  refine ⟨fun hir => hruns _ ?_, fun hir => hruns _ ?_, fun hir => hruns _ ?_⟩
  · unfold execDataRegisterScan
    dsimp only
    rw [hv, h.jtag, hir]
    exact ⟨rfl, rfl⟩
  · unfold execDataRegisterScan
    dsimp only
    rw [hv, h.jtag, hir]
    exact ⟨rfl, rfl⟩
  · unfold execDataRegisterScan
    dsimp only
    rw [hv, h.jtag]
    rcases hir with hir | hir <;> rw [hir] <;> exact ⟨rfl, shiftReg_length ..⟩

/-- Settles O57: each instruction of the test port becomes current, those that hold the device reset it, the end of
a hold releases it, and a scan shifts the selected register. -/
theorem jtagRuns : Obligations.JtagRuns :=
  ⟨fun _ _ => holdInstructions_run, fun _ _ => quietInstructions_run, fun _ _ => tapReset_release, fun _ _ _ _ => dataRegisterScan_runs⟩

end Sys2Proof.Machine
end

/-! # The power path (O58, chapter 21)

What the charger's update leaves, VIN, the input budget, the battery switch. -/

section
namespace Sys2Proof.Machine

open Sys2Proof


variable {s u v w : State} {t mv : Nat} {p q r : Plant}

/-! ### What the charger's update leaves of the plant (R467) -/

/-- The charger's update sets its own state, timer, causes of suspension and limits, and keeps the rest. -/
def Plant.Charged (p q : Plant) : Prop := ∃ state phase preAt taperAt preMs suspend timerNs timerAt applyMa applyMv,
  q = { p with
    state := state, phase := phase, preAt := preAt, taperAt := taperAt, preMs := preMs, suspend := suspend, timerNs := timerNs
    timerAt := timerAt, applyMa := applyMa, applyMv := applyMv }

theorem Plant.Charged.refl (p : Plant) : p.Charged p := ⟨_, _, _, _, _, _, _, _, _, _, rfl⟩

theorem Plant.Charged.trans (h : p.Charged q) (k : q.Charged r) : p.Charged r := by
  obtain ⟨_, _, _, _, _, _, _, _, _, _, rfl⟩ := h
  obtain ⟨_, _, _, _, _, _, _, _, _, _, rfl⟩ := k
  exact ⟨_, _, _, _, _, _, _, _, _, _, rfl⟩

theorem applyLimits_charged (s : State) : s.plant.Charged (applyLimits s).plant := by
  unfold applyLimits
  dsimp only
  split
  · exact ⟨_, _, _, _, _, _, _, _, _, _, rfl⟩
  · split
    · exact ⟨_, _, _, _, _, _, _, _, _, _, rfl⟩
    · exact ⟨_, _, _, _, _, _, _, _, _, _, rfl⟩

theorem cutoffClear_plant (s : State) : (cutoffClear s).plant = s.plant := plant_of_allBut (cutoffClear_view _ rfl)

/-- The update begins with its timer, and with the end of a cut-off that is over. -/
theorem chargeTick_charged (s : State) : s.plant.Charged (chargeTick (cutoffClear s)).plant := by
  have hplant := cutoffClear_plant s
  generalize cutoffClear s = y at hplant ⊢
  rw [← hplant]
  exact ⟨_, _, _, _, _, _, _, _, _, _, rfl⟩

theorem suspendBy_charged (code cause : Nat) (s : State) : s.plant.Charged (suspendBy code cause s).plant :=
  ⟨_, _, _, _, _, _, _, _, _, _, rfl⟩

theorem unsuspend_charged (code cause : Nat) (s : State) : s.plant.Charged (unsuspend code cause s).plant :=
  ⟨_, _, _, _, _, _, _, _, _, _, rfl⟩

/-- The low-voltage suspension of the charger, taken and given up (R471). -/
def lowSuspension (s : State) : State :=
  let low := decide (s.plant.vbatMv < floorVolts)
  let known := s.plant.suspend.contains (0xFA13 * 256 + 2)
  if low && !known then suspendBy 0xFA13 2 (raise 0xFA13#16 2 (be 1 2 ++ be 2 s.plant.vbatMv) s)
  else if !low && known then unsuspend 0xFA13 2 (clear 0xFA13#16 2 s) else s

theorem lowSuspension_charged (s : State) : s.plant.Charged (lowSuspension s).plant := by
  unfold lowSuspension
  dsimp only
  split
  · exact .trans (by rw [raise_plant]; exact .refl _) (suspendBy_charged ..)
  · split
    · exact .trans (by rw [clear_plant]; exact .refl _) (unsuspend_charged ..)
    · exact .refl _

/-- The charger off (R467). -/
def chargeOff (s : State) : State :=
  applyLimits { s with plant := { s.plant with state := 0, phase := 0, preAt := none, taperAt := none } }

/-- The state of Table 21.5 that the voltage gives (R467). -/
def chargePhase (c : ChargeSet) (s : State) : State :=
  let p := s.plant
  if suspends s then applyLimits { s with plant := { p with state := 6, phase := 6 } }
  else
    let phase := nextPhase c p.vbatMv (if p.phase = 6 then 0 else p.phase)
    let derated := !p.fixed && phase != 4 && decide (limitedMa s c < phaseTarget c phase)
    let preAt := if phase = 1 then some (p.preAt.getD (s.now - p.preMs * ms1)) else none
    applyLimits { s with plant := { p with
      phase := phase, state := if derated then 5 else phase, preAt := preAt
      preMs := if phase = 1 then p.preMs else 0
      taperAt := if phase = 3 then p.taperAt else none } }

theorem chargerUpdate_eq (s : State) : chargerUpdate s = (let y := chargeTick (cutoffClear s)
    match chargeSet y with
    | none => chargeOff y
    | some c => if chargerOff y then chargeOff y else chargePhase c (lowSuspension y)) := by
  unfold chargerUpdate
  generalize chargeTick (cutoffClear s) = y
  cases chargeSet y with
  | none => rfl
  | some c => rfl

theorem chargeOff_charged (s : State) : s.plant.Charged (chargeOff s).plant :=
  .trans ⟨_, _, _, _, _, _, _, _, _, _, rfl⟩ (applyLimits_charged _)

theorem chargePhase_charged (c : ChargeSet) (s : State) : s.plant.Charged (chargePhase c s).plant := by
  unfold chargePhase
  dsimp only
  split
  · exact .trans ⟨_, _, _, _, _, _, _, _, _, _, rfl⟩ (applyLimits_charged _)
  · exact .trans ⟨_, _, _, _, _, _, _, _, _, _, rfl⟩ (applyLimits_charged _)

theorem chargerUpdate_charged (s : State) : s.plant.Charged (chargerUpdate s).plant := by
  rw [chargerUpdate_eq]
  refine (chargeTick_charged s).trans ?_
  generalize chargeTick (cutoffClear s) = y
  dsimp only
  split
  · exact chargeOff_charged y
  · split
    · exact chargeOff_charged y
    · exact (lowSuspension_charged y).trans (chargePhase_charged ..)

/-! ### Faults about the charger -/

theorem isActive_clear_ne {x code : BitVec 16} {w unit : Nat} (h : x ≠ code ∨ w ≠ unit) (s : State) :
    isActive x w (clear code unit s) = isActive x w s := by
  have hactive : (clear code unit s).status.active = s.status.active.filter (fun a => !(a.code == code && a.unit == unit)) := rfl
  rw [Bool.eq_iff_iff, isActive_iff, isActive_iff, hactive]
  simp only [List.mem_filter]
  grind

theorem anyActive_iff_isActive (x : BitVec 16) (s : State) : anyActive x s = true ↔ ∃ w, isActive x w s = true := by
  rw [anyActive_iff]
  constructor
  · rintro ⟨a, ha, rfl⟩
    exact ⟨a.unit, (isActive_iff ..).mpr ⟨a, ha, rfl, rfl⟩⟩
  · rintro ⟨w, h⟩
    obtain ⟨a, ha, hcode, -⟩ := (isActive_iff ..).mp h
    exact ⟨a, ha, hcode⟩

/-- The update touches no fault but the low voltages' (FA13, units 1 and 2). -/
def OtherFault (x : BitVec 16) (w : Nat) : Prop := x ≠ 0xFA13#16 ∨ w ≠ 1 ∧ w ≠ 2

theorem isActive_applyLimits (x : BitVec 16) (w : Nat) (s : State) : isActive x w (applyLimits s) = isActive x w s :=
  isActive_congr (congrArg Status.active (status_of_allBut (applyLimits_view _ rfl))) x w

theorem isActive_chargeOff (x : BitVec 16) (w : Nat) (s : State) : isActive x w (chargeOff s) = isActive x w s :=
  isActive_applyLimits ..

theorem isActive_chargePhase (x : BitVec 16) (w : Nat) (c : ChargeSet) (s : State) :
    isActive x w (chargePhase c s) = isActive x w s := by
  unfold chargePhase
  dsimp only
  split
  · exact isActive_applyLimits ..
  · exact isActive_applyLimits ..

theorem isActive_chargeTick {x : BitVec 16} {w : Nat} (h : OtherFault x w) (s : State) :
    isActive x w (chargeTick (cutoffClear s)) = isActive x w s := by
  show isActive x w (cutoffClear s) = _
  unfold cutoffClear
  split
  · exact isActive_clear_ne (h.imp_right (·.1)) s
  · rfl

theorem isActive_suspendBy (x : BitVec 16) (w code cause : Nat) (s : State) : isActive x w (suspendBy code cause s) = isActive x w s := rfl

theorem isActive_unsuspend (x : BitVec 16) (w code cause : Nat) (s : State) : isActive x w (unsuspend code cause s) = isActive x w s := rfl

theorem isActive_lowSuspension {x : BitVec 16} {w : Nat} (h : OtherFault x w) (s : State) :
    isActive x w (lowSuspension s) = isActive x w s := by
  unfold lowSuspension
  dsimp only
  split
  · rw [isActive_suspendBy]
    rcases h with h | ⟨-, h⟩
    · exact isActive_raise_ne h.symm ..
    · exact isActive_raise_other h ..
  · split
    · rw [isActive_unsuspend]
      exact isActive_clear_ne (h.imp_right (·.2)) s
    · rfl

theorem isActive_chargerUpdate {x : BitVec 16} {w : Nat} (h : OtherFault x w) (s : State) :
    isActive x w (chargerUpdate s) = isActive x w s := by
  rw [chargerUpdate_eq, ← isActive_chargeTick h s]
  generalize chargeTick (cutoffClear s) = y
  dsimp only
  split
  · exact isActive_chargeOff ..
  · split
    · exact isActive_chargeOff ..
    · exact (isActive_chargePhase ..).trans (isActive_lowSuspension h y)

theorem anyActive_chargerUpdate {x : BitVec 16} (h : x ≠ 0xFA13#16) (s : State) : anyActive x (chargerUpdate s) = anyActive x s := by
  rw [Bool.eq_iff_iff, anyActive_iff_isActive, anyActive_iff_isActive]
  simp only [isActive_chargerUpdate (.inl h)]

/-! ### The power path (R459 to R462, R465, R471) -/

theorem chargerUpdate_now (s : State) : (chargerUpdate s).now = s.now := now_of_view (P := allBut []) (chargerUpdate_view _ rfl)

/-- With no valid VIN the charger is off. -/
theorem chargerUpdate_state (hvin : s.plant.vinValid = false) : (chargerUpdate s).plant.state = 0 := by
  have hoff : ∀ y : State, (chargeOff y).plant.state = 0 := fun y => by
    unfold chargeOff applyLimits
    dsimp only
    split
    · rfl
    · split <;> rfl
  have htick : (chargeTick (cutoffClear s)).plant.vinValid = false := by
    obtain ⟨_, _, _, _, _, _, _, _, _, _, h⟩ := chargeTick_charged s
    rw [h, ← hvin]
  rw [chargerUpdate_eq]
  generalize chargeTick (cutoffClear s) = y at htick ⊢
  dsimp only
  split
  · exact hoff y
  · rw [if_pos (by simp [chargerOff, htick])]
    exact hoff y

theorem wakeNow_plant (s : State) : (wakeNow s).plant = s.plant := plant_of_allBut (wakeNow_view _ rfl)

theorem podlYield_plant (s : State) : (podlYield s).plant = s.plant := plant_of_allBut (podlYield_view _ rfl)

theorem anyActive_wakeNow (x : BitVec 16) (s : State) : anyActive x (wakeNow s) = anyActive x s := by
  unfold wakeNow
  split
  · generalize hy : wakeWells _ = y
    have hstatus : y.status = s.status := by rw [← hy, status_of_allBut (wakeWells_view _ rfl)]
    show anyActive x y = _
    exact anyActive_congr hstatus x
  · rfl

theorem clearActive_plant (x : BitVec 16) (s : State) : (if anyActive x s then clearAll x s else s).plant = s.plant
    ∧ (if anyActive x s then clearAll x s else s).start = s.start ∧ (if anyActive x s then clearAll x s else s).sleep = s.sleep
    ∧ (if anyActive x s then clearAll x s else s).now = s.now := by
  split <;> exact ⟨rfl, rfl, rfl, rfl⟩

theorem vinValid_runs : Runs (.vinValid t mv) s fun u =>
    u.plant.vinValid = true ∧ u.plant.vinPath = true ∧ u.plant.sysGate = false ∧ u.plant.vsysMv = mv
      ∧ anyActive 0xFA01#16 u = false
      ∧ (inMode .slumber s = true → s.sleep.wakeAt = none → u.sleep.wakeAt = some (max s.now t)) := by
  obtain ⟨v, hv, h⟩ := s.exists_upTo t
  rw [runs_iff]
  show Answers (execVinValid t mv s) _
  unfold execVinValid
  dsimp only
  rw [hv, answers_next]
  generalize hy : withPlant _ v = y
  have hplant : y.plant.vinValid = true ∧ y.plant.vinPath = true ∧ y.plant.sysGate = false ∧ y.plant.vsysMv = mv := by
    rw [← hy]
    exact ⟨rfl, rfl, rfl, rfl⟩
  have hsame : y.start = s.start ∧ y.sleep = s.sleep ∧ y.now = max s.now t := by
    rw [← hy, ← h.start, ← h.sleep, ← h.now]
    exact ⟨rfl, rfl, rfl⟩
  clear hy
  obtain ⟨hzplant, hzstart, hzsleep, hznow⟩ := clearActive_plant 0xFA01#16 y
  obtain ⟨-, -, hzactive⟩ := clearActive_fields 0xFA01#16 y
  generalize (if anyActive 0xFA01#16 y then clearAll 0xFA01#16 y else y) = z at *
  have hcharged := chargerUpdate_charged (podlYield (wakeNow z))
  rw [podlYield_plant, wakeNow_plant, hzplant] at hcharged
  obtain ⟨_, _, _, _, _, _, _, _, _, _, hplant'⟩ := hcharged
  rw [hplant', sleep_of_allBut (chargerUpdate_view _ rfl), anyActive_chargerUpdate (by decide),
    anyActive_congr (status_of_allBut (podlYield_view _ rfl)), anyActive_wakeNow, sleep_of_allBut (podlYield_view _ rfl)]
  obtain ⟨hvalid, hpath, hgate, hvsys⟩ := hplant
  obtain ⟨hstart, hsleep, hnow⟩ := hsame
  refine ⟨hvalid, hpath, hgate, hvsys, hzactive, fun hmode hwake => ?_⟩
  have hwoken := wakeNow_woken (s := z) (by rw [inMode, hzstart, hstart]; exact hmode) (by rw [hzsleep, hsleep, hwake])
  rw [hwoken.wakeAt, hznow, hnow]

theorem vinLost_runs {mean : Nat} (hvin : s.plant.vinValid = true) : Runs (.vinLost t mv mean) s fun u =>
    u.plant.vinValid = false ∧ u.plant.vinPath = false ∧ u.plant.vinLostAt = some (max s.now t)
      ∧ u.plant.sysGate = switchMay s ∧ u.plant.state = 0 := by
  obtain ⟨v, hv, h⟩ := s.exists_upTo t
  have hmay : switchMay v = switchMay s := by
    unfold switchMay lvl
    rw [h.plant, h.start, h.straps]
  rw [runs_iff]
  show Answers (execVinLost t mv mean s) _
  unfold execVinLost
  dsimp only
  rw [hv, if_neg (by rw [h.plant, hvin]; decide), answers_next]
  generalize hy : withPlant _ (setSwitch _) = y
  have hplant : y.plant.vinValid = false ∧ y.plant.vinPath = false ∧ y.plant.vinLostAt = some (max s.now t)
      ∧ y.plant.sysGate = switchMay s := by
    rw [← hy, ← h.now, ← hmay]
    exact ⟨rfl, rfl, rfl, rfl⟩
  clear hy
  have hstate := chargerUpdate_state hplant.1
  obtain ⟨_, _, _, _, _, _, _, _, _, _, hplant'⟩ := chargerUpdate_charged y
  obtain ⟨hvalid, hpath, hlost, hgate⟩ := hplant
  refine ⟨?_, ?_, ?_, ?_, hstate⟩ <;> rw [hplant']
  exacts [hvalid, hpath, hlost, hgate]

theorem vinRangeTimeout_runs (hvin : s.plant.vinValid = false) (hmv : 2000 < mv) (hawake : awake s = true) :
    Runs (.vinRangeTimeout t mv) s fun u => anyActive 0xFA01#16 u = true ∧ u.plant.vinMv = mv := by
  obtain ⟨v, hv, h⟩ := s.exists_upTo t
  rw [runs_iff]
  show Answers (execVinRangeTimeout t mv s) _
  unfold execVinRangeTimeout
  dsimp only
  rw [hv]
  have hvalid : (withPlant (fun p => { p with vinMv := mv }) v).plant.vinValid = false := by
    rw [← hvin, ← h.plant]
    rfl
  have hawake' : awake (withPlant (fun p => { p with vinMv := mv }) v) = true := by
    rw [← hawake, ← h.awake]
    rfl
  rw [hvalid, hawake', if_neg (by simp [Nat.not_le.mpr hmv]), answers_next, raise_plant]
  exact ⟨anyActive_raise_self rfl .., rfl⟩

/-- A turn of the input budget's loop with a drawn value (R462). -/
def budgetTurn (above : Bool) (k : Nat) (s : State) : State :=
  let p := s.plant
  let ma := min p.limitMa p.applyMa
  if above && decide (0 < ma) then withPlant (fun p => { p with limitMa := k % ma }) s
  else if above then withPlant (fun p => { p with limitMa := 0, plantCapMw := some (k % max 1 (p.plantCapMw.getD 30000)) }) s
  else if p.plantCapMw.isSome then
    withPlant (fun p => { p with plantCapMw := if k % 2 = 0 then none else p.plantCapMw.map (· + k % 1000) }) s
  else withPlant (fun p => { p with limitMa := min 65535 (p.limitMa + k % 1000) }) s

theorem budgetTurn_kept (above : Bool) (k : Nat) (s : State) : (budgetTurn above k s).freeCtr = s.freeCtr
    ∧ (budgetTurn above k s).plant.vsysMv = s.plant.vsysMv := by
  unfold budgetTurn
  dsimp only
  split
  · exact ⟨rfl, rfl⟩
  · split
    · exact ⟨rfl, rfl⟩
    · split <;> exact ⟨rfl, rfl⟩

/-- Above the budget the limit falls below the current that flows. -/
theorem budgetTurn_above (k : Nat) (hflows : 0 < min s.plant.limitMa s.plant.applyMa) :
    (budgetTurn true k s).plant.limitMa < min s.plant.limitMa s.plant.applyMa := by
  unfold budgetTurn
  dsimp only
  rw [if_pos (by simpa using hflows)]
  exact Nat.mod_lt k hflows

/-- Within the budget the limit does not fall. -/
theorem budgetTurn_within (k : Nat) (hcap : s.plant.plantCapMw = none) (hlimit : s.plant.limitMa ≤ 65535) :
    s.plant.limitMa ≤ (budgetTurn false k s).plant.limitMa := by
  unfold budgetTurn
  dsimp only
  rw [if_neg (by simp), if_neg (by simp), if_neg (by simp [hcap])]
  exact Nat.le_min.mpr ⟨hlimit, Nat.le_add_right ..⟩

theorem exec_inputBudgetLoop {vinMv vinMa vsysMv : Nat} (hvin : s.plant.vinValid = true) (hv : s.upTo t = v) (h : Elapsed s t v) :
    ∃ (k : Nat) (b : State), b.freeCtr = s.freeCtr + 1 ∧ b.plant = { s.plant with vinMv := vinMv, vsysMv := vsysMv }
      ∧ exec (.inputBudgetLoop t vinMv vinMa vsysMv) s
        = .next (chargerUpdate (budgetTurn (decide (inputBudget s vinMv < vinMv * vinMa / 1000)) k b)) := by
  have hvalid : (withPlant (fun p => { p with vinMv := vinMv, vsysMv := vsysMv }) v).plant.vinValid = true := by
    rw [← hvin, ← h.plant]
    rfl
  have hbudget : inputBudget (drawFree (withPlant (fun p => { p with vinMv := vinMv, vsysMv := vsysMv }) v)).2 vinMv
      = inputBudget s vinMv := by
    unfold inputBudget
    rw [← h.podl]
    rfl
  refine ⟨(drawFree (withPlant (fun p => { p with vinMv := vinMv, vsysMv := vsysMv }) v)).1,
    (drawFree (withPlant (fun p => { p with vinMv := vinMv, vsysMv := vsysMv }) v)).2, ?_, ?_, ?_⟩
  rotate_left 2
  · show execInputBudgetLoop t vinMv vinMa vsysMv s = _
    unfold execInputBudgetLoop
    rw [hv]
    dsimp only
    rw [hvalid, if_neg (by decide), hbudget]
    rfl
  · exact congrArg (· + 1) h.freeCtr
  · rw [← h.plant]
    rfl

theorem inputBudgetLoop_runs {vinMv vinMa vsysMv : Nat} (hvin : s.plant.vinValid = true) :
    Runs (.inputBudgetLoop t vinMv vinMa vsysMv) s fun u =>
      u.freeCtr = s.freeCtr + 1 ∧ u.plant.vsysMv = vsysMv
        ∧ (inputBudget s vinMv < vinMv * vinMa / 1000 → 0 < min s.plant.limitMa s.plant.applyMa →
            u.plant.limitMa < min s.plant.limitMa s.plant.applyMa)
        ∧ (vinMv * vinMa / 1000 ≤ inputBudget s vinMv → s.plant.plantCapMw = none → s.plant.limitMa ≤ 65535 →
            s.plant.limitMa ≤ u.plant.limitMa) := by
  obtain ⟨v, hv, h⟩ := s.exists_upTo t
  obtain ⟨k, b, hfree, hplant, hexec⟩ := exec_inputBudgetLoop (vinMa := vinMa) (vsysMv := vsysMv) (vinMv := vinMv) hvin hv h
  rw [runs_iff, hexec, answers_next]
  obtain ⟨hkfree, hkvsys⟩ := budgetTurn_kept (decide (inputBudget s vinMv < vinMv * vinMa / 1000)) k b
  obtain ⟨_, _, _, _, _, _, _, _, _, _, hcharged⟩ :=
    chargerUpdate_charged (budgetTurn (decide (inputBudget s vinMv < vinMv * vinMa / 1000)) k b)
  rw [hcharged, freeCtr_of_allBut (chargerUpdate_view _ rfl), hkfree, hfree]
  have hlimits : b.plant.limitMa = s.plant.limitMa ∧ b.plant.applyMa = s.plant.applyMa ∧ b.plant.plantCapMw = s.plant.plantCapMw := by
    rw [hplant]
    exact ⟨rfl, rfl, rfl⟩
  obtain ⟨hlimit, happly, hcap⟩ := hlimits
  refine ⟨rfl, hkvsys.trans (congrArg Plant.vsysMv hplant), fun habove hflows => ?_, fun hwithin hnone hmax => ?_⟩
  · rw [← hlimit, ← happly, decide_eq_true habove] at *
    exact budgetTurn_above k hflows
  · rw [← hlimit, decide_eq_false (Nat.not_lt.mpr hwithin)] at *
    exact budgetTurn_within k (hcap.trans hnone) hmax

theorem batteryAbsentTimeout_runs {l : Nat} (hlatch : s.start.tLatch = some l) (habsent : s.plant.absent = true)
    (hsetup : (battSetup (lvlD s 12)).isSome = true) (hactive : anyActive 0xFA10#16 s = false) (hawake : awake s = true) :
    Runs .batteryAbsentTimeout s fun u =>
      anyActive 0xFA10#16 u = true ∧ u.now = max s.now (max l (s.plant.absentAt.getD l) + sec1) := by
  obtain ⟨v, hv, h⟩ := s.exists_upTo (max l (s.plant.absentAt.getD l) + sec1)
  rw [runs_iff]
  show Answers (execBatteryAbsentTimeout s) _
  unfold execBatteryAbsentTimeout
  rw [hlatch]
  dsimp only
  rw [if_pos (by simp [habsent, hsetup, hactive, hawake]), hv, answers_next]
  exact ⟨anyActive_raise_self rfl .., h.now⟩

theorem dischargeCutoff_runs (hvin : s.plant.vinValid = false) (hgate : s.plant.sysGate = true) (hopen : s.plant.openAt = none)
    (hlatch : s.start.tLatch.isSome = true) (hlow : mv < cutoffMv s) : Runs (.dischargeCutoff t mv) s fun u =>
      u.plant.openAt = some (max s.now t + 20 * ms1) ∧ u.plant.vbatMv = mv ∧ u.plant.sysGate = true := by
  obtain ⟨v, hv, h⟩ := s.exists_upTo t
  rw [runs_iff]
  show Answers (execDischargeCutoff t mv s) _
  unfold execDischargeCutoff
  dsimp only
  rw [hv]
  generalize hy : withPlant (fun p => { p with vbatMv := mv }) v = y
  have hplant : y.plant = { s.plant with vbatMv := mv } := by
    rw [← hy, ← h.plant]
    rfl
  have hcut : cutoffMv y = cutoffMv s := by
    rw [← hy]
    unfold cutoffMv
    rw [show lvlD (withPlant (fun p => { p with vbatMv := mv }) v) 12 = lvlD s 12 from h.lvlD 12]
  have hsame : y.start = s.start ∧ y.now = max s.now t := by
    rw [← hy]
    exact ⟨h.start, h.now⟩
  clear hy
  obtain ⟨hstart, hnow⟩ := hsame
  rw [if_neg (by simp [hplant, hvin, hgate, hopen, hstart, Option.isSome_iff_ne_none.mp hlatch]), if_pos (by rw [hcut]; exact hlow), answers_next]
  generalize hz : (if y.sleep.down then y else _) = z
  have hkept : z.plant = y.plant := by
    rw [← hz]
    split
    · rfl
    · exact raise_plant ..
  clear hz
  unfold withPlant
  dsimp only
  rw [hkept, hplant, hnow]
  exact ⟨rfl, rfl, hgate⟩

theorem batterySwitchOpen_runs {a : Nat} (hopen : s.plant.openAt = some a) :
    (s.plant.vinValid = true → Runs .batterySwitchOpen s fun u =>
      u.plant.sysGate = false ∧ u.plant.switchOff = true ∧ u.plant.openAt = none ∧ u.start = s.start)
    ∧ (s.plant.vinValid = false → Runs .batterySwitchOpen s fun u =>
      u.start.phase = .held ∧ u.start.cause = .supplySupervisor) := by
  obtain ⟨v, hv, h⟩ := s.exists_upTo a
  have hvalid : (withPlant (fun p => { p with sysGate := false, switchOff := true, openAt := none }) v).plant.vinValid = s.plant.vinValid := by
    rw [← h.plant]
    rfl
  refine ⟨fun hvin => ?_, fun hvin => ?_⟩
  · rw [runs_iff]
    show Answers (execBatterySwitchOpen s) _
    unfold execBatterySwitchOpen
    rw [hopen]
    dsimp only
    rw [hv, if_pos (hvalid.trans hvin), answers_next]
    exact ⟨rfl, rfl, rfl, h.start⟩
  · rw [runs_iff]
    show Answers (execBatterySwitchOpen s) _
    unfold execBatterySwitchOpen
    rw [hopen]
    dsimp only
    rw [hv, if_neg (by rw [hvalid, hvin]; decide), answers_next]
    exact ⟨rfl, rfl⟩

/-- What a reading of the pack leaves: the causes of suspension, and whether the pack is there. -/
theorem senseFault_charged (cause : Nat) (bad : Bool) (s : State) : s.plant.Charged (senseFault cause bad s).plant := by
  unfold senseFault
  split
  · exact .trans (by rw [raise_plant]; exact .refl _) (suspendBy_charged ..)
  · exact .refl _

theorem takeReading_plant (c : ChargeSet) (x : PackReading) (s : State) : (takeReading c x s).plant.vbatMv = x.vbatMv
    ∧ (takeReading c x s).plant.packMa = x.packMa
    ∧ (takeReading c x s).plant.absent = (s.plant.absent || (decide (970000 < x.ntcPpm) && decide (x.vbatMv < 2000)))
    ∧ (takeReading c x s).plant.thetaNk = s.plant.thetaNk ∧ (takeReading c x s).plant.restAt = s.plant.restAt := by
  unfold takeReading
  dsimp only
  generalize hy : withPlant _ s = y
  have hplant : y.plant.vbatMv = x.vbatMv ∧ y.plant.packMa = x.packMa
      ∧ y.plant.absent = (s.plant.absent || (decide (970000 < x.ntcPpm) && decide (x.vbatMv < 2000)))
      ∧ y.plant.thetaNk = s.plant.thetaNk ∧ y.plant.restAt = s.plant.restAt := by
    rw [← hy]
    exact ⟨rfl, rfl, rfl, rfl, rfl⟩
  clear hy
  obtain ⟨_, _, _, _, _, _, _, _, _, _, hcharged⟩ := (senseFault_charged 2 x.implausible y).trans
    ((senseFault_charged 1 ((decide (970000 < x.ntcPpm) && !(decide (970000 < x.ntcPpm) && decide (x.vbatMv < 2000))) || decide (x.ntcPpm < 30000)) _).trans
      (senseFault_charged 0 x.stageBad _))
  rw [hcharged]
  exact hplant

theorem setSwitch_kept (s : State) : (setSwitch s).plant.absent = s.plant.absent ∧ (setSwitch s).plant.vbatMv = s.plant.vbatMv
    ∧ (setSwitch s).status = s.status :=
  ⟨rfl, rfl, rfl⟩

/-- What follows on a pack that is there: its absence is over, and the charger's update. -/
def packSeen (z : State) : State :=
  let w := if anyActive 0xFA10#16 z then clearAll 0xFA10#16 z else z
  podlYield (chargerUpdate (if w.plant.vinValid then w else setSwitch w))

theorem packSeen_kept {z : State} : (packSeen z).plant.absent = z.plant.absent ∧ (packSeen z).plant.vbatMv = z.plant.vbatMv
    ∧ anyActive 0xFA10#16 (packSeen z) = false := by
  unfold packSeen
  dsimp only
  obtain ⟨hwplant, -, -, -⟩ := clearActive_plant 0xFA10#16 z
  obtain ⟨-, -, hwactive⟩ := clearActive_fields 0xFA10#16 z
  generalize (if anyActive 0xFA10#16 z then clearAll 0xFA10#16 z else z) = w at *
  generalize hr : (if w.plant.vinValid then w else setSwitch w) = r
  have hrkept : r.plant.absent = w.plant.absent ∧ r.plant.vbatMv = w.plant.vbatMv ∧ r.status = w.status := by
    rw [← hr]
    split
    · exact ⟨rfl, rfl, rfl⟩
    · exact setSwitch_kept w
  clear hr
  obtain ⟨hrabsent, hrvbat, hrstatus⟩ := hrkept
  obtain ⟨_, _, _, _, _, _, _, _, _, _, hcharged⟩ := chargerUpdate_charged r
  rw [podlYield_plant, hcharged, anyActive_congr (status_of_allBut (podlYield_view _ rfl)), anyActive_chargerUpdate (by decide),
    anyActive_congr hrstatus, ← hwplant]
  exact ⟨hrabsent, hrvbat, hwactive⟩

theorem packConnected_runs {x : PackReading} (hpack : x.ntcPpm ≤ 970000 ∨ 2000 ≤ x.vbatMv) : Runs (.packConnected t x) s fun u =>
    u.plant.absent = false ∧ u.plant.vbatMv = x.vbatMv ∧ anyActive 0xFA10#16 u = false := by
  obtain ⟨v, hv, -⟩ := s.exists_upTo t
  have hthere : (decide (970000 < x.ntcPpm) && decide (x.vbatMv < 2000)) = false := by
    simp only [Bool.and_eq_false_iff, decide_eq_false_iff_not]
    omega
  rw [runs_iff]
  show Answers (execPackConnected t x s) _
  unfold execPackConnected
  dsimp only
  rw [hv, if_neg (by omega), answers_next]
  generalize hy : withPlant _ v = y
  have hplant : y.plant.absent = false ∧ y.plant.vbatMv = x.vbatMv := by
    rw [← hy]
    exact ⟨rfl, rfl⟩
  clear hy
  cases chargeSet y with
  | none =>
    obtain ⟨habsent, hvbat, hactive⟩ := packSeen_kept (z := y)
    exact ⟨habsent.trans hplant.1, hvbat.trans hplant.2, hactive⟩
  | some c =>
    obtain ⟨hreadVbat, -, hreadAbsent, -, -⟩ := takeReading_plant c x y
    rw [hplant.1, hthere] at hreadAbsent
    obtain ⟨habsent, hvbat, hactive⟩ := packSeen_kept (z := takeReading c x y)
    exact ⟨habsent.trans hreadAbsent, hvbat.trans hreadVbat, hactive⟩

/-- Settles O58: VIN comes and goes, the input budget bounds the charge current, an absent battery is reported, and the
battery switch opens at its limit. -/
theorem powerPathRuns : Obligations.PowerPathRuns :=
  ⟨fun _ _ _ => vinValid_runs, fun _ _ _ _ => vinLost_runs, fun _ _ _ => vinRangeTimeout_runs,
    fun _ _ _ _ _ => inputBudgetLoop_runs, fun _ _ => batteryAbsentTimeout_runs, fun _ _ _ => dischargeCutoff_runs,
    fun _ _ => batterySwitchOpen_runs, fun _ _ _ => packConnected_runs⟩

end Sys2Proof.Machine
end

/-! # The charger (O59, chapter 21)

Limits, timers and causes of suspension, readings of the pack, the state by voltage. -/

section
namespace Sys2Proof.Machine

open Sys2Proof


variable {s u v w : State} {t mv : Nat} {c : ChargeSet}

/-! ### The charger (R465, R467 to R472) -/

theorem chargeSet_congr (hstraps : u.straps = s.straps) (hgran : u.gran = s.gran) : chargeSet u = chargeSet s := by
  unfold chargeSet lvlD lvl
  rw [hstraps, hgran]

theorem Elapsed.chargeSet (h : Elapsed s t v) : Machine.chargeSet v = Machine.chargeSet s := chargeSet_congr h.straps h.gran

theorem Elapsed.requestNow (h : Elapsed s t v) : Machine.requestNow v = Machine.requestNow s := by
  unfold Machine.requestNow limitedMa
  rw [h.chargeSet, h.plant]

theorem requestedLimits_runs (hrun : s.start.tRun.isSome = true) (hsafe : inMode .safe s = false) (hslumber : inMode .slumber s = false)
    (hlink : s.plant.linkLost = none) (hmiss : s.thr.missRow = 0) : Runs (.requestedLimits t) s fun u =>
      u.plant.req = requestNow s ∧ u.plant.reqAt = some (max s.now t) ∧ u.plant.reqSince.isSome = true := by
  obtain ⟨v, hv, h⟩ := s.exists_upTo t
  rw [runs_iff]
  show Answers (execRequestedLimits t s) _
  unfold execRequestedLimits
  dsimp only
  rw [hv, if_neg (by simp [h.start, h.inMode, h.plant, h.thr, Option.isSome_iff_ne_none.mp hrun, hsafe, hslumber, hlink, hmiss]), answers_next]
  generalize hy : withPlant _ v = y
  have hplant : y.plant.req = requestNow s ∧ y.plant.reqAt = some (max s.now t) ∧ y.plant.reqSince.isSome = true := by
    rw [← hy, ← h.requestNow, ← h.now]
    refine ⟨rfl, rfl, ?_⟩
    unfold withPlant
    dsimp only
    split
    · split <;> rfl
    · rfl
  clear hy
  obtain ⟨_, _, _, _, _, _, _, _, _, _, hcharged⟩ := applyLimits_charged y
  rw [hcharged]
  exact hplant

theorem fixedThresholdEntry_runs {a : Nat} (hat : s.plant.reqAt = some a) (hfixed : s.plant.fixed = false) :
    Runs .fixedThresholdEntry s fun u =>
      u.plant.fixed = true ∧ u.plant.reqSince = none ∧ u.now = max s.now (a + 10 * ms1) := by
  obtain ⟨v, hv, h⟩ := s.exists_upTo (a + 10 * ms1)
  rw [runs_iff]
  show Answers (execFixedThresholdEntry s) _
  unfold execFixedThresholdEntry
  rw [hat]
  dsimp only
  rw [if_neg (by rw [hfixed]; decide), hv, answers_next, chargerUpdate_now]
  generalize hy : withPlant _ v = y
  have hkept : y.plant.fixed = true ∧ y.plant.reqSince = none ∧ y.now = max s.now (a + 10 * ms1) := by
    rw [← hy]
    exact ⟨rfl, rfl, h.now⟩
  clear hy
  obtain ⟨_, _, _, _, _, _, _, _, _, _, hcharged⟩ := chargerUpdate_charged y
  rw [hcharged]
  exact hkept

theorem fixedThresholdExit_runs {a : Nat} (hsince : s.plant.reqSince = some a) (hfixed : s.plant.fixed = true)
    (hsafe : inMode .safe s = false) :
    Runs .fixedThresholdExit s fun u => u.plant.fixed = false ∧ u.now = max s.now (a + 100 * ms1) := by
  obtain ⟨v, hv, h⟩ := s.exists_upTo (a + 100 * ms1)
  rw [runs_iff]
  show Answers (execFixedThresholdExit s) _
  unfold execFixedThresholdExit
  rw [hsince]
  dsimp only
  rw [if_neg (by rw [hfixed, hsafe]; decide), hv, answers_next, chargerUpdate_now]
  generalize hy : withPlant _ v = y
  have hkept : y.plant.fixed = false ∧ y.now = max s.now (a + 100 * ms1) := by
    rw [← hy]
    exact ⟨rfl, h.now⟩
  clear hy
  obtain ⟨_, _, _, _, _, _, _, _, _, _, hcharged⟩ := chargerUpdate_charged y
  rw [hcharged]
  exact hkept

/-- The limits applied leave the charger's state. -/
theorem applyLimits_state (s : State) : (applyLimits s).plant.phase = s.plant.phase ∧ (applyLimits s).plant.state = s.plant.state
    ∧ (applyLimits s).plant.soc = s.plant.soc ∧ (applyLimits s).now = s.now := by
  unfold applyLimits
  dsimp only
  split
  · exact ⟨rfl, rfl, rfl, rfl⟩
  · split <;> exact ⟨rfl, rfl, rfl, rfl⟩

theorem chargeCompleteTimer_runs {a : Nat} (htaper : s.plant.taperAt = some a) (hphase : s.plant.phase = 3) :
    Runs .chargeCompleteTimer s fun u =>
      u.plant.phase = 4 ∧ u.plant.state = 4 ∧ u.plant.soc = 100 ∧ u.now = max s.now (a + 60 * sec1) := by
  obtain ⟨v, hv, h⟩ := s.exists_upTo (a + 60 * sec1)
  rw [runs_iff]
  show Answers (execChargeCompleteTimer s) _
  unfold execChargeCompleteTimer
  rw [htaper]
  dsimp only
  rw [if_neg (by rw [hphase]; decide), hv, answers_next]
  generalize hy : setSoc _ _ = y
  have hkept : y.plant.phase = 4 ∧ y.plant.state = 4 ∧ y.plant.soc = 100 ∧ y.now = max s.now (a + 60 * sec1) := by
    rw [← hy]
    exact ⟨rfl, rfl, rfl, h.now⟩
  clear hy
  obtain ⟨hphase', hstate', hsoc', hnow'⟩ := applyLimits_state y
  rw [hphase', hstate', hsoc', hnow']
  exact hkept

/-! ### Causes of suspension -/

theorem applyLimits_suspend (s : State) : (applyLimits s).plant.suspend = s.plant.suspend := by
  unfold applyLimits
  dsimp only
  split
  · rfl
  · split <;> rfl

theorem chargePhase_suspend (c : ChargeSet) (s : State) : (chargePhase c s).plant.suspend = s.plant.suspend := by
  unfold chargePhase
  dsimp only
  split
  · exact applyLimits_suspend _
  · exact applyLimits_suspend _

theorem mem_lowSuspension_suspend {n : Nat} (hn : n ≠ 0xFA13 * 256 + 2) (hmem : n ∈ s.plant.suspend) :
    n ∈ (lowSuspension s).plant.suspend := by
  unfold lowSuspension
  dsimp only
  split
  · unfold suspendBy
    dsimp only
    rw [raise_plant]
    split
    · exact hmem
    · exact List.mem_append_left _ hmem
  · split
    · unfold unsuspend
      dsimp only
      rw [clear_plant]
      exact List.mem_filter.mpr ⟨hmem, by simpa using hn⟩
    · exact hmem

theorem chargeTick_suspend (s : State) : (chargeTick (cutoffClear s)).plant.suspend = s.plant.suspend := by
  rw [← cutoffClear_plant s]
  rfl

/-- The update takes and gives up the suspension at low voltage alone. -/
theorem mem_chargerUpdate_suspend {n : Nat} (hn : n ≠ 0xFA13 * 256 + 2) (hmem : n ∈ s.plant.suspend) :
    n ∈ (chargerUpdate s).plant.suspend := by
  rw [← chargeTick_suspend] at hmem
  rw [chargerUpdate_eq]
  generalize chargeTick (cutoffClear s) = y at hmem ⊢
  have hoff : n ∈ (chargeOff y).plant.suspend := by
    unfold chargeOff
    rw [applyLimits_suspend]
    exact hmem
  dsimp only
  split
  · exact hoff
  · split
    · exact hoff
    · rw [chargePhase_suspend]
      exact mem_lowSuspension_suspend hn hmem

theorem mem_suspendBy (code cause : Nat) (s : State) : code * 256 + cause ∈ (suspendBy code cause s).plant.suspend := by
  unfold suspendBy
  dsimp only
  split
  case isTrue hmem => simpa using hmem
  case isFalse => exact List.mem_append_right _ List.mem_cons_self

/-- A cause of suspension with its fault raised stays over the update. -/
theorem suspended_runs {code : BitVec 16} {unit : Nat} {detail : List Byte} (hstays : faultStays code = true)
    (hother : OtherFault code unit) (hn : code.toNat * 256 + unit ≠ 0xFA13 * 256 + 2) (s : State) :
    isActive code unit (chargerUpdate (suspendBy code.toNat unit (raise code unit detail s))) = true
      ∧ code.toNat * 256 + unit ∈ (chargerUpdate (suspendBy code.toNat unit (raise code unit detail s))).plant.suspend
      ∧ (chargerUpdate (suspendBy code.toNat unit (raise code unit detail s))).now = s.now := by
  rw [isActive_chargerUpdate hother, isActive_suspendBy, chargerUpdate_now]
  exact ⟨isActive_raise_self hstays .., mem_chargerUpdate_suspend hn (mem_suspendBy ..), rfl⟩

theorem chargeTimerExpiry_runs (hset : chargeSet s = some c) (hstate : s.plant.state = 2) : Runs .chargeTimerExpiry s fun u =>
    isActive 0xFA20#16 3 u = true ∧ 0xFA20 * 256 + 3 ∈ u.plant.suspend
      ∧ u.now = max s.now (s.plant.timerAt + (timerLimit c - s.plant.timerNs)) := by
  obtain ⟨v, hv, h⟩ := s.exists_upTo (s.plant.timerAt + (timerLimit c - s.plant.timerNs))
  rw [runs_iff]
  show Answers (execChargeTimerExpiry s) _
  unfold execChargeTimerExpiry
  rw [hset]
  dsimp only
  rw [if_pos (by rw [hstate]; decide), hv, answers_next]
  obtain ⟨hactive, hmem, hnow⟩ := suspended_runs (code := 0xFA20#16) (unit := 3) (detail := be 1 3) rfl (.inl (by decide)) (by decide)
    (chargeTick v)
  exact ⟨hactive, hmem, hnow.trans h.now⟩

theorem preconditionTimeout_runs {a : Nat} (hpre : s.plant.preAt = some a) (hphase : s.plant.phase = 1) :
    Runs .preconditionTimeout s fun u =>
      isActive 0xFA12#16 0 u = true ∧ 0xFA12 * 256 ∈ u.plant.suspend ∧ u.now = max s.now (a + 1800 * sec1) := by
  obtain ⟨v, hv, h⟩ := s.exists_upTo (a + 1800 * sec1)
  rw [runs_iff]
  show Answers (execPreconditionTimeout s) _
  unfold execPreconditionTimeout
  rw [hpre]
  dsimp only
  rw [if_neg (by rw [hphase]; decide), hv, answers_next]
  obtain ⟨hactive, hmem, hnow⟩ := suspended_runs (code := 0xFA12#16) (unit := 0)
    (detail := be 2 v.plant.vbatMv ++ be 2 ((v.now - a) / (60 * sec1))) rfl (.inl (by decide)) (by decide) v
  exact ⟨hactive, hmem, hnow.trans h.now⟩

theorem packOvervoltage_runs (hset : chargeSet s = some c) (hvin : s.plant.vinValid = true) (hlatch : s.start.tLatch.isSome = true)
    (hover : pack (c.cellMv + 50) < mv) : Runs (.packOvervoltage t mv) s fun u =>
      isActive 0xFA13#16 0 u = true ∧ 0xFA13 * 256 ∈ u.plant.suspend := by
  obtain ⟨v, hv, h⟩ := s.exists_upTo t
  rw [runs_iff]
  show Answers (execPackOvervoltage t mv s) _
  unfold execPackOvervoltage
  dsimp only
  rw [hv]
  generalize hy : withPlant _ v = y
  have hkept : chargeSet y = some c ∧ y.plant.vinValid = true ∧ y.start.tLatch.isSome = true := by
    rw [← hy]
    exact ⟨h.chargeSet.trans hset, (congrArg Plant.vinValid h.plant).trans hvin, (congrArg (·.tLatch.isSome) h.start).trans hlatch⟩
  clear hy
  obtain ⟨hyset, hyvin, hylatch⟩ := hkept
  rw [hyset]
  dsimp only
  rw [if_pos (by rw [hyvin, hylatch, decide_eq_true hover]; rfl), answers_next]
  obtain ⟨hactive, hmem, -⟩ := suspended_runs (code := 0xFA13#16) (unit := 0) (detail := be 1 0 ++ be 2 mv) rfl (.inr (by decide))
    (by decide) y
  exact ⟨hactive, hmem⟩

theorem socRestRecalibrate_runs {a : Nat} (hrest : s.plant.restAt = some a) (hset : chargeSet s = some c) :
    Runs .socRestRecalibrate s fun u =>
      u.plant.soc = restSoc s ∧ u.plant.restAt = some u.now ∧ u.now = max s.now (a + 1800 * sec1) := by
  obtain ⟨v, hv, h⟩ := s.exists_upTo (a + 1800 * sec1)
  have hsoc : restSoc v = restSoc s := by
    unfold restSoc
    rw [h.chargeSet, h.plant]
  rw [runs_iff]
  show Answers (execSocRestRecalibrate s) _
  unfold execSocRestRecalibrate
  rw [hrest, hset]
  dsimp only
  rw [hv, answers_next, hsoc]
  exact ⟨rfl, rfl, h.now⟩

/-! ### The state that the voltage gives (R467) -/

theorem applyLimits_phase (s : State) : (applyLimits s).plant.phase = s.plant.phase := (applyLimits_state s).1

theorem chargePhase_phase (hsuspend : s.plant.suspend = []) (c : ChargeSet) :
    (chargePhase c s).plant.phase = nextPhase c s.plant.vbatMv (if s.plant.phase = 6 then 0 else s.plant.phase) := by
  unfold chargePhase suspends
  dsimp only
  rw [if_neg (by simp [hsuspend]), applyLimits_phase]

theorem lowSuspension_none (hsuspend : s.plant.suspend = []) (hhigh : floorVolts ≤ s.plant.vbatMv) : lowSuspension s = s := by
  unfold lowSuspension
  dsimp only
  rw [hsuspend, if_neg (by simp [Nat.not_lt.mpr hhigh]), if_neg (by simp)]

theorem chargerOff_congr (hstraps : u.straps = s.straps) (hstart : u.start = s.start) (habsent : u.plant.absent = s.plant.absent)
    (hvin : u.plant.vinValid = s.plant.vinValid) (hoff : u.plant.safeOff = s.plant.safeOff) : chargerOff u = chargerOff s := by
  unfold chargerOff inMode lvlD lvl
  rw [hstraps, hstart, habsent, hvin, hoff]

/-- A charger that is on, with nothing suspended and the voltage above the floor, takes the state of its voltage. -/
theorem chargerUpdate_phase (hset : chargeSet s = some c) (hoff : chargerOff s = false) (hsuspend : s.plant.suspend = [])
    (hhigh : floorVolts ≤ s.plant.vbatMv) :
    (chargerUpdate s).plant.phase = nextPhase c s.plant.vbatMv (if s.plant.phase = 6 then 0 else s.plant.phase) := by
  have hplant := cutoffClear_plant s
  have hstraps : (chargeTick (cutoffClear s)).straps = s.straps := straps_of_allBut (cutoffClear_view _ rfl)
  have hgran : (chargeTick (cutoffClear s)).gran = s.gran := gran_of_allBut (cutoffClear_view _ rfl)
  have hstart : (chargeTick (cutoffClear s)).start = s.start := start_of_allBut (cutoffClear_view _ rfl)
  have hkept : (chargeTick (cutoffClear s)).plant.absent = s.plant.absent ∧ (chargeTick (cutoffClear s)).plant.vinValid = s.plant.vinValid
      ∧ (chargeTick (cutoffClear s)).plant.safeOff = s.plant.safeOff ∧ (chargeTick (cutoffClear s)).plant.suspend = s.plant.suspend
      ∧ (chargeTick (cutoffClear s)).plant.vbatMv = s.plant.vbatMv ∧ (chargeTick (cutoffClear s)).plant.phase = s.plant.phase := by
    generalize cutoffClear s = y at hplant
    rw [← hplant]
    exact ⟨rfl, rfl, rfl, rfl, rfl, rfl⟩
  obtain ⟨habsent, hvin, hsafe, hysuspend, hvbat, hphase⟩ := hkept
  rw [chargerUpdate_eq, ← hvbat, ← hphase]
  rw [← hysuspend] at hsuspend
  rw [← hvbat] at hhigh
  have hyset := (chargeSet_congr hstraps hgran).trans hset
  have hyoff := (chargerOff_congr hstraps hstart habsent hvin hsafe).trans hoff
  generalize chargeTick (cutoffClear s) = y at *
  dsimp only
  rw [hyset]
  dsimp only
  rw [if_neg (by rw [hyoff]; decide), lowSuspension_none hsuspend hhigh, chargePhase_phase hsuspend]

theorem chargerVoltageThreshold_runs (hset : chargeSet s = some c) (hoff : chargerOff s = false) (hsuspend : s.plant.suspend = [])
    (hhigh : floorVolts ≤ mv) : Runs (.chargerVoltageThreshold t mv) s fun u =>
      u.plant.vbatMv = mv ∧ u.plant.phase = nextPhase c mv (if s.plant.phase = 6 then 0 else s.plant.phase) := by
  obtain ⟨v, hv, h⟩ := s.exists_upTo t
  rw [runs_iff]
  show Answers (execChargerVoltageThreshold t mv s) _
  unfold execChargerVoltageThreshold
  dsimp only
  rw [hv]
  generalize hy : withPlant (fun p => { p with vbatMv := mv }) v = y
  have hplant : y.plant = { s.plant with vbatMv := mv } := by
    rw [← hy, ← h.plant]
    rfl
  have hsame : y.straps = s.straps ∧ y.start = s.start ∧ y.gran = s.gran := by
    rw [← hy]
    exact ⟨h.straps, h.start, h.gran⟩
  clear hy
  obtain ⟨hstraps, hstart, hgran⟩ := hsame
  have hlatch : s.start.tLatch.isNone = false := by
    unfold chargerOff at hoff
    simp only [Bool.or_eq_false_iff] at hoff
    tauto
  have hyoff : chargerOff y = false := by
    rw [← hoff]
    refine chargerOff_congr hstraps hstart ?_ ?_ ?_ <;> rw [hplant]
  rw [if_neg (by rw [hstart, hlatch]; decide), answers_next]
  have hphase := chargerUpdate_phase ((chargeSet_congr hstraps hgran).trans hset) hyoff (by rw [hplant]; exact hsuspend)
    (by rw [hplant]; exact hhigh)
  rw [hplant] at hphase
  refine ⟨?_, hphase⟩
  obtain ⟨_, _, _, _, _, _, _, _, _, _, hcharged⟩ := chargerUpdate_charged y
  rw [hcharged, hplant]

/-! ### A reading of the pack (R469, R470, R472) -/

/-- What a reading of the pack sets: voltage, current, rise and rest. -/
def Plant.reading (p : Plant) : Nat × Int × Int × Option Nat := (p.vbatMv, p.packMa, p.thetaNk, p.restAt)

theorem Plant.Charged.reading {p q : Plant} (h : p.Charged q) : q.reading = p.reading := by
  obtain ⟨_, _, _, _, _, _, _, _, _, _, rfl⟩ := h
  rfl

theorem suspendBy_reading (code cause : Nat) (s : State) : (suspendBy code cause s).plant.reading = s.plant.reading := rfl

theorem packHeat_plant (cause : Nat) (s : State) : (packHeat cause s).plant = s.plant := raise_plant ..

theorem zoneUpdate_reading (c : ChargeSet) (s : State) : (zoneUpdate c s).plant.reading = s.plant.reading := by
  unfold zoneUpdate
  extract_lets p cold hot y z
  have hy : y.plant.reading = s.plant.reading := rfl
  have hz : z.plant.reading = y.plant.reading := by
    unfold z
    split
    · rw [suspendBy_reading, packHeat_plant]
    · rfl
  clear_value z y
  rw [← hy, ← hz]
  split
  · rw [suspendBy_reading, packHeat_plant]
  · rfl

theorem zoneClear_reading (c : ChargeSet) (s : State) : (zoneClear c s).plant.reading = s.plant.reading := by
  unfold zoneClear
  dsimp only
  split <;> rfl

theorem countSoc_reading (ma : Int) (s : State) : (countSoc ma s).plant.reading = s.plant.reading := by
  unfold countSoc
  split <;> rfl

theorem batteryThermalUpdate_runs {x : PackReading} (hset : chargeSet s = some c) (hlatch : s.start.tLatch.isSome = true)
    (hslumber : inMode .slumber s = false) : Runs (.batteryThermalUpdate t x) s fun u =>
      u.plant.vbatMv = x.vbatMv ∧ u.plant.packMa = x.packMa
        ∧ u.plant.thetaNk = riseStep c.tau (steadyRise c.lfp x.packMa) s.plant.thetaNk
        ∧ u.plant.restAt = if x.packMa.natAbs < 20 then some (s.plant.restAt.getD (max s.now t)) else none := by
  obtain ⟨v, hv, h⟩ := s.exists_upTo t
  rw [runs_iff]
  show Answers (execBatteryThermalUpdate t x s) _
  unfold execBatteryThermalUpdate
  extract_lets y
  rw [show y = v from hv, h.chargeSet, hset]
  dsimp only
  rw [if_neg (by simp [h.start, h.inMode, Option.isSome_iff_ne_none.mp hlatch, hslumber]), answers_next]
  obtain ⟨hvbat, hma, -, htheta, hrest⟩ := takeReading_plant c x v
  have hnow : (takeReading c x v).now = v.now := now_of_view (P := allBut []) (takeReading_view _ _ _ rfl)
  generalize takeReading c x v = a at *
  generalize hb : withPlant _ a = b
  have hbreading : b.plant.reading = (x.vbatMv, x.packMa, riseStep c.tau (steadyRise c.lfp x.packMa) s.plant.thetaNk,
      if x.packMa.natAbs < 20 then some (s.plant.restAt.getD (max s.now t)) else none) := by
    rw [← hb, ← h.now, ← hvbat, ← h.plant, ← hrest, ← htheta, ← hnow]
    show (_, a.plant.packMa, _, _) = _
    rw [hma]
    rfl
  clear hb
  have hzone : (zoneClear c (if b.plant.fixed then b else zoneUpdate c b)).plant.reading = b.plant.reading := by
    rw [zoneClear_reading]
    split
    · rfl
    · exact zoneUpdate_reading c b
  generalize zoneClear c (if b.plant.fixed then b else zoneUpdate c b) = d at *
  generalize he : (if (!decide (pack (c.cellMv + 50) < x.vbatMv) && d.plant.suspend.contains (0xFA13 * 256)) = true
    then unsuspend 0xFA13 0 (clear 0xFA13#16 0 d) else d) = e
  have hereading : e.plant.reading = d.plant.reading := by
    rw [← he]
    split <;> rfl
  clear he
  rw [← hzone, ← hereading] at hbreading
  suffices hlast : ∀ f : State, f.plant.reading = e.plant.reading →
      (chargerUpdate f).plant.vbatMv = x.vbatMv ∧ (chargerUpdate f).plant.packMa = x.packMa
        ∧ (chargerUpdate f).plant.thetaNk = riseStep c.tau (steadyRise c.lfp x.packMa) s.plant.thetaNk
        ∧ (chargerUpdate f).plant.restAt = if x.packMa.natAbs < 20 then some (s.plant.restAt.getD (max s.now t)) else none by
    split
    · exact hlast _ rfl
    · exact hlast _ (countSoc_reading ..)
  intro f hf
  have hu := (chargerUpdate_charged f).reading.trans (hf.trans hbreading)
  exact ⟨congrArg (·.1) hu, congrArg (·.2.1) hu, congrArg (·.2.2.1) hu, congrArg (·.2.2.2) hu⟩

theorem batteryThermalUpdate_slumber {x : PackReading} (hslumber : inMode .slumber s = true) :
    Runs (.batteryThermalUpdate t x) s fun u => u.plant = { s.plant with vbatMv := x.vbatMv, packMa := x.packMa } := by
  obtain ⟨v, hv, h⟩ := s.exists_upTo t
  rw [runs_iff]
  show Answers (execBatteryThermalUpdate t x s) _
  unfold execBatteryThermalUpdate
  dsimp only
  rw [hv]
  have hplant : (withPlant (fun p => { p with vbatMv := x.vbatMv, packMa := x.packMa }) v).plant
      = { s.plant with vbatMv := x.vbatMv, packMa := x.packMa } := by
    rw [← h.plant]
    rfl
  split
  · exact hplant
  · rw [if_pos (by simp [h.inMode, hslumber])]
    exact hplant

/-- Settles O59: the limits asked for and the fixed thresholds, the ends of a charge and its timers, readings of the pack,
and the state that the voltage gives. -/
theorem chargerRuns : Obligations.ChargerRuns :=
  ⟨fun _ _ => requestedLimits_runs, fun _ _ => fixedThresholdEntry_runs, fun _ _ => fixedThresholdExit_runs,
    fun _ _ => chargeCompleteTimer_runs, fun _ _ => chargeTimerExpiry_runs, fun _ _ => preconditionTimeout_runs,
    fun _ _ _ _ => batteryThermalUpdate_runs, fun _ _ _ => batteryThermalUpdate_slumber, fun _ _ _ _ => packOvervoltage_runs,
    fun _ _ _ => socRestRecalibrate_runs, fun _ _ _ _ => chargerVoltageThreshold_runs⟩

end Sys2Proof.Machine
end

/-! # Loudspeakers, motor and die temperatures (O60, chapters 22 and 23)

Release, guard and faults of the loudspeakers; what the motor may be driven by; the dies' temperatures. -/

section
namespace Sys2Proof.Machine

open Sys2Proof


variable {s u v w : State} {t : Nat} {ch : Fin 2} {deg : Int}

/-! ### Loudspeakers (R484, R489 to R493) -/

theorem mapSpk_ch (k : Fin 2) (f : SpkChan → SpkChan) (s : State) : (mapSpk k f s).spk.ch[k] = f s.spk.ch[k] := get_set_fin_self ..

theorem thermalModelRelease_runs {a : Nat} (hsaturated : s.spk.ch[ch].saturated = true) (hrelease : s.spk.ch[ch].releaseAt = some a) :
    Runs (.thermalModelRelease ch) s fun u =>
      u.spk.ch[ch].saturated = false ∧ u.spk.ch[ch].gP = -600 ∧ isActive 0xFB00#16 ch.val u = false ∧ u.now = max s.now (a + sec1) := by
  obtain ⟨v, hv, h⟩ := s.exists_upTo (a + sec1)
  rw [runs_iff]
  show Answers (execThermalModelRelease ch s) _
  unfold execThermalModelRelease
  dsimp only
  rw [hsaturated, hrelease]
  dsimp only
  rw [hv, answers_next, clear_spk, mapSpk_ch]
  exact ⟨rfl, rfl, isActive_clear_self .., h.now⟩

theorem Elapsed.monoAmp (h : Elapsed s t v) : Machine.monoAmp v = Machine.monoAmp s := by
  unfold Machine.monoAmp
  rw [h.lvlD]

theorem Elapsed.strapCeiling (h : Elapsed s t v) : Machine.strapCeiling v = Machine.strapCeiling s := by
  unfold Machine.strapCeiling
  rw [h.lvlD]

theorem Elapsed.nominalCent (h : Elapsed s t v) : Machine.nominalCent v = Machine.nominalCent s := by
  unfold Machine.nominalCent
  rw [h.gran, h.monoAmp]

theorem speakerGuard_runs (hon : s.spk.ch[ch].on = true) (hmono : monoAmp s = false)
    (hover : strapCeiling s * 12 < meanMw s.spk.ch[ch].secMw * 10) : Runs (.speakerGuard t ch) s fun u =>
      u.spk.ch[ch].guard = some (max s.now t + sec1) ∧ u.spk.ch[ch].on = true := by
  obtain ⟨v, hv, h⟩ := s.exists_upTo t
  have hpower : (if ch == 0 then meanMw s.spk.ch[0].secMw else meanMw s.spk.ch[1].secMw) = meanMw s.spk.ch[ch].secMw := by
    fin_cases ch <;> rfl
  rw [runs_iff]
  show Answers (execSpeakerGuard t ch s) _
  unfold execSpeakerGuard
  dsimp only
  rw [hv, h.monoAmp, hmono, if_neg Bool.false_ne_true, h.spk, hpower, h.strapCeiling,
    if_pos (by rw [hon, decide_eq_true hover]; rfl), answers_next, mapSpk_ch, h.spk, h.now]
  exact ⟨rfl, hon⟩

theorem speakerOvercurrent_runs {stage : Fin 2} {short : Bool} (hpowered : powered s = true) :
    Runs (.speakerOvercurrent t stage short) s fun u =>
      u.spk.fault = true ∧ (∀ i : Fin 2, u.spk.ch[i].on = false) ∧ isActive 0xFB01#16 stage.val u = true := by
  obtain ⟨v, hv, h⟩ := s.exists_upTo t
  rw [runs_iff]
  show Answers (execSpeakerOvercurrent t stage short s) _
  unfold execSpeakerOvercurrent
  dsimp only
  rw [hv, if_neg (by rw [h.powered, hpowered]; decide), answers_next, raise_spk]
  refine ⟨rfl, fun i => ?_, isActive_raise_self rfl ..⟩
  simp

theorem openLoadDetect_runs {cent : Nat} (hon : s.spk.ch[ch].on = true) :
    (4 * nominalCent s < cent → s.spk.ch[ch].openLoad = false → Runs (.openLoadDetect t ch cent) s fun u =>
      u.spk.ch[ch].openLoad = true ∧ isActive 0xFB02#16 ch.val u = true)
    ∧ (cent ≤ 2 * nominalCent s → s.spk.ch[ch].openLoad = true → Runs (.openLoadDetect t ch cent) s fun u =>
      u.spk.ch[ch].openLoad = false ∧ isActive 0xFB02#16 ch.val u = false) := by
  obtain ⟨v, hv, h⟩ := s.exists_upTo t
  have hon' : v.spk.ch[ch].on = true := by rw [h.spk]; exact hon
  refine ⟨fun hcent hopen => ?_, fun hcent hopen => ?_⟩
  · rw [runs_iff]
    show Answers (execOpenLoadDetect t ch cent s) _
    unfold execOpenLoadDetect
    dsimp only
    rw [hv, if_neg (by rw [hon']; decide), h.nominalCent, if_pos (by rw [h.spk, hopen, decide_eq_true hcent]; rfl), answers_next,
      raise_spk, mapSpk_ch]
    exact ⟨rfl, isActive_raise_self rfl ..⟩
  · rw [runs_iff]
    show Answers (execOpenLoadDetect t ch cent s) _
    unfold execOpenLoadDetect
    dsimp only
    rw [hv, if_neg (by rw [hon']; decide), h.nominalCent, if_neg (by rw [h.spk, hopen]; simp),
      if_pos (by rw [h.spk, hopen, decide_eq_true hcent]; rfl), answers_next, clear_spk, mapSpk_ch]
    exact ⟨rfl, isActive_clear_self ..⟩

/-! ### The motor (R495, R496, R498) -/

/-- What the motor may be driven by. -/
theorem motorMay_congr (hstraps : u.straps = s.straps) (hrouting : u.routing = s.routing) (hblocks : u.blocks = s.blocks)
    (hstart : u.start = s.start) (hred : u.red = s.red) (hthr : u.thr = s.thr) (hplant : u.plant = s.plant)
    (hfault : u.motor.posFault = s.motor.posFault) (hhold : u.motor.holdUntil = s.motor.holdUntil)
    (hheld : u.motor.heldOff = s.motor.heldOff) : motorMay u = motorMay s := by
  unfold motorMay lvlD lvl inMode servedBy
  rw [hstraps, hrouting, hblocks, hstart, hred, hthr, hplant, hfault, hhold, hheld]

/-- The motor is driven or not; what it reads, and what holds it off, stays. -/
structure Driven (s u : State) : Prop where
  driven : u.motor.driven = motorMay s
  ma : u.motor.ma = s.motor.ma
  posMv : u.motor.posMv = s.motor.posMv
  pvddMv : u.motor.pvddMv = s.motor.pvddMv
  posFault : u.motor.posFault = s.motor.posFault
  holdUntil : u.motor.holdUntil = s.motor.holdUntil
  heldOff : u.motor.heldOff = s.motor.heldOff

theorem setDriven_driven (s : State) : Driven s (setDriven s) := by
  unfold setDriven
  split
  next hmay => exact ⟨hmay.symm, rfl, rfl, rfl, rfl, rfl, rfl⟩
  next hmay => exact ⟨(Bool.eq_false_iff.mpr hmay).symm, rfl, rfl, rfl, rfl, rfl, rfl⟩

theorem setDriven_now (s : State) : (setDriven s).now = s.now := by
  unfold setDriven
  split <;> rfl

theorem setDriven_status (s : State) : (setDriven s).status = s.status := by
  unfold setDriven
  split <;> rfl

theorem setDriven_plant (s : State) : (setDriven s).plant = s.plant := by
  unfold setDriven
  split <;> rfl

theorem setDriven_spk (s : State) : (setDriven s).spk = s.spk := by
  unfold setDriven
  split <;> rfl

/-- The settling of the motor's faults leaves what it reads and whether it is driven. -/
theorem motorSettle_kept (s : State) : (motorSettle s).motor.ma = s.motor.ma ∧ (motorSettle s).motor.posMv = s.motor.posMv
    ∧ (motorSettle s).motor.pvddMv = s.motor.pvddMv ∧ (motorSettle s).motor.driven = s.motor.driven := by
  unfold motorSettle
  extract_lets st y ran z calm
  have hy : y.motor.ma = s.motor.ma ∧ y.motor.posMv = s.motor.posMv ∧ y.motor.pvddMv = s.motor.pvddMv
      ∧ y.motor.driven = s.motor.driven := ⟨rfl, rfl, rfl, rfl⟩
  have hz : z.motor = y.motor := by
    unfold z
    split <;> rfl
  clear_value z y
  rw [← hz] at hy
  split
  · exact hy
  · exact hy

theorem motorReading_kept (pos pvdd : Nat) (ma : Int) (s : State) : (motorReading pos pvdd ma s).motor.ma = ma
    ∧ (motorReading pos pvdd ma s).motor.posMv = pos ∧ (motorReading pos pvdd ma s).motor.pvddMv = pvdd
    ∧ motorMay (motorReading pos pvdd ma s) = motorMay s :=
  ⟨rfl, rfl, rfl, motorMay_congr rfl rfl rfl rfl rfl rfl rfl rfl rfl rfl⟩

theorem Elapsed.motorMay (h : Elapsed s t v) : Machine.motorMay v = Machine.motorMay s :=
  motorMay_congr h.straps h.routing h.blocks h.start h.red h.thr h.plant (congrArg _ h.motor) (congrArg _ h.motor) (congrArg _ h.motor)

theorem Elapsed.closedLoop (h : Elapsed s t v) : Machine.closedLoop v = Machine.closedLoop s := by
  unfold Machine.closedLoop
  rw [h.lvlD]

theorem motorCommand_runs {pos pvdd : Nat} {ma : Int} (hsetup : (motorSetup (lvlD s 11)).isSome = true) (hrunning : s.blocks.running = true) :
    Runs (.motorCommand t pos pvdd ma) s fun u =>
      u.motor.ma = ma ∧ u.motor.posMv = pos ∧ u.motor.pvddMv = pvdd ∧ u.motor.driven = motorMay s := by
  obtain ⟨v, hv, h⟩ := s.exists_upTo t
  rw [runs_iff]
  show Answers (execMotorCommand t pos pvdd ma s) _
  unfold execMotorCommand
  dsimp only
  rw [hv, if_neg (by simp [h.lvlD, h.blocks, Option.isSome_iff_ne_none.mp hsetup, hrunning]), answers_next]
  obtain ⟨hma, hpos, hpvdd, hmay⟩ := motorReading_kept pos pvdd ma v
  have hdriven := setDriven_driven (motorReading pos pvdd ma v)
  generalize setDriven (motorReading pos pvdd ma v) = y at hdriven ⊢
  generalize hz : mapMotor _ y = z
  have hzkept : z.motor.ma = y.motor.ma ∧ z.motor.posMv = y.motor.posMv ∧ z.motor.pvddMv = y.motor.pvddMv
      ∧ z.motor.driven = y.motor.driven := by
    rw [← hz]
    exact ⟨rfl, rfl, rfl, rfl⟩
  clear hz
  obtain ⟨hzma, hzpos, hzpvdd, hzdriven⟩ := hzkept
  obtain ⟨hsma, hspos, hspvdd, hsdriven⟩ := motorSettle_kept z
  exact ⟨hsma.trans (hzma.trans (hdriven.ma.trans hma)), hspos.trans (hzpos.trans (hdriven.posMv.trans hpos)),
    hspvdd.trans (hzpvdd.trans (hdriven.pvddMv.trans hpvdd)),
    hsdriven.trans (hzdriven.trans (hdriven.driven.trans (hmay.trans h.motorMay)))⟩

theorem backEmfWindow_runs {mv : Int} (hdriven : s.motor.driven = true) (hloop : closedLoop s = false) :
    Runs (.backEmfWindow t mv) s fun u =>
      u.motor.bemfMv = mv ∧ u.motor.bemfAt = some u.now ∧ u.motor.floatUntil = u.now + 100000
        ∧ u.now = max s.now (max t ((s.motor.bemfAt.map (· + 10 * ms1)).getD t)) := by
  obtain ⟨v, hv, h⟩ := s.exists_upTo (max t ((s.motor.bemfAt.map (· + 10 * ms1)).getD t))
  rw [runs_iff]
  show Answers (execBackEmfWindow t mv s) _
  unfold execBackEmfWindow
  dsimp only
  rw [hv, if_pos (by rw [h.motor, hdriven, h.closedLoop, hloop]; rfl), answers_next]
  exact ⟨rfl, rfl, rfl, h.now⟩

theorem motorPeakCurrent_runs {ma : Int} (hdriven : s.motor.driven = true) (hpeak : 2500 ≤ ma.natAbs) :
    Runs (.motorPeakCurrent t ma) s fun u =>
      anyActive 0xFB11#16 u = true ∧ u.motor.ma = ma ∧ u.motor.choppedSec = true := by
  obtain ⟨v, hv, h⟩ := s.exists_upTo t
  rw [runs_iff]
  show Answers (execMotorPeakCurrent t ma s) _
  unfold execMotorPeakCurrent
  dsimp only
  rw [hv, if_pos (by rw [h.motor, hdriven, decide_eq_true hpeak]; rfl), answers_next, raise_motor]
  exact ⟨anyActive_raise_self rfl .., rfl, rfl⟩

/-- A motor that a fault of its position, or a stall, holds off may not be driven. -/
theorem motorMay_false (h : s.motor.posFault = true ∨ s.motor.holdUntil.isSome = true ∨ s.motor.heldOff = true ∨ s.plant.shut = true) :
    motorMay s = false := by
  unfold motorMay
  rcases h with h | h | h | h
  · simp [h]
  · simp [Option.isSome_iff_ne_none.mp h]
  · simp [h]
  · simp [h]

theorem motPosOutOfRange_runs {a : Nat} (hbad : s.motor.posBadAt = some a) (hloop : closedLoop s = true) (hfault : s.motor.posFault = false) :
    Runs .motPosOutOfRange s fun u =>
      u.motor.posFault = true ∧ u.motor.driven = false ∧ anyActive 0xFB12#16 u = true ∧ u.now = max s.now (a + 10 * ms1) := by
  obtain ⟨v, hv, h⟩ := s.exists_upTo (a + 10 * ms1)
  rw [runs_iff]
  show Answers (execMotPosOutOfRange s) _
  unfold execMotPosOutOfRange
  rw [hbad]
  dsimp only
  rw [if_neg (by rw [hloop, hfault]; decide), hv, answers_next, raise_motor, raise_now, setDriven_now]
  have hdriven := setDriven_driven (mapMotor (fun m => { m with posFault := true }) v)
  exact ⟨hdriven.posFault, hdriven.driven.trans (motorMay_false (.inl rfl)), anyActive_raise_self rfl .., h.now⟩

theorem motorStall_runs {a : Nat} (hstall : s.motor.stallSince = some a) : Runs .motorStall s fun u =>
    u.motor.driven = false ∧ anyActive 0xFB10#16 u = true ∧ u.now = max s.now (a + (motorSet s).stallMs * ms1)
      ∧ (3 ≤ (s.motor.stalls.filter (fun x => decide (u.now ≤ x + 60 * sec1))).length → u.motor.heldOff = true)
      ∧ ((s.motor.stalls.filter (fun x => decide (u.now ≤ x + 60 * sec1))).length < 3 →
          u.motor.holdUntil = some (u.now + 2 * sec1)) := by
  obtain ⟨v, hv, h⟩ := s.exists_upTo (a + (motorSet s).stallMs * ms1)
  rw [runs_iff]
  show Answers (execMotorStall s) _
  unfold execMotorStall
  rw [hstall]
  dsimp only
  rw [hv, answers_next, setDriven_now, h.motor]
  generalize hy : raise _ _ _ v = y
  have hkept : y.motor = s.motor ∧ y.now = v.now ∧ anyActive 0xFB10#16 y = true := by
    rw [← hy]
    exact ⟨(raise_motor ..).trans h.motor, rfl, anyActive_raise_self rfl ..⟩
  clear hy
  obtain ⟨hymotor, hynow, hyactive⟩ := hkept
  generalize hstalls : v.now :: s.motor.stalls.filter (fun x => decide (v.now ≤ x + 60 * sec1)) = stalls
  have hcount : (s.motor.stalls.filter (fun x => decide (v.now ≤ x + 60 * sec1))).length + 1 = stalls.length := by rw [← hstalls]; rfl
  generalize hz : mapMotor _ y = z
  have hzkept : z.now = v.now ∧ anyActive 0xFB10#16 z = true ∧ z.motor.heldOff = (s.motor.heldOff || decide (4 ≤ stalls.length))
      ∧ z.motor.holdUntil = if 4 ≤ stalls.length then none else some (v.now + 2 * sec1) := by
    rw [← hz, ← hymotor, ← hynow]
    exact ⟨rfl, hyactive, rfl, rfl⟩
  clear hz hstalls
  obtain ⟨hznow, hzactive, hzheld, hzhold⟩ := hzkept
  have hdriven := setDriven_driven z
  rw [hznow, hdriven.driven, hdriven.heldOff, hdriven.holdUntil, anyActive_congr (setDriven_status z)]
  refine ⟨motorMay_false ?_, hzactive, h.now, fun hmany => ?_, fun hfew => ?_⟩
  · by_cases hmany : 4 ≤ stalls.length
    · exact .inr (.inr (.inl (by rw [hzheld, decide_eq_true hmany, Bool.or_true])))
    · exact .inr (.inl (by rw [hzhold, if_neg hmany]; rfl))
  · rw [hzheld, decide_eq_true (by omega), Bool.or_true]
  · rw [hzhold, if_neg (by omega)]

theorem stallHoldExpiry_runs {e : Nat} (hhold : s.motor.holdUntil = some e) : Runs .stallHoldExpiry s fun u =>
    u.motor.holdUntil = none ∧ u.motor.driven = motorMay u ∧ u.now = max s.now e := by
  obtain ⟨v, hv, h⟩ := s.exists_upTo e
  rw [runs_iff]
  show Answers (execStallHoldExpiry s) _
  unfold execStallHoldExpiry
  rw [hhold]
  dsimp only
  rw [hv, answers_next, setDriven_now]
  generalize hy : mapMotor _ v = y
  have hkept : y.motor.holdUntil = none ∧ y.now = max s.now e := by
    rw [← hy]
    exact ⟨rfl, h.now⟩
  clear hy
  have hdriven := setDriven_driven y
  refine ⟨hdriven.holdUntil.trans hkept.1, hdriven.driven.trans ?_, hkept.2⟩
  exact (motorMay_congr (straps_of_allBut (setDriven_view _ rfl)) (routing_of_allBut (setDriven_view _ rfl))
    (blocks_of_allBut (setDriven_view _ rfl)) (start_of_allBut (setDriven_view _ rfl)) (red_of_allBut (setDriven_view _ rfl))
    (thr_of_allBut (setDriven_view _ rfl)) (plant_of_allBut (setDriven_view _ rfl)) hdriven.posFault hdriven.holdUntil hdriven.heldOff).symm

/-! ### Die temperatures (R500, R503) -/

/-- The derating that a temperature of the plant die begins (R500). -/
def deratePlant (deg : Int) (s : State) : State :=
  if 135 ≤ deg && !s.plant.derate then raise 0xFC01#16 0 (temp8 deg) { s with plant := { s.plant with derate := true } } else s

theorem deratePlant_kept (deg : Int) (s : State) : (deratePlant deg s).plant.shut = s.plant.shut
    ∧ (deratePlant deg s).plant.dieTemp = s.plant.dieTemp ∧ (deratePlant deg s).spk = s.spk := by
  unfold deratePlant
  split
  · rw [raise_plant, raise_spk]
    exact ⟨rfl, rfl, rfl⟩
  · exact ⟨rfl, rfl, rfl⟩

/-- The shutdown of the plant die (R500). -/
def shutPlant (deg : Int) (s : State) : State :=
  setDriven (raise 0xFC00#16 0 (temp8 deg) { s with
    plant := { s.plant with shut := true }
    spk := { s.spk with ch := s.spk.ch.map (fun c => { c with on := false }) } })

theorem shutPlant_kept (deg : Int) (s : State) : (shutPlant deg s).plant.shut = true ∧ (shutPlant deg s).motor.driven = false
    ∧ (∀ i : Fin 2, (shutPlant deg s).spk.ch[i].on = false) ∧ anyActive 0xFC00#16 (shutPlant deg s) = true
    ∧ (shutPlant deg s).plant.dieTemp = s.plant.dieTemp := by
  unfold shutPlant
  generalize hy : raise _ _ _ _ = y
  have hplant : y.plant.shut = true ∧ y.plant.dieTemp = s.plant.dieTemp ∧ (∀ i : Fin 2, y.spk.ch[i].on = false)
      ∧ anyActive 0xFC00#16 y = true := by
    rw [← hy, raise_plant, raise_spk]
    refine ⟨rfl, rfl, fun i => ?_, anyActive_raise_self rfl ..⟩
    simp
  clear hy
  obtain ⟨hshut, htemp, hoff, hactive⟩ := hplant
  rw [setDriven_plant, setDriven_spk, anyActive_congr (setDriven_status y)]
  exact ⟨hshut, (setDriven_driven y).driven.trans (motorMay_false (.inr (.inr (.inr hshut)))), hoff, hactive, htemp⟩

/-- The end of the derating and of the shutdown (R500). -/
def coolPlant (s : State) : State :=
  let s := if s.plant.derate then clearAll 0xFC01#16 s else s
  let s := if s.plant.shut then clearAll 0xFC00#16 s else s
  setDriven { s with plant := { s.plant with derate := false, shut := false } }

theorem coolPlant_kept (s : State) : (coolPlant s).plant.derate = false ∧ (coolPlant s).plant.shut = false := by
  unfold coolPlant
  dsimp only
  rw [setDriven_plant]
  exact ⟨rfl, rfl⟩

/-- What a temperature of the plant die does on a powered device (R500). -/
def dieTemperature (deg : Int) (s : State) : State :=
  if 150 ≤ deg && !(deratePlant deg s).plant.shut then shutPlant deg (deratePlant deg s)
  else if deg < 130 then coolPlant (deratePlant deg s) else deratePlant deg s

theorem execPlantDieTemperature_eq (t : Nat) (deg : Int) (s : State) : execPlantDieTemperature t deg s =
    (let y : State := { s.upTo t with plant := { (s.upTo t).plant with dieTemp := deg } }
    if !powered y then .next y else .next (dieTemperature deg y)) := by
  unfold execPlantDieTemperature
  generalize s.upTo t = v
  extract_lets p q y _ z
  have hz : z = deratePlant deg y := rfl
  clear_value z
  subst hz
  unfold dieTemperature
  split
  · rfl
  · split
    · rfl
    · split <;> rfl

theorem exec_plantDieTemperature (hpowered : powered s = true) (hv : s.upTo t = v) (h : Elapsed s t v) :
    ∃ y : State, y.plant = { s.plant with dieTemp := deg } ∧ y.spk = s.spk
      ∧ exec (.plantDieTemperature t deg) s = .next (dieTemperature deg y) := by
  refine ⟨{ v with plant := { v.plant with dieTemp := deg } }, by rw [h.plant], h.spk, ?_⟩
  have hpowered' : powered { v with plant := { v.plant with dieTemp := deg } } = true := h.powered.trans hpowered
  show execPlantDieTemperature t deg s = _
  rw [execPlantDieTemperature_eq, hv]
  exact if_neg (by rw [hpowered']; decide)

theorem plantDieTemperature_runs (hpowered : powered s = true) :
    (150 ≤ deg → s.plant.shut = false → Runs (.plantDieTemperature t deg) s fun u =>
      u.plant.shut = true ∧ u.motor.driven = false ∧ (∀ i : Fin 2, u.spk.ch[i].on = false) ∧ anyActive 0xFC00#16 u = true
        ∧ u.plant.dieTemp = deg)
    ∧ (135 ≤ deg → deg < 150 → s.plant.derate = false → Runs (.plantDieTemperature t deg) s fun u =>
      u.plant.derate = true ∧ anyActive 0xFC01#16 u = true ∧ u.spk = s.spk)
    ∧ (deg < 130 → Runs (.plantDieTemperature t deg) s fun u => u.plant.derate = false ∧ u.plant.shut = false) := by
  obtain ⟨v, hv, h⟩ := s.exists_upTo t
  obtain ⟨y, hplant, hspk, hexec⟩ := exec_plantDieTemperature (deg := deg) hpowered hv h
  obtain ⟨hshut, htemp, hdspk⟩ := deratePlant_kept deg y
  refine ⟨fun hhot hopen => ?_, fun hwarm hless hrate => ?_, fun hcool => ?_⟩
  · rw [runs_iff, hexec, answers_next, dieTemperature, if_pos (by rw [hshut, hplant, hopen, decide_eq_true hhot]; rfl)]
    obtain ⟨hushut, hdriven, hoff, hactive, hutemp⟩ := shutPlant_kept deg (deratePlant deg y)
    exact ⟨hushut, hdriven, hoff, hactive, hutemp.trans (htemp.trans (congrArg Plant.dieTemp hplant))⟩
  · rw [runs_iff, hexec, answers_next, dieTemperature, if_neg (by simp [not_le.mpr hless]), if_neg (by omega), hdspk]
    unfold deratePlant
    rw [if_pos (by rw [hplant, hrate, decide_eq_true hwarm]; rfl), raise_plant]
    exact ⟨rfl, anyActive_raise_self rfl .., hspk⟩
  · rw [runs_iff, hexec, answers_next, dieTemperature, if_neg (by simp [not_le.mpr (show deg < 150 by omega)]), if_pos hcool]
    exact coolPlant_kept _

theorem coreDieOvertemp_runs (hpowered : powered s = true) :
    (125 < deg → anyActive 0xFC10#16 s = false → Runs (.coreDieOvertemp t deg) s fun u =>
      anyActive 0xFC10#16 u = true ∧ u.plant.coreTemp = deg)
    ∧ (deg < 120 → Runs (.coreDieOvertemp t deg) s fun u => anyActive 0xFC10#16 u = false ∧ u.plant.coreTemp = deg) := by
  obtain ⟨v, hv, h⟩ := s.exists_upTo t
  have hruns : ∀ P, Answers (execCoreDieOvertemp t deg s) P → Runs (.coreDieOvertemp t deg) s P := by
    intro P hP
    rw [runs_iff]
    exact hP
  have hactive : ∀ p, anyActive 0xFC10#16 { v with plant := p } = anyActive 0xFC10#16 s := fun p => by
    unfold anyActive
    show v.status.active.any _ = _
    rw [h.active]
  have hpowered' : ∀ p, powered { v with plant := p } = true := fun p => h.powered.trans hpowered
  refine ⟨fun hhot hquiet => hruns _ ?_, fun hcool => hruns _ ?_⟩
  · unfold execCoreDieOvertemp
    dsimp only
    rw [hv, hpowered', if_neg (by decide), hactive, hquiet, decide_eq_true hhot, if_pos (by decide), answers_next, raise_plant]
    exact ⟨anyActive_raise_self rfl .., rfl⟩
  · unfold execCoreDieOvertemp
    dsimp only
    rw [hv, hpowered', if_neg (by decide), hactive, if_neg (by simp [not_lt.mpr (show deg ≤ 125 by omega)])]
    split
    · exact ⟨anyActive_clearAll_self .., rfl⟩
    next hnot =>
      rw [decide_eq_true hcool, Bool.true_and, Bool.not_eq_true] at hnot
      exact ⟨(hactive _).trans hnot, rfl⟩

end Sys2Proof.Machine

namespace Sys2Proof.Machine.PlantDie
open Sys2Proof

/-- Settles O60: the loudspeakers are released, guarded and shut down, the motor is driven unless a fault of its own holds
it off, and the dies' temperatures derate and shut down. -/
theorem plantRuns : Obligations.PlantRuns :=
  ⟨fun _ _ _ => thermalModelRelease_runs, fun _ _ _ => speakerGuard_runs, fun _ _ _ _ => speakerOvercurrent_runs,
    fun _ _ _ _ => openLoadDetect_runs, fun _ _ _ _ _ => motorCommand_runs, fun _ _ _ => backEmfWindow_runs,
    fun _ _ _ => motorPeakCurrent_runs, fun _ _ => motPosOutOfRange_runs, fun _ _ => motorStall_runs,
    fun _ _ => stallHoldExpiry_runs, fun _ _ _ => plantDieTemperature_runs, fun _ _ _ => coreDieOvertemp_runs⟩

end Sys2Proof.Machine.PlantDie
end
